-- ==== Sys2Proof/Word.lean ====
section
/-! DEFINITION. Words and the index types of the TPN-6434: what the manual treats as bits is a
bit vector, what it numbers is a `Fin` or an inductive. -/

-- The package is checked as one text: its declarations are elaborated one after another, so that memory stays bounded.
set_option Elab.async false

namespace Sys2Proof

/-- A register word (R4, R433). -/
abbrev Word := BitVec 32

/-- One byte of a frame, a descriptor or a record. -/
abbrev Byte := BitVec 8

/-- A 24-bit register address (R433). -/
abbrev Addr := BitVec 24

/-- Positions P00 to P33 of a side (00_scope.md, Sides, directions, lanes and ports). -/
abbrev Pos := Fin 34

/-- Port groups, and the CFL ports of the same numbers (R13). -/
abbrev Port := Fin 4

/-- Logical lanes L0 to L7 of a port group. -/
abbrev LaneN := Fin 8

/-- Ring pairs 0 to 63 (R251). -/
abbrev RingN := Fin 64

/-- Fault sources 0 to 183 (R353). -/
abbrev Source := Fin 184

/-- One RC descriptor: 64 bytes, byte 0 in the low bits (R4, R262). -/
abbrev Desc := BitVec 512

/-- The two line sides (R12). -/
inductive Side where
  | A | B
  deriving DecidableEq, Repr

/-- The two direction engines; AB takes side A's receivers to side B's transmitters. -/
inductive Eng where
  | AB | BA
  deriving DecidableEq, Repr

/-- The two ports of a unit on the Orbit ring (R302). -/
inductive OrbPort where
  | U | D
  deriving DecidableEq, Repr

/-- Receiver or transmitter function of a lane-end. -/
inductive LaneFn where
  | rx | tx
  deriving DecidableEq, Repr

/-- 0 for side A, 1 for side B (R435). -/
def Side.idx : Side → Nat
  | .A => 0
  | .B => 1

/-- The opposite side. -/
def Side.other : Side → Side
  | .A => .B
  | .B => .A

/-- 0 for engine AB, 1 for engine BA (R371, R343). -/
def Eng.idx : Eng → Nat
  | .AB => 0
  | .BA => 1

/-- The engine of the other direction: the peer of the cross-engine control path. -/
def Eng.peer : Eng → Eng
  | .AB => .BA
  | .BA => .AB

/-- The side whose receivers feed the engine: its incoming segment (06_segment_retry.md). -/
def Eng.inSide : Eng → Side
  | .AB => .A
  | .BA => .B

/-- The side whose transmitters the engine drives: its outgoing segment. -/
def Eng.outSide : Eng → Side
  | .AB => .B
  | .BA => .A

/-- The engine whose incoming segment is side `s`. -/
def Side.engIn : Side → Eng
  | .A => .AB
  | .B => .BA

/-- The engine whose outgoing segment is side `s`. -/
def Side.engOut : Side → Eng
  | .A => .BA
  | .B => .AB

/-- The lane-end index i = 34 × s + p (R435). -/
def laneIdx (s : Side) (p : Nat) : Nat := 34 * s.idx + p

end Sys2Proof
end

