-- ==== Sys2Proof/Syntax.lean ====
section
/-! DEFINITION. The commands of the block: one constructor of `Instr` for each row of
spec/opcode_table.json, with what the environment decides as its operands. -/

namespace Sys2Proof

/-- A CFL flit of 256 bytes (R127): link header, 29 payload words, tag and CRC-64, each field
little-endian. -/
structure Flit where
  hdr : BitVec 64
  pay : BitVec 1856
  tag : BitVec 64
  crc : BitVec 64
  deriving DecidableEq, Repr

/-- An Orbit frame as it arrives (R310). `ctl` are the places between its SOF and its EOF (0 for DEST) at which no data
character stood (R309, R311): the code of a control character other than a priority sequence, or none for a character with a
framing error or lost to input loss. -/
structure Frame where
  dest    : Byte
  src     : Byte
  ftype   : Byte
  tag     : Byte
  hops    : Byte
  len     : Byte
  payload : List Byte
  crc     : BitVec 16
  ctl     : List (Nat × Option Byte)
  deriving DecidableEq, Repr

/-- A priority sequence as it arrives or returns (R316): the data characters before CHK, CHK, and
the characters after it. `ctl` lists, by their place after the lead, the characters that arrived as a control code or with a framing
error (none), as for a frame; `short` counts those at its end that input loss has taken. -/
structure PriSeq where
  data    : List Byte
  chk     : Byte
  flags   : Byte
  applied : Byte
  refused : Byte
  rstat   : Byte
  ctl     : List (Nat × Option Byte)
  short   : Nat
  deriving DecidableEq, Repr

/-- Every character of the sequence arrived, without framing error. -/
def PriSeq.intact (q : PriSeq) : Bool := q.ctl.isEmpty && decide (q.short = 0)

/-- What a received training frame shows on one position (R94, R103, R104). -/
structure TrainObs where
  inverted : Bool      -- the frame marker arrived inverted (R92)
  farReady : Bool      -- the partner reports its receiver ready
  precode  : Bool      -- the partner requests precoding of the lane (R91)
  link     : BitVec 64 -- the link word of R103; ignored on Ethernet
  rttNs    : Nat       -- round trip measured from the token, in ns (R104)
  deriving DecidableEq, Repr

/-- A coefficient or initial-condition request from the partner (R98). Taps are named by place:
0 to 4 for c(−3), c(−2), c(−1), c(+1), c(+2) and 5 for c(0). -/
inductive CoefReq where
  | hold
  | increment (tap : Fin 6)
  | decrement (tap : Fin 6)
  | initial (cond : Nat)
  deriving DecidableEq, Repr

/-- The coefficient status that the far transmitter reports (R99). -/
inductive CoefStat where
  | updated | atLimit
  deriving DecidableEq, Repr

/-- One update of background adaptation (R45). What drives it, the slicer error, lies in the analog world: a tap and
h1 take the gradient `g` of their block, which the step size turns into a change; the rest takes the value that the
update calls for. `Int`s beyond the range of R40 and R41 are held at the range limit. -/
inductive AdaptUpdate where
  | tap (n : Fin 32) (g : Int)
  | dfe (g : Int)
  | residual (slot : Fin 64) (v : Int)
  | ctle (v : Int)
  | vga (v : Int)
  deriving DecidableEq, Repr

/-- A histogram run that has come to its end (R58): the slot it sampled, 64 for all in turn, its decimation, and the bins
it filled. -/
structure HistRun where
  slot  : Nat
  decim : Nat
  bins  : List Word
  deriving DecidableEq, Repr

/-- The coefficient registers of R48. -/
inductive CoefReg where
  | afe
  | tap (n : Fin 32)
  | dfe
  deriving DecidableEq, Repr

/-- One CFL marker position as the receiver sees it (R118, R120). -/
structure MarkerObs where
  found    : Bool      -- a marker stands at this position
  expected : Bool      -- the position lies 1,392,832 UI after the last
  errors   : Nat       -- fixed symbols that differ, of 128
  info     : BitVec 64
  compl    : BitVec 64
  arriveNs : Nat       -- arrival at the ball within the period, in ns (R121)
  deriving DecidableEq, Repr

/-- A measurement cycle's readings (R216): for each phase the sum of the 2^16 sample codes it took. -/
structure CycleMeas where
  zero : Nat
  pos  : Nat
  neg  : Nat
  ramp : Nat
  deriving DecidableEq, Repr

/-- Trims that a slice measurement calls for, in trim steps (R217). -/
structure SliceMeas where
  offset : Int
  gain   : Int
  skew   : Int
  deriving DecidableEq, Repr

/-- One result of a foreground calibration, in the order in which they were taken (R228): of a slice, of a unit cell, or
of the replica. A transmitter result holds its trim and its error in 0.01 %. -/
inductive FgResult where
  | slice (n : Nat) (m : CycleMeas)
  | cell (n : Nat) (trim err100 : Int)
  | replica (trim err100 : Int)
  deriving DecidableEq, Repr

/-- An element that a suspect verdict can name (R220). -/
inductive CalElem where
  | slice (side : Side) (pos : Pos)
  | cell (side : Side) (pos : Pos) (n : Nat)
  | replica (side : Side) (pos : Pos)
  deriving DecidableEq, Repr

/-- What a Tx pass measures: the replica, or one unit cell (R224). -/
inductive TxElem where
  | replica
  | cell (n : Nat)
  deriving DecidableEq, Repr

/-- A PCIe memory request to BAR0 (R238). `dws` is its length in DW and `data` what a write carries;
`beAll` says that every byte enable is set. `corr` are the correctable errors that the link has had since the last
request, each by its place in the AER status (R248). -/
structure BarReq where
  write : Bool
  off   : Addr
  dws   : Nat
  beAll : Bool
  poisoned : Bool
  data  : List Word
  corr  : List (Fin 16)
  deriving DecidableEq, Repr

/-- What the engine reads from host memory in one fetch (R253, R257): bytes 0 to 15 of the index slot, and the
descriptor slots from index SQ_CONS on; slots after those listed hold zeros. -/
structure HostImg where
  index : BitVec 128
  slots : List Desc
  deriving DecidableEq, Repr

/-- SQ_PROD, bytes 0 and 1 of the index slot (R253). -/
def HostImg.prod (m : HostImg) : BitVec 16 := m.index.extractLsb' 0 16

/-- CQ_HEAD, bytes 8 and 9 of the index slot (R253). -/
def HostImg.cqHead (m : HostImg) : BitVec 16 := m.index.extractLsb' 64 16

/-- A PCIe memory request to BAR2 or BAR4 (R240): the slots in which a write enables a byte, in address order, each with
what the engine then reads from host memory; or a read of `dws` DW. -/
structure DoorReq where
  bar4     : Bool
  write    : Bool
  poisoned : Bool
  dws      : Nat
  slots    : List (RingN × HostImg)
  deriving DecidableEq, Repr

/-- What a read of configuration space names (R235): header registers, and the fields of the structures that the
function holds. -/
inductive CfgReg where
  | id | command | classRev | header
  | bar (n : Fin 6)
  | msixControl | msixTable | msixPba
  | pmCap | pmControl
  | devCap | devStatus | linkCap | linkStatus
  | aerUncorr | aerCorr | aerMask | aerSev | aerCorrMask | devControl
  | capHeader (ext : Bool) (k : Fin 16)
  | serial (hi : Bool)
  | ltr | l1Cap
  | romBar | interrupt | devCap2
  | other (dw : Fin 1024)
  deriving DecidableEq, Repr

/-- A configuration request to the manager's function (R468), the writes of `errorClear` clearing the status bits that are
1; or, with `link`, no request but a change of the link's power state between L0, L1 and L1.1 (R235, R249: the table has no
row of its own for it; PRESUMED, log entry 41). -/
inductive CfgReq where
  | read (r : CfgReg)
  | command (memEnable busMaster : Bool)
  | bar (n : Fin 6) (v : Word)
  | msixControl (enable mask : Bool)
  | errorClear (dev : BitVec 4) (uncorr corr : Word)
  | statusClear (v : BitVec 16)
  | aerMask (uncorr corr : Word)
  | aerSev (v : Word)
  | devControl (report : BitVec 4) (mrrs : Fin 8)
  | ltr (v : Word)
  | link (pm : Fin 3)
  deriving DecidableEq, Repr

/-- How a read of host memory fails (R248): no completion in time, one with Unsupported Request or Completer Abort, or a
poisoned one. -/
inductive ReadFail where
  | timeout | unsupported | aborted | poisoned
  deriving DecidableEq, Repr

/-- A failed read of host memory, and the index of the descriptor that it was made for. -/
structure ReadError where
  why : ReadFail
  idx : Option (BitVec 16)
  deriving DecidableEq, Repr

/-- What the check of a programmed image finds (R427): whether its signature verifies, and its security version. -/
structure ImageCheck where
  signature : Bool
  security  : Nat
  deriving DecidableEq, Repr

/-- The boot configuration record as read from flash (R430). -/
structure CfgRecord where
  magic   : Word
  count   : Nat
  crc     : Word
  entries : List (BitVec 64)
  deriving DecidableEq, Repr

/-- SRAMs of R426. -/
inductive Sram where
  | replay (e : Eng)
  | deferral (e : Eng)
  | partition
  | core
  | retention
  | snapshot
  | histogram
  deriving DecidableEq, Repr

/-- A row that failed its initialisation read-back (R426). -/
structure SramRow where
  sram      : Sram
  row       : Nat
  spareLeft : Bool
  deriving DecidableEq, Repr

/-- Readings of the analog loopback test (R380, R386): the symbol errors counted, and the measurement of each element, in
the order in which they were taken. -/
structure LoopResult where
  symErrors  : Nat
  results    : List FgResult
  durationUs : Nat
  deriving DecidableEq, Repr

/-- Result of a march (R382, R386): `fails` failing words, the first of them at `word`. -/
structure MarchResult where
  fails      : Nat
  word       : Nat
  background : Nat
  operation  : Nat
  durationUs : Nat
  deriving DecidableEq, Repr

/-- Result of a scan LBIST (R384, R386). -/
structure ScanResult where
  sigXor     : Word
  durationUs : Nat
  deriving DecidableEq, Repr

/-- JTAG instructions (R458). -/
inductive JtagInstr where
  | bypass | idcode | samplePreload | extest | extestPulse | extestTrain | clamp | highz
  deriving DecidableEq, Repr

/-- The event registers (R441 to R443). -/
inductive EvReg where
  | glb | orb | flt | pwr | ecl | cal | prt | bst
  | dir (e : Eng)
  | lrx (s : Side) (p : Pos)
  | ltx (s : Side) (p : Pos)
  deriving DecidableEq, Repr

/-- The commands: one for each row of the table, in the table's order. -/
inductive Instr where
  | coldReset
  | vstbyApplied
  | resetNRise (pgs : BitVec 5)
  | powerLoss
  | regulatorStageReady (straps : BitVec 4)
  | oscillatorStageReady
  | memoryStageDone (rows : List SramRow)
  | logicStageDone
  | powerupPgTimeout
  | powerupRetry
  | stageWaitExceeded
  | firmwareReady (version : Word)
  | fwTrialTimeout
  | cfgRecordApply (r : CfgRecord)
  | cfgRecordWaitExpiry
  | mresetNAssert (midFrame : Bool)
  | glbMreset (midFrame : Bool)
  | engReset (ab ba : Bool)
  | engineRelease
  | laneEndResetHold (side : Side) (pos : Pos)
  | laneEndResetRelease (side : Side) (pos : Pos)
  | idleEntry
  | idleExit
  | targetWrite (target : BitVec 2)
  | entryDwellExpiry
  | entryStepDone
  | entryRailsDone
  | linkWake (groups : BitVec 4)
  | laneWake (side : Side) (pos : Pos) (comet : Bool)
  | wakeNLow
  | pcieWake
  | tempWake
  | orbitFrameWake
  | lpwrFlit (e : Eng) (g : Port) (f : Flit)
  | lpAgreeTimeout (g : Port)
  | lpQuiet (g : Port)
  | lpWakeTimeout (g : Port)
  | laneEndActivate (fn : LaneFn) (side : Side) (pos : Pos)
  | laneEndActive (fn : LaneFn) (side : Side) (pos : Pos)
  | dvfsRequest (point : BitVec 2)
  | vreadySample (high : Bool)
  | dvfsClockRaise
  | vidTimeout
  | losAssert (side : Side) (pos : Pos) (mvpp us : Nat)
  | losClear (side : Side) (pos : Pos) (mvpp us : Nat)
  | cometDetect (side : Side) (pos : Pos)
  | cdrLock (side : Side) (pos : Pos) (ppm100 : Int)
  | cdrUnlock (side : Side) (pos : Pos) (ppm100 : Int)
  | adaptUpdate (side : Side) (pos : Pos) (u : AdaptUpdate)
  | coefWrite (side : Side) (pos : Pos) (r : CoefReg) (v : Word)
  | detModeSwitch (side : Side) (pos : Pos)
  | starveWindowEnd (side : Side) (pos : Pos) (minCount transitions : Nat)
  | rxFifoSlip (side : Side) (pos : Pos)
  | histogramRunStart (side : Side) (pos : Pos)
  | histogramRunDone (side : Side) (pos : Pos) (r : HistRun)
  | counterLowRead (addr : Addr)
  | shadowCompareDone (side : Side) (pos : Pos) (sumEighths : Int) (over3 : Nat)
  | swapWindow (side : Side) (pos : Pos) (phase : Fin 64) (syms : List (Fin 4))
  | sliceSettled (side : Side) (pos : Pos)
  | commit (side : Side) (pos : Pos)
  | commitApply (side : Side) (pos : Pos)
  | cellReplace (side : Side) (pos : Pos)
  | rotatorLimit (side : Side) (pos : Pos) (negative : Bool)
  | txFifoSlip (side : Side) (pos : Pos)
  | pllHoldoverEntry (e : Eng)
  | timingFailover (e : Eng)
  | pllLockDone (e : Eng)
  | timingRevert (e : Eng) (entry : Fin 8)
  | timingListWrite (e : Eng) (half : Fin 2) (v : Word)
  | timingModeWrite (e : Eng) (reference : Bool)
  | refclkLoss
  | refclkReturn
  | freqRange (e : Eng) (g : Port)
  | portGroupEnable (g : Port)
  | portGroupDisable (g : Port)
  | pgcfgWrite (g : Port) (v : Word)
  | rplcfgWrite (e : Eng) (v : Word)
  | lmapWrite (g : Port) (side : Side) (v : Word)
  | anPage (g : Port) (k : LaneN) (side : Side) (page : BitVec 48) (base last : Bool)
  | anBreakLinkExpiry (g : Port) (k : LaneN) (side : Side)
  | trainingFrame (g : Port) (k : LaneN) (side : Side) (pos : Pos) (o : TrainObs)
  | widthWaitExpiry (g : Port) (side : Side)
  | coefRequest (side : Side) (pos : Pos) (r : CoefReq)
  | coefStatus (side : Side) (pos : Pos) (st : CoefStat) (bins : List Word)
  | eqTimeout (g : Port) (k : LaneN) (side : Side)
  | alignTimeout (g : Port) (side : Side)
  | backoffExpiry (g : Port) (k : LaneN) (side : Side)
  | fecLockTimeout (g : Port) (k : LaneN) (side : Side)
  | segmentRestart (g : Port) (a b : Bool)
  | segmentLosTimeout (g : Port) (k : LaneN) (side : Side)
  | ethLaneLossTimeout (g : Port) (k : LaneN) (side : Side)
  | markerLossTimeout (g : Port) (k : LaneN) (side : Side)
  | fillToDataSwitch (g : Port) (k : LaneN) (side : Side)
  | laneTrainingDone (side : Side) (pos : Pos)
  | laneTrainingTimeout (side : Side) (pos : Pos)
  | shadowCopyStart (side : Side) (pos : Pos)
  | markerCheck (side : Side) (pos : Pos) (m : MarkerObs)
  | codewordReceived (e : Eng) (g : Port) (k : LaneN) (errors marked : List Nat) (msg : BitVec 5140)
  | flitReceived (e : Eng) (g : Port) (f : Flit) (correctable : Bool) (arrivePs : Nat)
  | nakTimerExpiry (e : Eng) (g : Port)
  | pureSackDue (e : Eng) (g : Port)
  | crossEngineSack (e : Eng) (g : Port)
  | crossEngineSnak (e : Eng) (g : Port)
  | flitSlot (e : Eng) (g : Port) (leavePs : Nat) (parityError : Bool)
  | lanemapPropose (g : Port) (side : Side)
  | lanemapAccept (g : Port) (side : Side)
  | lanemapRefuse (g : Port) (side : Side)
  | lanemapNotice (g : Port) (side : Side)
  | proposeResend (g : Port) (side : Side)
  | mapSwitchTx (g : Port) (side : Side)
  | mapChangeTimeout (g : Port)
  | mapChangeTimeoutTg (g : Port)
  | escalationRetry (g : Port)
  | partitionEntryWrite (i : Fin 4096) (v : Word)
  | drainForceExpiry (e : Eng) (g : Port)
  | calCycleStart (side : Side) (pos : Pos)
  | calCycleDone (side : Side) (pos : Pos) (m : CycleMeas)
  | guardClr
  | suspectVerdict (el : CalElem)
  | holdLimit (side : Side) (pos : Pos)
  | refvCheck (inWindow : Bool)
  | refvResume
  | txPassStart (side : Side) (pos : Pos)
  | cellLend (side : Side) (pos : Pos)
  | cellReturn (side : Side) (pos : Pos) (trim err100 : Int)
  | tempReading (n : Fin 9) (t : BitVec 16)
  | tempDwellExpiry (n : Fin 8)
  | foregroundCalDone (fn : LaneFn) (side : Side) (pos : Pos) (results : List FgResult)
  | bar0Request (r : BarReq)
  | doorbell (r : DoorReq)
  | ringRecheck (q : RingN) (img : HostImg)
  | cqHeadPoll (q : RingN) (cqHead : BitVec 16)
  | hostReadError (q : RingN) (err : ReadError)
  | descriptorComplete (q : RingN) (idx : BitVec 16)
  | coalesceExpiry (q : RingN)
  | ringEnable (q : RingN)
  | ringDisable (q : RingN)
  | ringEngineResetTimeout
  | evgrpEnable (n : Fin 13) (vector : BitVec 6)
  | eventOnset (r : EvReg) (bit : Fin 24)
  | flr
  | pcieHotReset (surprise : Bool)
  | perstNAssert
  | d3hotEntry
  | d3hotExit
  | nop (q : RingN) (idx : BitVec 16)
  | regRead (q : RingN) (idx : BitVec 16)
  | regWrite (q : RingN) (idx : BitVec 16)
  | regRmw (q : RingN) (idx : BitVec 16)
  | bulkWrite (q : RingN) (idx : BitVec 16)
  | bulkRead (q : RingN) (idx : BitVec 16)
  | orbitBcast (q : RingN) (idx : BitVec 16)
  | eclipse (q : RingN) (idx : BitVec 16)
  | tstreamStart (q : RingN) (idx : BitVec 16)
  | tstreamStop (q : RingN) (idx : BitVec 16)
  | calSweep (q : RingN) (idx : BitVec 16)
  | calTxpass (q : RingN) (idx : BitVec 16)
  | calFull (q : RingN) (idx : BitVec 16)
  | bistRun (q : RingN) (idx : BitVec 16)
  | laneSwapSwap (q : RingN) (idx : BitVec 16)
  | laneSwapRetrain (q : RingN) (idx : BitVec 16)
  | laneSwapRestore (q : RingN) (idx : BitVec 16)
  | quench (q : RingN) (idx : BitVec 16)
  | unquench (q : RingN) (idx : BitVec 16)
  | rquench (q : RingN) (idx : BitVec 16)
  | runquench (q : RingN) (idx : BitVec 16)
  | keyLoad (q : RingN) (idx : BitVec 16)
  | fwLoadWrite (q : RingN) (idx : BitVec 16) (image : List Byte)
  | fwLoadActivate (q : RingN) (idx : BitVec 16)
  | faultClearSource (q : RingN) (idx : BitVec 16)
  | faultClearRecord (q : RingN) (idx : BitVec 16)
  | faultClearSafe (q : RingN) (idx : BitVec 16)
  | fence (q : RingN) (idx : BitVec 16)
  | regFrame (p : OrbPort) (f : Frame)
  | bcastFrame (p : OrbPort) (f : Frame)
  | opFrame (p : OrbPort) (f : Frame)
  | imageDataFrame (p : OrbPort) (f : Frame)
  | fwDataResend
  | answerFrame (p : OrbPort) (f : Frame)
  | eventFrame (p : OrbPort) (f : Frame)
  | telemFrame (p : OrbPort) (f : Frame)
  | telemHalfTimeout (src : Byte) (stream : Fin 16)
  | workerFrameSend
  | enumFrame (p : OrbPort) (f : Frame)
  | enumAnsFrame (p : OrbPort) (f : Frame)
  | assignFrame (p : OrbPort) (f : Frame)
  | assignAckFrame (p : OrbPort) (f : Frame)
  | claimTimeout
  | mapFrame (p : OrbPort) (f : Frame)
  | mapReturn (p : OrbPort) (f : Frame)
  | probeFrame (p : OrbPort) (f : Frame)
  | ctrlUnwrap (p : OrbPort) (f : Frame)
  | ctrlSetArm (p : OrbPort) (f : Frame)
  | ctrlMreset (p : OrbPort) (f : Frame) (midFrame : Bool)
  | ctrlSetDelay (p : OrbPort) (f : Frame)
  | quenchSeqReceived (p : OrbPort) (sq : PriSeq)
  | eclipseSeqReceived (p : OrbPort) (sq : PriSeq)
  | wakeSeqReceived (p : OrbPort) (sq : PriSeq)
  | beaconReceived (p : OrbPort) (sq : PriSeq)
  | beaconPeriod
  | beaconTimeout (reverse : Bool)
  | markReceived (p : OrbPort) (tenthsNs : Nat)
  | abortReceived (p : OrbPort) (dest : Byte)
  | prioritySeqReturn (p : OrbPort) (sq : PriSeq)
  | prioritySeqTimeout
  | responseTimeout (target tag : Byte)
  | portLoss (p : OrbPort)
  | portRestored (p : OrbPort)
  | healRequest (write restored : Bool)
  | healResume
  | orbEnum
  | orbEnumRetry
  | orbRemeasure
  | orbRelease (a : Byte)
  | orbWakeSend (target kind : Byte)
  | capture
  | bankReady
  | eclipseCompletion
  | telemSample (n : Fin 16)
  | faultOnset (src : Source) (place : Nat)
  | faultEventExpire (src : Source)
  | wiringFault (src : Source)
  | wiringRecovery (src : Source) (faulty : Bool)
  | graceExpiry (src : Source)
  | srccfgWrite (src : Source) (v : Word)
  | collSelfFault (word : Option Source)
  | faultnPulseEnd
  | faultnReadback
  | sliceStart
  | loopbackDone (r : LoopResult)
  | mbistRotateDone
  | mbistDone (r : MarchResult)
  | lbistDone (r : ScanResult)
  | bistBudgetExpiry
  | lockClose
  | rwlWrite (addr : Addr) (v : Word)
  | jtagInstruction (i : JtagInstr)
  | registerWrite (addr : Addr) (v : Word)
  | frameReturn (p : OrbPort) (f : Frame)
  | configRequest (r : CfgReq)
  | ethernetMarkerLock (g : Port) (k : LaneN) (side : Side) (pos : Pos) (locked codeword : Bool) (skewNs : Nat)
  | txMeasurementDone (side : Side) (pos : Pos) (el : TxElem) (trim err100 : Int)
  | cometEnd (side : Side) (pos : Pos)
  | voltageReady
  | clockSwitchDone
  | fwWriteDone (check : ImageCheck)
  deriving DecidableEq, Repr

end Sys2Proof
end

