-- ==== Sys2Proof/Machine/Bits.lean ====
section
/-! DEFINITION. Sparse canonical stores, bit fields and the signed and clamped arithmetic that the
registers use. -/

namespace Sys2Proof.Machine

/-- Puts a number into a rising list, where it is not there yet. -/
def insertUp (n : Nat) : List Nat → List Nat
  | [] => [n]
  | m :: l => if n < m then n :: m :: l else if n = m then m :: l else m :: insertUp n l

/-- A store by numeric key in canonical form: keys strictly rising, and no entry equal to what an
unlisted key reads as. -/
abbrev Sparse (α : Type) := List (Nat × α)

/-- What the store holds at key `k`; an unlisted key reads as `d`. -/
def Sparse.get {α : Type} (d : α) : Sparse α → Nat → α
  | [], _ => d
  | (k', v) :: m, k => if k' = k then v else Sparse.get d m k

/-- The store without any entry at `k`. -/
def Sparse.del {α : Type} : Sparse α → Nat → Sparse α
  | [], _ => []
  | (k', v) :: m, k => if k' = k then Sparse.del m k else (k', v) :: Sparse.del m k

/-- The store with `v` at `k`, its keys kept rising. -/
def Sparse.ins {α : Type} : Sparse α → Nat → α → Sparse α
  | [], k, v => [(k, v)]
  | (k', v') :: m, k, v =>
    if k < k' then (k, v) :: (k', v') :: m
    else if k = k' then (k, v) :: m
    else (k', v') :: Sparse.ins m k v

/-- Writes `v` at `k`: writing what an unlisted key reads as removes the entry. -/
def Sparse.set {α : Type} [DecidableEq α] (d : α) (m : Sparse α) (k : Nat) (v : α) : Sparse α :=
  if v = d then Sparse.del m k else Sparse.ins m k v

/-- Keys of the store that are strictly above `lo` and rise. -/
def Sparse.risesFrom {α : Type} : Nat → Sparse α → Bool
  | _, [] => true
  | lo, (k, _) :: m => decide (lo < k) && Sparse.risesFrom k m

/-- Keys strictly rising. -/
def Sparse.rises {α : Type} : Sparse α → Bool
  | [] => true
  | (k, _) :: m => Sparse.risesFrom k m

/-- The canonical form, for a store whose unlisted key `k` reads as `d k`. -/
def Sparse.wf {α : Type} [DecidableEq α] (d : Nat → α) (m : Sparse α) : Bool :=
  Sparse.rises m && m.all (fun e => decide (e.2 ≠ d e.1))

/-- Bits [lo + len − 1 : lo] of a number. -/
def bitsOf (w lo len : Nat) : Nat := (w >>> lo) % 2 ^ len

/-- Bit `b` of a number. -/
def bitOf (w b : Nat) : Bool := w.testBit b

/-- `w` with its bits [lo + len − 1 : lo] replaced by the low bits of `v`. -/
def putBits (w lo len v : Nat) : Nat :=
  (w / 2 ^ (lo + len)) * 2 ^ (lo + len) + (v % 2 ^ len) * 2 ^ lo + w % 2 ^ lo

/-- The two's complement value of an n-bit number. -/
def signedOf (n w : Nat) : Int :=
  if w % 2 ^ n < 2 ^ (n - 1) then (w % 2 ^ n : Int) else (w % 2 ^ n : Int) - 2 ^ n

/-- The n-bit two's complement word of an integer. -/
def ofSigned (n : Nat) (v : Int) : Nat := (v % (2 ^ n : Int)).toNat

/-- `v` held within [lo, hi]. -/
def clampInt (lo hi v : Int) : Int := if v < lo then lo else if hi < v then hi else v

/-- `n + 1`, saturating at `m`. -/
def satSucc (m n : Nat) : Nat := if n < m then n + 1 else m

/-- 0 is treated as 1: a rule of many setup fields. -/
def orOne (n : Nat) : Nat := if n = 0 then 1 else n

/-- 1 for true. -/
def boolNat (b : Bool) : Nat := if b then 1 else 0

/-- a − b modulo 65,536, for the free-running indices of R252. -/
def sub16 (a b : Nat) : Nat := (a + 65536 - b % 65536) % 65536

/-- a − b modulo 4,096, for the sequence numbers of the segment retry. -/
def sub12 (a b : Nat) : Nat := (a + 4096 - b % 4096) % 4096

/-- The bytes of a number, least significant first. -/
def bytesOf : Nat → Nat → List Byte
  | 0, _ => []
  | n + 1, w => BitVec.ofNat 8 w :: bytesOf n (w / 256)

/-- The number that little-endian bytes spell. -/
def ofBytes : List Byte → Nat
  | [] => 0
  | b :: bs => b.toNat + 256 * ofBytes bs

/-- The `n` words of a number, least significant first. -/
def wordsOf : Nat → Nat → List Word
  | 0, _ => []
  | n + 1, w => BitVec.ofNat 32 w :: wordsOf n (w / 2 ^ 32)

/-- The number that little-endian words spell. -/
def ofWords : List Word → Nat
  | [] => 0
  | w :: ws => w.toNat + 2 ^ 32 * ofWords ws

/-- Element `n` of a list with its value replaced. -/
def setNth {α : Type} : List α → Nat → α → List α
  | [], _, _ => []
  | _ :: xs, 0, v => v :: xs
  | x :: xs, n + 1, v => x :: setNth xs n v

/-- The list without the first element that satisfies `p`. -/
def dropFirst {α : Type} (p : α → Bool) : List α → List α
  | [] => []
  | x :: xs => if p x then xs else x :: dropFirst p xs

/-- The number whose bits are given, the lowest first. -/
def ofBits (l : List Nat) : Nat := l.foldr (fun b a => b + 2 * a) 0

/-- The number of set bits among the low `n` bits. -/
def popCount : Nat → Nat → Nat
  | 0, _ => 0
  | n + 1, w => w % 2 + popCount n (w / 2)

/-- The indices below `n` whose bit is set, rising. -/
def setBits (n w : Nat) : List Nat := (List.range n).filter (fun b => w.testBit b)

end Sys2Proof.Machine
end

