-- ==== Sys2Proof/Machine/Codes.lean ====
section
/-! DEFINITION. The codes of the manual: the CRC-64 of flits (R129), the CRC-16 of Orbit frames (R310), the
CRC-8 of priority sequences (R316), the CRC-32 of the boot configuration record (R430), and AES-256 with the
GMAC of NIST SP 800-38D for integrity tags and key check values (R134, R135). -/

namespace Sys2Proof.Machine

/-- One bit of a reflected CRC. -/
def crcBitLow (poly c : Nat) : Nat := if c % 2 = 1 then (c / 2) ^^^ poly else c / 2

/-- One byte of a reflected CRC, least significant bit first. -/
def crcByteLow (poly c : Nat) (b : Byte) : Nat :=
  let s := crcBitLow poly
  s (s (s (s (s (s (s (s (c ^^^ b.toNat))))))))

/-- CRC-64 of a flit's bytes 0 to 247 (R129). -/
def crc64 (bs : List Byte) : Nat :=
  (bs.foldl (crcByteLow 0xC96C5795D7870F42) (2 ^ 64 - 1)) ^^^ (2 ^ 64 - 1)

/-- CRC-32 of IEEE 802.3 (R430). -/
def crc32 (bs : List Byte) : Nat :=
  (bs.foldl (crcByteLow 0xEDB88320) (2 ^ 32 - 1)) ^^^ (2 ^ 32 - 1)

/-- One bit of an n-bit CRC taken most significant bit first. -/
def crcBitHigh (n poly c : Nat) : Nat :=
  if 2 ^ (n - 1) ≤ c then (2 * c % 2 ^ n) ^^^ poly else 2 * c

/-- One byte of an n-bit CRC taken most significant bit first. -/
def crcByteHigh (n poly c : Nat) (b : Byte) : Nat :=
  let s := crcBitHigh n poly
  s (s (s (s (s (s (s (s (c ^^^ (b.toNat * 2 ^ (n - 8))))))))))

/-- CRC-16 of an Orbit frame's characters (R310). -/
def crc16 (bs : List Byte) : Nat := bs.foldl (crcByteHigh 16 0x1021) 0xFFFF

/-- CRC-8 of a priority sequence's data characters (R316). -/
def crc8 (bs : List Byte) : Nat := bs.foldl (crcByteHigh 8 0x07) 0

/-- Doubling in GF(2^10) with x^10 + x^3 + 1, the field of the RS(544,514) code of IEEE 802.3 (PRESUMED, log entry 7). -/
def gfDouble (a : Nat) : Nat := if 512 ≤ a then (2 * a) ^^^ 0x409 else 2 * a

/-- Multiplication in GF(2^10). -/
def gfMul (a b : Nat) : Nat :=
  ((List.range 10).foldl (fun acc i => (if b.testBit i then acc.1 ^^^ acc.2 else acc.1, gfDouble acc.2)) (0, a)).1

/-- The generator polynomial of RS(544,514), the product of x + α^i for i from 0 to 29 (PRESUMED, log entry 7):
coefficients from the constant term on, the leading 1 last. -/
def rsGen : List Nat :=
  ((List.range 30).foldl (fun acc _ =>
    (List.zipWith (· ^^^ ·) (0 :: acc.1) (acc.1.map (gfMul acc.2) ++ [0]), gfDouble acc.2)) ([1], 1)).1

/-- The generator without its leading term, times 2^b, as one number of ten bits a coefficient. -/
def rsRow (b : Nat) : Nat := (rsGen.take 30).foldr (fun c a => gfMul c (2 ^ b) + 2 ^ 10 * a) 0

/-- One message symbol of the encoder: the remainder so far, of 30 coefficients, is multiplied by x and reduced. -/
def rsStep (rows : List Nat) (p m : Nat) : Nat :=
  let f := (p >>> 290) ^^^ m
  (List.zipWith (fun b r => if f.testBit b then r else 0) (List.range 10) rows).foldl (· ^^^ ·) (p * 2 ^ 10 % 2 ^ 300)

/-- A codeword of RS(544,514): the 514 symbols of a message, symbol 0 in its low bits, then the 30 parity symbols, the
highest power first (R116). -/
def rsCodeword (msg : Nat) : List Nat :=
  let m := (List.range 514).map (fun n => bitsOf msg (10 * n) 10)
  let p := m.foldl (rsStep ((List.range 10).map rsRow)) 0
  m ++ (List.range 30).map (fun j => bitsOf p (10 * (29 - j)) 10)

/-- The first n bits of the PRBS13 sequence of x^13 + x^12 + x^2 + x + 1 from a register of all ones, whose ones come first.
The exponents are read as delays: a new bit is the sum of those 13, 12, 2 and 1 before it (R118; DESIGN CHOICE, log entry 38). -/
def prbs13 : Nat → List Nat → List Nat
  | 0, _ => []
  | n + 1, r => r.headD 0 :: prbs13 n (r.drop 1 ++ [(r.getD 0 0 + r.getD 1 0 + r.getD 11 0 + r.getD 12 0) % 2])

/-- Gray coding of a bit pair to a PAM4 level, 0 the lowest (R116). -/
def grayLevel (b : Nat) : Nat := if b = 2 then 3 else if b = 3 then 2 else b

/-- The PAM4 levels of n bit pairs, the low pair first (R116). -/
def pam4 (n w : Nat) : List Nat := (List.range n).map (fun k => grayLevel (bitsOf w (2 * k) 2))

/-- The 192 UI of a CFL alignment marker (R118): the fixed symbols, the info word, and its complement. -/
def markerLevels (info : Nat) : List Nat :=
  pam4 128 (ofBits (prbs13 256 (List.replicate 13 1))) ++ pam4 32 info ++ pam4 32 (2 ^ 64 - 1 - info % 2 ^ 64)

/-- The AES substitution table of FIPS 197, entry n in bits 8n + 7 to 8n. -/
def sboxTable : Nat :=
  0x16bb54b00f2d99416842e6bf0d89a18cdf2855cee9871e9b948ed9691198f8e19e1dc186b95735610ef6034866b53e708a8bbd4b1f74dde8c6b4a61c2e2578ba08ae7a65eaf4566ca94ed58d6d37c8e779e4959162acd3c25c2406490a3a32e0db0b5ede14b8ee4688902a22dc4f816073195d643d7ea7c41744975fec130ccdd2f3ff1021dab6bcf5389d928f40a351a89f3c507f02f94585334d43fbaaefd0cf584c4a39becb6a5bb1fc20ed00d153842fe329b3d63b52a05a6e1b1a2c830975b227ebe28012079a059618c323c7041531d871f1e5a534ccf73f362693fdb7c072a49cafa2d4adf04759fa7dc982ca76abd7fe2b670130c56f6bf27b777c63

def sbox (b : Nat) : Nat := (sboxTable >>> (8 * b)) % 256

/-- Doubling in the field of AES. -/
def aesDouble (b : Nat) : Nat := if 128 ≤ b then ((2 * b) ^^^ 0x11B) % 256 else 2 * b

/-- Bytewise exclusive or. -/
def xorBytes (a b : List Nat) : List Nat := (a.zip b).map (fun x => x.1 ^^^ x.2)

/-- One word of the AES-256 key schedule; `ws` holds the words so far, newest first. -/
def aesWord (ws : List (List Nat)) : List Nat :=
  let n := ws.length
  let t := ws.headD []
  let t' :=
    if n % 8 = 0 then
      match (t.drop 1 ++ t.take 1).map sbox with
      | a :: r => (a ^^^ 2 ^ (n / 8 - 1)) :: r
      | [] => []
    else if n % 8 = 4 then t.map sbox else t
  xorBytes (ws.getD 7 []) t'

/-- The 60 words of the AES-256 key schedule, in order. -/
def aesSchedule (key : List Nat) : List (List Nat) :=
  let first := (List.range 8).map (fun i => (key.drop (4 * i)).take 4)
  ((List.range 52).foldl (fun ws _ => aesWord ws :: ws) first.reverse).reverse

/-- ShiftRows: byte r of column c comes from column c + r. -/
def aesShift (st : List Nat) : List Nat :=
  (List.range 16).map (fun i => st.getD ((i + 4 * (i % 4)) % 16) 0)

/-- MixColumns on one column. -/
def aesMix (c : List Nat) : List Nat :=
  let all := c.foldl (· ^^^ ·) 0
  (List.range 4).map (fun i =>
    c.getD i 0 ^^^ all ^^^ aesDouble (c.getD i 0 ^^^ c.getD ((i + 1) % 4) 0))

/-- Round key r of the schedule. -/
def aesKey (ks : List (List Nat)) (r : Nat) : List Nat := ((ks.drop (4 * r)).take 4).flatten

/-- AES-256 encryption of one 16-byte block (FIPS 197). -/
def aes256 (key block : List Nat) : List Nat :=
  let ks := aesSchedule key
  let st := (List.range 13).foldl (fun st r =>
    let t := aesShift (st.map sbox)
    xorBytes ((List.range 4).flatMap (fun c => aesMix ((t.drop (4 * c)).take 4))) (aesKey ks (r + 1)))
    (xorBytes block (aesKey ks 0))
  xorBytes (aesShift (st.map sbox)) (aesKey ks 14)

/-- A number as n big-endian bytes. -/
def beBytes (n w : Nat) : List Nat := (List.range n).map (fun i => (w >>> (8 * (n - 1 - i))) % 256)

/-- The number that big-endian bytes spell. -/
def ofBeBytes (bs : List Nat) : Nat := bs.foldl (fun a b => 256 * a + b) 0

/-- Multiplication in the field of GHASH, bit 0 the most significant (SP 800-38D, 6.3). -/
def ghashMul (x y : Nat) : Nat :=
  ((List.range 128).foldl (fun zv i =>
    ((if x.testBit (127 - i) then zv.1 ^^^ zv.2 else zv.1),
     (if zv.2 % 2 = 1 then (zv.2 / 2) ^^^ (0xE1 * 2 ^ 120) else zv.2 / 2))) (0, y)).1

/-- AES-256-GMAC: the 16-byte tag of additional data that is a whole number of blocks (SP 800-38D). -/
def gmac (key iv : List Nat) (blocks : List Nat) : List Nat :=
  let h := ofBeBytes (aes256 key (List.replicate 16 0))
  let acc := blocks.foldl (fun a b => ghashMul (a ^^^ b) h) 0
  let acc := ghashMul (acc ^^^ (128 * blocks.length * 2 ^ 64)) h
  beBytes 16 (acc ^^^ ofBeBytes (aes256 key (iv ++ [0, 0, 0, 1])))

end Sys2Proof.Machine
end

