-- ==== Sys2Proof/Machine/Flits.lean ====
section
/-! DEFINITION. CFL flits (R127 to R132, R137, R149, R150, R176): their fields, the flits the Thepin builds,
and the walk of transaction headers. -/

namespace Sys2Proof.Machine

/-- The 256 bytes of a flit as one number, the first byte lowest. -/
def flitBits (f : Flit) : Nat :=
  f.hdr.toNat + 2 ^ 64 * f.pay.toNat + 2 ^ 1920 * f.tag.toNat + 2 ^ 1984 * f.crc.toNat

/-- The messages of the codeword pair that five flits fill (R117): a header with the engine's own CW_INDEX, and half of their
10,240 bits each. -/
def pairMessages (index : Nat) (l : List Flit) : Nat × Nat :=
  let bits := l.foldr (fun f a => flitBits f + 2 ^ 2048 * a) 0
  (index + 2 ^ 20 * (bits % 2 ^ 5120), index + 1 + 2 ^ 20 * (bits / 2 ^ 5120 % 2 ^ 5120))

/-- A field of the link header (R127). -/
def hdrField (f : Flit) (lo len : Nat) : Nat := bitsOf f.hdr.toNat lo len

/-- The flit with a field of its link header replaced. -/
def setHdr (f : Flit) (lo len v : Nat) : Flit :=
  { f with hdr := BitVec.ofNat 64 (putBits f.hdr.toNat lo len v) }

def flitSeq (f : Flit) : Nat := hdrField f 0 12
def flitSack (f : Flit) : Nat := hdrField f 24 12
def flitType (f : Flit) : Nat := hdrField f 36 4
def flitFto (f : Flit) : Nat := hdrField f 52 5
def flitSackV (f : Flit) : Bool := decide (hdrField f 57 1 = 1)
def flitTagV (f : Flit) : Bool := decide (hdrField f 58 1 = 1)
def flitKph (f : Flit) : Nat := hdrField f 59 1

/-- Types that carry a valid SEQ (R128): DATA, CTRL and POISON. -/
def sequenced (f : Flit) : Bool := decide (flitType f = 1 ∨ flitType f = 3 ∨ flitType f = 4)

/-- Types of R128 that are reserved. -/
def reservedType (f : Flit) : Bool := decide (flitType f = 0 ∨ 11 ≤ flitType f)

/-- Payload word k, 0 to 28. -/
def payWord (f : Flit) (k : Nat) : Nat := bitsOf f.pay.toNat (64 * k) 64

/-- Bytes 0 to 239. -/
def flitBody (f : Flit) : List Byte := bytesOf 8 f.hdr.toNat ++ bytesOf 232 f.pay.toNat

/-- The CRC-64 of the flit as it stands (R129). -/
def flitCrc (f : Flit) : Nat := crc64 (flitBody f ++ bytesOf 8 f.tag.toNat)

/-- Bytes 248 to 255 hold the flit's CRC-64. -/
def crcMatches (f : Flit) : Bool := decide (f.crc.toNat = flitCrc f)

/-- The flit with its CRC computed (R132, step 4). -/
def withCrc (f : Flit) : Flit := { f with crc := BitVec.ofNat 64 (flitCrc f) }

/-- The flit with a stomped CRC (R131). -/
def stomped (f : Flit) : Flit := { f with crc := BitVec.ofNat 64 (flitCrc f ^^^ (2 ^ 64 - 1)) }

/-- A flit of a type with one payload word and nothing else. -/
def plainFlit (ty word : Nat) : Flit :=
  { hdr := BitVec.ofNat 64 (ty * 2 ^ 36), pay := BitVec.ofNat 1856 word, tag := 0, crc := 0 }

/-- The SLACK flit (R140). -/
def slackFlit : Flit := withCrc (plainFlit 2 0)

/-- SACK and SACK_V of a flit (R132, step 1). -/
def withSack (f : Flit) (ack : Option Nat) : Flit :=
  match ack with
  | some a => setHdr (setHdr f 24 12 a) 57 1 1
  | none => setHdr (setHdr f 24 12 0) 57 1 0

/-- Payload word of a SNAK (R149). -/
def snakWord (first count : Nat) (goBack : Bool) : Nat := first + 2 ^ 12 * count + 2 ^ 24 * boolNat goBack

/-- Payload word of an ABANDON flit (R150). -/
def abandonWord (first reason origin : Nat) : Nat := first + 2 ^ 12 * reason + 2 ^ 16 * origin

/-- SEQ a is after SEQ b (R146). -/
def seqAfter (a b : Nat) : Bool := decide (1 ≤ sub12 a b ∧ sub12 a b ≤ 2047)

/-- SEQ a is b or after b. -/
def seqFrom (a b : Nat) : Bool := decide (sub12 a b ≤ 2047)

/-- A header word's fields (R137). -/
def hdrPid (w : Nat) : Nat := bitsOf w 0 16
def hdrTc (w : Nat) : Nat := bitsOf w 16 3
def hdrLen (w : Nat) : Nat := bitsOf w 20 8

/-- The header walk (R138): the words it visits from word k on, at most `fuel` of them; it ends at a padding
marker, which it visits, or past word 28. -/
def walkFrom (f : Flit) : Nat → Nat → List Nat
  | 0, _ => []
  | fuel + 1, k =>
    if 29 ≤ k then []
    else if hdrLen (payWord f k) = 0 then [k]
    else k :: walkFrom f fuel (k + hdrLen (payWord f k))

/-- The words that the header walk of a flit visits, from its FTO; none with FTO 29, 30 or 31. -/
def headerWalk (f : Flit) : List Nat := walkFrom f 29 (flitFto f)

/-- Payload with every word outside `keep` zero. -/
def keepWords (f : Flit) (keep : List Nat) : Nat :=
  ((List.range 29).filter (fun k => decide (k ∈ keep))).foldl
    (fun a k => a + payWord f k * 2 ^ (64 * k)) 0

/-- The POISON rewrite (R196), before its tag and CRC. -/
def poisonOf (f : Flit) : Flit :=
  { setHdr f 36 4 4 with pay := BitVec.ofNat 1856 (keepWords f (headerWalk f)) }

/-- The data that a tag covers (R134): bytes 0 to 239 with SACK, SACK_V, TAG_V and KPH zero, as fifteen
big-endian blocks. -/
def tagBlocks (f : Flit) : List Nat :=
  let g := setHdr (setHdr (setHdr (setHdr f 24 12 0) 57 1 0) 58 1 0) 59 1 0
  let bs := (flitBody g).map (fun b => b.toNat)
  (List.range 15).map (fun i => ofBeBytes ((bs.drop (16 * i)).take 16))

/-- The integrity tag of a flit (R134): `sender` is 1 for the segment partner, `rewrite` 1 for a flit the
Thepin has rewritten as POISON; `ext` is the extended sequence. -/
def flitTag (key : BitVec 256) (f : Flit) (port sender rewrite epoch ext : Nat) : BitVec 64 :=
  let iv := [port % 4 + 4 * sender + 8 * rewrite, 0] ++ beBytes 2 epoch ++ beBytes 8 ext
  let t := gmac (beBytes 32 key.toNat) iv (tagBlocks f)
  BitVec.ofNat 64 (ofBytes ((t.take 8).map (BitVec.ofNat 8)))

/-- A key check value (R135): the first two bytes of the encryption of a zero block. -/
def keyCheck (key : BitVec 256) : Nat :=
  ofBytes (((aes256 (beBytes 32 key.toNat) (List.replicate 16 0)).take 2).map (BitVec.ofNat 8))

end Sys2Proof.Machine
end

