-- ==== Sys2Proof/Config.lean ====
section
/-! DEFINITION. What an implementation fixes, and the free values: constants without a body, so that
no proof can see what they are. -/

namespace Sys2Proof.Config

/-- GLB_ID.VARIANT is fused: 1 for a -S unit, 2 for a -X unit (R1, R3). The model is of a -X unit,
which has every feature of both (DESIGN CHOICE, log entry 5). -/
def variant : Nat := 2

/-- GLB_ID.STEP, the fused silicon step (19_register_map.md): no value is given (DESIGN CHOICE, log entry 5). -/
opaque step : BitVec 4

/-- The unit's 64-bit serial number: unique, no value is given (DESIGN CHOICE, log entry 5). -/
opaque serial : BitVec 64

/-- A value the manual leaves open, fresh at each use: `State.freeCtr` counts the uses
(DESIGN CHOICE, log entry 6). -/
opaque freeWord : Nat → BitVec 32

/-- The taps that the PMD of an Ethernet or CFL training defines for an initial condition, by rate code, medium,
protocol and condition: outside the manual (R98; PRESUMED, log entry 7). The seven-bit fields are C_M3, C_M2, C_M1, C_P1,
C_P2. -/
opaque initTaps : Nat → Nat → Bool → Nat → BitVec 35

/-- The fused minimum of the security version of an image (R427): no value is given (DESIGN CHOICE, log entry 5). -/
opaque minSecurity : Nat

/-- The level histogram of a run in progress, by receiver lane-end, bin and clock: the samples are not stated (R58, R344; DESIGN
CHOICE, log entry 6). -/
opaque partialBin : Nat → Nat → Nat → BitVec 32

/-- A byte of host memory that the unit has written is not yet globally visible, by byte address and clock: when a write becomes so is
not stated (R298; DESIGN CHOICE, log entry 4). -/
opaque unseen : Nat → Nat → Bool

/-- Where the fill of a receiver lane-end's elastic FIFO stands, by lane-end and clock, between two slips (R55; DESIGN CHOICE, log
entry 6). -/
opaque fifoDrift : Nat → Nat → Nat

/-- The round-trip token that a training frame carries, by the clock: the sender's own choice, no value is given (R103;
DESIGN CHOICE, log entry 6). -/
opaque echoToken : Nat → BitVec 16

/-- The polynomial and the seed that the PMD of a training selects for the PAM4 training pattern of a lane, by rate code, medium,
protocol and logical lane: outside the manual (R97; PRESUMED, log entry 7). -/
opaque trainPattern : Nat → Nat → Bool → Nat → BitVec 32

/-- The message of a codeword of fault fill, by rate code, lanes and medium: Local Fault ordered sets with the markers of the
port's PMD, as IEEE 802.3 codes them (R102; PRESUMED, log entry 7). -/
opaque fillMessage : Nat → Nat → Nat → BitVec 5140

/-- Bit of the Clause 73 Technology Ability field of a PMD: rate code, lanes, medium (R101; the
bit numbers are those of IEEE 802.3, outside the manual; PRESUMED, log entry 7). -/
opaque techAbility : Nat → Nat → Nat → BitVec 48

/-- A 257-bit block of a message marked as errored, in the manner of IEEE 802.3 (R126; outside the manual; PRESUMED, log entry
7). -/
opaque markErrored : BitVec 257 → BitVec 257

/-- The change, in LSB, that one block's gradient makes to a tap (kind 0) or to h1 (kind 1): by the step-size code of
LRX_FFE_CFG, or 8 for the acquisition step. The manual gives the step sizes no values (R45; DESIGN CHOICE, log entry
9). -/
opaque adaptStep : Nat → Nat → Int → Int

/-- A word of the manager's configuration space whose content the manual leaves to the PCIe Base specification (R235;
PRESUMED, log entry 41). -/
opaque configWord : Nat → BitVec 32

/-- Where the k-th capability structure, or extended one, of the manager's configuration space stands, and what its header
holds beside its identifier and the pointer to the next: no value is given (R235; PRESUMED, log entry 41). -/
opaque capAddr : Bool → Nat → BitVec 12
opaque capBits : Bool → Nat → BitVec 32

end Sys2Proof.Config
end

