-- ==== Sys2Proof/Machine/Regs.lean ====
section
/-! DEFINITION. The register map (19_register_map.md and the register tables of the chapters): the
address of every register, its named fields, its reset value and its field types. A register is
named by its byte address. -/

namespace Sys2Proof.Machine

/-- A field of a register: its address, lowest bit and length. -/
structure Fld where
  addr : Nat
  lo   : Nat
  len  : Nat
  deriving DecidableEq, Repr

/-- Global block (R434, R432, R188, R115, R87). -/
def GLB.id : Nat := 0x0
def GLB.serialLo : Nat := 0x4
def GLB.serialHi : Nat := 0x8
def GLB.lock : Nat := 0xC
def GLB.closed : Fld := ⟨0xC, 0, 1⟩
def GLB.denied : Fld := ⟨0xC, 2, 1⟩
def GLB.pgcfg (g : Nat) : Nat := 0x10 + 4 * g
def GLB.pers (g : Nat) : Fld := ⟨GLB.pgcfg g, 0, 2⟩
def GLB.proto (g : Nat) : Fld := ⟨GLB.pgcfg g, 2, 1⟩
def GLB.rate (g : Nat) : Fld := ⟨GLB.pgcfg g, 3, 2⟩
def GLB.medium (g : Nat) : Fld := ⟨GLB.pgcfg g, 5, 1⟩
def GLB.elane (g n : Nat) : Fld := ⟨GLB.pgcfg g, 8 + 3 * n, 3⟩
def GLB.pgen : Nat := 0x20
def GLB.en (g : Nat) : Fld := ⟨0x20, g, 1⟩
def GLB.event : Nat := 0x30
def GLB.timing : Nat := 0x40
def GLB.mode (e : Nat) : Fld := ⟨0x40, e, 1⟩
def GLB.revert (e : Nat) : Fld := ⟨0x40, 2 + e, 1⟩
def GLB.pllBw (e : Nat) : Fld := ⟨0x40, 4 + 2 * e, 2⟩
def GLB.tlist (e half : Nat) : Nat := 0x44 + 8 * e + 4 * half
def GLB.tlPos (e k : Nat) : Fld := ⟨GLB.tlist e (k / 4), 8 * (k % 4), 6⟩
def GLB.tlValid (e k : Nat) : Fld := ⟨GLB.tlist e (k / 4), 8 * (k % 4) + 7, 1⟩
def GLB.cur (e : Nat) : Fld := ⟨0x54, 8 * e, 3⟩
def GLB.hold (e : Nat) : Fld := ⟨0x54, 8 * e + 3, 1⟩
def GLB.pllLock (e : Nat) : Fld := ⟨0x54, 8 * e + 4, 1⟩
def GLB.refclkOk : Fld := ⟨0x54, 16, 1⟩
def GLB.trnBase (g : Nat) : Nat := 0x100 + 0x20 * g
def GLB.trnCfg (g : Nat) : Nat := GLB.trnBase g
def GLB.anMode (g : Nat) : Fld := ⟨GLB.trnCfg g, 0, 2⟩
def GLB.notrain (g sd : Nat) : Fld := ⟨GLB.trnCfg g, 2 + sd, 1⟩
def GLB.precodeReq (g : Nat) : Fld := ⟨GLB.trnCfg g, 4, 2⟩
def GLB.initCond (g : Nat) : Fld := ⟨GLB.trnCfg g, 6, 3⟩
def GLB.retryMax (g : Nat) : Fld := ⟨GLB.trnCfg g, 9, 4⟩
def GLB.eqTimeout (g : Nat) : Fld := ⟨GLB.trnCfg g, 16, 8⟩
def GLB.widthWait (g : Nat) : Fld := ⟨GLB.trnCfg g, 24, 8⟩
def GLB.trnCtrl (g : Nat) : Nat := GLB.trnBase g + 4
/-- The training status word of a segment. A CFL port's and the lowest Ethernet port's of the group
is the register; those of further Ethernet ports of the group have no register, and are kept beside
the map (DESIGN CHOICE, log entry 8). -/
def GLB.trnStat (g sd k : Nat) : Nat :=
  if k = 0 then GLB.trnBase g + 8 + 4 * sd else 0x1000000 + ((2 * g + sd) * 8 + k) * 4
def GLB.tsState (g sd k : Nat) : Fld := ⟨GLB.trnStat g sd k, 0, 4⟩
def GLB.tsCause (g sd k : Nat) : Fld := ⟨GLB.trnStat g sd k, 4, 4⟩
def GLB.tsAttempts (g sd k : Nat) : Fld := ⟨GLB.trnStat g sd k, 8, 4⟩
def GLB.tsSlack (g sd k : Nat) : Fld := ⟨GLB.trnStat g sd k, 12, 3⟩
def GLB.tsRtt (g sd k : Nat) : Fld := ⟨GLB.trnStat g sd k, 16, 9⟩
def GLB.trnLane (g sd : Nat) : Nat := GLB.trnBase g + 0x10 + 4 * sd
def GLB.inUse (g sd b : Nat) : Fld := ⟨GLB.trnLane g sd, b, 1⟩
def GLB.txPrecode (g sd b : Nat) : Fld := ⟨GLB.trnLane g sd, 16 + b, 1⟩
def GLB.lmap (g sd : Nat) : Nat := 0x180 + 0x10 * g + 4 * sd
def GLB.lane (g sd n : Nat) : Fld := ⟨GLB.lmap g sd, 4 * n, 4⟩
def GLB.lmstat (g : Nat) : Nat := 0x188 + 0x10 * g
def GLB.width (g : Nat) : Fld := ⟨GLB.lmstat g, 0, 2⟩
def GLB.lmBusy (g : Nat) : Fld := ⟨GLB.lmstat g, 2, 1⟩
def GLB.restorePend (g : Nat) : Fld := ⟨GLB.lmstat g, 3, 1⟩
def GLB.failed (g sd b : Nat) : Fld := ⟨GLB.lmstat g, 4 + 8 * sd + b, 1⟩
def GLB.chgId (g : Nat) : Fld := ⟨GLB.lmstat g, 20, 8⟩
def GLB.spareReach : Nat := 0x1C0
def GLB.reach (sd sp g : Nat) : Fld := ⟨0x1C0, 8 * sd + 4 * sp + g, 1⟩
def GLB.spareStat (sd sp : Nat) : Fld := ⟨0x1C4, 8 * sd + 4 * sp, 4⟩
def GLB.restoreEn : Fld := ⟨0x1C8, 0, 1⟩
def GLB.strap : Nat := 0x200
def GLB.strapRole : Fld := ⟨0x200, 0, 1⟩
def GLB.strapSafeTx : Fld := ⟨0x200, 1, 1⟩
def GLB.strapCfgSkip : Fld := ⟨0x200, 2, 1⟩
def GLB.testMode : Fld := ⟨0x200, 3, 1⟩
def GLB.rstctrl : Nat := 0x204
def GLB.engBusy (e : Nat) : Fld := ⟨0x208, e, 1⟩
def GLB.coldCause : Fld := ⟨0x208, 2, 2⟩
def GLB.mrstCause : Fld := ⟨0x208, 4, 3⟩
def GLB.runSlot : Fld := ⟨0x20C, 0, 1⟩
def GLB.trial : Fld := ⟨0x20C, 1, 1⟩
def GLB.slotValid (n : Nat) : Fld := ⟨0x20C, 2 + n, 1⟩
def GLB.fwReady : Fld := ⟨0x20C, 4, 1⟩
def GLB.cfgrec : Fld := ⟨0x20C, 5, 2⟩
def GLB.fwver : Nat := 0x210
def GLB.lerstReg (sd hi : Nat) : Nat := 0x214 + 8 * sd + 4 * hi
def GLB.lerst (sd p : Nat) : Fld := ⟨GLB.lerstReg sd (p / 32), p % 32, 1⟩

/-- Receiver lane-end blocks (R63); `i` is the lane-end index 34 × side + position. -/
def LRX.base (i : Nat) : Nat := 0x100000 + (i / 34) * 0x80000 + (i % 34) * 0x1000
def LRX.ctrl (i : Nat) : Nat := LRX.base i
def LRX.polInv (i : Nat) : Fld := ⟨LRX.base i, 0, 1⟩
def LRX.detMode (i : Nat) : Fld := ⟨LRX.base i, 1, 2⟩
def LRX.adaptFreeze (i : Nat) : Fld := ⟨LRX.base i, 3, 1⟩
def LRX.wakeSrc (i : Nat) : Fld := ⟨LRX.base i, 4, 2⟩
def LRX.precode (i : Nat) : Fld := ⟨LRX.base i, 6, 1⟩
def LRX.cdrBw (i : Nat) : Fld := ⟨LRX.base i, 8, 3⟩
def LRX.status (i : Nat) : Nat := LRX.base i + 4
def LRX.losNow (i : Nat) : Fld := ⟨LRX.base i + 4, 0, 1⟩
def LRX.cdrLock (i : Nat) : Fld := ⟨LRX.base i + 4, 1, 1⟩
def LRX.markerLock (i : Nat) : Fld := ⟨LRX.base i + 4, 2, 1⟩
def LRX.cometNow (i : Nat) : Fld := ⟨LRX.base i + 4, 3, 1⟩
def LRX.coefAtLimit (i : Nat) : Fld := ⟨LRX.base i + 4, 4, 1⟩
def LRX.frz (i : Nat) : Fld := ⟨LRX.base i + 4, 5, 6⟩
def LRX.frzHost (i : Nat) : Fld := ⟨LRX.base i + 4, 5, 1⟩
def LRX.frzLos (i : Nat) : Fld := ⟨LRX.base i + 4, 6, 1⟩
def LRX.frzCdr (i : Nat) : Fld := ⟨LRX.base i + 4, 7, 1⟩
def LRX.frzStarved (i : Nat) : Fld := ⟨LRX.base i + 4, 8, 1⟩
def LRX.frzSafe (i : Nat) : Fld := ⟨LRX.base i + 4, 9, 1⟩
def LRX.frzPwr (i : Nat) : Fld := ⟨LRX.base i + 4, 10, 1⟩
def LRX.sliceSpares (i : Nat) : Fld := ⟨LRX.base i + 4, 11, 2⟩
def LRX.pwr (i : Nat) : Fld := ⟨LRX.base i + 4, 13, 2⟩
def LRX.event (i : Nat) : Nat := LRX.base i + 8
def LRX.squelch (i : Nat) : Nat := LRX.base i + 0x10
def LRX.assertAt (i : Nat) : Fld := ⟨LRX.base i + 0x10, 0, 8⟩
def LRX.hyst (i : Nat) : Fld := ⟨LRX.base i + 0x10, 8, 8⟩
def LRX.losTime (i : Nat) : Fld := ⟨LRX.base i + 0x10, 16, 8⟩
def LRX.afe (i : Nat) : Nat := LRX.base i + 0x14
def LRX.ctlePeak (i : Nat) : Fld := ⟨LRX.base i + 0x14, 0, 5⟩
def LRX.ctleAdapt (i : Nat) : Fld := ⟨LRX.base i + 0x14, 5, 1⟩
def LRX.vga (i : Nat) : Fld := ⟨LRX.base i + 0x14, 8, 6⟩
def LRX.ffeCfg (i : Nat) : Nat := LRX.base i + 0x18
def LRX.mainPos (i : Nat) : Fld := ⟨LRX.base i + 0x18, 0, 5⟩
def LRX.muFfe (i : Nat) : Fld := ⟨LRX.base i + 0x18, 5, 3⟩
def LRX.muDfe (i : Nat) : Fld := ⟨LRX.base i + 0x18, 8, 3⟩
def LRX.ffeAdaptEn (i : Nat) : Fld := ⟨LRX.base i + 0x18, 11, 1⟩
def LRX.starve (i : Nat) : Nat := LRX.base i + 0x20
def LRX.windows (i : Nat) : Fld := ⟨LRX.base i + 0x20, 0, 10⟩
def LRX.resume (i : Nat) : Fld := ⟨LRX.base i + 0x20, 16, 6⟩
def LRX.detectEn (i : Nat) : Fld := ⟨LRX.base i + 0x20, 22, 1⟩
def LRX.histcfg (i : Nat) : Nat := LRX.base i + 0x30
def LRX.run (i : Nat) : Fld := ⟨LRX.base i + 0x30, 0, 1⟩
def LRX.done (i : Nat) : Fld := ⟨LRX.base i + 0x30, 1, 1⟩
def LRX.src (i : Nat) : Fld := ⟨LRX.base i + 0x30, 2, 1⟩
def LRX.slotSel (i : Nat) : Fld := ⟨LRX.base i + 0x30, 3, 7⟩
def LRX.decim (i : Nat) : Fld := ⟨LRX.base i + 0x30, 10, 4⟩
def LRX.samplesLog2 (i : Nat) : Fld := ⟨LRX.base i + 0x30, 14, 5⟩
def LRX.snr (i k : Nat) : Fld := ⟨LRX.base i + 0x40, 8 * k, 8⟩
def LRX.margin (i k : Nat) : Fld := ⟨LRX.base i + 0x44, 8 * k, 8⟩
def LRX.symerr (i : Nat) : Nat := LRX.base i + 0x60
def LRX.cwCorr (i : Nat) : Nat := LRX.base i + 0x68
def LRX.cwUncorr (i : Nat) : Nat := LRX.base i + 0x70
def LRX.losCnt (i : Nat) : Nat := LRX.base i + 0x78
def LRX.unlockCnt (i : Nat) : Nat := LRX.base i + 0x80
def LRX.starveCnt (i : Nat) : Nat := LRX.base i + 0x88
def LRX.slipCnt (i : Nat) : Nat := LRX.base i + 0x90
def LRX.swapCnt (i : Nat) : Nat := LRX.base i + 0x98
def LRX.rejectCnt (i : Nat) : Nat := LRX.base i + 0xA0
def LRX.tap (i n : Nat) : Fld := ⟨LRX.base i + 0x100 + 4 * n, 0, 12⟩
def LRX.dfe (i : Nat) : Fld := ⟨LRX.base i + 0x180, 0, 9⟩
def LRX.slotMap (i n : Nat) : Fld := ⟨LRX.base i + 0x200 + 4 * (n / 4), 8 * (n % 4), 8⟩
def LRX.slice (i n : Nat) : Fld := ⟨LRX.base i + 0x240 + 4 * (n / 16), 2 * (n % 16), 2⟩
def LRX.hist (i n : Nat) : Nat := LRX.base i + 0xC00 + 4 * n

/-- Transmitter lane-end blocks (R87). -/
def LTX.base (i : Nat) : Nat := 0x140000 + (i / 34) * 0x80000 + (i % 34) * 0x1000
def LTX.ctrl (i : Nat) : Nat := LTX.base i
def LTX.polInv (i : Nat) : Fld := ⟨LTX.base i, 0, 1⟩
def LTX.commit (i : Nat) : Fld := ⟨LTX.base i, 1, 1⟩
def LTX.forceIdle (i : Nat) : Fld := ⟨LTX.base i, 2, 1⟩
def LTX.status (i : Nat) : Nat := LTX.base i + 4
def LTX.txState (i : Nat) : Fld := ⟨LTX.base i + 4, 0, 3⟩
def LTX.cellSpares (i : Nat) : Fld := ⟨LTX.base i + 4, 3, 5⟩
def LTX.commitRej (i : Nat) : Fld := ⟨LTX.base i + 4, 8, 1⟩
def LTX.pwr (i : Nat) : Fld := ⟨LTX.base i + 4, 9, 2⟩
def LTX.event (i : Nat) : Nat := LTX.base i + 8
def LTX.amp (i : Nat) : Fld := ⟨LTX.base i + 0x10, 0, 8⟩
def LTX.ffe0 (i : Nat) : Nat := LTX.base i + 0x14
def LTX.ffe1 (i : Nat) : Nat := LTX.base i + 0x18
/-- Staged taps by place: c(−3), c(−2), c(−1), c(+1), c(+2). -/
def LTX.stagedTap (i k : Nat) : Fld :=
  if k = 4 then ⟨LTX.base i + 0x18, 0, 7⟩ else ⟨LTX.base i + 0x14, 8 * k, 7⟩
/-- Applied taps by place, as LTX_FFE_LIVE_T and LTX_FFE_LIVE show them. -/
def LTX.liveTap (i k : Nat) : Fld :=
  if k = 4 then ⟨LTX.base i + 0x1C, 0, 7⟩ else ⟨LTX.base i + 0x24, 8 * k, 7⟩
def LTX.liveMain (i : Nat) : Fld := ⟨LTX.base i + 0x1C, 8, 8⟩
def LTX.liveAmp (i : Nat) : Fld := ⟨LTX.base i + 0x1C, 16, 8⟩
def LTX.rotOffset (i : Nat) : Fld := ⟨LTX.base i + 0x20, 0, 16⟩
def LTX.rotAtLimit (i : Nat) : Fld := ⟨LTX.base i + 0x20, 16, 1⟩
def LTX.slipCnt (i : Nat) : Nat := LTX.base i + 0x60
def LTX.cellswapCnt (i : Nat) : Nat := LTX.base i + 0x68
def LTX.rejectCnt (i : Nat) : Nat := LTX.base i + 0x70
def LTX.cell (i n : Nat) : Fld := ⟨LTX.base i + 0x200 + 4 * (n / 16), 2 * (n % 16), 2⟩

/-- Direction engines (R144, R166 to R170, R210, R212). -/
def DIR.base (e : Nat) : Nat := 0x80000 + e * 0x10000
def DIR.g (e g : Nat) : Nat := DIR.base e + 0x100 + g * 0x100
def DIR.event (e : Nat) : Nat := DIR.base e + 8
def DIR.rplcfg (e : Nat) : Nat := DIR.base e + 0x10
def DIR.banks (e g : Nat) : Fld := ⟨DIR.rplcfg e, 4 * g, 4⟩
def DIR.defq (e g : Nat) : Fld := ⟨DIR.rplcfg e, 16 + 3 * g, 3⟩
def DIR.tagMode (e g : Nat) : Fld := ⟨DIR.g e g, 0, 1⟩
def DIR.txSlot (e g : Nat) : Fld := ⟨DIR.g e g, 1, 1⟩
def DIR.cwLock (e g : Nat) : Fld := ⟨DIR.g e g + 4, 0, 1⟩
def DIR.skew (e g : Nat) : Fld := ⟨DIR.g e g + 4, 16, 8⟩
/-- Key-slot validity: `out` names the outgoing segment. Of each pair of bits the higher is slot 1
(R144: "slots 1 and 0"). -/
def DIR.keyValid (e g out slot : Nat) : Fld := ⟨DIR.g e g + 8, 2 * out + slot, 1⟩
def DIR.kcv (e g out slot : Nat) : Fld := ⟨DIR.g e g + 0xC + 4 * out, 16 * slot, 16⟩
def DIR.nakMargin (e g : Nat) : Fld := ⟨DIR.g e g + 0x14, 0, 8⟩
def DIR.sackIdle (e g : Nat) : Fld := ⟨DIR.g e g + 0x14, 8, 8⟩
def DIR.rxNext (e g : Nat) : Fld := ⟨DIR.g e g + 0x18, 0, 12⟩
def DIR.txNext (e g : Nat) : Fld := ⟨DIR.g e g + 0x18, 12, 12⟩
def DIR.inState (e g : Nat) : Fld := ⟨DIR.g e g + 0x18, 24, 2⟩
def DIR.cSnak (e g : Nat) : Fld := ⟨DIR.g e g + 0x18, 26, 2⟩
def DIR.replaying (e g : Nat) : Fld := ⟨DIR.g e g + 0x18, 28, 1⟩
def DIR.backlog (e g : Nat) : Fld := ⟨DIR.g e g + 0x1C, 0, 9⟩
def DIR.rplq (e g : Nat) : Fld := ⟨DIR.g e g + 0x1C, 12, 4⟩
def DIR.sackIn (e g : Nat) : Fld := ⟨DIR.g e g + 0x1C, 16, 12⟩
def DIR.abnFirst (e g : Nat) : Fld := ⟨DIR.g e g + 0x20, 0, 12⟩
def DIR.abnReason (e g : Nat) : Fld := ⟨DIR.g e g + 0x20, 12, 4⟩
def DIR.abnOrigin (e g : Nat) : Fld := ⟨DIR.g e g + 0x20, 16, 1⟩
def DIR.drainMark (e g : Nat) : Fld := ⟨DIR.g e g + 0x24, 0, 12⟩
def DIR.deferLeft (e g : Nat) : Fld := ⟨DIR.g e g + 0x24, 12, 9⟩
def DIR.drained (e g : Nat) : Fld := ⟨DIR.g e g + 0x24, 21, 1⟩
def DIR.cwTotal (e g : Nat) : Nat := DIR.g e g + 0x40
def DIR.cwCorr (e g : Nat) : Nat := DIR.g e g + 0x48
def DIR.cwUncorr (e g : Nat) : Nat := DIR.g e g + 0x50
def DIR.flitRx (e g : Nat) : Nat := DIR.g e g + 0x58
def DIR.crcFail (e g : Nat) : Nat := DIR.g e g + 0x60
def DIR.tagFail (e g : Nat) : Nat := DIR.g e g + 0x68
def DIR.parseErr (e g : Nat) : Nat := DIR.g e g + 0x70
def DIR.stomp (e g : Nat) : Nat := DIR.g e g + 0x78
def DIR.snakIn (e g : Nat) : Nat := DIR.g e g + 0x80
def DIR.rplFlits (e g : Nat) : Nat := DIR.g e g + 0x88
def DIR.rplEvents (e g : Nat) : Nat := DIR.g e g + 0x90
def DIR.abandon (e g : Nat) : Nat := DIR.g e g + 0x98
def DIR.snakOut (e g : Nat) : Nat := DIR.g e g + 0xA0
def DIR.seqDrop (e g : Nat) : Nat := DIR.g e g + 0xA8
def DIR.slackDel (e g : Nat) : Nat := DIR.g e g + 0xB0
def DIR.slackIns (e g : Nat) : Nat := DIR.g e g + 0xB8
def DIR.evict (e g : Nat) : Nat := DIR.g e g + 0xC0
def DIR.snakBad (e g : Nat) : Nat := DIR.g e g + 0xC8
def DIR.qpoison (e g : Nat) : Nat := DIR.g e g + 0xD0
def DIR.qrpl (e g : Nat) : Nat := DIR.g e g + 0xD8
def DIR.qcoll (e g : Nat) : Nat := DIR.g e g + 0xE0
def DIR.tcflit (e n : Nat) : Nat := DIR.base e + 0x500 + 8 * n
def DIR.agflit (e n : Nat) : Nat := DIR.base e + 0x600 + 8 * n
def DIR.agword (e n : Nat) : Nat := DIR.base e + 0x800 + 8 * n

/-- Partition block (R211). -/
def PRT.entryLo (i : Nat) : Nat := 0xA0000 + 8 * i
def PRT.entryHi (i : Nat) : Nat := 0xA0004 + 8 * i
def PRT.pid (i : Nat) : Fld := ⟨PRT.entryLo i, 0, 16⟩
def PRT.agroup (i : Nat) : Fld := ⟨PRT.entryLo i, 16, 6⟩
def PRT.valid (i : Nat) : Fld := ⟨PRT.entryLo i, 22, 1⟩
def PRT.quenched (i : Nat) : Fld := ⟨PRT.entryHi i, 0, 1⟩
def PRT.auto (i : Nat) : Fld := ⟨PRT.entryHi i, 1, 1⟩
def PRT.defaultAg : Fld := ⟨0xA8000, 0, 6⟩
def PRT.drainForce : Fld := ⟨0xA8000, 8, 8⟩
def PRT.used : Fld := ⟨0xA8004, 0, 13⟩
def PRT.qactive : Fld := ⟨0xA8004, 13, 1⟩
def PRT.failPid : Fld := ⟨0xA8008, 0, 16⟩
def PRT.failValid : Fld := ⟨0xA8008, 16, 1⟩
def PRT.qgen : Fld := ⟨0xA800C, 0, 16⟩
def PRT.drainedGen : Fld := ⟨0xA800C, 16, 16⟩
def PRT.event : Nat := 0xA8010
def PRT.rangeLo (n : Nat) : Nat := 0xA8100 + 8 * n
def PRT.rLo (n : Nat) : Fld := ⟨PRT.rangeLo n, 0, 16⟩
def PRT.rHi (n : Nat) : Fld := ⟨PRT.rangeLo n, 16, 16⟩
def PRT.rEn (n : Nat) : Fld := ⟨PRT.rangeLo n + 4, 0, 1⟩

/-- Calibration block (R234). -/
def CAL.ctrl : Nat := 0x60000
def CAL.en : Fld := ⟨0x60000, 0, 1⟩
def CAL.hostSuspend : Fld := ⟨0x60000, 1, 1⟩
def CAL.guardEn : Fld := ⟨0x60000, 2, 1⟩
def CAL.period : Fld := ⟨0x60004, 0, 8⟩
def CAL.fastPeriod : Fld := ⟨0x60004, 8, 4⟩
def CAL.txPeriod : Fld := ⟨0x60004, 16, 8⟩
def CAL.thresh : Fld := ⟨0x60008, 0, 8⟩
def CAL.hyst : Fld := ⟨0x60008, 8, 8⟩
def CAL.dwell : Fld := ⟨0x60008, 16, 12⟩
def CAL.holdLimit : Fld := ⟨0x6000C, 0, 16⟩
def CAL.suspended : Fld := ⟨0x60010, 0, 1⟩
def CAL.refvBad : Fld := ⟨0x60010, 1, 1⟩
def CAL.refclkLost : Fld := ⟨0x60010, 2, 1⟩
def CAL.guard : Fld := ⟨0x60010, 3, 1⟩
def CAL.hostSusp : Fld := ⟨0x60010, 4, 1⟩
def CAL.fgBusy : Fld := ⟨0x60010, 5, 1⟩
def CAL.event : Nat := 0x60014
def CAL.temp (n : Nat) : Fld := ⟨0x60040 + 4 * n, 0, 16⟩
def CAL.tref (n : Nat) : Fld := ⟨0x60040 + 4 * n, 16, 16⟩
def CAL.sweepRx (i : Nat) : Fld := ⟨0x60080 + 4 * (i / 32), i % 32, 1⟩
def CAL.sweepTx (i : Nat) : Fld := ⟨0x60090 + 4 * (i / 32), i % 32, 1⟩
def CAL.log (n : Nat) : Nat := 0x61000 + 16 * n
def CAL.rxTrim (i n : Nat) : Nat := 0x62000 + i * 0x120 + 4 * n
def CAL.offset (i n : Nat) : Fld := ⟨CAL.rxTrim i n, 0, 8⟩
def CAL.gain (i n : Nat) : Fld := ⟨CAL.rxTrim i n, 8, 8⟩
def CAL.skew (i n : Nat) : Fld := ⟨CAL.rxTrim i n, 16, 8⟩
def CAL.rej (i n : Nat) : Fld := ⟨CAL.rxTrim i n, 24, 2⟩
def CAL.cellTrim (i n : Nat) : Fld := ⟨0x67000 + i * 0x120 + 4 * (n / 4), 8 * (n % 4), 6⟩
def CAL.cellRej (i n : Nat) : Fld := ⟨0x67000 + i * 0x120 + 4 * (n / 4), 8 * (n % 4) + 6, 2⟩
def CAL.repBias (i : Nat) : Fld := ⟨0x67110 + i * 0x120, 0, 8⟩
def CAL.repRej (i : Nat) : Fld := ⟨0x67110 + i * 0x120, 8, 2⟩
def CAL.ampErr (i : Nat) : Fld := ⟨0x67110 + i * 0x120, 16, 8⟩

/-- Ring engine and PCIe block (R249, R283). -/
def RNG.idxPage (hi : Nat) : Nat := 0x30000 + 4 * hi
def RNG.shdPage (hi : Nat) : Nat := 0x30008 + 4 * hi
def RNG.evcqReg : Nat := 0x30010
def RNG.evCq : Fld := ⟨0x30010, 0, 6⟩
def RNG.evcqEn : Fld := ⟨0x30010, 8, 1⟩
def RNG.evgrp (n : Nat) : Nat := 0x30800 + 4 * n
def RNG.grpVector (n : Nat) : Fld := ⟨0x30800 + 4 * n, 0, 6⟩
def RNG.grpEn (n : Nat) : Fld := ⟨0x30800 + 4 * n, 8, 1⟩
def RNG.evsum : Nat := 0x30840
def RNG.sum (n : Nat) : Fld := ⟨0x30840, n, 1⟩
def RNG.pcieStat : Nat := 0x30844
def RNG.speed : Fld := ⟨0x30844, 0, 3⟩
def RNG.pcieWidth : Fld := ⟨0x30844, 4, 3⟩
def RNG.dlUp : Fld := ⟨0x30844, 8, 1⟩
def RNG.d3hot : Fld := ⟨0x30844, 9, 1⟩
def RNG.linkPm : Fld := ⟨0x30844, 10, 2⟩
def RNG.winErr : Fld := ⟨0x30844, 16, 1⟩
def RNG.pcieCorr : Nat := 0x30850
def RNG.pcieUncorr : Nat := 0x30858
def RNG.q (q : Nat) : Nat := 0x31000 + 0x40 * q
def RNG.sqBase (q hi : Nat) : Nat := RNG.q q + 4 * hi
def RNG.cqBase (q hi : Nat) : Nat := RNG.q q + 8 + 4 * hi
def RNG.cfg (q : Nat) : Nat := RNG.q q + 0x10
def RNG.sqLog2 (q : Nat) : Fld := ⟨RNG.cfg q, 0, 4⟩
def RNG.cqLog2 (q : Nat) : Fld := ⟨RNG.cfg q, 4, 4⟩
def RNG.vector (q : Nat) : Fld := ⟨RNG.cfg q, 8, 6⟩
def RNG.irqEn (q : Nat) : Fld := ⟨RNG.cfg q, 14, 1⟩
def RNG.inorder (q : Nat) : Fld := ⟨RNG.cfg q, 15, 1⟩
def RNG.coalUs (q : Nat) : Fld := ⟨RNG.cfg q, 16, 8⟩
def RNG.en (q : Nat) : Fld := ⟨RNG.q q + 0x14, 0, 1⟩
def RNG.sqStart (q : Nat) : Fld := ⟨RNG.q q + 0x18, 0, 16⟩
def RNG.cqStart (q : Nat) : Fld := ⟨RNG.q q + 0x18, 16, 16⟩
def RNG.state (q : Nat) : Fld := ⟨RNG.q q + 0x1C, 0, 3⟩
def RNG.cfgErr (q : Nat) : Fld := ⟨RNG.q q + 0x1C, 3, 1⟩
def RNG.haltCause (q : Nat) : Fld := ⟨RNG.q q + 0x1C, 4, 4⟩
def RNG.inflight (q : Nat) : Fld := ⟨RNG.q q + 0x1C, 8, 6⟩
def RNG.cons (q : Nat) : Fld := ⟨RNG.q q + 0x1C, 16, 16⟩
def RNG.cdone (q : Nat) : Fld := ⟨RNG.q q + 0x20, 0, 16⟩
def RNG.cqTail (q : Nat) : Fld := ⟨RNG.q q + 0x20, 16, 16⟩
def RNG.donemap (q : Nat) : Nat := RNG.q q + 0x24
def RNG.cqdrop (q : Nat) : Nat := RNG.q q + 0x28
def RNG.msix (v k : Nat) : Nat := 0x38000 + 16 * v + 4 * k
def RNG.pba (v : Nat) : Fld := ⟨0x39000 + 4 * (v / 32), v % 32, 1⟩

/-- Orbit block (R331). -/
def ORB.cfg : Nat := 0x40000
def ORB.beaconUs : Fld := ⟨0x40000, 0, 8⟩
def ORB.emptyEvery : Fld := ⟨0x40000, 8, 4⟩
def ORB.autoHeal : Fld := ⟨0x40000, 12, 1⟩
def ORB.autoEnum : Fld := ⟨0x40000, 13, 1⟩
def ORB.priRetry : Fld := ⟨0x40000, 14, 2⟩
def ORB.respto : Fld := ⟨0x40004, 0, 16⟩
def ORB.addr : Fld := ⟨0x40008, 0, 8⟩
def ORB.addrValid : Fld := ⟨0x40008, 8, 1⟩
def ORB.role : Fld := ⟨0x40008, 9, 1⟩
def ORB.chainFull : Fld := ⟨0x40008, 10, 1⟩
def ORB.loss (p : Nat) : Fld := ⟨0x40008, 11 + p, 1⟩
def ORB.wrap (p : Nat) : Fld := ⟨0x40008, 13 + p, 1⟩
def ORB.trimmed : Fld := ⟨0x40008, 15, 1⟩
def ORB.folded : Fld := ⟨0x40008, 16, 1⟩
def ORB.conflict : Fld := ⟨0x40008, 17, 1⟩
def ORB.busy : Fld := ⟨0x40008, 18, 1⟩
def ORB.units : Fld := ⟨0x40008, 24, 8⟩
def ORB.event : Nat := 0x4000C
def ORB.ctrl : Nat := 0x40014
def ORB.ctrlBit (b : Nat) : Fld := ⟨0x40014, b, 1⟩
def ORB.hopsFwd : Fld := ⟨0x40018, 0, 8⟩
def ORB.hopsRev : Fld := ⟨0x40018, 8, 8⟩
def ORB.arm : Fld := ⟨0x40018, 16, 2⟩
def ORB.delayFwd : Fld := ⟨0x4001C, 0, 20⟩
def ORB.delayRev : Fld := ⟨0x40020, 0, 20⟩
def ORB.eclT : Fld := ⟨0x40024, 0, 20⟩
def ORB.release : Nat := 0x40028
def ORB.wake : Nat := 0x4002C
def ORB.wakeStat : Nat := 0x40030
def ORB.wApplied : Fld := ⟨0x40030, 0, 8⟩
def ORB.wRefused : Fld := ⟨0x40030, 8, 8⟩
def ORB.wRstat : Fld := ⟨0x40030, 16, 8⟩
def ORB.wBusy : Fld := ⟨0x40030, 24, 1⟩
def ORB.wNoresp : Fld := ⟨0x40030, 25, 1⟩
def ORB.frameErr : Nat := 0x40060
def ORB.charErr : Nat := 0x40068
def ORB.abortCnt : Nat := 0x40070
def ORB.foldCnt : Nat := 0x40078
def ORB.map (a : Nat) : Nat := 0x40400 + 4 * a
def ORB.mapState (a : Nat) : Fld := ⟨ORB.map a, 0, 2⟩
def ORB.mapArm (a : Nat) : Fld := ⟨ORB.map a, 2, 2⟩
def ORB.mapFwd (a : Nat) : Fld := ⟨ORB.map a, 8, 8⟩
def ORB.mapRev (a : Nat) : Fld := ⟨ORB.map a, 16, 8⟩

/-- Eclipse block (R351). -/
def ECL.hclr : Fld := ⟨0x50000, 0, 1⟩
def ECL.pin (b : Nat) : Fld := ⟨0x50004, b, 1⟩
def ECL.bank (b : Nat) : Fld := ⟨0x50008, 2 * b, 2⟩
def ECL.newest : Fld := ⟨0x50008, 4, 1⟩
def ECL.copyBusy : Fld := ⟨0x50008, 5, 1⟩
def ECL.bepoch (b : Nat) : Nat := 0x5000C + 4 * b
def ECL.epoch : Nat := 0x50014
def ECL.time : Nat := 0x50018
def ECL.event : Nat := 0x50020
def ECL.captures : Nat := 0x50060
def ECL.refused : Nat := 0x50068
def ECL.tdrop : Nat := 0x50070
def ECL.stream (n : Nat) : Nat := 0x50100 + 0x20 * n
def ECL.sCq (n : Nat) : Fld := ⟨ECL.stream n, 0, 6⟩
def ECL.sActive (n : Nat) : Fld := ⟨ECL.stream n, 8, 1⟩
def ECL.sPending (n : Nat) : Fld := ⟨ECL.stream n, 9, 1⟩
def ECL.sInt (n : Nat) : Fld := ⟨ECL.stream n + 4, 0, 16⟩
def ECL.sSel (n hi : Nat) : Nat := ECL.stream n + 8 + 4 * hi
def ECL.rseq (n : Nat) : Nat := ECL.stream n + 0x10
def ECL.miss (n : Nat) : Nat := ECL.stream n + 0x14

/-- Fault collector block (R373). -/
def FLT.cfg : Nat := 0x10000
def FLT.compat : Fld := ⟨0x10000, 0, 1⟩
def FLT.safeTx : Fld := ⟨0x10000, 1, 1⟩
def FLT.safe : Fld := ⟨0x10004, 0, 1⟩
def FLT.pulseArmed : Fld := ⟨0x10004, 1, 1⟩
def FLT.safeSrc : Fld := ⟨0x10004, 8, 8⟩
def FLT.hold : Fld := ⟨0x10008, 0, 1⟩
def FLT.pulseBusy : Fld := ⟨0x10008, 1, 1⟩
def FLT.pinIn : Fld := ⟨0x10008, 2, 1⟩
def FLT.event : Nat := 0x1000C
def FLT.erasedGrace : Fld := ⟨0x10014, 0, 24⟩
def FLT.fallback (g : Nat) : Fld := ⟨0x10018, g, 1⟩
def FLT.first : Nat := 0x10020
def FLT.fSource : Fld := ⟨0x10020, 0, 8⟩
def FLT.fSev : Fld := ⟨0x10020, 8, 3⟩
def FLT.fLecause : Fld := ⟨0x10020, 11, 7⟩
def FLT.fWire : Fld := ⟨0x10020, 18, 1⟩
def FLT.fColl : Fld := ⟨0x10020, 19, 1⟩
def FLT.fOvf : Fld := ⟨0x10020, 20, 1⟩
def FLT.fValid : Fld := ⟨0x10020, 31, 1⟩
def FLT.firstEpoch : Nat := 0x10024
def FLT.firstTime : Nat := 0x10028
def FLT.histSeq : Nat := 0x10030
def FLT.status (n : Nat) : Fld := ⟨0x10040 + 4 * (n / 32), n % 32, 1⟩
def FLT.live (n : Nat) : Fld := ⟨0x10060 + 4 * (n / 32), n % 32, 1⟩
def FLT.wire (n : Nat) : Fld := ⟨0x10080 + 4 * (n / 32), n % 32, 1⟩
def FLT.srccfg (n : Nat) : Nat := 0x10100 + 4 * n
def FLT.sev (n : Nat) : Fld := ⟨FLT.srccfg n, 0, 3⟩
def FLT.grace (n : Nat) : Fld := ⟨FLT.srccfg n, 8, 24⟩
def FLT.lecause (n : Nat) : Nat := 0x10400 + 4 * n
def FLT.le (n b : Nat) : Fld := ⟨FLT.lecause n, b, 1⟩
def FLT.hist (n k : Nat) : Nat := 0x10800 + 16 * n + 4 * k

/-- Self-test block (R390). -/
def BST.busy : Fld := ⟨0x70000, 0, 1⟩
def BST.kind : Fld := ⟨0x70000, 1, 3⟩
def BST.index : Fld := ⟨0x70000, 4, 3⟩
def BST.spare (e : Nat) : Fld := ⟨0x70004, 4 * e, 4⟩
def BST.retired (e : Nat) : Fld := ⟨0x70004, 8 + 9 * e, 9⟩
def BST.event : Nat := 0x70008
def BST.held (e : Nat) : Fld := ⟨0x70010, e, 1⟩
def BST.runs : Nat := 0x70060
def BST.fails : Nat := 0x70068

/-- Power block (R417). -/
def PWR.ctrl : Nat := 0x20000
def PWR.target : Fld := ⟨0x20000, 0, 2⟩
def PWR.cfg : Nat := 0x20004
def PWR.offEn : Fld := ⟨0x20004, 0, 1⟩
def PWR.wakeOut : Fld := ⟨0x20004, 1, 1⟩
def PWR.spareDark : Fld := ⟨0x20004, 2, 1⟩
def PWR.standbyDark : Fld := ⟨0x20004, 3, 1⟩
def PWR.idleUs : Fld := ⟨0x20004, 8, 8⟩
def PWR.reentryMs : Fld := ⟨0x20004, 16, 12⟩
def PWR.stat : Nat := 0x20008
def PWR.state : Fld := ⟨0x20008, 0, 3⟩
def PWR.stage : Fld := ⟨0x20008, 3, 3⟩
def PWR.lastAbort : Fld := ⟨0x20008, 6, 3⟩
def PWR.pwrupFail : Fld := ⟨0x20008, 9, 1⟩
def PWR.block : Fld := ⟨0x20008, 16, 6⟩
def PWR.event : Nat := 0x2000C
def PWR.wsKind : Fld := ⟨0x20014, 0, 3⟩
def PWR.wsLane : Fld := ⟨0x20014, 8, 8⟩
def PWR.wsWkind : Fld := ⟨0x20014, 16, 8⟩
def PWR.dvfs : Nat := 0x20018
def PWR.corePt : Fld := ⟨0x20018, 0, 2⟩
def PWR.curPt : Fld := ⟨0x20018, 2, 2⟩
def PWR.vid : Fld := ⟨0x20018, 4, 6⟩
def PWR.vidTrim : Fld := ⟨0x20018, 10, 4⟩
def PWR.dvfsBusy : Fld := ⟨0x20018, 14, 1⟩
def PWR.lpstat (g : Nat) : Fld := ⟨0x20020 + 4 * g, 0, 2⟩
def PWR.entryCnt : Nat := 0x20060
def PWR.abortCnt : Nat := 0x20068
def PWR.wakeCnt : Nat := 0x20070

/-- Receiver lane-end index of an address in a receiver block, with its offset (R435). -/
def lrxOf (a : Nat) : Option (Nat × Nat) :=
  if 0x100000 ≤ a ∧ a < 0x122000 then some ((a - 0x100000) / 0x1000, a % 0x1000)
  else if 0x180000 ≤ a ∧ a < 0x1A2000 then some (34 + (a - 0x180000) / 0x1000, a % 0x1000)
  else none

/-- Transmitter lane-end index of an address in a transmitter block, with its offset. -/
def ltxOf (a : Nat) : Option (Nat × Nat) :=
  if 0x140000 ≤ a ∧ a < 0x162000 then some ((a - 0x140000) / 0x1000, a % 0x1000)
  else if 0x1C0000 ≤ a ∧ a < 0x1E2000 then some (34 + (a - 0x1C0000) / 0x1000, a % 0x1000)
  else none

/-- SEV and GRACE of each source after cold reset (R371). -/
def srccfgReset (n : Nat) : Nat :=
  let sev (v gr : Nat) : Nat := v + 256 * gr
  if n < 136 then sev 3 100000
  else if n < 160 then
    match (n - 136) % 12 with
    | 3 | 4 => sev 2 1000000
    | 8 | 11 => sev 4 1000000
    | 9 | 10 => sev 1 1000000
    | _ => sev 3 1000000
  else match n with
    | 160 => sev 0 1000000
    | 161 | 163 | 176 | 177 | 181 => sev 5 1000000
    | 162 | 172 | 178 => sev 3 10000
    | 164 => sev 3 1000
    | 165 | 166 | 169 | 170 | 171 | 173 | 174 | 175 | 179 | 183 => sev 2 1000000
    | 167 | 182 => sev 3 1000000
    | _ => sev 1 1000000

/-- Reset value of receiver offset `o` (R63, R33, R52, R57). LRX_AFE, the step sizes, the taps and
H1 have none in the manual: the adaptation enables read 1 and the rest zero (DESIGN CHOICE, log entry 9). -/
def lrxReset (o : Nat) : Nat :=
  if o = 0x0 then 0x202
  else if o = 0x4 then 0x14C1
  else if o = 0xC then 0xF
  else if o = 0x10 then 60 + 256 * 15 + 65536 * 2
  else if o = 0x14 then 0x20
  else if o = 0x18 then 7 + 0x800
  else if o = 0x20 then 254 + 65536 * 16 + 2 ^ 22
  else if o = 0x30 then 4 + 8 * 64 + 2 ^ 14 * 24
  else if 0x200 ≤ o ∧ o < 0x240 then
    let n := o - 0x200
    n + 256 * (n + 1) + 65536 * (n + 2) + 2 ^ 24 * (n + 3)
  else if o = 0x250 then 0b1001
  else 0

/-- Reset value of transmitter offset `o` (R87, R67). -/
def ltxReset (o : Nat) : Nat :=
  if o = 0x4 then 16 * 8
  else if o = 0xC then 1
  else if o = 0x10 then 200
  else if o = 0x1C then 128 * 256 + 200 * 65536
  else if o = 0x23C then 0x40000000
  else if o = 0x240 then 0x15555555
  else 0

/-- Reset value of a register in the blocks below the lane-ends. -/
def blockReset (a : Nat) : Nat :=
  match a / 0x10000 with
  | 0 =>
    if a = 0 then 0x64340100 + 16 * Config.step.toNat + Config.variant
    else if a = 4 then Config.serial.toNat % 2 ^ 32
    else if a = 8 then Config.serial.toNat / 2 ^ 32
    else if 0x10 ≤ a ∧ a < 0x20 then 0xA
    else if a = 0x34 then 0x3FFF
    else if a = 0x40 then 0x50
    else if a = 0x44 ∨ a = 0x4C then 0x80
    else if 0x100 ≤ a ∧ a < 0x180 ∧ a % 0x20 = 0 then
      16 + 64 + 512 * 8 + 65536 * 60 + 2 ^ 24 * 20
    else if 0x180 ≤ a ∧ a < 0x1C0 ∧ a % 0x10 < 8 then 0x76543210
    else if a = 0x1C4 then 0x4444
    else if a = 0x1C8 then 1
    else 0
  | 1 =>
    if a = 0x10004 then 2
    else if a = 0x10008 then 4
    else if a = 0x10010 then 0x7F
    else if a = 0x10014 then 4
    else if 0x10100 ≤ a ∧ a < 0x103E0 then srccfgReset ((a - 0x10100) / 4)
    else 0
  | 2 =>
    if a = 0x20004 then 4 + 256 * 50 + 65536 * 100
    else if a = 0x20010 then 0x1FF
    else if a = 0x20018 then 1 + 4 + 16 * 10
    else 0
  | 3 => if 0x31000 ≤ a ∧ a < 0x32000 ∧ a % 0x40 = 0x10 then 0x44 else
    if 0x38000 ≤ a ∧ a < 0x38400 ∧ a % 16 = 12 then 1 else 0
  | 4 =>
    if a = 0x40000 then 10 + 256 * 4 + 4096 + 8192 + 16384 * 3
    else if a = 0x40004 then 200
    else if a = 0x40008 then 0xFF
    else if a = 0x40010 then 0x1FF
    else if a = 0x40400 then 1
    else 0
  | 5 => if a = 0x50000 then 1 else if a = 0x50024 then 6 else 0
  | 6 =>
    if a = 0x60000 then 5
    else if a = 0x60004 then 5 + 256 + 65536 * 10
    else if a = 0x60008 then 32 + 256 * 16 + 65536 * 250
    else if a = 0x6000C then 2000
    else if a = 0x60018 then 0x1E
    else 0
  | 7 => if a = 0x70004 then 0x88 else if a = 0x7000C then 7 else 0
  | 8 | 9 =>
    let o := a % 0x10000
    if o = 0xC then 0x9A70FF
    else if o = 0x10 then 0x2222 + 65536 * (1 + 8 + 64 + 512)
    else if 0x100 ≤ o ∧ o < 0x500 ∧ o % 0x100 = 0x14 then 64 + 256 * 32
    else if 0x100 ≤ o ∧ o < 0x500 ∧ o % 0x100 = 0x24 then 2 ^ 21
    else 0
  | 10 => if a = 0xA8000 then 63 + 256 * 20 else if a = 0xA8014 then 7 else 0
  | _ => 0

/-- What the register at address `a` reads as after cold reset (the register tables of the
chapters). MSI-X entries are masked at reset, as the PCIe Base specification states. -/
def regReset (a : Nat) : Word :=
  match lrxOf a with
  | some (_, o) => BitVec.ofNat 32 (lrxReset o)
  | none =>
    match ltxOf a with
    | some (_, o) => BitVec.ofNat 32 (ltxReset o)
    | none => BitVec.ofNat 32 (blockReset a)

end Sys2Proof.Machine
end

