-- ==== Sys2Proof/Machine/State.lean ====
section
/-! DEFINITION. The state of one unit as plain data, the reasons a step can stop, and the state right
after reset. -/

namespace Sys2Proof.Machine

/-- Reasons a step stops with a fault. -/
inductive Fault where
  /-- Raised by `exec` for a command whose operands lie outside what the row can carry (a list
  longer than the field it stands for, an index past its block): no such command exists, so the stop
  is safe (DESIGN CHOICE, log entry 36). -/
  | illFormed
  deriving DecidableEq, Repr

/-- Reasons a step refuses a command. -/
inductive Refusal where
  /-- Raised by `exec` for a row that has no meaning yet: safe. -/
  | notModelled (mnemonic : String)
  deriving DecidableEq, Repr

/-- What the unit sends or drives, in order. The list only grows. -/
inductive Out where
  /-- A memory write of the ring engine: byte address and words, lowest first (R254, R268). -/
  | hostWrite (addr : Nat) (data : List Word)
  /-- A completion to a read request of BAR0 or of configuration space (R238, R468). -/
  | readData (data : List Word)
  /-- A request completed as Unsupported Request, or with Configuration Request Retry Status. -/
  | unsupported
  | retryStatus
  /-- An error message to the host: 0 correctable, 1 non-fatal, 2 fatal (R248). -/
  | errMsg (severity : Nat)
  /-- A read request of the ring engine to host memory: byte address and length (R253, R257, R429). -/
  | hostRead (addr len : Nat)
  | frame (p : OrbPort) (f : Frame)
  /-- A slot that begins with EMPTY (R308, R313): one that the manager leaves, or that a worker makes of a frame it
  consumes. -/
  | emptySlot (p : OrbPort)
  /-- A priority sequence: `lead` 0 QUENCH, 1 ECLIPSE, 2 WAKE, 3 BEACON (R309, R316). -/
  | priority (p : OrbPort) (lead : Nat) (q : PriSeq)
  | mark (p : OrbPort)
  | abort (p : OrbPort)
  | flit (e : Eng) (g : Port) (f : Flit)
  /-- PAM4 levels, 0 the lowest, that the transmitter lane-end i sends in G or F mode, precoded where that has been agreed: a
  marker, or the symbols of a codeword that its lane carries (R91, R116 to R118). -/
  | line (i : Nat) (levels : List Nat)
  /-- A codeword of an Ethernet port in G mode, by its RS symbols (R125, R126). -/
  | codeword (e : Eng) (g : Port) (k : LaneN) (symbols : List Nat)
  /-- The fault fill of an Ethernet port starts on the segment that engine e drives (R102): codewords of continuous Local Fault
  ordered sets with the alignment markers of the port's PMD, of which this is the first. -/
  | faultFill (e g k : Nat) (symbols : List Nat)
  /-- Training frames of a position carry a coefficient status or request (R98, R99). -/
  | coefStatus (i : Nat) (tap : Nat) (code : Nat)
  | coefRequest (i : Nat) (tap : Nat) (step : Int)
  | initRequest (i : Nat) (cond : Nat) (precode : Bool)
  /-- Training frames of a position from here on (R94, R97, R103): receiver-ready signalling, the link word of a CFL
  training, zero on Ethernet, and the polynomial and seed of their PAM4 training pattern. -/
  | training (i : Nat) (ready : Bool) (link : BitVec 64) (pattern : BitVec 32)
  | anPage (g : Nat) (k : Nat) (side : Side) (page : BitVec 48)
  /-- Pins: WAKE_N, FAULT_N (true: driven low), the VID lines, PWR_EN (bit per rail, R408). -/
  | wakeN (low : Bool)
  | faultN (low : Bool)
  | vid (code : Nat)
  | vidFloat               -- the VID lines float: VDDAON is off (R415)
  | pwrEn (mask : Nat)
  /-- The identification register that IDCODE selects (R458). -/
  | idcode (w : Word)
  deriving DecidableEq, Repr

/-- Stages of a descriptor in flight: dispatched and not started, started at its target, and
answered with its effect visible. -/
inductive Stage where
  | held | started | answered
  deriving DecidableEq, Repr

/-- A descriptor in flight (R257, R284). -/
structure Flight where
  idx    : Nat
  desc   : Desc
  order  : Nat        -- dispatch order over all rings
  stage  : Stage
  status : Nat        -- status code of R271, once answered
  result : Nat        -- RESULT bytes 8 to 23 of R270
  src    : Nat        -- Orbit address of the unit that answered
  gen    : Nat        -- the path by which it was sent (R289)
  stamp  : Nat        -- place of its answer among those of the descriptors in flight (R273)
  deriving DecidableEq, Repr

/-- The engine's own state of a ring pair, beside its registers (R257 to R276). -/
structure Ring where
  flights  : List Flight
  copies   : List (Nat × Desc)
  cqHead   : Nat
  ovf      : Bool
  msgRecent : Bool     -- a message for this CQ has gone within the coalescing interval
  msgPend  : Bool
  stalled  : Bool      -- the last fetch stopped on a limit, or a doorbell found no way to read (R241, R260)
  shdDue   : Bool      -- a shadow write waits until the function can issue it (R254)
  deriving DecidableEq, Repr

/-- An EVENT frame that a worker has readied for one event register (R444). -/
structure EvFrame where
  bits  : Word
  epoch : Word
  deriving DecidableEq, Repr

/-- The PCIe function's configuration state (R235, R468). `crs`: configuration requests receive Configuration
Request Retry Status, since no firmware has been ready after the last cold or management reset (R246). The error status
registers are those of the PCIe Base specification (R248; PRESUMED, log entry 41). `crsEnd` is the clock at which a reset
ends retry status at the latest (R246). `status` is the Status register's error bits; `devCtl` the error reporting enables
and `mrrs` the maximum read request size of Device Control (R235). -/
structure Pcie where
  crs       : Bool
  crsEnd    : Option Nat
  memEnable  : Bool
  busMaster  : Bool
  bars       : List Word
  msixEnable : Bool
  msixMask   : Bool
  devStatus  : BitVec 4      -- errors detected: correctable, non-fatal, fatal, unsupported request
  status     : BitVec 16
  devCtl     : BitVec 4      -- report correctable, non-fatal, fatal, unsupported request
  mrrs       : Nat
  aerUncorr  : Word
  aerCorr    : Word
  aerMask    : Word
  aerSev     : Word
  aerCorrMask : Word
  ltr        : Word
  posted     : List (Nat × List Word)   -- writes to host memory that wait until the function can issue them
  deriving DecidableEq, Repr

/-- A key-store slot (R135): the key as a big-endian number, and its epoch. -/
structure Key where
  key   : BitVec 256
  epoch : Nat
  valid : Bool
  deriving DecidableEq, Repr

/-- Who waits for the end of an operation: nobody, a descriptor in flight on this unit's ring, or the
manager, over Orbit, under a request's TAG (R314). -/
inductive Owner where
  | nobody
  | ring (q idx : Nat)
  | orbit (tag : Nat)
  deriving DecidableEq, Repr

/-- Stages of a Crescent swap: the shadow comparison, the wait for a swap window, and the displaced
slice settling on the calibration multiplexer (R35 to R37). -/
inductive SwapStage where
  | compare | window | settle
  deriving DecidableEq, Repr

/-- A pending Crescent swap (R222). `slot` is its target; `forced` says that it goes ahead without a
passing comparison. In `settle`, `slice` is the displaced slice. `periods` counts the marker periods
since the comparison in which a T-mode window found no constant positions (R39). -/
structure Swap where
  slot    : Nat
  slice   : Nat
  stage   : SwapStage
  forced  : Bool
  periods : Nat
  deriving DecidableEq, Repr

/-- States of the CFL marker machine (R120). -/
inductive Mark where
  | hunt | confirm | lock
  deriving DecidableEq, Repr

/-- The requester procedure of R99 on one lane: `step` 0 waits for the initial condition, step n + 1
works on the n-th tap of the order; `best` is in 1/16 dB. -/
structure Req where
  step : Nat
  inc  : Bool
  rev  : Bool
  best : Nat
  deriving DecidableEq, Repr

/-- A receiver lane-end's state beside its registers. -/
structure RxEnd where
  detPend   : Bool          -- a written DET_MODE waits for a marker boundary (R41)
  detCur    : Nat           -- detector in effect
  mainCur   : Nat           -- MAIN_POS in effect (R40)
  pol       : Nat           -- polarity in effect (R31)
  freq      : Int           -- last frequency the CDR held, in 0.01 ppm
  residuals : Sparse Int    -- slot residuals (R37, R45)
  atLimit   : Nat           -- adapted values at a limit: bits 0 to 31 taps, 32 h1, 33 CTLE, 34 VGA
  acquire   : Bool          -- acquisition step sizes (R45)
  starved   : Nat           -- consecutive starved windows (R49)
  clean     : Nat           -- consecutive clean windows (R51)
  windowBad : Bool          -- LOS or a clear CDR_LOCK fell in the current window
  fifo      : Nat           -- elastic FIFO fill (R55)
  mark      : Mark
  good      : Nat
  miss      : Nat
  info      : BitVec 64     -- info word of the last good marker
  arriveNs  : Nat           -- its arrival at the ball
  sinceBad  : Bool          -- a skew above 40 ns keeps the lane erased (R122)
  misnamed  : Bool          -- its markers show neither the map in use nor the agreed one (R175)
  cycling   : Bool          -- a measurement cycle is in progress (R216)
  accepted  : Bool          -- the CRESCENT slice holds an accepted calibration that waits for its swap
  swap      : Option Swap
  order     : List Nat      -- slices by acceptance time, oldest first (R222)
  measured  : Sparse Nat    -- slices with an earlier acceptance: 1 + the sensor reading at it
  blocked   : Option (Nat × Nat)   -- slot B and slice F of R222
  passed    : List Nat      -- slots found not eligible in this episode (R39)
  verdict   : Option Nat    -- slice whose suspect verdict has fallen due (R220)
  holdDone  : Bool          -- HOLD_LIMIT taken in this episode (R223)
  sweep     : Nat           -- swaps left in a sweep; 0 for none (R227)
  fg        : Bool          -- foreground calibration in progress (R228)
  fgDone    : Bool
  stopped   : Bool          -- the rotation has stopped (R34)
  logSeq    : Nat           -- records written to the Crescent log (R233)
  stress    : Bool          -- Ethernet G mode: a codeword of the period needed 2E + F above 24 (R39)
  periods   : Nat           -- T mode: marker periods recorded since marker lock (R39)
  record    : List (Nat × Nat)   -- T mode: symbol and run of periods of each recorded UI position (R39)
  late      : Bool          -- LOCK regained: its symbols are used from the next marker period on (R122)
  marked    : Nat           -- symbols with decisions marked invalid that no codeword has held yet (R39, R55)
  slotRef   : Option Nat    -- clock at the first CDR lock, which fixed slot 0 (R32)
  lastMeas  : Nat           -- bytes 8 to 10 of the record of the last rejected result (R233)
  starting  : Bool          -- its island is starting (R410)
  due       : Bool          -- the verdict fell due while it was not ACTIVE (R232)
  req       : Option Req    -- requester procedure of R99
  deriving DecidableEq, Repr

/-- Steps of a Tx pass (R224). -/
inductive PassStep where
  | replica | redundant | serving
  deriving DecidableEq, Repr

/-- A transmitter lane-end's state beside its registers. -/
structure TxEnd where
  commitSet : Option (List Int × Nat)   -- taps and amplitude of a COMMIT that waits (R72)
  taps     : List Int       -- the training engine's taps, by place (R90)
  pol      : Nat
  precode  : Nat            -- precoding agreed in training (R91)
  last     : Nat            -- last precoded symbol sent
  comet    : Bool           -- the power controller requests Comet (R74)
  idleHold : Bool           -- IDLE until the far incoming segment locks (R401)
  fifo     : Nat            -- transmit FIFO fill (R77)
  cellPend : List Nat       -- suspect cells that wait for the next boundary (R68)
  bias     : Int            -- amplitude bias in effect, in 0.1 % (R224)
  pass     : Option PassStep
  again    : Bool           -- a further pass is owed by a sweep (R227)
  asked    : Bool           -- a further pass is owed by a request (R231)
  passCell : Nat            -- next cell of the pass
  lent     : Option (Nat × Nat)    -- cell lent out, and the cell that stands in for it
  measured : Sparse Nat     -- cells and the replica (271) with an earlier acceptance
  lastMeas : Sparse Nat     -- by element, bytes 8 to 10 of the record of its last rejected result (R233)
  verdicts : List Nat       -- cells, or 271 for the replica, whose verdict has fallen due
  repDone  : Bool           -- the replica is suspect (R220)
  fg       : Bool
  fgDone   : Bool
  starting : Bool
  dues     : List Nat       -- verdicts that fell due while it was not ACTIVE
  deriving DecidableEq, Repr

/-- A segment's training state beside its registers (R94). Sets of positions are bit masks. -/
structure Seg where
  locked   : Nat
  ready    : Nat            -- own receiver ready
  farReady : Nat
  inverted : Nat
  links    : Sparse (BitVec 64)
  txMap    : List Nat       -- map its transmitters use, in the codes of GLB_LMAP; empty: GLB_LMAP
  rxMap    : List Nat       -- map its receivers show; empty: GLB_LMAP
  agreed   : List Nat       -- map of a failed change that the partner may still switch to (R178); empty: none
  fill     : Bool           -- this segment sends fault fill (R102)
  cfg      : Word           -- GLB_TRN_CFG as the attempt took it (R115)
  anDone   : Bool
  anBreak  : Bool           -- the break-link time runs
  cw       : Bool           -- Ethernet: codeword lock of the port's incoming stream (R123)
  cwEver   : Bool           -- Ethernet: it has been gained since the entry to UP
  deriving DecidableEq, Repr

/-- A held flit: the flit as received or as stored, when its first UI arrived, and what its parse
found (R138, R195). -/
structure Held where
  flit   : Flit
  arrive : Nat              -- ps
  pids   : List Nat         -- PIDs of the transactions with a word in it
  unknown : Bool            -- it holds unknown words (R139)
  tagBad : Bool             -- rewritten as POISON under R136
  deriving DecidableEq, Repr

/-- A replay slot (R155). -/
structure Slot where
  held     : Held
  seq      : Nat
  count    : Nat
  valid    : Bool
  released : Bool
  poisoned : Bool
  deriving DecidableEq, Repr

/-- A flit queued for insertion toward the outgoing partner (R160 item 2). A SNAK or pure SACK is
built when it leaves, from the peer engine's RX_NEXT. -/
inductive Ins where
  | snak
  | pureSack
  | abandon (first reason origin : Nat)
  | lanemap (word : BitVec 64)
  deriving DecidableEq, Repr

/-- A message on the cross-engine control path (R156, R157). -/
inductive XMsg where
  | sack (n : Nat)
  | snak (first count : Nat) (goBack : Bool)
  deriving DecidableEq, Repr

/-- The transaction left open by the last DATA flit: words still to come, PID and traffic class. -/
structure Open where
  left : Nat
  pid  : Nat
  tc   : Nat
  deriving DecidableEq, Repr

/-- One engine's state of one port, beside its registers. Its incoming segment is the engine's
incoming side. -/
structure EngPort where
  accepted  : Bool          -- a flit has been accepted since the release
  sackOut   : Nat           -- segment acknowledgement toward the incoming partner (R152)
  sackSlots : Nat           -- slots sent to the incoming partner since the last SACK
  timer     : Bool          -- NAK timer running
  outAbandon : Option Nat   -- F of an outgoing abandon not yet accepted again (R157)
  slots     : List Slot     -- replay buffer, oldest first
  queue     : List (Nat × Nat)     -- replay queue: first SEQ and length
  replay    : List Nat      -- SEQs of the replay in progress still to be sent
  defer     : List Held
  ins       : List Ins
  fresh     : Option Held   -- a newly accepted flit that waits for its slot
  slackRun  : Nat           -- slots sent since the last SLACK flit
  slackGap  : Nat           -- flits received since the last SLACK flit (R148)
  slackSpan : Nat           -- flits received since the last but one
  openTx    : Option Open
  lost      : Bool          -- unknown words until the resuming flit (R139)
  rxLaps    : Nat
  txLaps    : Nat
  tagMode   : Nat           -- TAG_MODE in force (R133)
  xpath     : List XMsg
  cwEver    : Bool          -- codeword lock has been gained since the release (R94)
  cwIndex   : Nat           -- CW_INDEX of the next codeword received (R117)
  evenOk    : Option Bool   -- the even codeword of the pair that arrives was correctable (R117)
  flitOk    : List Bool     -- flits of decoded pairs still to be received: all their codewords were correctable
  pack      : List Flit     -- flits sent that wait for their codeword pair to be full (R117)
  txPeriod  : Nat           -- PERIOD of the marker period sent (R118, R125)
  txIndex   : Nat           -- CW_INDEX of the next codeword sent
  mapq      : List (BitVec 64)     -- payload words of received LANEMAP flits, oldest first
  deriving DecidableEq, Repr

/-- Stages of a lane training (R112, R174). -/
inductive LtStage where
  | training | trained | shadow
  deriving DecidableEq, Repr

/-- A lane training, or the shadow copy that follows it, of a position for logical lane `lane` of port
`g` (R112, R174). -/
structure LaneTrain where
  g     : Nat
  lane  : Nat
  stage : LtStage
  ready : Bool                   -- own receiver ready
  far   : Bool                   -- the partner's receiver ready
  link  : Option (BitVec 64)     -- link word of the last training frame
  kept  : Bool                   -- kept for its lane, which a narrow has dropped (R186)
  idle  : Bool                   -- a restored position that no lane would take: trained and not kept for its lane (R187)
  deriving DecidableEq, Repr

/-- Kinds of map change (R182). -/
inductive ChangeKind where
  | move | narrow | widen
  deriving DecidableEq, Repr

/-- One segment's part of a map change: its new map in the codes of GLB_LMAP, the SRC word of its
proposal, and what has happened to it. -/
structure Part where
  side : Nat
  map  : List Nat
  src  : Nat
  acc  : Bool        -- ACCEPT received, or the switch observed (R178)
  tx   : Bool        -- the transmitters on the segment have switched
  rx   : Bool        -- the receivers on the segment have switched (R175)
  sends : Nat        -- PROPOSE flits sent (R178)
  deriving DecidableEq, Repr

/-- A map change in progress. `told` says that in G mode the partner's NOTICE has passed (R179). -/
structure Change where
  kind  : ChangeKind
  width : Nat
  parts : List Part
  id    : Nat
  told  : Bool
  deriving DecidableEq, Repr

/-- What a port's sparing logic has been asked to do. -/
inductive Task where
  | move        -- one lane to a position (escalation, or LANE_SWAP SWAP)
  | narrow      -- exclude the lanes of `mask`
  | widen       -- toward the target width
  | retrain     -- the steps of R113
  | full        -- CAL_REQ FULL: R113 with a foreground calibration (R231)
  | loopback    -- spare a lane out for a BIST slice and back (R379)
  | giveBack    -- bring a lane back from a held spare after R27 (R184)
  | restore     -- LANE_SWAP RESTORE
  | asked       -- a partner's PROPOSE taken as a request (R178)
  deriving DecidableEq, Repr

/-- A task of a port's sparing logic. `step` counts its stages; `spare` and `home` are positions; `mask` are the lanes
of a narrow, or the positions that a RESTORE trains; `esc` marks an escalation, whose failed position is `home`; `erased`
marks one whose lane was erased. -/
structure Job where
  task   : Task
  side   : Nat
  lane   : Nat
  mask   : Nat
  src    : Nat
  width  : Nat
  toPos  : Nat           -- 0 chosen under R173, 1 P32, 2 P33
  owner  : Owner
  step   : Nat
  spare  : Nat
  home   : Nat
  esc    : Bool
  erased : Bool
  soft   : Bool          -- its only cause is ERASED: the position is not isolated (R358)
  deriving DecidableEq, Repr

/-- A port group's sparing and low-power state beside its registers. -/
structure PortRec where
  jobs     : List Job          -- the first is in progress
  change   : Option Change
  retry    : List Job          -- escalations to be tried again 1 ms after MAP_FAIL (R183)
  nextId   : Nat
  channel  : Nat               -- failed marks set by channel faults, by `chanBit`
  former   : List (Nat × Nat)  -- 8 × side + lane and the position that carried it before its narrow (R182)
  lpReq    : Nat               -- engines that forwarded an ENTER_REQ, by bit (R400)
  owed     : Option Bool       -- a widen is owed after a narrow by escalation, whether of an erased lane (R172, R183)
  wake     : Nat               -- segments on which a wake was detected, by side (R401)
  moves    : List (Nat × Nat)  -- 8 × side + port key and identifier of moves that a retrain carries out (R179, R180)
  deriving DecidableEq, Repr

/-- A host calibration request in progress (R231): lane-end indices still to finish, and those skipped.
`tx` says that they are transmitters; `begun` is false while calibration is suspended. -/
structure CalReq where
  owner   : Owner
  tx      : Bool
  left    : List Nat
  skipped : Nat
  begun   : Bool
  deriving DecidableEq, Repr

/-- Stages of a BIST slice (R379, R381): not started, waiting for its lane to reach a spare, waiting for its
lane-ends to become usable, bank copy, in test, and waiting for its lane's return. -/
inductive BistStage where
  | waiting | moving | copying | testing | returning
  deriving DecidableEq, Repr

/-- A BIST slice word (R375). -/
structure BistSlice where
  kind   : Nat
  sel    : Nat
  budget : Nat
  deriving DecidableEq, Repr

/-- A BIST list, running or waiting (R376); `accepted` tells that its preconditions have been checked. `sq` is the ring and index that record tags name; `addr` the
RESULT address; the counts are those of R388. -/
structure BistRun where
  owner   : Owner
  accepted : Bool
  slices  : List BistSlice
  addr    : Nat
  sq      : Nat
  sqIdx   : Nat
  k       : Nat
  stage   : BistStage
  pass    : Nat
  fail    : Nat
  timeout : Nat
  verdict : Nat             -- of the slice whose lane is on its way back
  detail  : Nat
  us      : Nat
  deriving DecidableEq, Repr

/-- A Tx PLL: the frequency it follows or holds, in 0.01 ppm, and whether PLL_HOLDOVER has been raised
in the present holdover (R82). -/
structure Pll where
  freq   : Int
  warned : Bool
  deriving DecidableEq, Repr

/-- Phases of the power controller (R392, R408, R411): RESET_N low or no supply; OFF; rails down after a
failed attempt, before the retry or for good; stage 1 to 4 of a power-up; RUN or IDLE; step 1 to 5 of an
entry; SLEEP; DEEP. -/
inductive Phase where
  | held | off | retry | failed
  | stage (k : Nat)
  | run
  | entry (k : Nat)
  | sleep | deep
  deriving DecidableEq, Repr

/-- Steps of a voltage and frequency change (R414). -/
inductive Dvfs where
  | idle
  | raising        -- VID raised, VREADY awaited
  | settling       -- voltage-ready seen, 20 µs to the clock
  | lowering       -- the clock is being lowered
  deriving DecidableEq, Repr

/-- The power controller's state beside its registers. `rails` holds the asserted PWR_EN bits in the order
of R408; `origin` is 0 for a cold start, 1 from DEEP, 2 from SLEEP, 3 from an abandoned entry; `goal` is the
TARGET that an entry pursues; `wake` a wake source (kind, lane, WKIND) that has acted during an entry; `held` an
entry request of a power-up; `point` the core point of the change in progress; `next` says that a new DVFS target
waits for it; `safeDue` that a global escalation fell in an entry. `okVid` is the VID code that the last voltage-ready
indication confirms (R414). `wakeAt` and `entryAt` are the clock at which a wake source last acted and at which an entry
last began, for the happenings of one cycle (R412). -/
structure Pwr where
  phase    : Phase
  origin   : Nat
  rails    : Nat
  attempts : Nat
  upFail   : Bool
  goal     : Nat
  wake     : Option (Nat × Nat × Nat)
  held     : Bool
  dvfs     : Dvfs
  point    : Nat
  next     : Bool
  safeDue  : Bool
  okVid    : Nat
  wakeAt   : Option Nat
  entryAt  : Option Nat
  deriving DecidableEq, Repr

/-- The management core (R392, R428): halted or not booted, booting, or ready. -/
inductive CoreSt where
  | stopped | booting | ready
  deriving DecidableEq, Repr

/-- An FW_LOAD (R429). `image` are the bytes received so far of a WRITE at a worker; `frames` counts data frames since the last
acknowledgement. `target` is the slot of an ACTIVATE. -/
structure FwLoad where
  owner    : Owner
  activate : Bool
  length   : Nat
  image    : List Byte
  frames   : Nat
  target   : Nat
  deriving DecidableEq, Repr

/-- A copy of the boot control block (R427): its sequence number, the active slot, the TRIAL flag, and whether its CRC-32 is
good. -/
structure BootBlock where
  seq   : Nat
  slotB : Bool
  trial : Bool
  good  : Bool
  deriving DecidableEq, Repr

/-- The flash contents as R427 and R428 use them: which slots hold a valid image (bit 0 slot A, bit 1 slot B), and the two
copies of the boot control block. -/
structure Flash where
  valid : Nat
  copy0 : BootBlock
  copy1 : BootBlock
  deriving DecidableEq, Repr

/-- The copy with the higher sequence number and a good CRC governs (R427). -/
def Flash.governs (f : Flash) : BootBlock :=
  if f.copy1.good && (!f.copy0.good || decide (f.copy0.seq < f.copy1.seq)) then f.copy1 else f.copy0

/-- The active slot: 0 for A, 1 for B. -/
def Flash.active (f : Flash) : Nat := boolNat f.governs.slotB

/-- The active slot holds a trial image. -/
def Flash.trial (f : Flash) : Bool := f.governs.trial

/-- A new boot control block goes into the copy that does not govern (R427). -/
def Flash.write (f : Flash) (active : Nat) (trial : Bool) : Flash :=
  let b : BootBlock := { seq := f.governs.seq + 1, slotB := decide (active = 1), trial := trial, good := true }
  if f.copy1.good && (!f.copy0.good || decide (f.copy0.seq < f.copy1.seq)) then { f with copy0 := b }
  else { f with copy1 := b }

/-- The flash with one slot named by copy 0, and no good copy beside it. -/
def Flash.of (valid active : Nat) (trial : Bool) : Flash :=
  { valid := valid, copy0 := ⟨1, decide (active = 1), trial, true⟩, copy1 := ⟨0, false, false, false⟩ }

/-- The management core's own state beside its registers. `cold` says that the boot follows a cold start, so
that the configuration record is due; `record` holds its entries still to be applied (R430); `waiting` holds the
operations of OP frames that wait for firmware, each with its TAG (R314). -/
structure Core where
  st     : CoreSt
  cold   : Bool
  trialRun : Bool        -- the image that boots is a trial image
  record : List (BitVec 64)
  loads  : List FwLoad   -- the first is in progress
  repaired : List (Sram × Nat)   -- SRAM rows mapped to spare rows (R426)
  waiting : List (Nat × Desc)
  deriving DecidableEq, Repr

/-- The fault collector's state beside its registers: ERASED escalations held (R359), escalations due after
DEEP or an entry (R370, R412), sources that have acted globally since the safe state was entered (R365), pairs in
a wiring fault (R354), words with bad parity (R368; bit 184 stands for FLT_CFG), and whether FAULT_N is driven
low. -/
structure Flt where
  held   : List Nat
  due    : List Nat
  taken  : Nat
  wiring : Nat
  parity : Nat
  low    : Bool
  deriving DecidableEq, Repr

/-- A manager's request on Orbit that has not been answered (R315). `got` counts registers answered; `image`
are the bytes of a firmware image and `next` the offset up to which they have been sent (R429). -/
structure OrbReq where
  tag      : Nat
  target   : Nat
  q        : Nat
  idx      : Nat
  accepted : Bool
  got      : Nat
  next     : Nat
  image    : List Byte
  deriving DecidableEq, Repr

/-- A priority sequence of the manager that has not returned on every port it left by (R316, R317), or a BCAST
frame, whose `tag` names it. `applied` and `refused` are the counts of the
ports on which it has returned. -/
structure PriOut where
  lead    : Nat          -- 0 QUENCH, 1 ECLIPSE, 2 WAKE, 3 a BCAST frame
  tag     : Nat
  data    : List Byte    -- the characters before CHK, or the frame's payload
  ports   : List OrbPort
  mine    : Option Nat   -- the manager took part: the status of its own part
  gen     : Nat          -- the path by which it was sent
  tries   : Nat
  applied : Nat
  refused : Nat
  rstat   : Nat
  owner   : Owner
  deriving DecidableEq, Repr

/-- What the manager's chain sequencer is doing (R321, R322, R325, R327). -/
inductive SeqSt where
  | idle
  | enum (retry : Bool) (ports : List OrbPort)
  | measure (todo : List (Nat × Bool))
  | fold (ports : List OrbPort)
  | healWait
  | healMap
  deriving DecidableEq, Repr

/-- A unit's Orbit state beside its registers. The lists by address are the manager's. -/
structure Orbit where
  claimed  : Bool
  probed   : Bool
  restored : Nat                   -- wrapped ports that are restored: bit 0 U, bit 1 D
  serials  : Sparse (BitVec 64)    -- by address
  asked    : List Nat              -- addresses whose ASSIGN is to be acknowledged
  loop     : Nat                   -- relays that the last ENUM or MAP passed that came back round the intact ring
  reqs     : List OrbReq
  pris     : List PriOut
  seq      : SeqSt
  beacons  : Nat                   -- beacon periods so far
  slots    : Sparse Nat            -- the manager's frames since the last EMPTY slot, by port (R308)
  delays   : Sparse (Nat × Nat)    -- forward and reverse delay measured, by address, in 0.05 ns
  maps     : List (Nat × Bool)     -- bitmaps returned in the present fold, each with whether it left on U
  healOwed : Bool                  -- a heal has been asked for
  lapsed   : List (Nat × OrbReq)   -- requests that timed out in this cycle, with its clock (R330)
  remeasure : Bool                 -- a measurement is owed after the present activity
  enumOwed : List Bool             -- enumerations owed, each with its RETRY
  gen      : Nat                   -- changes of path since cold reset (R289)
  deriving DecidableEq, Repr

/-- A capture scheduled for its instant t_c, `wait` × 0.05 ns after its lead came or left (R323, R337). -/
structure Shot where
  epoch   : Word
  untimed : Bool
  hops    : Nat
  port    : OrbPort
  wait    : Nat
  deriving DecidableEq, Repr

/-- A snapshot bank (R341, R343): its header words and the registers as latched. -/
structure Bank where
  head : List Word
  regs : Sparse Word
  deriving DecidableEq, Repr

/-- A telemetry stream beside its registers (R345 to R349): its start, and the record that waits for a
slot. -/
structure Stream where
  t0     : Nat
  missed : Bool
  wait   : Option (List Byte × List Byte)
  deriving DecidableEq, Repr

/-- A telemetry head that waits for its tail at the manager (R348). -/
structure Half where
  src    : Nat
  stream : Nat
  rseq   : Nat
  body   : List Byte
  deriving DecidableEq, Repr

/-- One TPN-6434 unit. -/
structure State where
  pending : List Instr
  clock   : Nat
  freeCtr : Nat
  regs    : Sparse Word
  latch   : Word
  out     : List Out
  pcie    : Pcie
  rings   : Sparse Ring
  dispatched : Nat
  fenceHeld : Bool
  evFrames : Sparse EvFrame
  rx      : Sparse RxEnd
  tx      : Sparse TxEnd
  segs    : Sparse Seg
  engs    : Sparse EngPort
  lts     : Sparse (Option LaneTrain)
  ports   : Sparse PortRec
  waitq   : List Frame      -- this unit's own frames that wait for a slot (R313)
  plls    : Sparse Pll
  calSeq  : Nat             -- records written to CAL_LOG (R233)
  calReqs : List CalReq
  rejects : List (Nat × Nat)   -- recent rejects: lane-end (68 and up transmitters) and clock (R229)
  dwell   : Nat             -- sensors in DWELL, by bit (R226)
  causes  : Nat             -- sources whose cause is present, by bit (R353)
  grace   : Nat             -- sources whose grace timer runs, by bit (R356)
  isolated : Nat            -- isolated positions by lane-end index (R358, R380)
  keys    : Sparse Key      -- by (2 × side + slot) × 4 + port (R135)
  bist    : List BistRun    -- the first is running
  bistHeld : Nat            -- positions held by a BIST slice, by lane-end index (R398)
  pwr     : Pwr
  jtag     : JtagInstr      -- the JTAG instruction that acts (R458)
  core    : Core
  flash   : Flash
  flt     : Flt
  orbit   : Orbit
  shot    : Option Shot
  banks   : Sparse Bank
  streams : Sparse Stream
  halves  : List Half
  teleCq  : Sparse Nat      -- CQ of worker streams, by 16 × address + stream, as the manager sent their starts
  ecliDone : List (Nat × Nat × Nat × Nat)   -- returned ECLIPSEs: ring, index, status, RESULT (R340)
  ringReset : Bool          -- a reset of the ring engine is in progress (R278)
  pages   : Nat             -- host pages set: bit 0 index, bit 1 shadow (R283)
  deriving DecidableEq, Repr

/-- A ring with nothing in flight. -/
def Ring.idle : Ring :=
  { flights := [], copies := [], cqHead := 0, ovf := false, msgRecent := false, msgPend := false,
    stalled := false, shdDue := false }

/-- The function's configuration state after a reset: nothing enabled, no BAR set; the fields of the error registers and of
Device Control as the PCIe Base specification resets them (PRESUMED, log entry 41). -/
def Pcie.reset : Pcie :=
  { crs := true, crsEnd := none, memEnable := false, busMaster := false, bars := [0, 0, 0, 0, 0, 0], msixEnable := false,
    msixMask := false, devStatus := 0, status := 0, devCtl := 0, mrrs := 2, aerUncorr := 0, aerCorr := 0,
    aerMask := 0x00400000, aerSev := 0x00462030, aerCorrMask := 0x0000E000, ltr := 0, posted := [] }

/-- A receiver lane-end after cold reset: slices 0 to 64 in their order, nothing measured (DESIGN CHOICE, log
entry 29, as for the records below). -/
def RxEnd.reset : RxEnd :=
  { detPend := false, detCur := 1, mainCur := 7, pol := 0, freq := 0, residuals := [], atLimit := 0,
    acquire := false, starved := 0, clean := 0, windowBad := true, fifo := 128, mark := .hunt,
    good := 0, miss := 0, info := 0, arriveNs := 0, sinceBad := false, misnamed := false, cycling := false,
    accepted := false, swap := none, order := [], measured := [], blocked := none, passed := [],
    verdict := none, holdDone := false, sweep := 0, fg := false, fgDone := false, stopped := false,
    logSeq := 0, stress := false, periods := 0, record := [], late := false, marked := 0,
    slotRef := none, lastMeas := 0, starting := false, due := false, req := none }

/-- A transmitter lane-end after cold reset. -/
def TxEnd.reset : TxEnd :=
  { commitSet := none, taps := [0, 0, 0, 0, 0], pol := 0, precode := 0, last := 0, comet := false,
    idleHold := false, fifo := 128, cellPend := [], bias := 0, pass := none, again := false, asked := false, passCell := 0,
    lent := none, measured := [], lastMeas := [], verdicts := [], repDone := false, fg := false, fgDone := false,
    starting := false, dues := [] }

/-- A segment that is OFF. -/
def Seg.off : Seg :=
  { locked := 0, ready := 0, farReady := 0, inverted := 0, links := [], txMap := [], rxMap := [],
    agreed := [],
    fill := false, cfg := 0, anDone := false, anBreak := false,
    cw := false, cwEver := false }

/-- A port with nothing in progress. -/
def PortRec.idle : PortRec :=
  { jobs := [], change := none, retry := [], nextId := 1, channel := 0, former := [], lpReq := 0, owed := none,
    wake := 0, moves := [] }

/-- An engine's state of a port before a release. -/
def EngPort.empty : EngPort :=
  { accepted := false, sackOut := 0xFFF, sackSlots := 0, timer := false, outAbandon := none,
    slots := [], queue := [], replay := [], defer := [], ins := [], fresh := none, slackRun := 0,
    slackGap := 0, slackSpan := 0, openTx := none, lost := false, rxLaps := 0, txLaps := 0,
    tagMode := 0, xpath := [], cwEver := false,
    cwIndex := 0, evenOk := none, flitOk := [], pack := [], txPeriod := 0, txIndex := 0, mapq := [] }

/-- The power controller while RESET_N is low (R420). -/
def Pwr.reset : Pwr :=
  { phase := .held, origin := 0, rails := 0, attempts := 0, upFail := false, goal := 0, wake := none,
    held := false, dvfs := .idle, point := 1, next := false, safeDue := false, okVid := 10, wakeAt := none,
    entryAt := none }

/-- A core that has not booted. -/
def Core.reset : Core :=
  { st := .stopped, cold := true, trialRun := false, record := [], loads := [], repaired := [], waiting := [] }

/-- The flash as the board programs it: a first image in slot A (R427; DESIGN CHOICE, log entry 3). -/
def Flash.first : Flash := Flash.of 1 0 false

/-- The collector after a cold reset. -/
def Flt.reset : Flt := { held := [], due := [], taken := 0, wiring := 0, parity := 0, low := false }

/-- Orbit after a cold reset. -/
def Orbit.reset : Orbit :=
  { claimed := false, probed := false, restored := 0, serials := [], asked := [], reqs := [], pris := [],
    seq := .idle, beacons := 0, slots := [], delays := [], maps := [], healOwed := false, lapsed := [], loop := 0, remeasure := false,
    enumOwed := [], gen := 0 }

/-- A bank that holds nothing. -/
def Bank.empty : Bank := { head := [], regs := [] }

/-- A stream that is not active. -/
def Stream.idle : Stream := { t0 := 0, missed := false, wait := none }

/-- The unit just after a cold reset. -/
def State.reset : State :=
  { pending := [], clock := 0, freeCtr := 0, regs := [], latch := 0, out := [], pcie := Pcie.reset,
    rings := [], dispatched := 0, fenceHeld := false, evFrames := [],
    rx := [], tx := [], segs := [], engs := [], lts := [], ports := [], waitq := [],
    plls := [], calSeq := 0, calReqs := [], rejects := [], dwell := 0, causes := 0, grace := 0,
    isolated := 0, keys := [], bist := [], bistHeld := 0, pwr := Pwr.reset, jtag := .idcode,
    core := Core.reset, flash := Flash.first, flt := Flt.reset, orbit := Orbit.reset, shot := none,
    banks := [], streams := [], halves := [], teleCq := [], ecliDone := [], ringReset := false, pages := 0 }

end Sys2Proof.Machine
end

