-- ==== Sys2Proof/Machine/Ops.lean ====
section
/-! DEFINITION. The named operations over the register store, the counters, the outputs and the free
values. Every register has one home, `State.regs`, and is read and written here. -/

namespace Sys2Proof.Machine

/-- The register at address `a`, as the hardware holds it. -/
def State.reg (s : State) (a : Nat) : Word := Sparse.get (regReset a) s.regs a

/-- The hardware sets the register at address `a`. -/
def State.setReg (s : State) (a : Nat) (w : Word) : State :=
  { s with regs := Sparse.set (regReset a) s.regs a w }

/-- The value of a register field. -/
def State.get (s : State) (f : Fld) : Nat := bitsOf (s.reg f.addr).toNat f.lo f.len

/-- The hardware sets a register field; the register's other bits stay. -/
def State.put (s : State) (f : Fld) (v : Nat) : State :=
  s.setReg f.addr (BitVec.ofNat 32 (putBits (s.reg f.addr).toNat f.lo f.len v))

/-- A field that reads other than zero. -/
def State.on (s : State) (f : Fld) : Bool := decide (s.get f ≠ 0)

/-- The signed value of a field. -/
def State.getInt (s : State) (f : Fld) : Int := signedOf f.len (s.get f)

/-- Sets a field to a signed value, held within the range of the field. -/
def State.putInt (s : State) (f : Fld) (v : Int) : State :=
  s.put f (ofSigned f.len (clampInt (-(2 ^ (f.len - 1))) (2 ^ (f.len - 1) - 1) v))

/-- The JTAG instructions that take control of the pins (R458). -/
def drivesPins (i : JtagInstr) : Bool :=
  match i with
  | .bypass | .idcode | .samplePreload => false
  | .extest | .extestPulse | .extestTrain | .clamp | .highz => true

/-- A JTAG instruction holds the pins (R458). -/
def State.jtagPins (s : State) : Bool := drivesPins s.jtag

/-- Returns the registers to their reset values. -/
def State.resetReg (s : State) (a : Nat) : State := s.setReg a (regReset a)

/-- A state with one change made only where a condition holds. -/
def State.when (s : State) (c : Bool) (f : State → State) : State := if c then f s else s

/-- Applies a change for each element of a list in turn. -/
def State.each {α : Type} (s : State) (l : List α) (f : α → State → State) : State :=
  l.foldl (fun t x => f x t) s

/-- The value of a 48-bit or 64-bit counter: its low word and, 4 bytes above, its high word (R61). -/
def State.counter (s : State) (a : Nat) : Nat := (s.reg a).toNat + 2 ^ 32 * (s.reg (a + 4)).toNat

/-- Sets both words of a counter. -/
def State.setCounter (s : State) (a v : Nat) : State :=
  (s.setReg a (BitVec.ofNat 32 v)).setReg (a + 4) (BitVec.ofNat 32 (v / 2 ^ 32))

/-- Adds to a 48-bit wrapping counter (R61). -/
def State.countBy (s : State) (a n : Nat) : State :=
  s.setCounter a ((s.counter a + n) % 2 ^ 48)

/-- Adds one to a 48-bit wrapping counter. -/
def State.count (s : State) (a : Nat) : State := s.countBy a 1

/-- Adds one to a 32-bit saturating count (R274, R351). -/
def State.satCount (s : State) (a : Nat) : State :=
  s.setReg a (BitVec.ofNat 32 (satSucc (2 ^ 32 - 1) (s.reg a).toNat))

/-- Adds an output. -/
def State.emit (s : State) (o : Out) : State := { s with out := s.out ++ [o] }

/-- The unit drives PWR_EN, VID, FAULT_N or WAKE_N. While a JTAG instruction holds the pins they carry what it does (R458). -/
def State.drive (s : State) (o : Out) : State := if s.jtagPins then s else s.emit o

/-- What PWR_EN, VID and FAULT_N carry once the unit drives its pins again. -/
def State.pinLevels (s : State) : State :=
  ((s.emit (.pwrEn s.pwr.rails)).emit (.vid (s.get PWR.vid))).emit (.faultN s.flt.low)

/-- The unit takes its pins back (R458): the instruction acts as BYPASS from then on. -/
def State.pinsBack (s : State) : State := if s.jtagPins then ({ s with jtag := .bypass }).pinLevels else s

/-- A value that the manual leaves open: fresh at each use (DESIGN CHOICE, log entry 6). -/
def State.free (s : State) : Word := Config.freeWord s.freeCtr

/-- Counts one use of a free value. -/
def State.useFree (s : State) : State := { s with freeCtr := s.freeCtr + 1 }

/-- The unit is the manager of its chain (R318): the latched ROLE strap. -/
def State.manager (s : State) : Bool := s.on GLB.strapRole

/-- Microseconds since cold reset: the unit's clock counts 1.6 ns ticks (R343, DESIGN CHOICE, log entry 10). -/
def State.us (s : State) : Nat := s.clock / 625

/-- The engine's record of ring q. -/
def State.ring (s : State) (q : Nat) : Ring := Sparse.get Ring.idle s.rings q

/-- Changes the engine's record of ring q. -/
def State.updRing (s : State) (q : Nat) (f : Ring → Ring) : State :=
  { s with rings := Sparse.set Ring.idle s.rings q (f (s.ring q)) }

/-- A receiver lane-end's state beside its registers, by lane-end index. -/
def State.rxe (s : State) (i : Nat) : RxEnd := Sparse.get RxEnd.reset s.rx i

def State.updRx (s : State) (i : Nat) (f : RxEnd → RxEnd) : State :=
  { s with rx := Sparse.set RxEnd.reset s.rx i (f (s.rxe i)) }

/-- A transmitter lane-end's state beside its registers. -/
def State.txe (s : State) (i : Nat) : TxEnd := Sparse.get TxEnd.reset s.tx i

def State.updTx (s : State) (i : Nat) (f : TxEnd → TxEnd) : State :=
  { s with tx := Sparse.set TxEnd.reset s.tx i (f (s.txe i)) }

/-- Applies a change to the listed receiver lane-ends. -/
def State.mapRx (s : State) (f : RxEnd → RxEnd) : State :=
  { s with rx := s.rx.filterMap (fun x => if f x.2 = RxEnd.reset then none else some (x.1, f x.2)) }

/-- Applies a change to the listed transmitter lane-ends. -/
def State.mapTx (s : State) (f : TxEnd → TxEnd) : State :=
  { s with tx := s.tx.filterMap (fun x => if f x.2 = TxEnd.reset then none else some (x.1, f x.2)) }

/-- Applies a change to the listed registers. -/
def State.mapRegs (s : State) (f : Nat → Word → Word) : State :=
  { s with regs := s.regs.filterMap (fun x =>
      if f x.1 x.2 = regReset x.1 then none else some (x.1, f x.1 x.2)) }

/-- Key of the segment of port k of group g on side `sd`. -/
def segKey (g sd k : Nat) : Nat := (2 * g + sd) * 8 + k

/-- A segment's training state beside its registers. -/
def State.seg (s : State) (g sd k : Nat) : Seg := Sparse.get Seg.off s.segs (segKey g sd k)

def State.updSeg (s : State) (g sd k : Nat) (f : Seg → Seg) : State :=
  { s with segs := Sparse.set Seg.off s.segs (segKey g sd k) (f (s.seg g sd k)) }

/-- Engine e's state of port g. -/
def State.eng (s : State) (e g : Nat) : EngPort := Sparse.get EngPort.empty s.engs (4 * e + g)

def State.updEng (s : State) (e g : Nat) (f : EngPort → EngPort) : State :=
  { s with engs := Sparse.set EngPort.empty s.engs (4 * e + g) (f (s.eng e g)) }

/-- The cause of source n is present (R353). -/
def State.causeOn (s : State) (n : Nat) : State := { s with causes := s.causes ||| 2 ^ n }

/-- The cause of source n ends: FLT_LIVE follows it, its grace timer stops and a held escalation lapses
(R355, R356, R359). A pair in a wiring fault keeps the cause present (R354). -/
def State.causeOff (s : State) (n : Nat) : State :=
  let t := { s with causes := s.causes &&& (2 ^ 184 - 1 - 2 ^ n) }
  if s.flt.wiring.testBit n then t
  else ({ t with
    grace := s.grace &&& (2 ^ 184 - 1 - 2 ^ n),
    flt := { s.flt with held := s.flt.held.filter (fun m => decide (m ≠ n)) } }).put (FLT.live n) 0

/-- The lane-end of source n is ACTIVE: the island that its pair comes from is powered (R354, R397). -/
def State.leUp (s : State) (n : Nat) : Bool :=
  decide (s.get (if n < 68 then LRX.pwr n else LTX.pwr (n - 68)) = 2)

/-- Cause bits of a lane-end source that its own circuits report, over a pair that isolation holds at no fault unless the
lane-end is ACTIVE (R354): SLICE_EXHAUSTED, CELL_EXHAUSTED and REPLICA_SUSPECT. The others are set by logic that R358 and R380
let report for lane-ends that are DARK (DESIGN CHOICE, log entry 20). -/
def leOwn : Nat := 3

/-- A cause bit of a lane-end source stands that the collector sees. -/
def State.leSeen (s : State) (n : Nat) : Bool :=
  decide (if s.leUp n then s.reg (FLT.lecause n) ≠ 0 else (s.reg (FLT.lecause n)).toNat / 2 ^ leOwn ≠ 0)

/-- Sets cause bit `b` of lane-end source n (R372). -/
def State.leSet (s : State) (n b : Nat) : State :=
  (s.put (FLT.le n b) 1).when (s.leUp n || decide (leOwn ≤ b)) (fun t => t.causeOn n)

/-- A held escalation lapses (R359). -/
def State.unheld (s : State) (n : Nat) : State :=
  { s with flt := { s.flt with held := s.flt.held.filter (fun m => decide (m ≠ n)) } }

/-- Ends cause bit `b` of lane-end source n; the source's cause ends with its last bit that the collector sees, and a held
escalation with ERASED (R359). -/
def State.leClear (s : State) (n b : Nat) : State :=
  if s.on (FLT.le n b) then
    let t := (s.put (FLT.le n b) 0).when (decide (b = 3)) (fun u => u.unheld n)
    if t.leSeen n then t else t.causeOff n
  else s

/-- The island of source n loses its power: isolation holds the pair at no fault (R354). -/
def State.sourceOff (s : State) (n : Nat) : State :=
  ({ s with flt := { s.flt with wiring := s.flt.wiring &&& (2 ^ 184 - 1 - 2 ^ n) } }).causeOff n

/-- A lane-end leaves ACTIVE: its pair shows no wiring fault, and only the causes that do not need its island stand (R354). -/
def State.leDown (s : State) (n : Nat) : State :=
  if s.leSeen n then { s with flt := { s.flt with wiring := s.flt.wiring &&& (2 ^ 184 - 1 - 2 ^ n) } } else s.sourceOff n

/-- A lane-end is ACTIVE again: the causes that stand show (R354, R372). -/
def State.leBack (s : State) (n : Nat) : State := s.when (s.leSeen n) (fun t => t.causeOn n)

/-- The position is isolated (R358, R380). -/
def State.isIsolated (s : State) (i : Nat) : Bool := s.isolated.testBit i

end Sys2Proof.Machine
end

