-- ==== Sys2Proof/Machine/Flags.lean ====
section
/-! DEFINITION. The event bits: how an onset sets its bit and forwards (R62, R441 to R445), the
messages and completion-ring entries it leads to (R242 to R245, R268, R274, R276), and the shadow
page (R254). -/

namespace Sys2Proof.Machine

/-- The engine can issue memory writes: Bus Master Enable set, data link up, not in D3hot
(R246; Bus Master Enable as the PCIe Base specification states, PRESUMED, log entry 11). -/
def State.hostUp (s : State) : Bool := s.pcie.busMaster && s.on RNG.dlUp && !s.on RNG.d3hot

/-- A posted write to host memory, where the link can carry it. -/
def State.hostWrite (s : State) (addr : Nat) (data : List Word) : State :=
  if s.hostUp then s.emit (.hostWrite addr data) else s

/-- A write in requests of at most 256 bytes, the maximum payload (R235), cut at multiples of 256 bytes. -/
def writeChunks : Nat → Nat → List Word → List (Nat × List Word)
  | 0, _, _ => []
  | n + 1, a, l =>
    if l.isEmpty then [] else (a, l.take (64 - a % 256 / 4)) ::
      writeChunks n (a + 4 * (64 - a % 256 / 4)) (l.drop (64 - a % 256 / 4))

/-- One posted write request to host memory that is not lost while the link cannot carry it: it waits (R266, R285);
during a reset of the ring engine nothing waits for the link (R278). -/
def State.postOne (s : State) (addr : Nat) (data : List Word) : State :=
  if s.hostUp then s.emit (.hostWrite addr data)
  else if s.ringReset then s
  else { s with pcie := { s.pcie with posted := s.pcie.posted ++ [(addr, data)] } }

/-- A posted write to host memory, in as many requests as the maximum payload needs (R235). -/
def State.postWrite (s : State) (addr : Nat) (data : List Word) : State :=
  if data.length ≤ 8 then s.postOne addr data
  else s.each (writeChunks (data.length + 1) addr data) (fun c t => t.postOne c.1 c.2)

/-- A result record of 24 bytes, and its sequence tag after it (R295). -/
def State.recordWrite (s : State) (addr body tag : Nat) : State :=
  (s.postWrite addr (wordsOf 6 body)).postWrite (addr + 24) (wordsOf 2 tag)

/-- A read in requests of at most `m` bytes, cut at multiples of `m`. -/
def readChunks : Nat → Nat → Nat → Nat → List (Nat × Nat)
  | 0, _, _, _ => []
  | n + 1, m, a, l =>
    if l = 0 then [] else (a, min l (m - a % m)) :: readChunks n m (a + min l (m - a % m)) (l - min l (m - a % m))

/-- The longest read request: the size that the host has set, at most 512 bytes (R235). -/
def State.maxRead (s : State) : Nat := min 512 (128 * 2 ^ s.pcie.mrrs)

/-- The engine reads host memory (R253, R257), in as many requests as the maximum read request size needs (R235). -/
def State.hostRead (s : State) (addr len : Nat) : State :=
  if len ≤ s.maxRead then s.emit (.hostRead addr len)
  else s.each (readChunks (len / s.maxRead + 2) s.maxRead addr len) (fun c t => t.emit (.hostRead c.1 c.2))

/-- Sends the message of MSI-X vector `v` (R242): the write that its table entry names. A masked
vector sets its pending bit instead, as the PCIe Base specification states. -/
def State.msix (s : State) (v : Nat) : State :=
  if s.pcie.msixEnable && s.hostUp then
    if s.pcie.msixMask || (s.reg (RNG.msix v 3)).toNat % 2 = 1 then s.put (RNG.pba v) 1
    else s.emit (.hostWrite ((s.reg (RNG.msix v 0)).toNat + 2 ^ 32 * (s.reg (RNG.msix v 1)).toNat)
      [s.reg (RNG.msix v 2)])
  else s

/-- Sends the messages of pending vectors that are no longer masked. -/
def State.msixUnmask (s : State) : State :=
  s.each (List.range 64) (fun v t =>
    if t.on (RNG.pba v) && t.pcie.msixEnable && t.hostUp && !t.pcie.msixMask
        && (t.reg (RNG.msix v 3)).toNat % 2 = 0 then
      (t.put (RNG.pba v) 0).msix v
    else t)

/-- A cause of vector `v` that has not been served (R242): a set event group with EN that names it, or entries that the host has not
consumed in a completion ring with IRQ_EN that names it. -/
def State.vectorCause (s : State) (v : Nat) : Bool :=
  (List.range 13).any (fun n => s.on (RNG.sum n) && s.on (RNG.grpEn n) && decide (s.get (RNG.grpVector n) = v))
    || (List.range 64).any (fun q => s.on (RNG.irqEn q) && decide (s.get (RNG.vector q) = v
      ∧ s.get (RNG.cqTail q) ≠ (s.ring q).cqHead))

/-- The pending bit of a masked vector clears once its causes have been served (R242; as the PCIe Base specification states,
PRESUMED, log entry 11). -/
def State.vectorServed (s : State) (v : Nat) : State :=
  s.when (s.on (RNG.pba v) && !s.vectorCause v) (fun t => t.put (RNG.pba v) 0)

/-- The byte that a posted write carries for a host address. -/
def writtenIn (w : Nat × List Word) (a : Nat) : Option Byte :=
  if w.1 ≤ a then (w.2[(a - w.1) / 4]?).map (fun x => x.extractLsb' (8 * ((a - w.1) % 4)) 8) else none

/-- The posted writes that the unit has sent to host memory, oldest first. -/
def State.pathWrites (s : State) : List (Nat × List Word) :=
  s.out.filterMap (fun o => match o with
    | .hostWrite a d => some (a, d)
    | _ => none)

/-- A byte of host memory as the unit reads it (R298): what the path has written last, where that is not yet globally visible, and
else what the host's memory holds. -/
def State.seenByte (s : State) (a : Nat) (b : Byte) : Byte :=
  if Config.unseen a s.clock then (s.pathWrites.foldl (fun (x : Option Byte) w => (writtenIn w a).or x) none).getD b else b

/-- Bytes of host memory from an address on, as the unit reads them (R298). -/
def State.seenBytes (s : State) (a : Nat) (l : List Byte) : List Byte :=
  if s.pathWrites.isEmpty then l else ((List.range l.length).zip l).map (fun x => s.seenByte (a + x.1) x.2)

/-- A 64-bit host address held in a register pair. -/
def State.addr64 (s : State) (lo hi : Nat) : Nat := (s.reg lo).toNat + 2 ^ 32 * (s.reg hi).toNat

/-- Number of entries of CQq (R252). -/
def State.cqSize (s : State) (q : Nat) : Nat := 2 ^ s.get (RNG.cqLog2 q)

/-- Room of CQq: its size less the entries the host has not consumed and the entries reserved for
descriptors in flight (R257). -/
def State.cqRoom (s : State) (q : Nat) : Nat :=
  s.cqSize q - sub16 (s.get (RNG.cqTail q)) (s.ring q).cqHead - (s.ring q).flights.length

/-- Writes shadow slot q as one 8-byte write (R254). While the function cannot issue it, it waits, but for a reset of the
ring engine (R278). -/
def State.writeShadow (s : State) (q : Nat) : State :=
  if s.hostUp then
    s.emit (.hostWrite (s.addr64 (RNG.shdPage 0) (RNG.shdPage 1) + 64 * q)
      [BitVec.ofNat 32 (s.get (RNG.cons q) + 2 ^ 16 * s.get (RNG.cdone q)), BitVec.ofNat 32 (s.get (RNG.cqTail q))])
  else if s.ringReset then s
  else s.updRing q (fun r => { r with shdDue := true })

/-- A shadow write that waited goes out. -/
def State.shadowBack (s : State) (q : Nat) : State :=
  if (s.ring q).shdDue then (s.updRing q (fun r => { r with shdDue := false })).writeShadow q else s

/-- Sends the vector of CQq after an entry, coalesced under R276. -/
def State.cqSignal (s : State) (q : Nat) (atOnce : Bool) : State :=
  if s.on (RNG.irqEn q) then
    if s.get (RNG.coalUs q) = 0 || atOnce || !(s.ring q).msgRecent then
      (s.msix (s.get (RNG.vector q))).updRing q (fun r =>
        { r with msgRecent := decide (s.get (RNG.coalUs q) ≠ 0), msgPend := false })
    else s.updRing q (fun r => { r with msgPend := true })
  else s

/-- Writes one entry to CQq: the shadow slot first (R254), then 24 bytes of body, then the sequence
tag of R268 by a write of its own (R295), and no message (R274: OVF tells of drops before this entry). -/
def State.cqEntry (s : State) (q body kind ring : Nat) : State :=
  let t := s.get (RNG.cqTail q)
  let tag := t + 2 ^ 16 * (ring % 64) + 2 ^ 24 * kind + 2 ^ 28 * boolNat (s.ring q).ovf
  let addr := s.addr64 (RNG.cqBase q 0) (RNG.cqBase q 1) + 32 * (t % s.cqSize q)
  ((((s.put (RNG.cqTail q) (t + 1)).updRing q (fun r => { r with ovf := false })).writeShadow q).hostWrite
    addr (wordsOf 6 body)).hostWrite (addr + 24) (wordsOf 2 tag)

/-- Writes an entry that no descriptor reserved (R274): it needs `n` free entries of a RUNNING ring;
without room, or while the function cannot write, it is dropped and counted. -/
def State.cqUnreserved (s : State) (q : Nat) (bodies : List (Nat × Nat)) : State :=
  if s.get (RNG.state q) ≠ 1 then s
  else if s.cqRoom q < bodies.length || !s.hostUp then
    (s.satCount (RNG.cqdrop q)).updRing q (fun r => { r with ovf := true })
  else (s.each bodies (fun b t => t.cqEntry q b.1 b.2 q)).cqSignal q false

/-- An EVENT entry in the ring that RNG_EVCQ names (R269, R445). -/
def State.eventEntry (s : State) (bits addr src epoch : Nat) : State :=
  if s.on RNG.evcqEn then
    s.cqUnreserved (s.get RNG.evCq)
      [(bits % 2 ^ 32 + 2 ^ 32 * (addr % 2 ^ 24) + 2 ^ 56 * (src % 256) + 2 ^ 64 * (epoch % 2 ^ 32), 2)]
  else s

/-- Sets the summary bit of event group n; a message goes when it rises while EN is 1 (R244). -/
def State.evSummary (s : State) (n : Nat) : State :=
  if s.on (RNG.sum n) then s
  else (s.put (RNG.sum n) 1).when (s.on (RNG.grpEn n)) (fun t => t.msix (t.get (RNG.grpVector n)))

/-- Event group of a lane-end of index i (R442). -/
def laneGroup (i : Nat) : Nat :=
  3 + 5 * (i / 34) + (if i % 34 < 32 then i % 34 / 8 else 4)

/-- Event group of the event register at `a`; CAL_EVENT, PRT_EVENT and BST_EVENT belong to none
(R442, R443). -/
def evGroup (a : Nat) : Option Nat :=
  if a = GLB.event ∨ a = ORB.event ∨ a = FLT.event ∨ a = PWR.event ∨ a = ECL.event then some 0
  else if a = DIR.event 0 then some 1
  else if a = DIR.event 1 then some 2
  else match lrxOf a with
    | some (i, _) => some (laneGroup i)
    | none =>
      match ltxOf a with
      | some (i, _) => some (laneGroup i)
      | none => none

/-- A worker readies or extends the EVENT frame of one event register (R444). -/
def State.readyEvent (s : State) (a bits : Nat) : State :=
  let old := Sparse.get (⟨0, 0⟩ : EvFrame) s.evFrames a
  let new : EvFrame :=
    if old.bits = 0 then ⟨BitVec.ofNat 32 bits, s.reg ECL.epoch⟩
    else { old with bits := old.bits ||| BitVec.ofNat 32 bits }
  { s with evFrames := Sparse.set (⟨0, 0⟩ : EvFrame) s.evFrames a new }

/-- Forwards onsets of the event register at `a`: to its group on the manager, to RNG_EVCQ for the
registers of R443, or into an EVENT frame on a worker that holds an address (R442 to R444). -/
def State.forwardEvents (s : State) (a bits : Nat) : State :=
  if bits = 0 then s
  else if s.manager then
    match evGroup a with
    | some n => s.evSummary n
    | none => s.eventEntry bits a 0 (s.reg ECL.epoch).toNat
  else if s.on ORB.addrValid then s.readyEvent a bits
  else s

/-- Onset of event bits: the bits are set, and those whose enable is 1 forward (R62, R441). -/
def State.raiseBits (s : State) (a bits : Nat) : State :=
  (s.setReg a (s.reg a ||| BitVec.ofNat 32 bits)).forwardEvents a
    (bits &&& (s.reg (a + 4)).toNat)

/-- Onset of event bit `b` of the register at `a`. -/
def State.raise (s : State) (a b : Nat) : State := s.raiseBits a (2 ^ b)

/-- Every event register of the unit, in rising address order. -/
def eventRegs : List Nat :=
  [GLB.event, FLT.event, PWR.event, ORB.event, ECL.event, CAL.event, BST.event, DIR.event 0,
   DIR.event 1, PRT.event]
    ++ (List.range 68).map LRX.event ++ (List.range 68).map LTX.event

/-- Number of event bits in the register at `a` (R442). -/
def evRegOf : EvReg → Nat
  | .glb => GLB.event
  | .orb => ORB.event
  | .flt => FLT.event
  | .pwr => PWR.event
  | .ecl => ECL.event
  | .cal => CAL.event
  | .prt => PRT.event
  | .bst => BST.event
  | .dir e => DIR.event e.idx
  | .lrx sd p => LRX.event (laneIdx sd p)
  | .ltx sd p => LTX.event (laneIdx sd p)

/-- Number of event bits of an event register (R441, R442, R234, R211, R390). -/
def evBits : EvReg → Nat
  | .glb => 14
  | .orb => 10
  | .flt => 7
  | .pwr => 10
  | .ecl => 3
  | .cal => 5
  | .prt => 3
  | .bst => 4
  | .dir _ => 24
  | .lrx _ _ => 4
  | .ltx _ _ => 1

end Sys2Proof.Machine
end

