-- ==== Sys2Proof/Machine/Topology.lean ====
section
/-! DEFINITION. Ports, lanes and positions: which lane-end carries what (R8, R9, R13, R14, R171), and
what of it the status registers show. -/

namespace Sys2Proof.Machine

/-- The direction engine that drives a side's transmitters. -/
def outEngine (sd : Nat) : Nat := if sd = 0 then 1 else 0

/-- The direction engine that a side's receivers feed. -/
def inEngine (sd : Nat) : Nat := if sd = 0 then 0 else 1

/-- The position that lane-map code `c` of port group g names (R188). -/
def codePos (g c : Nat) : Option Nat :=
  if c < 8 then some (8 * g + c) else if c = 8 then some 32 else if c = 9 then some 33 else none

/-- The lane-map code of a position for port group g. -/
def posCode (g p : Nat) : Nat :=
  if p = 32 then 8 else if p = 33 then 9 else if p / 8 = g then p % 8 else 15

/-- The code of logical lane n in GLB_LMAP: the map that the last completed change left (R188). -/
def State.regCode (s : State) (g sd n : Nat) : Nat := s.get (GLB.lane g sd n)

/-- The code of logical lane n in the map that the Thepin's transmitters on segment `sd` of group g use: that of GLB_LMAP
but between their switch and the end of a change (R178). -/
def State.laneCode (s : State) (g sd n : Nat) : Nat :=
  match (s.seg g sd 0).txMap with
  | [] => s.regCode g sd n
  | m => m.getD n 15

/-- The position that carries logical lane n of group g on side `sd` (R171). -/
def State.lanePos (s : State) (g sd n : Nat) : Option Nat := codePos g (s.laneCode g sd n)

/-- The code of lane n in the map that the receivers on the segment show (R175). -/
def State.rxCode (s : State) (g sd n : Nat) : Nat :=
  match (s.seg g sd 0).rxMap with
  | [] => s.regCode g sd n
  | m => m.getD n 15

def State.rxPos (s : State) (g sd n : Nat) : Option Nat := codePos g (s.rxCode g sd n)

/-- The port group carries a CFL port. -/
def State.cfl (s : State) (g : Nat) : Bool := !s.on (GLB.proto g)

/-- The personality the group runs: 0 T, 1 G, 2 F; a group fallen back from F runs G (R360). -/
def State.pers (s : State) (g : Nat) : Nat :=
  if s.on (FLT.fallback g) then 1 else s.get (GLB.pers g)

/-- Width in lanes of an Ethernet port that begins at lane k; 0 where none begins (R438). -/
def State.ethLanes (s : State) (g k : Nat) : Nat :=
  let c := s.get (GLB.elane g k)
  if 1 ≤ c ∧ c ≤ 4 then 2 ^ (c - 1) else 0

/-- The ports of a group, each named by its first logical lane. -/
def State.portKeys (s : State) (g : Nat) : List Nat :=
  if s.cfl g then [0] else (List.range 8).filter (fun k => decide (s.ethLanes g k ≠ 0))

/-- Logical lanes of port k of group g that side `sd` carries. -/
def State.lanes (s : State) (g sd k : Nat) : List Nat :=
  if s.cfl g then (List.range 8).filter (fun n => decide (s.laneCode g sd n ≠ 15))
  else (List.range (s.ethLanes g k)).map (fun n => k + n)

/-- Logical lanes of port k that the receivers on side `sd` show (R175). -/
def State.rxLanes (s : State) (g sd k : Nat) : List Nat :=
  if s.cfl g then (List.range 8).filter (fun n => decide (s.rxCode g sd n ≠ 15)) else s.lanes g sd k

/-- Positions that carry port k of group g on side `sd`. -/
def State.positions (s : State) (g sd k : Nat) : List Nat :=
  (s.lanes g sd k).filterMap (fun n => s.lanePos g sd n)

/-- The port that logical lane n of group g belongs to. -/
def State.portOfLane (s : State) (g n : Nat) : Nat :=
  if s.cfl g then 0
  else ((s.portKeys g).filter (fun k => decide (k ≤ n ∧ n < k + s.ethLanes g k))).headD 0

/-- The group and logical lane that position p of side `sd` carries. -/
def State.carried (s : State) (sd p : Nat) : Option (Nat × Nat) :=
  let gs := if p < 32 then [p / 8] else [0, 1, 2, 3]
  (gs.flatMap (fun g => (List.range 8).map (fun n => (g, n)))).find?
    (fun x => s.on (GLB.en x.1) && decide (s.lanePos x.1 sd x.2 = some p)
      && decide (x.2 ∈ s.lanes x.1 sd (s.portOfLane x.1 x.2)))

/-- States of a segment (R94, GLB_TRN_STAT): 0 OFF, 1 AN, 2 WAIT, 3 EQ, 4 ALIGN, 5 HOLD, 6 UP,
7 BACKOFF, 8 STOPPED. -/
def State.segState (s : State) (g sd k : Nat) : Nat := s.get (GLB.tsState g sd k)

/-- The state of the segment that position p of side `sd` carries a lane of; OFF for none. -/
def State.posState (s : State) (sd p : Nat) : Nat :=
  match s.carried sd p with
  | some (g, n) => s.segState g sd (s.portOfLane g n)
  | none => 0

/-- A segment is training in AN, WAIT, EQ, ALIGN and HOLD (R94). -/
def isTraining (st : Nat) : Bool := decide (1 ≤ st ∧ st ≤ 5)

/-- A field of the training settings that the segment's attempt took (R115). -/
def State.cfgOf (s : State) (g sd k lo len : Nat) : Nat := bitsOf (s.seg g sd k).cfg.toNat lo len

/-- The segment does not train: an Ethernet port group with its NOTRAIN bit set (R100). -/
def State.noTrain (s : State) (g sd k : Nat) : Bool := !s.cfl g && decide (s.cfgOf g sd k (2 + sd) 1 = 1)

/-- The segment trains on its lane-ends: a NOTRAIN segment in WAIT sends data (R94, R100). -/
def State.trains (s : State) (g sd k : Nat) : Bool :=
  isTraining (s.segState g sd k) && !(decide (s.segState g sd k = 2) && s.noTrain g sd k)

/-- The segment that position p of side `sd` carries a lane of trains. -/
def State.posTrains (s : State) (sd p : Nat) : Bool :=
  match s.carried sd p with
  | some (g, n) => s.trains g sd (s.portOfLane g n)
  | none => false

/-- A port is up or training in every state except OFF and STOPPED (R94). -/
def isUpOrTraining (st : Nat) : Bool := decide (st ≠ 0 ∧ st ≠ 8)

/-- Some segment of the group is up or training. -/
def State.groupBusy (s : State) (g : Nat) : Bool :=
  (s.portKeys g).any (fun k => isUpOrTraining (s.segState g 0 k) || isUpOrTraining (s.segState g 1 k))

/-- Some link of the unit is up or training. -/
def State.anyBusy (s : State) : Bool := (List.range 4).any (fun g => s.groupBusy g)

/-- The lane training, or shadow copy, at a lane-end index. -/
def State.lt (s : State) (i : Nat) : Option LaneTrain := Sparse.get none s.lts i

def State.setLt (s : State) (i : Nat) (t : Option LaneTrain) : State :=
  { s with lts := Sparse.set none s.lts i t }

/-- A lane training of the position is running (R112). -/
def State.ltRunning (s : State) (i : Nat) : Bool :=
  match s.lt i with
  | some t => decide (t.stage = .training)
  | none => false

/-- A port group's sparing and low-power state. -/
def State.port (s : State) (g : Nat) : PortRec := Sparse.get PortRec.idle s.ports g

def State.updPort (s : State) (g : Nat) (f : PortRec → PortRec) : State :=
  { s with ports := Sparse.set PortRec.idle s.ports g (f (s.port g)) }

/-- Some map of the group, the transmitters' or the receivers', names the position for a carried lane. -/
def State.mapped (s : State) (g sd p : Nat) : Bool :=
  (List.range 8).any (fun n =>
    (decide (n ∈ s.lanes g sd (s.portOfLane g n)) && decide (s.lanePos g sd n = some p))
      || (decide (n ∈ s.rxLanes g sd (s.portOfLane g n)) && decide (s.rxPos g sd n = some p)))

/-- The port group whose lane a position carries (R171). -/
def State.groupOf (s : State) (i : Nat) : Option Nat :=
  ((if i % 34 < 32 then [i % 34 / 8] else [0, 1, 2, 3]).filter (fun g => s.on (GLB.en g))).find?
    (fun g => s.mapped g (i / 34) (i % 34))

/-- A change in progress moves traffic to or from the position: a lane whose position in the agreed map, in the
transmitters' or in the receivers' differs from another of the three (R38). -/
def State.movesEnd (s : State) (g sd p : Nat) : Bool :=
  match (s.port g).change with
  | some c => c.parts.any (fun x => decide (x.side = sd) && !x.map.isEmpty && (List.range 8).any (fun n =>
      let to' := codePos g (x.map.getD n 15)
      !(decide (to' = s.lanePos g sd n) && decide (to' = s.rxPos g sd n))
        && (decide (to' = some p) || decide (s.lanePos g sd n = some p) || decide (s.rxPos g sd n = some p))))
  | none => false

/-- Lanes of the width codes of R118. -/
def widthLanes (w : Nat) : Nat := 8 - 2 * (w % 4)

/-- The receiver lane-end is ACTIVE (R397). -/
def State.rxActive (s : State) (i : Nat) : Bool := decide (s.get (LRX.pwr i) = 2)

def State.txActive (s : State) (i : Nat) : Bool := decide (s.get (LTX.pwr i) = 2)

/-- The unit is in the safe state (R362). -/
def State.safe (s : State) : Bool := s.on FLT.safe

/-- Adaptation's freeze causes as LRX_STATUS shows them, from bit 5 (R46). FRZ_HOST, FRZ_CDR, FRZ_SAFE
and FRZ_PWR follow what they report; FRZ_LOS and FRZ_STARVED are held. -/
def State.freeze (s : State) (i : Nat) : Nat :=
  s.get (LRX.adaptFreeze i) + 2 * s.get (LRX.frzLos i)
    + 4 * boolNat (!s.on (LRX.cdrLock i)) + 8 * s.get (LRX.frzStarved i)
    + 16 * boolNat s.safe + 32 * boolNat (!s.rxActive i)

/-- The symbols that a receiver lane-end delivers are marked invalid while CDR_LOCK is 0 (R44), while
it is out of LOCK or has yet to begin a marker period in it (R122), while its skew keeps it erased, or while its markers name no
lane of a known map (R175). -/
def State.invalid (s : State) (i : Nat) : Bool :=
  !s.on (LRX.cdrLock i) || !s.on (LRX.markerLock i) || (s.rxe i).late || (s.rxe i).sinceBad || (s.rxe i).misnamed

/-- In AGREED the transmitters of a side go IDLE once their direction's incoming segment shows LOS on every
position in use and its deferral buffer is empty (R400). -/
def State.lpIdle (s : State) (sd p : Nat) : Bool :=
  match s.carried sd p with
  | some (g, _) =>
    decide (s.get (PWR.lpstat g) = 1)
      && (s.positions g (1 - sd) 0).all (fun x => s.on (LRX.losNow (34 * (1 - sd) + x)))
      && (s.eng (1 - sd) g).defer.isEmpty
  | none => false

/-- The output state of a transmitter lane-end: the first row of R74 that holds. While a self-test holds the lane-end its ball stays
in IDLE, as in a foreground calibration (R380). -/
def State.txState (s : State) (i : Nat) : Nat :=
  let sd := i / 34
  let p := i % 34
  let st := s.posState sd p
  let carries := decide (s.carried sd p ≠ none)
  if s.get (LTX.pwr i) = 0 || !(s.pwr.rails.testBit 2 && s.pwr.rails.testBit 3) then 0
  else if s.safe && s.on FLT.safeTx then 1
  else if (s.txe i).comet then 2
  else if s.get (LTX.pwr i) = 1 || (s.txe i).fg || s.bistHeld.testBit i || s.lpIdle sd p then 1
  else if s.on (LTX.forceIdle i) && !(carries && isUpOrTraining st) then 1
  else if s.posTrains sd p || s.ltRunning i then 3
  else if decide (s.lt i ≠ none) then 4
  else if !carries || decide (st = 7 ∨ st = 8) || (s.txe i).idleHold then 1
  else 4

/-- GLB_TRN_LANE bit of a place (0 to 7 the group's positions, 8 P32, 9 P33): the position carries a
lane of the port or is in lane training for it (R115). -/
def State.inUse (s : State) (g sd b : Nat) : Bool :=
  let p := if b < 8 then 8 * g + b else 24 + b
  (match s.carried sd p with
    | some (g', _) => decide (g' = g)
    | none => false)
  || (match s.lt (34 * sd + p) with
    | some t => decide (t.g = g ∧ t.stage = .training)
    | none => false)

/-- The group's IN_USE bits as one number. -/
def State.inUseBits (s : State) (g sd : Nat) : Nat :=
  ((List.range 10).filter (fun b => s.inUse g sd b)).foldl (fun a b => a + 2 ^ b) 0

/-- The group's TX_PRECODE bits: the transmitters in use that precode (R91). -/
def State.precodeBits (s : State) (g sd : Nat) : Nat :=
  ((List.range 10).filter (fun b => s.inUse g sd b
      && decide ((s.txe (34 * sd + (if b < 8 then 8 * g + b else 24 + b))).precode ≠ 0))).foldl
    (fun a b => a + 2 ^ b) 0

/-- A map change is in progress, by agreement or by a retrain, or a position of the group is in lane training or in the shadow
copy after it (R188). -/
def State.mapBusy (s : State) (g : Nat) : Bool :=
  decide ((s.port g).change ≠ none) || !(s.port g).moves.isEmpty
    || s.lts.any (fun x => match x.2 with
      | some t => decide (t.g = g)
      | none => false)

end Sys2Proof.Machine
end

