-- ==== Sys2Proof/Machine/Access.lean ====
section
/-! DEFINITION. Where registers live: which register answers an access in which state (R24, R436, R329),
and which write takes effect (R281). -/

namespace Sys2Proof.Machine

/-- The register file on VDDC is powered: RUN, IDLE or SLEEP, up to the end of an entry, and on the way out of SLEEP or of
an abandoned entry, in which the device has not left that state (R392, R436). -/
def State.fileUp (s : State) : Bool :=
  match s.pwr.phase with
  | .run => true
  | .sleep => true
  | .entry _ => true
  | .stage _ => decide (2 ≤ s.pwr.origin)
  | _ => false

/-- The always-on domain answers: also in DEEP and on the way out of it (R329, R436). -/
def State.aonUp (s : State) : Bool :=
  s.fileUp || (match s.pwr.phase with
    | .deep => true
    | .stage _ => decide (s.pwr.origin ≠ 0)
    | .retry => decide (s.pwr.origin ≠ 0)
    | _ => false)

/-- The register at address `a` is answered (R436). -/
def State.answered (s : State) (a : Nat) : Bool :=
  match lrxOf a with
  | some (i, o) => s.fileUp && (!(decide (0x100 ≤ o ∧ o ≤ 0x250) || decide (0xC00 ≤ o)) || s.rxActive i)
  | none =>
    match ltxOf a with
    | some (i, o) => s.fileUp && (!decide (0x200 ≤ o ∧ o ≤ 0x240) || s.txActive i)
    | none =>
      if a / 0x10000 = 3 then s.fileUp && s.manager
      else if a / 0x10000 = 2 ∨ a / 0x10000 = 4 then s.aonUp
      else s.fileUp

/-- A write to address `a` takes effect: its island answers, and in the safe state it lies in the FLT block
(R281, R362). -/
def State.writeTakes (s : State) (a : Nat) : Bool :=
  s.answered a && (!s.safe || decide (a / 0x10000 = 1))

/-- A register write's effect, where the write takes effect. -/
def State.soft (s : State) (a : Nat) (f : State → State) : State := if s.writeTakes a then f s else s

end Sys2Proof.Machine
end

