-- ==== Sys2Proof/Machine/Complete.lean ====
section
/-! DEFINITION. How an operation reports its end: to its descriptor in flight, or to the manager over
Orbit (R285, R314). The status codes are those of R271. -/

namespace Sys2Proof.Machine

/-- Status codes of R271. -/
def stOk : Nat := 0x00
def stBadDesc : Nat := 0x01
def stPrivViolation : Nat := 0x02
def stNoUnit : Nat := 0x03
def stNoResponse : Nat := 0x04
def stIslandDown : Nat := 0x05
def stAddrErr : Nat := 0x06
def stPrecondition : Nat := 0x07
def stPreempted : Nat := 0x08
def stTrainFailed : Nat := 0x09
def stTableFull : Nat := 0x0A
def stTimeout : Nat := 0x0B
def stHostErr : Nat := 0x0C
def stMreset : Nat := 0x0D
def stSafeState : Nat := 0x0E
def stFwRejected : Nat := 0x0F
def stMapFailed : Nat := 0x10

/-- The flight of index `idx` on ring q. -/
def State.flight (s : State) (q idx : Nat) : Option Flight :=
  (s.ring q).flights.find? (fun f => decide (f.idx = idx))

/-- Changes one flight of ring q. -/
def State.updFlight (s : State) (q idx : Nat) (g : Flight → Flight) : State :=
  s.updRing q (fun r => { r with flights := r.flights.map (fun f => if f.idx = idx then g f else f) })

/-- The place of the next answer (R273). -/
def State.nextStamp (s : State) : Nat :=
  s.rings.foldl (fun n r => r.2.flights.foldl (fun m f => max m (f.stamp + 1)) n) 0

/-- The descriptor's effect is visible and its answer known (R284, R285). -/
def State.answerFlight (s : State) (q idx status result src : Nat) : State :=
  let n := s.nextStamp
  s.updFlight q idx (fun f =>
    if f.stage = .answered then f
    else { f with stage := .answered, status := status, result := result, src := src, stamp := n })

/-- A frame of this unit's own, waiting for a slot: its CRC is computed as it leaves (R310). -/
def State.ownFrame (s : State) (ftype tag : Nat) (payload : List Byte) : State :=
  { s with waitq := s.waitq ++ [
      { dest := 0, src := BitVec.ofNat 8 (s.get ORB.addr), ftype := BitVec.ofNat 8 ftype,
        tag := BitVec.ofNat 8 tag, hops := 0, len := BitVec.ofNat 8 payload.length,
        payload := payload, crc := 0, ctl := [] }] }

/-- The end of an operation, with result-record data where its type has any. -/
def State.opDoneWith (s : State) (o : Owner) (status result : Nat) (record : List Byte) : State :=
  match o with
  | .nobody => s
  | .ring q idx => s.answerFlight q idx status result 0
  | .orbit tag =>
    s.ownFrame 0x06 tag (BitVec.ofNat 8 status :: bytesOf 16 result ++ record)

/-- The end of an operation (R314: OP_DONE carries STATUS and RESULT). -/
def State.opDone (s : State) (o : Owner) (status result : Nat) : State :=
  s.opDoneWith o status result []

end Sys2Proof.Machine
end

