-- ==== Sys2Proof/Machine/Receiver.lean ====
section
/-! DEFINITION. The lane receiver (02_lane_receiver.md): squelch and Comet, CDR, adaptation,
starvation, the elastic FIFO and the histogram memory. `i` is a lane-end index. -/

namespace Sys2Proof.Machine

/-- The squelch and Comet detectors run while VDDAON is powered, unless WAKE_SRC is 0b10 and the lane-end is DARK
(R54). -/
def State.detectorOn (s : State) (i : Nat) : Bool :=
  s.pwr.rails.testBit 0 && !(decide (s.get (LRX.wakeSrc i) = 2) && decide (s.get (LRX.pwr i) = 0))

/-- The differential termination of the input in ohms: 100 while VDDA is powered and the lane-end is ACTIVE or QUIET,
otherwise at least 1,000 (R29). -/
def State.termination (s : State) (i : Nat) : Nat :=
  if s.pwr.rails.testBit 2 && decide (s.get (LRX.pwr i) ≠ 0) then 100 else 1000

/-- LRX_SQUELCH.ASSERT as the detector takes it, in mVppd: held within 30 to 120 (R52). -/
def State.squelchAssert (s : State) (i : Nat) : Nat := max 30 (min 120 (s.get (LRX.assertAt i)))

/-- A differential amplitude in mVppd at which the detector deems a signal present (R52). -/
def State.signalPresent (s : State) (i mvpp : Nat) : Bool := decide (s.squelchAssert i < mvpp)

/-- An amplitude at which it deems the signal absent: below ASSERT − HYST (R52). -/
def State.signalAbsent (s : State) (i mvpp : Nat) : Bool :=
  decide (mvpp + s.get (LRX.hyst i) < s.squelchAssert i)

/-- LOS_TIME in µs: 0 is treated as 1 (R52, R63). -/
def State.losTime (s : State) (i : Nat) : Nat := orOne (s.get (LRX.losTime i))

/-- The CDR loop bandwidth in MHz: the codes 0b100 to 0b111 are treated as 0b010 (R43). -/
def State.cdrBandwidth (s : State) (i : Nat) : Nat :=
  if s.get (LRX.cdrBw i) < 4 then 2 ^ s.get (LRX.cdrBw i) else 4

/-- The frequency that the integrator can hold, in 0.01 ppm: within ±300 ppm (R43, R44). -/
def cdrHeld (ppm100 : Int) : Int := clampInt (-30000) 30000 ppm100

/-- The slot that samples UI m counted from the reference fixed at the first lock (R32). -/
def slotOfUi (m : Nat) : Nat := m % 64

/-- The slice that samples UI m (R32). -/
def State.sliceOfUi (s : State) (i m : Nat) : Nat := s.get (LRX.slotMap i (slotOfUi m))

/-- A shadow comparison starts again from its first sample (R38): it stays in its first stage. -/
def State.restartCompare (s : State) (i : Nat) : State :=
  s.updRx i (fun r => { r with swap := r.swap.map (fun w =>
    if w.stage = .compare then { w with periods := 0 } else w) })

/-- LOS asserts (R52), with the signal absent for LOS_TIME: LOS_NOW, FRZ_LOS, the event and the count. Comet needs the
signal present (R53): COMET_NOW ends here. An assertion at a QUIET or DARK lane-end counts too, although R47 has its other counters
hold (DESIGN CHOICE, log entry 38). -/
def State.losAssert (s : State) (i mvpp us : Nat) : State :=
  if s.detectorOn i && !s.on (LRX.losNow i) && s.signalAbsent i mvpp && decide (s.losTime i ≤ us) then
    ((((((s.put (LRX.losNow i) 1).put (LRX.frzLos i) 1).put (LRX.cometNow i) 0).updRx i
      (fun r => { r with windowBad := true })).restartCompare i).count (LRX.losCnt i)).raise (LRX.event i) 0
  else s

/-- LOS clears with the signal present for 1 µs (R52). FRZ_LOS clears with it only where CDR_LOCK is set (R46). -/
def State.losClear (s : State) (i mvpp us : Nat) : State :=
  if s.detectorOn i && s.on (LRX.losNow i) && s.signalPresent i mvpp && decide (1 ≤ us) then
    ((s.put (LRX.losNow i) 0).put (LRX.cometNow i) 0).when (s.on (LRX.cdrLock i))
      (fun t => t.put (LRX.frzLos i) 0)
  else s

/-- The Comet detector reports (R53): it needs the signal present. -/
def State.cometDetect (s : State) (i : Nat) : State :=
  if s.detectorOn i && !s.on (LRX.losNow i) then s.put (LRX.cometNow i) 1 else s

/-- The CDR locks (R44): at an ACTIVE lane-end, with the signal present and the frequency within
±300 ppm. FRZ_LOS clears with it, a shadow comparison starts again (R38), and the first lock fixes slot 0 (R32). The
lock is taken to be on data, so COMET_NOW ends: the manual says when Comet is reported and not when the report ends
(DESIGN CHOICE, log entry 38). -/
def State.cdrLock (s : State) (i : Nat) (ppm100 : Int) : State :=
  if s.rxActive i && !s.on (LRX.losNow i) && decide (-30000 ≤ ppm100 ∧ ppm100 ≤ 30000) then
    ((((s.put (LRX.cdrLock i) 1).put (LRX.frzLos i) 0).put (LRX.cometNow i) 0).updRx i (fun r => { r with
      freq := ppm100, slotRef := match r.slotRef with
        | some c => some c
        | none => some s.clock })).restartCompare i
  else s

/-- CDR_LOCK returns to 0, by an unlock or because the lane-end leaves ACTIVE (R44). The marker machine
restarts in HUNT (R120) and the symbols are invalid from then on. -/
def State.cdrDrop (s : State) (i : Nat) : State :=
  ((s.put (LRX.cdrLock i) 0).put (LRX.markerLock i) 0).updRx i
    (fun r => { r with mark := .hunt, good := 0, miss := 0, periods := 0, record := [], windowBad := true })

/-- An unlock (R44): the event, the count, and acquisition again from the frequency last held. -/
def State.cdrUnlock (s : State) (i : Nat) (ppm100 : Int) : State :=
  if s.rxActive i && s.on (LRX.cdrLock i) then
    ((((s.cdrDrop i).updRx i (fun r => { r with freq := cdrHeld ppm100 })).restartCompare i).count
      (LRX.unlockCnt i)).raise (LRX.event i) 1
  else s

/-- COEF_AT_LIMIT follows the adapted values that rest at a limit (R45). -/
def State.noteLimit (s : State) (i b : Nat) (at' : Bool) : State :=
  let m := (s.rxe i).atLimit
  let m' := if at' then m ||| 2 ^ b else m &&& (2 ^ 35 - 1 - 2 ^ b)
  (s.updRx i (fun r => { r with atLimit := m' })).put (LRX.coefAtLimit i) (boolNat (decide (m' ≠ 0)))

/-- An adapted signed field takes a value, held at its range limit. -/
def State.adaptInt (s : State) (i b : Nat) (f : Fld) (v : Int) : State :=
  (s.putInt f v).noteLimit i b (decide (v ≤ -(2 ^ (f.len - 1)) ∨ 2 ^ (f.len - 1) - 1 ≤ v))

/-- An adapted unsigned field takes a value, held within 0 to `hi`. -/
def State.adaptNat (s : State) (i b : Nat) (f : Fld) (hi : Nat) (v : Int) : State :=
  (s.put f (clampInt 0 hi v).toNat).noteLimit i b (decide (v ≤ 0 ∨ (hi : Int) ≤ v))

/-- The step-size code in use: 8, the acquisition step, during training, and from training complete onward the tracking
code of LRX_FFE_CFG (R45). -/
def State.stepCode (s : State) (i : Nat) (mu : Fld) : Nat := if (s.rxe i).acquire then 8 else s.get mu

/-- One adaptation update (R45), unless frozen (R46) or before the foreground calibration is complete (R228). What the receiver
adapts in a loopback test is discarded, and no register shows it (R380; DEDUCED, log entry 21). FFE_ADAPT_EN and CTLE_ADAPT enable the updates of the taps and of the CTLE (DESIGN CHOICE, log entry 9). -/
def State.adapt (s : State) (i : Nat) (u : AdaptUpdate) : State :=
  if s.freeze i ≠ 0 || (s.rxe i).fg || s.bistHeld.testBit i then s
  else match u with
    | .tap n g =>
      if s.on (LRX.ffeAdaptEn i) then
        s.adaptInt i n (LRX.tap i n) (s.getInt (LRX.tap i n) + Config.adaptStep 0 (s.stepCode i (LRX.muFfe i)) g)
      else s
    | .dfe g => s.adaptInt i 32 (LRX.dfe i) (s.getInt (LRX.dfe i) + Config.adaptStep 1 (s.stepCode i (LRX.muDfe i)) g)
    | .residual slot v =>
      s.updRx i (fun r => { r with residuals := Sparse.set 0 r.residuals slot v })
    | .ctle v => if s.on (LRX.ctleAdapt i) then s.adaptNat i 33 (LRX.ctlePeak i) 24 v else s
    | .vga v => s.adaptNat i 34 (LRX.vga i) 63 v

/-- A value that rested at a limit and that software has written stays noted only where it is still at one (R45). -/
def State.keepLimit (s : State) (i b : Nat) (at' : Bool) : State := s.noteLimit i b ((s.rxe i).atLimit.testBit b && at')

/-- A signed field rests at an end of its range. -/
def State.atEnd (s : State) (f : Fld) : Bool :=
  decide (s.getInt f = -(2 ^ (f.len - 1)) ∨ s.getInt f = 2 ^ (f.len - 1) - 1)

/-- A write to a coefficient register takes effect only while FRZ_HOST is set (R48). CTLE_PEAK codes 25 to 31, above the
25 steps of R29, are stored as written (DESIGN CHOICE, log entry 38). -/
def State.coefWrite (s : State) (i : Nat) (r : CoefReg) (v : Word) : State :=
  if s.on (LRX.adaptFreeze i) then
    match r with
    | .afe =>
      let t := ((s.put (LRX.ctlePeak i) (bitsOf v.toNat 0 5)).put (LRX.ctleAdapt i) (bitsOf v.toNat 5 1)).put
        (LRX.vga i) (bitsOf v.toNat 8 6)
      (t.keepLimit i 33 (decide (bitsOf v.toNat 0 5 = 0 ∨ 24 ≤ bitsOf v.toNat 0 5))).keepLimit i 34
        (decide (bitsOf v.toNat 8 6 = 0 ∨ bitsOf v.toNat 8 6 = 63))
    | .tap n => let t := s.put (LRX.tap i n) v.toNat; t.keepLimit i n (t.atEnd (LRX.tap i n))
    | .dfe => let t := s.put (LRX.dfe i) v.toNat; t.keepLimit i 32 (t.atEnd (LRX.dfe i))
  else s

/-- The detector that DET_MODE selects: 0b11 is treated as 0b01 (R41). -/
def detOf (m : Nat) : Nat := if m = 3 then 1 else m

/-- A written DET_MODE takes effect at the marker boundary (R41). -/
def State.detSwitch (s : State) (i : Nat) : State :=
  if (s.rxe i).detPend && s.on (LRX.markerLock i) then
    s.updRx i (fun r => { r with detPend := false, detCur := detOf (s.get (LRX.detMode i)) })
  else s

/-- A starvation window is starved (R49): some slot saw some level fewer than 256 times, or fewer than
2^19 decisions differed from the one before. -/
def starvedWindow (minCount transitions : Nat) : Bool :=
  decide (minCount < 256) || decide (transitions < 2 ^ 19)

/-- The freeze by starvation (R50). -/
def State.starveFreeze (s : State) (i : Nat) : State :=
  ((s.put (LRX.frzStarved i) 1).count (LRX.starveCnt i)).raise (LRX.event i) 2

/-- The end of a starvation window (R49 to R51). The count is held against WINDOWS here and nowhere else: WINDOWS of
0, or lowered to or below the count, freezes at the next starved window (DESIGN CHOICE, log entry 38). -/
def State.starveWindow (s : State) (i minCount transitions : Nat) : State :=
  let bad := (s.rxe i).windowBad || s.on (LRX.losNow i) || !s.on (LRX.cdrLock i)
  let s := s.updRx i (fun r => { r with
    windowBad := s.on (LRX.losNow i) || !s.on (LRX.cdrLock i) })
  if bad then s.updRx i (fun r => { r with starved := 0, clean := 0 })
  else if s.on (LRX.detectEn i) && starvedWindow minCount transitions then
    let s := s.updRx i (fun r => { r with starved := r.starved + 1, clean := 0 })
    if s.get (LRX.windows i) ≤ (s.rxe i).starved && !s.on (LRX.frzStarved i) then s.starveFreeze i else s
  else
    let s := s.updRx i (fun r => { r with starved := 0, clean := r.clean + 1 })
    if !s.on (LRX.detectEn i) || orOne (s.get (LRX.resume i)) ≤ (s.rxe i).clean then
      s.put (LRX.frzStarved i) 0
    else s

/-- Symbols that the elastic FIFO delivers in a core cycle at a fill, where the rate ratio is d (R55). -/
def fifoDelivers (d fill : Nat) : Nat := if 136 < fill then d + 1 else if fill < 120 then d - 1 else d

/-- The ratio of a lane's symbol rate to the core clock (R55, R77): 40 at 53.125 GBd, else 80. -/
def rateRatio (rate : Nat) : Nat := if rate = 0 then 40 else 80

/-- RS symbols that a word of 64 PAM4 symbols of a lane can touch. -/
def wordSymbols : Nat := 14

/-- The fill of a lane-end's elastic FIFO (R55): within 9 of the value that it was last centred to. Where within, between two
slips, follows two clocks cycle by cycle: a free value (DESIGN CHOICE, log entry 6). -/
def State.rxFill (s : State) (i : Nat) : Nat := (s.rxe i).fifo - 9 + Config.fifoDrift i s.clock % 19

/-- Symbols that the elastic FIFO of a lane of port g delivers to the direction engine in a core cycle (R55). -/
def State.rxDelivers (s : State) (i g : Nat) : Nat := fifoDelivers (rateRatio (s.get (GLB.rate g))) (s.rxFill i)

/-- The receiver elastic FIFO recentres to 128 and marks the affected word invalid (R55). -/
def State.rxSlip (s : State) (i : Nat) : State :=
  (s.updRx i (fun r => { r with fifo := 128, marked := r.marked + wordSymbols })).count (LRX.slipCnt i)

/-- The slot a histogram run samples; 64, and any value above, is all slots in turn (R58). -/
def State.histSlot (s : State) (i : Nat) : Nat := min (s.get (LRX.slotSel i)) 64

/-- The kept samples at which a histogram run stops: values of SAMPLES_LOG2 below 16 are treated as 16 (R58). -/
def State.histSamples (s : State) (i : Nat) : Nat := 2 ^ max 16 (s.get (LRX.samplesLog2 i))

/-- The slot whose sample a run takes in receiver-island cycle c, where it keeps one: one cycle in every 2^DECIM
(R58). -/
def State.histTakes (s : State) (i c : Nat) : Option Nat :=
  if c % 2 ^ s.get (LRX.decim i) ≠ 0 then none
  else some (if s.histSlot i = 64 then c / 2 ^ s.get (LRX.decim i) % 64 else s.histSlot i)

/-- A histogram run starts (R58): the level histogram is cleared. -/
def State.histStart (s : State) (i : Nat) : State :=
  ((s.put (LRX.run i) 1).put (LRX.done i) 0).each (List.range 128) (fun n t => t.setReg (LRX.hist i n) 0)

/-- FFE-output codes of a level, as bin numbers: the decision thresholds −32, 0 and +32 stand at bins
32, 64 and 96; a code on a threshold is taken above it (DEDUCED, log entry 12). -/
def levelBins (k : Nat) : List Nat := (List.range 32).map (fun n => 32 * k + n)

/-- SNR of a level in quarter dB (R59): 40·log10(256/σ²), rounded to nearest. With n samples,
V = n·Σx² − (Σx)² = n²σ², it is the number of c ≥ 1 with 40·log10(256n²/V) ≥ c − 1/2. None where σ is
zero, where no sample fell in the level, or where the value does not fit the field. -/
def snrQuarterDb (bins : List (Nat × Nat)) : Option Nat :=
  let n := (bins.map (fun x => x.2)).foldl (· + ·) 0
  let sx := (bins.map (fun x => x.1 * x.2)).foldl (· + ·) 0
  let sxx := (bins.map (fun x => x.1 * x.1 * x.2)).foldl (· + ·) 0
  let v := n * sxx - sx * sx
  let atLeast (c : Nat) : Bool := Nat.ble (10 ^ (2 * c - 1) * v ^ 80) ((256 * n * n) ^ 80)
  if n = 0 ∨ v = 0 then none
  else if atLeast 256 then none
  else some ((List.range 255).filter (fun c => atLeast (c + 1))).length

/-- Eye margin above threshold j (R59): empty codes between the lowest occupied bin above it and the
highest below it. None where a side is empty. -/
def eyeMargin (occupied : List Nat) (j : Nat) : Option Nat :=
  let t := 32 * (j + 1)
  match (occupied.filter (fun b => decide (t ≤ b))).head?,
        ((occupied.filter (fun b => decide (b < t))).reverse).head? with
  | some lo, some hi => some (lo - hi - 1)
  | _, _ => none

/-- A result field takes a computed value, or a free value where the manual states none. -/
def State.putOrFree (s : State) (f : Fld) : Option Nat → State
  | some v => s.put f v
  | none => (s.put f s.free.toNat).useFree

/-- The SNR estimate of the requester procedure (R99): the mean of the four level SNRs, in 1/16 dB, from the level histogram of its
2^16 UI. A level whose SNR the manual does not state counts with a free value. -/
def State.snrMean (s : State) (bins : List Word) : Nat :=
  let pairs := (List.range 128).zip (bins.map (fun b => b.toNat))
  ((List.range 4).map (fun k =>
    (snrQuarterDb (pairs.filter (fun x => decide (x.1 ∈ levelBins k)))).getD ((Config.freeWord (s.freeCtr + k)).toNat % 256))).foldl
      (· + ·) 0

/-- The free values that the estimate may have used are used up. -/
def State.useFree4 (s : State) : State := { s with freeCtr := s.freeCtr + 4 }

/-- The run's bins are stored, and for SRC = 1 SNR and margins are computed (R59). -/
def State.histDone (s : State) (i : Nat) (bins : List Word) : State :=
  let pairs := (List.range 128).zip (bins.map (fun b => b.toNat))
  let s := (s.each pairs (fun x t => t.setReg (LRX.hist i x.1) (BitVec.ofNat 32 x.2))).put (LRX.run i) 0
  let s := s.put (LRX.done i) 1
  if s.on (LRX.src i) then
    let occupied := (pairs.filter (fun x => decide (x.2 ≠ 0))).map (fun x => x.1)
    (s.each (List.range 4) (fun k t => t.putOrFree (LRX.snr i k)
        (snrQuarterDb (pairs.filter (fun x => decide (x.1 ∈ levelBins k)))))).each (List.range 3)
      (fun j t => t.putOrFree (LRX.margin i j) (eyeMargin occupied j))
  else s

/-- LOS_ASSERT (R52): the amplitude has been at `mvpp` for `us`. -/
def execLosAssert (sd : Side) (p : Pos) (mvpp us : Nat) (s : State) : Host.Outcome State Fault Refusal :=
  .next (s.losAssert (laneIdx sd p) mvpp us)

/-- LOS_CLEAR (R52). -/
def execLosClear (sd : Side) (p : Pos) (mvpp us : Nat) (s : State) : Host.Outcome State Fault Refusal :=
  .next (s.losClear (laneIdx sd p) mvpp us)

/-- COMET_DETECT (R53). -/
def execCometDetect (sd : Side) (p : Pos) (s : State) : Host.Outcome State Fault Refusal :=
  .next (s.cometDetect (laneIdx sd p))

/-- ADAPT_UPDATE (R45). -/
def execAdaptUpdate (sd : Side) (p : Pos) (u : AdaptUpdate) (s : State) :
    Host.Outcome State Fault Refusal :=
  .next (s.adapt (laneIdx sd p) u)

/-- DET_MODE_SWITCH (R41). -/
def execDetModeSwitch (sd : Side) (p : Pos) (s : State) : Host.Outcome State Fault Refusal :=
  .next (s.detSwitch (laneIdx sd p))

/-- STARVE_WINDOW_END (R49): the detector is off while the lane-end is not ACTIVE (R47). -/
def execStarveWindowEnd (sd : Side) (p : Pos) (minCount transitions : Nat) (s : State) :
    Host.Outcome State Fault Refusal :=
  .next (s.when (s.rxActive (laneIdx sd p))
    (fun t => t.starveWindow (laneIdx sd p) minCount transitions))

/-- RX_FIFO_SLIP (R55): only with the PLL of the lane's direction in holdover. -/
def execRxFifoSlip (sd : Side) (p : Pos) (s : State) : Host.Outcome State Fault Refusal :=
  .next (s.when (s.rxActive (laneIdx sd p) && s.on (GLB.hold (inEngine sd.idx))) (fun t => t.rxSlip (laneIdx sd p)))

/-- HISTOGRAM_RUN_START (R58). -/
def execHistogramRunStart (sd : Side) (p : Pos) (s : State) : Host.Outcome State Fault Refusal :=
  .next (s.soft (LRX.histcfg (laneIdx sd p)) (fun t => t.histStart (laneIdx sd p)))

/-- A level histogram has 128 bins (R58). -/
def binsOk (bins : List Word) : Bool := decide (bins.length = 128)

/-- Samples in the bins of a run. -/
def binTotal (bins : List Word) : Nat := (bins.map (fun b => b.toNat)).foldl (· + ·) 0

/-- The run that is in progress has kept its last sample (R58). SRC, SLOT, DECIM and SAMPLES_LOG2 count as they stand at its end
(DESIGN CHOICE, log entry 38). -/
def State.histEnds (s : State) (i : Nat) (r : HistRun) : Bool :=
  s.on (LRX.run i) && s.rxActive i && decide (r.slot = s.histSlot i ∧ r.decim = s.get (LRX.decim i))
    && decide (binTotal r.bins = s.histSamples i)

/-- HISTOGRAM_RUN_DONE (R59): of a run in progress at an ACTIVE lane-end. -/
def execHistogramRunDone (sd : Side) (p : Pos) (r : HistRun) (s : State) :
    Host.Outcome State Fault Refusal :=
  if binsOk r.bins then
    .next (s.when (s.histEnds (laneIdx sd p) r) (fun t => t.histDone (laneIdx sd p) r.bins))
  else .fault .illFormed

end Sys2Proof.Machine
end

