-- ==== Sys2Proof/Machine/Transmitter.lean ====
section
/-! DEFINITION. The lane transmitter (03_lane_transmitter.md, R66 to R78): staged taps, cells, the
rotator and the transmit FIFO. `i` is a lane-end index. -/

namespace Sys2Proof.Machine

/-- The segment is training on the lane-end, or a lane training is (R72, R74). -/
def State.txTraining (s : State) (i : Nat) : Bool := s.posTrains (i / 34) (i % 34) || s.ltRunning i

/-- The five staged taps, by place. -/
def State.stagedTaps (s : State) (i : Nat) : List Int :=
  (List.range 5).map (fun k => s.getInt (LTX.stagedTap i k))

/-- The sum of the magnitudes of the non-main taps (R70). -/
def tapSum (taps : List Int) : Nat := (taps.map Int.natAbs).foldl (· + ·) 0

/-- LTX_AMP.AMP held within 100 to 250 (R71). -/
def ampOf (a : Nat) : Nat := if a < 100 then 100 else if 250 < a then 250 else a

/-- The taps become the applied ones, with the main tap that follows from them (R69, R90). -/
def State.applyTaps (s : State) (i : Nat) (taps : List Int) : State :=
  (s.each ((List.range 5).zip taps) (fun x t => t.putInt (LTX.liveTap i x.1) x.2)).put (LTX.liveMain i)
    (128 - tapSum taps)

/-- A COMMIT (R72): refused while training owns the taps or where the staged set breaks R70, otherwise scheduled. The set
that is applied is the one staged at the write (DESIGN CHOICE, log entry 38). -/
def State.commit (s : State) (i : Nat) : State :=
  if s.txTraining i || decide (64 < tapSum (s.stagedTaps i)) then s.put (LTX.commitRej i) 1
  else (s.put (LTX.commit i) 1).updTx i (fun t => { t with
    commitSet := some (s.stagedTaps i, ampOf (s.get (LTX.amp i))) })

/-- Training starts: a COMMIT that waits is discarded and COMMIT_REJ set (R72). -/
def State.commitDiscard (s : State) (i : Nat) : State :=
  if (s.txe i).commitSet.isSome then
    ((s.put (LTX.commit i) 0).put (LTX.commitRej i) 1).updTx i (fun t => { t with commitSet := none })
  else s

/-- The staged set takes effect (R72): taps and amplitude together. While training owns them it is discarded. -/
def State.commitApply (s : State) (i : Nat) : State :=
  match (s.txe i).commitSet with
  | some (taps, amp) =>
    if s.txTraining i then s.commitDiscard i
    else ((((s.applyTaps i taps).put (LTX.liveAmp i) amp).put (LTX.commit i) 0).put (LTX.commitRej i) 0).updTx i
      (fun t => { t with commitSet := none })
  | none => s

/-- Cells in a state: 0 SERVING, 1 REDUNDANT, 2 RETIRED (R67). -/
def State.cellsIn (s : State) (i st : Nat) : List Nat :=
  (List.range 271).filter (fun n => decide (s.get (LTX.cell i n) = st))

/-- CELL_SPARES follows the number of REDUNDANT cells (R68). -/
def State.noteCells (s : State) (i : Nat) : State :=
  s.put (LTX.cellSpares i) (s.cellsIn i 1).length

/-- REDUNDANT cells that can take a place in the decoder: one that stands in for a lent cell holds a place already
(R224). -/
def State.cellPool (s : State) (i : Nat) : List Nat :=
  (s.cellsIn i 1).filter (fun n => match (s.txe i).lent with
    | some (_, r) => decide (n ≠ r)
    | none => true)

/-- A suspect cell is replaced from the redundant cells, or full scale shrinks and the lane-end's fault
is raised (R68). A REDUNDANT cell found suspect leaves the pool (DEDUCED, log entry 13). -/
def State.cellReplace (s : State) (i n : Nat) : State :=
  if s.get (LTX.cell i n) = 1 then (s.put (LTX.cell i n) 2).noteCells i
  else if s.get (LTX.cell i n) = 2 then s
  else match (s.cellPool i).head? with
    | some r =>
      ((((s.put (LTX.cell i r) 0).put (LTX.cell i n) 2).count (LTX.cellswapCnt i)).noteCells i)
    | none => (s.put (LTX.cell i n) 2).leSet (68 + i) 1

/-- A marker boundary of the transmitter's own stream: an accepted amplitude bias comes into effect (R224). -/
def State.txBoundary (s : State) (i : Nat) : State := s.updTx i (fun t => { t with bias := s.getInt (CAL.repBias i) })

/-- The cells that wait for this boundary are replaced (R68). -/
def State.cellsReplace (s : State) (i : Nat) : State :=
  ((s.updTx i (fun t => { t with cellPend := [] })).each (s.txe i).cellPend (fun n t => t.cellReplace i n))

def State.pll (s : State) (e : Nat) : Pll := Sparse.get ⟨0, false⟩ s.plls e

def State.updPll (s : State) (e : Nat) (f : Pll → Pll) : State :=
  { s with plls := Sparse.set ⟨0, false⟩ s.plls e (f (s.pll e)) }

/-- The rotator of a lane-end is held static: a port group in F mode in a reference-timed direction
(R21, R78). -/
def State.rotStatic (s : State) (i : Nat) : Bool :=
  match s.carried (i / 34) (i % 34) with
  | some (g, _) => decide (s.pers g = 2) && s.on (GLB.mode (outEngine (i / 34)))
  | none => true

/-- The rotator's offset from the direction's PLL in 0.01 ppm, before its limit: the frequency of the
received lane it tracks less the PLL's (R21, R78). -/
def State.rotWanted (s : State) (i : Nat) : Int :=
  if s.rotStatic i then 0
  else match s.carried (i / 34) (i % 34) with
    | some (g, n) =>
      match s.rxPos g (1 - i / 34) n with
      | some p => (s.rxe (34 * (1 - i / 34) + p)).freq - (s.pll (outEngine (i / 34))).freq
      | none => 0
    | none => 0

/-- LTX_ROT.OFFSET: held at ±200 ppm (R22, R78). -/
def State.rotOffset (s : State) (i : Nat) : Int := clampInt (-20000) 20000 (s.rotWanted i)

/-- The taps of a transmitter in effect, c(−3), c(−2), c(−1), c(0), c(+1), c(+2), in 1/128 (R69): while its lane trains those
that the partner's requests have moved, else the applied ones (R90, R98). -/
def State.liveTaps (s : State) (i : Nat) : List Int :=
  if s.txTraining i then
    let side := (s.txe i).taps
    side.take 3 ++ [(128 - tapSum side : Int)] ++ side.drop 3
  else
    let side := (List.range 5).map (fun k => s.getInt (LTX.liveTap i k))
    side.take 3 ++ [(s.get (LTX.liveMain i) : Int)] ++ side.drop 3

/-- The DAC code for the symbols s(n+3), …, s(n−2), in thirds, −3, −1, +1 or +3 (R69): 127.5 × (1 + y) rounded to
the nearest integer, halves up. -/
def State.dacCode (s : State) (i : Nat) (syms : List Int) : Int :=
  let y := (List.zipWith (· * ·) (s.liveTaps i) syms).foldl (· + ·) 0
  (255 * (384 + y) + 384) / 768

/-- Full scale of the output in cells: 255, or the N cells that still serve (R68). -/
def State.fullScale (s : State) (i : Nat) : Nat := (s.cellsIn i 0).length

/-- Twice the differential output in units of AMP / 255 for a DAC code: code − 127.5 scaled by N / 255, inverted where
POL_INV is in effect (R66, R68, R73). The rule gives code × N / 255 no rounding; the level is rounded down (DESIGN CHOICE,
log entry 38). -/
def State.levelOf (s : State) (i : Nat) (code : Int) : Int :=
  let v := (2 * code - 255) * s.fullScale i / 255
  if (s.txe i).pol = 0 then v else -v

/-- The output for a sequence of symbols. -/
def State.outputLevel (s : State) (i : Nat) (syms : List Int) : Int := s.levelOf i (s.dacCode i syms)

/-- What the output stage drives for a level before its own error: the level scaled by the amplitude bias in effect, in
thousandths (R224). -/
def State.driven (s : State) (i : Nat) (level : Int) : Int := level * (1000 + (s.txe i).bias)

/-- The DAC code of UI n of a Comet pattern: 64 UI at the lowest level alternate with 64 UI at the highest (R75). -/
def cometCode (n : Nat) : Int := if n / 64 % 2 = 0 then 0 else 255

/-- The output in UI n of COMET, at the full amplitude of LTX_AMP (R75). -/
def State.cometLevel (s : State) (i n : Nat) : Int := s.levelOf i (cometCode n)

/-- COMMIT (R72): a write of 1 to LTX_CTRL.COMMIT. -/
def execCommit (sd : Side) (p : Pos) (s : State) : Host.Outcome State Fault Refusal :=
  .next (s.soft (LTX.ctrl (laneIdx sd p)) (fun t => t.commit (laneIdx sd p)))

/-- ROTATOR_LIMIT (R78): of an ACTIVE lane-end whose offset rests at the named limit. -/
def execRotatorLimit (sd : Side) (p : Pos) (negative : Bool) (s : State) :
    Host.Outcome State Fault Refusal :=
  .next (s.when (s.txActive (laneIdx sd p)
      && decide (s.rotOffset (laneIdx sd p) = if negative then -20000 else 20000))
    (fun t => (t.put (LTX.rotAtLimit (laneIdx sd p)) 1).raise (LTX.event (laneIdx sd p)) 0))

/-- TX_FIFO_SLIP (R78): never where the rotator is held static. -/
def execTxFifoSlip (sd : Side) (p : Pos) (s : State) : Host.Outcome State Fault Refusal :=
  .next (s.when (s.txActive (laneIdx sd p) && !s.rotStatic (laneIdx sd p))
    (fun t => (t.updTx (laneIdx sd p) (fun x => { x with fifo := 128 })).count
      (LTX.slipCnt (laneIdx sd p))))

end Sys2Proof.Machine
end

