-- ==== Sys2Proof/Machine/Crescent.lean ====
section
/-! DEFINITION. Crescent calibration (09_crescent_calibration.md) and the slice swap as the receiver
sees it (R32 to R39). `i` is a lane-end index; a slice is named by its number. -/

namespace Sys2Proof.Machine

/-- The temperature sensor of a lane-end (R225). -/
def sensorOf (i : Nat) : Nat :=
  let p := i % 34
  4 * (i / 34) + (if p ≤ 8 then 0 else if p ≤ 16 then 1 else if p ≤ 25 then 2 else 3)

/-- Calibration is suspended while any cause is set (R229); EN = 0 suspends as HOST_SUSPEND does. -/
def State.calHost (s : State) : Bool := s.on CAL.hostSuspend || !s.on CAL.en

def State.calSuspended (s : State) : Bool :=
  s.on CAL.refvBad || s.on CAL.refclkLost || s.on CAL.guard || s.calHost

/-- Milliseconds since cold reset. -/
def State.ms (s : State) : Nat := s.clock / 625000

/-- Appends a record to a lane-end's Crescent log, 24 records in circular order (R57, R233). `bytes` is
bytes 8 to 11: the trims and the reject count. FLAGS tells of a sweep in every record. -/
def State.rxLog (s : State) (i kind slice slot flags bytes : Nat) : State :=
  let n := (s.rxe i).logSeq
  let a := LRX.base i + 0xE80 + 16 * (n % 24)
  let flags := flags + 128 * boolNat (decide ((s.rxe i).sweep ≠ 0))
  ((((s.setReg a (BitVec.ofNat 32 s.ms)).setReg (a + 4)
      (BitVec.ofNat 32 (kind + 2 ^ 8 * slice + 2 ^ 16 * slot + 2 ^ 24 * flags))).setReg (a + 8)
      (BitVec.ofNat 32 bytes)).setReg (a + 12)
      (BitVec.ofNat 32 (s.get (CAL.temp (sensorOf i)) + 2 ^ 16 * (n % 65536)))).updRx i
    (fun r => { r with logSeq := n + 1 })

/-- Appends a record to the unit log, 64 records in circular order (R233). `lane` is byte 5, `cell`
bytes 6 and 7. -/
def State.calLog (s : State) (kind lane cell bytes sensor : Nat) : State :=
  let n := s.calSeq
  let a := CAL.log (n % 64)
  let t := (((s.setReg a (BitVec.ofNat 32 s.ms)).setReg (a + 4)
      (BitVec.ofNat 32 (kind + 2 ^ 8 * lane + 2 ^ 16 * cell))).setReg (a + 8)
      (BitVec.ofNat 32 bytes)).setReg (a + 12)
      (BitVec.ofNat 32 (s.get (CAL.temp sensor) + 2 ^ 16 * (n % 65536)))
  { t with calSeq := n + 1 }

/-- Byte 5 of a unit log record that names a transmitter lane-end. -/
def logLane (i : Nat) : Nat := 128 * (i / 34) + 64 + i % 34

/-- Trims and reject count of a slice as bytes 8 to 11 of its record, trims as measured. -/
def trimBytes (m : SliceMeas) (rej : Nat) : Nat :=
  ofSigned 8 m.offset + 2 ^ 8 * ofSigned 8 m.gain + 2 ^ 16 * ofSigned 8 m.skew + 2 ^ 24 * rej

/-- num / den rounded to the nearest integer, halves up. -/
def roundDiv (num : Int) (den : Nat) : Int := (2 * num + den) / (2 * den)

/-- The results of a cycle's phases (R216) in trim steps (R217). The mean code of a phase is its sum over 2^16. OFFSET
is the mean code under ZERO less 63.5, in eighths of an LSB. GAIN is the mean under POS less that under NEG over the
ideal 115.2 codes, less 1, in 0.05 %. SKEW is the mean under RAMP less 63.5 and the offset, at 4.6875 mV an LSB and
10 mV/ps, in 10 fs. -/
def cycleResults (m : CycleMeas) : SliceMeas :=
  { offset := roundDiv (m.zero - 508 * 8192) 8192
    gain := roundDiv (10000 * ((m.pos : Int) - m.neg) - 2000 * 576 * 65536) (576 * 65536)
    skew := roundDiv (375 * ((m.ramp : Int) - m.zero)) (8 * 65536) }

/-- The trims that the results call for: the corrections, to the nearest step (R217; the rounding of a half is a DESIGN
CHOICE, log entry 38). -/
def cycleTrims (m : CycleMeas) : SliceMeas :=
  let r := cycleResults m
  ⟨-r.offset, -r.gain, -r.skew⟩

/-- The cycle period of a receiver lane-end in ms: FAST_PERIOD in a sweep; 0 is treated as 1 (R216, R227, R234). -/
def State.cyclePeriod (s : State) (i : Nat) : Nat :=
  orOne (if (s.rxe i).sweep = 0 then s.get CAL.period else s.get CAL.fastPeriod)

/-- The instant of a lane-end's cycle starts after the common period boundary, in 1/68 of its period (R216). -/
def cycleOffset (i : Nat) : Nat := i

/-- The period of Tx passes in ms: TX_PERIOD in units of 10 ms, 0 treated as 1 (R224, R234). -/
def State.passPeriod (s : State) : Nat := 10 * orOne (s.get CAL.txPeriod)

/-- The change of temperature since an earlier acceptance, in 0.125 °C; `m` is 1 + the reading then. -/
def State.deltaT (s : State) (sensor m : Nat) : Nat :=
  (signedOf 16 (s.get (CAL.temp sensor)) - signedOf 16 (m - 1)).natAbs

/-- Failures of the plausibility checks of a slice result (R218), as FLAGS of R233: window then step
for OFFSET (0.125 LSB), GAIN (0.05 %) and SKEW (10 fs). The step limits apply only after an earlier
acceptance. -/
def State.sliceFlags (s : State) (i n : Nat) (m : SliceMeas) : Nat :=
  let seen := Sparse.get 0 (s.rxe i).measured n
  let dT := s.deltaT (sensorOf i) seen
  let d (f : Fld) (v : Int) : Nat := (v - s.getInt f).natAbs
  boolNat (decide (96 < m.offset.natAbs))
    + 2 * boolNat (decide (seen ≠ 0 ∧ 160 + dT < 20 * d (CAL.offset i n) m.offset))
    + 4 * boolNat (decide (120 < m.gain.natAbs))
    + 8 * boolNat (decide (seen ≠ 0 ∧ 80 + dT < 20 * d (CAL.gain i n) m.gain))
    + 16 * boolNat (decide (120 < m.skew.natAbs))
    + 32 * boolNat (decide (seen ≠ 0 ∧ 800 + 5 * dT < 80 * d (CAL.skew i n) m.skew))

/-- A Tx cell trim is plausible: within ±3.0 %, and within 0.5 % + 0.02 %/°C of the last (R218). -/
def State.cellPlausible (s : State) (i n : Nat) (trim : Int) : Bool :=
  let seen := Sparse.get 0 (s.txe i).measured n
  decide (trim.natAbs ≤ 30) && (decide (seen = 0)
    || decide (40 * (trim - s.getInt (CAL.cellTrim i n)).natAbs ≤ 200 + s.deltaT (sensorOf i) seen))

/-- A replica bias is plausible: within ±10.0 %, and within 1.0 % + 0.05 %/°C of the last (R218). -/
def State.replicaPlausible (s : State) (i : Nat) (trim : Int) : Bool :=
  let seen := Sparse.get 0 (s.txe i).measured 271
  decide (trim.natAbs ≤ 100) && (decide (seen = 0)
    || decide (16 * (trim - s.getInt (CAL.repBias i)).natAbs ≤ 160 + s.deltaT (sensorOf i) seen))

/-- Slices of a receiver lane-end in a state: 0 ACTIVE, 1 CRESCENT, 2 COLD, 3 RETIRED (R33). -/
def State.slicesIn (s : State) (i st : Nat) : List Nat :=
  (List.range 66).filter (fun n => decide (s.get (LRX.slice i n) = st))

/-- The CRESCENT slice. -/
def State.crescent (s : State) (i : Nat) : Option Nat := (s.slicesIn i 1).head?

/-- The slot that a slice serves. -/
def State.slotOf (s : State) (i n : Nat) : Option Nat :=
  (List.range 64).find? (fun k => decide (s.get (LRX.slotMap i k) = n))

/-- The target slot of a swap (R222): the slot of the slice accepted longest ago, other than a blocked
slot against which the CRESCENT slice has failed, and other than the slots found not eligible (R39). -/
def State.targetSlot (s : State) (i c : Nat) : Option Nat :=
  let r := s.rxe i
  (r.order.filterMap (fun n => if s.get (LRX.slice i n) = 0 then s.slotOf i n else none)).find?
    (fun k => !(match r.blocked with
        | some (b, f) => decide (b = k ∧ f = c)
        | none => false) && !decide (k ∈ r.passed))

/-- A shadow comparison against the target slot begins; with no eligible slot the swap is held. -/
def State.beginSwap (s : State) (i c : Nat) : State :=
  match s.targetSlot i c with
  | some k => s.updRx i (fun r => { r with
      accepted := true,
      swap := some { slot := k, slice := c, stage := .compare, forced := false, periods := 0 } })
  | none => s.updRx i (fun r => { r with accepted := true, swap := none })

/-- Zeroes the reject counts of one register of the trim regions. -/
def clearRejWord (a : Nat) (w : Word) : Word :=
  if 0x62000 ≤ a ∧ a < 0x66C80 then w &&& ~~~0x03000000#32
  else if 0x67000 ≤ a ∧ a < 0x6BC80 then
    (if (a - 0x67000) % 0x120 = 0x110 then w &&& ~~~0x300#32 else w &&& ~~~0xC0C0C0C0#32)
  else w

/-- Cycles in progress are abandoned when suspension begins (R217, R229). -/
def State.abandonCycles (s : State) : State := s.mapRx (fun r => { r with cycling := false })

/-- A suspension begins where none stood before: cycles are abandoned and it is logged. -/
def State.suspendBegin (s : State) (was : Bool) : State :=
  if was then s else (s.abandonCycles).calLog 8 0 0xFFFF 0 8

/-- The guard trips (R229): every reject count becomes zero, which cancels every verdict that has not
taken effect. CAL_GUARD reports. -/
def State.guardTrip (s : State) : State :=
  let was := s.calSuspended
  (((((((s.put CAL.guard 1).mapRegs clearRejWord).mapRx (fun r => { r with verdict := none, due := false })).mapTx
    (fun t => { t with verdicts := [], dues := [] })).raise CAL.event 4).causeOn 169)).suspendBegin was

/-- Records a reject on a lane-end for the guard: 8 or more distinct lane-ends within 100 ms trip it
(R229). -/
def State.noteReject (s : State) (key : Nat) : State :=
  let recent := (key, s.clock) :: s.rejects.filter (fun x => decide (s.clock < x.2 + 62500000 ∧ x.1 ≠ key))
  ({ s with rejects := recent }).when (decide (8 ≤ recent.length) && s.on CAL.guardEn && !s.on CAL.guard)
    State.guardTrip

/-- A reject of a slice (R219, R220). The guard acts first: a trip leaves the count at zero. -/
def State.sliceReject (s : State) (i n kind slot flags : Nat) (m : SliceMeas) : State :=
  let rej := satSucc 3 (s.get (CAL.rej i n))
  let s := ((((s.put (CAL.rej i n) rej).count (LRX.rejectCnt i)).raise (LRX.event i) 3).rxLog i kind n slot
    flags (trimBytes m rej)).updRx i (fun r => { r with lastMeas := trimBytes m 0 }) |>.noteReject i
  if s.get (CAL.rej i n) = 3 then s.updRx i (fun r => { r with verdict := some n }) else s

/-- A slice takes the trims of an accepted result, and the acceptance is remembered (R218, R219, R222). -/
def State.loadSlice (s : State) (i n : Nat) (m : SliceMeas) : State :=
  (((s.putInt (CAL.offset i n) m.offset).putInt (CAL.gain i n) m.gain).putInt (CAL.skew i n)
    m.skew).updRx i (fun r => { r with
      order := r.order.filter (fun k => decide (k ≠ n)) ++ [n],
      measured := Sparse.set 0 r.measured n (1 + s.get (CAL.temp (sensorOf i))) })

/-- A plausible slice result is accepted: its trims are loaded and the swap procedure begins, or a
held swap takes the newest result (R219, R222, R223). -/
def State.sliceAccept (s : State) (i n : Nat) (m : SliceMeas) : State :=
  let s := s.loadSlice i n m
  if ((s.rxe i).swap).isSome then s else (s.updRx i (fun r => { r with passed := [] })).beginSwap i n

/-- The end of a measurement cycle (R216, R219). -/
def State.cycleDone (s : State) (i : Nat) (c : CycleMeas) : State :=
  match s.crescent i with
  | some n =>
    let s := s.updRx i (fun r => { r with cycling := false })
    let m := cycleTrims c
    if s.sliceFlags i n m = 0 then s.sliceAccept i n m
    else s.sliceReject i n 2 0xFF (s.sliceFlags i n m) m
  | none => s

/-- A LOOPBACK slice runs at the position of a lane-end: its cycles and passes are held (R379). -/
def State.bistHolds (s : State) (i : Nat) : Bool :=
  match s.bist.head? with
  | some r => decide (r.stage ≠ .waiting) && (match r.slices[r.k]? with
    | some x => decide (x.kind = 1 ∧ 34 * (x.sel / 128) + x.sel % 64 = i)
    | none => false)
  | none => false

/-- A shadow comparison is stopped by LOS or by a clear CDR_LOCK (R38). -/
def State.compareStopped (s : State) (i : Nat) : Bool := s.on (LRX.losNow i) || !s.on (LRX.cdrLock i)

/-- The CRESCENT slice is connected to the input for a comparison that runs, or the displaced slice settles (R35,
R37). -/
def State.sliceBusy (s : State) (i : Nat) : Bool :=
  match (s.rxe i).swap with
  | some w => match w.stage with
    | .window => false
    | .compare => !s.compareStopped i
    | .settle => true
  | none => false

/-- Starts a measurement cycle of the CRESCENT slice (R216): at an ACTIVE lane-end, not suspended, and
not while that slice is connected to the input, settling, or awaiting a verdict. A comparison that LOS or an unlock has
stopped leaves cycles running (R217, R223). -/
def State.cycleStart (s : State) (i : Nat) : State :=
  let r := s.rxe i
  if s.rxActive i && !s.calSuspended && !s.bistHolds i && !r.fg && !r.stopped && !s.sliceBusy i
      && !r.verdict.isSome && !r.cycling && (s.crescent i).isSome then
    s.updRx i (fun r => { r with cycling := true })
  else s

/-- A mean difference above 0.5 LSB, or more than 4 of the 4,096 pairs above 3 LSB, fails the shadow
comparison (R35). The sum is in eighths of an LSB. -/
def shadowPasses (sumEighths : Int) (over3 : Nat) : Bool :=
  decide (sumEighths.natAbs ≤ 16384) && decide (over3 ≤ 4)

/-- The trims a slice carries, as a measurement record. -/
def State.trimsOf (s : State) (i n : Nat) : SliceMeas :=
  ⟨s.getInt (CAL.offset i n), s.getInt (CAL.gain i n), s.getInt (CAL.skew i n)⟩

/-- The end of a shadow comparison (R35, R222). One that starts again waits for the cycle in progress (DEDUCED, log
entry 39). -/
def State.shadowDone (s : State) (i : Nat) (sumEighths : Int) (over3 : Nat) : State :=
  let r := s.rxe i
  match r.swap with
  | some w =>
    if w.stage ≠ .compare ∨ s.compareStopped i ∨ r.cycling then s
    else if shadowPasses sumEighths over3 then
      s.updRx i (fun r => { r with swap := some { w with stage := .window } })
    else if (match r.blocked with
        | some (b, _) => decide (b = w.slot)
        | none => false) then
      s.updRx i (fun r => { r with
        swap := some { w with stage := .window, forced := true },
        blocked := none })
    else
      (s.updRx i (fun r => { r with
        swap := none, accepted := false,
        blocked := some (w.slot, w.slice) })).sliceReject i w.slice 3 w.slot 64 (s.trimsOf i w.slice)
  | none => s

/-- A lane-end is struck off the requests that wait for it, those that have not begun among them where `waiting` says so; a
request completes OK with its last one (R231). -/
def State.calStrike (s : State) (tx : Bool) (i : Nat) (waiting : Bool) : State :=
  let hit (c : CalReq) : Bool := decide (c.tx = tx) && (waiting || c.begun) && decide (i ∈ c.left)
  let reqs := s.calReqs.map (fun c => if hit c then { c with left := c.left.filter (· ≠ i) } else c)
  let ended (c : CalReq) : Bool := c.begun && c.left.isEmpty
  ({ s with calReqs := reqs.filter (fun c => !ended c) }).each (reqs.filter ended)
    (fun c t => t.opDone c.owner stOk c.skipped)

/-- A request's lane-end is finished. -/
def State.calFinished (s : State) (tx : Bool) (i : Nat) : State := s.calStrike tx i false

/-- A request's lane-end leaves ACTIVE: the request no longer waits for it (R231). -/
def State.calGone (s : State) (tx : Bool) (i : Nat) : State := s.calStrike tx i true

/-- A named lane-end was held beyond the limit: the requests that wait for it end with TIMEOUT. -/
def State.calTimedOut (s : State) (tx : Bool) (i : Nat) : State :=
  let hit (c : CalReq) : Bool := decide (c.tx = tx) && decide (i ∈ c.left)
  ({ s with calReqs := s.calReqs.filter (fun c => !hit c) }).each (s.calReqs.filter hit)
    (fun c t => t.opDone c.owner stTimeout c.skipped)

/-- One completed swap of a sweep (R227). -/
def State.sweepStep (s : State) (i : Nat) : State :=
  let n := (s.rxe i).sweep
  if n = 0 then s
  else
    (s.updRx i (fun r => { r with sweep := n - 1 })).when (decide (n = 1))
      (fun t => (t.put (CAL.sweepRx i) 0).calFinished false i)

/-- The hold episode of a lane-end ends; CAL_HELD ends with the last one (R223). -/
def State.holdEnd (s : State) (i : Nat) : State :=
  if (s.rxe i).holdDone then
    let s := s.updRx i (fun r => { r with holdDone := false })
    if s.rx.any (fun x => x.2.holdDone) then s else s.causeOff 168
  else s

/-- The personality of the Ethernet port group whose lane a lane-end carries. -/
def State.ethPers (s : State) (i : Nat) : Option Nat :=
  match s.carried (i / 34) (i % 34) with
  | some (g, _) => if s.cfl g then none else some (s.pers g)
  | none => none

/-- The slot switches to the incoming slice (R36, R37): the residual restarts from zero, the swap is
counted and logged, and the displaced slice settles; until it has, LRX_SLICESTATE shows it ACTIVE (DESIGN CHOICE, log
entry 38). The incoming slice is no longer CRESCENT: its reject count is zero, a verdict that has fallen due on it
lapses, and a cycle that measures it has no result (DEDUCED, log entry 39). On a G-mode Ethernet lane the two decisions
of the window are marked invalid (R39). -/
def State.swapNow (s : State) (i : Nat) (w : Swap) : State :=
  let old := s.get (LRX.slotMap i w.slot)
  let erase := decide (s.ethPers i = some 1)
  let s := ((s.put (LRX.slotMap i w.slot) w.slice).put (LRX.slice i w.slice) 0).put (CAL.rej i w.slice) 0
  let s := (s.updRx i (fun r => { r with
    residuals := Sparse.set 0 r.residuals w.slot 0,
    accepted := false, passed := [], cycling := false, verdict := none, due := false,
    marked := r.marked + (if erase then 2 else 0),
    blocked := (match r.blocked with
      | some (b, f) => if b = w.slot then none else some (b, f)
      | none => none),
    swap := some { w with slice := old, stage := .settle } })).count (LRX.swapCnt i)
  (((s.rxLog i (if w.forced then 4 else 1) w.slice w.slot 0 (trimBytes (s.trimsOf i w.slice) 0)).holdEnd i).sweepStep
      i)

/-- A pending swap is held (R38, R93, R223): while a change moves the lane-end's traffic or a shadow copy feeds it, while
the lane-end trains, while calibration is suspended, without marker lock, and on an Ethernet lane where R39 holds
it. -/
def State.swapHeld (s : State) (i : Nat) : Bool :=
  s.calSuspended || !s.rxActive i || !s.on (LRX.markerLock i) || s.txTraining i || (s.lt i).isSome
    || (List.range 4).any (fun g => s.movesEnd g (i / 34) (i % 34))
    || (decide (s.ethPers i = some 0) && decide ((s.rxe i).periods < 16))
    || (decide (s.ethPers i = some 1) && (s.rxe i).stress)

/-- One more period of a recorded UI position: the length of the run of its symbol, up to 16 periods (R39). -/
def recordUi (old : Nat × Nat) (sym : Nat) : Nat × Nat :=
  if old.2 ≠ 0 ∧ old.1 = sym then (sym, min 16 (old.2 + 1)) else (sym, 1)

/-- The record of a T-mode Ethernet lane after the symbols of one more period (R39). -/
def recordPeriod (old : List (Nat × Nat)) (syms : List (Fin 4)) : List (Nat × Nat) :=
  ((List.range syms.length).zip syms).map (fun x => recordUi (old.getD x.1 (0, 0)) x.2.val)

/-- UI position u is constant: its symbol was the same in each of the last 16 periods (R39). -/
def constantUi (rec : List (Nat × Nat)) (u : Nat) : Bool := decide ((rec.getD u (0, 0)).2 = 16)

/-- Two successive decisions of a slot fall on constant positions, where slot `phase` takes the first UI after the
boundary: the window is placed at such a pair within the recorded UI (R39; DEDUCED, log entry 39). -/
def slotConstant (rec : List (Nat × Nat)) (phase slot : Nat) : Bool :=
  let u := (slot + 64 - phase) % 64
  (List.range 63).any (fun j => constantUi rec (u + 64 * j) && constantUi rec (u + 64 * j + 64))

/-- The symbols of the UI after a marker boundary, from a receiver's decisions, of which the first is the last one before the
boundary: precoding that has been agreed is removed (R42, R91). -/
def State.received (s : State) (i : Nat) (syms : List (Fin 4)) : List (Fin 4) :=
  if s.on (LRX.precode i) then List.zipWith (fun a b => a + b) (syms.drop 1) syms else syms.drop 1

/-- A marker boundary passes: the period before it is judged no longer, and in T mode one more period is recorded while
marker lock holds (R39). -/
def State.periodEnds (s : State) (i : Nat) (syms : List (Fin 4)) : State :=
  s.updRx i (fun r => { r with
    stress := false,
    periods := if s.ethPers i = some 0 ∧ s.on (LRX.markerLock i) = true then r.periods + 1 else r.periods,
    record := if s.ethPers i = some 0 ∧ s.on (LRX.markerLock i) = true then recordPeriod r.record (s.received i syms)
      else r.record })

/-- A marker boundary at which a pending swap may take place (R36, R39). In T mode on Ethernet a slot
whose decisions fall on no constant positions in 64 marker periods is not eligible, and R222 takes the
next. Only boundaries at which the swap is not held count among the 64 (DESIGN CHOICE, log entry 38). -/
def State.swapWindow (s : State) (i phase : Nat) (syms : List (Fin 4)) : State :=
  let t := s.periodEnds i syms
  match (s.rxe i).swap with
  | some w =>
    if w.stage ≠ .window ∨ s.swapHeld i then t
    else if s.ethPers i = some 0 ∧ !slotConstant (s.rxe i).record phase w.slot then
      if w.periods + 1 < 64 then
        t.updRx i (fun r => { r with swap := some { w with periods := w.periods + 1 } })
      else (t.updRx i (fun r => { r with passed := w.slot :: r.passed })).beginSwap i w.slice
    else t.swapNow i w
  | none => t

/-- 1 µs after the swap window the displaced slice is CRESCENT (R37). -/
def State.sliceSettled (s : State) (i : Nat) : State :=
  match (s.rxe i).swap with
  | some w =>
    if w.stage = .settle then
      (s.put (LRX.slice i w.slice) 1).updRx i (fun r => { r with swap := none })
    else s
  | none => s

/-- A slice is found suspect (R34): retired, and replaced in the rotation by the COLD slice; with none
left the rotation stops and the lane-end's fault is raised. -/
def State.sliceSuspect (s : State) (i n : Nat) : State :=
  let s := s.put (LRX.slice i n) 3
  match (s.slicesIn i 2).head? with
  | some c => (s.put (LRX.slice i c) 1).put (LRX.sliceSpares i) 1
  | none => ((s.put (LRX.sliceSpares i) 0).updRx i (fun r => { r with stopped := true })).leSet i 0

/-- A suspect verdict on a slice takes effect: the slice is CRESCENT, so a swap that it waited for lapses with it, and the
hold episode ends (R34, R220; DEDUCED, log entry 39). -/
def State.sliceFalls (s : State) (i n : Nat) : State :=
  let s := s.updRx i (fun r => { r with
    verdict := none, due := false, swap := none, accepted := false, cycling := false })
  if s.get (LRX.slice i n) = 1 then
    (((s.sliceSuspect i n).rxLog i 5 n 0xFF 0 ((s.rxe i).lastMeas + 2 ^ 24 * 3)).raise CAL.event 1).holdEnd i
  else s

/-- A sweep starts on a receiver lane-end (R227): the count of 64 starts, or starts again. -/
def State.sweepRxStart (s : State) (i : Nat) : State :=
  if s.rxActive i then
    let n := (s.crescent i).getD 0
    ((s.updRx i (fun r => { r with sweep := 64 })).put (CAL.sweepRx i) 1).rxLog i 7 n 0xFF 0
      (trimBytes (s.trimsOf i n) (s.get (CAL.rej i n)))
  else s

/-- The next cell in a state at or above `n` that no verdict excludes from measurement. -/
def State.nextCell (s : State) (i st n : Nat) : Option Nat :=
  (s.cellsIn i st).find? (fun k => decide (n ≤ k) && !decide (k ∈ (s.txe i).verdicts) && !decide (k ∈ (s.txe i).cellPend))

/-- The cell that a pass measures next at its step: none once the replica is suspect (R220), and in step 3 none without
a REDUNDANT cell to stand in (R224). -/
def State.passTarget (s : State) (i : Nat) : Option Nat :=
  if (s.txe i).repDone then none
  else match (s.txe i).pass with
    | some .redundant => s.nextCell i 1 (s.txe i).passCell
    | some .serving => if (s.cellPool i).isEmpty then none else s.nextCell i 0 (s.txe i).passCell
    | _ => none

/-- The replica is not measured while its verdict is due, nor once it is suspect (R220). -/
def State.replicaSkipped (s : State) (i : Nat) : Bool :=
  (s.txe i).repDone || decide (271 ∈ (s.txe i).verdicts)

/-- The pass moves past steps that have nothing to measure (R224). -/
def State.passSkip (s : State) (i : Nat) : State :=
  let s := if (s.txe i).pass = some .replica ∧ s.replicaSkipped i then
    s.updTx i (fun t => { t with pass := some .redundant, passCell := 0 }) else s
  if (s.txe i).pass = some .redundant ∧ s.passTarget i = none then
    s.updTx i (fun t => { t with pass := some .serving, passCell := 0 }) else s

/-- A pass begins with the replica. -/
def State.passBegin (s : State) (i : Nat) : State :=
  (s.updTx i (fun t => { t with again := false, asked := false, pass := some .replica, passCell := 0 })).passSkip i

/-- Step 3 has nothing left to measure, and no cell is out. -/
def State.passOver (s : State) (i : Nat) : Bool :=
  decide ((s.txe i).pass = some .serving) && decide (s.passTarget i = none) && decide ((s.txe i).lent = none)

/-- A pass ends, and with it the lane-end's part in a sweep or a request. -/
def State.passEnd (s : State) (i : Nat) : State :=
  ((s.updTx i (fun t => { t with pass := none })).put (CAL.sweepTx i) 0).calFinished true i

/-- The pass goes on to what it measures next, or ends; a pass owed by a sweep or a request then follows at once. The lane-end is in
a sweep until the pass of the sweep ends (R224, R227, R231). -/
def State.passSettle (s : State) (i : Nat) : State :=
  let s := s.passSkip i
  if s.passOver i then
    if (s.txe i).again || (s.txe i).asked then
      let s := (if (s.txe i).again then s else s.put (CAL.sweepTx i) 0).passBegin i
      if s.passOver i then s.passEnd i else s
    else s.passEnd i
  else s

/-- A Tx pass starts with the replica (R224). -/
def State.passStart (s : State) (i : Nat) : State :=
  if s.txActive i && !s.calSuspended && !s.bistHolds i && !(s.txe i).fg && (s.txe i).pass.isNone then
    (s.passBegin i).passSettle i
  else s

/-- A Tx pass that a request asks for starts; one in progress completes first (R231). -/
def State.passAsked (s : State) (i : Nat) : State :=
  if s.txActive i then
    (if (s.txe i).pass.isSome then s.updTx i (fun t => { t with asked := true }) else s.passStart i)
  else s

/-- A Tx pass starts at once with a sweep; one in progress completes first (R227). -/
def State.sweepTxStart (s : State) (i : Nat) : State :=
  if s.txActive i then
    let s := s.put (CAL.sweepTx i) 1
    if (s.txe i).pass.isSome then s.updTx i (fun t => { t with again := true }) else s.passStart i
  else s

/-- Bytes 8 to 10 of a unit log record: a trim, and an error in 0.01 % (R233). -/
def txBytes (trim err100 : Int) : Nat := ofSigned 8 trim + 2 ^ 8 * ofSigned 16 err100

/-- A reject of a Tx element (R219, R220): its count, LTX_REJECT_CNT, the log and the guard. `n` is the
cell, or 271 for the replica. -/
def State.txReject (s : State) (i n : Nat) (trim err100 : Int) : State :=
  let f := if n = 271 then CAL.repRej i else CAL.cellRej i n
  let rej := satSucc 3 (s.get f)
  let s := (((s.put f rej).count (LTX.rejectCnt i)).calLog (if n = 271 then 12 else 10) (logLane i)
    (if n = 271 then 0xFFFF else n) (txBytes trim err100 + 2 ^ 24 * rej) (sensorOf i)).updTx i
      (fun t => { t with lastMeas := Sparse.set 0 t.lastMeas n (txBytes trim err100) }) |>.noteReject (68 + i)
  if s.get f = 3 then s.updTx i (fun t => { t with verdicts := t.verdicts ++ [n] }) else s

/-- A replica result (R219, R224, R234): accepted, it sets the amplitude bias trim, which comes into effect at the next
marker boundary, at once in IDLE, and the amplitude error. -/
def State.replicaResult (s : State) (i : Nat) (trim err100 : Int) : State :=
  if s.replicaPlausible i trim then
    ((((s.putInt (CAL.repBias i) trim).put (CAL.repRej i) 0).putInt (CAL.ampErr i) (err100 / 10)).updTx i
      (fun t => { t with measured := Sparse.set 0 t.measured 271 (1 + s.get (CAL.temp (sensorOf i))) })).when
        (decide (s.txState i = 1)) (fun t => t.txBoundary i)
  else s.txReject i 271 trim err100

/-- A cell's result: its trim is accepted, or it is a reject (R219, R224). -/
def State.cellResult (s : State) (i n : Nat) (trim err100 : Int) : State :=
  if s.cellPlausible i n trim then
    ((s.putInt (CAL.cellTrim i n) trim).put (CAL.cellRej i n) 0).updTx i (fun t => { t with
      measured := Sparse.set 0 t.measured n (1 + s.get (CAL.temp (sensorOf i))),
      passCell := n + 1 })
  else
    let t := s.txReject i n trim err100
    if n ∈ (t.txe i).verdicts then t.updTx i (fun x => { x with passCell := n + 1 }) else t

/-- A measurement of the pass ends that needs no lending (R224): the replica, a REDUNDANT cell, or a
cell measured in IDLE. A rejected element is measured again until its verdict falls due. A LOOPBACK slice holds the pass
(R379). -/
def State.txMeasured (s : State) (i : Nat) (el : TxElem) (trim err100 : Int) : State :=
  if s.calSuspended || s.bistHolds i then s
  else match el, (s.txe i).pass with
    | .replica, some .replica =>
      if s.replicaSkipped i then s.passSettle i
      else
        let t := s.replicaResult i trim err100
        if s.replicaPlausible i trim || decide (271 ∈ (t.txe i).verdicts) then
          (t.updTx i (fun x => { x with pass := some .redundant, passCell := 0 })).passSettle i
        else t
    | .cell n, some .redundant =>
      if s.passTarget i = some n then (s.cellResult i n trim err100).passSettle i else s
    | .cell n, some .serving =>
      if s.passTarget i = some n ∧ s.txState i = 1 then (s.cellResult i n trim err100).passSettle i else s
    | _, _ => s

/-- Step 3 of a pass is held in TRAIN, in COMET, and in T mode without marker lock on the lane that
feeds the transmitter (R224). -/
def State.lendHeld (s : State) (i : Nat) : Bool :=
  decide (s.txState i = 3 ∨ s.txState i = 2)
    || (match s.carried (i / 34) (i % 34) with
      | some (g, n) => decide (s.pers g = 0) && (match s.rxPos g (1 - i / 34) n with
        | some p => !s.on (LRX.markerLock (34 * (1 - i / 34) + p))
        | none => true)
      | none => false)

/-- The lowest REDUNDANT cell stands in, and the next SERVING cell is lent to the replica load (R224). Where the pool
has just been emptied no cell is lent and step 3 stops (R232). -/
def State.cellLend (s : State) (i : Nat) : State :=
  if s.calSuspended || s.bistHolds i || s.lendHeld i || decide ((s.txe i).pass ≠ some .serving)
      || (s.txe i).lent.isSome then s
  else match s.passTarget i, (s.cellPool i).head? with
    | some n, some r => s.updTx i (fun t => { t with lent := some (n, r) })
    | _, _ => s.passSettle i

/-- The lent cell returns at the next boundary, with its result unless calibration has been suspended or the replica has
been found suspect (R220, R224, R229), or a LOOPBACK slice holds the pass (R379). -/
def State.cellReturn (s : State) (i : Nat) (trim err100 : Int) : State :=
  match (s.txe i).lent with
  | some (n, _) =>
    let s := s.updTx i (fun t => { t with lent := none })
    if s.calSuspended || s.bistHolds i then s
    else (if (s.txe i).repDone || decide (n ∈ (s.txe i).verdicts) then s else s.cellResult i n trim err100).passSettle i
  | none => s

/-- A verdict on a cell takes effect (R220, R224): a cell that is out is replaced by the cell that stands in for it, any
other waits for the next marker boundary (R68). -/
def State.cellFalls (s : State) (i n : Nat) : State :=
  let s := (s.updTx i (fun t => { t with verdicts := t.verdicts.filter (· ≠ n) })).calLog 11 (logLane i)
    n (Sparse.get 0 (s.txe i).lastMeas n + 2 ^ 24 * 3) (sensorOf i)
  let wait (t : State) : State := t.updTx i (fun t => { t with cellPend := t.cellPend ++ [n] })
  let s := match (s.txe i).lent with
    | some (c, r) =>
      if c = n then
        (((((s.updTx i (fun t => { t with lent := none })).put (LTX.cell i r) 0).put
          (LTX.cell i n) 2).count (LTX.cellswapCnt i)).noteCells i).passSettle i
      else wait s
    | none => wait s
  s.raise CAL.event 1

/-- A verdict on the replica takes effect (R220): its cells are no longer measured. -/
def State.replicaFalls (s : State) (i : Nat) : State :=
  ((((s.updTx i (fun t => { t with verdicts := t.verdicts.filter (· ≠ 271), repDone := true })).calLog 13
    (logLane i) 0xFFFF (Sparse.get 0 (s.txe i).lastMeas 271 + 2 ^ 24 * 3) (sensorOf i)).leSet (68 + i) 2).raise
      CAL.event 1).when (s.txe i).pass.isSome (fun t => t.passSettle i)

/-- A suspect verdict takes effect (R220): on the slice, cell or replica whose verdict has fallen due,
and for a lane-end that is not ACTIVE only on its return (R232). -/
def State.suspectVerdict (s : State) : CalElem → State
  | .slice sd p =>
    let i := laneIdx sd p
    match (s.rxe i).verdict with
    | some n => if s.rxActive i then s.sliceFalls i n else s.updRx i (fun r => { r with due := true })
    | none => s
  | .cell sd p n =>
    let i := laneIdx sd p
    if n ∉ (s.txe i).verdicts ∨ n = 271 then s
    else if !s.txActive i then s.updTx i (fun t => { t with dues := n :: t.dues.filter (· ≠ n) })
    else s.cellFalls i n
  | .replica sd p =>
    let i := laneIdx sd p
    if 271 ∉ (s.txe i).verdicts then s
    else if !s.txActive i then s.updTx i (fun t => { t with dues := 271 :: t.dues.filter (· ≠ 271) })
    else s.replicaFalls i

/-- The target slot of a pending swap as a record names it: 0xFF for none. -/
def State.swapSlot (s : State) (i : Nat) : Nat :=
  match (s.rxe i).swap with
  | some w => w.slot
  | none => 0xFF

/-- The held time of a pending swap reaches CAL_HOLD.LIMIT (R223): once per episode it is reported, and every request
that names the lane-end times out (R231). -/
def State.holdSwap (s : State) (i : Nat) : State :=
  let r := s.rxe i
  let n := (s.crescent i).getD 0
  if r.accepted then
    (if r.holdDone then s
    else (((s.updRx i (fun r => { r with holdDone := true })).rxLog i 6 n (s.swapSlot i) 0
      (trimBytes (s.trimsOf i n) (s.get (CAL.rej i n)))).raise CAL.event 2).causeOn 168).calTimedOut false i
  else s

/-- A lane-end has been held for CAL_HOLD.LIMIT (R223, R231): its pending swap, a pass whose cells cannot be lent,
or the wait of a request for the end of a suspension (DEDUCED, log entry 26). -/
def State.holdLimit (s : State) (i : Nat) : State :=
  if s.on CAL.holdLimit then
    let s := s.holdSwap i
    let s := if s.calSuspended then s.calTimedOut false i else s
    if s.calSuspended || ((s.txe i).pass.isSome && s.lendHeld i) then s.calTimedOut true i else s
  else s

/-- A request of R231 that has waited for the suspension to end starts. A lane-end that has been held beyond the limit
already gives it TIMEOUT. -/
def State.calBegin (s : State) (c : CalReq) : State :=
  let t := { s with calReqs := s.calReqs ++ [{ c with begun := true }] }
  let t := t.each c.left (fun i u => if c.tx then u.passAsked i else u.sweepRxStart i)
  let t := t.each c.left (fun i u => u.when (!c.tx && (u.rxe i).holdDone) (fun v => v.calTimedOut false i))
  if c.left.isEmpty then
    ({ t with calReqs := s.calReqs }).opDone c.owner stOk c.skipped
  else t

/-- Suspension ends where it stood before: it is logged, and requests that waited start. -/
def State.suspendEnd (s : State) (was : Bool) : State :=
  if was && !s.calSuspended then
    let waiting := s.calReqs.filter (fun c => !c.begun)
    (({ s with calReqs := s.calReqs.filter (fun c => c.begun) }).calLog 9 0 0xFFFF 0 8).each waiting
      (fun c t => t.calBegin c)
  else s

/-- A request of CAL_REQ SWEEP or TXPASS for the lane-ends of `lanes` (R231): those not ACTIVE are
skipped and reported. -/
def State.calRequest (s : State) (o : Owner) (tx : Bool) (lanes : Nat) : State :=
  let named := setBits 68 lanes
  let act (i : Nat) : Bool := if tx then s.txActive i else s.rxActive i
  let skipped := (named.filter (fun i => !act i)).foldl (fun a i => a + 2 ^ i) 0
  let c : CalReq := { owner := o, tx := tx, left := named.filter act, skipped := skipped, begun := false }
  if s.calSuspended then { s with calReqs := s.calReqs ++ [c] } else s.calBegin c

/-- GUARD clears when GUARD_CLR is written and REFV_BAD is clear (R229). -/
def State.guardClear (s : State) : State :=
  if s.on CAL.guard && !s.on CAL.refvBad then
    let was := s.calSuspended
    ((s.put CAL.guard 0).causeOff 169).suspendEnd was
  else s

/-- REFV outside its window suspends calibration (R215). -/
def State.refvCheck (s : State) (inWindow : Bool) : State :=
  if inWindow || s.on CAL.refvBad then s
  else
    let was := s.calSuspended
    (((s.put CAL.refvBad 1).raise CAL.event 3).causeOn 170).suspendBegin was

/-- REFV back within its window for 10 ms (R215). -/
def State.refvResume (s : State) : State :=
  if s.on CAL.refvBad then
    let was := s.calSuspended
    ((s.put CAL.refvBad 0).causeOff 170).suspendEnd was
  else s

/-- |T − TREF| of a sensor in 0.125 °C. -/
def State.tempDiff (s : State) (n : Nat) : Nat :=
  (s.getInt (CAL.temp n) - s.getInt (CAL.tref n)).natAbs

/-- A sensor reads x or above, in 0.125 °C (R371). -/
def State.anyAt (s : State) (x : Int) : Bool := (List.range 9).any (fun k => decide (x ≤ s.getInt (CAL.temp k)))

/-- A sensor reading (R226): the machine of sensors 0 to 7, and the sources TEMP_HIGH and TEMP_CRIT of
every sensor (R371). -/
def State.tempReading (s : State) (n : Nat) (v : BitVec 16) : State :=
  let s := s.put (CAL.temp n) v.toNat
  let s := if s.anyAt 800 then s.causeOn 175 else s.causeOff 175
  let s := if s.anyAt 920 then s.causeOn 176 else s.causeOff 176
  if n < 8 then
    let th := orOne (s.get CAL.thresh)
    if s.dwell.testBit n then
      if s.tempDiff n < th - min (s.get CAL.hyst) th then
        { s with dwell := s.dwell &&& (2 ^ 8 - 1 - 2 ^ n) }
      else s
    else if th ≤ s.tempDiff n then { s with dwell := s.dwell ||| 2 ^ n }
    else s
  else s

/-- Lane-ends that a sensor serves (R225). -/
def sensorLanes (n : Nat) : List Nat := (List.range 68).filter (fun i => decide (sensorOf i = n))

/-- The dwell timer reaches DWELL (R226, R227). -/
def State.tempTrigger (s : State) (n : Nat) : State :=
  if s.dwell.testBit n then
    let t := ({ s with dwell := s.dwell &&& (2 ^ 8 - 1 - 2 ^ n) }).put (CAL.tref n) (s.get (CAL.temp n))
    ((t.each (sensorLanes n) (fun i u => (u.sweepRxStart i).sweepTxStart i)).calLog 14 0 0xFFFF 0 n).raise
      CAL.event 0
  else s

/-- A foreground calibration counts as the 64 swaps of a sweep (R232). -/
def State.sweepCut (s : State) (i : Nat) : State :=
  if (s.rxe i).sweep = 0 then s
  else ((s.updRx i (fun r => { r with sweep := 0 })).put (CAL.sweepRx i) 0).calFinished false i

/-- One result of a receiver's foreground calibration (R218, R219, R228). A slice that reaches its suspect verdict is
handled under R34 at once, as long as 64 others are left to serve (DEDUCED, log entry 14). -/
def State.fgSlice (s : State) (i n : Nat) (c : CycleMeas) : State :=
  let m := cycleTrims c
  if s.get (LRX.slice i n) = 3 then s
  else if s.sliceFlags i n m = 0 then (s.loadSlice i n m).put (CAL.rej i n) 0
  else
    let s := s.sliceReject i n 2 0xFF (s.sliceFlags i n m) m
    if (s.rxe i).verdict = some n ∧ (s.slicesIn i 3).length < 2 then
      (((s.updRx i (fun r => { r with verdict := none })).put (LRX.slice i n) 3).rxLog i 5 n 0xFF 0
        (trimBytes m 3)).raise CAL.event 1
    else s.updRx i (fun r => { r with verdict := none })

/-- The foreground calibration of a receiver ends (R228): the results have been taken in their order, the good slices
serve the slots in slice order, the next is CRESCENT, and acceptance times run in slice order. -/
def State.fgRxDone (s : State) (i : Nat) (results : List FgResult) : State :=
  let s := s.each results (fun x t => match x with
    | .slice n m => t.fgSlice i n m
    | _ => t)
  let retired := s.slicesIn i 3
  let good := (List.range 66).filter (fun n => !decide (n ∈ retired))
  let s := s.each ((List.range 64).zip good) (fun x t =>
    (t.put (LRX.slotMap i x.1) x.2).put (LRX.slice i x.2) 0)
  let s := match good.drop 64 with
    | c :: rest => (s.put (LRX.slice i c) 1).each rest (fun n t => t.put (LRX.slice i n) 2)
    | [] => s
  let s := s.put (LRX.sliceSpares i) (2 - retired.length)
  let s := if 2 ≤ retired.length then (s.updRx i (fun r => { r with stopped := true })).leSet i 0 else s
  ((s.sweepCut i).updRx i (fun r => { r with
    fg := false, fgDone := true, cycling := false, swap := none, accepted := false, blocked := none,
    passed := [], verdict := none, due := false, order := good.take 65 })).holdEnd i

/-- One result of a transmitter's foreground calibration (R228): a cell or replica that reaches its suspect verdict is
suspect at once. -/
def State.fgCell (s : State) (i : Nat) : FgResult → State
  | .cell n trim err100 =>
    if s.get (LTX.cell i n) = 2 ∨ (s.txe i).repDone then s
    else
      let t := s.cellResult i n trim err100
      if n ∈ (t.txe i).verdicts then (t.cellFalls i n).cellsReplace i else t
  | .replica trim err100 =>
    if (s.txe i).repDone then s
    else
      let t := s.replicaResult i trim err100
      if 271 ∈ (t.txe i).verdicts then t.replicaFalls i else t
  | .slice _ _ => s

/-- The foreground calibration of a transmitter ends: a full Tx pass in IDLE (R228). -/
def State.fgTxDone (s : State) (i : Nat) (results : List FgResult) : State :=
  let s := s.each results (fun x t => t.fgCell i x)
  let s := s.updTx i (fun t => { t with
    fg := false, fgDone := true, pass := none, lent := none, again := false, asked := false })
  ((s.put (CAL.sweepTx i) 0).txBoundary i).calFinished true i

/-- The unit is in a foreground calibration somewhere (R228). -/
def State.fgBusy (s : State) : Bool := s.rx.any (fun x => x.2.fg) || s.tx.any (fun x => x.2.fg)

end Sys2Proof.Machine
end

