-- ==== Sys2Proof/Machine/LanePower.lean ====
section
/-! DEFINITION. The power state of lane-ends (R397, R398, R410), and codeword lock as far as it follows from
the lane-ends' marker locks (R121, R122); a codeword of an Ethernet port as it leaves over its lanes, and fault fill
(R102). `i` is a lane-end index. -/

namespace Sys2Proof.Machine

/-- The unit is in RUN or IDLE. -/
def State.running (s : State) : Bool := decide (s.pwr.phase = .run)

/-- The state that R398 gives a lane-end: 0 DARK, 1 QUIET, 2 ACTIVE. A failed position follows the row of
its kind (DEDUCED, log entry 15). -/
def State.wantPwr (s : State) (i : Nat) : Nat :=
  if s.isIsolated i || s.on (GLB.lerst (i / 34) (i % 34)) then 0
  else if s.bistHeld.testBit i || (s.lt i).isSome then 2
  else match s.groupOf i with
    | some g => if s.get (PWR.lpstat g) = 2 then 1 else 2
    | none =>
      if i % 34 < 32 then
        if s.on (GLB.en (i % 34 / 8)) then (if s.on PWR.standbyDark then 0 else 1) else 0
      else if s.on PWR.spareDark then 0 else 1

/-- Info word fields of a marker (R118). -/
def infoLane (w : BitVec 64) : Nat := bitsOf w.toNat 0 3
def infoPort (w : BitVec 64) : Nat := bitsOf w.toNat 3 2
def infoWidth (w : BitVec 64) : Nat := bitsOf w.toNat 5 2
def infoPeriod (w : BitVec 64) : Nat := bitsOf w.toNat 7 12

/-- Lane-end indices on which the receivers of port g's segment expect its lanes: those of the map that they show,
which a change of the transmitters' map leaves alone (R60, R175). -/
def State.rxEnds (s : State) (g sd : Nat) : List Nat :=
  ((s.rxLanes g sd 0).filterMap (fun n => s.rxPos g sd n)).map (fun p => 34 * sd + p)

/-- Those in LOCK whose symbols the port uses. -/
def State.lockedEnds (s : State) (g sd : Nat) : List Nat :=
  (s.rxEnds g sd).filter (fun i => s.on (LRX.markerLock i) && s.on (LRX.cdrLock i))

/-- PERIOD of the marker period that a locked lane is in: that of its last good marker, and one more for each marker missed
since. -/
def State.periodNow (s : State) (i : Nat) : Nat := (infoPeriod (s.rxe i).info + (s.rxe i).miss) % 4096

/-- Lanes in LOCK agree in PERIOD. Around a marker boundary a lane whose markers arrive no later than another's is one period
ahead of it for a while (R122; DEDUCED, log entry 39). -/
def State.periodsAgree (s : State) (l : List Nat) : Bool :=
  l.all (fun i => l.all (fun j =>
    let d := sub12 (s.periodNow i) (s.periodNow j)
    decide (d = 0 ∨ (d = 1 ∧ (s.rxe i).arriveNs ≤ (s.rxe j).arriveNs)
      ∨ (d = 4095 ∧ (s.rxe j).arriveNs ≤ (s.rxe i).arriveNs))))

/-- DIR_FECSTAT.CW_LOCK of a group of Ethernet ports: all its ports have codeword lock (DESIGN CHOICE, log entry 8). -/
def State.noteEthLock (s : State) (g sd : Nat) : State :=
  s.put (DIR.cwLock (inEngine sd) g) (boolNat ((s.portKeys g).all (fun k => (s.seg g sd k).cw)))

/-- Levels precoded with 1/(1+D) mod 4, from the last precoded one (R42, R91): each is the level less the one precoded before it. -/
def precoded (last : Nat) (levels : List Nat) : List Nat :=
  (levels.foldl (fun (a : List Nat × Nat) v => (((v + 4 - a.2) % 4) :: a.1, (v + 4 - a.2) % 4)) ([], last)).1.reverse

/-- A transmitter lane-end sends levels, precoded where that has been agreed (R91, R116). -/
def State.sendLine (s : State) (i : Nat) (levels : List Nat) : State :=
  if levels.isEmpty then s
  else if (s.txe i).precode = 0 then s.emit (.line i levels)
  else
    let l := precoded (s.txe i).last levels
    (s.updTx i (fun t => { t with last := l.getLastD 0 })).emit (.line i l)

/-- A codeword of an Ethernet port leaves on its lanes: symbol n on the lane n mod w, as R116 distributes those of a CFL port
(PRESUMED, log entry 7), with the precoding of each lane (R91). -/
def State.sendOver (s : State) (g sd k : Nat) (cw : List Nat) : State :=
  let w := s.ethLanes g k
  s.each (List.range w) (fun n t => match t.lanePos g sd (k + n) with
    | some p => t.sendLine (34 * sd + p)
        (((List.range 544).filter (fun m => decide (m % w = n))).flatMap (fun m => pam4 5 (cw.getD m 0)))
    | none => t)

/-- A segment of an Ethernet port sends the fault fill from here on (R102): the engine's encoder forms it in G mode, its fill
generator in T mode. Its first codeword leaves on the port's lanes. -/
def State.startFill (s : State) (g sd k : Nat) : State :=
  if (s.seg g sd k).fill then s
  else
    let cw := rsCodeword (Config.fillMessage (s.get (GLB.rate g)) (s.ethLanes g k) (s.get (GLB.medium g))).toNat
    ((s.updSeg g sd k (fun x => { x with fill := true })).sendOver g sd k cw).emit (.faultFill (outEngine sd) g k cw)

/-- A port of an Ethernet group in G mode loses codeword lock: its outgoing segment sends the fault fill (R123). -/
def State.ethDrop (s : State) (g sd k : Nat) : State :=
  let s := ((s.updSeg g sd k (fun x => { x with cw := false })).noteEthLock g sd).raise (DIR.event (inEngine sd)) 0
  if s.segState g (1 - sd) k = 6 then s.startFill g (1 - sd) k else s

/-- Codeword lock is lost (R122, R123): of a CFL port in G or F mode when none of its lanes is in LOCK, or when two disagree
in PERIOD; of an Ethernet port when one of its lanes is without CDR lock. -/
def State.cwDrop (s : State) (g sd : Nat) : State :=
  let e := inEngine sd
  if s.cfl g then
    (if s.on (DIR.cwLock e g) && ((s.lockedEnds g sd).isEmpty || !s.periodsAgree (s.lockedEnds g sd)) then
      (s.put (DIR.cwLock e g) 0).raise (DIR.event e) 0
    else s)
  else s.each ((s.portKeys g).filter (fun k => (s.seg g sd k).cw
      && (s.positions g sd k).any (fun p => !s.on (LRX.cdrLock (34 * sd + p))))) (fun k t => t.ethDrop g sd k)

/-- Every port's codeword lock is judged again on a side. -/
def State.cwDropAll (s : State) (sd : Nat) : State := s.each [0, 1, 2, 3] (fun g t => t.cwDrop g sd)

/-- The receiver goes to QUIET or DARK (R397): the CDR stops, and a measurement cycle is abandoned
(R217). -/
def State.rxDown (s : State) (i pwr : Nat) : State :=
  if s.get (LRX.pwr i) = 2 then
    (((((s.put (LRX.pwr i) pwr).leDown i).cdrDrop i).updRx i (fun r => { r with
      cycling := false, fg := false, starting := false, starved := 0, clean := 0 })).cwDropAll (i / 34)).calGone false i
  else (s.put (LRX.pwr i) pwr).updRx i (fun r => { r with starting := false })

/-- The transmitter goes to QUIET or DARK: a Tx pass does not go on, and a lent cell returns. -/
def State.txDown (s : State) (i pwr : Nat) : State :=
  (((s.put (LTX.pwr i) pwr).leDown (68 + i)).updTx i (fun t => { t with
    pass := none, lent := none, fg := false, starting := false, comet := false })).calGone true i

/-- A position's lane-ends take QUIET or DARK where R398 gives it; ACTIVE waits for the fixed delays. -/
def State.settleEnd (s : State) (i : Nat) : State :=
  let w := s.wantPwr i
  if w = 2 then s
  else
    let s := if s.get (LRX.pwr i) = w && !(s.rxe i).starting then s else s.rxDown i w
    if s.get (LTX.pwr i) = w && !(s.txe i).starting then s else s.txDown i w

/-- Every position takes the state that R398 gives it, as far as it is QUIET or DARK, while the power controller's
registers answer. -/
def State.settlePower (s : State) : State :=
  if s.aonUp then s.each (List.range 68) (fun i t => t.settleEnd i) else s

/-- The lane-end carries a logical lane of a port in UP and its symbols are invalid (R372, ERASED). -/
def State.erasedNow (s : State) (i : Nat) : Bool :=
  decide (s.posState (i / 34) (i % 34) = 6) && s.invalid i

/-- Lane-end causes end with what they report: ERASED with the lane's erasure, SKEW with the skew that keeps
the lane erased (R372). -/
def State.settleCauses (s : State) : State :=
  s.each (List.range 68) (fun i t =>
    let t := if t.on (FLT.le i 3) && !t.erasedNow i then t.leClear i 3 else t
    if t.on (FLT.le i 4) && !(t.rxe i).sinceBad then t.leClear i 4 else t)

/-- The lane-end is to become ACTIVE and its island has not started. -/
def State.islandWaits (s : State) (fn : LaneFn) (i : Nat) : Bool :=
  decide (s.wantPwr i = 2) && (match fn with
    | .rx => !s.rxActive i && !(s.rxe i).starting
    | .tx => !s.txActive i && !(s.txe i).starting)

/-- The group of R410 that an island starts in: receivers of a segment on which a wake was detected, transmitters that face
the other segment, other receivers, other transmitters. -/
def State.startGroup (s : State) (fn : LaneFn) (i : Nat) : Nat :=
  let wake := match s.groupOf i with
    | some g => if s.get (PWR.lpstat g) = 3 then (s.port g).wake else 0
    | none => 0
  match fn with
  | .rx => if wake.testBit (i / 34) then 0 else 2
  | .tx => if wake.testBit (1 - i / 34) then 1 else 3

/-- No island that waits comes before this one in the order of R410: group by group, each in position order. -/
def State.startsNext (s : State) (fn : LaneFn) (i : Nat) : Bool :=
  let rank (f : LaneFn) (j : Nat) : Nat := 34 * s.startGroup f j + j % 34
  [LaneFn.rx, LaneFn.tx].all (fun f => (List.range 68).all (fun j =>
    !s.islandWaits f j || decide (rank fn i ≤ rank f j)))

/-- An island starts on its fixed-delay sequence, in its turn (R410). -/
def State.activate (s : State) (fn : LaneFn) (i : Nat) : State :=
  if s.running && decide (s.wantPwr i = 2) && s.startsNext fn i then
    match fn with
    | .rx => if s.rxActive i then s else s.updRx i (fun r => { r with starting := true })
    | .tx => if s.txActive i then s else s.updTx i (fun t => { t with starting := true })
  else s

/-- On the return to ACTIVE a sweep starts at once where the temperature has moved by THRESH (R230). -/
def State.sweepDue (s : State) (i : Nat) : Bool :=
  decide (orOne (s.get CAL.thresh) ≤ s.tempDiff (sensorOf i))

/-- The receiver is ACTIVE: the CDR starts from its retained frequency; the first time since cold reset its
foreground calibration runs (R228); a verdict that fell due takes effect (R232). -/
def State.rxUp (s : State) (i : Nat) : State :=
  let s := ((s.put (LRX.pwr i) 2).leBack i).updRx i (fun r => { r with
    starting := false, windowBad := true, fg := !r.fgDone })
  let s := if (s.rxe i).fgDone && s.sweepDue i then s.sweepRxStart i else s
  if (s.rxe i).due then s.suspectVerdict (.slice (if i < 34 then .A else .B) ⟨i % 34, Nat.mod_lt i (by decide)⟩)
  else s

/-- The transmitter is ACTIVE. In WAKING it sends Comet where no wake was detected on its segment, and then
stays IDLE until the far incoming segment has codeword lock (R401). -/
def State.txUp (s : State) (i : Nat) : State :=
  let s := ((s.put (LTX.pwr i) 2).leBack (68 + i)).updTx i (fun t => { t with starting := false, fg := !t.fgDone })
  let s := match s.groupOf i with
    | some g =>
      if s.get (PWR.lpstat g) = 3 then
        s.updTx i (fun t => { t with
          comet := !(s.port g).wake.testBit (i / 34), idleHold := !s.on (DIR.cwLock (inEngine (1 - i / 34)) g) })
      else s
    | none => s
  let s := if (s.txe i).fgDone && s.sweepDue i then s.sweepTxStart i else s
  let dues := (s.txe i).dues
  let sd : Side := if i < 34 then .A else .B
  let p : Pos := ⟨i % 34, Nat.mod_lt i (by decide)⟩
  (s.updTx i (fun t => { t with dues := [] })).each dues (fun n t =>
    t.suspectVerdict (if n = 271 then .replica sd p else .cell sd p n))

/-- The fixed delays of an island end (R410). -/
def State.activated (s : State) (fn : LaneFn) (i : Nat) : State :=
  if decide (s.wantPwr i = 2) then
    match fn with
    | .rx => if (s.rxe i).starting then s.rxUp i else s
    | .tx => if (s.txe i).starting then s.txUp i else s
  else s

/-- LANE_END_ACTIVATE (R398, R410). -/
def execLaneEndActivate (fn : LaneFn) (sd : Side) (p : Pos) (s : State) :
    Host.Outcome State Fault Refusal :=
  .next (s.activate fn (laneIdx sd p))

/-- COMET_END (R401): the 4 µs of Comet end. -/
def execCometEnd (sd : Side) (p : Pos) (s : State) : Host.Outcome State Fault Refusal :=
  .next (s.updTx (laneIdx sd p) (fun t => { t with comet := false }))

end Sys2Proof.Machine
end

