-- ==== Sys2Proof/Machine/RetryCore.lean ====
section
/-! DEFINITION. The sequence state of segment retry (06_segment_retry.md): releases, ends, drains and abandons
of a port. `e` is 0 for engine AB, 1 for BA; `g` is the port. -/

namespace Sys2Proof.Machine

/-- A marker boundary of the outgoing segment: a marker period begins (R118). -/
def newPeriod (x : EngPort) : EngPort :=
  { x with txIndex := 0, txPeriod := if x.txIndex = 0 then x.txPeriod else (x.txPeriod + 1) % 4096 }

/-- The port runs in F mode (R16). -/
def State.fMode (s : State) (g : Nat) : Bool := s.cfl g && decide (s.pers g = 2)

/-- Both segments of a CFL port are in UP. -/
def State.bothUp (s : State) (g : Nat) : Bool :=
  decide (s.segState g 0 0 = 6) && decide (s.segState g 1 0 = 6)

/-- IN_STATE codes of R167. -/
def inFlow : Nat := 0
def inWait : Nat := 1
def inAbandoned : Nat := 2
def inNone : Nat := 3

/-- The registers that show the retry buffers follow them: BACKLOG, RPLQ and REPLAYING (R167). -/
def State.noteRetry (s : State) (e g : Nat) : State :=
  ((s.put (DIR.backlog e g) (s.eng e g).defer.length).put (DIR.rplq e g) (s.eng e g).queue.length).put
    (DIR.replaying e g) (boolNat !(s.eng e g).replay.isEmpty)

/-- Capacity of a port's replay buffer, in flits (R154). -/
def State.replayCap (s : State) (e g : Nat) : Nat := 192 * s.get (DIR.banks e g)

/-- Capacity of a port's deferral buffer, in flits (R161). -/
def State.deferCap (s : State) (e g : Nat) : Nat := 64 * s.get (DIR.defq e g)

/-- A slot that a SACK has not covered. -/
def Slot.held? (x : Slot) : Bool := x.valid && !x.released

/-- The port is drained: no slot before its mark is held, and the flits deferred at the mark have left
(R206). -/
def State.isDrained (s : State) (e g : Nat) : Bool :=
  !((s.eng e g).slots.any (fun x => x.held? && seqAfter (s.get (DIR.drainMark e g)) x.seq))
    && decide (s.get (DIR.deferLeft e g) = 0)

/-- Every port of both engines is drained. -/
def State.allDrained (s : State) : Bool :=
  (List.range 8).all (fun n => s.on (DIR.drained (n / 4) (n % 4)))

/-- DRAINED_GEN takes the latest generation once every port is drained for it (R207). -/
def State.drainGen (s : State) : State :=
  if s.allDrained && decide (s.get PRT.drainedGen ≠ s.get PRT.qgen) then
    (s.put PRT.drainedGen (s.get PRT.qgen)).raise PRT.event 2
  else s

/-- A port that was not drained becomes drained (R206, R213). -/
def State.drainCheck (s : State) (e g : Nat) : State :=
  if !s.on (DIR.drained e g) && s.isDrained e g then
    ((s.put (DIR.drained e g) 1).raise (DIR.event e) 11).drainGen
  else s

/-- An engine's state of a port without its retry state: the framing of the streams that it receives and sends stays. -/
def EngPort.unretried (x : EngPort) : EngPort :=
  { EngPort.empty with
    tagMode := x.tagMode, cwEver := x.cwEver, cwIndex := x.cwIndex, evenOk := x.evenOk, flitOk := x.flitOk,
    pack := x.pack, txPeriod := x.txPeriod, txIndex := x.txIndex }

/-- Segment retry of a port ends in one engine: its buffers are invalidated and discarded (R164). -/
def State.endEngine (s : State) (e g : Nat) : State :=
  ((((((s.updEng e g EngPort.unretried).noteRetry e g).put
    (DIR.cSnak e g) 0).put (DIR.inState e g) inNone).put (DIR.deferLeft e g) 0)).drainCheck e g

/-- RX_NEXT and TX_NEXT are undefined after the loss of a segment (R164): free values. -/
def State.freeNext (s : State) (e g : Nat) : State :=
  ((s.put (DIR.rxNext e g) s.free.toNat).useFree.put (DIR.txNext e g) s.useFree.free.toNat).useFree

/-- A segment of the port is lost: segment retry ends in both engines (R164). The port's codeword lock ends with it, and no
CW_LOCK_LOST is raised, though lanes may still be in LOCK (R122; DESIGN CHOICE, log entry 38). -/
def State.endRetry (s : State) (g : Nat) : State :=
  s.each [0, 1] (fun e t =>
    let t := (t.endEngine e g).put (DIR.cwLock e g) 0
    if t.fMode g then t.freeNext e g else t)

/-- The key of slot `slot` of the port on a side (R135). -/
def keyIdx (sd slot g : Nat) : Nat := (2 * sd + slot) * 4 + g

def State.key (s : State) (n : Nat) : Key := Sparse.get ⟨0, 0, false⟩ s.keys n

/-- DIR_KEYSTAT and the key check values of a slot, in both engines' blocks (R144). That of an invalid slot reads 0 (DESIGN
CHOICE, log entry 38). -/
def State.noteKey (s : State) (sd slot g : Nat) : State :=
  let k := s.key (keyIdx sd slot g)
  let kcv := if k.valid then keyCheck k.key else 0
  s.each [0, 1] (fun e t =>
    let out := if outEngine sd = e then 1 else 0
    (t.put (DIR.keyValid e g out slot) (boolNat k.valid)).put (DIR.kcv e g out slot) kcv)

def State.setKey (s : State) (sd slot g : Nat) (k : Key) : State :=
  ({ s with keys := Sparse.set ⟨0, 0, false⟩ s.keys (keyIdx sd slot g) k }).noteKey sd slot g

/-- At a release the epoch of every valid slot of the port increments; a slot whose epoch would wrap becomes
invalid (R135). -/
def State.bumpEpochs (s : State) (g : Nat) : State :=
  s.each [(0, 0), (0, 1), (1, 0), (1, 1)] (fun x t =>
    let k := t.key (keyIdx x.1 x.2 g)
    if !k.valid then t
    else if k.epoch < 0xFFFF then t.setKey x.1 x.2 g { k with epoch := k.epoch + 1 }
    else t.setKey x.1 x.2 g ⟨0, 0, false⟩)

/-- One engine's part of a release (R107, R133, R152, R155, R156). -/
def State.releaseEngine (s : State) (e g : Nat) : State :=
  (((((((s.updEng e g (fun _ => { EngPort.empty with tagMode := s.get (DIR.tagMode e g) })).put
    (DIR.rxNext e g) 0).put (DIR.txNext e g) 0).put (DIR.inState e g) inFlow).put (DIR.cSnak e g) 0).put
    (DIR.sackIn e g) 0xFFF).put (DIR.cwLock e g) 0).noteRetry e g

/-- An engine's replay and deferral buffers, replay queues and sequence state are zero-initialised (R383, R384,
R424). -/
def State.zeroEngine (s : State) (e : Nat) : State :=
  s.each [0, 1, 2, 3] (fun g t =>
    ((((t.endEngine e g).put (DIR.rxNext e g) 0).put (DIR.txNext e g) 0).put (DIR.sackIn e g) 0).put (DIR.cwLock e g) 0)

/-- The sequence state of both engines at a release of the port. -/
def State.releaseRetry (s : State) (g : Nat) : State :=
  ((s.releaseEngine 0 g).releaseEngine 1 g).bumpEpochs g

/-- Deferred flits that stay when sequenced flits at or after F are discarded (R162). -/
def keepBefore (f : Nat) (h : Held) : Bool := !(sequenced h.flit && seqFrom (flitSeq h.flit) f)

/-- A queued range cut to end before F; none when it starts at or after F. -/
def cutRange (f : Nat) (r : Nat × Nat) : Option (Nat × Nat) :=
  if seqFrom r.1 f then none else some (r.1, min r.2 (sub12 f r.1))

/-- The buffers of an abandon at F (R162, steps 1 to 4). The open transaction stays that of the last flit parsed, also where
RX_NEXT goes back to F (R138; DESIGN CHOICE, log entry 38). -/
def abandonPort (f reason : Nat) (incoming : Bool) (x : EngPort) : EngPort :=
  { x with
    slots := x.slots.map (fun y => if seqFrom y.seq f then { y with valid := false } else y),
    defer := x.defer.filter (keepBefore f),
    fresh := x.fresh.filter (keepBefore f),
    queue := x.queue.filterMap (cutRange f),
    replay := x.replay.filter (fun q => !seqFrom q f),
    ins := x.ins ++ [.abandon f reason (boolNat incoming)],
    timer := false,
    outAbandon := if incoming then none else some f }

/-- Laps of a pointer that is set back to F from `next`. -/
def lapsBack (laps next f : Nat) : Nat := if next < f then laps - 1 else laps

/-- The abandon of R162 at SEQ F. -/
def State.abandonAt (s : State) (e g f reason : Nat) : State :=
  let incoming := decide (reason = 6)
  let left := (((s.eng e g).defer.take (s.get (DIR.deferLeft e g))).filter (keepBefore f)).length
  let rx := s.get (DIR.rxNext e g)
  let tx := s.get (DIR.txNext e g)
  let s := s.updEng e g (fun x => { abandonPort f reason incoming x with
    rxLaps := lapsBack x.rxLaps rx f,
    txLaps := if seqAfter tx f then lapsBack x.txLaps tx f else x.txLaps })
  let s := if s.get (DIR.deferLeft e g) = left then s else s.put (DIR.deferLeft e g) left
  let s := if seqAfter tx f then s.put (DIR.txNext e g) f else s
  let s := (((s.put (DIR.rxNext e g) f).put (DIR.inState e g) inAbandoned).noteRetry e g).count
    (DIR.abandon e g)
  let s := ((s.put (DIR.abnFirst e g) f).put (DIR.abnReason e g) reason).put (DIR.abnOrigin e g)
    (boolNat incoming)
  (s.raise (DIR.event e) 6).drainCheck e g

/-- The segment acknowledgement that engine e's stream carries to its outgoing partner: the peer engine's
(R132, R152). -/
def State.segAck (s : State) (e g : Nat) : Option Nat :=
  if (s.eng (1 - e) g).accepted then some (s.eng (1 - e) g).sackOut else none

/-- A flit of the Thepin's own with the acknowledgement and a CRC. -/
def State.ownFlit (s : State) (e g ty word : Nat) : Flit :=
  withCrc (withSack (plainFlit ty word) (s.segAck e g))

/-- Engine names for outputs. -/
def engOf (e : Nat) : Eng := if e = 0 then .AB else .BA

/-- Port names for outputs. -/
def portOf (g : Nat) : Port := ⟨g % 4, Nat.mod_lt g (by decide)⟩

/-- The oldest SEQ not yet released, or TX_NEXT if none is held (R164). -/
def State.oldestHeld (s : State) (e g : Nat) : Nat :=
  match ((s.eng e g).slots.filter Slot.held?).head? with
  | some x => x.seq
  | none => s.get (DIR.txNext e g)

end Sys2Proof.Machine
end

