-- ==== Sys2Proof/Machine/Partition.lean ====
section
/-! DEFINITION. The partition table, range registers and quench state (08_partitions_and_quench.md). -/

namespace Sys2Proof.Machine

/-- The valid entry that names a PID (R191). -/
def State.entryOf (s : State) (pid : Nat) : Option Nat :=
  (s.regs.find? (fun x => decide (0xA0000 ≤ x.1 ∧ x.1 < 0xA8000 ∧ x.1 % 8 = 0)
      && bitOf x.2.toNat 22 && decide (bitsOf x.2.toNat 0 16 = pid))).map (fun x => (x.1 - 0xA0000) / 8)

/-- An enabled range-quench register covers a PID (R194). -/
def State.rangeCovers (s : State) (pid : Nat) : Bool :=
  (List.range 16).any (fun n => s.on (PRT.rEn n) && decide (s.get (PRT.rLo n) ≤ pid ∧ pid ≤ s.get (PRT.rHi n)))

/-- The accounting group of a PID (R191). -/
def State.pidGroup (s : State) (pid : Nat) : Nat :=
  match s.entryOf pid with
  | some i => s.get (PRT.agroup i)
  | none => s.get PRT.defaultAg

/-- The PID is quenched (R191). -/
def State.pidQuenched (s : State) (pid : Nat) : Bool :=
  (match s.entryOf pid with
    | some i => s.on (PRT.quenched i)
    | none => false) || s.rangeCovers pid

/-- Some entry or range quenches a PID. -/
def State.anyQuench (s : State) : Bool :=
  s.regs.any (fun x => decide (0xA0000 ≤ x.1 ∧ x.1 < 0xA8000 ∧ x.1 % 8 = 4) && bitOf x.2.toNat 0)
    || (List.range 16).any (fun n => s.on (PRT.rEn n) && decide (s.get (PRT.rLo n) ≤ s.get (PRT.rHi n)))

/-- PRT_STAT follows the table (R211). -/
def State.notePrt (s : State) : State :=
  (s.put PRT.used (s.regs.filter (fun x => decide (0xA0000 ≤ x.1 ∧ x.1 < 0xA8000 ∧ x.1 % 8 = 0)
      && bitOf x.2.toNat 22)).length).put PRT.qactive (boolNat s.anyQuench)

/-- A write to PRT_ENTRYi_LO (R192). -/
def State.entryWrite (s : State) (i : Nat) (v : Nat) : State :=
  let pid := bitsOf v 0 16
  let valid := bitOf v 22
  let twin := valid && (match s.entryOf pid with
    | some j => decide (j ≠ i)
    | none => false)
  let held := s.on (PRT.quenched i) && (decide (pid ≠ s.get (PRT.pid i)) || !valid)
  if twin || held then s.raise PRT.event 1
  else (s.setReg (PRT.entryLo i) (BitVec.ofNat 32 (bitsOf v 0 23))).notePrt

/-- The drain mark of an F-mode port at the effect instant of a generation (R206); a port whose segments are not in UP, or
that is not in F mode, is drained at once. -/
def State.markDrain (s : State) (e g : Nat) : State :=
  if s.fMode g then
    let t := (s.put (DIR.drainMark e g) (s.get (DIR.txNext e g))).put (DIR.deferLeft e g) (s.eng e g).defer.length
    t.put (DIR.drained e g) (boolNat (!s.bothUp g || t.isDrained e g))
  else s.put (DIR.drained e g) 1

/-- A generation takes effect in both engines (R193, R199, R200, R206, R213). -/
def State.quenchEffect (s : State) : State :=
  let s := s.put PRT.qgen (s.get PRT.qgen + 1)
  let s := s.each (List.range 8) (fun n t => t.markDrain (n / 4) (n % 4))
  let s := (s.raise (DIR.event 0) 10).raise (DIR.event 1) 10
  let s := if (List.range 4).any (fun g => s.on (FLT.fallback g) && s.on (GLB.en g)) then
    (s.raise (DIR.event 0) 12).raise (DIR.event 1) 12 else s
  s.drainGen

/-- The lowest-numbered invalid entry. -/
def State.freeEntry (s : State) : Option Nat := (List.range 4096).find? (fun i => !s.on (PRT.valid i))

/-- QUENCH in this unit (R200): refused with TABLE_FULL where no entry can take the PID (R201). -/
def State.quench (s : State) (pid : Nat) : State × Bool :=
  match s.entryOf pid with
  | some i => (((s.put (PRT.quenched i) 1).notePrt).quenchEffect, true)
  | none =>
    match s.freeEntry with
    | some i =>
      (((((s.setReg (PRT.entryLo i)
        (BitVec.ofNat 32 (pid % 2 ^ 16 + 2 ^ 16 * s.get PRT.defaultAg + 2 ^ 22))).put (PRT.quenched i) 1).put
          (PRT.auto i) 1).notePrt).quenchEffect, true)
    | none => (((s.raise PRT.event 0).put PRT.failPid pid).put PRT.failValid 1, false)

/-- UNQUENCH in this unit (R200). -/
def State.unquench (s : State) (pid : Nat) : State :=
  match s.entryOf pid with
  | some i =>
    (if s.on (PRT.auto i) then
      ((s.put (PRT.valid i) 0).put (PRT.quenched i) 0).put (PRT.auto i) 0
    else s.put (PRT.quenched i) 0).notePrt
  | none => s

/-- RQUENCH in this unit (R200). -/
def State.rquench (s : State) (n lo hi : Nat) : State :=
  ((((s.put (PRT.rLo n) lo).put (PRT.rHi n) hi).put (PRT.rEn n) 1).notePrt).quenchEffect

/-- RUNQUENCH in this unit (R200). -/
def State.runquench (s : State) (n : Nat) : State := (s.put (PRT.rEn n) 0).notePrt

/-- A quench command applied in this unit, by its operation code (R200); false when it is refused. -/
def State.applyQuench (s : State) (op pid n lo hi : Nat) : State × Bool :=
  if op = 0 then s.quench pid
  else if op = 1 then (s.unquench pid, true)
  else if op = 2 then (s.rquench n lo hi, true)
  else (s.runquench n, true)

/-- DRAIN_FORCE runs out (R208): the slots still held before the mark are invalidated. -/
def State.drainForce (s : State) (e g : Nat) : State :=
  if !s.on (DIR.drained e g) && s.on PRT.drainForce then
    let m := s.get (DIR.drainMark e g)
    let s := s.updEng e g (fun x => { x with
      slots := x.slots.map (fun y => if y.held? && seqAfter m y.seq then { y with valid := false } else y) })
    (s.raise (DIR.event e) 13).drainCheck e g
  else s

/-- PARTITION_ENTRY_WRITE (R192). -/
def execPartitionEntryWrite (i : Fin 4096) (v : Word) (s : State) : Host.Outcome State Fault Refusal :=
  .next (s.soft (PRT.entryLo i) (fun t => t.entryWrite i v.toNat))

/-- DRAIN_FORCE_EXPIRY (R208). -/
def execDrainForceExpiry (e : Eng) (g : Port) (s : State) : Host.Outcome State Fault Refusal :=
  .next (s.drainForce e.idx g)

end Sys2Proof.Machine
end

