-- ==== Sys2Proof/Machine/Training.lean ====
section
/-! DEFINITION. What a lane-end sends in a training (R92 to R99, R103, R112): link words, training frames and the start of the
requester procedure, as far as its lane-ends take part (R228, R380). `i` is a lane-end index. -/

namespace Sys2Proof.Machine

/-- State codes of GLB_TRN_STAT. -/
def stOff : Nat := 0
def stAn : Nat := 1
def stWait : Nat := 2
def stEq : Nat := 3
def stAlign : Nat := 4
def stHold : Nat := 5
def stUp : Nat := 6
def stBackoff : Nat := 7
def stStopped : Nat := 8

/-- Precoding that this unit requests of its partner on a lane (R99). -/
def State.wantPrecode (s : State) (i : Nat) (cfg : Word) : Bool :=
  match bitsOf cfg.toNat 4 2 with
  | 0 => false
  | 2 => true
  | _ => decide (detOf (s.get (LRX.detMode i)) ≠ 0)

/-- The requester procedure of R99 starts with the initial condition and the precoding request. Training is taken to agree
on precoding with this request, so PRECODE reads it from here on: R42 names no instant (DESIGN CHOICE, log entry 38). -/
def State.startRequester (s : State) (i : Nat) (cfg : Word) : State :=
  let pc := s.wantPrecode i cfg
  ((s.put (LRX.precode i) (boolNat pc)).updRx i (fun r => { r with
    req := some { step := 0, inc := true, rev := false, best := 0 } })).emit
      (.initRequest i (bitsOf cfg.toNat 6 3) pc)

/-- The maximum port-to-port latency of a personality at a rate, in ns (R17, R142). -/
def latencyNs (rate pers : Nat) : Nat :=
  match rate, pers with
  | 0, 0 => 34
  | 0, 1 => 88
  | 0, _ => 96
  | 1, 0 => 26
  | 1, 1 => 74
  | 1, _ => 82
  | _, 0 => 21
  | _, 1 => 58
  | _, _ => 64

/-- The link word that the Thepin sends on a position (R103): as a retimer, which leaves SLACK zero. -/
def State.ownLink (s : State) (g sd lane : Nat) (lt hold release ready : Bool) : BitVec 64 :=
  BitVec.ofNat 64 (1 + 2 ^ 2 * s.pers g + 2 ^ 4 * sd + 2 ^ 5 * g + 2 ^ 8 * lane + 2 ^ 14 * s.get (GLB.rate g)
    + 2 ^ 16 * boolNat lt + 2 ^ 17 * boolNat hold + 2 ^ 18 * boolNat release + 2 ^ 19 * boolNat ready
    + 2 ^ 20 * latencyNs (s.get (GLB.rate g)) (s.pers g) + 2 ^ 32 * (Config.echoToken s.clock).toNat)

/-- Training frames start on a lane-end once it is ACTIVE and its foreground calibration is complete (R228), and while no self-test
holds it (R380). -/
def State.framesGo (s : State) (i : Nat) : Bool := s.txActive i && !(s.txe i).fg && !s.bistHeld.testBit i

/-- Both lane-ends of a position take part in training: ACTIVE, calibrated and under no test (R228, R380). -/
def State.calibrated (s : State) (i : Nat) : Bool := s.framesGo i && s.rxActive i && !(s.rxe i).fg

/-- The PAM4 training pattern of a lane's training (R97): that of the port's PMD. -/
def State.pattern (s : State) (g lane : Nat) : BitVec 32 :=
  Config.trainPattern (s.get (GLB.rate g)) (s.get (GLB.medium g)) (s.cfl g) lane

/-- The training frames of a lane training as they are from here on (R112, R228). -/
def State.sendLt (s : State) (i : Nat) : State :=
  match s.lt i with
  | some t => s.when (s.framesGo i) (fun u => u.emit (.training i t.ready
      (u.ownLink t.g (i / 34) t.lane true false false t.ready) (u.pattern t.g t.lane)))
  | none => s

/-- The requester procedure of a lane training starts once its lane-ends take part, under the settings that the segment's attempt
took (R99, R112, R115, R228). -/
def State.ltRequester (s : State) (i : Nat) : State :=
  match s.lt i with
  | some t => s.when (s.calibrated i && !t.ready && (s.rxe i).req.isNone)
      (fun u => u.startRequester i (u.seg t.g (i / 34) 0).cfg)
  | none => s

/-- The frames of a lane training start, with its requester procedure, once the lane-end can send them (R112, R228). -/
def State.ltFrames (s : State) (i : Nat) : State := s.when (s.framesGo i) (fun u => (u.ltRequester i).sendLt i)

/-- The training frames of a position that carries logical lane n, as they are from here on (R94, R103, R228). The
frame with RELEASE = 1 keeps HOLD = 1 (R107; DESIGN CHOICE, log entry 38). -/
def State.trainFrame (s : State) (g sd k n p : Nat) (release : Bool) : State :=
  let ready := (s.seg g sd k).ready.testBit p
  s.when (s.framesGo (34 * sd + p)) (fun t => t.emit (.training (34 * sd + p) ready
    (if t.cfl g then t.ownLink g sd n false (decide (t.segState g sd k = stHold) || release) release ready else 0)
    (t.pattern g n)))

/-- The requester procedure that a lane could not start before: of its lane training, or in EQ (R99, R228). -/
def State.requesterGo (s : State) (i : Nat) : State :=
  if s.ltRunning i then s.ltRequester i
  else match s.carried (i / 34) (i % 34) with
    | some (g, n) =>
      let x := s.seg g (i / 34) (s.portOfLane g n)
      s.when (decide (s.segState g (i / 34) (s.portOfLane g n) = stEq) && s.calibrated i && !x.ready.testBit (i % 34)
        && (s.rxe i).req.isNone) (fun t => t.startRequester i x.cfg)
    | none => s

/-- The frames that a lane-end could not send before: those of its lane training, or of the training of its segment (R228). -/
def State.framesStart (s : State) (i : Nat) : State :=
  if s.ltRunning i then s.ltFrames i
  else match s.carried (i / 34) (i % 34) with
    | some (g, n) =>
      let k := s.portOfLane g n
      s.when (s.trains g (i / 34) k && decide (s.segState g (i / 34) k ≠ stAn))
        (fun t => t.trainFrame g (i / 34) k n (i % 34) false)
    | none => s

end Sys2Proof.Machine
end

