-- ==== Sys2Proof/Machine/BistCore.lean ====
section
/-! DEFINITION. The list of a BIST_RUN and its result records (R375 to R378, R385 to R388). The slices' own
actions are in Bist.lean. -/

namespace Sys2Proof.Machine

/-- Verdict codes of R385. -/
def vPass : Nat := 0
def vFail : Nat := 1
def vTimeout : Nat := 2
def vPreempted : Nat := 3
def vPrecondition : Nat := 4
def vNotRun : Nat := 5
def vTrainFailed : Nat := 6

/-- Budget applied to a slice, in ms (R375, R377). -/
def bistBudget (x : BistSlice) : Nat :=
  if x.budget ≠ 0 then x.budget
  else match x.kind with
    | 1 => 100
    | 2 => 1
    | 3 => 200
    | _ => 250

/-- Stated coverage of a kind in 0.01 % (R377): the stuck-at figure for the scan kinds. -/
def bistCoverage (kind : Nat) : Nat :=
  match kind with
  | 1 => 9100
  | 2 => 10000
  | 3 => 9650
  | _ => 9580

/-- DETAIL of a slice whose test did not start (R386): of LOOPBACK, no slice and no cell is named. -/
def noDetail (kind : Nat) : Nat := if kind = 1 then 2 ^ 40 * 0xFF + 2 ^ 64 * 0xFFFF else 0

/-- Bytes 0 to 23 of a result record (R385, R386). -/
def recordBytes (x : BistSlice) (k verdict us detail : Nat) (ran : Bool) : List Byte :=
  bytesOf 4 (x.kind + 2 ^ 8 * x.sel + 2 ^ 16 * verdict + 2 ^ 24 * k)
    ++ bytesOf 4 (if ran then us else 0)
    ++ bytesOf 4 ((if ran then bistCoverage x.kind else 0) + 2 ^ 16 * bistBudget x)
    ++ bytesOf 12 (if ran then detail else noDetail x.kind)

/-- TAG of a record (R387). -/
def recordTag (sqIdx sq k : Nat) : Nat := sqIdx % 2 ^ 16 + 2 ^ 16 * (sq % 64) + 2 ^ 24 * (k % 8) + 2 ^ 63

/-- RESULT of the completion (R388). -/
def bistResult (r : BistRun) : Nat := r.pass + 2 ^ 8 * r.fail + 2 ^ 16 * r.timeout

/-- Writes record k of a list: to host memory, or as an OP_DONE frame with the list's status so far (R387). -/
def State.bistRecord (s : State) (r : BistRun) (k status verdict us detail : Nat) (ran : Bool) : State :=
  match r.slices[k]? with
  | some x =>
    match r.owner with
    | .ring _ _ =>
      s.recordWrite (r.addr + 32 * k) (ofBytes (recordBytes x k verdict us detail ran)) (recordTag r.sqIdx r.sq k)
    | o => s.opDoneWith o status (bistResult r) (recordBytes x k verdict us detail ran)
  | none => s

/-- Side, position and lane-end index of a LOOPBACK slice (R375). -/
def sliceSide (x : BistSlice) : Nat := x.sel / 128
def slicePos (x : BistSlice) : Nat := x.sel % 64
def sliceIdx (x : BistSlice) : Nat := 34 * sliceSide x + slicePos x

/-- The lane-end index of a LOOPBACK slice's position, as one bit; 0 for another kind. -/
def bistBit (x : BistSlice) : Nat := if x.kind = 1 then 2 ^ (34 * (x.sel / 128) + x.sel % 64) else 0

/-- The running list's slice no longer holds its position, which sends the training frames that a training of its segment asks for
(R380). -/
def State.bistFree (s : State) (r : BistRun) : State :=
  match r.slices[r.k]? with
  | some x =>
    let i := sliceIdx x
    let t := { s with bistHeld := s.bistHeld &&& (2 ^ 68 - 1 - bistBit x) }
    t.when (s.bistHeld ≠ t.bistHeld) (fun u => (u.framesStart i).requesterGo i)
  | none => s

/-- The running list. -/
def State.bistHead (s : State) : Option BistRun := s.bist.head?

/-- Changes the running list. -/
def State.updBist (s : State) (f : BistRun → BistRun) : State :=
  match s.bist with
  | r :: rest => { s with bist := f r :: rest }
  | [] => s

/-- BST_STAT follows the running list (R390). -/
def State.noteBist (s : State) : State :=
  match s.bistHead.filter (fun r => r.accepted) with
  | some r =>
    ((s.put BST.busy 1).put BST.kind ((r.slices[r.k]?.map (fun x => x.kind)).getD 0)).put BST.index r.k
  | none => ((s.put BST.busy 0).put BST.kind 0).put BST.index 0

/-- The running list ends; a waiting one may be accepted after it (R376). On a worker the last record's frame
has carried the status, where a record was sent. -/
def State.bistEnd (s : State) (status : Nat) (recorded : Bool) : State :=
  match s.bist with
  | r :: rest =>
    let s := (({ s.bistFree r with bist := rest }).raise BST.event 3).noteBist
    match r.owner with
    | .orbit _ => if recorded then s else s.opDone r.owner status (bistResult r)
    | o => s.opDone o status (bistResult r)
  | [] => s

/-- Counts a verdict in the list, the counters and the events (R388, R390, R391). BST_RUNS counts a slice whose test has
started. -/
def State.bistCount (s : State) (verdict : Nat) (ran : Bool) : State :=
  let bad := decide (verdict = vFail ∨ verdict = vTrainFailed)
  let s := s.updBist (fun r => { r with
    pass := r.pass + boolNat (decide (verdict = vPass)),
    fail := r.fail + boolNat bad,
    timeout := r.timeout + boolNat (decide (verdict = vTimeout)) })
  let s := if ran then s.count BST.runs else s
  let s := if bad || decide (verdict = vTimeout) then s.count BST.fails else s
  let s := if bad then s.raise BST.event 0 else s
  if verdict = vTimeout then s.raise BST.event 1 else s

/-- The slice in progress ends with a verdict; the list goes on, or completes OK after its last slice. -/
def State.bistVerdict (s : State) (verdict us detail : Nat) (ran : Bool) : State :=
  let s := s.bistCount verdict ran
  match s.bistHead with
  | some r =>
    let s := ((s.bistFree r).bistRecord r r.k stOk verdict us detail ran).updBist (fun x => { x with
      k := x.k + 1, stage := .waiting, verdict := 0, detail := 0, us := 0 })
    if r.slices.length ≤ r.k + 1 then s.bistEnd stOk true else s.noteBist
  | none => s

/-- Bits that DETAIL of a kind lists (R386). -/
def detailBits (kind : Nat) : Nat :=
  match kind with
  | 1 => 81
  | 2 => 48
  | _ => 64

/-- The patterns that a scan applies (R383). -/
def scanPatterns : Nat := 32768

/-- DETAIL of a test that ended without a verdict of its own: how far it had come is not stated, a free value
(DESIGN CHOICE, log entry 6). A scan has applied no more than its patterns. -/
def State.freeDetail (s : State) (kind : Nat) : State × Nat :=
  let t := s.useFree
  let v := (s.free.toNat + 2 ^ 32 * t.free.toNat + 2 ^ 64 * t.useFree.free.toNat) % 2 ^ detailBits kind
  (t.useFree.useFree, if kind < 3 then v else v % 2 ^ 32 + 2 ^ 32 * (v / 2 ^ 32 % (scanPatterns + 1)))

/-- The test of a LOOPBACK slice runs: its lane-ends are ACTIVE and calibrated (R377, R380), or an escalation has isolated them
meanwhile (R389). -/
def State.loopReady (s : State) (i : Nat) : Bool :=
  s.isIsolated i || (s.rxActive i && s.txActive i && !(s.rxe i).fg && !(s.txe i).fg)

/-- The test of the slice in progress has started: a LOOPBACK on lane-ends that are DARK waits for them (R379, R385). -/
def State.testStarted (s : State) (r : BistRun) : Bool :=
  match r.slices[r.k]? with
  | some x => decide (x.kind ≠ 1) || s.loopReady (sliceIdx x)
  | none => false

/-- Duration and DETAIL of the slice in progress, and whether its test has started (R385): those of a test that has
ended, free values of one that is cut short, and zero before its start. -/
def State.partialTest (s : State) (r : BistRun) : State × Nat × Nat × Bool :=
  match r.stage with
  | .testing =>
    if s.testStarted r then
      let d := s.freeDetail ((r.slices[r.k]?.map (fun x => x.kind)).getD 0)
      (d.1.useFree, d.1.free.toNat, d.2, true)
    else (s, 0, 0, false)
  | .returning => (s, r.us, r.detail, true)
  | _ => (s, 0, 0, false)

/-- The slice in progress ends with a verdict that cuts it short, with what its test had come to (R385). -/
def State.bistCut (s : State) (verdict : Nat) : State :=
  match s.bistHead with
  | some r =>
    let p := s.partialTest r
    p.1.bistVerdict verdict p.2.1 p.2.2.1 p.2.2.2
  | none => s

/-- The slice in progress yields; later slices are not run (R388). A list that has not been accepted ends without a
record. -/
def State.bistAbort (s : State) (status : Nat) : State :=
  match s.bistHead with
  | some r =>
    if r.accepted = false then s.bistEnd status false
    else
    let p := s.partialTest r
    let s := (p.1.when p.2.2.2 (fun t => t.count BST.runs)).bistRecord r r.k status vPreempted p.2.1 p.2.2.1 p.2.2.2
    let s := s.each ((List.range r.slices.length).filter (fun k => decide (r.k < k)))
      (fun k t => t.bistRecord r k status vNotRun 0 0 false)
    s.bistEnd status true
  | none => s

/-- A bank copy meets a direction-engine reset or the disable of a port group (R389): the banks keep their
roles. -/
def State.copyBreaks (s : State) : State :=
  match s.bistHead with
  | some r => if r.stage = .copying then s.bistAbort stPreempted else s
  | none => s

end Sys2Proof.Machine
end

