-- ==== Sys2Proof/Machine/Jobs.lean ====
section
/-! DEFINITION. Positions, spares and failed marks (R171 to R173), lane trainings as they start and end
(R112), and the end of a port's sparing tasks. `sd` is 0 for side A. -/

namespace Sys2Proof.Machine

/-- The map of a segment, in the codes of GLB_LMAP. -/
def State.mapOf (s : State) (g sd : Nat) : List Nat := (List.range 8).map (fun n => s.laneCode g sd n)

/-- The map that the receivers on a segment show. -/
def State.rxMapOf (s : State) (g sd : Nat) : List Nat := (List.range 8).map (fun n => s.rxCode g sd n)

/-- The map in GLB_LMAP. -/
def State.regMapOf (s : State) (g sd : Nat) : List Nat := (List.range 8).map (fun n => s.regCode g sd n)

/-- Hardware updates GLB_LMAP (R188). -/
def State.setMap (s : State) (g sd : Nat) (m : List Nat) : State :=
  s.setReg (GLB.lmap g sd) (BitVec.ofNat 32 ((List.range 8).foldl (fun a n => a + 16 ^ n * (m.getD n 15 % 16)) 0))

/-- The position is marked failed for the group (R171, R173). -/
def State.posFailed (s : State) (g sd p : Nat) : Bool :=
  if p < 32 then s.on (GLB.failed g sd (p % 8)) else decide (s.get (GLB.spareStat sd (p - 32)) = 6)

/-- Bit of a position in `PortRec.channel`. -/
def chanBit (sd p : Nat) : Nat := if p < 32 then 8 * sd + p % 8 else 16 + 2 * sd + (p - 32)

/-- Marks a position failed; `channel` tells a channel fault, which RESTORE clears (R183, R187). The mark of a lane-end failure takes
the place of that of a channel fault, whichever group set it on a spare: it stays until cold reset (R186). -/
def State.markFailed (s : State) (g sd p : Nat) (channel : Bool) : State :=
  let s := if p < 32 then s.put (GLB.failed g sd (p % 8)) 1 else s.put (GLB.spareStat sd (p - 32)) 6
  if channel then s.updPort g (fun r => { r with channel := r.channel ||| 2 ^ chanBit sd p })
  else s.each (if p < 32 then [g] else [0, 1, 2, 3]) (fun h t => t.updPort h (fun r => { r with
    channel := r.channel &&& (2 ^ 20 - 1 - 2 ^ chanBit sd p) }))

/-- Clears the failed marks that channel faults set, on the sides of `sides` (R186, R187). -/
def State.clearChannel (s : State) (g : Nat) (sides : List Nat) : State :=
  s.each sides (fun sd t =>
    let c := (t.port g).channel
    let t := t.each (List.range 8) (fun b u => if c.testBit (8 * sd + b) then u.put (GLB.failed g sd b) 0 else u)
    let t := t.each [0, 1] (fun sp u =>
      if c.testBit (16 + 2 * sd + sp) then u.put (GLB.spareStat sd sp) 4 else u)
    t.updPort g (fun r => { r with
      channel := r.channel &&& (2 ^ 20 - 1 - 255 * 2 ^ (8 * sd) - 3 * 2 ^ (16 + 2 * sd)) }))

/-- A position that nothing uses and nothing keeps out of use. -/
def State.idlePos (s : State) (g sd p : Nat) : Bool :=
  let i := 34 * sd + p
  !s.mapped g sd p && !s.posFailed g sd p && !(s.lt i).isSome && !s.isIsolated i && !s.bistHeld.testBit i
    && !s.on (GLB.lerst sd p)

/-- Standby positions of the group, rising (R171). -/
def State.standby (s : State) (g sd : Nat) : List Nat :=
  ((List.range 8).map (fun b => 8 * g + b)).filter (fun p => s.idlePos g sd p)

/-- Spares that are free and reach the group, rising (R173). -/
def State.freeSpares (s : State) (g sd : Nat) : List Nat :=
  ([0, 1].filter (fun sp => decide (s.get (GLB.spareStat sd sp) = 4) && s.on (GLB.reach sd sp g)
    && !s.isIsolated (34 * sd + 32 + sp) && !s.bistHeld.testBit (34 * sd + 32 + sp)
    && !s.on (GLB.lerst sd (32 + sp)))).map (fun sp => 32 + sp)

/-- Positions available to a lane, in the order of R173. -/
def State.available (s : State) (g sd : Nat) : List Nat := s.standby g sd ++ s.freeSpares g sd

/-- The usable count of a segment (R172). -/
def State.usable (s : State) (g sd : Nat) : Nat := (s.positions g sd 0).length + (s.available g sd).length

/-- The largest width of R172 that n lanes allow; 0 below 2. -/
def widthFor (n : Nat) : Nat := if 8 ≤ n then 8 else if 6 ≤ n then 6 else if 4 ≤ n then 4 else if 2 ≤ n then 2 else 0

/-- The port's width in lanes. -/
def State.widthOf (s : State) (g : Nat) : Nat := widthLanes (s.get (GLB.width g))

/-- Width code of a width (R118). -/
def widthCode (w : Nat) : Nat := (8 - w) / 2

/-- The target width of the port (R172). -/
def State.targetWidth (s : State) (g : Nat) : Nat := widthFor (min (s.usable g 0) (s.usable g 1))

/-- The group whose map names a spare: an enabled one, or one that the spare reaches (R13, R173; log entry 40). -/
def State.spareOwner (s : State) (sd sp : Nat) : Option Nat :=
  [0, 1, 2, 3].find? (fun g => (s.on (GLB.en g) || s.on (GLB.reach sd sp g)) && s.mapped g sd (32 + sp))

/-- A maintenance activity's task (R27, R173). -/
def maintenance (j : Job) : Bool := decide (j.task = .retrain ∨ j.task = .full ∨ j.task = .loopback)

/-- A maintenance activity that has begun. -/
def busyMaint (j : Job) : Bool := maintenance j && decide (0 < j.step)

/-- The group whose maintenance activity holds a spare. -/
def State.spareHolder (s : State) (sd sp : Nat) : Option Nat :=
  [0, 1, 2, 3].find? (fun g => (s.port g).jobs.any (fun j =>
    busyMaint j && decide (j.side = sd ∧ j.spare = 32 + sp)))

/-- A spare carries, or trains for, the lane of an ended maintenance activity on its way back (R184). -/
def State.spareComing (s : State) (sd sp : Nat) : Bool :=
  [0, 1, 2, 3].any (fun g => (s.port g).jobs.any (fun j =>
    decide (j.task = .giveBack ∧ j.side = sd ∧ j.spare = 32 + sp)))

/-- The bit of the position that a LOOPBACK slice in its test holds where it is tested directly, carrying no lane (R379). -/
def State.directTest (s : State) : Nat :=
  match s.bistHead with
  | some r =>
    if r.stage = .testing ∧ [0, 1, 2, 3].all (fun g => (s.port g).jobs.all (fun j => decide (j.task ≠ .loopback))) = true then
      ((r.slices[r.k]?).map bistBit).getD 0
    else 0
  | none => 0

/-- Such a slice runs on a spare: it holds the spare (R173). -/
def State.spareTested (s : State) (sd sp : Nat) : Bool := s.directTest.testBit (34 * sd + 32 + sp)

/-- GLB_SPARE_STAT follows who carries, trains or holds each spare; a failed one stays so (R173). -/
def State.settleSpares (s : State) : State :=
  s.each [(0, 0), (0, 1), (1, 0), (1, 1)] (fun x t =>
    let f := GLB.spareStat x.1 x.2
    if t.get f = 6 then t
    else if t.spareComing x.1 x.2 || t.spareTested x.1 x.2 then t.put f 5
    else match t.spareHolder x.1 x.2, t.spareOwner x.1 x.2, t.lt (34 * x.1 + 32 + x.2) with
      | some _, _, _ => t.put f 5
      | none, some g, _ => t.put f g
      | none, none, some l => t.put f l.g
      | none, none, none => t.put f 4)

/-- Default starvation windows of a rate (R50). -/
def starveWindows (rate : Nat) : Nat := if rate = 0 then 127 else if rate = 1 then 254 else 334

/-- Training starts on a position (R31, R40, R50, R72, R73, R90). `c2` tells whether the training addresses
c(+2): CFL does; the Ethernet PMDs do not (PRESUMED, log entry 7). -/
def State.trainLane (s : State) (i rate : Nat) (c2 : Bool) : State :=
  let s := (s.put (LRX.windows i) (starveWindows rate)).commitDiscard i
  let s := s.updRx i (fun r => { r with
    mainCur := s.get (LRX.mainPos i), pol := s.get (LRX.polInv i), acquire := true, req := none, sinceBad := false,
    misnamed := false })
  s.updTx i (fun t => { t with
    pol := s.get (LTX.polInv i), precode := 0, last := 0, fifo := 128,
    taps := (List.range 5).map (fun k => if k = 4 ∧ c2 = false then 0 else s.getInt (LTX.liveTap i k)) })

/-- Training completes on a position: the trained taps become live, the elastic FIFO is filled and the
receiver tracks (R45, R55, R90). -/
def State.trainedLane (s : State) (i : Nat) : State :=
  ((s.applyTaps i (s.txe i).taps).updRx i (fun r => { r with acquire := false, fifo := 128, req := none })).updTx
    i (fun t => { t with fifo := 128 })

/-- Changes the lane training of a position. -/
def State.updLt (s : State) (i : Nat) (f : LaneTrain → LaneTrain) : State := s.setLt i ((s.lt i).map f)

/-- A lane training of a position starts for a logical lane (R112). -/
def State.startLt (s : State) (i g lane : Nat) : State :=
  let l : LaneTrain :=
    { g := g, lane := lane, stage := .training, ready := false, far := false, link := none, kept := false, idle := false }
  ((s.setLt i (some l)).trainLane i (s.get (GLB.rate g)) true).ltFrames i

/-- A lane training, or the shadow copy after it, ends. -/
def State.endLt (s : State) (i : Nat) : State :=
  (s.setLt i none).updRx i (fun r => { r with req := none, acquire := false })

/-- Lane-ends in lane training or shadow copy for a group, on a side. -/
def State.ltEnds (s : State) (g sd : Nat) : List Nat :=
  (List.range 34).map (fun p => 34 * sd + p) |>.filter (fun i => match s.lt i with
    | some t => decide (t.g = g)
    | none => false)

/-- Every lane training and shadow copy of a group ends. -/
def State.endLts (s : State) (g : Nat) : State :=
  s.each (s.ltEnds g 0 ++ s.ltEnds g 1) (fun i t => t.endLt i)

/-- A task ends with a status; a LOOPBACK slice takes its list with it (R388). -/
def State.endJob (s : State) (j : Job) (status : Nat) : State :=
  if j.task = .loopback then s.bistAbort status else s.opDone j.owner status 0

/-- Every task of a port ends, as when a segment is lost or the group is disabled (R114, R186). -/
def State.endJobs (s : State) (g status : Nat) : State :=
  let jobs := (s.port g).jobs
  let s := (s.endLts g).updPort g (fun r => { r with jobs := [], change := none, retry := [], owed := none })
  (s.each jobs (fun j t => t.endJob j status)).settleSpares

/-- A narrow to width w that excludes the lanes of E (R182). -/
def narrowMap (m : List Nat) (w : Nat) (ex : List Nat) : List Nat :=
  let donors := (((List.range 8).filter (fun n => decide (w ≤ n ∧ m.getD n 15 ≠ 15 ∧ n ∉ ex))).reverse).map
    (fun n => m.getD n 15)
  let step (acc : List Nat × List Nat) (n : Nat) : List Nat × List Nat :=
    if w ≤ n then (acc.1 ++ [15], acc.2)
    else if n ∈ ex then (acc.1 ++ [acc.2.headD 15], acc.2.drop 1)
    else (acc.1 ++ [m.getD n 15], acc.2)
  ((List.range 8).foldl step ([], donors)).1

/-- Lanes that a map carries. -/
def mapLanes (m : List Nat) : List Nat := (List.range 8).filter (fun n => decide (m.getD n 15 ≠ 15))

/-- WIDTH as both maps of GLB_LMAP carry it: the largest width whose lanes both carry. -/
def State.noteWidth (s : State) (g : Nat) : State :=
  let ok (w : Nat) : Bool := (List.range w).all (fun n => decide (s.regCode g 0 n ≠ 15 ∧ s.regCode g 1 n ≠ 15))
  s.put (GLB.width g) (widthCode (if ok 8 then 8 else if ok 6 then 6 else if ok 4 then 4 else 2))

end Sys2Proof.Machine
end

