-- ==== Sys2Proof/Machine/Segment.lean ====
section
/-! DEFINITION. The training state machine of a segment (R94 to R111): its states, their rows, releases and
losses. A segment is named by its port group g, side sd and port key k (the port's first logical lane). -/

namespace Sys2Proof.Machine

/-- Cause codes of R95. -/
def caEqTimeout : Nat := 1
def caAlignTimeout : Nat := 2
def caLaneOrder : Nat := 3
def caPolarity : Nat := 4
def caCapMismatch : Nat := 5
def caRetimerPeer : Nat := 6
def caRttRange : Nat := 7
def caFecLock : Nat := 8
def caPartnerRestart : Nat := 9
def caLost : Nat := 10

def State.setSeg (s : State) (g sd k st : Nat) : State := s.put (GLB.tsState g sd k) st

/-- The next attempt of the port relays Clause 73 negotiation (R101, R115). -/
def State.relayMode (s : State) (g : Nat) : Bool := !s.cfl g && decide (s.get (GLB.anMode g) = 1)

/-- The segment's attempt relays Clause 73 negotiation: AN_MODE as the attempt took it (R115). -/
def State.relaying (s : State) (g sd k : Nat) : Bool := !s.cfl g && decide (s.cfgOf g sd k 0 2 = 1)

/-- Fields of a link word (R103). -/
def linkRole (w : BitVec 64) : Nat := bitsOf w.toNat 0 2
def linkLane (w : BitVec 64) : Nat := bitsOf w.toNat 8 3
def linkSlack (w : BitVec 64) : Nat := bitsOf w.toNat 11 3
def linkRate (w : BitVec 64) : Nat := bitsOf w.toNat 14 2
def linkLaneTrain (w : BitVec 64) : Bool := bitOf w.toNat 16
def linkRxReady (w : BitVec 64) : Bool := bitOf w.toNat 19

/-- The partner reports its receiver ready on a lane: by the link word on CFL, by the frame's own signalling on Ethernet
(R97, R103). -/
def State.farReadyOf (s : State) (g : Nat) (o : TrainObs) : Bool := if s.cfl g then linkRxReady o.link else o.farReady

/-- The training frames of every lane of a segment. -/
def State.trainFrames (s : State) (g sd k : Nat) (release : Bool) : State :=
  s.each ((s.lanes g sd k).filterMap (fun n => (s.lanePos g sd n).map (fun p => (n, p))))
    (fun x t => t.trainFrame g sd k x.1 x.2 release)

/-- A segment begins an attempt's AN or WAIT with nothing seen of its partner; the codeword lock of an Ethernet port ends (R123,
R144), and no CW_LOCK_LOST is raised (R145; DESIGN CHOICE, log entry 38). -/
def State.clearSeg (s : State) (g sd k : Nat) (cfg : Word) : State :=
  (s.updSeg g sd k (fun _ => { Seg.off with cfg := cfg })).when (!s.cfl g) (fun t => t.noteEthLock g sd)

/-- A lane-end that carries a lane of a segment with no training: nothing of an earlier training is left to complete (R100). The
precoding that one agreed stays in force (R91; DESIGN CHOICE, log entry 38). -/
def State.untrained (s : State) (i : Nat) : State := s.updRx i (fun r => { r with acquire := false, req := none })

/-- Entry to WAIT: training frames are sent on the port's lanes, with the settings `cfg` of the attempt. The
segment's receivers start from the lane map as it stands (R186). -/
def State.enterWait (s : State) (g sd k : Nat) (cfg : Word) : State :=
  let s := s.clearSeg g sd k cfg
  let s := s.each ((s.positions g sd k).map (fun p => 34 * sd + p))
    (fun i t => if t.noTrain g sd k then t.untrained i else t.trainLane i (t.get (GLB.rate g)) (t.cfl g))
  let s := s.setSeg g sd k stWait
  if s.noTrain g sd k then s else s.trainFrames g sd k false

/-- An attempt begins at WAIT, with the settings of GLB_TRN_CFG as they are now (R115). -/
def State.startWait (s : State) (g sd k : Nat) : State := s.enterWait g sd k (s.reg (GLB.trnCfg g))

/-- Entry to AN: the relay starts on the segment (R101), and a COMMIT that waits is discarded (R72); `brk` tells that it first keeps silent for the
break-link time (R110). -/
def State.startAn (s : State) (g sd k : Nat) (brk : Bool) : State :=
  let s := s.each ((s.positions g sd k).map (fun p => 34 * sd + p)) (fun i t => t.commitDiscard i)
  ((s.clearSeg g sd k (s.reg (GLB.trnCfg g))).updSeg g sd k (fun x => { x with anBreak := brk })).setSeg g sd k stAn

/-- The start of an attempt from OFF or BACKOFF: AN in relay mode, otherwise WAIT. -/
def State.startAttempt (s : State) (g sd k : Nat) : State :=
  if s.relayMode g then s.startAn g sd k false else s.startWait g sd k

/-- Entry to EQ: the EQ timer starts, and so does the requester procedure on every lane whose lane-ends take part (R99, R228). -/
def State.enterEq (s : State) (g sd k : Nat) : State :=
  let s := s.setSeg g sd k stEq
  s.each ((s.positions g sd k).map (fun p => 34 * sd + p))
    (fun i t => t.when (t.calibrated i) (fun u => u.startRequester i (u.seg g sd k).cfg))

/-- Every entry to BACKOFF is a failed attempt (R94). -/
def State.enterBackoff (s : State) (g sd k cause : Nat) : State :=
  (((s.setSeg g sd k stBackoff).put (GLB.tsCause g sd k) cause).put (GLB.tsAttempts g sd k)
    (satSucc 15 (s.get (GLB.tsAttempts g sd k)))).raise GLB.event 5

/-- Entry to STOPPED. -/
def State.enterStopped (s : State) (g sd k : Nat) : State := (s.setSeg g sd k stStopped).raise GLB.event 6

/-- Entry to STOPPED from ALIGN, with its cause. -/
def State.refusePeer (s : State) (g sd k cause : Nat) : State :=
  (s.put (GLB.tsCause g sd k) cause).enterStopped g sd k

/-- Training completes on every lane of the segment. -/
def State.completeLanes (s : State) (g sd k : Nat) : State :=
  s.each ((s.positions g sd k).map (fun p => 34 * sd + p))
    (fun i t => if (t.rxe i).acquire then t.trainedLane i else t.updRx i (fun r => { r with fifo := 128 }))

/-- The moves that the retrain of a segment carries out are complete: LANE_MOVE, and their identifier in CHG_ID (R179, R180,
R189). -/
def State.movesDone (s : State) (g sd k : Nat) : State :=
  let mine (x : Nat × Nat) : Bool := decide (x.1 = 8 * sd + k)
  ((s.updPort g (fun r => { r with moves := r.moves.filter (fun x => !mine x) })).each ((s.port g).moves.filter mine))
    (fun x t => (t.put (GLB.chgId g) x.2).raise GLB.event 9)

/-- Every entry to UP raises SEG_UP and sets ATTEMPTS to 0. -/
def State.enterUp (s : State) (g sd k : Nat) : State :=
  (((s.setSeg g sd k stUp).put (GLB.tsAttempts g sd k) 0).raise GLB.event 7).movesDone g sd k

/-- The port's stream that arrives on segment `sd` can be sent on: the segment is in UP and, in G mode, has codeword lock
(R102, R123). -/
def State.ethStream (s : State) (g sd k : Nat) : Bool :=
  decide (s.segState g sd k = stUp) && (decide (s.pers g = 0) || (s.seg g sd k).cw)

/-- An Ethernet segment enters UP; it sends the fault fill while the opposite one has no stream to send on (R102, R123). -/
def State.ethernetUp (s : State) (g sd k : Nat) : State :=
  ((s.completeLanes g sd k).enterUp g sd k).when (!s.ethStream g (1 - sd) k) (fun t => t.startFill g sd k)

/-- The release of a CFL port whose segments are both in HOLD (R107): RELEASE = 1 is sent on both. Training completes on each segment on
its first release after training. -/
def State.release (s : State) (g : Nat) : State :=
  let s := ((s.completeLanes g 0 0).completeLanes g 1 0).trainFrames g 0 0 true |>.trainFrames g 1 0 true
  ((s.enterUp g 0 0).enterUp g 1 0).releaseRetry g

/-- Lanes that are ready at both ends. -/
def State.readyLanes (s : State) (g sd k : Nat) : List Nat :=
  (s.lanes g sd k).filter (fun n => match s.lanePos g sd n with
    | some p => (s.seg g sd k).ready.testBit p && (s.seg g sd k).farReady.testBit p
    | none => false)

/-- Entry to ALIGN of a CFL segment (R104): the link words that count are those that arrive from now on, and those that are sent
name the lanes of the map as it now is (R103). -/
def State.enterAlign (s : State) (g sd : Nat) : State :=
  ((s.updSeg g sd 0 (fun x => { x with links := [] })).setSeg g sd 0 stAlign).trainFrames g sd 0 false

/-- The port's width is set at once from the lanes that remain (R105): the largest width they allow, placed
as a narrow would place them, with E empty on the other segment. -/
def State.setWidth (s : State) (g sd : Nat) (lanes : List Nat) : State :=
  let w := widthFor (min lanes.length (s.widthOf g))
  let out := (s.lanes g sd 0).filter (fun n => decide (n ∉ lanes))
  if out = [] ∧ w = s.widthOf g then s
  else (((s.setMap g sd (narrowMap (s.mapOf g sd) w out)).setMap g (1 - sd)
    (narrowMap (s.mapOf g (1 - sd)) w [])).put (GLB.width g) (widthCode w)).settleSpares

/-- The lanes that remain are aligned (R105); fewer than width 2 needs fail the attempt. -/
def State.settleWidth (s : State) (g sd : Nat) (lanes : List Nat) : State :=
  if widthFor (min lanes.length (s.widthOf g)) = 0 then s.enterBackoff g sd 0 caEqTimeout
  else (s.setWidth g sd lanes).enterAlign g sd

/-- Entry to HOLD: training frames carry HOLD = 1 (R106), and a COMMIT that waits is discarded (R72). -/
def State.enterHold (s : State) (g sd : Nat) : State :=
  (((s.each ((s.positions g sd 0).map (fun p => 34 * sd + p)) (fun i t => t.commitDiscard i)).setSeg g sd 0 stHold)).trainFrames g
    sd 0 false

/-- The link words received in ALIGN, with the lanes they arrived on. -/
def State.linkWords (s : State) (g sd : Nat) : List (Nat × BitVec 64) :=
  (s.lanes g sd 0).filterMap (fun n => match s.lanePos g sd n with
    | some p => ((s.seg g sd 0).links.find? (fun x => decide (x.1 = p))).map (fun x => (n, x.2))
    | none => none)

/-- Partner RATE or SLACK does not match, or is invalid (R104). -/
def State.capMismatch (s : State) (g : Nat) (l : List (Nat × BitVec 64)) : Bool :=
  l.any (fun x => decide (linkRate x.2 ≠ s.get (GLB.rate g) ∨ 4 < linkSlack x.2)
    || l.any (fun y => decide (linkSlack x.2 ≠ linkSlack y.2)))

/-- The rows of ALIGN, in their order (R94, R104). -/
def State.alignNext (s : State) (g sd : Nat) : Option State :=
  let l := s.linkWords g sd
  if l.any (fun x => decide (linkRole x.2 = 1)) then some (s.refusePeer g sd 0 caRetimerPeer)
  else if !l.isEmpty && decide (s.pers g = 2) && decide (300 < s.get (GLB.tsRtt g sd 0)) then
    some (s.refusePeer g sd 0 caRttRange)
  else if s.capMismatch g l then some (s.enterBackoff g sd 0 caCapMismatch)
  else if l.any (fun x => decide (linkLane x.2 ≠ x.1)) then some (s.enterBackoff g sd 0 caLaneOrder)
  else if decide (l.length = (s.lanes g sd 0).length) && !l.isEmpty then some (s.enterHold g sd)
  else none

/-- The rows of EQ that do not wait for its timer. -/
def State.eqNext (s : State) (g sd k : Nat) : Option State :=
  let ps := s.positions g sd k
  if ps.any (fun p => (s.seg g sd k).inverted.testBit p) then some (s.enterBackoff g sd k caPolarity)
  else if decide ((s.readyLanes g sd k).length = ps.length) && !ps.isEmpty then
    some (if s.cfl g then s.settleWidth g sd (s.readyLanes g sd k) else s.ethernetUp g sd k)
  else none

/-- Some direction engine is held (R384, R424). -/
def State.engineHeld (s : State) : Bool :=
  (List.range 2).any (fun e => s.on (GLB.engBusy e) || s.on (BST.held e))

/-- The rows of WAIT that do not wait for a timer. Retraining begins once no engine is held (R424). -/
def State.waitNext (s : State) (g sd k : Nat) : Option State :=
  let ps := s.positions g sd k
  if s.engineHeld then none
  else if s.noTrain g sd k then
    if !ps.isEmpty && ps.all (fun p => s.on (LRX.cdrLock (34 * sd + p)) && s.on (LRX.markerLock (34 * sd + p))) then
      some (s.ethernetUp g sd k)
    else none
  else if !ps.isEmpty && ps.all (fun p => (s.seg g sd k).locked.testBit p) then some (s.enterEq g sd k)
  else none

/-- Negotiation is complete on both segments: both leave AN together (R101), in the attempt that they are in (R115). -/
def State.anNext (s : State) (g k : Nat) : Option State :=
  if (s.seg g 0 k).anDone && (s.seg g 1 k).anDone && decide (s.segState g 0 k = stAn ∧ s.segState g 1 k = stAn) then
    some ((s.enterWait g 0 k (s.seg g 0 k).cfg).enterWait g 1 k (s.seg g 1 k).cfg)
  else none

/-- The first row of R94 that holds for a segment and waits for no timer. -/
def State.segNext (s : State) (g sd k : Nat) : Option State :=
  match s.segState g sd k with
  | 0 => if s.on (GLB.en g) then some (s.startAttempt g sd k) else none
  | 1 => s.anNext g k
  | 2 => s.waitNext g sd k
  | 3 => s.eqNext g sd k
  | 4 => s.alignNext g sd
  | 5 => if s.segState g (1 - sd) k = stHold then some (s.release g) else none
  | 7 =>
    if s.cfgOf g sd k 9 4 ≠ 0 ∧ s.cfgOf g sd k 9 4 ≤ s.get (GLB.tsAttempts g sd k) then
      some (s.enterStopped g sd k) else none
  | _ => none

/-- Takes rows until none holds. -/
def State.segRun : Nat → State → Nat → Nat → Nat → State
  | 0, s, _, _, _ => s
  | n + 1, s, g, sd, k =>
    match s.segNext g sd k with
    | some t => State.segRun n t g sd k
    | none => s

/-- Evaluates a segment's rows, with what follows for the lane-ends. -/
def State.segEval (s : State) (g sd k : Nat) : State := ((s.segRun 8 g sd k).settlePower).settleCauses

/-- A low-power agreement of the port ends without waking (R400, R401). -/
def State.lpClear (s : State) (g : Nat) : State :=
  let s := (s.put (PWR.lpstat g) 0).updPort g (fun r => { r with lpReq := 0, wake := 0 })
  s.each ([0, 1].flatMap (fun sd => (s.positions g sd 0).map (fun p => 34 * sd + p)))
    (fun i t => t.updTx i (fun x => { x with comet := false, idleHold := false }))

/-- The other segment of a port whose segment is lost (R110). -/
def State.lossOther (s : State) (g sd k : Nat) : State :=
  let o := 1 - sd
  if s.cfl g then (if s.segState g o k = stUp then s.enterHold g o else s)
  else if s.relayMode g then
    (if isUpOrTraining (s.segState g o k) then s.startAn g o k true else s)
  else if s.segState g o k = stUp then s.startFill g o k
  else s

/-- A change that ends leaves the maps of the last completed one (R186). -/
def State.dropMaps (s : State) (g : Nat) : State :=
  s.each [0, 1] (fun sd t => t.updSeg g sd 0 (fun x => { x with txMap := [], rxMap := [], agreed := [] }))

/-- A LOOPBACK slice in its test runs directly on a position of the group on a side (R379). -/
def State.testedOn (s : State) (g sd : Nat) : Bool :=
  (List.range 8).any (fun b => s.directTest.testBit (34 * sd + 8 * g + b))

/-- What ends with a segment of a port, whatever it does next; a LOOPBACK slice that runs on one of its standby positions ends with
PREEMPTED (R172, R388). -/
def State.segEnds (s : State) (g sd : Nat) : State :=
  if s.cfl g then
    let s := s.when (s.testedOn g sd) (fun t => t.bistAbort stPreempted)
    ((((s.endRetry g).endJobs g stPreempted).dropMaps g).settleSpares).lpClear g
  else s

/-- A segment in UP is lost (R109, R110, R164). -/
def State.segLost (s : State) (g sd k cause : Nat) : State :=
  if s.segState g sd k = stUp then
    let s := ((s.put (GLB.tsCause g sd k) cause).raise GLB.event 8).segEnds g sd
    let s := (s.startAttempt g sd k).lossOther g sd k
    s.segEval g sd k
  else s

/-- The segment of an Ethernet port fails for good: no position is left for its lane (R25, DEDUCED, log entry 16). -/
def State.segFinal (s : State) (g sd k : Nat) : State :=
  let s := ((s.put (GLB.tsCause g sd k) caLost).raise GLB.event 8).setSeg g sd k stStopped
  ((s.lossOther g sd k).settlePower).settleCauses

/-- The port has codeword lock on a segment: the register's bit for a CFL port, the port's own for an
Ethernet port, of which a group can hold several. -/
def State.cwOf (s : State) (g sd k : Nat) : Bool :=
  if s.cfl g then s.on (DIR.cwLock (inEngine sd) g) else (s.seg g sd k).cw

/-- The port has gained codeword lock on the segment since it entered UP. -/
def State.cwEverOf (s : State) (g sd k : Nat) : Bool :=
  if s.cfl g then (s.eng (inEngine sd) g).cwEver else (s.seg g sd k).cwEver

/-- The port has been without codeword lock since its release (R94). On an Ethernet port the other segment follows as after a loss
(R110), in relay mode into AN (DESIGN CHOICE, log entry 38). -/
def State.fecTimeout (s : State) (g sd k : Nat) : State :=
  if s.segState g sd k = stUp ∧ s.pers g ≠ 0 ∧ s.cwOf g sd k = false
      ∧ s.cwEverOf g sd k = false ∧ s.get (PWR.lpstat g) = 0 then
    let s := (s.segEnds g sd).enterBackoff g sd k caFecLock
    let s := if s.cfl g then (if s.segState g (1 - sd) k = stUp then s.enterHold g (1 - sd) else s)
      else s.lossOther g sd k
    s.segEval g sd k
  else s

/-- The training engines of a port group stop, and its links end (R94, R164, R186, R438); a LOOPBACK slice on one of its positions
ends with PREEMPTED (R388). -/
def State.portDisable (s : State) (g : Nat) : State :=
  if s.on (GLB.en g) then
    let s := s.when (s.testedOn g 0 || s.testedOn g 1) (fun t => t.bistAbort stPreempted)
    let s := s.each (s.portKeys g) (fun k t =>
      ((t.setSeg g 0 k stOff).setSeg g 1 k stOff).updSeg g 0 k (fun _ => Seg.off) |>.updSeg g 1 k (fun _ => Seg.off))
    let s := ((s.endEngine 0 g).endEngine 1 g).endJobs g stPreempted
    let s := (((s.put (DIR.cwLock 0 g) 0).put (DIR.cwLock 1 g) 0).lpClear g).updPort g (fun r => { r with moves := [] })
    let s := (s.clearChannel g [0, 1]).put (FLT.fallback g) 0
    let s := (s.put (GLB.en g) 0).put (GLB.restorePend g) 0
    ((s.settleSpares).settlePower).settleCauses
  else s

/-- A port group's ELANES satisfy R14 and R438: every begun port is aligned and runs within lane 7, every
further lane belongs to the port begun below it, and one port at least is named. A lane coded 0b000 inside a begun port
refuses the setup too: R438 lists no such condition (DESIGN CHOICE, log entry 38). -/
def State.elanesOk (s : State) (g : Nat) : Bool :=
  let code (n : Nat) : Nat := s.get (GLB.elane g n)
  let len (n : Nat) : Nat := s.ethLanes g n
  let inside (n : Nat) : Bool := (List.range 8).any (fun k => decide (k < n ∧ n < k + len k))
  (List.range 8).any (fun n => decide (len n ≠ 0))
    && (List.range 8).all (fun n =>
      if code n = 0 then !inside n
      else if code n = 7 then inside n
      else decide (1 ≤ code n ∧ code n ≤ 4 ∧ n % len n = 0 ∧ n + len n ≤ 8) && !inside n)

/-- A unit runs at 140.0 GBd in all its enabled port groups or in none (R19). -/
def State.rateMixOk (s : State) (g : Nat) : Bool :=
  (List.range 4).all (fun h => decide (h = g) || !s.on (GLB.en h)
    || decide ((s.get (GLB.rate h) = 2) ↔ (s.get (GLB.rate g) = 2)))

/-- An ELBIST or GLBIST slice is in its test (R383). -/
def State.scanRunning (s : State) : Bool :=
  match s.bistHead with
  | some r => decide (r.stage = .testing) && (match r.slices[r.k]? with
    | some x => decide (3 ≤ x.kind)
    | none => false)
  | none => false

/-- The conditions of R438, R384 and R383, and no production test (R425), for an enable of a group. -/
def State.enableOk (s : State) (g : Nat) : Bool :=
  let pers := s.get (GLB.pers g)
  let rate := s.get (GLB.rate g)
  let eth := s.on (GLB.proto g)
  !(decide (pers = 3 ∨ rate = 3) || (decide (pers = 2) && eth))
    && !(decide (rate = 2) && (decide (Config.variant = 1) || eth)) && s.rateMixOk g
    && (!eth || s.elanesOk g)
    && !(decide (pers = 2) && (List.range 2).any (fun e => !s.on (DIR.banks e g) || !s.on (DIR.defq e g)))
    && !s.engineHeld && !s.scanRunning && !s.on GLB.testMode

/-- Every port of the group starts on both segments. -/
def State.portStart (s : State) (g : Nat) : State :=
  (s.portKeys g).foldl (fun t k => (t.segEval g 0 k).segEval g 1 k) s

/-- At the enable of its group a lane that the map places on a spare which SPARE_REACH does not give the group is not carried
(R13; DESIGN CHOICE, log entry 40). -/
def State.dropUnreached (s : State) (g : Nat) : State :=
  s.each [0, 1] (fun sd t =>
    let m := (List.range 8).map (fun n =>
      let c := t.regCode g sd n
      if (c = 8 ∨ c = 9) ∧ t.on (GLB.reach sd (c - 8) g) = false then 15 else c)
    if m = t.regMapOf g sd then t else t.setMap g sd m)

/-- An enable of a port group (R438). It takes the pins back from JTAG (R458). -/
def State.portEnable (s : State) (g : Nat) : State :=
  if s.on (GLB.en g) then s
  else if s.enableOk g then
    ((((((s.pinsBack).dropUnreached g).put (GLB.en g) 1).noteWidth g).settleSpares).portStart g).settlePower
  else s.raise GLB.event 0

/-- A write of RESTART acts only in STOPPED (R94, R111); on an Ethernet group it restarts the segment of
every port of the group that is stopped. While a scan slice runs it is ignored (R383). -/
def State.restart (s : State) (g sd : Nat) : State :=
  if s.scanRunning then s.raise GLB.event 0
  else s.each (s.portKeys g) (fun k t =>
    if t.segState g sd k = stStopped then
      ((t.setSeg g sd k stOff).put (GLB.tsAttempts g sd k) 0).segEval g sd k
    else t)

end Sys2Proof.Machine
end

