-- ==== Sys2Proof/Machine/Sparing.lean ====
section
/-! DEFINITION. The sparing logic of a CFL port (R173 to R187, R27, R113): its tasks, the map changes they
make, and escalations. The first task of a port is in progress; `step` is 0 before it has begun. -/

namespace Sys2Proof.Machine

/-- A task with nothing filled in. -/
def Job.blank (task : Task) (side lane : Nat) : Job :=
  { task := task, side := side, lane := lane, mask := 0, src := 0, width := 0, toPos := 0, owner := .nobody,
    step := 0, spare := 0, home := 0, esc := false, erased := false, soft := false }

def State.headJob (s : State) (g : Nat) : Option Job := (s.port g).jobs.head?

def State.updHead (s : State) (g : Nat) (f : Job → Job) : State :=
  s.updPort g (fun r => { r with jobs := match r.jobs with
    | j :: rest => f j :: rest
    | [] => [] })

def State.dropHead (s : State) (g : Nat) : State := s.updPort g (fun r => { r with jobs := r.jobs.drop 1 })

/-- The task in progress ends with a status. -/
def State.finishHead (s : State) (g status : Nat) : State :=
  match s.headJob g with
  | some j => ((s.dropHead g).endJob j status).settleSpares
  | none => s

/-- A task is queued behind those of the port (R186). -/
def State.pushJob (s : State) (g : Nat) (j : Job) : State :=
  s.updPort g (fun r => { r with jobs := r.jobs ++ [j] })

/-- A task is taken before the others of the port. -/
def State.pushFront (s : State) (g : Nat) (j : Job) : State :=
  s.updPort g (fun r => { r with jobs := j :: r.jobs })

/-- A task whose change is in progress: the change of its move, narrow or widen, or of its return. -/
def changing (j : Job) : Bool := decide (j.step = 2 ∨ j.step = 5)

/-- The task that a property names comes first, so that it goes on. -/
def State.bring (s : State) (g : Nat) (p : Job → Bool) : State :=
  s.updPort g (fun r => { r with jobs := match r.jobs.find? p with
    | some j => j :: dropFirst p r.jobs
    | none => r.jobs })

/-- The narrow of an erased lane (R186). -/
def urgent (j : Job) : Bool := decide (j.task = .narrow) && j.esc && j.erased

/-- The return of a lane from a spare (R184). -/
def returning (j : Job) : Bool := decide (j.task = .giveBack)

/-- Tasks in their order: an erased lane's narrow, a lane's return, escalations, and then what else is asked, each
by arrival (R27, R184, R186). -/
def rankJobs (l : List Job) : List Job :=
  l.filter urgent ++ l.filter returning ++ l.filter (fun j => !urgent j && !returning j && j.esc)
    ++ l.filter (fun j => !returning j && !j.esc)

def State.rank (s : State) (g : Nat) : State := s.updPort g (fun r => { r with jobs := rankJobs r.jobs })

/-- The maintenance activity of a port that has begun. -/
def State.maintJob (s : State) (g : Nat) : Option Job := (s.port g).jobs.find? busyMaint

/-- SRC code of a new map's lane against the current map (R177). -/
def srcCode (cur new : List Nat) (n : Nat) : Nat :=
  let c := new.getD n 15
  if c = 15 then 15
  else match (List.range 8).find? (fun m => decide (cur.getD m 15 = c)) with
    | some m => m
    | none => 8

/-- SRC word of a new map. -/
def srcWord (cur new : List Nat) : Nat := (List.range 8).foldl (fun a n => a + 16 ^ n * srcCode cur new n) 0

/-- Payload word of a LANEMAP flit (R176). -/
def lanemapWord (op seg width src at' id : Nat) : Nat :=
  op + 2 ^ 2 * seg + 2 ^ 4 * width + 2 ^ 8 * src + 2 ^ 40 * at' + 2 ^ 52 * id

/-- Queues a LANEMAP flit toward a segment's partner (R160, R178). -/
def State.queueLanemap (s : State) (g sd word : Nat) : State :=
  s.updEng (outEngine sd) g (fun x => { x with ins := x.ins ++ [.lanemap (BitVec.ofNat 64 word)] })

/-- Sends the PROPOSE of one part of a change. -/
def State.sendPropose (s : State) (g : Nat) (c : Change) (p : Part) : State :=
  s.queueLanemap g p.side (lanemapWord 0 p.side (widthCode c.width) p.src 0 c.id)

/-- A map change begins. In F mode each part is proposed to its partner (R178); in G and T mode the
endpoints act (R179). -/
def State.beginChange (s : State) (g : Nat) (kind : ChangeKind) (w : Nat) (maps : List (Nat × List Nat)) : State :=
  let id := (s.port g).nextId
  let c : Change :=
    { kind := kind, width := w, id := id, told := false,
      parts := maps.map (fun m =>
        { side := m.1, map := m.2, src := srcWord (s.mapOf g m.1) m.2, acc := false, tx := false, rx := false,
          sends := 1 }) }
  let s := s.updPort g (fun r => { r with change := some c, nextId := (id + 1) % 256 })
  let s := s.each maps (fun m t => t.updSeg g m.1 0 (fun x => { x with agreed := [] }))
  if s.fMode g then s.each c.parts (fun p t => t.sendPropose g c p) else s

/-- Maps of a narrow to width w that excludes lanes `exA` and `exB` of the two sides (R182). -/
def State.narrowMaps (s : State) (g w : Nat) (exA exB : List Nat) : List (Nat × List Nat) :=
  [(0, narrowMap (s.mapOf g 0) w exA), (1, narrowMap (s.mapOf g 1) w exB)]

/-- The width that a narrow excluding `n` lanes of a side takes the port to: one step down, or more where the
exclusions need it (R172). -/
def narrowTo (w n : Nat) : Nat := widthFor (min (w - 2) (w - n))

/-- The lane of an escalation still lies on its failing position, by the last completed map. -/
def State.stillHome (s : State) (g : Nat) (j : Job) : Bool :=
  decide (codePos g (s.regCode g j.side j.lane) = some j.home)

/-- A move of a lane retrains its segment: on an Ethernet port, and on a CFL port in T mode (R179, R180). -/
def State.moveRetrains (s : State) (g : Nat) : Bool := !s.cfl g || decide (s.pers g = 0)

/-- Lanes of a side that a narrow made now must exclude (R172, R182): those of the narrow itself, and those of
escalations that wait with a narrow of their own. -/
def State.mustExclude (s : State) (g sd : Nat) (j : Job) : List Nat :=
  let own := if j.side = sd ∧ (j.esc = false ∨ s.stillHome g j = true) then setBits 8 j.mask else []
  let more := ((s.port g).jobs.filter (fun x => decide (x.task = .narrow ∧ x.step = 0 ∧ x.side = sd) && x.esc
    && s.stillHome g x)).map (fun x => x.lane)
  (List.range 8).filter (fun n => decide (n < s.widthOf g) && (own.contains n || more.contains n))

/-- In G and T mode the Thepin stops using the position of an excluded lane, and the endpoints change width
end to end (R179). -/
def State.stopLanes (s : State) (g sd : Nat) (ex : List Nat) : State :=
  let m := (List.range 8).map (fun n => if n ∈ ex then 15 else s.laneCode g sd n)
  let id := (s.port g).nextId
  (s.updSeg g sd 0 (fun x => { x with txMap := m })).updPort g (fun r => { r with
    change := some { kind := .narrow, width := 0, parts := [], id := id, told := false },
    nextId := (id + 1) % 256 })

/-- The position that leaves use by an escalation is marked failed and, unless ERASED was its only cause,
isolated (R183, R358). -/
def State.retire (s : State) (g sd p : Nat) (soft : Bool) : State :=
  let s := s.markFailed g sd p soft
  if soft then s else { s with isolated := s.isolated ||| 2 ^ (34 * sd + p) }

/-- The usable width falls below the port's smallest (R109, R183). -/
def State.portEnds (s : State) (g sd : Nat) : State := s.segLost g sd 0 caLost

/-- A maintenance activity whose spare or position fails before or after it carries the lane ends with
TRAIN_FAILED; its lane stays where it is (R114, R186). A LOOPBACK slice whose position is under test goes on to its verdict, and
one whose test is over ends with that (R389). -/
def State.maintFails (s : State) (sd p : Nat) : State :=
  s.each [0, 1, 2, 3] (fun g t =>
    let hit (j : Job) : Bool := (busyMaint j || (returning j && decide (0 < j.step))) && decide (j.side = sd)
      && (decide (j.spare = p ∧ j.step = 1)
        || decide (j.home = p ∧ 3 ≤ j.step ∧ ¬(j.task = Task.loopback ∧ j.step = 3)))
    match (t.port g).jobs.find? hit with
    | some j =>
      let t := ((t.bring g hit).endLt (34 * sd + j.spare)).endLt (34 * sd + j.home)
      let t := { t with bistHeld := t.bistHeld &&& (2 ^ 68 - 1 - 2 ^ (34 * sd + j.home)) }
      if j.task = .loopback then
        ((t.dropHead g).settleSpares).bistCut (if j.step = 1 then vTrainFailed else (t.bistHead.map (·.verdict)).getD vPass)
      else t.finishHead g stTrainFailed
    | none => t)

/-- Some of an earlier change that ended with MAP_FAIL is left to do (R178, R183): receivers that show another map than GLB_LMAP, or
segments of two widths. -/
def State.halfDone (s : State) (g : Nat) : Bool :=
  [0, 1].any (fun sd => decide (s.rxMapOf g sd ≠ s.regMapOf g sd))
    || decide ((mapLanes (s.regMapOf g 0)).length ≠ (mapLanes (s.regMapOf g 1)).length)

/-- The lane of an escalation has already left its failing position, which leaves use. -/
def State.leftAlready (s : State) (g : Nat) (j : Job) : State :=
  ((s.retire g j.side j.home j.soft).finishHead g stOk).maintFails j.side j.home

/-- A narrow that a MAP_FAIL cut short goes on to the width that it had while some of that change is left to do and both maps still
allow the width without the lanes that it excludes (R178, R183). -/
def State.narrowGoesOn (s : State) (g w : Nat) (exA exB : List Nat) : Bool :=
  decide (w ≠ 0) && s.halfDone g && [(0, exA), (1, exB)].all (fun x =>
    decide (w ≤ ((mapLanes (s.mapOf g x.1)).filter (fun n => decide (n ∉ x.2))).length))

/-- A narrow starts (R182, R183): one that a MAP_FAIL cut short to the width that it had, any other below the current width. One that
would end the port waits while the port is in a low-power state, in which no lack of width loses a segment (R401). -/
def State.startNarrow (s : State) (g : Nat) (j : Job) : State :=
  let w := s.widthOf g
  let exA := s.mustExclude g 0 j
  let exB := s.mustExclude g 1 j
  let goesOn := s.narrowGoesOn g j.width exA exB
  let target := if goesOn then j.width else narrowTo w (max exA.length exB.length)
  if j.esc && !s.stillHome g j && !goesOn then s.leftAlready g j
  else if target = 0 ∧ s.on (PWR.lpstat g) = true then s
  else if target = 0 then
    let s := if j.esc then s.retire g j.side j.home j.soft else s
    s.portEnds g j.side
  else if s.fMode g then
    (s.updHead g (fun x => { x with step := 2 })).beginChange g .narrow target (s.narrowMaps g target exA exB)
  else
    let s := if j.esc then s.retire g j.side j.home j.soft else s
    (s.updHead g (fun x => { x with step := 2 })).stopLanes g j.side (if j.side = 0 then exA else exB)

/-- A spare that the group could reach is under the direct test of a LOOPBACK slice (R27, R379). -/
def State.testedReachable (s : State) (g sd : Nat) : Bool :=
  [0, 1].any (fun sp => s.on (GLB.reach sd sp g) && s.spareTested sd sp)

/-- A position of maintenance holds a spare that the group could reach. -/
def State.heldReachable (s : State) (g sd : Nat) : Option Nat :=
  ([0, 1].filter (fun sp => s.on (GLB.reach sd sp g))).findSome? (fun sp => s.spareHolder sd sp)

/-- Such a spare is on its way back (R184). -/
def State.comingReachable (s : State) (g sd : Nat) : Bool :=
  [0, 1].any (fun sp => s.on (GLB.reach sd sp g) && s.spareComing sd sp)

/-- What maintenance did to its position ends: the position is no longer held, and no foreground calibration
of it goes on. -/
def State.unhold (s : State) (j : Job) : State :=
  let i := 34 * j.side + j.home
  let s := { s with bistHeld := s.bistHeld &&& (2 ^ 68 - 1 - 2 ^ i) }
  (s.updRx i (fun r => { r with fg := false })).updTx i (fun t => { t with fg := false })

/-- The lane of an ended maintenance activity goes back to its position (R27, R184). -/
def State.giveLane (s : State) (g : Nat) (j : Job) : State :=
  let back : Job := { j with task := .giveBack, owner := .nobody }
  let s := s.unhold j
  if j.step ≤ 1 then ((s.endLt (34 * j.side + j.spare)).dropHead g).settleSpares
  else if j.step = 3 then (s.updHead g (fun _ => { back with step := 4 })).startLt (34 * j.side + j.home) g j.lane
  else s.updHead g (fun _ => back)

/-- The lane of an ended maintenance activity stays where the last completed change leaves it; a change in
progress completes (R422). -/
def State.leaveLane (s : State) (g : Nat) (j : Job) : State :=
  let s := s.unhold j
  if j.step = 2 ∨ j.step = 5 then s.updHead g (fun _ => { Job.blank .asked j.side j.lane with step := 2 })
  else (((s.endLt (34 * j.side + j.spare)).endLt (34 * j.side + j.home)).dropHead g).settleSpares

/-- Maintenance ends with a status, and its lane goes back to its position (R27, R184). -/
def State.yieldWith (s : State) (g status : Nat) : State :=
  match s.maintJob g with
  | some j => (((s.bring g busyMaint).endJob j status).giveLane g j).rank g
  | none => s

/-- Maintenance ends with a reset of the core (R422). -/
def State.leaveWith (s : State) (g status : Nat) : State :=
  match s.maintJob g with
  | some j => (((s.bring g busyMaint).endJob j status).leaveLane g j).rank g
  | none => s

/-- Maintenance yields to an escalation, with PREEMPTED (R27). -/
def State.preempt (s : State) (g : Nat) : State := s.yieldWith g stPreempted

/-- The position that a move or a SWAP takes (R173, R187). -/
def State.moveTarget (s : State) (g : Nat) (j : Job) : Option Nat :=
  if j.toPos = 0 then (s.available g j.side).head?
  else (s.freeSpares g j.side).find? (fun p => decide (p = 31 + j.toPos))

/-- The sides of `sides` have a reaching spare that maintenance holds: it yields, or is on its way back already (R27,
R184). None: no such spare. -/
def State.yieldSpare (s : State) (g : Nat) (sides : List Nat) : Option State :=
  if sides.any (fun sd => s.comingReachable g sd) then some s
  else match sides.findSome? (fun sd => s.heldReachable g sd) with
    | some h => some (s.preempt h)
    | none => if sides.any (fun sd => s.testedReachable g sd) then some (s.bistAbort stPreempted).settleSpares else none

/-- A lane takes another position for the retrain of its segment, at whose end the move is complete (R179, R180, R189). -/
def State.moveMap (s : State) (g sd k lane p : Nat) : State :=
  let m := (List.range 8).map (fun n => if n = lane then posCode g p else s.laneCode g sd n)
  ((s.setMap g sd m).settleSpares).updPort g (fun r => { r with
    moves := r.moves ++ [(8 * sd + k, r.nextId)], nextId := (r.nextId + 1) % 256 })

/-- A segment of an Ethernet port, or of a CFL port in T mode, loses a lane's position (R179, R180): the lane
moves to an available position and the segment retrains. -/
def State.moveRetrain (s : State) (g sd k lane p : Nat) : State := (s.moveMap g sd k lane p).segLost g sd k caLost

/-- An escalation finds a position for its lane: the segment retrains with it, where the move does so, or the position
trains for the lane (R179, R180, R183). -/
def State.moveTo (s : State) (g home p : Nat) (j : Job) : State :=
  if s.moveRetrains g then
    ((s.retire g j.side home j.soft).finishHead g stOk).moveRetrain g j.side (s.portOfLane g j.lane) j.lane p
  else
    (((s.updHead g (fun x => { x with step := 1, spare := p, home := home })).startLt
      (34 * j.side + p) g j.lane).settleSpares).settlePower

/-- An escalation finds no position for its lane: a CFL port narrows, and an Ethernet port ends (R25, R183). -/
def State.moveNowhere (s : State) (g home : Nat) (j : Job) : State :=
  if s.cfl g then s.updHead g (fun x => { x with task := .narrow, home := home, mask := 2 ^ j.lane })
  else ((s.retire g j.side home j.soft).finishHead g stOk).segFinal g j.side (s.portOfLane g j.lane)

/-- The change of one lane to a position. -/
def State.beginMove (s : State) (g sd lane p : Nat) : State :=
  s.beginChange g .move (s.widthOf g)
    [(sd, (List.range 8).map (fun n => if n = lane then posCode g p else s.laneCode g sd n))]

/-- A move starts (R183). An escalation that waits for a spare while its segment leaves UP marks its position failed and
moves nothing (R358; DEDUCED, log entry 39). A move whose transmitters had switched when its change ended with MAP_FAIL is proposed
again (R183). -/
def State.startMove (s : State) (g : Nat) (j : Job) : State :=
  match s.lanePos g j.side j.lane with
  | none => s.finishHead g stPreempted
  | some home =>
    if j.esc ∧ home ≠ j.home then
      (if s.rxPos g j.side j.lane = some home then s.leftAlready g j
      else (s.updHead g (fun x => { x with step := 2, spare := home })).beginMove g j.side j.lane home)
    else if s.segState g j.side (s.portOfLane g j.lane) ≠ stUp then
      (s.when j.esc (fun t => t.retire g j.side home j.soft)).finishHead g stPreempted
    else match s.moveTarget g j with
    | some p => s.moveTo g home p j
    | none =>
      if j.esc then (s.yieldSpare g [j.side]).getD (s.moveNowhere g home j)
      else s.finishHead g stPrecondition

/-- A trained or training position of a group for a lane on a side (R186). -/
def State.ltFor (s : State) (g sd lane : Nat) : Option Nat :=
  ((s.ltEnds g sd).find? (fun i => match s.lt i with
    | some t => decide (t.lane = lane) && !t.idle
    | none => false)).map (fun i => i % 34)

/-- The position that a lane takes of those of `pool`: the one that carried it before the narrow that removed it, where the map does
not carry it, or else the first in the order of R173 (R182). -/
def State.choice (s : State) (g sd lane : Nat) (pool : List Nat) : Option Nat :=
  match (s.port g).former.find? (fun x => decide (x.1 = 8 * sd + lane ∧ s.laneCode g sd lane = 15)) with
  | some (_, p) => if p ∈ pool then some p else pool.head?
  | none => pool.head?

/-- The positions that the lanes of a list would take, in their order, each lane with its own (R182). -/
def State.choices (s : State) (g sd : Nat) (lanes : List Nat) : List (Nat × Nat) :=
  (lanes.foldl (fun (a : List (Nat × Nat) × List Nat) n => match s.choice g sd n a.2 with
    | some p => (a.1 ++ [(n, p)], a.2.filter (fun q => decide (q ≠ p)))
    | none => a) ([], s.available g sd)).1

/-- Lane training of one added lane starts on the position that R182 gives it. Where one trains for the lane already, or is
trained, that one is taken: it is of this change, or of a move that an erased lane's narrow has overtaken (R186). -/
def State.trainAdded (s : State) (g sd lane : Nat) : State :=
  match s.ltFor g sd lane, s.choice g sd lane (s.available g sd) with
  | some _, _ => s
  | none, some p => (s.startLt (34 * sd + p) g lane).settleSpares
  | none, none => s

/-- Lanes that a widen to w adds, on both sides. -/
def State.addedLanes (s : State) (g w : Nat) : List (Nat × Nat) :=
  [0, 1].flatMap (fun sd => ((List.range 8).filter (fun n => decide (n < w ∧ s.laneCode g sd n = 15))).map
    (fun n => (sd, n)))

/-- Tasks that keep the positions they train. -/
def keepsLt (j : Job) : Bool :=
  decide (0 < j.step ∧ (j.task = .move ∨ j.task = .giveBack)) || busyMaint j

/-- Code of lane n in a SRC word (R176). -/
def srcAt (src n : Nat) : Nat := bitsOf src (4 * n) 4

/-- Lanes that a change asked for by a partner needs trained positions for (R178): on its segment those of code 8, and on the
other the lanes that a widen adds. -/
def State.askedNeeds (s : State) (g : Nat) (j : Job) : List (Nat × Nat) :=
  (((List.range 8).filter (fun n => decide (n < j.width ∧ srcAt j.src n = 8))).map (fun n => (j.side, n)))
    ++ (((List.range 8).filter (fun n => decide (s.widthOf g < j.width ∧ n < j.width
      ∧ s.laneCode g (1 - j.side) n = 15))).map (fun n => (1 - j.side, n)))

/-- Some task keeps the lane training or shadow copy of a position, or it is kept for a lane that a narrow has dropped (R186). -/
def State.ltKept (s : State) (g i : Nat) : Bool :=
  (match s.lt i with
    | some t => t.kept && decide (s.laneCode g (i / 34) t.lane = 15)
    | none => false) || (s.port g).jobs.any (fun j =>
    (keepsLt j && decide (j.side = i / 34 ∧ (j.spare = i % 34 ∨ j.home = i % 34)))
      || (decide (j.task = .restore ∧ 0 < j.step ∧ j.side = i / 34) && j.mask.testBit (i % 34))
      || (decide (j.task = .asked ∧ 0 < j.step) && (match s.lt i with
        | some t => !t.idle && decide ((i / 34, t.lane) ∈ s.askedNeeds g j)
        | none => false)))

/-- Lane trainings and shadow copies of a group end that no task keeps (R174, R186): for lanes from `low` on, and those of restored
positions that no lane would take (R187). -/
def State.endLtsFrom (s : State) (g low : Nat) : State :=
  s.each (s.ltEnds g 0 ++ s.ltEnds g 1) (fun i t =>
    if t.ltKept g i || (match t.lt i with
      | some x => decide (x.lane < low) && !x.idle
      | none => true) then t
    else t.endLt i)

def State.endSpareLts (s : State) (g : Nat) : State := s.endLtsFrom g 0

/-- Positions of a side that are in lane training or shadow copy for a lane that the map does not carry, or for none. -/
def State.trainedAway (s : State) (g sd : Nat) : List Nat :=
  (s.ltEnds g sd).filter (fun i => match s.lt i with
    | some t => t.idle || decide (s.laneCode g sd t.lane = 15)
    | none => false)

/-- The largest width that the usable counts allow, positions in training for it included. -/
def State.reachWidth (s : State) (g : Nat) : Nat :=
  widthFor (min (s.usable g 0 + (s.trainedAway g 0).length) (s.usable g 1 + (s.trainedAway g 1).length))

/-- Spares of a side that maintenance holds and that reach the group (R27). -/
def State.heldCount (s : State) (g sd : Nat) : Nat :=
  ([0, 1].filter (fun sp => s.on (GLB.reach sd sp g)
    && ((s.spareHolder sd sp).isSome || s.spareComing sd sp || s.spareTested sd sp))).length

/-- The largest width that the usable counts allow once maintenance has yielded its spares (R27, R184). -/
def State.yieldWidth (s : State) (g : Nat) : Nat :=
  widthFor (min (s.usable g 0 + (s.trainedAway g 0).length + s.heldCount g 0)
    (s.usable g 1 + (s.trainedAway g 1).length + s.heldCount g 1))

/-- A widen ends at the width that the port has reached (R183). -/
def State.widenEnds (s : State) (g : Nat) : State :=
  ((s.put (GLB.restorePend g) 0).endSpareLts g).finishHead g stOk

/-- A widen starts toward the target width, or ends at the width it has reached (R182, R183). One that is owed to an
erased lane makes maintenance yield a spare that it needs (R27, R184). -/
def State.startWiden (s : State) (g : Nat) (j : Job) : State :=
  let w := min (if j.width ≠ 0 then j.width else 8) (s.reachWidth g)
  if s.widthOf g < w then
    let s := (((s.updHead g (fun x => { x with step := 1, width := w })).endLtsFrom g w).settleSpares)
    let s := s.each (s.addedLanes g w) (fun x t => t.trainAdded g x.1 x.2)
    if (s.addedLanes g w).any (fun x => (s.ltFor g x.1 x.2).isNone) then s.widenEnds g else s.settlePower
  else if j.esc && decide (s.widthOf g < s.yieldWidth g) then (s.yieldSpare g [0, 1]).getD (s.widenEnds g)
  else s.widenEnds g

/-- Maintenance of a position starts: lane training of a free spare that reaches the port (R113). A FULL recalibration waits
while calibration is suspended (R231). -/
def State.startMaintenance (s : State) (g : Nat) (j : Job) : State :=
  let refused := if j.task = .loopback then (s.dropHead g).bistVerdict vPrecondition 0 0 false
    else s.finishHead g stPrecondition
  match s.lanePos g j.side j.lane, (s.freeSpares g j.side).head? with
  | some home, some p =>
    if j.task = .loopback ∧ home ≠ j.home then refused
    else if j.task = .full ∧ s.calSuspended = true then s
    else (((s.updHead g (fun x => { x with step := 1, spare := p, home := home })).startLt
      (34 * j.side + p) g j.lane).settleSpares).settlePower
  | _, _ => refused

/-- A lane is brought back from a spare: lane training of its own position (R113, R184). -/
def State.startReturn (s : State) (g : Nat) (j : Job) : State :=
  ((s.updHead g (fun x => { x with step := 4 })).startLt (34 * j.side + j.home) g j.lane).settlePower

/-- The lane that a widen of R182 would give a restored position. -/
def State.restoreLane (s : State) (g sd p : Nat) : Option Nat :=
  ((s.choices g sd ((List.range 8).filter (fun n => decide (s.laneCode g sd n = 15)
      && (s.ltFor g sd n).isNone))).find? (fun x => decide (x.2 = p))).map (fun x => x.1)

/-- A restored position trains for the lane that would take it. One that none would take names the lane whose number is its place
(DESIGN CHOICE, log entry 38), and a widen that follows trains it again for the lane that takes it after all. -/
def State.trainRestored (s : State) (g i : Nat) (lane : Option Nat) : State :=
  match lane with
  | some n => s.startLt i g n
  | none => (s.startLt i g (i % 34 % 8)).updLt i (fun x => { x with idle := true })

/-- The positions that channel faults marked are put back in service, and each trains (R187). -/
def State.startRestore (s : State) (g : Nat) (j : Job) : State :=
  let c := (s.port g).channel
  let ps := ((List.range 8).map (fun b => 8 * g + b) ++ [32, 33]).filter (fun p => c.testBit (chanBit j.side p))
  let s := ((s.clearChannel g [j.side]).settleSpares).updHead g (fun x => { x with
    step := 1, mask := ps.foldl (fun a p => a + 2 ^ p) 0 })
  let lane := s.restoreLane g j.side
  (s.each ps (fun p t =>
    if p ∈ t.available g j.side then (t.trainRestored g (34 * j.side + p) (lane p)).settleSpares
    else t)).settlePower

/-- Every position that RESTORE put back has been trained, or has failed its training. -/
def State.restored (s : State) (j : Job) : Bool :=
  (setBits 34 j.mask).all (fun p => match s.lt (34 * j.side + p) with
    | some t => decide (t.stage = .shadow)
    | none => true)

/-- The map that SRC names against a current map (R177); code 8 stands for the position found for the lane. -/
def srcMap (cur : List Nat) (src : Nat) (new : Nat → Nat) : List Nat :=
  (List.range 8).map (fun n =>
    let c := srcAt src n
    if c < 8 then cur.getD c 15 else if c = 8 then new n else 15)

/-- A partner's proposal names a change that is valid at this end (R177): code 8 asks for a position, which
must be available here. -/
def State.askValid (s : State) (g sd w src : Nat) : Bool :=
  let low := (List.range w).map (fun n => srcAt src n)
  let named := low.filter (fun c => decide (c ≠ 8))
  low.all (fun c => decide (c ≤ 8)) && named.all (fun c => decide (s.laneCode g sd c ≠ 15))
    && decide (named.eraseDups.length = named.length)
    && decide ((low.filter (fun c => decide (c = 8))).length ≤ (s.available g sd).length)
    && ((List.range 8).filter (fun n => decide (w ≤ n))).all (fun n => decide (srcAt src n = 15))

/-- Lane trainings that a partner's change needs start; where a position is left for none of them the request ends. -/
def State.trainAsked (s : State) (g : Nat) (j : Job) : State :=
  let t := s.each (s.askedNeeds g j) (fun x t => t.trainAdded g x.1 x.2)
  if (t.askedNeeds g j).any (fun x => (t.ltFor g x.1 x.2).isNone) then (t.finishHead g stPrecondition).endSpareLts g
  else t.settlePower

/-- A partner's PROPOSE that was taken as a request (R178) begins with its lane trainings, where it is still valid against
the maps as they stand. -/
def State.startAsked (s : State) (g : Nat) (j : Job) : State :=
  if s.askValid g j.side j.width j.src then (s.updHead g (fun x => { x with step := 1 })).trainAsked g j
  else s.finishHead g stPrecondition

/-- A task begins. -/
def State.startTask (s : State) (g : Nat) (j : Job) : State :=
  match j.task with
  | .move => s.startMove g j
  | .narrow => s.startNarrow g j
  | .widen => s.startWiden g j
  | .retrain => s.startMaintenance g j
  | .full => s.startMaintenance g j
  | .loopback => s.startMaintenance g j
  | .giveBack => s.startReturn g j
  | .restore => s.startRestore g j
  | .asked => s.startAsked g j

/-- A position is in shadow copy. -/
def State.inShadow (s : State) (i : Nat) : Bool :=
  match s.lt i with
  | some t => decide (t.stage = .shadow)
  | none => false

/-- The map of a widen on a side: each added lane at the position trained for it. -/
def State.widenMap (s : State) (g sd w : Nat) : List Nat :=
  (List.range 8).map (fun n =>
    if w ≤ n then 15
    else if s.laneCode g sd n ≠ 15 then s.laneCode g sd n
    else match s.ltFor g sd n with
      | some p => posCode g p
      | none => 15)

/-- A lane's trained position is in shadow copy. -/
def State.shadowed (s : State) (g : Nat) (x : Nat × Nat) : Bool :=
  match s.ltFor g x.1 x.2 with
  | some p => s.inShadow (34 * x.1 + p)
  | none => false

/-- The change that a partner asked for is proposed as the Thepin's own: its map on that partner's segment, and on the other,
where the width changes, a narrow without exclusions or a widen (R178, R182). -/
def State.beginAsked (s : State) (g : Nat) (j : Job) : State :=
  let w := s.widthOf g
  let o := 1 - j.side
  let mine := (j.side, srcMap (s.mapOf g j.side) j.src (fun n => match s.ltFor g j.side n with
    | some p => posCode g p
    | none => 15))
  let s := s.updHead g (fun x => { x with step := 2 })
  if j.width = w then s.beginChange g .move w [mine]
  else if j.width < w then s.beginChange g .narrow j.width [mine, (o, narrowMap (s.mapOf g o) j.width [])]
  else s.beginChange g .widen j.width [mine, (o, s.widenMap g o j.width)]

/-- What a port's first task does once it has begun and while no change of the port is in progress: its change, once its
positions are in shadow copy, or a further choice where one has failed. -/
def State.jobTrained (s : State) (g : Nat) (j : Job) : Option State :=
  match j.task with
  | .widen =>
    if j.width ≤ s.widthOf g then some (s.widenEnds g)
    else if (s.addedLanes g j.width).any (fun x => (s.ltFor g x.1 x.2).isNone) then some (s.startWiden g j)
    else if (s.addedLanes g j.width).all (s.shadowed g) then
      some ((s.updHead g (fun x => { x with step := 2 })).beginChange g .widen j.width
        [(0, s.widenMap g 0 j.width), (1, s.widenMap g 1 j.width)])
    else none
  | .restore =>
    if s.restored j then some (s.updHead g (fun x => { x with task := .widen, step := 0, mask := 0 })) else none
  | .asked =>
    if (s.askedNeeds g j).any (fun x => (s.ltFor g x.1 x.2).isNone) then some (s.trainAsked g j)
    else if (s.askedNeeds g j).all (s.shadowed g) then some (s.beginAsked g j)
    else none
  | _ =>
    if s.inShadow (34 * j.side + j.spare) then
      some ((s.updHead g (fun x => { x with step := 2 })).beginMove g j.side j.lane j.spare)
    else if j.task = .move ∧ (s.lt (34 * j.side + j.spare)).isNone = true then
      some (s.updHead g (fun x => { x with step := 0, spare := 0 }))
    else none

/-- The next thing that a port's first task can do: begin, or go on once its positions are trained. -/
def State.jobNext (s : State) (g : Nat) : Option State :=
  if ((s.port g).change).isSome then none
  else match s.headJob g with
    | none => none
    | some j =>
      if j.step = 0 then
        let t := s.startTask g j
        if t.headJob g = some j then (if t = s then none else some t) else some t
      else if j.step = 1 then s.jobTrained g j
      else if j.step = 4 ∧ s.inShadow (34 * j.side + j.home) = true then
        some ((s.updHead g (fun x => { x with step := 5 })).beginMove g j.side j.lane j.home)
      else none

/-- Takes what a port's tasks can do until nothing is left. -/
def State.jobRun : Nat → State → Nat → State
  | 0, s, _ => s
  | n + 1, s, g =>
    match s.jobNext g with
    | some t => State.jobRun n t g
    | none => s

/-- A lane that is erased during the lane training of its planned move is narrowed at once (R186), but not while
every position of its segment is erased (R359). -/
def State.erasedMoves (s : State) (g : Nat) : State :=
  let hit (j : Job) : Bool := decide (j.task = .move ∧ j.step ≤ 1) && j.esc && !s.moveRetrains g && s.stillHome g j
    && s.invalid (34 * j.side + j.home)
    && !(s.positions g j.side 0).all (fun p => s.invalid (34 * j.side + p))
    && !(s.port g).jobs.any (fun x => urgent x && decide (x.side = j.side ∧ x.home = j.home))
  s.each ((s.port g).jobs.filter hit) (fun j t =>
    t.pushFront g { j with task := .narrow, step := 0, spare := 0, mask := 2 ^ j.lane, erased := true })

/-- While RESTORE_EN is 1 the width of a port in service does not stay below the target width (R172, R183): a widen follows whatever
left it there, once the usable counts allow it, positions that train for it included. RESTORE_PEND tells of a widen owed to an
erased lane. -/
def State.oweLater (s : State) (g : Nat) : State :=
  if s.widthOf g = 8 then (if (s.port g).owed = none then s else s.updPort g (fun r => { r with owed := none }))
  else if s.cfl g && s.on GLB.restoreEn && !s.moveRetrains g && s.bothUp g && ((s.port g).change).isNone
      && !((s.port g).jobs ++ (s.port g).retry).any (fun j => decide (j.task = .widen ∨ j.task = .narrow ∨ j.task = .asked))
      && decide (s.widthOf g < s.reachWidth g) then
    (s.when ((s.port g).owed = some true) (fun t => t.put (GLB.restorePend g) 1)).pushJob g (Job.blank .widen 0 0)
  else s

/-- Every port's tasks go on: the lower-numbered group takes a contended spare (R173). -/
def State.jobsRun (s : State) : State :=
  ((s.settleSpares).each [0, 1, 2, 3, 0, 1, 2, 3] (fun g t =>
    State.jobRun 12 (((t.oweLater g).erasedMoves g).rank g) g)).settlePower

/-- The failing position of an escalation leaves use with its change. -/
def State.retireHome (s : State) (g : Nat) (j : Job) : State :=
  if j.esc && decide (j.task = .move ∨ j.task = .narrow) && !s.mapped g j.side j.home then
    s.retire g j.side j.home j.soft else s

/-- Moves of lanes that a narrow has dropped end; the position that one trained is kept for its lane (R186). -/
def State.dropMoves (s : State) (g : Nat) : State :=
  let gone (j : Job) : Bool := decide (j.task = .move) && decide (s.laneCode g j.side j.lane = 15)
  let ended := (s.port g).jobs.filter gone
  let s := s.each (ended.filter (fun j => decide (j.step = 1))) (fun j t =>
    t.updLt (34 * j.side + j.spare) (fun x => { x with kept := true }))
  (s.updPort g (fun r => { r with jobs := r.jobs.filter (fun j => !gone j) })).each ended
    (fun j t => t.endJob j stPreempted)

/-- A widen is owed after a narrow by escalation. After that of an erased lane it follows at once where RESTORE_EN and the
usable counts allow a larger width, held spares included (R183, R184); otherwise once they do. -/
def State.oweWiden (s : State) (g : Nat) (j : Job) : State :=
  if !j.esc || s.moveRetrains g then s
  else
    let s := s.updPort g (fun r => { r with owed := some (j.erased || r.owed.getD false) })
    if j.erased && s.on GLB.restoreEn && decide (s.widthOf g < s.yieldWidth g) then
      (s.put (GLB.restorePend g) 1).pushFront g { Job.blank .widen j.side 0 with esc := true }
    else s

/-- The Crescent cycle and the Tx pass of a position end (R231, R379). -/
def State.endCycles (s : State) (i : Nat) : State :=
  (s.updRx i (fun r => { r with cycling := false })).updTx i (fun t => { t with pass := none, lent := none })

/-- The lane has left its position for maintenance: the test or the calibration of the position, or its
training (R113, R231, R379). -/
def State.onSpare (s : State) (g : Nat) (j : Job) : State :=
  let i := 34 * j.side + j.home
  match j.task with
  | .retrain => s.startReturn g j
  | .giveBack => s.startReturn g j
  | .full =>
    let s := { s with bistHeld := s.bistHeld ||| 2 ^ i }
    ((s.updHead g (fun x => { x with step := 3 })).updRx i (fun r => { r with fg := true, cycling := false })).updTx
      i (fun t => { t with fg := true, pass := none })
  | .loopback =>
    let s := { s with bistHeld := s.bistHeld ||| 2 ^ i }
    ((s.endCycles i).updHead g (fun x => { x with step := 3 })).updBist (fun r => { r with stage := .testing })
  | _ => s

/-- The task in front goes on after its change is complete. -/
def State.headChanged (s : State) (g : Nat) : State :=
  match s.headJob g with
  | none => s
  | some j =>
    match j.task with
    | .move => (s.retireHome g j).finishHead g stOk
    | .narrow =>
      let t := (((s.retireHome g j).finishHead g stOk).dropMoves g).oweWiden g j
      if t.on (GLB.restorePend g) then t else (t.endSpareLts g).settleSpares
    | .widen => ((s.put (GLB.restorePend g) 0).endSpareLts g).finishHead g stOk
    | .asked => (s.finishHead g stOk).endSpareLts g
    | _ =>
      if j.step = 2 then s.onSpare g j
      else if j.task = .loopback then
        let v := (s.bistHead.map (fun r => (r.verdict, r.us, r.detail))).getD (0, 0, 0)
        ((s.dropHead g).settleSpares).bistVerdict v.1 v.2.1 v.2.2 true
      else s.finishHead g stOk

/-- The task whose change is complete goes on. -/
def State.jobChanged (s : State) (g : Nat) : State :=
  if (s.port g).jobs.any changing then (s.bring g changing).headChanged g else s

/-- Positions that carried lanes before a narrow, for the widen that restores them (R182). -/
def State.noteFormer (s : State) (g sd : Nat) (old new : List Nat) : State :=
  let gone := (List.range 8).filterMap (fun n =>
    if old.getD n 15 ≠ 15 ∧ new.getD n 15 = 15 then (codePos g (old.getD n 15)).map (fun p => (8 * sd + n, p))
    else none)
  s.updPort g (fun r => { r with
    former := gone ++ r.former.filter (fun x => !gone.any (fun y => decide (y.1 = x.1))) })

/-- Shadow copies of positions that the maps now name end, since the positions carry their lanes: trained, with both receivers
ready (R103, R112). -/
def State.endTaken (s : State) (g : Nat) : State :=
  s.each (s.ltEnds g 0 ++ s.ltEnds g 1) (fun i t =>
    if t.mapped g (i / 34) (i % 34) then (t.endLt i).updSeg g (i / 34) 0 (fun x => { x with
      locked := x.locked ||| 2 ^ (i % 34), ready := x.ready ||| 2 ^ (i % 34), farReady := x.farReady ||| 2 ^ (i % 34) })
    else t)

/-- A change is complete (R178, R189): GLB_LMAP takes its maps. -/
def State.changeDone (s : State) (g : Nat) (c : Change) : State :=
  let s := s.each c.parts (fun p t => (t.setMap g p.side p.map).updSeg g p.side 0 (fun x => { x with
    txMap := [], rxMap := [], agreed := [] }))
  let s := (s.put (GLB.chgId g) c.id).updPort g (fun r => { r with change := none })
  let s := match c.kind with
    | .move => s.raise GLB.event 9
    | _ => (s.noteWidth g).raise GLB.event 10
  ((((s.endTaken g).settleSpares).jobChanged g).jobsRun).settleCauses

/-- The change is complete when both directions of every segment concerned have switched. -/
def State.changeCheck (s : State) (g : Nat) : State :=
  match (s.port g).change with
  | some c => if !c.parts.isEmpty && c.parts.all (fun p => p.tx && p.rx) then s.changeDone g c else s
  | none => s

/-- The positions that a task has trained leave lane training and shadow copy (R174). -/
def State.endJobLts (s : State) (g : Nat) (j : Job) : State :=
  if j.task = .narrow then s
  else if keepsLt j then (s.endLt (34 * j.side + j.spare)).endLt (34 * j.side + j.home)
  else s.endSpareLts g

/-- The task whose change to a width has failed: an escalation, and a widen that follows one, is tried again 1 ms later (R183);
another completes with MAP_FAILED (R114, R187). A LOOPBACK slice ends with TRAIN_FAILED (DEDUCED, log entry 17). -/
def State.jobMapFailed (s : State) (g width : Nat) : State :=
  match (s.port g).jobs.find? changing with
  | none => s
  | some j =>
    let s := s.bring g changing
    let s := if j.task = .loopback then ((s.dropHead g).settleSpares).bistCut vTrainFailed
      else if j.esc || decide (j.task = .widen ∧ j.owner = .nobody) then
        (s.dropHead g).updPort g (fun r => { r with retry := r.retry ++ [{ j with
          step := 0, spare := 0, width := if j.task = .narrow then width else j.width }] })
      else s.finishHead g stMapFailed
    (s.endJobLts g j).settleSpares

/-- What one part of a failed change leaves (R178): GLB_LMAP takes the agreed map where the transmitters have switched, each
receiver keeps the map its markers show, and an agreed map that they do not show yet may still come. -/
def State.partFails (s : State) (g : Nat) (p : Part) : State :=
  let rx := s.rxMapOf g p.side
  let s := if p.tx then (s.setMap g p.side p.map).updSeg g p.side 0 (fun x => { x with txMap := [] }) else s
  s.updSeg g p.side 0 (fun x => { x with
    rxMap := if rx = s.regMapOf g p.side then [] else rx,
    agreed := if p.acc ∧ p.rx = false then p.map else [] })

/-- A change ends with MAP_FAIL (R178). -/
def State.changeFail (s : State) (g : Nat) : State :=
  match (s.port g).change with
  | some c =>
    let s := s.each c.parts (fun p t => t.partFails g p)
    let s := (s.updPort g (fun r => { r with change := none })).raise GLB.event 11
    let s := if c.parts.any (fun p => p.tx) then s.noteWidth g else s
    ((((s.jobMapFailed g c.width).endTaken g).jobsRun).settlePower).settleCauses
  | none => s

/-- Changes one part of the change in progress. -/
def State.updPart (s : State) (g sd : Nat) (f : Part → Part) : State :=
  s.updPort g (fun r => { r with change := r.change.map (fun c => { c with
    parts := c.parts.map (fun p => if p.side = sd then f p else p) }) })

/-- The part of a side's segment in the change in progress. -/
def State.partOf (s : State) (g sd : Nat) : Option Part :=
  match (s.port g).change with
  | some c => c.parts.find? (fun p => decide (p.side = sd))
  | none => none

/-- The transmitters on a segment may switch at this marker boundary (R178, R179). -/
def State.txMaySwitch (s : State) (g sd : Nat) : Bool :=
  match (s.port g).change, s.partOf g sd, s.partOf g (1 - sd) with
  | some c, some p, o =>
    !p.tx && !p.map.isEmpty && (match c.kind with
      | .move => if s.fMode g then p.acc else c.told || p.rx
      | .widen =>
        if s.fMode g then c.parts.all (fun x => x.acc)
        else (match o with
          | some q => q.rx
          | none => true)
      | .narrow => (match o with
        | some q => q.rx
        | none => true))
  | _, _, _ => false

/-- The Thepin's transmitters on a segment switch to the agreed map at a marker boundary (R178). -/
def State.switchTx (s : State) (g sd : Nat) : State :=
  match s.partOf g sd with
  | some p =>
    let s := (s.noteFormer g sd (s.mapOf g sd) p.map).updSeg g sd 0 (fun x => { x with
      txMap := if s.regMapOf g sd = p.map then [] else p.map })
    ((((s.updEng (outEngine sd) g newPeriod).updPart g sd (fun x => { x with tx := true })).settleSpares).changeCheck
      g).settlePower
  | none => s

/-- Arrival times of lane-ends. -/
def State.arrivals (s : State) (l : List Nat) : List Nat := l.map (fun i => (s.rxe i).arriveNs)

/-- Skew between the earliest and the latest of some lanes. -/
def State.skewNs (s : State) (l : List Nat) : Nat :=
  let a := s.arrivals l
  a.foldl max 0 - a.foldl min (a.headD 0)

/-- A lane-end is deskewed against the port's framing (R122, R174). Above 40 ns it stays erased, and where it carries a lane of the
port (`own`) it raises its lane-end fault. -/
def State.deskew (s : State) (g sd i : Nat) (own : Bool) : State :=
  let l := i :: (s.lockedEnds g sd).filter (fun j => decide (j ≠ i) && !(s.rxe j).sinceBad)
  if 40 < s.skewNs l then (s.updRx i (fun r => { r with sinceBad := true })).when own (fun t => t.leSet i 4)
  else (s.updRx i (fun r => { r with sinceBad := false })).put (DIR.skew (inEngine sd) g) (s.skewNs l)

/-- Lane-ends that a map brings into use on a segment's receivers are judged by their skew (R122, R174). -/
def State.skewTaken (s : State) (g sd : Nat) (m : List Nat) : State :=
  s.each (((mapLanes m).filterMap (fun n => codePos g (m.getD n 15))).filter (fun p => decide (34 * sd + p ∉ s.rxEnds g sd)))
    (fun p t => t.deskew g sd (34 * sd + p) true)

/-- The receivers on a segment show a map from here on. -/
def State.takeRx (s : State) (g sd : Nat) (m : List Nat) : State :=
  (s.skewTaken g sd m).updSeg g sd 0 (fun x => { x with
    rxMap := if s.regMapOf g sd = m then [] else m, agreed := [] })

/-- The receivers on a segment switch to the agreed map (R175); it counts as ACCEPT (R178). -/
def State.switchRx (s : State) (g sd : Nat) : State :=
  match s.partOf g sd with
  | some p =>
    (((s.takeRx g sd p.map).updPart g sd (fun x => { x with rx := true, acc := true })).changeCheck g).settlePower
  | none => s

/-- The last good marker of a lane-end shows it as a lane of a map, at the map's width (R175). -/
def State.namesIn (s : State) (g i : Nat) (m : List Nat) : Bool :=
  let w := (s.rxe i).info
  decide (codePos g (m.getD (infoLane w) 15) = some (i % 34) ∧ infoWidth w = widthCode (mapLanes m).length)

/-- The good markers on a segment show a map (R175). -/
def State.showsMap (s : State) (g sd : Nat) (m : List Nat) : Bool :=
  (mapLanes m).all (fun n => match codePos g (m.getD n 15) with
    | some p =>
      let i := 34 * sd + p
      s.on (LRX.markerLock i) && decide (infoLane (s.rxe i).info = n) && s.namesIn g i m
    | none => false)

/-- The receivers of a segment look for the agreed map (R175). During a move the new position's shadow copy
already names the lane, so an unanswered move counts as seen only once its old position shows it no longer
(DEDUCED, log entry 18). The agreed map of a change that has failed is still followed (R178). -/
def State.rxObserve (s : State) (g sd : Nat) : State :=
  let late := (s.seg g sd 0).agreed
  match (s.port g).change, s.partOf g sd with
  | some c, some p =>
    if !p.rx && s.showsMap g sd p.map && (p.acc || c.told || !s.showsMap g sd (s.rxMapOf g sd)) then s.switchRx g sd
    else s
  | _, _ => if !late.isEmpty && s.showsMap g sd late then (s.takeRx g sd late).settlePower else s

/-- A segment of a T-mode port has followed its markers to a map of another width (R179): the width change is complete once
the port's other segment has followed to that width. Where the Thepin has begun none, the change takes an identifier of
its own (DESIGN CHOICE, log entry 38). -/
def State.followWidth (s : State) (g sd w : Nat) (m : List Nat) : State :=
  let part (x : Nat) (map : List Nat) (done : Bool) : Part :=
    { side := x, map := map, src := 0, acc := done, tx := done, rx := done, sends := 0 }
  let other := (s.partOf g (1 - sd)).filter (fun p => decide (some w = (s.port g).change.map (fun c => c.width)) && p.rx)
  let id := match (s.port g).change with
    | some c => c.id
    | none => (s.port g).nextId
  let c : Change :=
    { kind := if s.widthOf g < w then .widen else .narrow, width := w, id := id, told := false,
      parts := [part sd m true, other.getD (part (1 - sd) [] false)] }
  let s := (s.noteFormer g sd (s.regMapOf g sd) m).updSeg g sd 0 (fun x => { x with txMap := m, rxMap := m })
  ((s.updPort g (fun r => { r with
    change := some c, nextId := if r.change.isSome then r.nextId else (id + 1) % 256 })).settleSpares).changeCheck g

/-- A move that the endpoints have made between themselves is complete, under an identifier of its own (R179, R189; DESIGN CHOICE, log
entry 38). -/
def State.noteMove (s : State) (g : Nat) : State :=
  let id := (s.port g).nextId
  ((s.updPort g (fun r => { r with nextId := (id + 1) % 256 })).put (GLB.chgId g) id).raise GLB.event 9

/-- In T mode the maps follow the LLANE of the markers that pass through (R179). -/
def State.followMarkers (s : State) (g sd : Nat) : State :=
  let ps := ((List.range 8).map (fun b => 8 * g + b) ++ [32, 33]).filter (fun p =>
    (decide (p < 32) || s.mapped g sd p) && s.on (LRX.markerLock (34 * sd + p)))
  match ps with
  | [] => s
  | p :: _ =>
    let w := widthLanes (infoWidth (s.rxe (34 * sd + p)).info)
    let at' (n : Nat) : List Nat := ps.filter (fun q =>
      decide (infoLane (s.rxe (34 * sd + q)).info = n ∧ infoWidth (s.rxe (34 * sd + q)).info = widthCode w))
    if (List.range w).all (fun n => decide ((at' n).length = 1)) then
      let m := (List.range 8).map (fun n => if n < w then posCode g ((at' n).headD 0) else 15)
      if m = s.rxMapOf g sd then s
      else if w = s.widthOf g then
        (((((s.noteFormer g sd (s.regMapOf g sd) m).setMap g sd m).updSeg g sd 0 (fun x => { x with
          txMap := [], rxMap := [] })).settleSpares).noteMove g)
      else s.followWidth g sd w m
    else s

/-- A spare fails while it carries the lane of maintenance: the activity ends with TRAIN_FAILED, and the lane goes
back to its position (R184, R186). -/
def State.spareFails (s : State) (g sd p : Nat) : State :=
  match s.maintJob g with
  | some j =>
    if j.side = sd ∧ j.spare = p then
      if j.task = .loopback then ((s.bring g busyMaint).bistCut vTrainFailed).giveLane g j
      else ((s.bring g busyMaint).endJob j stTrainFailed).giveLane g j
    else s
  | none => s

/-- An escalation of the lane that a position carries in UP (R358, R183, R179, R180). Where one is under way already, the position is
isolated with it once ERASED is not the only cause. -/
def State.escalateCarried (s : State) (g sd lane p : Nat) (soft : Bool) : State :=
  let erased := s.invalid (34 * sd + p)
  let j := { Job.blank .move sd lane with esc := true, erased := erased, soft := soft, home := p }
  let same (x : Job) : Bool := x.esc && decide (x.side = sd ∧ x.home = p)
  let harder (x : Job) : Job := if same x then { x with soft := x.soft && soft } else x
  if ((s.port g).jobs ++ (s.port g).retry).any same then
    (s.updPort g (fun r => { r with jobs := r.jobs.map harder, retry := r.retry.map harder })).jobsRun
  else
    let s := s.spareFails g sd p
    if erased && !s.moveRetrains g then (s.pushJob g { j with task := .narrow, mask := 2 ^ lane }).jobsRun
    else (s.pushJob g j).jobsRun

/-- A position chosen for a move fails (R183, R186): it is marked failed as a channel fault, and the choice is
made again. A SWAP for which none is left ends with TRAIN_FAILED. -/
def State.moveFailed (s : State) (g : Nat) (j : Job) : State :=
  let again : Job := { j with step := 0, spare := 0 }
  if !j.esc && (s.moveTarget g again).isNone then s.finishHead g stTrainFailed
  else s.updHead g (fun _ => again)

/-- The position that a task trains fails: a move chooses again, and so does a widen by itself (R183, R186). -/
def State.ltTaskFails (s : State) (g i : Nat) : State :=
  let hit (j : Job) : Bool := decide (j.task = .move ∧ j.step = 1 ∧ j.side = i / 34 ∧ j.spare = i % 34)
  match (s.port g).jobs.find? hit with
  | some j => (s.bring g hit).moveFailed g j
  | none => s

/-- A position that leaves use during its lane training, or in shadow copy, ends it (R186). -/
def State.ltAbandoned (s : State) (i : Nat) : State :=
  match s.lt i with
  | some t => ((s.endLt i).settleSpares).ltTaskFails t.g i
  | none => s

/-- A position is taken out of a mask of positions. -/
def clearBit (m p : Nat) : Nat := m &&& (2 ^ 34 - 1 - 2 ^ p)

/-- A lane-end escalation on a position (R358). A position that carries no lane of a segment in UP is marked
failed, and isolated unless ERASED is its only cause; a segment in WAIT or EQ no longer counts it (R105). -/
def State.escalateLane (s : State) (i : Nat) (soft : Bool) : State :=
  let sd := i / 34
  let p := i % 34
  match s.carried sd p with
  | some (g, n) =>
    if s.posState sd p = stUp then s.escalateCarried g sd n p soft
    else
      let st := s.posState sd p
      let s := (s.retire g sd p soft).when (decide (st = stWait ∨ st = stEq)) (fun t =>
        t.updSeg g sd (t.portOfLane g n) (fun x => { x with
          locked := clearBit x.locked p, ready := clearBit x.ready p, farReady := clearBit x.farReady p,
          inverted := clearBit x.inverted p }))
      s.settlePower
  | none => (((s.retire (if p < 32 then p / 8 else 0) sd p soft).maintFails sd p).ltAbandoned i).jobsRun

end Sys2Proof.Machine
end

