-- ==== Sys2Proof/Machine/Boot.lean ====
section
/-! DEFINITION. The management core: how it boots and chooses its image (R427, R428), and how the operations
that it carries out end when it stops (R281, R278, R422, R429). -/

namespace Sys2Proof.Machine

/-- Changes the core's own state. -/
def State.updCore (s : State) (f : Core → Core) : State := { s with core := f s.core }

/-- Firmware is ready, and the core is not halted by an entry to SLEEP, DEEP or OFF (R392, R411). -/
def State.coreReady (s : State) : Bool := decide (s.core.st = .ready) && s.running

/-- GLB_FWSTAT follows the flash (R432). -/
def State.noteFlash (s : State) : State :=
  ((s.put (GLB.slotValid 0) (bitsOf s.flash.valid 0 1)).put (GLB.slotValid 1) (bitsOf s.flash.valid 1 1)).put
    GLB.trial (boolNat s.flash.trial)

/-- The core begins to boot the image of a slot. -/
def State.bootSlot (s : State) (slot : Nat) (trial : Bool) : State :=
  ((s.updCore (fun c => { c with st := .booting, trialRun := trial })).put GLB.runSlot slot).put GLB.fwReady 0

/-- The boot control block names the other slot, and FW_FALLBACK is raised (R428). -/
def State.fallBackSlot (s : State) (clearTrial : Bool) : State :=
  ({ s with flash := s.flash.write (1 - s.flash.active) (s.flash.trial && !clearTrial) }).raise GLB.event 12

/-- A boot (R428): the active slot where its image is valid, else the other with FW_FALLBACK, else FW_BOOT
reports. In production test no firmware runs (R425). -/
def State.boot (s : State) : State :=
  if s.on GLB.testMode then (s.updCore (fun c => { c with st := .stopped })).put GLB.fwReady 0
  else if s.flash.valid.testBit s.flash.active then (s.bootSlot s.flash.active s.flash.trial).noteFlash
  else if s.flash.valid.testBit (1 - s.flash.active) then
    ((s.fallBackSlot false).bootSlot (1 - s.flash.active) false).noteFlash
  else (((s.updCore (fun c => { c with st := .stopped })).put GLB.fwReady 0).causeOn 163).noteFlash

/-- A trial image failed to start (R428): the other slot becomes active and the core boots again. -/
def State.trialFailed (s : State) : State :=
  if decide (s.core.st = .booting) && s.core.trialRun then (s.fallBackSlot true).boot else s

/-- The calibration requests that the core carries out end with a status. -/
def State.endCalReqs (s : State) (status : Nat) : State :=
  ({ s with calReqs := [] }).each s.calReqs (fun c t => t.opDone c.owner status c.skipped)

/-- Maintenance that the core carries out ends: in the safe state as under PREEMPTED, so that its lane goes
back (R281, R27); with a reset of the core its lane stays (R422). -/
def State.endMaintenance (s : State) (g status : Nat) : State :=
  if status = stSafeState then s.yieldWith g status else s.leaveWith g status

/-- FULL calibrations end: the one in progress, and queued ones (R231). -/
def State.endFull (s : State) (g status : Nat) : State :=
  let full (j : Job) : Bool := decide (j.task = Task.full)
  let s := match s.maintJob g with
    | some j => if full j then s.endMaintenance g status else s
    | none => s
  let queued := (s.port g).jobs.filter full
  (s.updPort g (fun r => { r with jobs := r.jobs.filter (fun j => !full j) })).each queued
    (fun j t => t.opDone j.owner status 0)

/-- A scan slice that is aborted leaves its engines reset and zero-initialised, not held (R389). -/
def State.scanAbort (s : State) : State :=
  match s.bistHead with
  | some r =>
    if s.scanRunning then
      let es := match r.slices[r.k]? with
        | some x => if x.kind = 3 then [x.sel / 128] else [0, 1]
        | none => []
      s.each es (fun e t => t.zeroEngine e)
    else s
  | none => s

/-- The running BIST list ends with a status; lists that wait end with it, unrun (R388). -/
def State.endBist (s : State) (status : Nat) : State :=
  let waiting := s.bist.drop 1
  let s := { s.scanAbort with bist := s.bist.take 1 }
  let s := s.each [0, 1, 2, 3] (fun g t =>
    let t := match t.maintJob g with
      | some j => if j.task = Task.loopback then t.endMaintenance g status else t
      | none => t
    t.updPort g (fun r => { r with jobs := r.jobs.filter (fun j => decide (j.task ≠ Task.loopback)) }))
  let s := if s.bist.isEmpty then s else s.bistAbort status
  s.each waiting (fun r t => t.opDone r.owner status 0)

/-- Operations of OP frames that wait for firmware are refused once the unit is in the safe state (R281); they
outlast every other stop of the core. -/
def State.refuseWaiting (s : State) (status : Nat) : State :=
  if status = stSafeState then
    (s.updCore (fun c => { c with waiting := [] })).each s.core.waiting (fun w t => t.opDone (.orbit w.1) status 0)
  else s

/-- Every operation that the core carries out ends with a status, as under PREEMPTED (R281, R422). -/
def State.endCoreOps (s : State) (status : Nat) : State :=
  let s := s.refuseWaiting status
  let s := (s.endCalReqs status).each [0, 1, 2, 3] (fun g t => t.endFull g status)
  let s := s.endBist status
  let loads := s.core.loads
  (((s.updCore (fun c => { c with loads := [] })).each loads (fun l t => t.opDone l.owner status 0)).jobsRun).settlePower

/-- The core's SRAM is lost (R426): no firmware runs, and a configuration record in progress is cut short (R431, R432). -/
def State.coreLost (s : State) : State :=
  ((s.when (!s.core.record.isEmpty) (fun t => t.put GLB.cfgrec 3)).updCore
    (fun c => { c with st := .stopped, record := [], trialRun := false })).put GLB.fwReady 0

/-- The core stops: it boots again only through `boot`. -/
def State.coreHalt (s : State) (status : Nat) : State := (s.endCoreOps status).coreLost

/-- The core is reset and boots (R421). -/
def State.coreReset (s : State) (status : Nat) : State :=
  ((s.coreHalt status).updCore (fun c => { c with cold := false })).boot

/-- An FW_LOAD that has ended leaves the list of its core; its status goes to its owner. -/
def State.loadEnds (s : State) (status result : Nat) : State :=
  match s.core.loads with
  | l :: rest => (s.updCore (fun c => { c with loads := rest })).opDone l.owner status result
  | [] => s

/-- An ACTIVATE begins (R429): the block names the other slot on trial, every other core operation in flight ends
PREEMPTED, and the core restarts under R428. -/
def State.activateStart (s : State) (l : FwLoad) : State :=
  let slot := 1 - s.flash.active
  let others := s.core.loads.drop 1
  let s := (s.updCore (fun c => { c with loads := [] })).each others (fun x t => t.opDone x.owner stPreempted 0)
  let s := { s with flash := s.flash.write slot true }
  (s.coreReset stPreempted).updCore (fun c => { c with loads := [{ l with target := slot }] })

/-- A WRITE begins: the slot that is not active is erased (R429). -/
def State.writeStart (s : State) : State :=
  ({ s with flash := { s.flash with valid := s.flash.valid &&& (3 - 2 ^ (1 - s.flash.active)) } }).noteFlash

/-- The FW_LOAD at the head of the core's list begins; one refused ends at once, and the next begins (R429). -/
def State.loadRun : Nat → State → State
  | 0, s => s
  | n + 1, s =>
    match s.core.loads with
    | [] => s
    | l :: _ =>
      if l.activate then
        (if s.flash.valid.testBit (1 - s.flash.active) then s.activateStart l
        else State.loadRun n (s.loadEnds stPrecondition 0))
      else if s.flash.trial then State.loadRun n (s.loadEnds stPrecondition 0)
      else s.writeStart

end Sys2Proof.Machine
end

