-- ==== Sys2Proof/Machine/Descriptors.lean ====
section
/-! DEFINITION. Descriptors (R262 to R265): their fields, their checks, and how a ring's descriptors are
dispatched, started and completed (R256 to R261, R272 to R279, R286 to R291). -/

namespace Sys2Proof.Machine

/-- Bytes [b + n − 1 : b] of a descriptor, least significant first. -/
def dField (d : Desc) (b n : Nat) : Nat := bitsOf d.toNat (8 * b) (8 * n)

def dType (d : Desc) : Nat := dField d 0 1
def dAcq (d : Desc) : Bool := bitOf (dField d 1 1) 0
def dRel (d : Desc) : Bool := bitOf (dField d 1 1) 1
def dQuiet (d : Desc) : Bool := bitOf (dField d 1 1) 2
def dTarget (d : Desc) : Nat := dField d 2 1
def dUser (d : Desc) : Nat := dField d 4 4
def dPhase (d : Desc) : Nat := bitsOf d.toNat 511 1
def dAddr (d : Desc) : Nat := dField d 8 3

/-- A register type (R263). -/
def isRegType (t : Nat) : Bool := decide (1 ≤ t ∧ t ≤ 5)

/-- A privileged type (R263). -/
def isPrivType (t : Nat) : Bool := decide (t = 0x0B ∨ 0x0D ≤ t ∧ t ≤ 0x10)

/-- A type that the management core carries out (R263). -/
def isCoreType (t : Nat) : Bool := decide (t = 0x0A ∨ t = 0x0B ∨ t = 0x0F)

/-- The address that the body names: BULK_WRITE holds it behind its data (R264). -/
def dRegAddr (d : Desc) : Nat := if dType d = 4 then dField d 56 3 else dAddr d

/-- The number of registers that a register type moves. -/
def dCount (d : Desc) : Nat :=
  match dType d with
  | 1 => dField d 11 1
  | 4 => dField d 59 1
  | 5 => dField d 12 2
  | _ => 1

/-- A BIST slice word (R375). -/
def sliceOf (w : Nat) : BistSlice := { kind := bitsOf w 0 8, sel := bitsOf w 8 8, budget := bitsOf w 24 8 }

/-- KIND and SEL lie within their ranges (R375). -/
def sliceOk (x : BistSlice) : Bool :=
  match x.kind with
  | 1 => decide (x.sel % 64 < 34) && !bitOf x.sel 6
  | 2 => decide (x.sel % 128 ≤ 8)
  | 3 => decide (x.sel % 128 = 0)
  | 4 => decide (x.sel = 0)
  | _ => false

/-- The slices of a BIST_RUN. -/
def dSlices (d : Desc) : List BistSlice :=
  (List.range (dField d 16 1)).map (fun k => sliceOf (dField d (24 + 4 * k) 4))

/-- TARGET lies within the range of its type (R263). -/
def targetOk (t target : Nat) : Bool :=
  match t with
  | 0x00 => true
  | 0x11 => true
  | 0x06 => decide (target = 0xFF)
  | 0x07 => decide (target = 0xFF)
  | 0x0D => true
  | _ => decide (target ≠ 0xFF)

/-- Bytes of a section of the snapshot layout (R345): its length, or none outside the ranges of CLASS and INDEX. -/
def sectionLen (cls index : Nat) : Option Nat :=
  match cls with
  | 0 => if index < 68 then some 0xA0 else none
  | 1 => if index < 68 then some 0x20 else none
  | 2 => if index < 2 then some 0x800 else none
  | 3 => if index = 0 then some 0x400 else none
  | _ => none

/-- SELECT is within the layout (R345). -/
def selectOk (sel : Nat) : Bool :=
  match sectionLen (bitsOf sel 0 8) (bitsOf sel 8 8) with
  | some n => [2, 3, 4].all (fun k => decide (bitsOf sel (8 * k) 8 = 0xFF ∨ 8 * bitsOf sel (8 * k) 8 < n))
  | none => false

/-- Every field lies within the range that R264, R345 and R375 give it (R265); PORT and LANE of a CAL_REQ, and LENGTH of an FW_LOAD,
where the operation uses them. -/
def fieldsOk (d : Desc) : Bool :=
  let al (a : Nat) : Bool := decide (a % 4 = 0)
  match dType d with
  | 0x01 => al (dAddr d) && decide (dField d 11 1 = 1 ∨ dField d 11 1 = 2)
  | 0x02 => al (dAddr d)
  | 0x03 => al (dAddr d)
  | 0x04 => al (dField d 56 3) && decide (1 ≤ dField d 59 1 ∧ dField d 59 1 ≤ 12)
  | 0x05 => al (dAddr d) && decide (1 ≤ dField d 12 2 ∧ dField d 12 2 ≤ 1024 ∧ dField d 16 8 % 8 = 0)
  | 0x06 => al (dAddr d) && decide (dField d 11 1 ≤ 1)
  | 0x07 => decide (dField d 8 4 ≠ 0)
  | 0x08 => decide (dField d 8 1 ≤ 15 ∧ dField d 9 1 ≤ 63 ∧ 1 ≤ dField d 12 4 ∧ dField d 12 4 ≤ 60000)
      && selectOk (dField d 16 8)
  | 0x09 => decide (dField d 8 1 ≤ 15)
  | 0x0A => decide (dField d 8 1 ≤ 2 ∧ dField d 9 1 ≤ 1 ∧
      (dField d 8 1 = 2 → dField d 10 1 ≤ 3 ∧ dField d 11 1 ≤ 7))
  | 0x0B => decide (dField d 8 8 % 8 = 0 ∧ 1 ≤ dField d 16 1 ∧ dField d 16 1 ≤ 8) && (dSlices d).all sliceOk
  | 0x0C => decide (dField d 8 1 ≤ 2 ∧ dField d 9 1 ≤ 1 ∧ dField d 10 1 ≤ 3 ∧ dField d 11 1 ≤ 7
      ∧ dField d 12 1 ≤ 2)
  | 0x0D => decide (dField d 8 1 ≤ 3 ∧ dField d 9 1 ≤ 15)
  | 0x0E => decide (dField d 8 1 ≤ 3 ∧ dField d 9 1 ≤ 1 ∧ dField d 10 1 ≤ 1)
  | 0x0F => decide (dField d 8 1 = 1 ∨ (dField d 8 1 = 0 ∧ 1 ≤ dField d 12 4 ∧ dField d 12 4 ≤ 524288))
  | 0x10 => decide (dField d 8 1 ≤ 2 ∧ dField d 10 2 ≤ 183)
  | _ => true

/-- Every register that a register type names lies in the FLT block. -/
def inFlt (d : Desc) : Bool :=
  decide (dRegAddr d / 0x10000 = 1 ∧ (dRegAddr d + 4 * (dCount d - 1)) / 0x10000 = 1)

/-- A unit in the safe state refuses the descriptor (R281). -/
def safeRefuses (d : Desc) : Bool :=
  let t := dType d
  if t = 0x00 ∨ t = 0x11 ∨ t = 0x0D ∨ t = 0x07 ∨ t = 0x10 ∨ t = 0x0E then false
  else if isRegType t then !inFlt d
  else true

/-- A unit holds a worker address (R265): its entry reads PRESENT, and no second manager has been seen
(R319). -/
def State.unitHeld (s : State) (a : Nat) : Bool := decide (s.get (ORB.mapState a) = 1) && !s.on ORB.conflict

/-- The checks of R265 in their order; none when the descriptor passes. -/
def State.descCheck (s : State) (q : Nat) (d : Desc) : Option Nat :=
  let t := dType d
  let noTarget := decide (t = 0x00 ∨ t = 0x11)
  if 0x12 ≤ t then some stBadDesc
  else if isPrivType t && decide (4 ≤ q) then some stPrivViolation
  else if !targetOk t (dTarget d) || !fieldsOk d then some stBadDesc
  else if !noTarget && decide (1 ≤ dTarget d ∧ dTarget d ≤ 254) && !s.unitHeld (dTarget d) then some stNoUnit
  else if !noTarget && decide (dTarget d = 0) && s.safe && safeRefuses d then some stSafeState
  else none

/-- Bit k of DONEMAP and CDONE move on past complete descriptors (R279). -/
def advanceDone : Nat → Nat → Nat → Nat × Nat
  | 0, c, m => (c, m)
  | n + 1, c, m => if bitOf m 0 then advanceDone n ((c + 1) % 65536) (m / 2) else (c, m)

/-- Descriptor idx of ring q is complete (R279). -/
def State.markDone (s : State) (q idx : Nat) : State :=
  let c := s.get (RNG.cdone q)
  let m := putBits (s.reg (RNG.donemap q)).toNat (sub16 idx c % 32) 1 1
  let (c', m') := advanceDone 32 c m
  (s.put (RNG.cdone q) c').setReg (RNG.donemap q) (BitVec.ofNat 32 m')

/-- RNG_STATq.INFLIGHT follows the ring's flights. -/
def State.noteFlights (s : State) (q : Nat) : State := s.put (RNG.inflight q) (s.ring q).flights.length

/-- The rows of R277 that wait for the last descriptor in flight. Each ends with a write to host memory, so the ring
stays as it is until the function can issue it, and a HALT entry waits for room besides (R255; DEDUCED, log entry
42). -/
def State.ringSettle (s : State) (q : Nat) : State :=
  if (s.ring q).flights.isEmpty && s.hostUp then
    if s.get (RNG.state q) = 3 then
      (if s.cqRoom q = 0 then s
      else ((s.put (RNG.state q) 4).cqEntry q (s.get (RNG.haltCause q) + 2 ^ 32 * s.get (RNG.cons q)) 5 q).cqSignal
        q true)
    else if s.get (RNG.state q) = 2 then (((s.put (RNG.state q) 0).put (RNG.en q) 0).writeShadow q)
    else s
  else s

/-- Fetch stops, and the ring drains (R277). -/
def State.ringDrain (s : State) (q : Nat) : State :=
  if s.get (RNG.state q) = 1 then (s.put (RNG.state q) 2).ringSettle q else s

/-- A halt (R261, R248). -/
def State.ringHalt (s : State) (q cause : Nat) : State :=
  if s.get (RNG.state q) = 1 then ((s.put (RNG.state q) 3).put (RNG.haltCause q) cause).ringSettle q else s

/-- Descriptors of the ring that were dispatched before a flight and are not complete. -/
def State.earlier (s : State) (q : Nat) (f : Flight) : List Flight :=
  (s.ring q).flights.filter (fun x => decide (x.order < f.order))

/-- Some descriptor of any ring that was dispatched before a flight is not complete. -/
def State.anyEarlier (s : State) (f : Flight) : Bool :=
  s.rings.any (fun r => r.2.flights.any (fun x => decide (x.order < f.order)))

/-- A REL descriptor may go out pipelined behind an earlier one (R289): both are register types to one unit, the
earlier has been sent, and the path to the unit is unchanged since. -/
def State.relPipelined (s : State) (f x : Flight) : Bool :=
  decide (x.stage ≠ Stage.held) && isRegType (dType x.desc) && isRegType (dType f.desc)
    && decide (dTarget x.desc = dTarget f.desc ∧ x.gen = s.orbit.gen)

/-- A REL descriptor may go out (R289): pipelined behind every earlier descriptor of its ring that is not complete, or
held until each of them has taken effect. -/
def State.relPasses (s : State) (f : Flight) (l : List Flight) : Bool :=
  l.all (fun x => s.relPipelined f x) || l.all (fun x => decide (x.stage = Stage.answered))

/-- A descriptor in flight may start (R288 to R291): ACQ waits for completion, REL for the effects of
the earlier descriptors of its ring, FENCE for every earlier descriptor, a core descriptor for the firmware of this unit,
and an image for a link that can carry its read. -/
def State.mayStart (s : State) (q : Nat) (f : Flight) : Bool :=
  decide (f.stage = Stage.held) && (!dAcq f.desc || (s.earlier q f).isEmpty)
    && (!dRel f.desc || s.relPasses f (s.earlier q f))
    && (!decide (dType f.desc = 0x11) || !s.anyEarlier f)
    && (!decide (dType f.desc = 0x0F ∧ dField f.desc 8 1 = 0) || s.hostUp)
    && (!(isCoreType (dType f.desc) && decide (dTarget f.desc = 0)) || s.coreReady || s.safe)

/-- The entry that a descriptor will get, if it gets one that the link can carry now, has an index within the size of the CQ
above CQ_HEAD (R255), which the host may have moved back since the entry was reserved. -/
def State.entryFits (s : State) (q : Nat) (f : Flight) : Bool :=
  (dQuiet f.desc && decide (f.status = stOk)) || !s.hostUp
    || decide (sub16 (s.get (RNG.cqTail q)) (s.ring q).cqHead < s.cqSize q)

/-- The marks and the room let the entry of an answered descriptor be written (R255, R273, R285, R291). A descriptor 32 or
more above CDONE waits, since DONEMAP has no bit for it (R279; DEDUCED, log entry 42). -/
def State.marksLet (s : State) (q : Nat) (f : Flight) : Bool :=
  decide (f.stage = Stage.answered)
    && (!(dAcq f.desc || dRel f.desc || s.on (RNG.inorder q)) || (s.earlier q f).isEmpty)
    && (!decide (dType f.desc = 0x11) || !s.anyEarlier f) && decide (sub16 f.idx (s.get (RNG.cdone q)) < 32)
    && s.entryFits q f

/-- The entry of a descriptor may be written (R273): the marks let it, and no descriptor answered before it waits for
nothing else. -/
def State.mayComplete (s : State) (q : Nat) (f : Flight) : Bool :=
  s.marksLet q f && !s.rings.any (fun r => r.2.flights.any (fun x => decide (x.stamp < f.stamp) && s.marksLet r.1 x))

/-- The entry of a descriptor is written, or recorded only where the link cannot carry it or the CQ has no room for it (R255),
and the descriptor is complete (R272, R273, R279). -/
def State.finishFlight (s : State) (q : Nat) (f : Flight) : State :=
  let t := s.updRing q (fun r => { r with flights := r.flights.filter (fun x => decide (x.idx ≠ f.idx)) })
  let t := (t.markDone q f.idx).noteFlights q
  let t := if dType f.desc = 0x11 then { t with fenceHeld := false } else t
  let t := if (dQuiet f.desc && decide (f.status = stOk)) || !s.hostUp || !s.entryFits q f then t
    else (t.cqEntry q (dUser f.desc + 2 ^ 32 * f.idx + 2 ^ 48 * f.status + 2 ^ 56 * f.src + 2 ^ 64 * f.result) 1 q).cqSignal
      q false
  (t.writeShadow q).ringSettle q

/-- DESCRIPTOR_COMPLETE's effect: while the link cannot carry an entry and no reset is in progress, the entry
waits. -/
def State.descriptorComplete (s : State) (q idx : Nat) : State :=
  match s.flight q idx with
  | some f => if s.mayComplete q f && (s.hostUp || s.ringReset) then s.finishFlight q f else s
  | none => s

/-- The descriptor is owned by the engine (R256). -/
def State.owned (s : State) (q : Nat) (d : Desc) (i : Nat) : Bool :=
  decide (dPhase d ≠ bitsOf i (s.get (RNG.sqLog2 q)) 1)

/-- A descriptor leaves the fetch stage (R257, R265). One that fails a check is answered at once. -/
def State.dispatch (s : State) (q idx : Nat) (d : Desc) : State :=
  let f : Flight :=
    match s.descCheck q d with
    | some st => { idx := idx, desc := d, order := s.dispatched, stage := .answered, status := st, result := 0,
                   src := 0, gen := s.orbit.gen, stamp := s.nextStamp }
    | none => { idx := idx, desc := d, order := s.dispatched, stage := .held, status := 0, result := 0, src := 0,
                gen := 0, stamp := 0 }
  let s := { s with
    dispatched := s.dispatched + 1,
    fenceHeld := s.fenceHeld || (decide (dType d = 0x11) && decide (f.stage = Stage.held)) }
  ((s.updRing q (fun r => { r with flights := r.flights ++ [f] })).noteFlights q).put (RNG.cons q) (idx + 1)

/-- A dispatch is held up by a limit that clears without a doorbell (R260, R291). -/
def State.fetchLimited (s : State) (q : Nat) : Bool :=
  decide (32 ≤ (s.ring q).flights.length) || decide (s.cqRoom q = 0) || s.fenceHeld

/-- The speculative copy of an index. -/
def State.copyOf (s : State) (q i : Nat) : Option Desc :=
  ((s.ring q).copies.find? (fun c => decide (c.1 = i))).map (fun c => c.2)

/-- Host address of the slot of index i (R252). -/
def State.slotAddr (s : State) (q i : Nat) : Nat :=
  s.addr64 (RNG.sqBase q 0) (RNG.sqBase q 1) + 64 * (i % 2 ^ s.get (RNG.sqLog2 q))

/-- The descriptor of index SQ_CONS (R257): an owned speculative copy, or what one read request returns. -/
def State.nextDesc (s : State) (q : Nat) (l : List Desc) : State × Desc :=
  let c := s.get (RNG.cons q)
  match (s.copyOf q c).filter (fun x => s.owned q x c) with
  | some x => (s, x)
  | none => (s.hostRead (s.slotAddr q c) 64, l.headD 0)

/-- Dispatches owned descriptors until a limit, the producer index or one that is not owned (R257, R259). `l` holds the
slots from SQ_CONS on. -/
def State.fetchLoop : Nat → State → Nat → Nat → List Desc → State × List Desc
  | 0, s, _, _, l => (s, l)
  | n + 1, s, q, prod, l =>
    let c := s.get (RNG.cons q)
    if c = prod ∨ s.fetchLimited q = true then (s, l)
    else
      let r := s.nextDesc q l
      if r.1.owned q r.2 c then State.fetchLoop n (r.1.dispatch q c r.2) q prod (l.drop 1) else (r.1, l)

/-- A privileged ring reads up to 8 slots beyond what it has consumed, but for those of which it holds an owned copy
(R257, R258). -/
def State.speculate (s : State) (q : Nat) (l : List Desc) : State :=
  let c := s.get (RNG.cons q)
  let at' (k : Nat) : Nat := (c + k) % 65536
  let kept (k : Nat) : Option Desc := (s.copyOf q (at' k)).filter (fun x => s.owned q x (at' k))
  let t := s.each ((List.range 8).filter (fun k => (kept k).isNone)) (fun k u => u.hostRead (u.slotAddr q (at' k)) 64)
  t.updRing q (fun r => { r with copies := (List.range 8).map (fun k => (at' k, (kept k).getD ((l[k]?).getD 0))) })

/-- The engine may fetch: no reset of it is in progress, and the function can read host memory. -/
def State.fetchUp (s : State) : Bool := s.fileUp && s.manager && s.hostUp && !s.ringReset

/-- The engine reads bytes 0 to 15 of index slot q with one request (R253). -/
def State.readIndex (s : State) (q : Nat) : State :=
  s.hostRead (s.addr64 (RNG.idxPage 0) (RNG.idxPage 1) + 64 * q) 16

/-- A CQ_HEAD beyond the entries written is no index of the ring (R261). -/
def State.headBad (s : State) (q cqHead : Nat) : Bool :=
  decide (s.cqSize q < sub16 (s.get (RNG.cqTail q)) cqHead)

/-- Bytes 0 to 15 of index slot q as the engine reads them (R253, R298). -/
def State.seenIndex (s : State) (q : Nat) (v : BitVec 128) : BitVec 128 :=
  if s.pathWrites.isEmpty then v
  else BitVec.ofNat 128 (ofBytes (s.seenBytes (s.addr64 (RNG.idxPage 0) (RNG.idxPage 1) + 64 * q) (bytesOf 16 v.toNat)))

/-- What one fetch reads from host memory, with the writes of the unit that are not yet visible there (R298). -/
def State.seenImg (s : State) (q : Nat) (m : HostImg) : HostImg :=
  if s.pathWrites.isEmpty then m
  else { index := s.seenIndex q m.index,
         slots := (List.range 41).map (fun k => BitVec.ofNat 512 (ofBytes (s.seenBytes
           (s.slotAddr q (s.get (RNG.cons q) + k)) (bytesOf 64 (m.slots.getD k 0).toNat)))) }

/-- The engine takes a CQ_HEAD that it has read; one that halts the ring is not taken, so that the HALT entry keeps to the
room that the last good one leaves (R255, R261; DEDUCED, log entry 42). -/
def State.takeHead (s : State) (q cqHead : Nat) : State :=
  if s.headBad q cqHead then s
  else (s.updRing q (fun r => { r with cqHead := cqHead })).vectorServed (s.get (RNG.vector q))

/-- A fetch that reads `img` (R257, R260, R261). Where the function cannot read host memory, the read that the doorbell owes is left
to a recheck (R241). -/
def State.fetchImg (s : State) (q : Nat) (img : HostImg) : State :=
  if s.get (RNG.state q) = 1 ∧ s.fetchUp = true then
    let s := ((s.readIndex q).takeHead q img.cqHead.toNat).updRing q (fun r => { r with stalled := false })
    if 2 ^ s.get (RNG.sqLog2 q) < sub16 img.prod.toNat (s.get (RNG.cons q)) then s.ringHalt q 1
    else if s.headBad q img.cqHead.toNat then s.ringHalt q 3
    else
      let (s, l) := s.fetchLoop 33 q img.prod.toNat img.slots
      let s := s.updRing q (fun r => { r with
        copies := r.copies.filter (fun x => decide (sub16 x.1 (s.get (RNG.cons q)) < 8)),
        stalled := decide (s.get (RNG.cons q) ≠ img.prod.toNat) && s.fetchLimited q })
      let s := if q < 4 ∧ s.get (RNG.cons q) = img.prod.toNat then s.speculate q l else s
      s.writeShadow q
  else if s.get (RNG.state q) = 1 ∧ s.ringReset = false then s.updRing q (fun r => { r with stalled := true })
  else s

/-- A fetch after a doorbell or a recheck, where host memory holds `img` (R257, R298). -/
def State.fetch (s : State) (q : Nat) (img : HostImg) : State := s.fetchImg q (s.seenImg q img)

/-- The engine reads CQ_HEAD again while the CQ has no room (R260, R261): entries and a HALT entry that wait for it can go out. -/
def State.headPollAt (s : State) (q cqHead : Nat) : State :=
  if 1 ≤ s.get (RNG.state q) ∧ s.get (RNG.state q) ≤ 3 ∧ s.fetchUp = true then
    let s := (s.readIndex q).takeHead q cqHead
    if s.headBad q cqHead then s.ringHalt q 3 else s.ringSettle q
  else s

/-- CQ_HEAD as the engine reads it, where host memory holds `v` (R298). -/
def State.seenHead (s : State) (q : Nat) (v : BitVec 16) : Nat :=
  ((s.seenIndex q (v.zeroExtend 128 <<< 64)).extractLsb' 64 16).toNat

def State.headPoll (s : State) (q : Nat) (v : BitVec 16) : State := s.headPollAt q (s.seenHead q v)

/-- The function can issue writes again: those that wait go out, and the rings go on (R266, R277). -/
def State.hostBack (s : State) : State :=
  if s.hostUp then
    let t := s.each s.pcie.posted (fun w u => u.emit (.hostWrite w.1 w.2))
    ({ t with pcie := { t.pcie with posted := [] } }.each (List.range 64) (fun q u => (u.shadowBack q).ringSettle q)).msixUnmask
  else s

end Sys2Proof.Machine
end

