-- ==== Sys2Proof/Machine/Line.lean ====
section
/-! DEFINITION. The line stream that an engine sends in G and F mode (R116 to R118, R125, R126): codeword pairs of five
flits, their distribution over the lanes, and alignment markers. `e` is 0 for engine AB, 1 for BA. -/

namespace Sys2Proof.Machine

/-- The lanes that an engine sends a CFL port on, each with its transmitter lane-end. -/
def State.ownLanes (s : State) (e g : Nat) : List (Nat × Nat) :=
  let sd := 1 - e
  (s.lanes g sd 0).filterMap (fun n => (s.lanePos g sd n).map (fun p => (n, 34 * sd + p)))

/-- The lanes whose shadow copies it sends beside them, each with the transmitter lane-end that the copy runs on, until that carries
the lane itself (R174). -/
def State.shadowLanes (s : State) (e g : Nat) : List (Nat × Nat) :=
  (s.ltEnds g (1 - e)).filterMap (fun i => match s.lt i with
    | some t => if t.stage = .shadow ∧ (s.ownLanes e g).all (fun x => decide (x.2 ≠ i)) = true then some (t.lane, i) else none
    | none => none)

/-- Every lane-end that it sends on, with the logical lane that it names. -/
def State.txLanes (s : State) (e g : Nat) : List (Nat × Nat) := s.ownLanes e g ++ s.shadowLanes e g

/-- The width at which they send: the least one of R172 that takes in every lane. -/
def State.txWidth (s : State) (e g : Nat) : Nat := 2 * (((s.ownLanes e g).map (fun x => x.1)).foldl max 0 / 2 + 1)

/-- The info word of an outgoing marker (R118). -/
def infoWord (lane g w period : Nat) : Nat := lane + 2 ^ 3 * g + 2 ^ 5 * widthCode w + 2 ^ 7 * period

/-- Every lane begins a marker period with its marker (R118). -/
def State.sendMarkers (s : State) (e g : Nat) : State :=
  s.each (s.txLanes e g) (fun x t =>
    t.sendLine x.2 (markerLevels (infoWord x.1 g (s.txWidth e g) (s.eng e g).txPeriod)))

/-- A codeword with fresh parity: symbol i of the period's continuous sequence goes to lane i mod w (R116). A shadow
copy of a lane that the width does not take in has markers and no symbols (R174; DESIGN CHOICE, log entry 38). -/
def State.sendCodeword (s : State) (e g index msg : Nat) : State :=
  let w := s.txWidth e g
  let cw := rsCodeword msg
  s.each (s.txLanes e g) (fun x t => t.sendLine x.2
    (((List.range 544).filter (fun n => decide ((544 * index + n) % w = x.1))).flatMap (fun n => pam4 5 (cw.getD n 0))))

/-- Five flits fill a codeword pair; the engine's own CW_INDEX and PERIOD go on (R117, R119, R125). -/
def State.sendPair (s : State) (e g : Nat) (l : List Flit) : State :=
  let x := s.eng e g
  let s := if x.txIndex = 0 then s.sendMarkers e g else s
  let m := pairMessages x.txIndex l
  let last := decide (512 * s.txWidth e g ≤ x.txIndex + 2)
  ((s.sendCodeword e g x.txIndex m.1).sendCodeword e g (x.txIndex + 1) m.2).updEng e g (fun y => { y with
    pack := [], txIndex := if last then 0 else y.txIndex + 2,
    txPeriod := if last then (y.txPeriod + 1) % 4096 else y.txPeriod })

/-- A flit leaves on the outgoing segment. -/
def State.flitOut (s : State) (e g : Nat) (f : Flit) : State :=
  let s := s.emit (.flit (engOf e) (portOf g) f)
  let l := (s.eng e g).pack ++ [f]
  if l.length < 5 then s.updEng e g (fun x => { x with pack := l }) else s.sendPair e g l

/-- SLACK flits fill the outgoing pair as far as the incoming one has been received, so that in G mode each codeword pair received
from here on leaves as one pair with the same message symbols (R122, R125). -/
def State.fillPair (s : State) (e g : Nat) : State :=
  s.each (List.range ((10 - (s.eng e g).pack.length - (s.eng e g).flitOk.length % 5) % 5))
    (fun _ t => (t.flitOut e g slackFlit).count (DIR.slackIns e g))

/-- One engine's part of a fallback: the abandon with reason FALLBACK, and its ABANDON flit as the last flit
sent in F mode (R164). -/
def State.fallbackEngine (s : State) (e g : Nat) : State :=
  let f := s.oldestHeld e g
  let s := s.abandonAt e g f 7
  s.flitOut e g (s.ownFlit e g 7 (abandonWord f 7 0))

/-- Segment retry of an engine's port is over after its fallback. -/
def State.fallbackEnds (s : State) (e g : Nat) : State :=
  (((s.updEng e g (fun x => { x.unretried with mapq := x.mapq })).noteRetry e g).put (DIR.deferLeft e g) 0).drainCheck e g

/-- A port group falls back from F to G (R360). Each ABANDON flit carries the other engine's acknowledgement (R150). From here on
each codeword received leaves as one codeword (R125). -/
def State.fallbackPort (s : State) (g : Nat) : State :=
  let s := if s.bothUp g then (((((s.fallbackEngine 0 g).fallbackEngine 1 g).fallbackEnds 0 g).fallbackEnds 1 g).fillPair
    0 g).fillPair 1 g else s
  let s := s.put (FLT.fallback g) 1
  let s := (s.raise (DIR.event 0) 19).raise (DIR.event 1) 19
  if s.on PRT.qactive then (s.raise (DIR.event 0) 12).raise (DIR.event 1) 12 else s

/-- The message of an uncorrectable Ethernet codeword as it leaves: every 257-bit block marked as errored (R126). -/
def markedMessage (msg : BitVec 5140) : Nat :=
  (List.range 20).foldl (fun a n =>
    a + 2 ^ (257 * n) * (Config.markErrored (BitVec.ofNat 257 (bitsOf msg.toNat (257 * n) 257))).toNat) 0

/-- A codeword of an Ethernet port in G mode leaves with fresh parity, unless fault fill replaces it (R102, R125, R126), over the
port's lanes with the precoding agreed for each (R91). Before its segment is in UP nothing of the stream leaves: of a NOTRAIN
segment in WAIT R100 says only that it sends data, not what (DESIGN CHOICE, log entry 38). The alignment markers of IEEE 802.3
are blocks of the message, which leave as they came (PRESUMED, log entry 7). -/
def State.ethOut (s : State) (e g : Nat) (k : LaneN) (msg : BitVec 5140) (ok : Bool) : State :=
  if s.segState g (1 - e) k = 6 ∧ (s.seg g (1 - e) k).fill = false then
    let cw := rsCodeword (if ok then msg.toNat else markedMessage msg)
    (s.sendOver g (1 - e) k cw).emit (.codeword (engOf e) (portOf g) k cw)
  else s

end Sys2Proof.Machine
end

