-- ==== Sys2Proof/Machine/Faults.lean ====
section
/-! DEFINITION. The fault collector (15_fault_collection.md): onsets, grace, escalations, the safe state, clears,
records, FAULT_N and collector self-faults. -/

namespace Sys2Proof.Machine

/-- The cause of a source is present: its own, or a wiring fault of its pair (R353, R354). -/
def State.present (s : State) (n : Nat) : Bool := s.causes.testBit n || s.flt.wiring.testBit n

/-- ERASED is the only present cause of a lane-end source (R356). -/
def State.erasedOnly (s : State) (n : Nat) : Bool := decide (n < 136) && decide (s.reg (FLT.lecause n) = 8)

/-- INFO of a history entry (R366). -/
def State.faultInfo (s : State) (n sev : Nat) : Nat := sev + 8 * boolNat (s.erasedOnly n)

/-- Writes an entry to the history (R366). -/
def State.faultHist (s : State) (src kind info : Nat) : State :=
  let k := (s.reg FLT.histSeq).toNat % 16
  ((((s.setReg (FLT.hist k 0) (BitVec.ofNat 32 (src % 2 ^ 16 + 2 ^ 16 * kind + 2 ^ 24 * info))).setReg
    (FLT.hist k 1) (s.reg ECL.epoch)).setReg (FLT.hist k 2) (s.reg ECL.time)).setReg (FLT.hist k 3)
      (s.reg (ECL.time + 4))).setReg FLT.histSeq (s.reg FLT.histSeq + 1)

/-- A source takes the first-fault record (R366). -/
def State.fillFirst (s : State) (n sev : Nat) (wire : Bool) : State :=
  let le := if n < 136 then (s.reg (FLT.lecause n)).toNat % 128 else 0
  (((s.setReg FLT.first (BitVec.ofNat 32
      (n + 2 ^ 8 * sev + 2 ^ 11 * le + 2 ^ 18 * boolNat wire + 2 ^ 31))).setReg FLT.firstEpoch
    (s.reg ECL.epoch)).setReg FLT.firstTime (s.reg ECL.time)).setReg (FLT.firstTime + 4) (s.reg (ECL.time + 4))

/-- An onset takes the record, or sets its overflow bit (R366). -/
def State.noteFirst (s : State) (n sev : Nat) (wire : Bool) : State :=
  if s.on FLT.fValid then s.put FLT.fOvf 1 else s.fillFirst n sev wire

/-- The unit drives FAULT_N low (R367). -/
def State.faultLow (s : State) : Bool := s.on FLT.pulseBusy || s.on FLT.hold || s.safe

/-- The pin follows; FAULTN_READBACK ends when the unit no longer drives it. PIN_IN reads the level that this
unit drives, and 1 where the readback has failed (DESIGN CHOICE, log entry 19). -/
def State.notePin (s : State) : State :=
  let low := s.faultLow
  let s := if low = s.flt.low then s
    else ({ s with flt := { s.flt with low := low } }).drive (.faultN low)
  let s := if low then s else s.causeOff 183
  s.put FLT.pinIn (boolNat (!low || s.causes.testBit 183))

/-- The first escalation pulses FAULT_N (R367). -/
def State.faultPulse (s : State) : State :=
  if s.on FLT.pulseArmed then ((s.put FLT.pulseArmed 0).put FLT.pulseBusy 1).notePin else s

/-- With SAFE_TX set to squelch every link ends (R25, R362): each segment in UP is lost. -/
def State.squelch (s : State) : State :=
  s.each [0, 1, 2, 3] (fun g t => t.each (t.portKeys g) (fun k u => (u.segLost g 0 k caLost).segLost g 1 k caLost))

/-- The unit enters the safe state, or records a further action in it (R362). -/
def State.enterSafe (s : State) (n : Nat) : State :=
  let s := { s with flt := { s.flt with taken := s.flt.taken ||| 2 ^ n } }
  if s.safe then s
  else
    let s := ((((s.put FLT.safe 1).put FLT.safeSrc n).faultHist n 3 (s.faultInfo n (s.get (FLT.sev n)))).raise
      FLT.event 2).notePin
    let s := s.coreHalt stSafeState
    let s := if s.manager then s.each (List.range 64) (fun q t => if 4 ≤ q then t.ringDrain q else t) else s
    if s.on FLT.safeTx then s.squelch else s

/-- Every position in use on the lane's segment is erased (R359). -/
def State.allErased (s : State) (i : Nat) : Bool :=
  match s.carried (i / 34) (i % 34) with
  | some (g, n) =>
    (s.positions g (i / 34) (s.portOfLane g n)).all (fun p => s.invalid (34 * (i / 34) + p))
  | none => false

/-- An escalation is global (R357): one of source n, which is that of a global source or to the safe state. -/
def globalEsc (n : Nat) (safe : Bool) : Bool := safe || decide (160 ≤ n)

/-- Escalations are taken at once while VDDC is up. One due in DEEP, or on the way up from there, waits for the return to RUN
(R370), and a global one in an entry for the end of the power-up that follows (R412). -/
def State.escalatesNow (s : State) (n : Nat) (safe : Bool) : Bool :=
  s.fileUp && (match s.pwr.phase with
    | .entry _ => !globalEsc n safe
    | _ => !(s.pwr.safeDue && globalEsc n safe))

/-- The engine's F-mode ports fall back (R360); both engines' port groups are the same. -/
def State.escalateEngine (s : State) : State :=
  s.each [0, 1, 2, 3] (fun g t =>
    if t.on (GLB.en g) && t.cfl g && decide (t.pers g = 2) then t.fallbackPort g else t)

/-- An escalation acts by the class of its source (R357, R358, R360, R362). -/
def State.escalateAct (s : State) (n : Nat) (safe : Bool) : State :=
  let s := ((s.faultHist n 2 (s.faultInfo n (s.get (FLT.sev n)))).raise FLT.event 1).faultPulse
  if safe then s.enterSafe n
  else if n < 136 then ((s.escalateLane (n % 68) (s.erasedOnly n)).settlePower).settleCauses
  else if n < 160 then s.escalateEngine
  else s.enterSafe n

/-- An escalation (R357 to R359). `safe` says that it is the safe state whatever the source's class. -/
def State.escalate (s : State) (n : Nat) (safe : Bool) : State :=
  if !s.escalatesNow n safe then
    let s := { s with flt := { s.flt with due := insertUp n s.flt.due } }
    match s.pwr.phase with
    | .entry _ => { s with pwr := { s.pwr with wake := some (0, 0, 0), safeDue := true } }
    | _ => s
  else if !safe && decide (n < 136) && s.erasedOnly n && s.allErased (n % 68) then
    ({ s with flt := { s.flt with held := insertUp n s.flt.held } }).faultHist n 8
      (s.faultInfo n (s.get (FLT.sev n)))
  else s.escalateAct n safe

/-- Held ERASED escalations are taken when fewer positions are erased (R359), in source order (R366). -/
def State.heldCheck (s : State) : State :=
  s.each s.flt.held (fun n t =>
    if decide (n ∈ t.flt.held) && t.present n && !t.allErased (n % 68) then
      (t.unheld n).escalate n false
    else t)

/-- A change of a segment that may leave positions or spares to the tasks of other ports. -/
def State.goOn (s : State) : State := (((s.jobsRun).settlePower).settleCauses).heldCheck

/-- Escalations that fell due in DEEP are taken if their cause is still present (R370); a global one that an entry
was abandoned for is taken in any case (R412). Global ones come first (R370), and each kind in source order (R366). -/
def State.takeDue (s : State) : State :=
  let must := s.pwr.safeDue
  let safe (n : Nat) : Bool := decide (5 ≤ s.get (FLT.sev n))
  let global (n : Nat) : Bool := globalEsc n (safe n)
  ({ s with flt := { s.flt with due := [] }, pwr := { s.pwr with safeDue := false } }).each
    (s.flt.due.filter global ++ s.flt.due.filter (fun n => !global n)) (fun n t =>
      if t.present n || (must && global n) then t.escalate n (safe n) else t)

/-- The onset of a source's cause, by its severity (R355). -/
def State.onset (s : State) (n sev : Nat) (wire : Bool) : State :=
  let s := s.put (FLT.live n) 1
  if sev = 0 then s
  else
    let s := ((s.put (FLT.status n) 1).faultHist n 1 (s.faultInfo n sev)).noteFirst n sev wire
    let s := if 2 ≤ sev then s.raise FLT.event 0 else s
    if sev = 3 then { s with grace := s.grace ||| 2 ^ n }
    else if 4 ≤ sev then s.escalate n (decide (5 ≤ sev))
    else s

/-- An onset happens where the cause is present and was not before. -/
def State.onsetIfNew (s : State) (n : Nat) (wire : Bool) : State :=
  if s.present n && !s.on (FLT.live n) then s.onset n (s.get (FLT.sev n)) wire else s

/-- An event source reports (R353, R355). -/
def State.report (s : State) (n : Nat) : State := (s.causeOn n).onsetIfNew n false

/-- An error of the function is noted by its place in the AER status, in the class that the severity register gives it, and
an error message goes where mask and Device Control let it (R248; PRESUMED, log entry 41). -/
def State.noteError (s : State) (bit : Nat) (dev : BitVec 4) : State :=
  let fatal := s.pcie.aerSev.getLsbD bit
  let t := { s with pcie := { s.pcie with
      aerUncorr := s.pcie.aerUncorr ||| BitVec.ofNat 32 (2 ^ bit),
      devStatus := s.pcie.devStatus ||| dev ||| (if fatal then 4 else 2) } }
  t.when (s.on RNG.dlUp && !s.pcie.aerMask.getLsbD bit && s.pcie.devCtl.getLsbD (if fatal then 2 else 1)
    && (decide (dev = 0) || s.pcie.devCtl.getLsbD 3)) (fun u => u.emit (.errMsg (if fatal then 2 else 1)))

/-- An uncorrectable PCIe error, by its place in the AER status, is reported (R248). -/
def State.pcieError (s : State) (bit : Nat) : State := (s.noteError bit 0).report 165

/-- An Unsupported Request, posted or not, is an uncorrectable error, with a bit of its own in the device status (R248). -/
def State.requestError (s : State) : State := (s.noteError 20 8).report 165

/-- Sources whose cause the rest of the model holds: lane-ends, retired banks, and the state sources of this
unit's own machines. The cause of any other source comes with the command (DESIGN CHOICE, log entry 20). -/
def ownCause (n : Nat) : Bool :=
  decide (n < 136 ∨ n = 146 ∨ n = 158 ∨ n = 160 ∨ n = 163 ∨ n = 166 ∨ n = 168 ∨ n = 169 ∨ n = 170 ∨ n = 171
    ∨ n = 175 ∨ n = 176 ∨ n = 181 ∨ n = 183)

/-- What a condition does where it occurs (R371): an uncorrectable error in a replay bank invalidates the slot
of SEQ `place` mod 4,096 of port `place` / 4,096, one in the deferral buffer discards the flit at that place, one in
a key slot invalidates it, a PCIe protocol error (`place` not 0, its AER place) is counted and noted in AER, with its message (R248), and the loss of PG_C (`place` 4)
ends a change of VID (R465). -/
def State.faultAt (s : State) (n place : Nat) : State :=
  let e := (n - 136) / 12
  let g := place / 4096 % 4
  let k := place % 4096
  if 136 ≤ n ∧ n < 160 then
    match (n - 136) % 12 with
    | 1 => ((s.updEng e g (fun x => { x with
        slots := x.slots.map (fun y => if y.seq = k then { y with valid := false } else y),
        replay := x.replay.filter (fun q => decide (q ≠ k)) })).noteRetry e g).drainCheck e g
    | 2 =>
      let left := s.get (DIR.deferLeft e g)
      let t := (s.updEng e g (fun x => { x with defer := x.defer.eraseIdx k })).noteRetry e g
      if k < left then (t.put (DIR.deferLeft e g) (left - 1)).drainCheck e g else t
    | 4 =>
      let key := s.key (place % 16)
      s.setKey (place % 16 / 8) (place % 16 / 4 % 2) (place % 4) { key with valid := false }
    | _ => s
  else if n = 165 ∧ place ≠ 0 then (s.noteError (place % 32) 0).count RNG.pcieUncorr
  else if n = 177 ∧ place = 4 ∧ s.pwr.dvfs ≠ .idle then
    (({ s with pwr := { s.pwr with dvfs := .idle } }).put PWR.dvfsBusy 0).raise PWR.event 9
  else s

/-- The sources of the always-on domain. -/
def aonSource (n : Nat) : Bool := decide (n = 160 ∨ n = 166 ∨ n = 167 ∨ n = 177 ∨ n = 179 ∨ n = 183)

/-- The source's island is powered: that of a lane-end while it is ACTIVE, another while VDDC is up, and in DEEP those of the
always-on domain. The pair of any other source reads no fault (R354). -/
def State.sourceUp (s : State) (n : Nat) : Bool :=
  if n < 136 then s.fileUp && s.leUp n else s.fileUp || (s.aonUp && aonSource n)

/-- VDDC is off: the pairs of its islands read no fault (R354). Grace timers stand (R369). -/
def State.sourcesDown (s : State) : State :=
  let t := s.each ((List.range 184).filter (fun n => !aonSource n && (s.present n || s.on (FLT.live n))))
    (fun n t => t.sourceOff n)
  { t with grace := s.grace }

/-- The sources of VDDC's islands whose condition outlasts a time without it, and whether it stands; a lane-end's cause bits
that outlast its isolation are among them (R353, R372). A failed global LBIST is not: the logic has been reset (DESIGN CHOICE,
log entry 20). -/
def State.standing (s : State) : List (Nat × Bool) :=
  (List.range 136).map (fun n => (n, s.leSeen n)) ++
    [(146, decide (s.get (BST.retired 0) ≠ 0)), (158, decide (s.get (BST.retired 1) ≠ 0)),
      (168, s.rx.any (fun x => x.2.holdDone)), (169, s.on CAL.guard), (170, s.on CAL.refvBad),
      (171, !s.on GLB.refclkOk), (175, s.anyAt 800), (176, s.anyAt 920)]

/-- VDDC is back: the conditions that stand report again (R353, R354). -/
def State.sourcesBack (s : State) : State :=
  s.each (s.standing.filter (fun x => x.2)) (fun x t => (t.causeOn x.1).onsetIfNew x.1 false)

/-- The condition of a source can occur: its island is powered, or, of a lane-end, the collector sees a cause bit that stands
without it; and a PG input (`place` in the order of R408) is lost only while its rail is enabled (R371, R411). -/
def State.faultCan (s : State) (n place : Nat) : Bool :=
  (if n < 136 then s.fileUp else s.sourceUp n) && (decide (n ≠ 177) || s.pwr.rails.testBit place)

/-- ERASED joins the causes of an isolated position whose segment has entered UP with it: it leads to the narrow of R183 as an
onset would (R358). -/
def State.erasedAgain (s : State) (n : Nat) : State :=
  let sev := s.get (FLT.sev n)
  if sev = 3 then { s with grace := s.grace ||| 2 ^ n }
  else if 4 ≤ sev then s.escalate n (decide (5 ≤ sev))
  else s

/-- A source's cause becomes present, or an event source's condition occurs again (R353, R355). -/
def State.faultOnset (s : State) (n place : Nat) : State :=
  if !s.faultCan n place then s
  else if ownCause n then
    let again := decide (n < 68) && s.erasedNow n && !s.on (FLT.le n 3) && s.isIsolated n && s.on (FLT.live n)
    let s := if n < 68 ∧ s.erasedNow n = true then s.leSet n 3 else s
    if again then s.erasedAgain n else s.onsetIfNew n false
  else ((s.faultAt n place).causeOn n).onsetIfNew n false

/-- The cause of an event source ends 1 ms after its last occurrence (R353); of a state source that the model
does not hold itself, with its condition. That of FAULTN_READBACK is the ball, which reads low again (R367). -/
def State.faultExpire (s : State) (n : Nat) : State :=
  if n = 183 then (s.causeOff 183).notePin else if ownCause n then s else s.causeOff n

/-- A pair in a wiring fault (R354). -/
def State.wiringFault (s : State) (n : Nat) : State :=
  if s.flt.wiring.testBit n || !s.sourceUp n then s
  else
    let s := { s with flt := { s.flt with wiring := s.flt.wiring ||| 2 ^ n } }
    (((s.put (FLT.wire n) 1).raise FLT.event 4).faultHist n 5 (s.faultInfo n (s.get (FLT.sev n)))).onsetIfNew n true

/-- A pair reads valid for 1 µs (R354): `faulty` tells that it reads fault. -/
def State.wiringRecovery (s : State) (n : Nat) (faulty : Bool) : State :=
  if s.flt.wiring.testBit n then
    let s := { s with flt := { s.flt with wiring := s.flt.wiring &&& (2 ^ 184 - 1 - 2 ^ n) } }
    if faulty then s.causeOn n else if s.causes.testBit n then s else s.causeOff n
  else s

/-- A grace timer expires (R356). In DEEP grace timers stand (R369). -/
def State.graceExpiry (s : State) (n : Nat) : State :=
  if s.grace.testBit n && s.fileUp then
    let s := { s with grace := s.grace &&& (2 ^ 184 - 1 - 2 ^ n) }
    if s.present n then s.escalate n false else s
  else s

/-- Lowering SEV below deferred stops a running grace timer (R355). -/
def State.sevChanged (s : State) (n : Nat) : State :=
  if s.get (FLT.sev n) < 3 then { s with grace := s.grace &&& (2 ^ 184 - 1 - 2 ^ n) } else s

/-- A word with bad parity is good again; the cause of COLL_CFG ends with the last (R368). -/
def State.parityGood (s : State) (n : Nat) : State :=
  let s := { s with flt := { s.flt with parity := s.flt.parity &&& (2 ^ 184 - 1 - 2 ^ n) } }
  if s.flt.parity = 0 then s.causeOff 160 else s

/-- A write to FLT_SRCCFGs (R355, R356). -/
def State.srccfgWrite (s : State) (n : Nat) (v : Word) : State :=
  let t := (s.setReg (FLT.srccfg n) (v &&& 0xFFFFFF07#32)).sevChanged n
  if s.flt.parity.testBit n then t.parityGood n else t

/-- FLT_CFG is reloaded: SAFE_TX takes its strap value and COMPAT 0 (R368). -/
def State.reloadCfg (s : State) : State := (s.put FLT.compat 0).put FLT.safeTx (s.get GLB.strapSafeTx)

/-- A collector self-fault in native mode (R368). -/
def State.selfFaultNative (s : State) (w : Option Nat) : State :=
  let s := match w with
    | some n => ((s.resetReg (FLT.srccfg n)).sevChanged n).parityGood n
    | none => s.reloadCfg
  let s := (s.faultHist 160 7 (s.get (FLT.sev 160) + 16)).put (FLT.status 160) 1
  let s := if s.on FLT.fValid then s.put FLT.fColl 1 else s.fillFirst 160 (s.get (FLT.sev 160)) false
  s.raise FLT.event 5

/-- A collector self-fault in compatibility mode (R368): an onset of severity safe-state. The word keeps its
failing value, which the manual cannot state, until software writes it again (DESIGN CHOICE, log entry 6); FLT_CFG is reloaded
at once. -/
def State.selfFaultCompat (s : State) (w : Option Nat) : State :=
  let s := s.faultHist 160 7 (s.get (FLT.sev 160))
  match w with
  | some n =>
    let s := ({ s with flt := { s.flt with parity := s.flt.parity ||| 2 ^ n } }).causeOn 160
    let s := ((s.setReg (FLT.srccfg n) (s.free &&& 0xFFFFFF07#32)).useFree).sevChanged n
    if s.on (FLT.live 160) then s else s.onset 160 5 false
  | none =>
    let t := s.reloadCfg
    if t.on (FLT.live 160) then t else (t.onset 160 5 false).put (FLT.live 160) 0

/-- A parity error in a collector word: `none` names FLT_CFG (R368). -/
def State.selfFault (s : State) (w : Option Nat) : State :=
  if s.on FLT.compat then s.selfFaultCompat w else s.selfFaultNative w

/-- Sources that have acted globally since the safe state was entered and whose FLT_STATUS bit is set. -/
def State.blockers (s : State) : List Nat :=
  (List.range 184).filter (fun n => s.flt.taken.testBit n && s.on (FLT.status n))

/-- The unit leaves the safe state (R364). -/
def State.safeExit (s : State) : State :=
  let s := (((({ s with flt := { s.flt with taken := 0 } }).put FLT.safe 0).faultHist (s.get FLT.safeSrc) 4
    (s.faultInfo (s.get FLT.safeSrc) (s.get (FLT.sev (s.get FLT.safeSrc))))).raise FLT.event 3).notePin
  (((s.coreReset stSafeState).jobsRun).settlePower).settleCauses

/-- A refused clear changes nothing but the history and its event (R365, R366). -/
def State.clearRefused (s : State) (src : Nat) : State × Nat :=
  ((s.faultHist src 6 (if src < 184 then s.faultInfo src (s.get (FLT.sev src)) else 0)).raise FLT.event 6, stPrecondition)

/-- FAULT_CLEAR with SCOPE 0 (R365). -/
def State.clearSource (s : State) (n : Nat) : State × Nat :=
  if s.on (FLT.live n) then s.clearRefused n
  else
    (({ s with grace := s.grace &&& (2 ^ 184 - 1 - 2 ^ n) }).put (FLT.status n) 0 |>.put (FLT.wire n) 0, stOk)

/-- FAULT_CLEAR with SCOPE 1 (R365). -/
def State.clearRecord (s : State) : State × Nat :=
  let s := s.each [FLT.first, FLT.firstEpoch, FLT.firstTime, FLT.firstTime + 4] (fun a t => t.setReg a 0)
  ((s.each (List.range 64) (fun k t => t.setReg (FLT.hist 0 k) 0)).put FLT.pulseArmed 1, stOk)

/-- FAULT_CLEAR with SCOPE 2 (R364, R365). -/
def State.clearSafe (s : State) : State × Nat :=
  if !s.safe then s.clearRefused 0xFFFF
  else match s.blockers with
    | n :: _ => s.clearRefused n
    | [] => (s.safeExit, stOk)

/-- FAULT_ONSET (R355). -/
def execFaultOnset (src : Source) (place : Nat) (s : State) : Host.Outcome State Fault Refusal :=
  .next (s.faultOnset src place)

/-- FAULT_EVENT_EXPIRE (R353). -/
def execFaultEventExpire (src : Source) (s : State) : Host.Outcome State Fault Refusal :=
  .next (s.faultExpire src)

/-- WIRING_FAULT (R354). -/
def execWiringFault (src : Source) (s : State) : Host.Outcome State Fault Refusal := .next (s.wiringFault src)

/-- WIRING_RECOVERY (R354). -/
def execWiringRecovery (src : Source) (faulty : Bool) (s : State) : Host.Outcome State Fault Refusal :=
  .next (s.wiringRecovery src faulty)

/-- GRACE_EXPIRY (R356). -/
def execGraceExpiry (src : Source) (s : State) : Host.Outcome State Fault Refusal := .next (s.graceExpiry src)

/-- SRCCFG_WRITE (R355). -/
def execSrccfgWrite (src : Source) (v : Word) (s : State) : Host.Outcome State Fault Refusal :=
  .next (s.soft (FLT.srccfg src) (fun t => t.srccfgWrite src v))

/-- COLL_SELF_FAULT (R368). -/
def execCollSelfFault (word : Option Source) (s : State) : Host.Outcome State Fault Refusal :=
  .next (s.selfFault (word.map (fun n => n.val)))

/-- FAULTN_PULSE_END (R367). -/
def execFaultnPulseEnd (s : State) : Host.Outcome State Fault Refusal := .next ((s.put FLT.pulseBusy 0).notePin)

/-- FAULTN_READBACK (R367): the pin reads high for 1 µs while the unit drives it low. -/
def execFaultnReadback (s : State) : Host.Outcome State Fault Refusal :=
  .next (s.when s.faultLow (fun t => (t.causeOn 183).notePin.onsetIfNew 183 false))

end Sys2Proof.Machine
end

