-- ==== Sys2Proof/Machine/CrescentCmds.lean ====
section
/-! DEFINITION. The commands of Crescent calibration and of the slice swap. -/

namespace Sys2Proof.Machine

/-- COMMIT_APPLY (R72): at a marker boundary of the transmitter's stream, or within 1 µs without one. -/
def execCommitApply (sd : Side) (p : Pos) (s : State) : Host.Outcome State Fault Refusal :=
  .next ((s.commitApply (laneIdx sd p)).txBoundary (laneIdx sd p))

/-- CELL_REPLACE (R68): the suspect cells that wait for this boundary. A pass that has lost its last stand-in stops
(R232). -/
def execCellReplace (sd : Side) (p : Pos) (s : State) : Host.Outcome State Fault Refusal :=
  .next (((s.cellsReplace (laneIdx sd p)).txBoundary (laneIdx sd p)).passSettle (laneIdx sd p))

/-- SHADOW_COMPARE_DONE (R35). -/
def execShadowCompareDone (sd : Side) (p : Pos) (sumEighths : Int) (over3 : Nat) (s : State) :
    Host.Outcome State Fault Refusal :=
  .next (s.shadowDone (laneIdx sd p) sumEighths over3)

/-- The receiver records the first 4,096 UI of a period at most (R39). -/
def symsOk (syms : List (Fin 4)) : Bool := decide (syms.length ≤ 4097)

/-- SWAP_WINDOW (R36, R39): a marker boundary, with the slot that takes the UI after it and, on an Ethernet lane in T
mode, the symbols that the lane delivers from it on. -/
def execSwapWindow (sd : Side) (p : Pos) (phase : Fin 64) (syms : List (Fin 4)) (s : State) :
    Host.Outcome State Fault Refusal :=
  if symsOk syms then .next (s.swapWindow (laneIdx sd p) phase syms) else .fault .illFormed

/-- SLICE_SETTLED (R37). -/
def execSliceSettled (sd : Side) (p : Pos) (s : State) : Host.Outcome State Fault Refusal :=
  .next (s.sliceSettled (laneIdx sd p))

/-- CAL_CYCLE_START (R216). -/
def execCalCycleStart (sd : Side) (p : Pos) (s : State) : Host.Outcome State Fault Refusal :=
  .next (s.cycleStart (laneIdx sd p))

/-- Each phase takes 2^16 samples of 7 bits (R216). -/
def cycleOk (m : CycleMeas) : Bool :=
  decide (m.zero ≤ 127 * 65536 ∧ m.pos ≤ 127 * 65536 ∧ m.neg ≤ 127 * 65536 ∧ m.ramp ≤ 127 * 65536)

/-- CAL_CYCLE_DONE (R219): a cycle that was abandoned has no result (R217), nor has one that a LOOPBACK slice holds (R379). -/
def execCalCycleDone (sd : Side) (p : Pos) (m : CycleMeas) (s : State) :
    Host.Outcome State Fault Refusal :=
  if !cycleOk m then .fault .illFormed
  else .next (s.when ((s.rxe (laneIdx sd p)).cycling && s.rxActive (laneIdx sd p) && !s.bistHolds (laneIdx sd p))
    (fun t => t.cycleDone (laneIdx sd p) m))

/-- GUARD_CLR (R229). A FULL recalibration that waited goes on (R231). -/
def execGuardClr (s : State) : Host.Outcome State Fault Refusal :=
  .next (s.soft CAL.ctrl (fun t => t.guardClear.goOn))

/-- A lane-end has unit cells 0 to 270 (R66). -/
def calElemOk (el : CalElem) : Bool :=
  match el with
  | .cell _ _ n => decide (n < 271)
  | .slice _ _ => true
  | .replica _ _ => true

/-- SUSPECT_VERDICT (R220): the row names one of the cells that a lane-end has. -/
def execSuspectVerdict (el : CalElem) (s : State) : Host.Outcome State Fault Refusal :=
  if calElemOk el then .next (s.suspectVerdict el) else .fault .illFormed

/-- HOLD_LIMIT (R223). -/
def execHoldLimit (sd : Side) (p : Pos) (s : State) : Host.Outcome State Fault Refusal :=
  .next (s.holdLimit (laneIdx sd p))

/-- REFV_RESUME (R215). -/
def execRefvResume (s : State) : Host.Outcome State Fault Refusal :=
  .next s.refvResume.goOn

/-- TX_PASS_START (R224). -/
def execTxPassStart (sd : Side) (p : Pos) (s : State) : Host.Outcome State Fault Refusal :=
  .next (s.passStart (laneIdx sd p))

/-- The element of a Tx measurement is the replica or one of the cells that a lane-end has. -/
def txElemOk (el : TxElem) : Bool :=
  match el with
  | .cell n => decide (n < 271)
  | .replica => true

/-- TX_MEASUREMENT_DONE (R224). -/
def execTxMeasurementDone (sd : Side) (p : Pos) (el : TxElem) (trim err100 : Int) (s : State) :
    Host.Outcome State Fault Refusal :=
  if txElemOk el then .next (s.txMeasured (laneIdx sd p) el trim err100) else .fault .illFormed

/-- CELL_LEND (R224). -/
def execCellLend (sd : Side) (p : Pos) (s : State) : Host.Outcome State Fault Refusal :=
  .next ((s.txBoundary (laneIdx sd p)).cellLend (laneIdx sd p))

/-- CELL_RETURN (R224). -/
def execCellReturn (sd : Side) (p : Pos) (trim err100 : Int) (s : State) :
    Host.Outcome State Fault Refusal :=
  .next ((s.txBoundary (laneIdx sd p)).cellReturn (laneIdx sd p) trim err100)

/-- TEMP_READING (R226). -/
def execTempReading (n : Fin 9) (t : BitVec 16) (s : State) : Host.Outcome State Fault Refusal :=
  .next (s.tempReading n t)

/-- TEMP_DWELL_EXPIRY (R226). -/
def execTempDwellExpiry (n : Fin 8) (s : State) : Host.Outcome State Fault Refusal :=
  .next (s.tempTrigger n)

end Sys2Proof.Machine
end

