-- ==== Sys2Proof/Machine/Dvfs.lean ====
section
/-! DEFINITION. Voltage and frequency of VDDC (R413, R414, R451). -/

namespace Sys2Proof.Machine

def State.updPwr (s : State) (f : Pwr → Pwr) : State := { s with pwr := f s.pwr }

/-- The floor of VDDC in RUN for a core point, as a VID code (R413, R451). -/
def State.runFloor (s : State) (point : Nat) : Nat :=
  let base := if [0, 1, 2, 3].any (fun g => s.on (GLB.en g) && decide (s.get (GLB.rate g) = 2)) then 30 else 20
  max base (10 * point)

/-- VID for a floor (R451). -/
def State.vidFor (s : State) (floor : Nat) : Nat := min (floor + s.get PWR.vidTrim) 40

/-- The unit drives a VID code. A code below the one last confirmed is confirmed with it. -/
def State.setVid (s : State) (v : Nat) : State :=
  (if s.get PWR.vid = v then s else (s.put PWR.vid v).drive (.vid v)).updPwr (fun w => { w with okVid := min w.okVid v })

/-- The highest core point that a VID code supports (R413). -/
def State.pointFor (s : State) (v : Nat) : Nat :=
  ((List.range 4).filter (fun p => decide (s.vidFor (10 * p) ≤ v))).foldl max 0

/-- What VDDC is held to outside a change (R392, R408, R411, R413): the floor of RUN, up to the clocks' stop in an entry
and from the oscillator stage on; the floor of SLEEP, also on the way from it to OFF; or the boot VID. -/
inductive Rail where
  | run | sleep | boot

def State.rail (s : State) : Rail :=
  match s.pwr.phase with
  | .run => .run
  | .sleep => .sleep
  | .entry k => if k < 3 then (if s.get PWR.state = 2 then .sleep else .run) else if s.pwr.goal = 1 then .sleep else .boot
  | .stage k =>
    if 3 ≤ k then .run
    else if s.pwr.origin = 2 || (s.pwr.origin = 3 && (decide (s.pwr.goal = 1)
      || (decide (s.get PWR.state = 2) && decide (s.get PWR.lastAbort < 3)))) then .sleep
    else .boot
  | _ => .boot

/-- VID goes at once to the code of a state whose islands are gated (R411): the clocks do not come back above what it
supports, and the change ends here, with one that VDDC's removal cuts (DESIGN CHOICE, log entry 44). -/
def State.vidCut (s : State) (v : Nat) : State :=
  if s.get PWR.vid = v ∧ s.pwr.dvfs = .idle then s
  else
    let s := (s.put PWR.curPt (min (s.get PWR.curPt) (s.pointFor v))).put PWR.dvfsBusy 0
    ((s.updPwr (fun w => { w with dvfs := .idle, next := false })).setVid v).raise PWR.event 9

/-- VID goes to the code of a state whose islands are gated, after the change in progress (R411, R414). -/
def State.vidGated (s : State) (v : Nat) : State :=
  if s.pwr.dvfs ≠ .idle then s.updPwr (fun w => { w with next := true }) else s.vidCut v

/-- A change of VDDC and clock in a state that runs (R414): upward with VID first, also where the VID in place has not been
confirmed (DESIGN CHOICE, log entry 44); downward with the clock first. -/
def State.dvfsGo (s : State) : State :=
  let point := s.get PWR.corePt
  let v := s.vidFor (s.runFloor point)
  if s.pwr.dvfs ≠ .idle then s.updPwr (fun w => { w with next := true })
  else if s.get PWR.vid < v ∨ (s.pwr.okVid < v ∧ s.get PWR.curPt < point) then
    ((s.setVid v).put PWR.dvfsBusy 1).updPwr (fun w => { w with dvfs := .raising, point := point })
  else if s.get PWR.vid = v ∧ s.get PWR.curPt = point then s
  else (s.put PWR.dvfsBusy 1).updPwr (fun w => { w with dvfs := .lowering, point := point })

/-- A voltage and frequency change begins where the wanted point or VID differs (R414, R451). -/
def State.dvfsStart (s : State) : State :=
  match s.rail with
  | .run => s.dvfsGo
  | .sleep => s.vidGated (s.vidFor 0)
  | .boot => s.vidGated 10

/-- The applied voltage is confirmed. -/
def State.vidReady (s : State) : State := s.updPwr (fun w => { w with dvfs := .settling, okVid := s.get PWR.vid })

/-- The change in progress ends, and one that waited begins (R414). -/
def State.dvfsEnd (s : State) : State :=
  let again := s.pwr.next
  let s := ((s.updPwr (fun w => { w with dvfs := .idle, next := false })).put PWR.dvfsBusy 0).raise PWR.event 9
  if again then s.dvfsStart else s

end Sys2Proof.Machine
end

