-- ==== Sys2Proof/Machine/SegmentCmds.lean ====
section
/-! DEFINITION. The commands of port groups and of link training (04_link_training.md; R154, R188, R438). -/

namespace Sys2Proof.Machine

/-- Bits that a write to GLB_PGCFG can set (R434). -/
def pgcfgMask : Nat := 0xFFFFFF3F

/-- A write to GLB_PGCFGg (R438, R15). -/
def State.pgcfgWrite (s : State) (g v : Nat) : State :=
  if s.on (GLB.en g) then s.raise GLB.event 0
  else s.setReg (GLB.pgcfg g) (BitVec.ofNat 32 (v &&& pgcfgMask))

/-- Sum of the BANKS fields of a DIR_RPLCFG word. -/
def banksSum (v : Nat) : Nat := bitsOf v 0 4 + bitsOf v 4 4 + bitsOf v 8 4 + bitsOf v 12 4

/-- Sum of the DEFQ fields. -/
def defqSum (v : Nat) : Nat := bitsOf v 16 3 + bitsOf v 19 3 + bitsOf v 22 3 + bitsOf v 25 3

/-- The written word changes the fields of a port group that is up or training. -/
def State.rplcfgBusy (s : State) (e v : Nat) : Bool :=
  (List.range 4).any (fun g => s.groupBusy g
    && (decide (bitsOf v (4 * g) 4 ≠ s.get (DIR.banks e g)) || decide (bitsOf v (16 + 3 * g) 3 ≠ s.get (DIR.defq e g))))

/-- A write to DIR_RPLCFG (R154, R161). -/
def State.rplcfgWrite (s : State) (e v : Nat) : State :=
  if 8 < banksSum v ∨ 4 < defqSum v ∨ s.rplcfgBusy e v = true then s.raise GLB.event 0
  else s.setReg (DIR.rplcfg e) (BitVec.ofNat 32 (bitsOf v 0 28))

/-- A write to GLB_LMAP (R188): taken only in OFF, every field as written (R5). -/
def State.lmapWrite (s : State) (g sd : Nat) (v : Word) : State :=
  if (s.portKeys g).any (fun k => decide (s.segState g sd k ≠ stOff)) then s.raise GLB.event 0
  else s.setReg (GLB.lmap g sd) v

/-- A disable of a port group (R438); a bank copy in progress ends with it (R389). -/
def State.groupOff (s : State) (g : Nat) : State :=
  if s.on (GLB.en g) then (s.portDisable g).copyBreaks else s

/-- A write to GLB_PGEN: each bit acts alone, and disables act with the enables of the same write
(R438, R447). The bits act in the order of the groups, which decides which of them would create a mix of R19 (DESIGN
CHOICE, log entry 38). -/
def State.pgenWrite (s : State) (v : Nat) : State :=
  (s.each [0, 1, 2, 3] (fun g t => if bitOf v g then t.portEnable g else t.groupOff g)).goOn.dvfsStart

/-- Bits D21 to D43 of a base page: the Technology Ability field of IEEE 802.3 Clause 73 (PRESUMED, log entry 7). -/
def abilityMask : BitVec 48 := 0x00000FFFFFE00000#48

/-- A page as the relay sends it on: of the Technology Ability field of a base page only the bit of the
port's PMD stays (R101). -/
def State.relayed (s : State) (g k : Nat) (base : Bool) (page : BitVec 48) : BitVec 48 :=
  if base then
    (page &&& ~~~abilityMask) ||| (page &&& abilityMask
      &&& Config.techAbility (s.get (GLB.rate g)) (s.ethLanes g k) (s.get (GLB.medium g)))
  else page

/-- A page received on side `sd` in AN is sent on the other side (R101), unless that side still keeps its break-link silence: the
page is then not sent, now or later (DESIGN CHOICE, log entry 38). `base` tells a base page, of which a negotiation sends
several, from a next page; `last` tells that the exchange is complete with this page. -/
def State.anPage (s : State) (g k sd : Nat) (page : BitVec 48) (base last : Bool) : State :=
  if s.relaying g sd k && decide (k ∈ s.portKeys g) && decide (s.segState g sd k = stAn) then
    let s := if (s.seg g (1 - sd) k).anBreak then s
      else s.emit (.anPage g k (if sd = 0 then .B else .A) (s.relayed g k base page))
    ((s.updSeg g sd k (fun x => { x with anDone := last })).segEval g sd k).goOn
  else s

/-- A position is added to a mask of positions. -/
def addBit (m p : Nat) (on : Bool) : Nat := if on then m ||| 2 ^ p else m &&& (2 ^ 34 - 1 - 2 ^ p)

/-- A received frame marker is inverted after POL_INV, as the training took it, has been applied (R31, R92). -/
def State.markerInverted (s : State) (i : Nat) (o : TrainObs) : Bool :=
  o.inverted != decide ((s.rxe i).pol = 1)

/-- What a training frame on a position shows of its lane (R91, R92). -/
def State.frameSeen (s : State) (g k sd p : Nat) (o : TrainObs) : State :=
  let i := 34 * sd + p
  (s.updSeg g sd k (fun x => { x with
    locked := addBit x.locked p true, inverted := addBit x.inverted p (s.markerInverted i o),
    farReady := addBit x.farReady p (s.farReadyOf g o) })).updTx i
      (fun t => { t with precode := boolNat o.precode })

/-- The link word of a training frame in ALIGN, with the round trip measured from its token (R104). RTT holds that of the latest
frame on any lane of the segment (DESIGN CHOICE, log entry 38). -/
def State.linkSeen (s : State) (g sd p : Nat) (o : TrainObs) : State :=
  let s := s.updSeg g sd 0 (fun x => { x with
    links := x.links.filter (fun y => decide (y.1 ≠ p)) ++ [(p, o.link)] })
  (s.put (GLB.tsRtt g sd 0) (min o.rttNs 511)).put (GLB.tsSlack g sd 0) (linkSlack o.link)

/-- Partner restarts training of a segment in HOLD (R94). -/
def State.holdRestart (s : State) (g sd : Nat) : State :=
  (s.startWait g sd 0).put (GLB.tsCause g sd 0) caPartnerRestart

/-- The home position of a maintenance activity fails its training (R114): its lane stays on the spare, which
the group then owns; the position is isolated and both its sources carry TRAIN_FAILED. -/
def State.homeFailed (s : State) (g : Nat) (j : Job) : State :=
  let i := 34 * j.side + j.home
  let s := { s with isolated := s.isolated ||| 2 ^ i }
  let s := (s.leSet i 5).leSet (68 + i) 5
  if j.task = .loopback then
    let v := (s.bistHead.map (fun r => (r.us, r.detail))).getD (0, 0)
    ((s.dropHead g).settleSpares).bistVerdict vTrainFailed v.1 v.2 true
  else s.finishHead g stTrainFailed

/-- A lane training fails (R112, R114, R183, R184, R186): by the task that it serves. -/
def State.ltFailed (s : State) (i : Nat) : State :=
  match s.lt i with
  | none => s
  | some t =>
    if t.stage ≠ .training then s
    else
      let g := t.g
      let s := (s.endLt i).settleSpares
      let upkeep (j : Job) : Bool := decide (j.side = i / 34)
        && ((busyMaint j && decide ((j.step = 1 ∧ j.spare = i % 34) ∨ (j.step = 4 ∧ j.home = i % 34)))
          || (returning j && decide (j.step = 4 ∧ j.home = i % 34)))
      let s := match (s.port g).jobs.find? upkeep with
        | none => (s.markFailed g (i / 34) (i % 34) true).ltTaskFails g i
        | some j =>
          let s := s.bring g upkeep
          if j.task = Task.giveBack then (s.markFailed g j.side j.home true).finishHead g stPreempted
          else if j.step = 1 then
            (if j.task = Task.loopback then ((s.dropHead g).settleSpares).bistVerdict vTrainFailed 0 0 false
            else s.finishHead g stTrainFailed)
          else s.homeFailed g j
      s.goOn

/-- A training frame of a lane training (R92, R112): an inverted marker fails it, and the link word counts where it says
that it belongs to a lane training. -/
def State.ltFrame (s : State) (i : Nat) (o : TrainObs) : State :=
  if s.markerInverted i o then s.ltFailed i
  else if linkLaneTrain o.link then
    (s.updTx i (fun t => { t with precode := boolNat o.precode })).updLt i
      (fun t => { t with far := linkRxReady o.link, link := some o.link })
  else s

/-- A training frame received on a position (R94, R103, R104, R108). In HOLD a frame whose sender is not
ready tells that the partner trains again, and no other frame does (DESIGN CHOICE, log entry 38). -/
def State.trainingFrame (s : State) (g k sd p : Nat) (o : TrainObs) : State :=
  let i := 34 * sd + p
  if !(s.rxActive i && s.on (LRX.cdrLock i)) || (s.rxe i).fg || s.bistHeld.testBit i then s
  else if s.ltRunning i then s.ltFrame i o
  else if k ∉ s.portKeys g ∨ p ∉ s.positions g sd k ∨ !s.on (GLB.en g) then s
  else if s.cfl g && linkLaneTrain o.link then s
  else
    let st := s.segState g sd k
    if st = stWait then
      (if s.noTrain g sd k then s else ((s.frameSeen g k sd p o).segEval g sd k).goOn)
    else if st = stEq then ((s.frameSeen g k sd p o).segEval g sd k).goOn
    else if st = stAlign then
      (((s.frameSeen g k sd p o).linkSeen g sd p o).segEval g sd k).goOn
    else if st = stHold then
      (if s.farReadyOf g o then s
      else (((s.holdRestart g sd).frameSeen g k sd p o).segEval g sd k).goOn)
    else if st = stUp then (s.segLost g sd k caPartnerRestart).goOn
    else s

/-- Lanes of a port without frame lock. -/
def State.unlocked (s : State) (g sd : Nat) : List Nat :=
  (s.lanes g sd 0).filter (fun n => match s.lanePos g sd n with
    | some p => !(s.seg g sd 0).locked.testBit p
    | none => true)

/-- A free spare, where one is left, trains in a lane's place (R105). -/
def State.replaceLane (s : State) (g sd n : Nat) : State :=
  match (s.freeSpares g sd).head? with
  | some p =>
    ((((s.setMap g sd ((List.range 8).map (fun m => if m = n then posCode g p else s.laneCode g sd m))).settleSpares).trainLane
      (34 * sd + p) (s.get (GLB.rate g)) true)).trainFrame g sd 0 n p false
  | none => s

/-- Each lane without frame lock gives way to a free spare or is excluded, the lowest such lane first (DESIGN CHOICE, log entry 38);
the width is set at once from the lanes that remain (R105). -/
def State.replaceLanes (s : State) (g sd : Nat) : State :=
  let u := s.unlocked g sd
  let t := s.each u (fun n t => t.replaceLane g sd n)
  t.setWidth g sd ((s.lanes g sd 0).filter (fun n =>
    decide (n ∉ u) || decide (t.lanePos g sd n ≠ s.lanePos g sd n)))

/-- WIDTH_WAIT has run out in WAIT with at least 2 lanes in frame lock (R94, R105). The frames name the lanes that the positions
carry from here on (R103). -/
def State.widthWait (s : State) (g sd : Nat) : State :=
  if s.cfl g && decide (s.segState g sd 0 = stWait)
      && decide (2 + (s.unlocked g sd).length ≤ (s.lanes g sd 0).length) then
    ((((s.replaceLanes g sd).enterEq g sd 0).trainFrames g sd 0 false).segEval g sd 0).goOn
  else s

/-- The port group whose training a position serves: that of its lane training, or of the lane it carries. -/
def State.trainGroup (s : State) (i : Nat) : Nat :=
  match s.lt i, s.carried (i / 34) (i % 34) with
  | some t, _ => t.g
  | none, some x => x.1
  | none, none => 0

/-- The transmitter takes the partner's coefficient requests: in a training of its segment, or of its lane
(R90, R98), once both lane-ends take part in it (R228). -/
def State.tapsOpen (s : State) (i : Nat) : Bool :=
  s.calibrated i && (s.ltRunning i || (match s.carried (i / 34) (i % 34) with
    | some (g, n) =>
      let k := s.portOfLane g n
      let st := s.segState g (i / 34) k
      decide (st = stWait ∨ st = stEq ∨ st = stAlign) && !s.noTrain g (i / 34) k
    | none => false))

/-- The training of the position addresses c(+2): CFL trainings do (04_link_training.md, CFL training). -/
def State.addressesC2 (s : State) (i : Nat) : Bool := s.cfl (s.trainGroup i)

/-- The taps that a training's PMD (rate, medium, protocol) defines for an initial condition, clipped to R70 in the order
of their places (R98; PRESUMED, log entry 7). -/
def initTaps (rate medium : Nat) (cfl : Bool) (cond : Nat) : List Int :=
  let field (k : Nat) : Int :=
    if k = 4 ∧ cfl = false then 0 else signedOf 7 (bitsOf (Config.initTaps rate medium cfl cond).toNat (7 * k) 7)
  ((List.range 5).foldl (fun acc k =>
    (acc.1 ++ [clampInt (-(acc.2 : Int)) acc.2 (field k)],
     acc.2 - (clampInt (-(acc.2 : Int)) acc.2 (field k)).natAbs)) (([] : List Int), 64)).1

/-- Status codes that the transmitter reports (R98): 0 hold, 1 updated, 2 at limit. -/
def csHold : Nat := 0
def csUpdated : Nat := 1
def csAtLimit : Nat := 2

/-- A request moves tap `k` by `d` LSB where range and R70 allow it (R98). -/
def State.moveTap (s : State) (i k : Nat) (d : Int) : State :=
  let taps := (s.txe i).taps
  let new := setNth taps k (taps.getD k 0 + d)
  let v := taps.getD k 0 + d
  if k < 5 ∧ (k < 4 ∨ s.addressesC2 i = true) ∧ -64 ≤ v ∧ v ≤ 63 ∧ tapSum new ≤ 64 then
    (s.updTx i (fun t => { t with taps := new })).emit (.coefStatus i k csUpdated)
  else s.emit (.coefStatus i k csAtLimit)

/-- A request from the partner (R98). Place 6 of a status stands for an initial condition or a hold. -/
def State.coefRequest (s : State) (i : Nat) (r : CoefReq) : State :=
  match r with
  | .hold => s.emit (.coefStatus i 6 csHold)
  | .increment tap => s.moveTap i tap 1
  | .decrement tap => s.moveTap i tap (-1)
  | .initial cond =>
    let g := s.trainGroup i
    (s.updTx i (fun t => { t with
      taps := initTaps (s.get (GLB.rate g)) (s.get (GLB.medium g)) (s.cfl g) cond })).emit (.coefStatus i 6 csUpdated)

/-- Order of the partner's taps in the procedure of R99, by place. -/
def tapOrder (c2 : Bool) : List Nat := if c2 then [2, 3, 1, 0, 4] else [2, 3, 1, 0]

/-- The requester procedure has no tap left: the receiver is ready, and the training frames say so (R99). -/
def State.receiverReady (s : State) (i : Nat) : State :=
  let sd := i / 34
  let s := s.updRx i (fun r => { r with req := none })
  if s.ltRunning i then (s.updLt i (fun t => { t with ready := true })).sendLt i
  else match s.carried sd (i % 34) with
    | some (g, n) =>
      let k := s.portOfLane g n
      let s := s.updSeg g sd k (fun x => { x with ready := addBit x.ready (i % 34) true })
      ((s.trainFrame g sd k n (i % 34) false).segEval g sd k).goOn
    | none => s

/-- The requester goes on to the next direction or tap; with none left its receiver is ready (R99). -/
def State.requesterNext (s : State) (i : Nat) (q : Req) : State :=
  let taps := tapOrder (s.addressesC2 i)
  let q' : Req := if 0 < q.step ∧ q.inc = true then { q with inc := false, rev := false }
    else { q with step := q.step + 1, inc := true, rev := false }
  match taps[q'.step - 1]? with
  | some t => (s.updRx i (fun r => { r with req := some q' })).emit (.coefRequest i t (if q'.inc then 1 else -1))
  | none => s.receiverReady i

/-- A coefficient status from the far transmitter (R99); `snr` is the estimate that follows it, in 1/16 dB. -/
def State.coefStatus (s : State) (i : Nat) (st : CoefStat) (snr : Nat) : State :=
  match (s.rxe i).req with
  | none => s
  | some q =>
    if q.step = 0 then s.requesterNext i { q with best := snr }
    else if q.rev then s.requesterNext i q
    else
      let t := (tapOrder (s.addressesC2 i)).getD (q.step - 1) 0
      match st with
      | .atLimit => s.requesterNext i q
      | .updated =>
        if 10 * snr < 10 * q.best + 16 then
          (s.updRx i (fun r => { r with req := some { q with rev := true } })).emit
            (.coefRequest i t (if q.inc then -1 else 1))
        else
          (s.updRx i (fun r => { r with req := some { q with best := snr } })).emit
            (.coefRequest i t (if q.inc then 1 else -1))

/-- The requester procedure is in a training that runs: EQ of the segment, or a lane training. -/
def State.requesting (s : State) (i : Nat) : Bool :=
  s.ltRunning i || decide (s.posState (i / 34) (i % 34) = stEq)

/-- The EQ timer expires (R94, R105). -/
def State.eqTimeout (s : State) (g sd k : Nat) : State :=
  if s.segState g sd k = stEq then
    let r := s.readyLanes g sd k
    ((if s.cfl g && decide (2 ≤ r.length) then s.settleWidth g sd r
      else s.enterBackoff g sd k caEqTimeout).segEval g sd k).goOn
  else s

/-- The ALIGN timer expires (R94). -/
def State.alignTimeout (s : State) (g sd : Nat) : State :=
  if s.segState g sd 0 = stAlign then ((s.enterBackoff g sd 0 caAlignTimeout).segEval g sd 0).goOn else s

/-- The wait of BACKOFF ends (R94). -/
def State.backoffEnds (s : State) (g sd k : Nat) : State :=
  if s.segState g sd k = stBackoff then ((s.startAttempt g sd k).segEval g sd k).goOn else s

/-- The port is in a low-power agreement, in which the absence of signal loses no segment (R400). -/
def State.inLowPower (s : State) (g : Nat) : Bool := s.on (PWR.lpstat g)

/-- LOS on every position of the port for 10 µs (R109). -/
def State.losTimeout (s : State) (g sd k : Nat) : State :=
  let ps := s.positions g sd k
  if !ps.isEmpty && ps.all (fun p => s.on (LRX.losNow (34 * sd + p))) && !s.inLowPower g then
    (s.segLost g sd k caLost).goOn
  else s

/-- LOS or an unlocked CDR on a lane of an Ethernet port for 1 ms (R109). -/
def State.ethLoss (s : State) (g sd k : Nat) : State :=
  if !s.cfl g && (s.positions g sd k).any (fun p =>
      s.on (LRX.losNow (34 * sd + p)) || !s.on (LRX.cdrLock (34 * sd + p))) then
    (s.segLost g sd k caLost).goOn
  else s

/-- Marker lock lost on the port for 1 ms (R109). Before the first codeword lock after a release the row of
R94 for its 1 ms applies instead. -/
def State.markerLoss (s : State) (g sd k : Nat) : State :=
  let gone := if s.pers g = 0 then
      !(s.positions g sd k).any (fun p => s.on (LRX.markerLock (34 * sd + p)))
    else !s.cwOf g sd k && s.cwEverOf g sd k
  if gone && !s.inLowPower g then (s.segLost g sd k caLost).goOn else s

/-- LANE_END_ACTIVE (R410): where no foreground calibration is due, a transmitter starts its training frames, and the requester
procedure that waited for the lane-end starts (R228). -/
def execLaneEndActive (fn : LaneFn) (sd : Side) (p : Pos) (s : State) :
    Host.Outcome State Fault Refusal :=
  let t := s.activated fn (laneIdx sd p)
  let up := match fn with
    | .rx => !s.rxActive (laneIdx sd p) && t.rxActive (laneIdx sd p)
    | .tx => !s.txActive (laneIdx sd p) && t.txActive (laneIdx sd p)
  .next (t.when up (fun u => (u.when (decide (fn = .tx)) (fun v => v.framesStart (laneIdx sd p))).requesterGo
    (laneIdx sd p)))

/-- The engine switches from fault fill to the received stream (R102, R123). -/
def State.fillEnds (s : State) (g sd k : Nat) : State :=
  if s.ethStream g (1 - sd) k then s.updSeg g sd k (fun x => { x with fill := false }) else s

/-- PORT_GROUP_ENABLE (R438). -/
def execPortGroupEnable (g : Port) (s : State) : Host.Outcome State Fault Refusal :=
  .next (s.soft GLB.pgen (fun t => (t.portEnable g).goOn.dvfsStart))

/-- PORT_GROUP_DISABLE (R438). -/
def execPortGroupDisable (g : Port) (s : State) : Host.Outcome State Fault Refusal :=
  .next (s.soft GLB.pgen (fun t => (t.groupOff g).goOn.dvfsStart))

/-- PGCFG_WRITE (R438). -/
def execPgcfgWrite (g : Port) (v : Word) (s : State) : Host.Outcome State Fault Refusal :=
  .next (s.soft (GLB.pgcfg g) (fun t => t.pgcfgWrite g v.toNat))

/-- RPLCFG_WRITE (R154). -/
def execRplcfgWrite (e : Eng) (v : Word) (s : State) : Host.Outcome State Fault Refusal :=
  .next (s.soft (DIR.rplcfg e.idx) (fun t => t.rplcfgWrite e.idx v.toNat))

/-- LMAP_WRITE (R188). -/
def execLmapWrite (g : Port) (sd : Side) (v : Word) (s : State) : Host.Outcome State Fault Refusal :=
  .next (s.soft (GLB.lmap g sd.idx) (fun t => t.lmapWrite g sd.idx v))

/-- AN_PAGE (R101). -/
def execAnPage (g : Port) (k : LaneN) (sd : Side) (page : BitVec 48) (base last : Bool) (s : State) :
    Host.Outcome State Fault Refusal :=
  .next (s.anPage g k sd.idx page base last)

/-- AN_BREAK_LINK_EXPIRY (R110). -/
def execAnBreakLinkExpiry (g : Port) (k : LaneN) (sd : Side) (s : State) :
    Host.Outcome State Fault Refusal :=
  .next (s.updSeg g sd.idx k (fun x => { x with anBreak := false }))

/-- TRAINING_FRAME (R94). -/
def execTrainingFrame (g : Port) (k : LaneN) (sd : Side) (p : Pos) (o : TrainObs) (s : State) :
    Host.Outcome State Fault Refusal :=
  .next (s.trainingFrame g k sd.idx p o)

/-- WIDTH_WAIT_EXPIRY (R105). -/
def execWidthWaitExpiry (g : Port) (sd : Side) (s : State) : Host.Outcome State Fault Refusal :=
  .next (s.widthWait g sd.idx)

/-- An initial condition is named by three bits (R98). -/
def coefReqOk (r : CoefReq) : Bool :=
  match r with
  | .initial cond => decide (cond < 8)
  | .hold => true
  | .increment _ => true
  | .decrement _ => true

/-- COEF_REQUEST (R98). -/
def execCoefRequest (sd : Side) (p : Pos) (r : CoefReq) (s : State) :
    Host.Outcome State Fault Refusal :=
  if coefReqOk r then .next (s.when (s.tapsOpen (laneIdx sd p)) (fun t => t.coefRequest (laneIdx sd p) r))
  else .fault .illFormed

/-- COEF_STATUS (R99), with the level histogram of the 2^16 UI that follow the status, from which the receiver estimates its SNR. -/
def execCoefStatus (sd : Side) (p : Pos) (st : CoefStat) (bins : List Word) (s : State) :
    Host.Outcome State Fault Refusal :=
  if binsOk bins then
    .next (s.when (s.requesting (laneIdx sd p) && decide (binTotal bins = 2 ^ 16))
      (fun t => (t.coefStatus (laneIdx sd p) st (t.snrMean bins)).useFree4))
  else .fault .illFormed

/-- EQ_TIMEOUT (R94). -/
def execEqTimeout (g : Port) (k : LaneN) (sd : Side) (s : State) : Host.Outcome State Fault Refusal :=
  .next (s.eqTimeout g sd.idx k)

/-- ALIGN_TIMEOUT (R94). -/
def execAlignTimeout (g : Port) (sd : Side) (s : State) : Host.Outcome State Fault Refusal :=
  .next (s.alignTimeout g sd.idx)

/-- BACKOFF_EXPIRY (R94). -/
def execBackoffExpiry (g : Port) (k : LaneN) (sd : Side) (s : State) :
    Host.Outcome State Fault Refusal :=
  .next (s.backoffEnds g sd.idx k)

/-- FEC_LOCK_TIMEOUT (R94). -/
def execFecLockTimeout (g : Port) (k : LaneN) (sd : Side) (s : State) :
    Host.Outcome State Fault Refusal :=
  .next ((s.fecTimeout g sd.idx k).goOn)

/-- SEGMENT_RESTART (R111). -/
def execSegmentRestart (g : Port) (a b : Bool) (s : State) : Host.Outcome State Fault Refusal :=
  .next (s.soft (GLB.trnCtrl g) (fun t =>
    (((t.when a (fun u => u.restart g 0)).when b (fun u => u.restart g 1))).goOn))

/-- SEGMENT_LOS_TIMEOUT (R109). -/
def execSegmentLosTimeout (g : Port) (k : LaneN) (sd : Side) (s : State) :
    Host.Outcome State Fault Refusal :=
  .next (s.losTimeout g sd.idx k)

/-- ETH_LANE_LOSS_TIMEOUT (R109). -/
def execEthLaneLossTimeout (g : Port) (k : LaneN) (sd : Side) (s : State) :
    Host.Outcome State Fault Refusal :=
  .next (s.ethLoss g sd.idx k)

/-- MARKER_LOSS_TIMEOUT (R109). -/
def execMarkerLossTimeout (g : Port) (k : LaneN) (sd : Side) (s : State) :
    Host.Outcome State Fault Refusal :=
  .next (s.markerLoss g sd.idx k)

/-- FILL_TO_DATA_SWITCH (R102): on the segment that sends the fill. -/
def execFillToDataSwitch (g : Port) (k : LaneN) (sd : Side) (s : State) :
    Host.Outcome State Fault Refusal :=
  .next (s.fillEnds g sd.idx k)

end Sys2Proof.Machine
end

