-- ==== Sys2Proof/Machine/SparingCmds.lean ====
section
/-! DEFINITION. The commands of lane training, of LANEMAP agreements and of map changes
(07_lane_sparing.md, R112, R228). -/

namespace Sys2Proof.Machine

/-- The link word of a lane training passes the checks of ALIGN (R104, R112): RATE, a valid SLACK that is the segment's, and
the logical lane to be carried. -/
def State.ltLinkOk (s : State) (sd : Nat) (t : LaneTrain) : Bool :=
  match t.link with
  | some w => decide (linkRate w = s.get (GLB.rate t.g) ∧ linkSlack w ≤ 4
      ∧ linkSlack w = s.get (GLB.tsSlack t.g sd 0) ∧ linkLane w = t.lane)
  | none => false

/-- A lane training of a position succeeds (R112): both ends report their receivers ready, and the link word passes. -/
def State.ltDone (s : State) (i : Nat) : State :=
  match s.lt i with
  | some t =>
    if t.stage = .training ∧ t.ready = true ∧ t.far = true ∧ s.ltLinkOk (i / 34) t = true then
      (s.trainedLane i).setLt i (some { t with stage := .trained })
    else s
  | none => s

/-- The trained sender starts its shadow copy at a marker boundary (R174), with which a marker period of the outgoing segment begins
(DESIGN CHOICE, log entry 38). -/
def State.shadowStart (s : State) (i : Nat) : State :=
  match s.lt i with
  | some t =>
    if t.stage = .trained then
      ((s.setLt i (some { t with stage := .shadow })).updEng (outEngine (i / 34)) t.g newPeriod).goOn
    else s
  | none => s

/-- Fields of a LANEMAP payload word (R176). -/
def lmOp (w : BitVec 64) : Nat := bitsOf w.toNat 0 2
def lmSeg (w : BitVec 64) : Nat := bitsOf w.toNat 2 2
def lmWidth (w : BitVec 64) : Nat := bitsOf w.toNat 4 2
def lmSrc (w : BitVec 64) : Nat := bitsOf w.toNat 8 32
def lmAt (w : BitVec 64) : Nat := bitsOf w.toNat 40 12
def lmId (w : BitVec 64) : Nat := bitsOf w.toNat 52 8

/-- The oldest LANEMAP flit received from a segment's partner, where it has an operation. -/
def State.lanemapIn (s : State) (g sd op : Nat) : Option (BitVec 64) :=
  match (s.eng (inEngine sd) g).mapq with
  | w :: _ => if lmOp w = op then some w else none
  | [] => none

/-- That flit is taken. -/
def State.popLanemap (s : State) (g sd : Nat) : State :=
  s.updEng (inEngine sd) g (fun x => { x with mapq := x.mapq.drop 1 })

/-- The port's own change includes the segment. -/
def State.ownChange (s : State) (g sd : Nat) : Bool := (s.partOf g sd).isSome

/-- A partner's PROPOSE (R178, R186): refused, echoing ID, SRC and WIDTH; otherwise taken as a request. -/
def State.proposed (s : State) (g sd : Nat) (w : BitVec 64) : State :=
  let s := s.queueLanemap g sd (lanemapWord 2 (lmSeg w) (lmWidth w) (lmSrc w) 0 (lmId w))
  if s.ownChange g sd || decide (lmSeg w ≠ sd) || !s.askValid g sd (widthLanes (lmWidth w)) (lmSrc w) then s
  else
    (s.pushJob g { Job.blank .asked sd 0 with src := lmSrc w, width := widthLanes (lmWidth w) }).goOn

/-- An answer from a segment's partner (R178). -/
def State.answered' (s : State) (g sd : Nat) (w : BitVec 64) (accept : Bool) : State :=
  match (s.port g).change, s.partOf g sd with
  | some c, some p =>
    if lmId w ≠ c.id then s
    else if accept = true ∧ lmSrc w = p.src ∧ lmWidth w = widthCode c.width then
      s.updPart g sd (fun x => { x with acc := true })
    else (s.changeFail g).goOn
  | _, _ => s

/-- A partner's NOTICE in G mode: the move of its segment may switch (R179). -/
def State.noticed (s : State) (g sd : Nat) (w : BitVec 64) : State :=
  match (s.port g).change, s.partOf g sd with
  | some c, some p =>
    if c.kind = .move ∧ lmSeg w = sd ∧ lmSrc w = p.src ∧ lmWidth w = widthCode c.width then
      s.updPort g (fun r => { r with change := some { c with told := true } })
    else s
  | _, _ => s

/-- The move that an end-to-end change overtakes has not been carried out (R179). -/
def State.endToEndEnds (s : State) (g : Nat) : State :=
  match (s.port g).change with
  | some c => if c.kind = .move then s.changeFail g else s
  | none => s

/-- An end-to-end LANEMAP flit in G mode (R179): the agreed change is applied to both segment maps, and the
outgoing width follows the incoming. -/
def State.endToEnd (s : State) (g : Nat) (w : BitVec 64) : State :=
  if lmSeg w = 2 ∧ (lmOp w = 1 ∨ lmOp w = 3) then
    let width := widthLanes (lmWidth w)
    let part (sd : Nat) : Part :=
      { side := sd, src := lmSrc w, acc := true, tx := false, rx := false, sends := 0,
        map := srcMap (s.mapOf g sd) (lmSrc w) (fun n => match s.ltFor g sd n with
          | some p => posCode g p
          | none => 15) }
    let c : Change :=
      { kind := if s.widthOf g < width then .widen else .narrow, width := width,
        parts := [part 0, part 1], id := lmId w, told := true }
    (s.endToEndEnds g).updPort g (fun r => { r with change := some c })
  else s

/-- Each 4 µs without an answer PROPOSE is sent again; after 8 sends the change ends (R178). -/
def State.proposeAgain (s : State) (g sd : Nat) : State :=
  match (s.port g).change, s.partOf g sd with
  | some c, some p =>
    if p.acc ∨ s.fMode g = false then s
    else if p.sends < 8 then
      (s.updPart g sd (fun x => { x with sends := x.sends + 1 })).sendPropose g c p
    else (s.changeFail g).goOn
  | _, _ => s

/-- The time of R178 runs out: it counts from the first answer that counts as ACCEPT. -/
def State.changeTimeout (s : State) (g : Nat) : State :=
  match (s.port g).change with
  | some c => if s.fMode g && c.parts.any (fun p => p.acc) then (s.changeFail g).goOn else s
  | none => s

/-- A change of a G- or T-mode port is not carried out within 10 ms (R179). -/
def State.changeTimeoutTg (s : State) (g : Nat) : State :=
  if s.fMode g then s else (s.changeFail g).goOn

/-- 1 ms after a MAP_FAIL an escalation tries again (R183). -/
def State.retryEscalation (s : State) (g : Nat) : State :=
  match (s.port g).retry with
  | j :: rest => ((s.updPort g (fun r => { r with retry := rest })).pushFront g j).goOn
  | [] => s

/-- The foreground calibration of a position ends; in a FULL recalibration the position trains again once both
its lane-ends are done (R228, R231). TREF takes the reading (R226). -/
def State.fgDone (s : State) (fn : LaneFn) (i : Nat) (results : List FgResult) : State :=
  let busy := match fn with
    | .rx => (s.rxe i).fg && s.rxActive i
    | .tx => (s.txe i).fg && s.txActive i
  if busy && !s.on CAL.refvBad then
    let s := match fn with
      | .rx => (s.fgRxDone i results).requesterGo i
      | .tx => ((s.fgTxDone i results).framesStart i).requesterGo i
    let s := s.put (CAL.tref (sensorOf i)) (s.get (CAL.temp (sensorOf i)))
    match [0, 1, 2, 3].findSome? (fun g => match s.maintJob g with
        | some j => if j.task = .full ∧ j.step = 3 ∧ 34 * j.side + j.home = i then some (g, j) else none
        | none => none) with
    | some (g, j) =>
      if (s.rxe i).fg || (s.txe i).fg then s
      else ((({ s with bistHeld := s.bistHeld &&& (2 ^ 68 - 1 - 2 ^ i) }).bring g busyMaint).startReturn g j).goOn
    | none => s
  else s

/-- A result that a foreground calibration can report: of slices 0 to 65, or of cells 0 to 270 and the replica. -/
def fgResultOk (fn : LaneFn) (r : FgResult) : Bool :=
  match fn, r with
  | .rx, .slice n m => decide (n < 66) && cycleOk m
  | .tx, .cell n _ _ => decide (n < 271)
  | .tx, .replica _ _ => true
  | _, _ => false

/-- LANE_TRAINING_DONE (R112). -/
def execLaneTrainingDone (sd : Side) (p : Pos) (s : State) : Host.Outcome State Fault Refusal :=
  .next (s.ltDone (laneIdx sd p))

/-- LANE_TRAINING_TIMEOUT (R112). -/
def execLaneTrainingTimeout (sd : Side) (p : Pos) (s : State) : Host.Outcome State Fault Refusal :=
  .next (s.ltFailed (laneIdx sd p))

/-- SHADOW_COPY_START (R174). -/
def execShadowCopyStart (sd : Side) (p : Pos) (s : State) : Host.Outcome State Fault Refusal :=
  .next (s.shadowStart (laneIdx sd p))

/-- LANEMAP_PROPOSE (R178): received in F mode from the segment's partner. -/
def execLanemapPropose (g : Port) (sd : Side) (s : State) : Host.Outcome State Fault Refusal :=
  match s.lanemapIn g sd.idx 0 with
  | some w =>
    .next ((s.popLanemap g sd.idx).when (s.fMode g) (fun t => t.proposed g sd.idx w))
  | none => .next s

/-- LANEMAP_ACCEPT (R178). -/
def execLanemapAccept (g : Port) (sd : Side) (s : State) : Host.Outcome State Fault Refusal :=
  match s.lanemapIn g sd.idx 1 with
  | some w =>
    .next ((s.popLanemap g sd.idx).when (s.fMode g) (fun t => t.answered' g sd.idx w true))
  | none => .next s

/-- LANEMAP_REFUSE (R178). -/
def execLanemapRefuse (g : Port) (sd : Side) (s : State) : Host.Outcome State Fault Refusal :=
  match s.lanemapIn g sd.idx 2 with
  | some w =>
    .next ((s.popLanemap g sd.idx).when (s.fMode g) (fun t => t.answered' g sd.idx w false))
  | none => .next s

/-- LANEMAP_NOTICE (R179): of a G-mode port. -/
def execLanemapNotice (g : Port) (sd : Side) (s : State) : Host.Outcome State Fault Refusal :=
  match s.lanemapIn g sd.idx 3 with
  | some w =>
    .next ((s.popLanemap g sd.idx).when (decide (s.pers g = 1)) (fun t => t.noticed g sd.idx w))
  | none => .next s

/-- PROPOSE_RESEND (R178). -/
def execProposeResend (g : Port) (sd : Side) (s : State) : Host.Outcome State Fault Refusal :=
  .next (s.proposeAgain g sd.idx)

/-- MAP_SWITCH_TX (R178): at a marker boundary of the segment's transmitters. -/
def execMapSwitchTx (g : Port) (sd : Side) (s : State) : Host.Outcome State Fault Refusal :=
  .next (s.when (s.txMaySwitch g sd.idx) (fun t => (t.switchTx g sd.idx).goOn))

/-- MAP_CHANGE_TIMEOUT (R178). -/
def execMapChangeTimeout (g : Port) (s : State) : Host.Outcome State Fault Refusal :=
  .next (s.changeTimeout g)

/-- MAP_CHANGE_TIMEOUT_TG (R179). -/
def execMapChangeTimeoutTg (g : Port) (s : State) : Host.Outcome State Fault Refusal :=
  .next (s.changeTimeoutTg g)

/-- ESCALATION_RETRY (R183). -/
def execEscalationRetry (g : Port) (s : State) : Host.Outcome State Fault Refusal :=
  .next (s.retryEscalation g)

/-- FOREGROUND_CAL_DONE (R228). -/
def execForegroundCalDone (fn : LaneFn) (sd : Side) (p : Pos) (results : List FgResult) (s : State) :
    Host.Outcome State Fault Refusal :=
  if results.all (fgResultOk fn) then .next (s.fgDone fn (laneIdx sd p) results) else .fault .illFormed

end Sys2Proof.Machine
end

