-- ==== Sys2Proof/Machine/Timing.lean ====
section
/-! DEFINITION. Timing lanes and the Tx PLLs (03_lane_transmitter.md, R79 to R85; R20). `e` is 0 for
direction AB, 1 for BA. -/

namespace Sys2Proof.Machine

/-- The side whose receivers feed direction e: A for AB, B for BA. -/
def recvSide (e : Nat) : Nat := e % 2

/-- The side whose transmitters direction e drives. -/
def sendSide (e : Nat) : Nat := 1 - e % 2

/-- Lane-end index of entry k of a timing list; none where the entry is invalid (R87). -/
def State.timingLane (s : State) (e k : Nat) : Option Nat :=
  if s.on (GLB.tlValid e k) ∧ s.get (GLB.tlPos e k) < 34 then
    some (34 * recvSide e + s.get (GLB.tlPos e k))
  else none

/-- An entry is healthy (R79). -/
def State.healthy (s : State) (e k : Nat) : Bool :=
  match s.timingLane e k with
  | some i => s.rxActive i && !s.on (LRX.losNow i) && s.on (LRX.cdrLock i)
      && decide (s.reg (FLT.lecause i) = 0) && decide ((s.rxe i).freq.natAbs ≤ 25000)
  | none => false

/-- The first healthy entry in list order. -/
def State.firstHealthy (s : State) (e : Nat) : Option Nat :=
  (List.range 8).find? (fun k => s.healthy e k)

/-- PLL_HOLDOVER is raised once in a holdover with no healthy reference (R82). -/
def State.warnHoldover (s : State) (e : Nat) : State :=
  if (s.pll e).warned then s
  else (s.updPll e (fun p => { p with warned := true })).raise GLB.event 2

/-- The PLL enters holdover and keeps its averaged control word (R80). -/
def State.enterHoldover (s : State) (e : Nat) : State :=
  (s.put (GLB.hold e) 1).put (GLB.pllLock e) 0

/-- The PLL chooses the first healthy entry, or stays in holdover with PLL_HOLDOVER (R80, R82). -/
def State.failover (s : State) (e : Nat) : State :=
  match s.firstHealthy e with
  | some k => (((s.enterHoldover e).put (GLB.cur e) k).updPll e (fun p => { p with warned := false })).raise GLB.event 1
  | none => (s.enterHoldover e).warnHoldover e

/-- The bandwidth of a direction's Tx PLL in kHz: 0b11 is treated as 0b01 (R85). -/
def State.pllBandwidth (s : State) (e : Nat) : Nat :=
  match s.get (GLB.pllBw e) with
  | 0 => 100
  | 2 => 1600
  | _ => 400

/-- The PLL takes a frequency and is locked: HOLD clears (R80). -/
def State.pllTakes (s : State) (e : Nat) (f : Int) : State :=
  ((s.put (GLB.hold e) 0).put (GLB.pllLock e) 1).updPll e (fun _ => { freq := f, warned := false })

/-- The PLL locks to its reference (R80, R83): the current entry, or REFCLK. A holdover that has had no healthy entry
ends with a choice and TIMING_FAILOVER (R82). -/
def State.pllLocked (s : State) (e : Nat) : State :=
  if s.on (GLB.mode e) then (if s.on GLB.refclkOk then s.pllTakes e 0 else s)
  else
    let s := if (s.pll e).warned && (s.firstHealthy e).isSome then s.failover e else s
    match s.timingLane e (s.get (GLB.cur e)) with
    | some i => if s.healthy e (s.get (GLB.cur e)) then s.pllTakes e (s.rxe i).freq else s
    | none => s

/-- A write to a timing list register (R81): an edit that removes the current entry acts at once as a
failover. -/
def State.timingListWrite (s : State) (e half : Nat) (v : Word) : State :=
  let before := s.timingLane e (s.get (GLB.cur e))
  let t := s.setReg (GLB.tlist e half) (v &&& 0xBFBFBFBF#32)
  if !t.on (GLB.mode e) && before.isSome && decide (t.timingLane e (s.get (GLB.cur e)) ≠ before) then
    t.failover e
  else t

/-- A change of timing mode (R20): taken only while no link of the direction is up or training. -/
def State.timingMode (s : State) (e : Nat) (v : Nat) : State :=
  if s.get (GLB.mode e) = v then s
  else if s.anyBusy then s.raise GLB.event 0
  else (s.put (GLB.mode e) v).put (GLB.pllLock e) 0

/-- REFCLK is lost (R83, R215, R306): the event, the source, holdover in each reference-timed direction,
calibration suspended, and the Orbit oscillator untrimmed. It has been absent for 1 µs by then, in which unit time held its
value (R346): 625 ticks are taken back (DESIGN CHOICE, log entry 10). -/
def State.refclkLoss (s : State) : State :=
  if s.on GLB.refclkOk then
    let was := s.calSuspended
    let s := s.setCounter ECL.time (s.counter ECL.time - 625)
    let s := ((((s.put GLB.refclkOk 0).raise GLB.event 3).causeOn 171).put CAL.refclkLost 1).put ORB.trimmed 0
    (s.each [0, 1] (fun e t => if t.on (GLB.mode e) then (t.enterHoldover e).warnHoldover e else t)).suspendBegin
      was
  else s

/-- Unit time has counted n more ticks of 1.6 ns (R346). -/
def State.timeOn (s : State) (n : Nat) : State := s.setCounter ECL.time ((s.counter ECL.time + n) % 2 ^ 64)

/-- REFCLK is looked for (R346, R408): from the oscillator stage of the cold start on. -/
def State.refclkSought (s : State) : Bool :=
  match s.pwr.phase with
  | .run | .sleep | .deep | .entry _ => true
  | .stage k => decide (2 ≤ k ∨ s.pwr.origin ≠ 0)
  | .retry => decide (s.pwr.origin ≠ 0)
  | _ => false

/-- REFCLK has been present for 100 µs (R83): the event clears, and calibration resumes. Unit time has counted from the first of
its edges (R346): 62,500 ticks. -/
def State.refclkReturn (s : State) : State :=
  if s.on GLB.refclkOk || !s.refclkSought then s
  else
    let was := s.calSuspended
    let s := s.timeOn 62500
    ((((((s.put GLB.refclkOk 1).put ⟨GLB.event, 3, 1⟩ 0).causeOff 171).put CAL.refclkLost 0).put
      ORB.trimmed (boolNat (decide (s.pwr.phase ≠ .deep)))).suspendEnd was)

/-- PLL_HOLDOVER_ENTRY (R80): with no healthy entry PLL_HOLDOVER follows (R82). -/
def execPllHoldoverEntry (e : Eng) (s : State) : Host.Outcome State Fault Refusal :=
  .next ((s.enterHoldover e.idx).when
    (if s.on (GLB.mode e.idx) then !s.on GLB.refclkOk else decide (s.firstHealthy e.idx = none))
    (fun t => t.warnHoldover e.idx))

/-- TIMING_FAILOVER (R80, R82): in a loop-timed direction in holdover whose current entry is unhealthy, or which
has had no healthy entry in this holdover. -/
def execTimingFailover (e : Eng) (s : State) : Host.Outcome State Fault Refusal :=
  .next (s.when (!s.on (GLB.mode e.idx) && s.on (GLB.hold e.idx)
      && (!s.healthy e.idx (s.get (GLB.cur e.idx)) || (s.pll e.idx).warned))
    (fun t => t.failover e.idx))

/-- PLL_LOCK_DONE (R80). -/
def execPllLockDone (e : Eng) (s : State) : Host.Outcome State Fault Refusal :=
  .next (s.pllLocked e.idx)

/-- TIMING_REVERT (R81): with REVERT set, a healthy entry of higher priority is taken back. LOCK clears until the PLL has
locked to it; HOLD and TIMING_FAILOVER stay as they are (DESIGN CHOICE, log entry 38). -/
def execTimingRevert (e : Eng) (entry : Fin 8) (s : State) : Host.Outcome State Fault Refusal :=
  .next (s.when (s.on (GLB.revert e.idx) && !s.on (GLB.mode e.idx)
      && decide (entry.val < s.get (GLB.cur e.idx)) && s.healthy e.idx entry)
    (fun t => (t.put (GLB.cur e.idx) entry).put (GLB.pllLock e.idx) 0))

/-- TIMING_LIST_WRITE (R81). -/
def execTimingListWrite (e : Eng) (half : Fin 2) (v : Word) (s : State) :
    Host.Outcome State Fault Refusal :=
  .next (s.soft (GLB.tlist e.idx half) (fun t => t.timingListWrite e.idx half v))

/-- TIMING_MODE_WRITE (R20). -/
def execTimingModeWrite (e : Eng) (reference : Bool) (s : State) :
    Host.Outcome State Fault Refusal :=
  .next (s.soft GLB.timing (fun t => t.timingMode e.idx (boolNat reference)))

/-- REFCLK_RETURN (R83). -/
def execRefclkReturn (s : State) : Host.Outcome State Fault Refusal :=
  .next s.refclkReturn.goOn

/-- FREQ_RANGE (R84): of an F-mode port group in a reference-timed direction. -/
def execFreqRange (e : Eng) (g : Port) (s : State) : Host.Outcome State Fault Refusal :=
  .next (s.when (s.on (GLB.mode e.idx) && decide (s.pers g = 2) && s.on (GLB.en g))
    (fun t => t.raise GLB.event 4))

end Sys2Proof.Machine
end

