-- ==== Sys2Proof/Machine/Bist.lean ====
section
/-! DEFINITION. The slices of a self-test list (16_self_test.md): their preconditions, tests and verdicts. -/

namespace Sys2Proof.Machine

/-- The engines that a slice tests. -/
def sliceEngines (x : BistSlice) : List Nat :=
  match x.kind with
  | 2 => [x.sel / 128]
  | 3 => [x.sel / 128]
  | 4 => [0, 1]
  | _ => []

/-- The port whose logical lane the slice's position carries, where that port is up or training. -/
def State.sliceCarries (s : State) (x : BistSlice) : Option (Nat × Nat) :=
  (s.carried (sliceSide x) (slicePos x)).filter (fun _ => isUpOrTraining (s.posState (sliceSide x) (slicePos x)))

/-- The precondition of LOOPBACK (R377). A position in lane training, or one that other maintenance holds, is
not free to be tested (DEDUCED, log entry 21). -/
def State.loopbackPre (s : State) (x : BistSlice) : Bool :=
  !s.on CAL.refvBad && !s.on CAL.refclkLost && !(s.lt (sliceIdx x)).isSome && !s.bistHeld.testBit (sliceIdx x)
    && (match s.sliceCarries x with
      | none => true
      | some (g, _) => s.cfl g && decide (s.pers g ≠ 0)
          && decide (s.posState (sliceSide x) (slicePos x) = stUp) && !(s.freeSpares g (sliceSide x)).isEmpty)

/-- The precondition of a slice (R377). -/
def State.slicePre (s : State) (x : BistSlice) : Bool :=
  match x.kind with
  | 1 => s.loopbackPre x
  | 2 => !bitOf (s.get (BST.retired (x.sel / 128))) (x.sel % 16) && decide (s.get (BST.spare (x.sel / 128)) ≠ 15)
  | _ => (List.range 4).all (fun g => !s.on (GLB.en g))

/-- The list at the head is accepted (R376): with a precondition that fails it completes with PRECONDITION, and
no record is written (R26). -/
def State.bistAccept (s : State) : State :=
  match s.bist with
  | r :: rest =>
    if r.accepted then s
    else if r.slices.all s.slicePre then { s with bist := { r with accepted := true } :: rest }.noteBist
    else ({ s with bist := rest }.opDone r.owner stPrecondition 0)
  | [] => s

/-- A list comes to the core: it is accepted at once unless another is running (R376). -/
def State.bistAdd (s : State) (r : BistRun) : State :=
  let t := { s with bist := s.bist ++ [r] }
  if s.bist.isEmpty then t.bistAccept else t

/-- The slice in progress goes to a stage. -/
def State.bistStage (s : State) (st : BistStage) : State := s.updBist (fun r => { r with stage := st })

/-- The test of a LOOPBACK slice on a position that carries no lane of a port in service starts: its lane-ends
become ACTIVE (R379). -/
def State.loopbackDirect (s : State) (x : BistSlice) : State :=
  let s := { s with bistHeld := s.bistHeld ||| bistBit x }
  ((s.bistStage .testing).endCycles (sliceIdx x)).goOn

/-- An engine scan begins (R383): every key-store slot becomes invalid, and the engines' buffers and sequence
state are zero-initialised. -/
def State.scanStart (s : State) (x : BistSlice) : State :=
  let s := s.each (List.range 16) (fun n t => t.setKey (n / 8) (n / 4 % 2) (n % 4) ⟨0, 0, false⟩)
  (s.each (sliceEngines x) (fun e t => t.zeroEngine e)).bistStage .testing

/-- A slice of an accepted list starts (R376, R379, R381, R383). -/
def State.sliceGo (s : State) : State :=
  match s.bistHead with
  | some r =>
    if r.stage ≠ .waiting ∨ r.accepted = false then s
    else match r.slices[r.k]? with
      | none => s
      | some x =>
        if !s.slicePre x then s.bistVerdict vPrecondition 0 0 false
        else if x.kind = 1 then
          match s.sliceCarries x with
          | some (g, n) =>
            ((s.bistStage .moving).pushJob g { Job.blank .loopback (sliceSide x) n with home := slicePos x }).goOn
          | none => s.loopbackDirect x
        else if x.kind = 2 then
          s.bistStage (if s.get (BST.spare (x.sel / 128)) = x.sel % 16 then .testing else .copying)
        else s.scanStart x
  | none => s

/-- The next slice starts; a list that has waited is accepted first. -/
def State.sliceStart (s : State) : State := s.bistAccept.sliceGo

/-- The running slice of a kind at a stage. -/
def State.sliceAt (s : State) (kind : Nat) (st : BistStage) : Option BistSlice :=
  match s.bistHead with
  | some r => if r.stage = st then (r.slices[r.k]?).filter (fun x => decide (x.kind = kind)) else none
  | none => none

/-- The port and task that carry a LOOPBACK slice's lane. -/
def State.loopJob (s : State) : Option (Nat × Job) :=
  [0, 1, 2, 3].findSome? (fun g => (s.maintJob g).bind (fun j =>
    if j.task = .loopback then some (g, j) else none))

/-- A slice ends with its verdict. -/
def State.sliceEnds (s : State) (verdict us detail : Nat) (ran : Bool) : State :=
  (s.bistVerdict verdict us detail ran).goOn

/-- The slice's position has been marked failed or isolated meanwhile (R389). -/
def State.sliceLost (s : State) (x : BistSlice) (g : Nat) : Bool :=
  s.isIsolated (sliceIdx x) || s.posFailed g (sliceSide x) (slicePos x)

/-- LOOPBACK passed: the lane returns to its position, and the verdict stands when it has (R379); it stays on the spare where
an escalation has marked the position failed (R389). -/
def State.loopPassed (s : State) (x : BistSlice) (us detail : Nat) : State :=
  match s.loopJob with
  | some (g, j) =>
    if s.sliceLost x g then
      ((((s.unhold j).bring g busyMaint).dropHead g).settleSpares).sliceEnds vPass us detail true
    else
      let s := { s with bistHeld := s.bistHeld &&& (2 ^ 68 - 1 - bistBit x) }
      (((s.updBist (fun r => { r with stage := .returning, verdict := vPass, us := us, detail := detail })).bring g
        busyMaint).startReturn g j).goOn
  | none => s.sliceEnds vPass us detail true

/-- LOOPBACK failed or ran out of its budget (R379, R380): both lane-ends are isolated with BIST_FAIL, and a lane
that has moved stays on its spare. -/
def State.loopFailed (s : State) (x : BistSlice) (verdict us detail : Nat) : State :=
  let i := sliceIdx x
  let s := (({ s with isolated := s.isolated ||| 2 ^ i }).leSet i 6).leSet (68 + i) 6
  let s := match s.loopJob with
    | some (g, j) => ((((s.unhold j).bring g busyMaint).dropHead g).settleSpares)
    | none => s
  s.sliceEnds verdict us detail true

/-- Slices whose result calls for a trim outside the absolute window of R218; RETIRED ones are not measured (R380). -/
def State.badSlices (s : State) (i : Nat) (r : LoopResult) : List Nat :=
  r.results.filterMap (fun
    | .slice n m =>
      let t := cycleTrims m
      if s.get (LRX.slice i n) ≠ 3 ∧ (96 < t.offset.natAbs ∨ 120 < t.gain.natAbs ∨ 120 < t.skew.natAbs) then some n else none
    | _ => none)

/-- Unit cells whose result lies outside the window; RETIRED ones are not measured. -/
def State.badCells (s : State) (i : Nat) (r : LoopResult) : List Nat :=
  r.results.filterMap (fun
    | .cell n trim _ => if s.get (LTX.cell i n) ≠ 2 ∧ 30 < trim.natAbs then some n else none
    | _ => none)

/-- The replica's result lies outside its window. -/
def replicaOut (r : LoopResult) : Bool :=
  r.results.any (fun
    | .replica trim _ => decide (100 < trim.natAbs)
    | _ => false)

/-- DETAIL of a LOOPBACK record from byte 12 (R386). -/
def State.loopDetail (s : State) (i : Nat) (r : LoopResult) : Nat :=
  let low (d : Nat) (l : List Nat) : Nat := match l with
    | [] => d
    | n :: ns => ns.foldl min n
  let a := s.badSlices i r
  let b := s.badCells i r
  min r.symErrors (2 ^ 32 - 1) + 2 ^ 32 * min a.length 255 + 2 ^ 40 * low 0xFF a
    + 2 ^ 48 * min b.length 65535 + 2 ^ 64 * low 0xFFFF b + 2 ^ 80 * boolNat (replicaOut r)

/-- What the test measures, in its order (R380): the unit cells that are not RETIRED, the replica, and the slices that are not
RETIRED. -/
def State.testElems (s : State) (i : Nat) : List (Nat × Nat) :=
  ((List.range 271).filter (fun n => decide (s.get (LTX.cell i n) ≠ 2))).map (fun n => (0, n)) ++ [(1, 0)]
    ++ ((List.range 66).filter (fun n => decide (s.get (LRX.slice i n) ≠ 3))).map (fun n => (2, n))

/-- What a result list names. -/
def resultElems (r : LoopResult) : List (Nat × Nat) :=
  r.results.map (fun
    | .cell n _ _ => (0, n)
    | .replica _ _ => (1, 0)
    | .slice n _ => (2, n))

/-- The loopback test passes (R380). -/
def State.loopPass (s : State) (i : Nat) (r : LoopResult) : Bool :=
  decide (r.symErrors = 0) && (s.badSlices i r).isEmpty && (s.badCells i r).isEmpty && !replicaOut r

/-- The result of a loopback test, at lane-ends that are ACTIVE and calibrated (R377, R380), or that an escalation has
isolated meanwhile (R389). A list that leaves out an element that is measured, or names another, is no result of the test. -/
def State.loopbackDone (s : State) (r : LoopResult) : State :=
  match s.sliceAt 1 .testing with
  | some x =>
    let i := sliceIdx x
    if s.loopReady i && decide (resultElems r = s.testElems i) then
      if s.loopPass i r then s.loopPassed x r.durationUs (s.loopDetail i r)
      else s.loopFailed x vFail r.durationUs (s.loopDetail i r)
    else s
  | none => s

/-- REFV_BAD or REFCLK_LOST is set during LOOPBACK (R389): the slice ends with PRECONDITION and nothing is
isolated; its lane goes back, or goes on going back. How far a test had come that is cut short is not stated: free values. -/
def State.bistRef (s : State) : State :=
  if s.on CAL.refvBad || s.on CAL.refclkLost then
    match s.sliceAt 1 .testing, s.sliceAt 1 .moving with
    | some _, _ =>
      let s := match s.loopJob with
        | some (g, j) => (s.bring g busyMaint).giveLane g j
        | none => s
      (s.bistCut vPrecondition).goOn
    | _, some _ =>
      let s := match s.loopJob with
        | some (g, j) => (s.bring g busyMaint).giveLane g j
        | none => s.each [0, 1, 2, 3] (fun g t => t.updPort g (fun r => { r with
            jobs := r.jobs.filter (fun j => decide (j.task ≠ Task.loopback)) }))
      (s.bistCut vPrecondition).goOn
    | _, _ =>
      match s.sliceAt 1 .returning, s.loopJob with
      | some _, some (g, j) => (((s.bring g busyMaint).giveLane g j).bistCut vPrecondition).goOn
      | _, _ => s
  else s

/-- The copy is complete: the spare takes the role of the bank under test (R381). -/
def State.rotateDone (s : State) : State :=
  match s.sliceAt 2 .copying with
  | some x => (s.put (BST.spare (x.sel / 128)) (x.sel % 16)).bistStage .testing
  | none => s

/-- A bank is retired (R382). -/
def State.bankRetire (s : State) (x : BistSlice) : State :=
  let e := x.sel / 128
  (((s.put (BST.retired e) (s.get (BST.retired e) ||| 2 ^ (x.sel % 16))).put (BST.spare e) 15).causeOn
    (146 + 12 * e)).raise BST.event 2

/-- DETAIL of an MBIST record (R386). -/
def marchDetail (r : MarchResult) : Nat :=
  if r.fails = 0 then 0
  else r.word + 2 ^ 16 * r.background + 2 ^ 24 * r.operation + 2 ^ 32 * min r.fails 65535

/-- The march ends (R382). -/
def State.marchDone (s : State) (r : MarchResult) : State :=
  match s.sliceAt 2 .testing with
  | some x =>
    if r.fails = 0 then s.sliceEnds vPass r.durationUs 0 true
    else (s.bankRetire x).sliceEnds vFail r.durationUs (marchDetail r) true
  | none => s

/-- The consequence of an engine scan (R384): the tested engines are reset and zero-initialised, then usable or
held. -/
def State.scanVerdict (s : State) (x : BistSlice) (pass : Bool) : State :=
  let s := s.each (sliceEngines x) (fun e t => t.zeroEngine e)
  if x.kind = 3 then s.put (BST.held (x.sel / 128)) (boolNat !pass)
  else if pass then (s.put (BST.held 0) 0).put (BST.held 1) 0
  else s.causeOn 181

/-- The scan slice in its test. -/
def State.scanSlice (s : State) : Option BistSlice :=
  match s.sliceAt 3 .testing with
  | some x => some x
  | none => s.sliceAt 4 .testing

/-- The signature is compared (R383, R384). -/
def State.scanDone (s : State) (r : ScanResult) : State :=
  match s.scanSlice with
  | some x =>
    let pass := decide (r.sigXor = 0)
    (s.scanVerdict x pass).sliceEnds (if pass then vPass else vFail) r.durationUs
      (r.sigXor.toNat + 2 ^ 32 * scanPatterns) true
  | none => s

/-- The budget of the slice in its test expires (R378): TIMEOUT, with the consequence of FAIL. The duration is the
budget, which runs from the start of the test; DETAIL is a free value. -/
def State.budgetExpiry (s : State) : State :=
  match s.sliceAt 1 .testing, s.sliceAt 2 .testing, s.scanSlice with
  | some x, _, _ =>
    if s.loopReady (sliceIdx x) then
      (s.freeDetail 1).1.loopFailed x vTimeout (1000 * bistBudget x) (s.freeDetail 1).2
    else s
  | _, some x, _ =>
    ((s.freeDetail 2).1.bankRetire x).sliceEnds vTimeout (1000 * bistBudget x) (s.freeDetail 2).2 true
  | _, _, some x =>
    ((s.freeDetail 3).1.scanVerdict x false).sliceEnds vTimeout (1000 * bistBudget x) (s.freeDetail 3).2 true
  | _, _, _ => s

/-- A loopback result holds measurements that the test takes. -/
def loopOk (r : LoopResult) : Bool := r.results.all (fun x => fgResultOk .rx x || fgResultOk .tx x)

/-- A march result names a word, background and operation of R381. -/
def marchOk (r : MarchResult) : Bool := decide (r.word < 3072 ∧ r.background < 4 ∧ r.operation < 14)

/-- SLICE_START (R376). -/
def execSliceStart (s : State) : Host.Outcome State Fault Refusal := .next s.sliceStart

/-- LOOPBACK_DONE (R380). -/
def execLoopbackDone (r : LoopResult) (s : State) : Host.Outcome State Fault Refusal :=
  if loopOk r then .next (s.loopbackDone r) else .fault .illFormed

/-- MBIST_ROTATE_DONE (R381). -/
def execMbistRotateDone (s : State) : Host.Outcome State Fault Refusal := .next s.rotateDone

/-- MBIST_DONE (R382). -/
def execMbistDone (r : MarchResult) (s : State) : Host.Outcome State Fault Refusal :=
  if marchOk r then .next (s.marchDone r) else .fault .illFormed

/-- LBIST_DONE (R384). -/
def execLbistDone (r : ScanResult) (s : State) : Host.Outcome State Fault Refusal := .next (s.scanDone r)

/-- BIST_BUDGET_EXPIRY (R378). -/
def execBistBudgetExpiry (s : State) : Host.Outcome State Fault Refusal := .next s.budgetExpiry

/-- REFV_CHECK (R215, R389). -/
def execRefvCheck (inWindow : Bool) (s : State) : Host.Outcome State Fault Refusal :=
  .next ((s.refvCheck inWindow).bistRef)

/-- REFCLK_LOSS (R83, R389). -/
def execRefclkLoss (s : State) : Host.Outcome State Fault Refusal := .next s.refclkLoss.bistRef

end Sys2Proof.Machine
end

