-- ==== Sys2Proof/Machine/OrbitCore.lean ====
section
/-! DEFINITION. The Orbit chain (13_orbit_chain.md): frames and sequences, how a worker relays and wraps, and the
manager's requests, sequences and chain sequencer. -/

namespace Sys2Proof.Machine

/-- 0 for U, 1 for D. -/
def portIdx : OrbPort → Nat
  | .U => 0
  | .D => 1

def otherPort : OrbPort → OrbPort
  | .U => .D
  | .D => .U

/-- A character on a pair: whether it is a control character, and its code or data (R304). -/
abbrev OrbChar : Type := Bool × Byte

def ctlChar (code : Nat) : OrbChar := (true, BitVec.ofNat 8 code)

/-- The control characters (R309). -/
def chIdle : OrbChar := ctlChar 0x00
def chEmpty : OrbChar := ctlChar 0x01
def chSof : OrbChar := ctlChar 0x02
def chEof : OrbChar := ctlChar 0x03
def chBad : OrbChar := ctlChar 0x0F
def chMark : OrbChar := ctlChar 0x14
def chAbort : OrbChar := ctlChar 0x15

/-- The lead of a priority sequence: 0 QUENCH, 1 ECLIPSE, 2 WAKE, 3 BEACON (R309). -/
def chLead (lead : Nat) : OrbChar := ctlChar (0x10 + lead)

/-- A control code that is BAD, or reserved and handled as BAD (R309). -/
def codeBad (c : Byte) : Bool := !decide (c.toNat < 4 ∨ 0x10 ≤ c.toNat ∧ c.toNat ≤ 0x15)

/-- The 11 bits of a character, in the order in which they are sent (R304). -/
def charBits (c : OrbChar) : List Bool := false :: (List.range 8).map (fun k => c.2.toNat.testBit k) ++ [c.1, true]

/-- Characters 1 to 6 + L of a frame, HOPS taken as zero (R310). -/
def frameChars (f : Frame) : List Byte := [f.dest, f.src, f.ftype, f.tag, 0, f.len] ++ f.payload

/-- The bytes of a frame between SOF and EOF (R310): its CRC goes high byte first. -/
def frameBytes (f : Frame) : List Byte :=
  [f.dest, f.src, f.ftype, f.tag, f.hops, f.len] ++ f.payload
    ++ [BitVec.ofNat 8 (f.crc.toNat / 256), BitVec.ofNat 8 f.crc.toNat]

/-- What goes out in place n where a byte b stands (R309): BAD for a character with a framing error or lost, and for BAD and reserved
codes. -/
def wireChar (ctl : List (Nat × Option Byte)) (n : Nat) (b : Byte) : OrbChar :=
  match ctl.find? (fun c => decide (c.1 = n)) with
  | some (_, some c) => if codeBad c then chBad else (true, c)
  | some (_, none) => chBad
  | none => (false, b)

/-- What goes out in place n of a frame whose byte there is b. -/
def frameChar (f : Frame) (n : Nat) (b : Byte) : OrbChar := wireChar f.ctl n b

/-- What goes out in place n of the characters l of a priority sequence: BAD too for those that input loss has taken (R309). -/
def priChar (q : PriSeq) (l : List Byte) (n : Nat) (b : Byte) : OrbChar :=
  if l.length - q.short ≤ n then chBad else wireChar q.ctl n b

/-- The characters of a frame from SOF to EOF (R309, R310). -/
def frameWire (f : Frame) : List OrbChar := chSof :: (frameBytes f).mapIdx (frameChar f) ++ [chEof]

/-- Characters of a frame with a framing error (R331). -/
def framingErrors (f : Frame) : Nat := (f.ctl.filter (fun c => c.2.isNone)).length

/-- What an output on an Orbit port puts on its pair (R308, R309, R316): a slot of 76 characters, or a priority sequence,
of which QUENCH has no FLAGS and no RSTAT, WAKE no FLAGS, and BEACON nothing after CHK. -/
def Out.chars : Out → List OrbChar
  | .frame _ f => frameWire f ++ List.replicate (76 - (frameWire f).length) chIdle
  | .emptySlot _ => chEmpty :: List.replicate 75 chIdle
  | .priority _ lead q =>
    let l := q.data ++ [q.chk] ++ (match lead with
      | 0 => [q.applied, q.refused]
      | 1 => [q.flags, q.applied, q.refused, q.rstat]
      | 2 => [q.applied, q.refused, q.rstat]
      | _ => [])
    chLead lead :: l.mapIdx (priChar q l)
  | .mark _ => [chMark]
  | .abort _ => [chAbort]
  | _ => []

def frameCrc (f : Frame) : BitVec 16 := BitVec.ofNat 16 (crc16 (frameChars f))

/-- The frame held no BAD, no reserved control code and no character with a framing error (R309, R311). -/
def frameClean (f : Frame) : Bool := f.ctl.all (fun c => match c.2 with
  | some b => !codeBad b
  | none => false)

/-- The frame is not one that its receiver discards (R310, R311). -/
def frameGood (f : Frame) : Bool :=
  frameClean f && decide (f.len.toNat = f.payload.length ∧ f.payload.length ≤ 64) && decide (f.crc = frameCrc f)

/-- The frame with its CRC computed. -/
def sealFrame (f : Frame) : Frame := { f with crc := frameCrc f }

/-- A relay that changes the payload recomputes the CRC, and keeps a wrong one wrong (R310). -/
def withPayload (f : Frame) (l : List Byte) : Frame :=
  let g := { f with payload := l }
  { g with crc := if f.crc = frameCrc f then frameCrc g else frameCrc g ^^^ 0xFFFF#16 }

/-- Byte n of a payload. -/
def payByte (f : Frame) (n : Nat) : Nat := (f.payload.getD n 0).toNat

/-- Bytes n to n + k − 1 of a payload, least significant first (R312). -/
def payNat (f : Frame) (n k : Nat) : Nat := ofBytes ((f.payload.drop n).take k)

/-- Number of data characters of a sequence: 0 QUENCH, 1 ECLIPSE, 2 WAKE, 3 BEACON (R316). -/
def priLen (lead : Nat) : Nat :=
  match lead with
  | 0 => 6
  | 1 => 4
  | 2 => 2
  | _ => 3

/-- The sequence arrived whole, with the CHK that its data characters give (R317). -/
def priGood (lead : Nat) (q : PriSeq) : Bool :=
  q.intact && decide (q.data.length = priLen lead) && decide (q.chk = BitVec.ofNat 8 (crc8 q.data))

/-- A sequence as the manager sends it, with its own part already counted. -/
def priOf (data : List Byte) (mine : Option Nat) : PriSeq :=
  { data := data, chk := BitVec.ofNat 8 (crc8 data), flags := 0,
    applied := if mine = some 0 then 1 else 0,
    refused := match mine with
      | some (_ + 1) => 1
      | _ => 0,
    rstat := BitVec.ofNat 8 (mine.getD 0), ctl := [], short := 0 }

/-- Changes the unit's Orbit state. -/
def State.updOrb (s : State) (f : Orbit → Orbit) : State := { s with orbit := f s.orbit }

/-- The always-on domain is powered, so that the unit relays (R318), RESET_N is not low, with which its Orbit pins float (R420), and no
JTAG instruction drives them (R458). -/
def State.orbUp (s : State) : Bool := s.pwr.rails.testBit 0 && decide (s.pwr.phase ≠ .held) && !s.jtagPins

/-- A discarded frame (R311). -/
def State.discardFrame (s : State) : State := (s.count ORB.frameErr).raise ORB.event 9

/-- The framing errors of a frame are counted (R331). -/
def State.framing (s : State) (f : Frame) : State :=
  if framingErrors f = 0 then s else s.countBy ORB.charErr (framingErrors f)

/-- A receiver discards a damaged frame (R311). -/
def State.badFrame (s : State) (f : Frame) : State := (s.framing f).discardFrame

/-- The port by which what arrives on port p leaves: the other one, or p itself where the other is wrapped
(R307, R324). -/
def State.outPort (s : State) (p : OrbPort) : OrbPort :=
  if s.on (ORB.wrap (portIdx (otherPort p))) then p else otherPort p

/-- A worker drives no lost port (R324). -/
def State.drives (s : State) (p : OrbPort) : Bool := s.manager || !s.on (ORB.loss (portIdx p))

/-- Sends a frame on a port. -/
def State.sendFrame (s : State) (p : OrbPort) (f : Frame) : State :=
  if s.drives p then s.emit (.frame p f) else s

/-- A relay passes a frame on, or discards one whose HOPS would pass 255 (R310, R311). -/
def State.relayFrame (s : State) (p : OrbPort) (f : Frame) : State :=
  let s := s.framing f
  if f.hops.toNat = 255 then s.discardFrame
  else s.sendFrame (s.outPort p) { f with hops := f.hops + 1 }

/-- What arrives on the port reaches a worker: a wrapped port is cut off. -/
def State.workerHears (s : State) (p : OrbPort) : Bool :=
  s.orbUp && !s.manager && !s.on (ORB.wrap (portIdx p))

/-- The port on which traffic away from the manager arrives (R320). -/
def State.outboundIn (s : State) : OrbPort := if s.get ORB.arm = 2 then .D else .U

/-- The frame is addressed to this unit, and arrives on the outbound path. -/
def State.toMe (s : State) (p : OrbPort) (f : Frame) : Bool :=
  s.on ORB.addrValid && decide (p = s.outboundIn) && decide (f.dest.toNat = s.get ORB.addr)

/-- A worker that consumes a frame leaves its slot EMPTY (R313). -/
def State.takeFrame (s : State) (p : OrbPort) : State :=
  if s.drives (s.outPort p) then s.emit (.emptySlot (s.outPort p)) else s

/-- A worker handles a frame that it has consumed, or discards it (R311, R313). -/
def State.consume (s : State) (p : OrbPort) (f : Frame) (own : State → State) : State :=
  if frameGood f then own (s.takeFrame p) else (s.takeFrame p).badFrame f

/-- A frame at a worker (R313): consumed and handled where it is addressed to the unit, else relayed. -/
def State.atWorker (s : State) (p : OrbPort) (f : Frame) (own : State → State) : State :=
  if s.workerHears p then
    if s.toMe p f then s.consume p f own else s.relayFrame p f
  else s

/-- A relay passes a priority sequence in place (R316). -/
def State.relayPri (s : State) (p : OrbPort) (lead : Nat) (q : PriSeq) : State :=
  if s.drives (s.outPort p) then s.emit (.priority (s.outPort p) lead q) else s

/-- The framing errors of a sequence are counted (R331). -/
def State.notePri (s : State) (q : PriSeq) : State :=
  let n := (q.ctl.filter (fun c => c.2.isNone)).length
  if n = 0 then s else s.countBy ORB.charErr n

/-- A worker takes the next frame of its own into the first slot left EMPTY (R313): its CRC is computed as it
leaves. -/
def State.workerSend (s : State) : State :=
  match s.waitq with
  | f :: rest =>
    if s.orbUp && !s.manager then ({ s with waitq := rest }).sendFrame (s.outPort s.outboundIn) (sealFrame f) else s
  | [] => s

/-- PRESENT workers, in address order (R331). -/
def State.present254 (s : State) : List Nat :=
  ((List.range 255).drop 1).filter (fun a => decide (s.get (ORB.mapState a) = 1))

def State.noteUnits (s : State) : State := s.put ORB.units s.present254.length

/-- The manager's port toward a worker (R325). -/
def State.portTo (s : State) (a : Nat) : OrbPort :=
  if s.on ORB.folded && decide (s.get (ORB.mapArm a) = 2) then .U else .D

/-- The manager's ports for a broadcast or a sequence (R325). -/
def State.castPorts (s : State) : List OrbPort := if s.on ORB.folded then [.D, .U] else [.D]

/-- One slot in every EMPTY_EVERY of a train stays EMPTY; values below 2 count as 2 (R308). -/
def State.emptyEvery (s : State) : Nat := max 2 (s.get ORB.emptyEvery)

/-- The next slot of a train is the one that stays EMPTY (R308). -/
def State.emptyDue (s : State) (p : OrbPort) : Bool :=
  decide (s.emptyEvery ≤ Sparse.get 0 s.orbit.slots (portIdx p) + 1)

/-- The manager leaves the slot EMPTY that is due on a train before its next frame (R308). -/
def State.leaveEmpty (s : State) (p : OrbPort) : State :=
  let n := if s.emptyDue p then 1 else Sparse.get 0 s.orbit.slots (portIdx p) + 1
  (s.updOrb (fun o => { o with slots := Sparse.set 0 o.slots (portIdx p) n })).when (s.emptyDue p)
    (fun t => t.emit (.emptySlot p))

/-- A frame of the manager. With a second manager seen it sends none (R319), and none leaves while it does not drive its pins. -/
def State.mgrFrame (s : State) (p : OrbPort) (dest ftype tag : Nat) (payload : List Byte) : State :=
  if s.on ORB.conflict || !s.orbUp then s
  else (s.leaveEmpty p).emit (.frame p (sealFrame
    { dest := BitVec.ofNat 8 dest, src := 0, ftype := BitVec.ofNat 8 ftype, tag := BitVec.ofNat 8 tag, hops := 0,
      len := BitVec.ofNat 8 payload.length, payload := payload, crc := 0, ctl := [] }))

/-- The lowest TAG with no request outstanding for the target; none while all 256 are in use (R315). -/
def State.freeTag (s : State) (target : Nat) : Option Nat :=
  (List.range 256).find? (fun t => !s.orbit.reqs.any (fun r => decide (r.target = target ∧ r.tag = t)))

/-- The TAG of a frame that asks for no answer. -/
def State.newTag (s : State) (target : Nat) : Nat := (s.freeTag target).getD 255

/-- The manager sends a descriptor's request to its target (R312, R315); it waits while no TAG is free. -/
def State.sendReq (s : State) (q idx target ftype : Nat) (payload : List Byte) (image : List Byte) : State :=
  match s.freeTag target with
  | some tag =>
    let s := s.updOrb (fun o => { o with
      reqs := o.reqs ++ [{ tag := tag, target := target, q := q, idx := idx, accepted := false, got := 0, next := 0,
                           image := image }] })
    (s.mgrFrame (s.portTo target) target ftype tag payload).updFlight q idx (fun f => { f with
      stage := .started, gen := s.orbit.gen })
  | none => s

def State.reqOf (s : State) (target tag : Nat) : Option OrbReq :=
  s.orbit.reqs.find? (fun r => decide (r.target = target ∧ r.tag = tag))

def State.updReq (s : State) (target tag : Nat) (f : OrbReq → OrbReq) : State :=
  s.updOrb (fun o => { o with reqs := o.reqs.map (fun r => if r.target = target ∧ r.tag = tag then f r else r) })

/-- A request completes. -/
def State.endReq (s : State) (r : OrbReq) (status result : Nat) : State :=
  (s.updOrb (fun o => { o with
    reqs := o.reqs.filter (fun x => !decide (x.target = r.target ∧ x.tag = r.tag)) })).answerFlight
      r.q r.idx status result r.target

/-- A priority sequence goes out (R316, R325): WAKE on both trains (R403), another lead as a broadcast; none with a second
manager seen (R319). -/
def State.priSend (s : State) (p : PriOut) : State :=
  if s.on ORB.conflict || !s.orbUp then s
  else p.ports.foldl (fun t o => t.emit (.priority o p.lead (priOf p.data (if o = .D then p.mine else none)))) s

/-- A sequence has returned on every port, or is given up: its outcome (R202, R267, R270, R340, R403). An
ECLIPSE waits for the manager's own capture. -/
def State.priOutcome (s : State) (p : PriOut) (answered : Bool) : State :=
  let result := p.applied % 2 ^ 16 + 2 ^ 16 * p.refused
  let status := if !answered then stNoResponse else if p.refused = 0 then stOk else p.rstat
  match p.lead with
  | 0 =>
    match p.owner with
    | .ring q idx =>
      let all := match s.flight q idx with
        | some f => decide (dTarget f.desc = 0xFF)
        | none => false
      s.opDone p.owner (if !all && s.on ORB.conflict && !answered then stNoUnit
        else if answered && decide (p.refused ≠ 0) then stTableFull else status) (if all then result else 0)
    | _ => s
  | 1 =>
    match p.owner with
    | .ring q idx => { s with ecliDone := s.ecliDone ++ [(q, idx, status, result)] }
    | _ => s
  | 2 =>
    let s := s.put ORB.wBusy 0
    if answered then ((s.put ORB.wApplied p.applied).put ORB.wRefused p.refused).put ORB.wRstat p.rstat
    else s.put ORB.wNoresp 1
  | _ => s.opDone p.owner status result

/-- The manager starts a sequence; with a second manager seen none goes out (R319): a descriptor completes, and a WAKE, which
has none, stays BUSY until its re-sends would have failed (R403; log entry 43). -/
def State.priStart (s : State) (lead : Nat) (data : List Byte) (mine : Option Nat) (owner : Owner) : State :=
  let p : PriOut := { lead := lead, tag := 0, data := data, ports := if lead = 2 then [.D, .U] else s.castPorts,
                      mine := mine, gen := s.orbit.gen, tries := 0, applied := 0, refused := 0, rstat := 0,
                      owner := owner }
  if s.on ORB.conflict && decide (lead ≠ 2) then s.priOutcome p false
  else (s.updOrb (fun o => { o with pris := o.pris ++ [p] })).priSend p

/-- A sequence or broadcast has come back on the port it left by, with its counts. -/
def State.priBack (s : State) (p : PriOut) (left : OrbPort) (applied refused rstat : Nat) : State :=
  let p' : PriOut := { p with
    ports := p.ports.filter (fun o => decide (o ≠ left)), applied := p.applied + applied, refused := p.refused + refused,
    rstat := if p.refused = 0 then rstat else p.rstat }
  if p'.ports.isEmpty then
    (s.updOrb (fun o => { o with pris := o.pris.filter (fun x => decide (x ≠ p)) })).priOutcome p' true
  else s.updOrb (fun o => { o with pris := o.pris.map (fun x => if x = p then p' else x) })

/-- The manager sends a sequence again, or gives it up after PRI_RETRY re-sends (R317) or once a second manager has been
seen (R319), but for a WAKE (R403). Where the path has changed since it left, it goes out on the ports of the present path
with its counts begun again (R330). The sequences under way stand in the order in which they last left. -/
def State.priAgain (s : State) (p : PriOut) : State :=
  let s := s.updOrb (fun o => { o with pris := o.pris.filter (fun x => decide (x ≠ p)) })
  if s.get ORB.priRetry ≤ p.tries ∨ (s.on ORB.conflict && decide (p.lead ≠ 2)) = true then s.priOutcome p false
  else
    let p' : PriOut :=
      if p.gen = s.orbit.gen then { p with tries := p.tries + 1 }
      else { p with tries := p.tries + 1, gen := s.orbit.gen, ports := if p.lead = 2 then [.D, .U] else s.castPorts,
                    applied := 0, refused := 0, rstat := 0 }
    (s.updOrb (fun o => { o with pris := o.pris ++ [p'] })).priSend p'

/-- The manager's port by which what returns on port p left: across an intact ring, or along a folded arm. -/
def State.leftBy (s : State) (p : OrbPort) : OrbPort := if s.on ORB.folded then p else otherPort p

/-- The sequences under way that are still to return on port p, in the order in which they left. -/
def State.prisOn (s : State) (p : OrbPort) : List PriOut :=
  s.orbit.pris.filter (fun x => decide (x.lead ≠ 3 ∧ s.leftBy p ∈ x.ports))

/-- A priority sequence returns to the manager (R317): whole, it is the one with its data; damaged or short, it is the oldest
that is still to return on that port (DEDUCED, log entry 43). -/
def State.priReturn (s : State) (p : OrbPort) (q : PriSeq) : State :=
  if s.orbUp && s.manager then
    let s := s.notePri q
    match (s.prisOn p).find? (fun x => priGood x.lead q && decide (q.data = x.data)) with
    | some x => s.priBack x (s.leftBy p) q.applied.toNat q.refused.toNat (if x.lead = 0 then 0 else q.rstat.toNat)
    | none =>
      match (s.prisOn p).head? with
      | some x => s.priAgain x
      | none => s
  else s

/-- A sequence has not returned within the loop time plus 2 µs (R317): the one that left first. -/
def State.priTimeout (s : State) : State :=
  if s.orbUp && s.manager then
    match s.orbit.pris.find? (fun x => decide (x.lead ≠ 3)) with
    | some x => s.priAgain x
    | none => s
  else s

/-- Delay measurement: the worker and direction at its head (R322). After a fold each worker is reached on its
arm alone. -/
def State.measureList (s : State) : List (Nat × Bool) :=
  (s.present254.map (fun a =>
    if s.on ORB.folded then [(a, decide (s.get (ORB.mapArm a) = 2))] else [(a, false), (a, true)])).flatten

/-- ECL_T in 0.05 ns: 1 µs more than the largest delay of the chain (R322). -/
def State.eclOf (s : State) : Nat :=
  20000 + (s.orbit.delays.map (fun d => max d.2.1 d.2.2)).foldl max 0

/-- Both delays and ECL_T are written into every worker, and ECL_T into the manager (R322). -/
def State.sendDelays (s : State) : State :=
  let t := s.eclOf
  (s.each s.present254 (fun a u =>
    let d := Sparse.get (0, 0) u.orbit.delays a
    u.mgrFrame (u.portTo a) a 0x0F (u.newTag a) (3 :: (bytesOf 3 d.1 ++ bytesOf 3 d.2 ++ bytesOf 3 t)))).put ORB.eclT t

/-- The sequencer probes the next worker. -/
def State.probe (s : State) (a : Nat) (reverse : Bool) : State :=
  (s.mgrFrame (s.portTo a) a 0x0E (s.newTag a) []).when s.orbUp (fun t => t.emit (.mark (if reverse then .U else .D)))

/-- ENUM on the arm at the head (R321). -/
def State.sendEnum (s : State) (p : OrbPort) (retry : Bool) : State :=
  s.mgrFrame p 0xFF 0x09 0 [if retry then 1 else 0]

/-- Sets what the sequencer does; BUSY follows (R331). -/
def State.setSeq (s : State) (q : SeqSt) : State :=
  (s.updOrb (fun o => { o with seq := q })).put ORB.busy (boolNat (decide (q ≠ .idle)))

/-- Serials and ASSIGNs of addresses that no unit has acknowledged are dropped as a round starts. -/
def State.forgetAsked (s : State) : State :=
  s.updOrb (fun o => { o with
    asked := [], serials := o.serials.filter (fun x => decide (s.get (ORB.mapState x.1) ≠ 0)) })

/-- MAP goes out on a train (R325): TAG 0 on D, 1 on U. -/
def State.sendMap (s : State) (p : OrbPort) : State :=
  s.mgrFrame p 0xFF 0x0D (if p = .D then 0 else 1) (List.replicate 32 0)

/-- A fold begins (R325). An enumeration that it breaks runs again after it, and a heal asked for waits until the wrapped ports
are restored again (R330). -/
def State.foldStart (s : State) : State :=
  let owed := match s.orbit.seq with
    | .enum r _ => [r]
    | _ => []
  (((s.updOrb (fun o => { o with maps := [], healOwed := false, enumOwed := o.enumOwed ++ owed })).setSeq
    (.fold [.D, .U])).sendMap .D).sendMap .U

/-- The sequencer takes up what is owed: measurement, heal, enumeration. -/
def State.seqNext (s : State) : State :=
  if s.on ORB.conflict then s.setSeq .idle
  else if s.orbit.remeasure then
    let s := s.updOrb (fun o => { o with remeasure := false, delays := [] })
    match s.measureList with
    | [] => (s.sendDelays.put (ORB.ctrlBit 3) 0).setSeq .idle
    | (a, r) :: l => (s.setSeq (.measure ((a, r) :: l))).probe a r
  else if s.orbit.healOwed && s.on ORB.folded then
    (s.updOrb (fun o => { o with healOwed := false })).setSeq .healWait
  else match s.orbit.enumOwed with
    | r :: rest =>
      ((s.updOrb (fun o => { o with enumOwed := rest })).forgetAsked.setSeq (.enum r s.castPorts)).sendEnum .D r
    | [] => s.setSeq .idle

/-- The sequencer goes on after an activity, or starts where it is idle. -/
def State.seqGo (s : State) : State := if s.orbit.seq = .idle then s.seqNext else s

/-- The measurement at the head is done, or its worker did not take the PROBE. -/
def State.measureStep (s : State) : State :=
  match s.orbit.seq with
  | .measure (_ :: (a, r) :: l) => (s.setSeq (.measure ((a, r) :: l))).probe a r
  | .measure _ => ((s.sendDelays.put (ORB.ctrlBit 3) 0).setSeq .idle).seqNext
  | _ => s

/-- W of R303: the workers of an intact ring, as many as the relays that the last ENUM or MAP passed that came back round it. A
worker without an address relays too. -/
def State.ringLen (s : State) : Nat := max s.orbit.loop s.present254.length

/-- The round ends (R321): reverse positions follow R303 on an intact ring, and the delays are measured. -/
def State.enumEnd (s : State) (retry : Bool) : State :=
  let s := s.noteUnits
  let s := if s.on ORB.folded then s
    else s.each s.present254 (fun a t => t.put (ORB.mapRev a) (t.ringLen + 1 - t.get (ORB.mapFwd a)))
  (((s.updOrb (fun o => { o with remeasure := true })).put (ORB.ctrlBit (boolNat retry)) 0).setSeq .idle).seqNext

/-- An ENUM has come back unconsumed: the next arm, or the end of the round once every ASSIGN is answered. On an intact ring it
has passed every worker (R303). -/
def State.enumBack (s : State) (f : Frame) : State :=
  let s := if s.on ORB.folded then s else s.updOrb (fun o => { o with loop := f.hops.toNat })
  match s.orbit.seq with
  | .enum r (_ :: p :: rest) => (s.setSeq (.enum r (p :: rest))).sendEnum p r
  | .enum r _ => if s.orbit.asked.isEmpty then s.enumEnd r else s.setSeq (.enum r [])
  | _ => s

/-- A PRESENT worker that no bitmap shows becomes GONE (R326). -/
def State.unitGone (s : State) (a : Nat) : State :=
  let s := (s.put (ORB.mapState a) 2).raise ORB.event 6
  s.each (s.orbit.reqs.filter (fun r => decide (r.target = a))) (fun r t => t.endReq r stNoResponse r.got)

/-- The fold is recorded (R325, R326). -/
def State.foldEnd (s : State) : State :=
  let has (u : Bool) (a : Nat) : Bool := s.orbit.maps.any (fun m => m.2 == u && bitOf m.1 a)
  let s := s.each s.present254 (fun a t =>
    if has false a then t.put (ORB.mapArm a) 1
    else if has true a then t.put (ORB.mapArm a) 2
    else t.unitGone a)
  let s := (((s.noteUnits.put ORB.folded 1).raise ORB.event 3).count ORB.foldCnt).updOrb (fun o => { o with
    gen := o.gen + 1, remeasure := true, maps := [] })
  (s.setSeq .idle).seqNext

/-- The fold no longer waits for the bitmap of a train. -/
def State.foldTrain (s : State) (left : OrbPort) : State :=
  match s.orbit.seq with
  | .fold ports =>
    let ports := ports.filter (fun o => decide (o ≠ left))
    if ports.isEmpty then s.foldEnd else s.setSeq (.fold ports)
  | _ => s

/-- The positions along an intact ring of W workers (R303): a worker at position h of the path of its arm is at W + 1 − h of
the other path. -/
def State.joinArms (s : State) : State :=
  s.each s.present254 (fun a t =>
    if t.get (ORB.mapArm a) = 2 then t.put (ORB.mapFwd a) (t.ringLen + 1 - t.get (ORB.mapRev a))
    else t.put (ORB.mapRev a) (t.ringLen + 1 - t.get (ORB.mapFwd a)))

/-- The ring is intact again (R303, R327). -/
def State.healed (s : State) : State :=
  let s := (s.mgrFrame .D 0xFF 0x0F 0 [1]).joinArms.each s.present254 (fun a t => t.put (ORB.mapArm a) 0)
  let s := (((s.put ORB.folded 0).put (ORB.ctrlBit 2) 0).raise ORB.event 4).updOrb (fun o => { o with
    gen := o.gen + 1, remeasure := true,
    enumOwed := o.enumOwed ++ (if s.on ORB.autoEnum then [false] else []) })
  (s.setSeq .idle).seqNext

/-- A MAP frame returns to the manager (R325, R327). That of a heal is intact by its bitmap, on whichever port it arrives
(DEDUCED, log entry 43). -/
def State.mapReturn (s : State) (f : Frame) : State :=
  if !(s.orbUp && s.manager) then s
  else if !frameGood f then s.badFrame f
  else match s.orbit.seq with
    | .fold _ =>
      (s.updOrb (fun o => { o with maps := o.maps ++ [(payNat f 0 32, decide (f.tag.toNat = 1))] })).foldTrain
        (if f.tag.toNat = 1 then .U else .D)
    | .healMap =>
      if s.present254.all (fun a => bitOf (payNat f 0 32) a) then
        (s.updOrb (fun o => { o with loop := f.hops.toNat })).healed
      else s.foldStart
    | _ => s

/-- The worker at the end of an arm: the wrapped one (R327). -/
def State.armEnd (s : State) (arm : Nat) : Option Nat :=
  (s.present254.filter (fun a => decide (s.get (ORB.mapArm a) = arm))).foldl (fun b a =>
    let pos (x : Nat) := s.get (if arm = 2 then ORB.mapRev x else ORB.mapFwd x)
    match b with
    | some x => if pos x < pos a then some a else some x
    | none => some a) none

/-- The chain sequencer folds the ring (R325). -/
def State.folding (s : State) : Bool :=
  match s.orbit.seq with
  | .fold _ => true
  | _ => false

/-- New requests pause while the ring is healed (R327). -/
def State.orbPaused (s : State) : Bool := decide (s.orbit.seq = .healWait ∨ s.orbit.seq = .healMap)

/-- The heal goes on once the frames in flight have returned (R327). -/
def State.healResume (s : State) : State :=
  if s.orbit.seq = .healWait then
    let s := s.each ([1, 2].filterMap (fun r => s.armEnd r)) (fun a t =>
      t.mgrFrame (t.portTo a) a 0x0F (t.newTag a) [0])
    (s.setSeq .healMap).sendMap .D
  else s

/-- A break is found (R325): no fold starts while one runs or after a second manager has been seen. -/
def State.ringBroken (s : State) : State :=
  match s.orbit.seq with
  | .fold _ => s
  | _ =>
    if s.on ORB.conflict then s
    else (s.raise ORB.event 2).foldStart

/-- A second manager is in the ring (R319): only beacons go out from now on, and requests to workers complete with
NO_UNIT. -/
def State.foreign (s : State) : State :=
  if s.on ORB.conflict then s
  else
    let s := (((s.put ORB.conflict 1).setSeq .idle).raise ORB.event 8 |>.causeOn 166).onsetIfNew 166 false
    s.each s.orbit.reqs (fun r t => t.endReq r stNoUnit r.got)

/-- A beacon of the manager returns as it should: the ring is intact, and HEAL has nothing left to do (R330, R331; DEDUCED, log entry
43). -/
def State.beaconHome (s : State) : State :=
  s.when (!s.on ORB.folded && !s.folding && !s.on (ORB.loss 0) && !s.on (ORB.loss 1)) (fun t => t.put (ORB.ctrlBit 2) 0)

/-- A beacon arrives: relayed by a worker, on a restored port too (R316, R327); checked by the manager (R319,
R325). -/
def State.beacon (s : State) (p : OrbPort) (q : PriSeq) : State :=
  if s.workerHears p then
    let s := (s.notePri q).relayPri p 3 q
    let o := otherPort p
    if s.on (ORB.wrap (portIdx o)) && s.orbit.restored.testBit (portIdx o) then s.emit (.priority o 3 q) else s
  else if s.orbUp && s.manager then
    let s := s.notePri q
    if !priGood 3 q then s
    else if ofBytes (q.data.take 2) ≠ (s.reg GLB.serialLo).toNat % 2 ^ 16 then s.foreign
    else if !s.on ORB.folded && decide (p = (if bitOf (q.data.getD 2 0).toNat 7 then .U else .D)) then s.ringBroken
    else s.beaconHome
  else s

/-- The manager sends one beacon on each train (R318). -/
def State.beaconPeriod (s : State) : State :=
  if s.orbUp && s.manager then
    let b (rev : Bool) : PriSeq :=
      priOf (bytesOf 2 ((s.reg GLB.serialLo).toNat % 2 ^ 16)
        ++ [BitVec.ofNat 8 (s.orbit.beacons % 128 + (if rev then 128 else 0))]) none
    ((s.emit (.priority .D 3 (b false))).emit (.priority .U 3 (b true))).updOrb (fun o => { o with
      beacons := o.beacons + 1 })
  else s

/-- A MARK arrives (R322): an armed worker returns it, a relay passes it, the manager times it. -/
def State.mark (s : State) (p : OrbPort) (tenths : Nat) : State :=
  if s.workerHears p then
    let s := if s.orbit.probed then (s.updOrb (fun o => { o with probed := false })).emit (.mark p) else s
    if s.drives (s.outPort p) then s.emit (.mark (s.outPort p)) else s
  else if s.orbUp && s.manager then
    match s.orbit.seq with
    | .measure ((a, r) :: _) =>
      if p = (if r then .U else .D) then
        (s.updOrb (fun o =>
          let d := Sparse.get (0, 0) o.delays a
          let d' := if r then (d.1, tenths - 920) else (tenths - 920, d.2)
          { o with delays := Sparse.set (0, 0) o.delays a d' })).measureStep
      else s
    | _ => s
  else s

/-- A port is lost (R324): the event, and a worker wraps the other way, or with both ports lost neither way. A wrap at the
other port, which has been restored, gives way: what that port receives is joined to its own transmit pair (DEDUCED, log
entry 43). -/
def State.portLoss (s : State) (p : OrbPort) : State :=
  if !s.orbUp || s.on (ORB.loss (portIdx p)) then s
  else
    let s := (s.put (ORB.loss (portIdx p)) 1).raise ORB.event 0
    let s := s.updOrb (fun o => { o with restored := o.restored &&& (3 - 2 ^ portIdx p) })
    if s.manager then s
    else if s.on (ORB.loss (portIdx (otherPort p))) then (s.put (ORB.wrap 0) 0).put (ORB.wrap 1) 0
    else ((s.put (ORB.wrap (portIdx (otherPort p))) 0).put (ORB.wrap (portIdx p)) 1).updOrb (fun o => { o with
      restored := 0 })

/-- A lost port hears characters again (R327): a wrapped port stays wrapped and is restored; a worker that had
lost both ports wraps at the one still lost. -/
def State.portRestored (s : State) (p : OrbPort) : State :=
  if !s.orbUp || !s.on (ORB.loss (portIdx p)) then s
  else
    let s := (s.put (ORB.loss (portIdx p)) 0).raise ORB.event 1
    if s.manager then s
    else if s.on (ORB.wrap (portIdx p)) then
      s.updOrb (fun o => { o with restored := o.restored ||| 2 ^ portIdx p })
    else if s.on (ORB.loss (portIdx (otherPort p))) then s.put (ORB.wrap (portIdx (otherPort p))) 1
    else s

/-- A request frame returns unconsumed (R313), or a broadcast comes back (R267). -/
def State.frameReturn (s : State) (p : OrbPort) (f : Frame) : State :=
  if !(s.orbUp && s.manager) then s
  else if !frameGood f then s.badFrame f
  else match f.ftype.toNat with
    | 0x01 | 0x04 =>
      match s.reqOf f.dest.toNat f.tag.toNat with
      | some r => if r.accepted then s else s.endReq r stNoUnit r.got
      | none => s
    | 0x03 =>
      match s.orbit.pris.find? (fun x => decide (x.lead = 3 ∧ x.tag = f.tag.toNat ∧ s.leftBy p ∈ x.ports)) with
      | some x => s.priBack x (s.leftBy p) (payByte f 12) (payByte f 13) (payByte f 14)
      | none => s
    | 0x09 => s.enumBack f
    | 0x0D => s.mapReturn f
    | 0x0E => s.measureStep
    | _ => s

/-- A request completes with NO_RESPONSE (R315); an answer in this cycle still counts (R330). -/
def State.lapse (s : State) (r : OrbReq) : State :=
  (s.updOrb (fun o => { o with lapsed := o.lapsed.filter (fun x => decide (x.1 = s.clock)) ++ [(s.clock, r)] })).endReq r
    stNoResponse r.got

/-- No answer within ORB_RESPTO (R315). TARGET 0xFF stands for what the manager sent to every unit: the MAP frames
of a fold (TAG 0 and 1), the MAP of a heal, an enumeration round, and broadcasts (TAG from 2 on). -/
def State.respTimeout (s : State) (target tag : Nat) : State :=
  if !(s.orbUp && s.manager) then s
  else if target = 0xFF ∧ tag < 2 then
    match s.orbit.seq with
    | .fold _ => s.foldTrain (if tag = 1 then .U else .D)
    | .healMap => if tag = 0 then s.foldStart else s
    | .enum r _ => if tag = 0 then s.forgetAsked.enumEnd r else s
    | _ => s
  else if target = 0xFF then
    match s.orbit.pris.find? (fun x => decide (x.lead = 3 ∧ x.tag = tag)) with
    | some x => (s.updOrb (fun o => { o with pris := o.pris.filter (fun y => decide (y ≠ x)) })).priOutcome x false
    | none => s
  else match s.reqOf target tag with
    | some r => if r.accepted then s else s.lapse r
    | none => s

/-- The manager asks for an enumeration, by ORB_CTRL or by itself (R321). -/
def State.askEnum (s : State) (retry : Bool) : State :=
  if s.manager then
    ((s.put (ORB.ctrlBit (boolNat retry)) 1).updOrb (fun o => { o with enumOwed := o.enumOwed ++ [retry] })).seqGo
  else s

/-- ORB_CTRL.REMEASURE (R322). -/
def State.askMeasure (s : State) : State :=
  if s.manager then ((s.put (ORB.ctrlBit 3) 1).updOrb (fun o => { o with remeasure := true })).seqGo else s

/-- A heal is asked for (R327). -/
def State.askHeal (s : State) : State :=
  if s.manager && s.on ORB.folded then (s.updOrb (fun o => { o with healOwed := true })).seqGo else s

/-- ORB_RELEASE (R326): a GONE address becomes FREE. -/
def State.releaseAddr (s : State) (a : Nat) : State :=
  if s.manager && decide (s.get (ORB.mapState a) = 2) then
    (s.setReg (ORB.map a) 0).updOrb (fun o => { o with serials := Sparse.del o.serials a })
  else s

/-- This unit receives a frame with this DEST that arrives on the port (R313): a frame for it, or for every unit, which a unit
without an address takes on either path. -/
def State.receives (s : State) (p : OrbPort) (dest : Nat) : Bool :=
  s.manager
    || (s.on ORB.addrValid && decide (p = s.outboundIn) && decide (dest = s.get ORB.addr ∨ dest = 0xFF))
    || (!s.on ORB.addrValid && decide (dest = 0xFF))

/-- A frame for every unit on which this one does not act passes; a damaged one counts as discarded where it is received (R311,
R313). -/
def State.passFrame (s : State) (p : OrbPort) (f : Frame) : State :=
  (s.when (s.receives p f.dest.toNat && !frameGood f) (fun t => t.discardFrame)).relayFrame p f

/-- An unaddressed worker may answer an ENUM (R321). -/
def State.wantsEnum (s : State) (retry : Bool) : Bool :=
  !s.on ORB.addrValid && !s.orbit.claimed && (!s.on ORB.chainFull || retry)

/-- ENUM at a worker (R321). The answer goes out in the same slot; the position of the unit follows from HOPS
(DEDUCED, log entry 23). -/
def State.enumFrame (s : State) (p : OrbPort) (f : Frame) : State :=
  if !s.workerHears p then s
  else if !s.wantsEnum (decide (payByte f 0 = 1)) then s.passFrame p f
  else if !frameGood f then s.badFrame f
  else
    let payload := bytesOf 8 Config.serial.toNat ++ [f.hops]
    ((s.updOrb (fun o => { o with claimed := true })).put (if p = .U then ORB.hopsFwd else ORB.hopsRev)
      (f.hops.toNat + 1)).sendFrame (s.outPort p) (sealFrame
        { dest := 0, src := 0xFF, ftype := 0x0A, tag := f.tag, hops := 0, len := 9, payload := payload, crc := 0,
          ctl := [] })

/-- The address that the manager gives a serial (R321, R326): the one recorded for it, else the lowest FREE. -/
def State.addrFor (s : State) (serial : BitVec 64) : Option Nat :=
  match s.orbit.serials.find? (fun x => decide (x.2 = serial)) with
  | some x => some x.1
  | none => ((List.range 255).drop 1).find? (fun a =>
      decide (s.get (ORB.mapState a) = 0))

/-- An address is PRESENT with its position on the path of its arm (R303, R321). -/
def State.mapPresent (s : State) (a h arm : Nat) (p : OrbPort) : State :=
  (((s.put (ORB.mapState a) 1).put (ORB.mapArm a) arm).put (if p = .D then ORB.mapFwd a else ORB.mapRev a) h).noteUnits

/-- ENUM_ANS at the manager (R321): the address is PRESENT as its ASSIGN goes out; of two with one serial the first counts
(R330). -/
def State.enumAns (s : State) (f : Frame) : State :=
  match s.orbit.seq with
  | .enum r (p :: _) =>
    let serial := BitVec.ofNat 64 (payNat f 0 8)
    let send (t : State) (a : Nat) : State :=
      (t.mgrFrame p 0xFF 0x0B 0 (bytesOf 8 serial.toNat ++ [BitVec.ofNat 8 a])).sendEnum p r
    match s.addrFor serial with
    | some a =>
      let arm := if s.on ORB.folded then (if p = .D then 1 else 2) else 0
      if s.orbit.asked.contains a then send s a
      else send ((s.updOrb (fun o => { o with
        serials := Sparse.ins o.serials a serial, asked := o.asked ++ [a] })).mapPresent a (payByte f 8 + 1) arm p) a
    | none => send (s.raise ORB.event 7) 0xFF
  | _ => s

/-- The enumeration ends when every port has answered and no ASSIGN_ACK is awaited (R321). -/
def State.ackSeen (s : State) : State :=
  match s.orbit.seq with
  | .enum r [] => if s.orbit.asked.isEmpty then s.enumEnd r else s
  | _ => s

/-- ASSIGN_ACK at the manager (R321, R331): the address that it acknowledges has joined. -/
def State.assignAck (s : State) (f : Frame) : State :=
  match s.orbit.asked.find? (fun a => decide (Sparse.get 0 s.orbit.serials a = BitVec.ofNat 64 (payNat f 0 8))) with
  | some a =>
    ((s.updOrb (fun o => { o with asked := o.asked.filter (fun x => decide (x ≠ a)) })).raise ORB.event 5).ackSeen
  | none => s

/-- A frame for the manager (R311, R313). -/
def State.atManager (s : State) (f : Frame) (own : State → State) : State :=
  if s.orbUp && s.manager then (if frameGood f then own s else s.badFrame f) else s

/-- ASSIGN at a worker (R321): a unit that holds an address has already acted on it. With its address it sends the
events that wait (R444). -/
def State.assign (s : State) (f : Frame) : State :=
  if payNat f 0 8 ≠ Config.serial.toNat ∨ s.on ORB.addrValid = true then s
  else
    let s := s.updOrb (fun o => { o with claimed := false })
    if payByte f 8 = 0xFF then s.put ORB.chainFull 1
    else
      let s := (((s.put ORB.addr (payByte f 8)).put ORB.addrValid 1).put ORB.chainFull 0).ownFrame 0x0C f.tag.toNat
        (bytesOf 8 Config.serial.toNat)
      s.each eventRegs (fun a t =>
        let bits := ((t.reg a) &&& (t.reg (a + 4))).toNat
        if bits = 0 then t else t.readyEvent a bits)

/-- A broadcast frame at a worker (R313): applied where it is whole and arrives on the path away from the manager, and
relayed. A unit without an address knows no arm, and takes it on either path. -/
def State.castFrame (s : State) (p : OrbPort) (f : Frame) (own : State → State) : State :=
  if s.workerHears p then
    if f.dest = 0xFF ∧ (p = s.outboundIn ∨ s.on ORB.addrValid = false) then
      (if frameGood f then own s else s.discardFrame).relayFrame p f
    else if s.toMe p f then s.consume p f own
    else s.relayFrame p f
  else s

/-- A MAP frame at a worker (R320): it takes its arm from a frame whose bit of its address is clear. -/
def State.mapFrame (s : State) (p : OrbPort) (f : Frame) : State :=
  if !s.workerHears p then s
  else if !s.on ORB.addrValid || bitOf (payNat f 0 32) (s.get ORB.addr) then s.passFrame p f
  else
    let g := withPayload f (bytesOf 32 (payNat f 0 32 + 2 ^ s.get ORB.addr))
    let s := if frameGood f then
        (s.put ORB.arm (if p = .U then 1 else 2)).put (if p = .U then ORB.hopsFwd else ORB.hopsRev) (f.hops.toNat + 1)
      else s.discardFrame
    s.relayFrame p g

/-- CTRL SET_DELAY (R322). -/
def State.setDelay (s : State) (f : Frame) : State :=
  ((s.put ORB.delayFwd (payNat f 1 3)).put ORB.delayRev (payNat f 4 3)).put ORB.eclT (payNat f 7 3)

/-- ORB_CTRL.HEAL (R331): it stays set until the heal, or until a beacon shows that nothing is left to heal. A break that shows only
after the write is thus healed too once its ports are restored (R330). -/
def State.writeHeal (s : State) : State := if s.manager then s.put (ORB.ctrlBit 2) 1 else s

/-- CTRL UNWRAP (R327). -/
def State.unwrap (s : State) : State :=
  ((s.put (ORB.wrap 0) 0).put (ORB.wrap 1) 0).updOrb (fun o => { o with restored := 0 })

/-- The frame in progress on a port, with this DEST, is ended by ABORT (R311, R331): a receiver of the frame discards it,
and a worker relays the character. -/
def State.abortFrame (s : State) (p : OrbPort) (dest : Nat) : State :=
  if s.orbUp && (s.manager || s.workerHears p) then
    let s := (s.count ORB.abortCnt).when (s.receives p dest) (fun t => t.discardFrame)
    if s.workerHears p && s.drives (s.outPort p) then s.emit (.abort (s.outPort p)) else s
  else s

end Sys2Proof.Machine
end

