-- ==== Sys2Proof/Machine/Markers.lean ====
section
/-! DEFINITION. Marker lock, codeword lock and what a codeword's decoding counts (05_fec_and_flits.md, R116
to R126; R44, R48, R60). -/

namespace Sys2Proof.Machine

/-- A CFL marker is good (R120). -/
def goodMarker (m : MarkerObs) : Bool := m.found && decide (m.errors ≤ 8) && decide (m.compl = ~~~m.info)

/-- The lane-end's CFL marker machine runs: its lane-end belongs to a CFL port group (R120). A spare belongs to
the port whose lane it carries or trains for. -/
def State.cflEnd (s : State) (i : Nat) : Bool :=
  match s.carried (i / 34) (i % 34) with
  | some (g, _) => s.cfl g
  | none => if i % 34 < 32 then s.cfl (i % 34 / 8) else true

/-- The machine of R120 at a marker position: state, GOOD and MISS. Away from the expected position only HUNT
looks for markers. -/
def markerNext (mark : Mark) (good miss : Nat) (isGood expected : Bool) : Mark × Nat × Nat :=
  match mark with
  | .hunt => if isGood then (.confirm, 1, miss) else (.hunt, good, miss)
  | .confirm =>
    if !expected then (.confirm, good, miss)
    else if isGood then (if good = 2 then (.lock, good, 0) else (.confirm, good + 1, miss))
    else (.hunt, good, miss)
  | .lock =>
    if !expected then (.lock, good, miss)
    else if isGood then (.lock, good, 0)
    else if miss = 3 then (.hunt, good, miss)
    else (.lock, good, miss + 1)

/-- Lanes whose markers arrive within 40 ns after a lane's, that lane included. -/
def State.within40 (s : State) (l : List Nat) (i : Nat) : List Nat :=
  l.filter (fun j => decide ((s.rxe i).arriveNs ≤ (s.rxe j).arriveNs ∧ (s.rxe j).arriveNs ≤ (s.rxe i).arriveNs + 40))

/-- The latest arrival of some lanes. -/
def State.latest (s : State) (l : List Nat) : Nat := (s.arrivals l).foldl max 0

/-- The largest set of lanes that arrive within 40 ns of each other; on a tie the one whose latest marker
arrives first (R121). -/
def State.lockSet (s : State) (l : List Nat) : List Nat :=
  l.foldl (fun best i =>
    let c := s.within40 l i
    if best.length < c.length ∨ (best.length = c.length ∧ s.latest c < s.latest best) then c else best) []

/-- The info words agree with the lane map and with each other (R121). -/
def State.infosAgree (s : State) (g sd : Nat) : Bool :=
  let l := s.rxEnds g sd
  (s.rxLanes g sd 0).all (fun n => match s.rxPos g sd n with
      | some p => decide (infoLane (s.rxe (34 * sd + p)).info = n)
      | none => false)
    && (match l with
      | [] => false
      | i :: _ => l.all (fun j => decide (bitsOf (s.rxe j).info.toNat 3 16 = bitsOf (s.rxe i).info.toNat 3 16)))

/-- Transmitters on a side send the port's stream again (R401). -/
def State.streamAgain (s : State) (g sd : Nat) : State :=
  s.each ((s.positions g sd 0).map (fun p => 34 * sd + p)) (fun i t =>
    if (t.txe i).idleHold then t.updTx i (fun x => { x with idleHold := false }) else t)

/-- WAKING ends with codeword lock on both incoming segments (R400); no transmitter is held IDLE any more (R401). -/
def State.wakeDone (s : State) (g : Nat) : State :=
  if s.get (PWR.lpstat g) = 3 ∧ s.on (DIR.cwLock 0 g) = true ∧ s.on (DIR.cwLock 1 g) = true then
    ((((s.put (PWR.lpstat g) 0).updPort g (fun r => { r with wake := 0 })).raise PWR.event 6).streamAgain g 0).streamAgain g 1
  else s

/-- Codeword lock is gained (R121): the lanes are deskewed to the latest of the set, and every other lane of the
port is erased with the SKEW cause. -/
def State.cwGain (s : State) (g sd : Nat) : State :=
  let e := inEngine sd
  let l := s.rxEnds g sd
  if s.cfl g && decide (s.pers g ≠ 0) && decide (s.segState g sd 0 = stUp) && !s.on (DIR.cwLock e g)
      && decide ((s.lockedEnds g sd).length = l.length) && s.infosAgree g sd then
    let set := s.lockSet l
    let s := s.each l (fun i t =>
      if i ∈ set then t.updRx i (fun r => { r with sinceBad := false, misnamed := false, late := false })
      else (t.updRx i (fun r => { r with sinceBad := true })).leSet i 4)
    let s := ((s.put (DIR.cwLock e g) 1).put (DIR.skew e g) (min (s.skewNs set) 255)).updEng e g
      (fun x => { x with cwEver := true, cwIndex := 0, evenOk := none, flitOk := [] })
    let s := s.when (decide (s.pers g = 1)) (fun t => t.fillPair e g)
    (s.streamAgain g (1 - sd)).wakeDone g
  else s

/-- A lane that regains LOCK in a port with codeword lock, or a position in training that gains it, is deskewed against the port's
framing. Above 40 ns a lane of the port stays erased and raises its lane-end fault; a shadow copy does so when it takes over
its lane (R122, R174). The symbols of a lane of the port are used from the next marker period on. -/
def State.regain (s : State) (g sd i : Nat) : State :=
  let own := decide (i ∈ s.rxEnds g sd)
  if s.on (DIR.cwLock (inEngine sd) g) && (own || decide (i ∈ s.ltEnds g sd)) then
    (s.deskew g sd i own).when own (fun t => t.updRx i (fun r => { r with late := true }))
  else s

/-- A lane whose markers show neither the map in use nor an agreed one, in LLANE and in WIDTH, is a lane fault under R122
(R175, R178). -/
def State.nameCheck (s : State) (g sd i : Nat) : State :=
  if s.on (DIR.cwLock (inEngine sd) g) && decide (i ∈ s.rxEnds g sd) then
    let named := s.namesIn g i (s.rxMapOf g sd) || s.namesIn g i (s.seg g sd 0).agreed
      || (match s.partOf g sd with
        | some x => s.namesIn g i x.map
        | none => false)
    s.updRx i (fun r => { r with misnamed := !named })
  else s

/-- What a good marker in LOCK leads to for the port. -/
def State.markerPort (s : State) (g sd i : Nat) (gained : Bool) : State :=
  let s := if gained then s.regain g sd i else s
  let s := if s.pers g = 0 then s.followMarkers g sd else (s.rxObserve g sd).nameCheck g sd i
  (s.cwGain g sd).cwDropAll sd

/-- A marker position of a receiver lane-end (R120). -/
def State.markerCheck (s : State) (sd p : Nat) (m : MarkerObs) : State :=
  let i := 34 * sd + p
  if s.rxActive i && s.on (LRX.cdrLock i) && s.cflEnd i then
    let r := s.rxe i
    let ok := goodMarker m
    let nxt := markerNext r.mark r.good r.miss ok m.expected
    let taken := ok && (m.expected || decide (r.mark = .hunt))
    let gained := decide (nxt.1 = .lock ∧ r.mark ≠ .lock)
    let s := (s.updRx i (fun r => { r with
      late := r.late && !m.expected,
      mark := nxt.1, good := nxt.2.1, miss := nxt.2.2,
      info := if taken then m.info else r.info,
      arriveNs := if taken then m.arriveNs else r.arriveNs,
      periods := if gained then 0 else r.periods,
      record := if gained then [] else r.record,
      passed := if gained then [] else r.passed })).put (LRX.markerLock i)
        (boolNat (decide (nxt.1 = .lock)))
    let s := if nxt.1 = .lock ∧ taken = true then
        (match s.carried sd p with
          | some (g, _) => s.markerPort g sd i gained
          | none => [0, 1, 2, 3].foldl (fun t g =>
              if i ∈ t.rxEnds g sd ∨ i ∈ t.ltEnds g sd ∨ (t.partOf g sd).isSome then t.markerPort g sd i gained else t) s)
      else s.cwDropAll sd
    s.goOn
  else s

/-- Receiver lane-end of symbol n of a codeword (R116). For an Ethernet port the same rule stands in for the
symbol distribution of IEEE 802.3 (PRESUMED, log entry 7). -/
def symbolEnd (ends : List Nat) (first n : Nat) : Nat := ends.getD ((first + n) % ends.length) 0

/-- Adds one to a histogram bin: 32 bits, saturating (R57). -/
def State.histCount (s : State) (i k : Nat) : State := s.satCount (LRX.base i + 0xE00 + 4 * k)

/-- Receiver lane-ends of a port's lanes, in lane order. -/
def State.portEnds' (s : State) (g sd k : Nat) : List Nat :=
  if s.cfl g then s.rxEnds g sd else (s.positions g sd k).map (fun p => 34 * sd + p)

/-- Symbol n of a codeword is an erasure (R124): its lane is marked invalid, or it is one of the symbols `marked` that hold
decisions which its receiver has marked invalid (R39, R55). -/
def State.erased (s : State) (ends : List Nat) (first : Nat) (marked : List Nat) (n : Nat) : Bool :=
  let i := symbolEnd ends first n
  s.invalid i || (decide (n ∈ marked) && decide (0 < (s.rxe i).marked))

/-- Symbols of a codeword that count as erasures. -/
def State.erasures (s : State) (ends : List Nat) (first : Nat) (marked : List Nat) : Nat :=
  ((List.range 544).filter (s.erased ends first marked)).length

/-- The decoding of a codeword at one lane-end of its port (R60, R61). More than 15 corrected symbols of one lane-end, which
erasures allow, count in bin 15 (DESIGN CHOICE, log entry 38). -/
def State.countEnd (s : State) (i changed : Nat) (ok : Bool) : State :=
  if ok then
    let s := if changed = 0 then s else (s.countBy (LRX.symerr i) changed).count (LRX.cwCorr i)
    s.histCount i (min changed 15)
  else (s.count (LRX.cwUncorr i)).histCount i 16

/-- The codewords of a pair say which of its five flits lie wholly in correctable ones (R117, R126). -/
def pairOk (index : Nat) (ok : Bool) (x : EngPort) : EngPort :=
  if index % 2 = 0 then { x with evenOk := some ok }
  else match x.evenOk with
    | some even => { x with evenOk := none, flitOk := x.flitOk ++ [even, even, even && ok, ok, ok] }
    | none => x

/-- A codeword is decoded (R124, R126): `errors` are the symbols that differ from the codeword sent, `marked` those with
decisions marked invalid, and `msg` is the message, corrected where it can be. -/
def State.codeword (s : State) (e g : Nat) (k : LaneN) (errors marked : List Nat) (msg : BitVec 5140) : State :=
  let sd := if e = 0 then 0 else 1
  let ends := s.portEnds' g sd k
  if ends = [] then s
  else
    let index := (s.eng e g).cwIndex
    let first := 544 * index
    let era := s.erasures ends first marked
    let wrong := (errors.filter (fun n => !s.erased ends first marked n)).length
    let ok := decide (2 * wrong + era ≤ 30)
    let s := s.count (DIR.cwTotal e g)
    let s := if ok then (if errors = [] then s else s.count (DIR.cwCorr e g))
      else (s.count (DIR.cwUncorr e g)).raise (DIR.event e) 1
    let s := if !ok && !s.cfl g then s.count (DIR.stomp e g) else s
    let s := s.each ends (fun i t => (t.countEnd i
      ((errors.filter (fun n => decide (symbolEnd ends first n = i))).length) ok).updRx i
        (fun r => { r with
          marked := r.marked - (marked.filter (fun n => decide (symbolEnd ends first n = i))).length,
          stress := r.stress || (!s.cfl g && decide (24 < 2 * wrong + era)) }))
    let s := if s.cfl g then s else s.ethOut e g k msg ok
    s.updEng e g (fun x => { (if s.cfl g then pairOk index ok x else x) with
      cwIndex := (x.cwIndex + 1) % (512 * ends.length) })

/-- Rising, and below a bound. -/
def risingBelow (n : Nat) : List Nat → Bool
  | [] => true
  | [a] => decide (a < n)
  | a :: b :: l => decide (a < b) && risingBelow n (b :: l)

/-- An Ethernet lane gains or loses marker lock, and its port codeword lock (R123). The engine deskews up to 40 ns between the
lanes of a port; in T mode it does not deskew. -/
def State.ethLock (s : State) (g k sd p : Nat) (locked codeword : Bool) (skew : Nat) : State :=
  let i := 34 * sd + p
  if !s.cfl g && decide (p ∈ s.positions g sd k) && s.rxActive i && s.on (LRX.cdrLock i) then
    let was := (s.seg g sd k).cw
    let cw := codeword && decide (s.pers g ≠ 0) && decide (s.segState g sd k = stUp) && decide (skew ≤ 40)
    let s := (s.put (LRX.markerLock i) (boolNat locked)).updRx i (fun r =>
      let gained := decide (locked = true ∧ r.mark ≠ .lock)
      { r with
        mark := if locked then .lock else .hunt,
        periods := if gained then 0 else r.periods, record := if gained then [] else r.record,
        passed := if gained then [] else r.passed })
    let s := if cw then
        ((s.updSeg g sd k (fun x => { x with cw := true, cwEver := true })).noteEthLock g sd).when (!was)
          (fun t => t.put (DIR.skew (inEngine sd) g) skew)
      else if was then s.ethDrop g sd k
      else s.noteEthLock g sd
    (s.segEval g sd k).goOn
  else s

/-- CDR_LOCK (R44). -/
def execCdrLock (sd : Side) (p : Pos) (ppm100 : Int) (s : State) : Host.Outcome State Fault Refusal :=
  .next (((s.cdrLock (laneIdx sd p) ppm100).settleCauses).heldCheck)

/-- CDR_UNLOCK (R44). -/
def execCdrUnlock (sd : Side) (p : Pos) (ppm100 : Int) (s : State) : Host.Outcome State Fault Refusal :=
  .next ((((s.cdrUnlock (laneIdx sd p) ppm100).cwDropAll sd.idx).settleCauses).goOn)

/-- COEF_WRITE (R48). -/
def execCoefWrite (sd : Side) (p : Pos) (r : CoefReg) (v : Word) (s : State) :
    Host.Outcome State Fault Refusal :=
  .next (s.soft (match r with
      | .afe => LRX.afe (laneIdx sd p)
      | .tap n => (LRX.tap (laneIdx sd p) n).addr
      | .dfe => (LRX.dfe (laneIdx sd p)).addr)
    (fun t => t.coefWrite (laneIdx sd p) r v))

/-- MARKER_CHECK (R120). -/
def execMarkerCheck (sd : Side) (p : Pos) (m : MarkerObs) (s : State) :
    Host.Outcome State Fault Refusal :=
  .next (s.markerCheck sd.idx p m)

/-- CODEWORD_RECEIVED (R124): of a port in G or F mode with codeword lock (R122). The symbols are named by
their places, rising. -/
def execCodewordReceived (e : Eng) (g : Port) (k : LaneN) (errors marked : List Nat) (msg : BitVec 5140) (s : State) :
    Host.Outcome State Fault Refusal :=
  if risingBelow 544 errors && risingBelow 544 marked then
    .next (s.when (decide (s.pers g ≠ 0) && decide (k.val ∈ s.portKeys g) && s.cwOf g e.inSide.idx k)
      (fun t => t.codeword e.idx g k errors marked msg))
  else .fault .illFormed

/-- ETHERNET_MARKER_LOCK (R123). -/
def execEthernetMarkerLock (g : Port) (k : LaneN) (sd : Side) (p : Pos) (locked codeword : Bool) (skewNs : Nat) (s : State) :
    Host.Outcome State Fault Refusal :=
  .next (s.ethLock g k sd.idx p locked codeword skewNs)

end Sys2Proof.Machine
end

