-- ==== Sys2Proof/Machine/RetryIn.lean ====
section
/-! DEFINITION. Flits as they arrive (R130, R136 to R139, R152, R153, R161, R210): the CRC check, the incoming
machine of segment retry, the parse and the deferral buffer. `e` is 0 for engine AB, 1 for BA. -/

namespace Sys2Proof.Machine

/-- The incoming side of an engine, and the outgoing one. -/
def inSide (e : Nat) : Nat := if e = 0 then 0 else 1
def outSide (e : Nat) : Nat := if e = 0 then 1 else 0

/-- N of the slack ratio that a segment's partner announced (R103, R140). -/
def State.slackN (s : State) (g sd : Nat) : Nat := 32 * 2 ^ s.get (GLB.tsSlack g sd 0)

/-- A transaction's words in a flit: PID, traffic class and number of words. -/
structure Words where
  pid   : Nat
  tc    : Nat
  words : Nat
  deriving DecidableEq, Repr

/-- What the parse of a DATA flit finds (R138, R139): its transactions, whether it holds unknown words, whether
it is malformed, and the transaction left open. -/
structure Parse where
  parts   : List Words
  unknown : Bool
  bad     : Bool
  openTx  : Option Open
  lost    : Bool
  deriving DecidableEq, Repr

/-- Transactions that start in a flit, from word k on (R138). -/
def parseFrom (f : Flit) : Nat → Nat → List Words × Option Open
  | 0, _ => ([], none)
  | fuel + 1, k =>
    if 29 ≤ k then ([], none)
    else
      let w := payWord f k
      let len := hdrLen w
      if len = 0 then ([], none)
      else if 29 < k + len then
        ([⟨hdrPid w, hdrTc w, 29 - k⟩], some ⟨k + len - 29, hdrPid w, hdrTc w⟩)
      else
        let r := parseFrom f fuel (k + len)
        (⟨hdrPid w, hdrTc w, len⟩ :: r.1, r.2)

/-- A malformed flit: it holds unknown words only, and the open transaction is dropped (R139). -/
def Parse.malformed : Parse := ⟨[], true, true, none, true⟩

/-- The parse from FTO on, after the words of `first`. -/
def parseRest (f : Flit) (first : List Words) (unknown : Bool) : Parse :=
  let r := parseFrom f 29 (flitFto f)
  ⟨first ++ r.1, unknown, false, r.2, false⟩

/-- The parse of an accepted DATA flit (R138, R139). -/
def parseFlit (f : Flit) (openTx : Option Open) (lost : Bool) : Parse :=
  let fto := flitFto f
  if lost then
    if fto = 31 then ⟨[], true, false, none, true⟩
    else if fto = 29 ∨ fto = 30 then Parse.malformed
    else parseRest f [] (decide (0 < fto))
  else
    match openTx with
    | none => if fto = 0 then parseRest f [] false else Parse.malformed
    | some o =>
      if 29 ≤ o.left then
        (if fto = 31 then
          ⟨[⟨o.pid, o.tc, 29⟩], false, false,
            (if o.left = 29 then none else some { o with left := o.left - 29 }), false⟩
        else Parse.malformed)
      else if fto = o.left then parseRest f [⟨o.pid, o.tc, o.left⟩] false
      else Parse.malformed

/-- Counts one accepted DATA flit (R210). -/
def State.account (s : State) (e : Nat) (l : List Words) : State :=
  let groups := l.map (fun w => (s.pidGroup w.pid, w.words))
  let s := s.each ((l.map (fun w => w.tc)).eraseDups) (fun n t => t.count (DIR.tcflit e n))
  let s := s.each ((groups.map (fun x => x.1)).eraseDups) (fun n t => t.count (DIR.agflit e n))
  s.each groups (fun x t => t.countBy (DIR.agword e x.1) x.2)

/-- The parse of an accepted DATA flit, with its counts and events; the answer is what the flit is held as. -/
def State.parseData (s : State) (e g : Nat) (f : Flit) (arrive : Nat) : State × Held :=
  let p := parseFlit f (s.eng e g).openTx (s.eng e g).lost
  let s := s.updEng e g (fun x => { x with openTx := p.openTx, lost := p.lost })
  let s := if p.bad then (s.count (DIR.parseErr e g)).raise (DIR.event e) 4 else s
  (s.account e p.parts,
   { flit := f, arrive := arrive, pids := p.parts.map (fun w => w.pid), unknown := p.unknown, tagBad := false })

/-- The extended sequence of a SEQ (R134). -/
def extSeq (laps seq : Nat) : Nat := 4096 * laps + seq

/-- The tag of an accepted sequenced flit matches, with the key of the incoming segment (R133, R134). -/
def State.tagOk (s : State) (e g : Nat) (f : Flit) : Bool :=
  let k := s.key (keyIdx (inSide e) (flitKph f) g)
  k.valid && flitTagV f
    && decide (f.tag = flitTag k.key f g 1 0 k.epoch (extSeq (s.eng e g).rxLaps (flitSeq f)))

/-- The tag check of segment mode (R136): true where the flit is to leave as POISON. A flit with TAG_V = 0 raises no KEY_ABSENT,
whatever slot its KPH names (DESIGN CHOICE, log entry 38). -/
def State.tagCheck (s : State) (e g : Nat) (f : Flit) : State × Bool :=
  if (s.eng e g).tagMode = 0 ∨ s.tagOk e g f = true then (s, false)
  else
    let s := (s.count (DIR.tagFail e g)).raise (DIR.event e) 3
    let s := if flitTagV f && !(s.key (keyIdx (inSide e) (flitKph f) g)).valid then s.raise (DIR.event e) 5 else s
    (s, true)

/-- SEQ of the oldest sequenced flit in the deferral buffer, or TX_NEXT (R161). -/
def State.deferOldest (s : State) (e g : Nat) : Nat :=
  match (s.eng e g).defer.find? (fun h => sequenced h.flit) with
  | some h => flitSeq h.flit
  | none => s.get (DIR.txNext e g)

/-- A flit enters the deferral buffer (R161). After a DEFER_FULL abandon a sequenced flit is among those that
the abandon gives up, and is discarded; another flit enters where room is left. -/
def State.pushDefer (s : State) (e g : Nat) (h : Held) : State :=
  let add (t : State) : State :=
    let t := (t.updEng e g (fun x => { x with defer := x.defer ++ [h] })).noteRetry e g
    if (t.eng e g).defer.length = 48 * t.get (DIR.defq e g) then t.raise (DIR.event e) 16 else t
  if (s.eng e g).defer.length < s.deferCap e g then add s
  else
    let s := s.abandonAt e g (s.deferOldest e g) 3
    if !sequenced h.flit && decide ((s.eng e g).defer.length < s.deferCap e g) then add s
    else s.count (DIR.seqDrop e g)

/-- A newly accepted flit that waited for a slot enters the deferral buffer. -/
def State.deferFresh (s : State) (e g : Nat) : State :=
  match (s.eng e g).fresh with
  | some h => (s.updEng e g (fun x => { x with fresh := none })).pushDefer e g h
  | none => s

/-- A flit that the engine forwards waits for its slot (R160, R161). -/
def State.forward (s : State) (e g : Nat) (h : Held) : State :=
  let s := s.deferFresh e g
  if (s.eng e g).defer.isEmpty then s.updEng e g (fun x => { x with fresh := some h })
  else s.pushDefer e g h

/-- A go-back SNAK to the incoming partner: the peer engine inserts it (R153, R160). DIR_SNAK_OUT and SNAK_SENT advance as it is
queued (DESIGN CHOICE, log entry 38). -/
def State.sendSnak (s : State) (e g c : Nat) : State :=
  let s := ((s.put (DIR.inState e g) inWait).put (DIR.cSnak e g) c).updEng e g (fun x => { x with timer := true })
  let s := s.updEng (1 - e) g (fun x => { x with ins := x.ins ++ [.snak] })
  (s.count (DIR.snakOut e g)).raise (DIR.event e) 8

/-- A discarded flit (R153). -/
def State.seqDrop (s : State) (e g : Nat) : State := s.count (DIR.seqDrop e g)

/-- A failed flit in the machine of R153. -/
def State.flitFails (s : State) (e g : Nat) : State :=
  let s := s.seqDrop e g
  if s.get (DIR.inState e g) = inFlow then s.sendSnak e g 1 else s

/-- The sequence state after the acceptance of the flit with SEQ = RX_NEXT (R152, R153). The first of these after a release is the
first acceptance of R152, not an earlier flit without a SEQ (DESIGN CHOICE, log entry 38). -/
def State.advanceRx (s : State) (e g : Nat) : State :=
  let seq := s.get (DIR.rxNext e g)
  let s := s.updEng e g (fun x => { x with
    accepted := true, timer := false, outAbandon := none,
    sackOut := if seqAfter seq x.sackOut then seq else x.sackOut,
    rxLaps := if seq = 4095 then x.rxLaps + 1 else x.rxLaps })
  ((s.put (DIR.rxNext e g) (seq + 1)).put (DIR.inState e g) inFlow).put (DIR.cSnak e g) 0

/-- A sequenced flit is accepted in its turn: tag check, parse, forward (R136, R138, R153). A POISON flit whose tag fails counts as
one, and leaves with its payload as received (R195; DEDUCED, log entry 39). -/
def State.acceptSeq (s : State) (e g : Nat) (f : Flit) (arrive : Nat) : State :=
  let t := s.tagCheck e g f
  let r := if flitType f = 1 then t.1.parseData e g f arrive
    else (t.1, { flit := f, arrive := arrive, pids := [], unknown := false, tagBad := false })
  (r.1.advanceRx e g).forward e g { r.2 with tagBad := t.2 && decide (flitType f ≠ 4) }

/-- An accepted sequenced flit in the machine of R153. -/
def State.seqFlit (s : State) (e g : Nat) (f : Flit) (arrive : Nat) : State :=
  let rx := s.get (DIR.rxNext e g)
  if flitSeq f = rx then s.acceptSeq e g f arrive
  else if s.get (DIR.inState e g) = inFlow ∧ seqAfter (flitSeq f) rx = true then s.flitFails e g
  else s.seqDrop e g

/-- The acknowledgement of an accepted flit goes to the peer engine over the cross-engine path (R132, R156). -/
def State.crossSack (s : State) (e g : Nat) (f : Flit) : State :=
  if flitSackV f && decide (flitType f ≠ 2) then
    s.updEng (1 - e) g (fun x => { x with xpath := x.xpath ++ [.sack (flitSack f)] })
  else s

/-- A SNAK follows its acknowledgement over the cross-engine path (R157). -/
def State.crossSnak (s : State) (e g : Nat) (f : Flit) : State :=
  let w := payWord f 0
  s.updEng (1 - e) g (fun x => { x with
    xpath := x.xpath ++ [.snak (bitsOf w 0 12) (bitsOf w 12 12) (bitOf w 24)] })

/-- Codes of SRC that R177 leaves invalid. -/
def srcBad (src : Nat) : Bool := (List.range 8).any (fun n => decide (9 ≤ srcAt src n ∧ srcAt src n ≤ 14))

/-- A LANEMAP flit received in F mode: consumed, or discarded where its SRC or SEG is invalid (R170). DIR_SEQ_DROP does not count
it: it is not discarded under a row of R153 (R168; DESIGN CHOICE, log entry 38). -/
def State.lanemapFlit (s : State) (e g : Nat) (f : Flit) : State :=
  let w := BitVec.ofNat 64 (payWord f 0)
  if lmSeg w ≠ inSide e ∨ srcBad (lmSrc w) = true then s.raise (DIR.event e) 20
  else s.updEng e g (fun x => { x with mapq := x.mapq ++ [w] })

/-- An agreement is cancelled: the port returns to ON (R400). -/
def State.lpCancel (s : State) (g : Nat) : State := (s.lpClear g).raise PWR.event 7

/-- An LPWR flit (R399): its TYPE, and SEQ, TAG_V, tag and CRC as it has them. -/
def lpwrGood (f : Flit) : Bool :=
  decide (flitType f = 9 ∧ flitSeq f = 0 ∧ f.tag = 0) && !flitTagV f && crcMatches f

/-- OP of an LPWR flit: bits [1:0] of payload word 0 (R399). -/
def lpwrOp (f : Flit) : Nat := bitsOf (payWord f 0) 0 2

/-- A forwarded LPWR flit is observed (R400): ENTER_REQ is remembered by direction, and an ENTER_ACK or ENTER_NAK in the other
direction answers it. -/
def State.lpObserve (s : State) (e g : Nat) (f : Flit) : State :=
  if lpwrGood f && s.on (GLB.en g) && s.cfl g && decide (s.pers g ≠ 0) && decide (s.get (PWR.lpstat g) = 0) then
    let asked := (s.port g).lpReq.testBit (1 - e)
    match lpwrOp f with
    | 0 => s.updPort g (fun r => { r with lpReq := r.lpReq ||| 2 ^ e })
    | 1 => if asked then (s.put (PWR.lpstat g) 1).updPort g (fun r => { r with lpReq := 0 }) else s
    | 2 => if asked then s.updPort g (fun r => { r with lpReq := r.lpReq - 2 ^ (1 - e) }) else s
    | _ => s
  else s

/-- A forwarded flit as the low-power machine sees it: any other than SLACK or LPWR cancels an agreement, and an LPWR flit is
observed (R400). -/
def State.lpForward (s : State) (e g : Nat) (f : Flit) : State :=
  if flitType f = 9 then s.lpObserve e g f
  else if s.get (PWR.lpstat g) = 1 ∧ flitType f ≠ 2 then s.lpCancel g
  else s

/-- An accepted flit of an F-mode port that is not sequenced (R128, R150, R161, R170). -/
def State.plainIn (s : State) (e g : Nat) (f : Flit) (arrive : Nat) : State :=
  let h : Held := { flit := f, arrive := arrive, pids := [], unknown := false, tagBad := false }
  if flitType f = 2 then s.count (DIR.slackDel e g)
  else if flitType f = 5 then s.lanemapFlit e g f
  else if flitType f = 6 then s.crossSnak e g f
  else
    let s := if flitType f = 7 then s.raise (DIR.event e) 18
      else if flitType f = 9 then s.raise (DIR.event e) 21
      else if reservedType f then (s.count (DIR.parseErr e g)).raise (DIR.event e) 4
      else s
    s.forward e g h

/-- A flit is accepted (R130). -/
def flitAccepted (f : Flit) (correctable : Bool) : Bool := correctable && crcMatches f

/-- Flits since the last SLACK flit and since the last but one, after a further flit. -/
def slackCounts (isSlack : Bool) (gap span : Nat) : Nat × Nat := if isSlack then (0, gap + 1) else (gap + 1, span + 1)

/-- The incoming partner's slack ratio is watched (R148, R170): SLACK_SHORT is raised when the last N flits have come to hold
fewer than two SLACK flits. -/
def State.slackWatch (s : State) (e g : Nat) (isSlack : Bool) : State :=
  let x := s.eng e g
  let n := s.slackN g (inSide e)
  let c := slackCounts isSlack x.slackGap x.slackSpan
  (s.updEng e g (fun y => { y with slackGap := c.1, slackSpan := c.2 })).when
    (decide (x.slackSpan < n ∧ n ≤ c.2)) (fun t => t.raise (DIR.event e) 17)

/-- A flit received in F mode. -/
def State.flitF (s : State) (e g : Nat) (f : Flit) (correctable : Bool) (arrive : Nat) : State :=
  let ok := flitAccepted f correctable
  let s := s.slackWatch e g (ok && decide (flitType f = 2))
  if ok then
    let s := s.crossSack e g f
    if sequenced f then (s.count (DIR.flitRx e g)).seqFlit e g f arrive else s.plainIn e g f arrive
  else ((s.count (DIR.crcFail e g)).raise (DIR.event e) 2).flitFails e g

/-- LANEMAP flits that pass through in G mode are read (R179). -/
def State.lanemapG (s : State) (e g : Nat) (f : Flit) : State :=
  let w := BitVec.ofNat 64 (payWord f 0)
  if lmSeg w = 2 then s.endToEnd g w
  else if lmOp w = 3 ∧ lmSeg w = inSide e then s.updEng e g (fun x => { x with mapq := x.mapq ++ [w] })
  else s

/-- A flit received in G mode leaves as it arrived, or with a stomped CRC where it fails (R126, R128, R131). -/
def State.flitG (s : State) (e g : Nat) (f : Flit) (correctable : Bool) : State :=
  if flitAccepted f correctable then
    let s := if sequenced f then s.count (DIR.flitRx e g) else s
    let s := (s.flitOut e g f).lpForward e g f
    if flitType f = 5 then s.lanemapG e g f else s
  else
    (((s.count (DIR.crcFail e g)).raise (DIR.event e) 2).count (DIR.stomp e g)).flitOut e g (stomped f)

/-- The flit lies wholly in correctable codewords (R126, R130): as the decoding of its pair has shown, or as the command says
where that has not been commanded. -/
def State.flitWhole (s : State) (e g : Nat) (correctable : Bool) : Bool := ((s.eng e g).flitOk.head?).getD correctable

/-- A received flit (R130): the engine frames flits of a CFL port with codeword lock in UP (R122). -/
def State.flitReceived (s : State) (e g : Nat) (f : Flit) (correctable : Bool) (arrive : Nat) : State :=
  if s.cfl g && s.bothUp g && s.on (DIR.cwLock e g) then
    let c := s.flitWhole e g correctable
    let t := s.updEng e g (fun x => { x with flitOk := x.flitOk.drop 1 })
    (if s.pers g = 2 then t.flitF e g f c arrive
    else if s.pers g = 1 then t.flitG e g f c
    else s)
  else s

/-- The NAK timer expires (R153, R170). Without codeword lock no SNAK is sent (R122): the timer runs again (DEDUCED, log
entry 39). -/
def State.nakExpiry (s : State) (e g : Nat) : State :=
  if s.fMode g && decide (s.get (DIR.inState e g) = inWait) && (s.eng e g).timer then
    let s := s.raise (DIR.event e) 15
    if s.get (DIR.cSnak e g) < 3 then
      (if s.on (DIR.cwLock e g) then s.sendSnak e g (s.get (DIR.cSnak e g) + 1) else s)
    else s.abandonAt e g (s.get (DIR.rxNext e g)) 6
  else s

/-- A pure SACK to the incoming partner falls due (R152), unless one waits for its slot; the count restarts after it. SACK_IDLE is
read in the block of the engine that acknowledges (DESIGN CHOICE, log entry 38). -/
def State.pureSack (s : State) (e g : Nat) : State :=
  if s.fMode g && (s.eng e g).accepted && decide (orOne (s.get (DIR.sackIdle e g)) ≤ (s.eng e g).sackSlots)
      && !(s.eng (1 - e) g).ins.contains .pureSack then
    s.updEng (1 - e) g (fun x => { x with ins := x.ins ++ [.pureSack] })
  else s

/-- FLIT_RECEIVED (R130). -/
def execFlitReceived (e : Eng) (g : Port) (f : Flit) (correctable : Bool) (arrivePs : Nat) (s : State) :
    Host.Outcome State Fault Refusal :=
  .next ((s.flitReceived e.idx g f correctable arrivePs).goOn)

/-- NAK_TIMER_EXPIRY (R153). -/
def execNakTimerExpiry (e : Eng) (g : Port) (s : State) : Host.Outcome State Fault Refusal :=
  .next (s.nakExpiry e.idx g)

/-- PURE_SACK_DUE (R152): `e` is the engine whose incoming partner is acknowledged. -/
def execPureSackDue (e : Eng) (g : Port) (s : State) : Host.Outcome State Fault Refusal :=
  .next (s.pureSack e.idx g)

end Sys2Proof.Machine
end

