-- ==== Sys2Proof/Machine/Power.lean ====
section
/-! DEFINITION. The power controller (17_power_states.md): cold start and power-up, entry and its abort points,
wake sources, the CFL low-power agreement, and voltage and frequency. -/

namespace Sys2Proof.Machine

/-- PWR_STAT.STAGE of a phase (R417). -/
def stageCode (p : Phase) : Nat :=
  match p with
  | .stage k => k
  | .entry _ => 5
  | _ => 0

/-- The power controller's phase; PWR_STAT.STAGE follows it. -/
def State.setPhase (s : State) (p : Phase) : State := (s.updPwr (fun w => { w with phase := p })).put PWR.stage (stageCode p)

/-- Masks of PWR_EN on the way from `n` to `m` asserted rails: up in the order of R408, down in its reverse. -/
def railSteps (n m : Nat) : List Nat :=
  if n ≤ m then (List.range (m - n)).map (fun k => 2 ^ (n + k + 1) - 1)
  else (List.range (n - m)).map (fun k => 2 ^ (n - k - 1) - 1)

/-- The number of rails asserted. -/
def State.railCount (s : State) : Nat := popCount 5 s.pwr.rails

/-- The first `n` rails in the order of R408 are asserted. -/
def State.setRails (s : State) (n : Nat) : State :=
  ((railSteps s.railCount n).foldl (fun t m => t.drive (.pwrEn m)) s).updPwr (fun w => { w with rails := 2 ^ n - 1 })

/-- The VID lines are driven: RESET_N is high and VDDAON on (R415, R420). -/
def State.supplied (s : State) : Bool :=
  match s.pwr.phase with
  | .held => false
  | .off => false
  | .failed => false
  | .retry => decide (s.pwr.origin ≠ 0)
  | _ => true

/-- A power-up begins with VDDAON: the VID lines are driven at the boot VID (R408, R415). -/
def State.railsUp (s : State) (n : Nat) : State := ((s.setRails n).emit (.vid 10)).setPhase (.stage 1)

/-- Everything is cleared but the flash and what lies outside the unit (R28, R419); the first `n` rails stay
asserted, and the VID lines float (R415). COLD_CAUSE names the cause (R432), and the VSTBY bit PWRUP_FAIL stays where VSTBY
does. -/
def State.coldOf (s : State) (cause n : Nat) (p : Phase) (keepFail : Bool) : State :=
  let s := s.pinsBack
  let t := ((s.when s.flt.low (fun u => u.emit (.faultN false))).setRails n).when s.supplied (fun u => u.emit .vidFloat)
  { State.reset with
    pending := t.pending, freeCtr := t.freeCtr, out := t.out, flash := t.flash
    regs := (State.reset.put GLB.coldCause cause).regs
    pwr := { Pwr.reset with phase := p, rails := t.pwr.rails, upFail := t.pwr.upFail && keepFail } }

/-- The port leaves QUIET for WAKING (R400): `sides` are the segments on which a wake was detected, those of a later wake
included (R401). -/
def State.lpWake (s : State) (g sides : Nat) : State :=
  let note (t : State) : State := t.updPort g (fun r => { r with wake := r.wake ||| sides })
  match s.get (PWR.lpstat g) with
  | 2 => (note (s.put (PWR.lpstat g) 3)).settlePower
  | 3 => note s
  | _ => s

/-- The source is named in PWR_WAKESRC. -/
def State.wakeSource (s : State) (k : Nat × Nat × Nat) : State :=
  ((s.put PWR.wsKind k.1).put PWR.wsLane k.2.1).put PWR.wsWkind k.2.2

/-- A wake from SLEEP or DEEP is recorded (R402). -/
def State.noteWake (s : State) (k : Nat × Nat × Nat) : State :=
  ((s.wakeSource k).count PWR.wakeCnt).raise PWR.event 1

/-- The power-up after DEEP: the regulator stage asserts VDDC alone, at the boot VID (R408). -/
def State.upFromDeep (s : State) : State :=
  ((s.setVid 10).setRails 5).updPwr (fun w => { w with origin := 1, attempts := 0 }) |>.setPhase (.stage 1)

/-- The 20 µs pulse on WAKE_N at a wake from DEEP by a lane source (R404). Its two edges are given together, since its
length is time alone (DESIGN CHOICE, log entry 44). -/
def State.wakePulse (s : State) (k : Nat × Nat × Nat) : State :=
  s.when (decide (k.1 = 1) && s.on PWR.wakeOut) (fun t => (t.drive (.wakeN true)).drive (.wakeN false))

/-- A wake source acted in the cycle of the present clock. -/
def State.wokeNow (s : State) : Bool := decide (s.pwr.wakeAt = some s.clock)

/-- Of two wake sources in one cycle the one that stands lower in R402, whose rows are in the order of their KIND
(R412; DESIGN CHOICE, log entry 44). -/
def lowerRow (a b : Nat × Nat × Nat) : Nat × Nat × Nat := if a.1 < b.1 then b else a

/-- Entry does not start where a wake source acts in its cycle (R412). -/
def State.entryLost (s : State) : State := (s.put PWR.target 0).raise PWR.event 2

/-- A wake source acts in the cycle in which entry has started: it has not (R412). An entry from SLEEP toward OFF leaves the unit
in SLEEP, from which the source wakes it. -/
def State.entryUndone (s : State) (k : Nat × Nat × Nat) : State :=
  let t := s.entryLost.updPwr (fun w => { w with entryAt := none })
  if s.get PWR.state = 2 then ((t.noteWake k).updPwr (fun w => { w with origin := 2 })).setPhase (.stage 2)
  else t.setPhase .run

/-- A wake source acts (R402, R412): from SLEEP by the oscillator stage, from DEEP by the regulator stage; during
an entry the first one waits for the abort point, and in the cycle of its request undoes it. A second source of one cycle is
no further wake. -/
def State.wakeDev (s : State) (k : Nat × Nat × Nat) : State :=
  let t := s.updPwr (fun w => { w with wakeAt := some s.clock })
  match s.pwr.phase with
  | .run => t
  | .sleep => ((t.noteWake k).updPwr (fun w => { w with origin := 2 })).setPhase (.stage 2)
  | .deep => ((t.wakePulse k).noteWake k).upFromDeep
  | .entry n =>
    if n = 1 ∧ s.pwr.entryAt = some s.clock then t.entryUndone k
    else match s.pwr.wake with
      | some old => if s.wokeNow then t.updPwr (fun w => { w with wake := some (lowerRow old k) }) else s
      | none => t.updPwr (fun w => { w with wake := some k })
  | .stage _ =>
    if s.wokeNow && decide (s.pwr.origin = 1 ∨ s.pwr.origin = 2) && decide (s.get PWR.wsKind < k.1) then s.wakeSource k
    else s
  | _ => s

/-- The wake source of a receiver lane-end acts (R54). -/
def State.laneWakes (s : State) (i : Nat) (comet : Bool) : Bool :=
  match s.get (LRX.wakeSrc i) with
  | 0 => true
  | 2 => false
  | _ => comet

/-- The unit is in SLEEP (1) or DEEP (2), or enters it, or would by TARGET. -/
def State.asleep (s : State) (goal : Nat) : Bool :=
  match s.pwr.phase with
  | .run => decide (s.get PWR.target = goal)
  | .sleep => decide (goal = 1)
  | .deep => decide (goal = 2)
  | .entry _ => decide (s.pwr.goal = goal)
  | _ => false

/-- LANE_WAKE's effect (R402). -/
def State.laneWake (s : State) (i : Nat) (comet : Bool) : State :=
  if s.pwr.rails.testBit 0 && s.laneWakes i comet then
    let s := s.wakeDev (1, i, 0)
    match s.carried (i / 34) (i % 34) with
    | some (g, _) => s.lpWake g (2 ^ (i / 34))
    | none => s
  else s

/-- A port group's LINK_WAKE (R400, R402). -/
def State.linkWake (s : State) (groups : Nat) : State :=
  if groups % 16 = 0 then s
  else (s.wakeDev (7, 0, 0)).each (setBits 4 groups) (fun g t => t.lpWake g 0)

/-- TARGET takes a state other than OFF. A request for OFF, or with TARGET RUN any request, that a power-up holds is no longer
one (R395, R412; DEDUCED, log entry 39). -/
def State.retarget (s : State) (t : Nat) : State :=
  (s.put PWR.target t).updPwr (fun w => { w with held := w.held && decide (t ≠ 0 ∧ w.goal ≠ 3) })

/-- A WAKE sequence takes the device to RUN: IDLE is left as SLEEP and DEEP are (R403). -/
def State.wakeRun (s : State) (kind : Nat) : State :=
  ((s.retarget 0).when s.running (fun t => t.put PWR.state 0)).wakeDev (2, 0, kind)

/-- A WAKE sequence's KIND at a unit (R403), with the status of its refusal. -/
def State.applyWake (s : State) (kind : Nat) : State × Nat :=
  match kind with
  | 0 => (s.wakeRun 0, stOk)
  | 1 =>
    if s.pwr.phase = .deep then
      ((s.wakeDev (2, 0, 1)).updPwr (fun w => { w with goal := 1, held := true }), stOk)
    else (s, stOk)
  | 2 => ((s.wakeRun 2).each [0, 1, 2, 3] (fun g t => t.lpWake g 0), stOk)
  | _ => (s, stBadDesc)

/-- ORB_WAKE.SEND (R403): with TARGET 0 or 0xFF the manager applies the sequence too. -/
def State.wakeSend (s : State) (target kind : Nat) : State :=
  let s := (s.setReg ORB.wake (BitVec.ofNat 32 (target % 256 + 256 * (kind % 256))))
  if s.on ORB.wBusy then s
  else
    let s := (s.setReg ORB.wakeStat 0).put ORB.wBusy 1
    let data := [BitVec.ofNat 8 target, BitVec.ofNat 8 kind]
    if target = 0 ∨ target = 0xFF then
      let r := s.applyWake kind
      r.1.priStart 2 data (some r.2) .nobody
    else s.priStart 2 data none .nobody

/-- A sequence at a worker, relayed with what the unit did: nothing, applied, or refused with a status (R317). -/
def State.passPri (s : State) (p : OrbPort) (lead : Nat) (q : PriSeq) (done : Option Nat) : State :=
  s.relayPri p lead (match done with
    | none => q
    | some 0 => { q with applied := q.applied + 1 }
    | some st => { q with refused := q.refused + 1, rstat := if q.refused = 0 then BitVec.ofNat 8 st else q.rstat })

/-- TARGET names this unit or every unit (R317). -/
def State.named (s : State) (target : Nat) : Bool :=
  decide (target = 0xFF) || (s.on ORB.addrValid && decide (target = s.get ORB.addr))

/-- A WAKE sequence at a worker (R317, R403): it acts on the outbound path alone (R320). -/
def State.wakeSeq (s : State) (p : OrbPort) (q : PriSeq) : State :=
  if s.workerHears p then
    let s := s.notePri q
    if priGood 2 q && decide (p = s.outboundIn) && s.named (q.data.getD 0 0).toNat then
      let r := s.applyWake (q.data.getD 1 0).toNat
      r.1.passPri p 2 q (some r.2)
    else s.passPri p 2 q none
  else s

/-- The management core has work (R393). -/
def State.coreBusy (s : State) : Bool :=
  decide (s.core.st = .booting) || !s.core.record.isEmpty || !s.core.loads.isEmpty || !s.calReqs.isEmpty
    || !s.bist.isEmpty || !s.core.waiting.isEmpty

/-- BLOCK of PWR_STAT: the conditions of R394 that fail for a target. -/
def State.blockBits (s : State) (target : Nat) : Nat :=
  let en (g : Nat) : Bool := s.on (GLB.en g)
  let any (f : Nat → Bool) : Bool := [0, 1, 2, 3].any (fun g => en g && f g)
  let desc := s.rings.any (fun r => !r.2.flights.isEmpty) || !s.calReqs.isEmpty || !s.bist.isEmpty
    || !s.core.loads.isEmpty || !s.core.waiting.isEmpty || s.ports.any (fun r => !r.2.jobs.isEmpty)
    || (List.range 68).any (fun i => s.ltRunning i)
  let host := s.manager && (if target = 1 then !s.on RNG.d3hot && decide (s.get RNG.linkPm = 0) else !s.on RNG.d3hot)
  boolNat (any (fun g => decide (s.get (PWR.lpstat g) ≠ 2)))
    + 2 * boolNat (any (fun g => !s.cfl g || decide (s.pers g = 0)))
    + 4 * boolNat desc + 8 * boolNat ([0, 1, 2, 3].any (fun g => s.mapBusy g) || s.fgBusy)
    + 16 * boolNat s.safe + 32 * boolNat host

/-- The step of an entry begins (R411). -/
def State.entryStep (s : State) (k : Nat) : State :=
  let s := s.setPhase (.entry k)
  match k with
  | 3 =>
    ((s.put (GLB.pllLock 0) 0).put (GLB.pllLock 1) 0).vidGated (if s.pwr.goal = 1 then s.vidFor 0 else 10)
  | 5 => (s.vidCut 10).setRails (if s.pwr.goal = 3 then 0 else 4)
  | _ => s

/-- Entry toward a state begins at step k. -/
def State.entryStart (s : State) (goal k : Nat) : State :=
  (s.updPwr (fun w => { w with
    goal := goal, held := false, wake := none, safeDue := false, entryAt := some s.clock })).entryStep k

/-- SLEEP or DEEP is reached (R411). -/
def State.entered (s : State) (p : Phase) (code : Nat) : State :=
  (((s.setPhase p).put PWR.state code).count PWR.entryCnt).raise PWR.event 0

/-- An entry is abandoned at abort point E_k (R412). E4 has no row of its own: the rails are all on, and the
regulator stage passes (DEDUCED, log entry 24). Where the entry began in SLEEP, whose clocks stand, the power-up begins with
the oscillator stage at the latest. -/
def State.entryAbort (s : State) (k : Nat) : State :=
  let s := (((s.put PWR.lastAbort k).count PWR.abortCnt).raise PWR.event 3).put PWR.target 0
  (s.updPwr (fun w => { w with origin := 3, wake := none, held := false })).setPhase (.stage (if s.get PWR.state = 2 then min 2 (5 - k) else 5 - k))

/-- ENTRY_STEP_DONE's effect (R411, R412). -/
def State.entryNext (s : State) : State :=
  match s.pwr.phase with
  | .entry k =>
    if k = 5 then s
    else if s.pwr.wake.isSome then s.entryAbort k
    else if s.pwr.goal = 1 then (if k = 1 then s.entryStep 3 else s.entered .sleep 2)
    else s.entryStep (k + 1)
  | _ => s

/-- PG is low after step 5: DEEP, in which the core's SRAM is lost (R426), or OFF is reached, and a wake that fell in step 5
acts (R411, R412). -/
def State.railsDone (s : State) : State :=
  if s.pwr.phase = .entry 5 then
    let wake := s.pwr.wake
    if s.pwr.goal = 3 then
      let t := s.coldOf 2 0 .off true
      if wake.isSome then t.railsUp 1 else t
    else
      let t := (((({ s.pinsBack with jtag := .idcode }.updPwr (fun w => { w with wake := none })).entered .deep 3).put ORB.trimmed
        0).coreLost).sourcesDown
      match wake with
      | some k => t.wakeDev k
      | none => t
  else s

/-- A wake source acts now: one has come in this cycle, or a lane of a QUIET port has a signal that is one. -/
def State.wakeNow (s : State) : Bool :=
  s.wokeNow || [0, 1, 2, 3].any (fun g => decide (s.get (PWR.lpstat g) = 2) && [0, 1].any (fun sd =>
    (s.positions g sd 0).any (fun p =>
      let i := 34 * sd + p
      !s.on (LRX.losNow i) && s.laneWakes i (s.on (LRX.cometNow i)))))

/-- The dwell of R394 ends: entry starts, unless a wake source acts in the same cycle (R412). -/
def State.dwellEnds (s : State) : State :=
  let t := s.get PWR.target
  if s.running && decide (t = 1 ∨ t = 2) && decide (s.blockBits t = 0) then
    if s.wakeNow then s.entryLost else s.entryStart t 1
  else s

/-- Software wants OFF (R396): every port group is disabled, and entry starts at once; during a power-up it is
held, and in DEEP the write wakes the unit first. With a wake source in the same cycle entry does not start, and the groups
stay disabled (R412). -/
def State.offStart (s : State) : State :=
  let lost := s.wakeNow
  let s := (s.put PWR.target 3).each [0, 1, 2, 3] (fun g t => t.groupOff g)
  match s.pwr.phase with
  | .run => if lost then s.entryLost else s.entryStart 3 1
  | .sleep => s.entryStart 3 1
  | .stage _ => if s.wokeNow then s.entryLost else s.updPwr (fun w => { w with goal := 3, held := true })
  | .deep => (s.wakeDev (7, 0, 0)).updPwr (fun w => { w with goal := 3, held := true })
  | .entry _ => s.updPwr (fun w => { w with goal := 3 })
  | _ => s.updPwr (fun w => { w with goal := 3, held := true })

/-- A write to PWR_CTRL.TARGET (R394 to R396, R402). -/
def State.targetWrite (s : State) (t : Nat) : State :=
  let deep := decide (s.pwr.phase = .deep)
  if t = 3 then
    if s.on PWR.offEn then s.offStart
    else (s.raise PWR.event 4).when deep (fun u => u.wakeDev (7, 0, 0))
  else (s.retarget t).when (deep || decide (t = 0)) (fun u => u.wakeDev (7, 0, 0))

/-- The fault source of an SRAM with no spare row left (R371, R426); the level histogram has none. -/
def sramSource (m : Sram) : Option Nat :=
  match m with
  | .replay e => some (137 + 12 * e.idx)
  | .deferral e => some (138 + 12 * e.idx)
  | .partition => some 139
  | .core => some 162
  | .retention => some 179
  | .snapshot => some 180
  | .histogram => none

/-- SRAM repair (R426). -/
def State.repair (s : State) (r : SramRow) : State :=
  if r.spareLeft then s.updCore (fun c => { c with repaired := c.repaired ++ [(r.sram, r.row)] })
  else match sramSource r.sram with
    | some n => s.report n
    | none => s

/-- What DEEP does not retain (R407): buffers, histogram memory and Crescent logs, and waiting telemetry. -/
def State.afterDeep (s : State) : State :=
  let s := s.each (List.range 8) (fun n t => t.updEng (n / 4) (n % 4) (fun x => { x with slots := [], defer := [] }))
  let s := s.mapRegs (fun a w => match lrxOf a with
    | some (_, o) => if 0xC00 ≤ o then regReset a else w
    | none => w)
  s.each (List.range 16) (fun n t =>
    let m := Sparse.get Stream.idle t.streams n
    if m.wait.isSome then
      (({ t with streams := Sparse.set Stream.idle t.streams n { m with wait := none, missed := true } }).put
        (ECL.sPending n) 0).satCount (ECL.miss n) |>.raise ECL.event 2
    else t)

/-- RESET_N rises (R420): a rail whose PG is present passes at once. -/
def State.coldStart (s : State) (pgs : Nat) : State :=
  if s.pwr.phase = .held then
    let lead := ((List.range 5).takeWhile (fun k => pgs.testBit k)).length
    s.railsUp (max s.railCount (min 5 (lead + 1)))
  else s

/-- The straps are latched at the end of the regulator stage of a cold start (R425): ROLE and the manager's
address follow (R318), and SAFE_TX (R363). -/
def State.latchStraps (s : State) (v : Nat) : State :=
  let s := s.setReg GLB.strap (BitVec.ofNat 32 (v % 8 + 8 * boolNat (!bitOf v 3)))
  let s := (s.put FLT.safeTx (s.get GLB.strapSafeTx)).put ORB.role (s.get GLB.strapRole)
  if s.manager then (s.put ORB.addr 0).put ORB.addrValid 1 else s

/-- REGULATOR_STAGE_READY's effect. -/
def State.regulatorReady (s : State) (straps : Nat) : State :=
  if s.pwr.phase = .stage 1 then
    let s := s.setRails 5
    (if s.pwr.origin = 0 then s.latchStraps straps else s).setPhase (.stage 2)
  else s

/-- OSCILLATOR_STAGE_READY's effect (R408): REFCLK is there, the Orbit oscillator trimmed, both Tx PLLs locked to
REFCLK, and VDDC going up to the RUN floor under R414: the stage's ready signal does not wait for its voltage-ready. An
exit from SLEEP omits the memory stage. Where the stage has had to wait for REFCLK, its first edge came 100 µs before and a
time that no command gives, the wait for the locks: free (R346; DESIGN CHOICE, log entry 10). -/
def State.oscReady (s : State) : State :=
  if s.pwr.phase = .stage 2 then
    let s := if s.on GLB.refclkOk then s else ((s.refclkReturn).timeOn s.free.toNat).useFree
    let s := (s.put ORB.trimmed 1).each [0, 1] (fun e t =>
      ((t.put (GLB.hold e) 0).put (GLB.pllLock e) 1).updPll e (fun _ => { freq := 0, warned := false }))
    s.dvfsGo.setPhase (.stage (if s.pwr.origin = 2 then 4 else 3))
  else s

/-- MEMORY_STAGE_DONE's effect (R407, R408, R426). -/
def State.memoryDone (s : State) (rows : List SramRow) : State :=
  if s.pwr.phase = .stage 3 then
    let s := s.each rows (fun r t => t.repair r)
    (if s.pwr.origin = 1 then s.afterDeep else s).setPhase (.stage 4)
  else s

/-- LOGIC_STAGE_DONE's effect (R408, R412): the unit is in RUN; after a cold start or DEEP the core boots, and the
manager of a cold start enumerates its chain (R321). Escalations that fell due are taken. A held entry request is
honoured at E1. -/
def State.logicDone (s : State) : State :=
  if s.pwr.phase = .stage 4 then
    let cold := decide (s.pwr.origin = 0)
    let s := (((s.setPhase .run).put PWR.state 0).put PWR.pwrupFail (if cold then boolNat s.pwr.upFail
      else s.get PWR.pwrupFail)).updPwr (fun w => { w with attempts := 0, upFail := false })
    let s := if s.pwr.origin ≤ 1 then (s.updCore (fun c => { c with cold := cold })).boot else s
    let s := ((s.onsetIfNew 163 false).when (decide (s.pwr.origin = 1)) State.sourcesBack).takeDue
    let s := if cold && s.manager then (s.updOrb (fun o => { o with enumOwed := o.enumOwed ++ [false] })).seqGo else s
    let s := s.goOn.when (decide (s.pwr.dvfs = .idle)) State.dvfsStart
    if s.pwr.held then s.entryStart s.pwr.goal (if s.pwr.goal = 1 then 3 else 2) else s
  else s

/-- After three failed attempts every rail stays off until WAKE_N or a cold reset (R409). -/
def State.upFails (s : State) : State :=
  (s.coldOf (s.get GLB.coldCause) 0 .failed true).updPwr (fun w => { w with upFail := true })

/-- A PG has not arrived in time (R409): the rails of the attempt are deasserted in reverse order. Each is asserted after the
PG of the one before, and which of them gave none the command does not say: that one is free (DESIGN CHOICE, log entry
44). A power-up that has lost VDDC goes on as one from DEEP. -/
def State.pgTimeout (s : State) : State :=
  if s.pwr.phase = .stage 1 then
    let s := (s.useFree).setRails (s.railCount + s.free.toNat % (6 - s.railCount))
    let s := s.updPwr (fun w => { w with attempts := w.attempts + 1 })
    if 3 ≤ s.pwr.attempts then s.upFails
    else if s.pwr.origin = 0 then ((s.setRails 0).emit .vidFloat).setPhase .retry
    else (((s.setRails 4).put PWR.state 3).updPwr (fun w => { w with origin := 1 })).setPhase .retry
  else s

/-- 100 ms later (R409): a new attempt, or after three every rail stays off. -/
def State.upRetry (s : State) : State :=
  if s.pwr.phase = .retry then
    if 3 ≤ s.pwr.attempts then s.upFails
    else if s.pwr.origin = 0 then s.railsUp 1
    else (s.setRails 5).setPhase (.stage 1)
  else s

/-- WAKE_N held low (R402, R409): a wake, or from OFF or after failed attempts a cold start. -/
def State.wakeNLow (s : State) : State :=
  match s.pwr.phase with
  | .off => s.railsUp 1
  | .failed => s.railsUp 1
  | _ => s.wakeDev (4, 0, 0)

/-- LOS on every position in use of a segment. -/
def State.lossAll (s : State) (g sd : Nat) : Bool :=
  (s.positions g sd 0).all (fun p => s.on (LRX.losNow (34 * sd + p)))

/-- The 1 ms agreement timer expires (R400). -/
def State.lpTimeout (s : State) (g : Nat) : State :=
  if s.get (PWR.lpstat g) = 1 ∧ (s.lossAll g 0 && s.lossAll g 1) = false then s.lpCancel g else s

/-- The port falls silent (R400). -/
def State.lpQuiet (s : State) (g : Nat) : State :=
  let empty (e : Nat) : Bool :=
    (s.eng e g).defer.isEmpty && (s.eng e g).queue.isEmpty && (s.eng e g).replay.isEmpty
  if s.get (PWR.lpstat g) = 1 ∧ (s.lossAll g 0 && s.lossAll g 1 && empty 0 && empty 1) = true then
    let s := s.each [0, 1] (fun e t =>
      (t.updEng e g (fun x => { x with slots := x.slots.map (fun y => { y with valid := false }) })).drainCheck e g)
    (((s.put (PWR.lpstat g) 2).raise PWR.event 5).settlePower).settleCauses
  else s

/-- Both segments of a CFL port are lost at once: each trains again, and neither goes to HOLD for the other (R109, R110). -/
def State.bothLost (s : State) (g cause : Nat) : State :=
  let s := s.each [0, 1] (fun sd t => ((t.put (GLB.tsCause g sd 0) cause).raise GLB.event 8).segEnds g sd)
  (((s.startAttempt g 0 0).startAttempt g 1 0).segEval g 0 0).segEval g 1 0

/-- WAKE_TIMER expires in WAKING (R400): each segment without codeword lock is lost. -/
def State.lpWakeFail (s : State) (g : Nat) : State :=
  if s.get (PWR.lpstat g) = 3 then
    let locked := fun sd => s.on (DIR.cwLock (inEngine sd) g)
    let s := (s.raise PWR.event 8).lpClear g
    (if !locked 0 && !locked 1 && s.bothUp g then s.bothLost g caLost
      else s.each [0, 1] (fun sd t => if locked sd then t else t.segLost g sd 0 caLost)).goOn
  else s

/-- COLD_RESET (R419, R420): PWR_EN keeps its level while RESET_N is low. -/
def execColdReset (s : State) : Host.Outcome State Fault Refusal := .next (s.coldOf 1 s.railCount .held true)

/-- VSTBY_APPLIED (R419). -/
def execVstbyApplied (s : State) : Host.Outcome State Fault Refusal := .next (s.coldOf 0 0 .held false)

/-- RESET_N_RISE (R420). -/
def execResetNRise (pgs : BitVec 5) (s : State) : Host.Outcome State Fault Refusal := .next (s.coldStart pgs.toNat)

/-- POWER_LOSS (R28). -/
def execPowerLoss (s : State) : Host.Outcome State Fault Refusal := .next (s.coldOf 0 0 .held false)

/-- REGULATOR_STAGE_READY (R408). -/
def execRegulatorStageReady (straps : BitVec 4) (s : State) : Host.Outcome State Fault Refusal :=
  .next (s.regulatorReady straps.toNat)

/-- OSCILLATOR_STAGE_READY (R408). -/
def execOscillatorStageReady (s : State) : Host.Outcome State Fault Refusal := .next s.oscReady

/-- MEMORY_STAGE_DONE (R408). -/
def execMemoryStageDone (rows : List SramRow) (s : State) : Host.Outcome State Fault Refusal :=
  .next (s.memoryDone rows)

/-- POWERUP_PG_TIMEOUT (R409). -/
def execPowerupPgTimeout (s : State) : Host.Outcome State Fault Refusal := .next s.pgTimeout

/-- POWERUP_RETRY (R409). -/
def execPowerupRetry (s : State) : Host.Outcome State Fault Refusal := .next s.upRetry

/-- STAGE_WAIT_EXCEEDED (R409). -/
def execStageWaitExceeded (s : State) : Host.Outcome State Fault Refusal :=
  .next (s.when (decide (s.pwr.phase = .stage 3 ∨ s.pwr.phase = .stage 4)) (fun t => t.report 182))

/-- IDLE_ENTRY (R393). -/
def execIdleEntry (s : State) : Host.Outcome State Fault Refusal :=
  .next (s.when (s.running && !s.coreBusy) (fun t => t.put PWR.state 1))

/-- IDLE_EXIT (R393). -/
def execIdleExit (s : State) : Host.Outcome State Fault Refusal :=
  .next (s.when s.running (fun t => t.put PWR.state 0))

/-- TARGET_WRITE (R394). -/
def execTargetWrite (target : BitVec 2) (s : State) : Host.Outcome State Fault Refusal :=
  .next (s.soft PWR.ctrl (fun t => t.targetWrite target.toNat))

/-- ENTRY_DWELL_EXPIRY (R394). -/
def execEntryDwellExpiry (s : State) : Host.Outcome State Fault Refusal := .next s.dwellEnds

/-- ENTRY_STEP_DONE (R411). -/
def execEntryStepDone (s : State) : Host.Outcome State Fault Refusal := .next s.entryNext

/-- ENTRY_RAILS_DONE (R411). -/
def execEntryRailsDone (s : State) : Host.Outcome State Fault Refusal := .next s.railsDone

/-- LINK_WAKE (R400). -/
def execLinkWake (groups : BitVec 4) (s : State) : Host.Outcome State Fault Refusal :=
  .next (s.soft PWR.ctrl (fun t => t.linkWake groups.toNat))

/-- LANE_WAKE (R402). -/
def execLaneWake (sd : Side) (p : Pos) (comet : Bool) (s : State) : Host.Outcome State Fault Refusal :=
  .next (s.laneWake (laneIdx sd p) comet)

/-- WAKE_N_LOW (R402). -/
def execWakeNLow (s : State) : Host.Outcome State Fault Refusal := .next s.wakeNLow

/-- PCIE_WAKE (R402), on the manager. -/
def execPcieWake (s : State) : Host.Outcome State Fault Refusal :=
  .next (s.when s.manager (fun t => t.wakeDev (5, 0, 0)))

/-- TEMP_WAKE (R402): from DEEP, or an entry toward it. -/
def execTempWake (s : State) : Host.Outcome State Fault Refusal :=
  .next (s.when (s.asleep 2) (fun t => t.wakeDev (6, 0, 0)))

/-- ORBIT_FRAME_WAKE (R402): from SLEEP, or an entry toward it. -/
def execOrbitFrameWake (s : State) : Host.Outcome State Fault Refusal :=
  .next (s.when (s.asleep 1) (fun t => t.wakeDev (3, 0, 0)))

/-- LPWR_FLIT (R400). -/
def execLpwrFlit (e : Eng) (g : Port) (f : Flit) (s : State) : Host.Outcome State Fault Refusal :=
  .next (s.lpObserve e.idx g f)

/-- LP_AGREE_TIMEOUT (R400). -/
def execLpAgreeTimeout (g : Port) (s : State) : Host.Outcome State Fault Refusal := .next (s.lpTimeout g)

/-- LP_QUIET (R400). -/
def execLpQuiet (g : Port) (s : State) : Host.Outcome State Fault Refusal := .next (s.lpQuiet g)

/-- LP_WAKE_TIMEOUT (R400). -/
def execLpWakeTimeout (g : Port) (s : State) : Host.Outcome State Fault Refusal := .next (s.lpWakeFail g)

/-- DVFS_REQUEST (R414). -/
def execDvfsRequest (point : BitVec 2) (s : State) : Host.Outcome State Fault Refusal :=
  .next (s.soft PWR.dvfs (fun t => (t.put PWR.corePt point.toNat).dvfsStart))

/-- VREADY_SAMPLE (R452): 50 µs after a change of VID; high at once is voltage-ready. -/
def execVreadySample (high : Bool) (s : State) : Host.Outcome State Fault Refusal :=
  .next (s.when (high && decide (s.pwr.dvfs = .raising)) State.vidReady)

/-- VOLTAGE_READY (R414). -/
def execVoltageReady (s : State) : Host.Outcome State Fault Refusal :=
  .next (s.when (decide (s.pwr.dvfs = .raising)) State.vidReady)

/-- DVFS_CLOCK_RAISE (R414). -/
def execDvfsClockRaise (s : State) : Host.Outcome State Fault Refusal :=
  .next (s.when (decide (s.pwr.dvfs = .settling)) (fun t => (t.put PWR.curPt t.pwr.point).dvfsEnd))

/-- CLOCK_SWITCH_DONE (R414): only then is VID changed. -/
def execClockSwitchDone (s : State) : Host.Outcome State Fault Refusal :=
  .next (s.when (decide (s.pwr.dvfs = .lowering)) (fun t =>
    ((t.put PWR.curPt t.pwr.point).setVid (t.vidFor (t.runFloor t.pwr.point))).dvfsEnd))

/-- VID_TIMEOUT (R414, R452). -/
def execVidTimeout (s : State) : Host.Outcome State Fault Refusal :=
  .next (s.when (decide (s.pwr.dvfs = .raising)) (fun t => (t.report 178).dvfsEnd))

/-- ORB_WAKE_SEND (R403). -/
def execOrbWakeSend (target kind : Byte) (s : State) : Host.Outcome State Fault Refusal :=
  .next (s.soft ORB.wake (fun t => t.when t.manager (fun u => u.wakeSend target.toNat kind.toNat)))

/-- WAKE_SEQ_RECEIVED (R403). -/
def execWakeSeqReceived (p : OrbPort) (sq : PriSeq) (s : State) : Host.Outcome State Fault Refusal :=
  .next (s.wakeSeq p sq)

end Sys2Proof.Machine
end

