-- ==== Sys2Proof/Machine/View.lean ====
section
/-! DEFINITION. What a register reads as: the fields that follow the machine's state, and the snapshot layout
(R343). -/

namespace Sys2Proof.Machine

/-- A word with a field replaced. -/
def setFld (w : Word) (lo len v : Nat) : Word := BitVec.ofNat 32 (putBits w.toNat lo len v)

/-- Registers of the ORB block that are the manager's (R331). -/
def orbManager (a : Nat) : Bool :=
  decide (a = 0x40014 ∨ a = 0x40028 ∨ a = 0x4002C ∨ a = 0x40030 ∨ a = 0x40078 ∨ a = 0x4007C
    ∨ (0x40400 ≤ a ∧ a < 0x40800))

/-- A register of the global block as it reads: lane status and map status follow the lane maps (R115, R188), and
the training status word of an Ethernet group is that of its lowest port. -/
def State.viewGlb (s : State) (a : Nat) : Word :=
  if 0x100 ≤ a ∧ a < 0x180 then
    let g := (a - 0x100) / 0x20
    let o := a % 0x20
    if o = 0x10 ∨ o = 0x14 then
      BitVec.ofNat 32 (s.inUseBits g ((o - 0x10) / 4) + 2 ^ 16 * s.precodeBits g ((o - 0x10) / 4))
    else if o = 8 ∨ o = 0xC then s.reg (GLB.trnStat g ((o - 8) / 4) ((s.portKeys g).headD 0))
    else s.reg a
  else if 0x180 ≤ a ∧ a < 0x1C0 ∧ a % 0x10 = 8 then setFld (s.reg a) 2 1 (boolNat (s.mapBusy ((a - 0x180) / 0x10)))
  else s.reg a

/-- A bin of a histogram run in progress (R58, R344): free, and no more than the samples of the run. -/
def State.partialBin (s : State) (i n : Nat) : Word :=
  BitVec.ofNat 32 (min (Config.partialBin i n s.clock).toNat (s.histSamples i))

/-- The value of the register at address `a`, as software reads it where its island answers. LTX_ROT.AT_LIMIT shows while
the offset still rests at ±200 ppm: R78 says when it is set and not when it clears (DESIGN CHOICE, log entry 38). BLOCK shows the conditions that fail whatever TARGET is (R394). -/
def State.view (s : State) (a : Nat) : Word :=
  match lrxOf a with
  | some (i, o) =>
    if o = 4 then setFld (s.reg a) 5 6 (s.freeze i)
    else if 0xC00 ≤ o ∧ o < 0xE00 ∧ s.on (LRX.run i) = true then s.partialBin i ((o - 0xC00) / 4)
    else s.reg a
  | none =>
    match ltxOf a with
    | some (i, o) =>
      if o = 4 then setFld (s.reg a) 0 3 (s.txState i)
      else if o = 0x20 then
        BitVec.ofNat 32 (ofSigned 16 (s.rotOffset i)
          + 2 ^ 16 * boolNat (s.on (LTX.rotAtLimit i) && decide ((s.rotOffset i).natAbs = 20000)))
      else s.reg a
    | none =>
      if a < 0x10000 then s.viewGlb a
      else if a = PWR.stat then setFld (s.reg a) 16 6 (s.blockBits (s.get PWR.target))
      else if a = 0x60010 then
        setFld (setFld (setFld (s.reg a) 0 1 (boolNat s.calSuspended)) 4 1 (boolNat s.calHost)) 5 1 (boolNat s.fgBusy)
      else if orbManager a && !s.manager then 0
      else s.reg a

/-- The registers whose view can differ from what is held and that a snapshot names. -/
def viewedInBank : List Nat :=
  ((List.range 68).map (fun i => [LRX.status i, LTX.status i, LTX.base i + 0x20])).flatten
    ++ ((List.range 4).map (fun g => [GLB.lmstat g, GLB.trnStat g 0 0, GLB.trnStat g 1 0])).flatten ++ [0x60010]

/-- The bins of the runs in progress, which a snapshot names too (R344). -/
def State.runBins (s : State) : List Nat :=
  (((List.range 68).filter (fun i => s.on (LRX.run i))).map (fun i => (List.range 128).map (LRX.hist i))).flatten

/-- The register image that a capture latches (R337, R344). -/
def State.image (s : State) : Sparse Word :=
  ((viewedInBank ++ s.runBins).foldl (fun t a => t.setReg a (s.view a)) s).regs

/-- The register at an offset of a receiver record (R343). -/
def rxRecord (i o : Nat) : Option Nat :=
  if o < 0x48 then some (LRX.base i + 0x60 + o)
  else if o < 0x8C then some (LRX.base i + 0xE00 + (o - 0x48))
  else match (o - 0x8C) / 4 with
    | 0 => some (LRX.base i + 0x40)
    | 1 => some (LRX.base i + 0x44)
    | 2 => some (LRX.base i + 4)
    | 3 => some (LRX.base i + 0x30)
    | _ => none

/-- A transmitter record. -/
def txRecord (i o : Nat) : Option Nat :=
  if o < 0x18 then some (LTX.base i + 0x60 + o) else if o = 0x18 then some (LTX.base i + 4) else some (LTX.base i + 0x20)

/-- The engine section. -/
def engSection (e o : Nat) : Option Nat :=
  if o < 0x300 then
    let b := DIR.g e (o / 0xC0)
    let r := o % 0xC0
    if r < 0x40 then some (b + 0x40 + r)
    else if r < 0x90 then some (b + 0x80 + (r - 0x40))
    else if r < 0xA8 then some (b + 0xD0 + (r - 0x90))
    else match (r - 0xA8) / 4 with
      | 0 => some (b + 4)
      | 1 => some (b + 0x18)
      | 2 => some (b + 0x1C)
      | 3 => some (b + 0x24)
      | 4 => some (b + 0x20)
      | _ => none
  else if o < 0x340 then some (DIR.base e + 0x500 + (o - 0x300))
  else if o < 0x540 then some (DIR.base e + 0x600 + (o - 0x340))
  else if o < 0x740 then some (DIR.base e + 0x800 + (o - 0x540))
  else none

/-- The global section. -/
def glbSection (o : Nat) : Option Nat :=
  if o < 0x20 then some (0x40060 + o)
  else if o < 0x30 then some (0x30850 + (o - 0x20))
  else if o < 0x54 then some (0x60040 + (o - 0x30))
  else if o = 0x54 then some 0x60010
  else if o = 0x58 then some 0xA800C
  else if o = 0x5C then some 0xA8004
  else if o < 0x80 then some (GLB.lmap ((o - 0x60) / 8) ((o - 0x60) / 4 % 2))
  else if o < 0x90 then some (GLB.lmstat ((o - 0x80) / 4))
  else if o = 0x90 then some 0x1C4
  else if o = 0x94 then some 0x54
  else if o < 0xB8 then some (GLB.trnStat ((o - 0x98) / 8) ((o - 0x98) / 4 % 2) 0)
  else none

/-- The register that an offset of a bank holds; none for the header and for reserved offsets (R343). -/
def bankReg (o : Nat) : Option Nat :=
  if o < 0x100 then none
  else if o < 0x500 then glbSection (o - 0x100)
  else if o < 0x2F80 then rxRecord ((o - 0x500) / 0xA0) ((o - 0x500) % 0xA0)
  else if o < 0x3800 then txRecord ((o - 0x2F80) / 0x20) ((o - 0x2F80) % 0x20)
  else if o < 0x4800 then engSection ((o - 0x3800) / 0x800) ((o - 0x3800) % 0x800)
  else if o < 0xD000 then some (LRX.base ((o - 0x4800) / 0x200) + 0xC00 + (o - 0x4800) % 0x200)
  else if o < 0x13600 then some (LRX.base ((o - 0xD000) / 0x180) + 0xE80 + (o - 0xD000) % 0x180)
  else if o < 0x13A00 then some (0x61000 + (o - 0x13600))
  else none

/-- Bank b of the unit. -/
def State.bank (s : State) (b : Nat) : Bank := Sparse.get Bank.empty s.banks b

/-- A word of a bank (R342): zero unless the bank is READY. -/
def State.bankWord (s : State) (b o : Nat) : Word :=
  if s.get (ECL.bank b) ≠ 2 then 0
  else if o < 0x100 then (s.bank b).head.getD (o / 4) 0
  else match bankReg o with
    | some a => Sparse.get (regReset a) (s.bank b).regs a
    | none => 0

end Sys2Proof.Machine
end

