-- ==== Sys2Proof/Machine/Eclipse.lean ====
section
/-! DEFINITION. Eclipse captures and telemetry streams (14_eclipse_and_telemetry.md). -/

namespace Sys2Proof.Machine

/-- The bank that a capture takes (R341): neither pinned nor FILLING; an EMPTY one first, else the READY one with
the older capture. -/
def State.chooseBank (s : State) : Option Nat :=
  let free := [0, 1].filter (fun b => !s.on (ECL.pin b) && decide (s.get (ECL.bank b) ≠ 1))
  match free.find? (fun b => decide (s.get (ECL.bank b) = 0)) with
  | some b => some b
  | none =>
    match free with
    | [0, 1] => some (1 - s.get ECL.newest)
    | l => l.head?

/-- A capture is refused (R339). -/
def State.captureRefused (s : State) : State := (s.count ECL.refused).raise ECL.event 1

/-- From the lead to the capture, in 0.05 ns (R323): ECL_T after it leaves the manager, and at a worker less the delay of the
path by which it came. -/
def State.shotWait (s : State) (p : OrbPort) : Nat :=
  if s.manager then s.get ORB.eclT else s.get ORB.eclT - s.get (if p = .U then ORB.delayFwd else ORB.delayRev)

/-- An ECLIPSE reaches the unit (R335, R339): scheduled for its instant, held already, or refused with a status. A
capture still to be taken counts as one in progress (DEDUCED, log entry 25). -/
def State.eclipseAccept (s : State) (epoch : Word) (untimed : Bool) (hops : Nat) (p : OrbPort) : State × Nat :=
  if epoch = s.reg ECL.epoch ∨ s.shot.any (fun x => decide (x.epoch = epoch)) = true then (s, stOk)
  else if !s.fileUp then (s.captureRefused, stIslandDown)
  else if s.on ECL.copyBusy || s.shot.isSome || s.chooseBank.isNone then (s.captureRefused, stPrecondition)
  else 
    let x : Shot := { epoch := epoch, untimed := untimed, hops := hops, port := p, wait := s.shotWait p }
    ({ s with shot := some x }, stOk)

/-- An ECLIPSE sequence at a worker (R317, R323): it acts on the outbound path alone (R320). A relay without REFCLK timing sets UNTIMED. -/
def State.eclipseSeq (s : State) (p : OrbPort) (q : PriSeq) : State :=
  if s.workerHears p then
    let s := s.notePri q
    let untimed := bitOf q.flags.toNat 0
    let q' := if s.on ORB.trimmed then q else { q with flags := q.flags ||| 1 }
    if priGood 1 q && decide (p = s.outboundIn) then
      let r := s.eclipseAccept (BitVec.ofNat 32 (ofBytes q.data)) untimed
        (s.get (if p = .U then ORB.hopsFwd else ORB.hopsRev)) p
      r.1.passPri p 1 q' (some r.2)
    else s.passPri p 1 q' none
  else s

/-- Header words of a bank (R343). -/
def State.bankHead (s : State) (x : Shot) : List Word :=
  [x.epoch, BitVec.ofNat 32 (boolNat (x.untimed || !s.on GLB.refclkOk)), s.reg ECL.time, s.reg (ECL.time + 4),
   s.reg GLB.serialLo, s.reg GLB.serialHi,
   BitVec.ofNat 32 (s.get ORB.addr + 2 ^ 8 * (x.hops % 256) + 2 ^ 16 * s.get ORB.arm
     + 2 ^ 18 * portIdx x.port), s.reg ECL.captures, 1]

/-- The errors-per-codeword histograms are cleared (R334). -/
def State.clearErrHists (s : State) : State :=
  s.mapRegs (fun a w => match lrxOf a with
    | some (_, o) => if 0xE00 ≤ o ∧ o < 0xE44 then 0 else w
    | none => w)

/-- CAPTURE's effect at t_c (R334, R337, R340). -/
def State.capture (s : State) : State :=
  match s.shot with
  | none => s
  | some x =>
    let s := { s with shot := none }
    if !s.fileUp then s.captureRefused
    else match s.chooseBank with
      | none => s.captureRefused
      | some b =>
        let s := ((s.count ECL.captures).setReg ECL.epoch x.epoch).setReg (ECL.bepoch b) x.epoch
        let bank : Bank := { head := s.bankHead x, regs := s.image }
        let s := { s with banks := Sparse.set Bank.empty s.banks b bank }
        let s := ((s.put (ECL.bank b) 1).put ECL.newest b).put ECL.copyBusy 1
        if s.on ECL.hclr then s.clearErrHists else s

/-- The copy is complete (R340). -/
def State.bankReady (s : State) : State :=
  match [0, 1].find? (fun b => decide (s.get (ECL.bank b) = 1)) with
  | some b => ((s.put (ECL.bank b) 2).put ECL.copyBusy 0).raise ECL.event 0
  | none => s

/-- The ECLIPSE completion after the return and the manager's own copy (R285, R340). -/
def State.eclipseDone (s : State) : State :=
  if s.shot.isSome || s.on ECL.copyBusy then s else
  match s.ecliDone with
  | (q, idx, st, res) :: rest => ({ s with ecliDone := rest }).answerFlight q idx st res 0
  | [] => s

/-- A stream's state beside its registers. -/
def State.strm (s : State) (n : Nat) : Stream := Sparse.get Stream.idle s.streams n

def State.updStrm (s : State) (n : Nat) (f : Stream → Stream) : State :=
  { s with streams := Sparse.set Stream.idle s.streams n (f (s.strm n)) }

/-- Bank offset of a section. -/
def sectionBase (cls index : Nat) : Nat :=
  match cls with
  | 0 => 0x500 + index * 0xA0
  | 1 => 0x2F80 + index * 0x20
  | 2 => 0x3800 + index * 0x800
  | _ => 0x100

/-- The 32-bit value at an offset of the snapshot layout, as it stands now. -/
def State.liveWord (s : State) (o : Nat) : Word :=
  match bankReg o with
  | some a => s.view a
  | none => 0

/-- The value of one selected word (R345, R347); zero where it is unused. -/
def State.selected (s : State) (sel k : Nat) : Nat :=
  let w := bitsOf sel (16 + 8 * k) 8
  if w = 0xFF then 0
  else
    let o := sectionBase (bitsOf sel 0 8) (bitsOf sel 8 8) + 8 * w
    (s.liveWord o).toNat + 2 ^ 32 * (s.liveWord (o + 4)).toNat

/-- TSTREAM_START at its unit (R345, R346). -/
def State.streamStart (s : State) (n cq interval sel : Nat) : State × Nat :=
  if selectOk sel then
    let s := (((s.put (ECL.sCq n) cq).put (ECL.sActive n) 1).put (ECL.sInt n) interval).setReg (ECL.rseq n) 0
    let s := (s.setReg (ECL.sSel n 0) (BitVec.ofNat 32 sel)).setReg (ECL.sSel n 1) (BitVec.ofNat 32 (sel / 2 ^ 32))
    (s.updStrm n (fun x => { x with t0 := s.counter ECL.time, missed := false }), stOk)
  else (s, stBadDesc)

/-- TSTREAM_STOP at its unit (R345). -/
def State.streamStop (s : State) (n : Nat) : State × Nat := (s.put (ECL.sActive n) 0, stOk)

/-- A telemetry record goes into the manager's completion ring (R274, R348). -/
def State.telemEntry (s : State) (cq : Nat) (head tail : List Byte) : State :=
  if s.get (RNG.state cq) = 1 then s.cqUnreserved cq [(ofBytes head, 3), (ofBytes tail, 4)] else s.count ECL.tdrop

/-- The two bodies of a record (R347). -/
def State.telemHead (s : State) (n : Nat) : List Byte :=
  let sel := (s.reg (ECL.sSel n 0)).toNat + 2 ^ 32 * (s.reg (ECL.sSel n 1)).toNat
  bytesOf 1 n ++ bytesOf 1 (s.get ORB.addr) ++ bytesOf 2 (bitsOf sel 0 16) ++ bytesOf 4 (s.reg (ECL.rseq n)).toNat
    ++ bytesOf 8 (s.counter ECL.time) ++ bytesOf 4 (s.reg ECL.epoch).toNat ++ bytesOf 3 (bitsOf sel 16 24)
    ++ bytesOf 1 (boolNat (!s.on GLB.refclkOk) + 2 * boolNat (s.strm n).missed)

def State.telemTail (s : State) (n : Nat) : List Byte :=
  let sel := (s.reg (ECL.sSel n 0)).toNat + 2 ^ 32 * (s.reg (ECL.sSel n 1)).toNat
  ([0, 1, 2].map (fun k => bytesOf 8 (s.selected sel k))).flatten

/-- Stream sampling is stopped (R411): from the first step of an entry until it is done or abandoned. -/
def State.sampling (s : State) : Bool :=
  match s.pwr.phase with
  | .entry _ => false
  | _ => true

/-- A sample falls due (R346, R349): a record, or a miss while the last one waits or in DEEP. While an entry has stopped sampling
none is taken and none counts as missed (R411; DESIGN CHOICE, log entry 44). -/
def State.telemSample (s : State) (n : Nat) : State :=
  if !s.on (ECL.sActive n) then s
  else
    let next (t : State) : State := t.setReg (ECL.rseq n) (t.reg (ECL.rseq n) + 1)
    if !s.sampling then next s
    else if !s.fileUp || (s.strm n).wait.isSome then
      next (((s.satCount (ECL.miss n)).raise ECL.event 2).updStrm n (fun x => { x with missed := true }))
    else
      let h := s.telemHead n
      let t := s.telemTail n
      let s := s.updStrm n (fun x => { x with missed := false })
      if s.manager then next (s.telemEntry (s.get (ECL.sCq n)) h t)
      else next ((s.updStrm n (fun x => { x with wait := some (h, t) })).put (ECL.sPending n) 1)

/-- A worker's telemetry frame (R348). -/
def State.telemFrame (s : State) (n half rseq : Nat) (body : List Byte) : Frame :=
  { dest := 0, src := BitVec.ofNat 8 (s.get ORB.addr), ftype := 0x08, tag := 0, hops := 0, len := 28,
    payload := bytesOf 1 n ++ bytesOf 1 half ++ bytesOf 2 rseq ++ body, crc := 0, ctl := [] }

/-- A worker's EVENT frame (R312, R444). -/
def State.eventFrame (s : State) (a : Nat) (x : EvFrame) : Frame :=
  { dest := 0, src := BitVec.ofNat 8 (s.get ORB.addr), ftype := 0x07, tag := 0, hops := 0, len := 11,
    payload := bytesOf 4 x.bits.toNat ++ bytesOf 3 a ++ bytesOf 4 x.epoch.toNat, crc := 0, ctl := [] }

/-- A frame of the worker's own goes out. -/
def State.ownOut (s : State) (f : Frame) : State := s.sendFrame (s.outPort s.outboundIn) (sealFrame f)

/-- The streams whose record waits, one half-sent first: its tail takes the next free slot (R348). -/
def State.telemWaiting (s : State) (sent : Bool) : Option Nat :=
  (List.range 16).find? (fun n => match (s.strm n).wait with
    | some (h, _) => h.isEmpty == sent
    | none => false)

/-- The tail of a record whose head has gone (R348). -/
def State.sendTail (s : State) (n : Nat) : State :=
  let t := ((s.strm n).wait.map Prod.snd).getD []
  ((s.updStrm n (fun x => { x with wait := none })).put (ECL.sPending n) 0).ownOut
    (s.telemFrame n 1 (ofBytes (t.drop 24)) (t.take 24))

/-- The head of a record; its tail keeps the RSEQ (R348). -/
def State.sendHead (s : State) (n : Nat) : State :=
  let h := ((s.strm n).wait.map Prod.fst).getD []
  let t := ((s.strm n).wait.map Prod.snd).getD []
  let rseq := ofBytes ((h.drop 4).take 2)
  (s.updStrm n (fun x => { x with wait := some ([], t ++ bytesOf 2 rseq) })).ownOut (s.telemFrame n 0 rseq h)

/-- The worker's own frames, into a slot left EMPTY: a tail that follows its head, then answers, events and telemetry
records (R313, R348, R444). -/
def State.workerFrames (s : State) : State :=
  let live := s.orbUp && !s.manager && s.on ORB.addrValid
  match (s.telemWaiting true).filter (fun _ => live) with
  | some n => s.sendTail n
  | none => match s.waitq with
    | _ :: _ => s.workerSend
    | [] =>
      if !live then s
      else match s.evFrames with
        | (a, x) :: rest => ({ s with evFrames := rest }).ownOut (s.eventFrame a x)
        | [] => match s.telemWaiting false with
          | some n => s.sendHead n
          | none => s

/-- A telemetry half at the manager (R348). -/
def State.telemHalf (s : State) (f : Frame) : State :=
  let src := f.src.toNat
  let n := payByte f 0 % 16
  let rseq := payNat f 2 2
  let body := f.payload.drop 4
  let mine (h : Half) : Bool := decide (h.src = src ∧ h.stream = n)
  if payByte f 1 = 0 then
    let s := if s.halves.any mine then s.count ECL.tdrop else s
    { s with halves := s.halves.filter (fun h => !mine h) ++ [{ src := src, stream := n, rseq := rseq, body := body }] }
  else match s.halves.find? mine with
    | some h =>
      if h.rseq = rseq then
        ({ s with halves := s.halves.filter (fun x => !mine x) }).telemEntry (Sparse.get 0 s.teleCq (16 * src + n)) h.body body
      else s.count ECL.tdrop
    | none => s.count ECL.tdrop

/-- A head has waited 1 ms for its tail (R348). -/
def State.halfTimeout (s : State) (src n : Nat) : State :=
  let mine (h : Half) : Bool := decide (h.src = src ∧ h.stream = n)
  if s.halves.any mine then ({ s with halves := s.halves.filter (fun h => !mine h) }).count ECL.tdrop else s

/-- ECLIPSE_SEQ_RECEIVED (R323). -/
def execEclipseSeqReceived (p : OrbPort) (sq : PriSeq) (s : State) : Host.Outcome State Fault Refusal :=
  .next (s.eclipseSeq p sq)

/-- CAPTURE (R337). -/
def execCapture (s : State) : Host.Outcome State Fault Refusal := .next s.capture

/-- BANK_READY (R340). -/
def execBankReady (s : State) : Host.Outcome State Fault Refusal := .next s.bankReady

/-- ECLIPSE_COMPLETION (R340). -/
def execEclipseCompletion (s : State) : Host.Outcome State Fault Refusal := .next s.eclipseDone

/-- TELEM_SAMPLE (R346). -/
def execTelemSample (n : Fin 16) (s : State) : Host.Outcome State Fault Refusal := .next (s.telemSample n)

/-- TELEM_FRAME (R348); a worker relays it. -/
def execTelemFrame (p : OrbPort) (f : Frame) (s : State) : Host.Outcome State Fault Refusal :=
  .next (if s.manager then s.atManager f (fun t => t.telemHalf f) else s.atWorker p f id)

/-- TELEM_HALF_TIMEOUT (R348). -/
def execTelemHalfTimeout (src : Byte) (stream : Fin 16) (s : State) : Host.Outcome State Fault Refusal :=
  .next (s.halfTimeout src.toNat stream)

/-- WORKER_FRAME_SEND (R313, R444, R348). -/
def execWorkerFrameSend (s : State) : Host.Outcome State Fault Refusal := .next s.workerFrames

end Sys2Proof.Machine
end

