-- ==== Sys2Proof/Machine/Rings.lean ====
section
/-! DEFINITION. The ring engine and the PCIe function (10_host_interface.md, 11_descriptor_rings.md): enables and
disables, fetches, completions and messages, resets of the engine, and configuration requests. -/

namespace Sys2Proof.Machine

/-- A 4 KB page overlaps a ring of `size` bytes at `base`. -/
def overlaps (page base size : Nat) : Bool := decide (page < base + size ∧ base < page + 4096)

/-- A page overlaps the submission or completion ring of pair q (R252). -/
def State.onRing (s : State) (page q : Nat) : Bool :=
  overlaps page (s.addr64 (RNG.sqBase q 0) (RNG.sqBase q 1)) (64 * 2 ^ s.get (RNG.sqLog2 q))
    || overlaps page (s.addr64 (RNG.cqBase q 0) (RNG.cqBase q 1)) (32 * 2 ^ s.get (RNG.cqLog2 q))

/-- The page addresses are accepted for an enable of pair q (R298): they differ, and neither overlaps a ring of
an enabled pair, that of q included. -/
def State.pagesOk (s : State) (q : Nat) : Bool :=
  let idx := s.addr64 (RNG.idxPage 0) (RNG.idxPage 1)
  let shd := s.addr64 (RNG.shdPage 0) (RNG.shdPage 1)
  decide (idx ≠ shd) && (List.range 64).all (fun r =>
    (decide (r ≠ q) && decide (s.get (RNG.state r) = 0)) || (!s.onRing idx r && !s.onRing shd r))

/-- The enable of pair q succeeds (R277). -/
def State.enableRingOk (s : State) (q : Nat) : Bool :=
  decide (4 ≤ s.get (RNG.sqLog2 q) ∧ 4 ≤ s.get (RNG.cqLog2 q)) && decide (s.pages = 3) && s.pagesOk q

/-- RNG_CTRLq.EN := 1 (R277): it acts in DISABLED; in every other state the bit only reads back (R5). What its CQ owes from
before stays: OVF of the next entry (R274) and the message at the end of a coalescing interval (R276). -/
def State.ringEnable (s : State) (q : Nat) : State :=
  if s.get (RNG.state q) ≠ 0 then s.put (RNG.en q) 1
  else if s.enableRingOk q then
    let s := ((((s.put (RNG.en q) 1).put (RNG.state q) 1).put (RNG.cfgErr q) 0).put (RNG.haltCause q) 0).put
      (RNG.cons q) (s.get (RNG.sqStart q))
    let s := (((s.put (RNG.cqTail q) (s.get (RNG.cqStart q))).put (RNG.cdone q) (s.get (RNG.sqStart q))).setReg
      (RNG.donemap q) 0).setReg (RNG.cqdrop q) 0
    (s.updRing q (fun r => { Ring.idle with
      cqHead := s.get (RNG.cqStart q), ovf := r.ovf, msgRecent := r.msgRecent, msgPend := r.msgPend })).writeShadow q
  else (s.put (RNG.en q) 0).put (RNG.cfgErr q) 1

/-- RNG_CTRLq.EN := 0 (R277): it drains a RUNNING ring and disables a HALTED one. -/
def State.ringDisable (s : State) (q : Nat) : State :=
  let t := s.put (RNG.en q) 0
  match s.get (RNG.state q) with
  | 1 => t.ringDrain q
  | 4 => t.put (RNG.state q) 0
  | _ => t

/-- A write to RNG_CTRLq. -/
def State.ringCtrl (s : State) (q v : Nat) : State := if bitOf v 0 then s.ringEnable q else s.ringDisable q

/-- Event groups with a forwarded event bit still set raise their summary after a reset, and a message follows where EN is
set (R244, R247). -/
def State.pendingSummaries (s : State) : State :=
  s.each eventRegs (fun a t =>
    match evGroup a with
    | some n => if (t.reg a) &&& (t.reg (a + 4)) = 0 then t else t.evSummary n
    | none => t)

/-- The end of a reset of the ring engine (R278, R283): with no descriptor in flight every ring is DISABLED and the
host pages are no longer set. -/
def State.resetSettle (s : State) : State :=
  if s.ringReset && s.rings.all (fun r => r.2.flights.isEmpty) then
    let s := s.each (List.range 64) (fun q t => (t.put (RNG.state q) 0).put (RNG.en q) 0)
    let s := s.each [RNG.idxPage 0, RNG.idxPage 1, RNG.shdPage 0, RNG.shdPage 1] (fun a t => t.setReg a 0)
    { s with ringReset := false, pages := 0 }.pendingSummaries
  else s

/-- A reset of the ring engine begins (R278): nothing is dispatched from now on. -/
def State.engineReset (s : State) : State :=
  let quiet (x : Ring) : Ring :=
    { x with copies := [], stalled := false, shdDue := false, msgRecent := false, msgPend := false }
  let rings : Sparse Ring := s.rings.filterMap (fun r =>
    if quiet r.2 = Ring.idle then none else some (r.1, quiet r.2))
  { s with ringReset := true, rings := rings }.resetSettle

/-- The function's own state after an FLR or a management reset (R246): configuration, MSI-X table, PBA, event
groups and summaries. AER status, masks and severities are sticky (PRESUMED, log entry 41). -/
def State.functionReset (s : State) : State :=
  let s := { s with pcie := { Pcie.reset with
    crs := s.pcie.crs, crsEnd := s.pcie.crsEnd, aerUncorr := s.pcie.aerUncorr, aerCorr := s.pcie.aerCorr,
    aerMask := s.pcie.aerMask, aerSev := s.pcie.aerSev, aerCorrMask := s.pcie.aerCorrMask } }
  let s := s.each (List.range 64) (fun v t => ((t.put (RNG.pba v) 0).setReg (RNG.msix v 3) 1).each [0, 1, 2]
    (fun k u => u.setReg (RNG.msix v k) 0))
  ((s.each (List.range 13) (fun n t => t.setReg (RNG.evgrp n) 0)).setReg RNG.evsum 0).put RNG.d3hot 0

/-- FLR (R246): on the manager, while the block is powered. -/
def State.flr (s : State) : State :=
  if s.manager && s.fileUp then s.functionReset.engineReset else s

/-- A job's end is nobody's. -/
def disown (o : Owner) (j : Job) : Job := if j.owner = o then { j with owner := .nobody } else j

/-- The operation of a local descriptor that a reset of the ring engine ends (R278), as for PREEMPTED: maintenance
gives its lane back, a self-test list ends, calibration requests and a WRITE are dropped, and a map change under
way completes for nobody. -/
def State.endOperation (s : State) (o : Owner) : State :=
  let s := s.each [0, 1, 2, 3] (fun g t =>
    let t := match t.maintJob g with
      | some j => if j.owner = o then t.yieldWith g stMreset else t
      | none => t
    t.updPort g (fun r => { r with
      jobs := (r.jobs.filter (fun j => !(decide (j.owner = o) && decide (j.step = 0)))).map (disown o),
      retry := r.retry.map (disown o) }))
  let s := match s.bistHead with
    | some r => if r.owner = o then
        (match s.loopJob with
        | some (g, _) => s.yieldWith g stMreset
        | none => (s.each [0, 1, 2, 3] (fun g t => t.updPort g (fun r => { r with
            jobs := r.jobs.filter (fun j => decide (j.task ≠ Task.loopback)) }))).scanAbort.bistAbort stMreset)
        else s
    | none => s
  let s := { s with
    bist := s.bist.filter (fun r => decide (r.owner ≠ o)), calReqs := s.calReqs.filter (fun c => decide (c.owner ≠ o)) }
  let begun := (s.core.loads.take 1).all (fun l => l.activate || decide (l.owner ≠ o))
  let s := s.updCore (fun c => { c with
    loads := (((c.loads.take 1).filter (fun _ => begun)).map (fun l => if l.owner = o then { l with owner := .nobody } else l))
      ++ (c.loads.drop 1).filter (fun l => decide (l.owner ≠ o)) })
  if begun then s else State.loadRun (s.core.loads.length + 1) s

/-- A QUENCH whose sequence has left the manager is not ended (R278). -/
def State.quenchOut (s : State) (q idx : Nat) : Bool :=
  s.orbit.pris.any (fun p => decide (p.lead = 0 ∧ p.owner = .ring q idx))

/-- The manager no longer waits for anything of a descriptor over Orbit. -/
def State.forgetOut (s : State) (q idx : Nat) : State :=
  { s with
    ecliDone := s.ecliDone.filter (fun e => !decide (e.1 = q ∧ e.2.1 = idx)),
    orbit := { s.orbit with
      reqs := s.orbit.reqs.filter (fun r => !decide (r.q = q ∧ r.idx = idx)),
      pris := s.orbit.pris.map (fun p => if p.owner = .ring q idx then { p with owner := .nobody } else p) } }

/-- A descriptor still in flight 1 ms after the reset began completes with MRESET (R278, R301), whether it was answered
and waits for its marks or was not; RESULT counts the registers that a worker has answered for (R270). -/
def State.resetFlight (s : State) (q : Nat) (f : Flight) : State :=
  if s.quenchOut q f.idx then s
  else if f.stage = Stage.answered then s.updFlight q f.idx (fun x => { x with status := stMreset, result := 0 })
  else
    let got := ((s.orbit.reqs.find? (fun r => decide (r.q = q ∧ r.idx = f.idx))).map (fun r => r.got)).getD 0
    ((s.endOperation (.ring q f.idx)).forgetOut q f.idx).answerFlight q f.idx stMreset got (dTarget f.desc)

/-- 1 ms after a reset of the ring engine began (R278). -/
def State.resetTimeout (s : State) : State :=
  if s.ringReset then
    let s := s.each s.rings (fun r t => t.each r.2.flights (fun f u => u.resetFlight r.1 f))
    let s := s.each s.rings (fun r t => t.each r.2.flights (fun f u =>
      if f.stage = Stage.answered then u.finishFlight r.1 f else u))
    (s.jobsRun).settlePower.resetSettle
  else s

/-- How a failed read shows in the function's error registers (R248): a completion timeout, or a poisoned completion, in the
AER status; a completion with UR or CA, which acts as a timeout, in the Status register and as no more than PCIE_ERR
(PRESUMED, log entry 41). -/
def State.readFailed (s : State) (why : ReadFail) : State :=
  let status (b : BitVec 16) (t : State) : State := { t with pcie := { t.pcie with status := t.pcie.status ||| b } }
  match why with
  | .timeout => s.pcieError 14
  | .unsupported => (status 0x2000 s).report 165
  | .aborted => (status 0x1000 s).report 165
  | .poisoned => (status 0x8000 s).pcieError 12

/-- A read of host memory fails (R248): the ring halts, PCIE_ERR reports, and an FW_LOAD whose image it was completes with
HOST_ERR. -/
def State.hostReadError (s : State) (q : Nat) (why : ReadFail) (idx : Option Nat) : State :=
  if s.manager && s.fileUp then
    let s := s.readFailed why
    let s := match idx with
      | some i => (match s.flight q i with
        | some f =>
          if dType f.desc = 0x0F ∧ f.stage = Stage.started then
            ((s.endOperation (.ring q i)).forgetOut q i).answerFlight q i stHostErr 0 (dTarget f.desc)
          else s
        | none => s)
      | none => s
    s.ringHalt q 2
  else s

/-- A recheck (R260): a fetch that a limit stopped goes on once the limit has cleared. -/
def State.recheck (s : State) (q : Nat) (img : HostImg) : State :=
  if (s.ring q).stalled && !s.fetchLimited q then s.fetch q img else s

/-- The coalescing interval of CQq ends (R276). -/
def State.coalesceEnd (s : State) (q : Nat) : State :=
  if (s.ring q).msgPend then
    (s.msix (s.get (RNG.vector q))).updRing q (fun r => { r with msgPend := false })
  else s.updRing q (fun r => { r with msgRecent := false })

/-- A write to RNG_EVGRPn (R244): EN from 0 to 1 with the summary set sends a message at once. -/
def State.evgrpWrite (s : State) (n : Nat) (v : Word) : State :=
  let was := s.on (RNG.grpEn n)
  let s := s.setReg (RNG.evgrp n) (v &&& 0x13F#32)
  s.when (!was && s.on (RNG.grpEn n) && s.on (RNG.sum n)) (fun t => t.msix (t.get (RNG.grpVector n)))

/-- The link is up once a request arrives (R468: it trains again from the end of a reset), unless a JTAG instruction drives its
pins (R458); its speed and width are the
link partner's choice among those of R235: free values (DESIGN CHOICE, log entry 22). -/
def State.linkTrained (s : State) : State :=
  if s.on RNG.dlUp || s.jtagPins then s
  else
    let s := (s.put RNG.speed (1 + s.free.toNat % 5)).useFree
    ((s.put RNG.pcieWidth (2 ^ (s.free.toNat % 3))).useFree).put RNG.dlUp 1

/-- A TLP or PERST_N wakes the unit (R402). -/
def State.pcieWakes (s : State) : State := s.when s.manager (fun t => t.wakeDev (5, 0, 0))

/-- A request arrives on the link, which is then in L0 (R249), after the correctable errors that the link has had
(R248). It wakes the unit (R402). -/
def State.tlpArrives (s : State) (corr : List (Fin 16)) : State :=
  let t := (s.linkTrained.put RNG.linkPm 0).pcieWakes
  if corr.isEmpty then t
  else
    let bits := corr.foldl (fun (w : Word) (b : Fin 16) => w ||| BitVec.ofNat 32 (2 ^ b.val)) 0
    (({ t with pcie := { t.pcie with
        devStatus := t.pcie.devStatus ||| 1, aerCorr := t.pcie.aerCorr ||| bits } }).countBy RNG.pcieCorr corr.length).when
      (t.pcie.devCtl.getLsbD 0 && decide (bits &&& ~~~t.pcie.aerCorrMask ≠ 0)) (fun u => u.emit (.errMsg 0))

/-- A memory request that the function does not take (R238, R468): one that reads completes as Unsupported Request, a write
is discarded, and either is an error of the function (R248). -/
def State.unsupportedReq (s : State) (write : Bool) : State :=
  s.requestError.when (!write) (fun t => t.emit .unsupported)

/-- The ring named by a doorbell slot (R240): slot k of BAR4 is SQk, of BAR2 is SQ(k + 4). -/
def doorbellRing (bar4 : Bool) (slot : Nat) : Option Nat :=
  if bar4 then (if slot < 4 then some slot else none) else (if slot < 60 then some (slot + 4) else none)

/-- A doorbell is rung (R240, R247): those of BAR2 are ignored in the safe state. -/
def State.ringBell (s : State) (bar4 : Bool) (slot : Nat) (img : HostImg) : State :=
  match doorbellRing bar4 slot with
  | some q => if s.safe && !bar4 then s else s.fetch q img
  | none => s

/-- A request to BAR2 or BAR4 (R240, R247, R468): while the function decodes no memory request a read is unsupported and a
write discarded. In DEEP the link wakes the unit before the request itself can come (R402). A poisoned write rings nothing and is an uncorrectable error (R248). -/
def State.doorbell (s : State) (r : DoorReq) : State :=
  if !(s.manager && s.fileUp) then s.pcieWakes
  else
    let t := s.tlpArrives []
    if !t.pcie.memEnable || t.on RNG.d3hot then t.unsupportedReq r.write
    else if !r.write then t.emit (.readData (List.replicate r.dws 0))
    else if r.poisoned then t.pcieError 12
    else t.each r.slots (fun x u => u.ringBell r.bar4 x.1 x.2)

/-- The slots of a request are named in address order (R240). -/
def doorSlotsOk (r : DoorReq) : Bool := decide (r.slots.Pairwise (fun x y => x.1 < y.1))

/-- Address bits that a BAR register holds: BAR0 is 16 MB, BAR2 and BAR4 are 4 KB (R237). -/
def barMask (n : Nat) : Word := if n = 0 then 0xFF000000#32 else if n % 2 = 0 then 0xFFFFF000#32 else 0xFFFFFFFF#32

/-- A BAR register as it reads (R237): the low ones name 64-bit, non-prefetchable memory. -/
def State.barReg (s : State) (n : Nat) : Word := (s.pcie.bars.getD n 0) ||| (if n % 2 = 0 then 4 else 0)

/-- Identifiers of the capability structures that the function has, in the order of their list: power management, MSI-X,
PCI Express; and of the extended ones: AER, serial number, LTR, L1 PM Substates, Secondary PCI Express, data link feature,
16.0 GT/s, 32.0 GT/s and lane margining (R235; numbers as in the PCIe Base specification, PRESUMED, log entry 41). -/
def capIds (ext : Bool) : List Nat :=
  if ext then [0x0001, 0x0003, 0x0018, 0x001E, 0x0019, 0x0025, 0x0026, 0x002A, 0x0027] else [0x01, 0x11, 0x10]

/-- The header of the k-th structure of a capability list: its identifier, and the place of the next, zero at the end of
the list. No structure that R235 does not list appears in either. -/
def capHeader (ext : Bool) (k : Nat) : Word :=
  match (capIds ext)[k]? with
  | none => 0
  | some n =>
    let next := if k + 1 < (capIds ext).length then (Config.capAddr ext (k + 1)).toNat else 0
    if ext then BitVec.ofNat 32 (n + 2 ^ 16 * bitsOf (Config.capBits ext k).toNat 0 4 + 2 ^ 20 * next)
    else BitVec.ofNat 32 (n + 2 ^ 8 * (next % 256) + 2 ^ 16 * bitsOf (Config.capBits ext k).toNat 0 16)

/-- What a configuration read returns (R235, R237, R248, R250). The manual gives what each structure says; the places of
its fields, and every other word, are those of the PCIe Base specification (PRESUMED, log entry 41). -/
def State.configWord (s : State) : CfgReg → Word
  | .id => 0x64341E7B#32
  | .command => BitVec.ofNat 32 (2 * boolNat s.pcie.memEnable + 4 * boolNat s.pcie.busMaster + 2 ^ 20
      + 2 ^ 16 * s.pcie.status.toNat)
  | .classRev => BitVec.ofNat 32 (2 ^ 8 * 0x088000 + bitsOf (s.reg GLB.id).toNat 4 4)
  | .header => 0
  | .bar n => s.barReg n
  | .msixControl => BitVec.ofNat 32 (63 + 2 ^ 14 * boolNat s.pcie.msixMask + 2 ^ 15 * boolNat s.pcie.msixEnable)
  | .msixTable => 0x38000#32
  | .msixPba => 0x39000#32
  | .pmCap => 3
  | .pmControl => BitVec.ofNat 32 (3 * boolNat (s.on RNG.d3hot) + 8)
  | .devCap => 0x10008021#32
  | .devStatus => s.pcie.devStatus.zeroExtend 32
  | .linkCap => 0x38845#32
  | .linkStatus => BitVec.ofNat 32 (s.get RNG.speed + 16 * s.get RNG.pcieWidth)
  | .aerUncorr => s.pcie.aerUncorr
  | .aerCorr => s.pcie.aerCorr
  | .aerMask => s.pcie.aerMask
  | .aerSev => s.pcie.aerSev
  | .aerCorrMask => s.pcie.aerCorrMask
  | .devControl => BitVec.ofNat 32 (s.pcie.devCtl.toNat + 32 + 2 ^ 12 * s.pcie.mrrs)
  | .capHeader ext k => capHeader ext k.val
  | .serial hi => s.reg (if hi then GLB.serialHi else GLB.serialLo)
  | .ltr => s.pcie.ltr
  | .l1Cap => 0x1A#32
  | .romBar => 0
  | .interrupt => 0
  | .devCap2 => 0x3081F#32
  | .other dw => Config.configWord dw

/-- A configuration request that completes (R235, R468). -/
def State.configDone (s : State) (r : CfgReq) : State :=
  match r with
  | .read c => s.emit (.readData [s.configWord c])
  | .command m b => { s with pcie := { s.pcie with memEnable := m, busMaster := b } }.hostBack
  | .bar n v => { s with pcie := { s.pcie with bars := setNth s.pcie.bars n (v &&& barMask n) } }
  | .msixControl e m => { s with pcie := { s.pcie with msixEnable := e, msixMask := m } }.msixUnmask
  | .errorClear d u c => { s with pcie := { s.pcie with
      devStatus := s.pcie.devStatus &&& ~~~d, aerUncorr := s.pcie.aerUncorr &&& ~~~u,
      aerCorr := s.pcie.aerCorr &&& ~~~c } }
  | .statusClear v => { s with pcie := { s.pcie with status := s.pcie.status &&& ~~~v } }
  | .aerMask u c => { s with pcie := { s.pcie with aerMask := u, aerCorrMask := c } }
  | .aerSev v => { s with pcie := { s.pcie with aerSev := v } }
  | .devControl d m => { s with pcie := { s.pcie with devCtl := d, mrrs := m.val } }
  | .ltr v => { s with pcie := { s.pcie with ltr := v } }
  | .link _ => s

/-- Configuration requests receive retry status: until firmware is ready after a cold or a management reset, and after a
management reset for 80 ms at most (R246). -/
def State.crsNow (s : State) : Bool := s.pcie.crs && s.pcie.crsEnd.all (fun c => decide (s.clock < c))

/-- The link goes to another power-management state (R249). Its exit from L1 wakes the unit (R402). -/
def State.linkMoves (s : State) (pm : Nat) : State :=
  if s.manager && s.on RNG.dlUp then
    (s.put RNG.linkPm pm).when (decide (s.get RNG.linkPm ≠ 0 ∧ pm = 0)) State.pcieWakes
  else s

/-- A configuration request (R246, R468): until firmware is ready after a cold or management reset it receives
Configuration Request Retry Status. -/
def State.configRequest (s : State) (r : CfgReq) : State :=
  match r with
  | .link pm => s.linkMoves pm.val
  | _ =>
    if s.manager && s.fileUp then
      let t := s.tlpArrives []
      if s.crsNow then t.emit .retryStatus else t.configDone r
    else s.pcieWakes

/-- DOORBELL (R240, R257). -/
def execDoorbell (r : DoorReq) (s : State) : Host.Outcome State Fault Refusal :=
  if doorSlotsOk r then .next (s.doorbell r) else .fault .illFormed

/-- RING_RECHECK (R260). -/
def execRingRecheck (q : RingN) (img : HostImg) (s : State) : Host.Outcome State Fault Refusal := .next (s.recheck q img)

/-- CQ_HEAD_POLL (R260): while the CQ has no room. -/
def execCqHeadPoll (q : RingN) (cqHead : BitVec 16) (s : State) : Host.Outcome State Fault Refusal :=
  .next (s.when (decide (s.cqRoom q = 0)) (fun t => t.headPoll q cqHead))

/-- HOST_READ_ERROR (R248). -/
def execHostReadError (q : RingN) (err : ReadError) (s : State) : Host.Outcome State Fault Refusal :=
  .next (s.hostReadError q err.why (err.idx.map (fun i => i.toNat)))

/-- DESCRIPTOR_COMPLETE (R273, R285). -/
def execDescriptorComplete (q : RingN) (idx : BitVec 16) (s : State) : Host.Outcome State Fault Refusal :=
  .next (s.descriptorComplete q idx.toNat).resetSettle

/-- COALESCE_EXPIRY (R276). -/
def execCoalesceExpiry (q : RingN) (s : State) : Host.Outcome State Fault Refusal := .next (s.coalesceEnd q)

/-- RING_ENABLE (R277). -/
def execRingEnable (q : RingN) (s : State) : Host.Outcome State Fault Refusal :=
  .next (s.soft (RNG.q q + 0x14) (fun t => t.ringEnable q))

/-- RING_DISABLE (R277). -/
def execRingDisable (q : RingN) (s : State) : Host.Outcome State Fault Refusal :=
  .next (s.soft (RNG.q q + 0x14) (fun t => t.ringDisable q))

/-- RING_ENGINE_RESET_TIMEOUT (R278). -/
def execRingEngineResetTimeout (s : State) : Host.Outcome State Fault Refusal := .next s.resetTimeout

/-- EVGRP_ENABLE (R244). -/
def execEvgrpEnable (n : Fin 13) (vector : BitVec 6) (s : State) : Host.Outcome State Fault Refusal :=
  .next (s.soft (RNG.evgrp n) (fun t => t.evgrpWrite n (BitVec.ofNat 32 (vector.toNat + 256))))

/-- EVENT_ONSET (R62, R441): a bit that the register defines. -/
def execEventOnset (r : EvReg) (bit : Fin 24) (s : State) : Host.Outcome State Fault Refusal :=
  .next (s.when (decide (bit < evBits r)) (fun t => t.raise (evRegOf r) bit))

/-- FLR (R246). -/
def execFlr (s : State) : Host.Outcome State Fault Refusal := .next s.flr

/-- D3HOT_ENTRY (R246). -/
def execD3hotEntry (s : State) : Host.Outcome State Fault Refusal := .next (s.when s.manager (fun t => t.put RNG.d3hot 1))

/-- D3HOT_EXIT (R246): every state is as before, and what waited for the link goes out. -/
def execD3hotExit (s : State) : Host.Outcome State Fault Refusal := .next (s.put RNG.d3hot 0).hostBack

/-- CONFIG_REQUEST (R468). -/
def execConfigRequest (r : CfgReq) (s : State) : Host.Outcome State Fault Refusal := .next (s.configRequest r)

end Sys2Proof.Machine
end

