-- ==== Sys2Proof/Machine/Reset.lean ====
section
/-! DEFINITION. Management, engine and lane-end resets, firmware and its loading (18_reset_and_bringup.md). -/

namespace Sys2Proof.Machine

/-- The FW_LOAD in progress ends, and the next one begins. -/
def State.loadDone (s : State) (status result : Nat) : State :=
  let t := s.loadEnds status result
  State.loadRun (t.core.loads.length + 1) t

/-- An FW_LOAD comes to the core; a further one waits (R429). -/
def State.loadAdd (s : State) (l : FwLoad) : State :=
  let t := s.updCore (fun c => { c with loads := c.loads ++ [l] })
  if s.core.loads.isEmpty then State.loadRun 1 t else t

/-- An image is valid (R427): its signature verifies, and its security version is not below the fused minimum. -/
def imageGood (c : ImageCheck) : Bool := c.signature && decide (Config.minSecurity ≤ c.security)

/-- Programming and check of a WRITE whose image is complete have ended (R429): a slot that passes is valid. -/
def State.writeDone (s : State) (check : ImageCheck) : State :=
  match s.core.loads with
  | l :: _ =>
    if l.activate = false ∧ l.image.length = l.length then
      if imageGood check then
        ((({ s with flash := { s.flash with valid := s.flash.valid ||| 2 ^ (1 - s.flash.active) } }).noteFlash)).loadDone
          stOk l.length
      else s.loadDone stFwRejected 0
    else s
  | [] => s

/-- The firmware of the booting image is ready (R428): a trial is confirmed, an ACTIVATE completes, CRS ends, and a
configuration record that is skipped is noted (R430). -/
def State.firmwareReady (s : State) (version : Word) : State :=
  if s.core.st = .booting ∧ s.pwr.phase = .run then
    let s := if s.core.trialRun then ({ s with flash := s.flash.write s.flash.active false }).noteFlash else s
    let s := ((s.updCore (fun c => { c with st := .ready, trialRun := false })).put GLB.fwReady 1).setReg GLB.fwver
      version
    let s := { s with pcie := { s.pcie with crs := false } }
    let s := if s.core.cold && s.on GLB.strapCfgSkip then
        (s.updCore (fun c => { c with cold := false })).put GLB.cfgrec 3
      else s
    match s.core.loads with
    | l :: _ =>
      if l.activate then s.loadDone (if s.get GLB.runSlot = l.target then stOk else stFwRejected) 0
      else s
    | [] => s
  else s

/-- The core that a reset has stopped boots at once: it is clocked, or will be before anything else boots it (R421). In DEEP
and on the way up from there or from a cold start the boot that ends the way follows. -/
def State.bootsNow (s : State) : Bool := s.fileUp && !s.safe

/-- A management reset (R419, R421): the core and its operations, the ring engine and, on the manager, the PCIe
function, whose link trains again. Everything else stays. It acts in every state in which the unit is supplied. -/
def State.mgmtReset (s : State) (cause : Nat) : State :=
  if s.supplied then
    let s := if s.bootsNow then s.coreReset stMreset else s.coreHalt stMreset
    let s := if s.manager then
        let s := ((((s.functionReset).put RNG.dlUp 0).put RNG.speed 0).put RNG.pcieWidth 0).put RNG.linkPm 0
        ({ s with pcie := { s.pcie with crs := true, crsEnd := some (s.clock + 50000000) } }).engineReset
      else s
    s.put GLB.mrstCause cause
  else s

/-- A management reset ends the worker's own frame that is going out (R330): ABORT follows it. -/
def State.cutFrame (s : State) (mid : Bool) : State :=
  let o := s.outPort s.outboundIn
  if mid && s.orbUp && !s.manager && s.drives o then s.emit (.abort o) else s

/-- A segment of an engine that is reset is lost (R424): one in UP as R110 states; any other begins again. -/
def State.resetSegment (s : State) (g sd k : Nat) : State :=
  let st := s.segState g sd k
  if st = stUp then s.segLost g sd k caLost
  else if st ≠ stOff then (((s.put (GLB.tsCause g sd k) caLost).startAttempt g sd k)).segEval g sd k
  else s

/-- A direction engine is held and zero-initialised (R424). -/
def State.holdEngine (s : State) (e : Nat) : State := (s.put (GLB.engBusy e) 1).zeroEngine e

/-- A write of 1 to ENG_AB or ENG_BA (R424): every segment of every enabled group is lost. A bank copy in progress
ends (R389). -/
def State.engReset (s : State) (ab ba : Bool) : State :=
  if ab || ba then
    let s := (s.when ab (fun t => t.put (GLB.engBusy 0) 1)).when ba (fun t => t.put (GLB.engBusy 1) 1)
    let s := s.copyBreaks.each [0, 1, 2, 3] (fun g t =>
      if t.on (GLB.en g) then t.each (t.portKeys g) (fun k u => (u.resetSegment g 0 k).resetSegment g 1 k) else t)
    ((s.when ab (fun t => t.holdEngine 0)).when ba (fun t => t.holdEngine 1)).goOn
  else s

/-- The held engines are released within 1 ms (R424), and the segments go on from WAIT. -/
def State.engRelease (s : State) : State :=
  let s := (s.put (GLB.engBusy 0) 0).put (GLB.engBusy 1) 0
  (s.each [0, 1, 2, 3] (fun g t => if t.on (GLB.en g) then
    t.each (t.portKeys g) (fun k u => (u.segEval g 0 k).segEval g 1 k) else t)).goOn

/-- A write to GLB_RSTCTRL (R432): each bit reads 0. -/
def State.rstctrlWrite (s : State) (v : Nat) : State :=
  (s.engReset (bitOf v 0) (bitOf v 1)).when (bitOf v 2) (fun t => t.mgmtReset 4)

/-- Maintenance holds the position: a lane training, a self-test or a calibration in progress (R423). -/
def State.heldPos (s : State) (i : Nat) : Bool :=
  s.bistHeld.testBit i || (s.lt i).isSome || s.bistHolds i
    || [0, 1, 2, 3].any (fun g => match s.maintJob g with
      | some j => decide (j.side = i / 34 ∧ (j.home = i % 34 ∨ j.spare = i % 34))
      | none => false)

/-- A write to the reset bit of a position is ignored (R423). -/
def State.lerstRefused (s : State) (i : Nat) : Bool :=
  s.isIsolated i || isUpOrTraining (s.posState (i / 34) (i % 34)) || s.heldPos i

/-- Both lane-ends return to reset values at the release (R423): the CDR, FIFOs, marker lock, the histogram run and
every adapted value. -/
def State.laneReset (s : State) (i : Nat) : State :=
  let s := (((s.put (LRX.cdrLock i) 0).put (LRX.markerLock i) 0).put (LRX.run i) 0).put (LRX.done i) 0
  let s := s.each (List.range 32) (fun n t => t.resetReg (LRX.base i + 0x100 + 4 * n))
  let s := ((s.resetReg (LRX.base i + 0x180)).put (LRX.ctlePeak i) 0).put (LRX.vga i) 0
  let s := s.updRx i (fun r => { r with
    freq := 0, residuals := [], atLimit := 0, acquire := false, fifo := 128, mark := .hunt, good := 0, miss := 0,
    sinceBad := false, misnamed := false })
  (s.put (LRX.coefAtLimit i) 0).updTx i (fun t => { t with fifo := 128 })

/-- A write to one bit of GLB_LERST (R423). -/
def State.lerst (s : State) (i : Nat) (hold : Bool) : State :=
  if s.on (GLB.lerst (i / 34) (i % 34)) = hold then s
  else if s.lerstRefused i then s.raise GLB.event 0
  else if hold then ((s.put (GLB.lerst (i / 34) (i % 34)) 1).settlePower).goOn
  else ((s.put (GLB.lerst (i / 34) (i % 34)) 0).laneReset i).goOn

/-- A write to one of the GLB_LERST registers. -/
def State.lerstWrite (s : State) (sd hi v : Nat) : State :=
  s.each (if hi = 0 then List.range 32 else [32, 33]) (fun p t => t.lerst (34 * sd + p) (bitOf v (p % 32)))

/-- FW_TRIAL_TIMEOUT (R428). -/
def execFwTrialTimeout (s : State) : Host.Outcome State Fault Refusal := .next s.trialFailed

/-- FW_WRITE_DONE (R429). -/
def execFwWriteDone (check : ImageCheck) (s : State) : Host.Outcome State Fault Refusal := .next (s.writeDone check)

/-- MRESET_N_ASSERT (R419); `mid` says that a frame of the worker's own is going out. -/
def execMresetNAssert (mid : Bool) (s : State) : Host.Outcome State Fault Refusal :=
  .next ((s.cutFrame mid).mgmtReset 1)

/-- PCIE_HOT_RESET (R246, R248): a hot reset or DL_Down, on the manager; a surprise down is an uncorrectable error
besides. -/
def execPcieHotReset (surprise : Bool) (s : State) : Host.Outcome State Fault Refusal :=
  .next (s.when s.manager (fun t => (t.when (surprise && t.supplied) (fun u => u.pcieError 5)).mgmtReset 2))

/-- PERST_N_ASSERT (R246): ignored on a worker (R250). It wakes the unit (R402). -/
def execPerstNAssert (s : State) : Host.Outcome State Fault Refusal :=
  .next (s.when s.manager (fun t => (t.mgmtReset 2).pcieWakes))

/-- GLB_MRESET (R419). -/
def execGlbMreset (mid : Bool) (s : State) : Host.Outcome State Fault Refusal :=
  .next (s.soft GLB.rstctrl (fun t => (t.cutFrame mid).mgmtReset 4))

/-- CTRL_MRESET (R312, R313, R419): a frame for this worker, or for every one. -/
def execCtrlMreset (p : OrbPort) (f : Frame) (mid : Bool) (s : State) : Host.Outcome State Fault Refusal :=
  .next (s.castFrame p f (fun t => (t.cutFrame mid).mgmtReset 3))

/-- ENG_RESET (R424). -/
def execEngReset (ab ba : Bool) (s : State) : Host.Outcome State Fault Refusal :=
  .next (s.soft GLB.rstctrl (fun t => t.engReset ab ba))

/-- ENGINE_RELEASE (R424). -/
def execEngineRelease (s : State) : Host.Outcome State Fault Refusal := .next s.engRelease

/-- LANE_END_RESET_HOLD (R423). -/
def execLaneEndResetHold (sd : Side) (p : Pos) (s : State) : Host.Outcome State Fault Refusal :=
  .next (s.soft (GLB.lerstReg sd.idx (p / 32)) (fun t => t.lerst (laneIdx sd p) true))

/-- LANE_END_RESET_RELEASE (R423). -/
def execLaneEndResetRelease (sd : Side) (p : Pos) (s : State) : Host.Outcome State Fault Refusal :=
  .next (s.soft (GLB.lerstReg sd.idx (p / 32)) (fun t => t.lerst (laneIdx sd p) false))

end Sys2Proof.Machine
end

