-- ==== Sys2Proof/Machine/Operands.lean ====
section
/-! DEFINITION. Register accesses by software, whatever path they come by (R5, R24, R238, R247, R266, R430, R433 to
R440): which address is answered, what a read returns, and what a write of each register does. -/

namespace Sys2Proof.Machine

/-- The low word of a 48-bit or 64-bit value that is read under R61. -/
def isLowWord (a : Nat) : Bool :=
  match lrxOf a with
  | some (_, o) => decide (0x60 ≤ o ∧ o < 0xA8 ∧ o % 8 = 0)
  | none =>
    match ltxOf a with
    | some (_, o) => decide (0x60 ≤ o ∧ o < 0x78 ∧ o % 8 = 0)
    | none =>
      let o := a % 0x10000
      match a / 0x10000 with
      | 1 => decide (o = 0x28)
      | 2 => decide (0x60 ≤ o ∧ o < 0x78 ∧ o % 8 = 0)
      | 3 => decide (o = 0x850 ∨ o = 0x858)
      | 4 => decide (0x60 ≤ o ∧ o < 0x80 ∧ o % 8 = 0)
      | 5 => decide (o = 0x18 ∨ (0x60 ≤ o ∧ o < 0x78 ∧ o % 8 = 0))
      | 7 => decide (0x60 ≤ o ∧ o < 0x70 ∧ o % 8 = 0)
      | 8 | 9 =>
        decide (0x100 ≤ o ∧ o < 0x500 ∧ 0x40 ≤ o % 0x100 ∧ o % 0x100 < 0xE8 ∧ o % 8 = 0)
          || decide (0x500 ≤ o ∧ o < 0x540 ∧ o % 8 = 0) || decide (0x600 ≤ o ∧ o < 0xA00 ∧ o % 8 = 0)
      | _ => false

/-- The high word of such a value. -/
def isHighWord (a : Nat) : Bool := decide (4 ≤ a) && isLowWord (a - 4)

/-- The status that a register access to address `a` completes with (R266, R281, R433, R436). -/
def State.accessStatus (s : State) (a : Nat) : Nat :=
  if 0x800000 ≤ a then stAddrErr
  else if !s.answered a then stIslandDown
  else if s.safe && decide (a / 0x10000 ≠ 1) then stSafeState
  else stOk

/-- What a read of an answered register returns, and the unit after it (R61, R342, R437). An address that is no multiple of 4
names no register and reads as zero (R433). -/
def State.readWord (s : State) (a : Nat) : State × Word :=
  if a % 4 ≠ 0 then (s, 0)
  else if isLowWord a then ({ s with latch := s.view (a + 4) }, s.view a)
  else if isHighWord a then (s, s.latch)
  else if 0xC0000 ≤ a ∧ a < 0xD8000 then (s, s.bankWord 0 (a - 0xC0000))
  else if 0xE0000 ≤ a ∧ a < 0xF8000 then (s, s.bankWord 1 (a - 0xE0000))
  else (s, s.view a)

/-- A register read: the unit after it, the value and the status. An access that is not carried out returns zero
and has no effect (R24). -/
def State.swRead (s : State) (a : Nat) : State × Word × Nat :=
  if s.accessStatus a = stOk then ((s.readWord a).1, (s.readWord a).2, stOk) else (s, 0, s.accessStatus a)

/-- A BAR0 access to address `a` is carried out: as any other, and to the MSI-X table and its pending bits in the safe
state too (R247). -/
def State.barAnswers (s : State) (a : Nat) : Bool :=
  decide (s.accessStatus a = stOk) || (s.answered a && decide (0x38000 ≤ a ∧ a < 0x39008))

/-- A write of the RW bits of `mask`; the register's other bits stay (R5). -/
def State.rw (s : State) (a mask : Nat) (v : Word) : State :=
  let m := BitVec.ofNat 32 mask
  s.setReg a ((s.reg a &&& ~~~m) ||| (v &&& m))

/-- A write of a W1C register (R5): 1 clears a bit. -/
def State.w1c (s : State) (a mask : Nat) (v : Word) : State :=
  s.setReg a (s.reg a &&& ~~~(v &&& BitVec.ofNat 32 mask))

/-- A write of a register with RW bits `mask` and RWL bits `lock` (R440): while the setup lock is closed the RWL bits
stay, and a write that would have changed one sets DENIED. -/
def State.rwl (s : State) (a mask lock : Nat) (v : Word) : State :=
  if s.on GLB.closed then
    let t := s.rw a mask v
    if (v ^^^ s.reg a) &&& BitVec.ofNat 32 lock = 0 then t else t.put GLB.denied 1
  else s.rw a (mask ||| lock) v

/-- Registers that hold an RWL field (R440). -/
def isLockReg (a : Nat) : Bool :=
  (match lrxOf a with
    | some (_, o) => decide (o = 0)
    | none => match ltxOf a with
      | some (_, o) => decide (o = 0)
      | none => decide (a = GLB.spareReach ∨ a = FLT.cfg ∨ a = PWR.cfg))

/-- GLB_LOCK (R439): CLOSE closes the lock, and DENIED is W1C. -/
def State.lockWrite (s : State) (v : Nat) : State :=
  (s.when (bitOf v 2) (fun t => t.put GLB.denied 0)).when (bitOf v 1) (fun t => t.put GLB.closed 1)

/-- A write in a receiver block (R63). -/
def State.writeLrx (s : State) (i o : Nat) (v : Word) : State :=
  let a := LRX.base i + o
  if o = 0x0 then
    let t := s.rwl a 0x73E 1 v
    if t.get (LRX.detMode i) = s.get (LRX.detMode i) then t else t.updRx i (fun r => { r with detPend := true })
  else if o = 0x8 then s.w1c a 0xF v
  else if o = 0xC then s.rw a 0xF v
  else if o = 0x10 then s.rw a 0xFFFFFF v
  else if o = 0x14 then s.coefWrite i .afe v
  else if o = 0x18 then s.rw a 0xFFF v
  else if o = 0x20 then
    let t := s.rw a 0x7F03FF v
    if t.on (LRX.detectEn i) then t else t.put (LRX.frzStarved i) 0
  else if o = 0x30 then (s.rw a 0x7FFFC v).when (bitOf v.toNat 0) (fun t => t.histStart i)
  else if h : 0x100 ≤ o ∧ o < 0x180 then s.coefWrite i (.tap ⟨(o - 0x100) / 4, by omega⟩) v
  else if o = 0x180 then s.coefWrite i .dfe v
  else s

/-- A write in a transmitter block (R87). -/
def State.writeLtx (s : State) (i o : Nat) (v : Word) : State :=
  let a := LTX.base i + o
  if o = 0x0 then (s.rwl a 4 1 v).when (bitOf v.toNat 1) (fun t => t.commit i)
  else if o = 0x8 then s.w1c a 1 v
  else if o = 0xC then s.rw a 1 v
  else if o = 0x10 then s.rw a 0xFF v
  else if o = 0x14 then s.rw a 0x7F7F7F7F v
  else if o = 0x18 then s.rw a 0x7F v
  else s

/-- A write in the global block (R434). Where a write to GLB_TIMING changes a mode that R20 refuses to change, the mode bit
alone is ignored and the other fields of the write are taken. A rewritten GLB_SPARE_REACH takes no spare from a group whose map
names it (DESIGN CHOICE, log entry 38). -/
def State.writeGlb (s : State) (a : Nat) (v : Word) : State :=
  let n := v.toNat
  if a = GLB.lock then s.lockWrite n
  else if 0x10 ≤ a ∧ a < 0x20 then s.pgcfgWrite ((a - 0x10) / 4) n
  else if a = GLB.pgen then s.pgenWrite n
  else if a = GLB.event then s.w1c a (if s.on GLB.refclkOk then 0x3FFF else 0x3FF7) v
  else if a = 0x34 then s.rw a 0x3FFF v
  else if a = GLB.timing then ((s.timingMode 0 (bitsOf n 0 1)).timingMode 1 (bitsOf n 1 1)).rw a 0xFC v
  else if 0x44 ≤ a ∧ a < 0x54 then s.timingListWrite ((a - 0x44) / 8) ((a - 0x44) / 4 % 2) v
  else if 0x100 ≤ a ∧ a < 0x180 then
    let g := (a - 0x100) / 0x20
    if a % 0x20 = 0 then s.rw a 0xFFFF1FFF v
    else if a % 0x20 = 4 then
      ((s.when (bitOf n 0) (fun t => t.restart g 0)).when (bitOf n 1) (fun t => t.restart g 1)).goOn
    else s
  else if 0x180 ≤ a ∧ a < 0x1C0 then
    (if a % 0x10 < 8 then s.lmapWrite ((a - 0x180) / 0x10) (a % 0x10 / 4) v else s)
  else if a = GLB.spareReach then (s.rwl a 0 0xFFFF v).goOn
  else if a = 0x1C8 then (s.rw a 1 v).goOn
  else if a = GLB.rstctrl then s.rstctrlWrite n
  else if 0x214 ≤ a ∧ a < 0x224 then s.lerstWrite ((a - 0x214) / 8) ((a - 0x214) / 4 % 2) n
  else s

/-- A write in the fault collector's block (R373). -/
def State.writeFlt (s : State) (a : Nat) (v : Word) : State :=
  if a = FLT.cfg then s.rwl a 0 3 v
  else if a = 0x10008 then (s.put FLT.hold (bitsOf v.toNat 0 1)).notePin
  else if a = FLT.event then s.w1c a 0x7F v
  else if a = 0x10010 then s.rw a 0x7F v
  else if a = 0x10014 then s.rw a 0xFFFFFF v
  else if 0x10100 ≤ a ∧ a < 0x103E0 then s.srccfgWrite ((a - 0x10100) / 4) v
  else s

/-- A write to PWR_CTRL (R394, R400, R417): LINK_WAKE acts with the target of the same write. -/
def State.pwrCtrlWrite (s : State) (v : Nat) : State := (s.targetWrite (bitsOf v 0 2)).linkWake (bitsOf v 4 4)

/-- A write to PWR_DVFS (R413, R414). -/
def State.dvfsWrite (s : State) (v : Word) : State := (s.rw PWR.dvfs 0x3C03 v).dvfsStart

/-- A write in the power block (R417). -/
def State.writePwr (s : State) (a : Nat) (v : Word) : State :=
  if a = PWR.ctrl then s.pwrCtrlWrite v.toNat
  else if a = PWR.cfg then (s.rwl a 0x0FFFFF0E 1 v).settlePower
  else if a = PWR.event then s.w1c a 0x3FF v
  else if a = 0x20010 then s.rw a 0x3FF v
  else if a = PWR.dvfs then s.dvfsWrite v
  else s

/-- A write to a host page register (R283): taken while every ring is DISABLED, and it marks the page set. -/
def State.pageWrite (s : State) (a mask bit : Nat) (v : Word) : State :=
  if (List.range 64).all (fun q => decide (s.get (RNG.state q) = 0)) then
    { s.rw a mask v with pages := s.pages ||| 2 ^ bit }
  else s

/-- A write to a ring's registers (R283): the setup registers only in DISABLED (R277). -/
def State.ringWrite (s : State) (q o : Nat) (v : Word) : State :=
  let a := RNG.q q + o
  let setup (mask : Nat) : State := if s.get (RNG.state q) = 0 then s.rw a mask v else s
  match o with
  | 0x00 => setup 0xFFFFF000
  | 0x04 => setup 0xFFFFFFFF
  | 0x08 => setup 0xFFFFF000
  | 0x0C => setup 0xFFFFFFFF
  | 0x10 => setup 0xFFFFFF
  | 0x14 => s.ringCtrl q v.toNat
  | 0x18 => setup 0xFFFFFFFF
  | _ => s

/-- A write to the MSI-X table (R242). -/
def State.msixWrite (s : State) (a : Nat) (v : Word) : State :=
  (s.rw a (if a % 16 = 0 then 0xFFFFFFFC else if a % 16 = 12 then 1 else 0xFFFFFFFF) v).msixUnmask

/-- A write in the ring engine and PCIe block (R249, R283). -/
def State.writeRng (s : State) (a : Nat) (v : Word) : State :=
  if a = 0x30000 then s.pageWrite a 0xFFFFF000 0 v
  else if a = 0x30004 then s.pageWrite a 0xFFFFFFFF 0 v
  else if a = 0x30008 then s.pageWrite a 0xFFFFF000 1 v
  else if a = 0x3000C then s.pageWrite a 0xFFFFFFFF 1 v
  else if a = RNG.evcqReg then s.rw a 0x13F v
  else if 0x30800 ≤ a ∧ a < 0x30834 then s.evgrpWrite ((a - 0x30800) / 4) v
  else if a = RNG.evsum then (s.w1c a 0x1FFF v).each (List.range 64) (fun n t => t.vectorServed n)
  else if a = RNG.pcieStat then s.w1c a 0x10000 v
  else if 0x31000 ≤ a ∧ a < 0x32000 then s.ringWrite ((a - 0x31000) / 0x40) (a % 0x40) v
  else if 0x38000 ≤ a ∧ a < 0x38400 then s.msixWrite a v
  else s

/-- A write to ORB_CTRL (R331). -/
def State.orbCtrlWrite (s : State) (v : Nat) : State :=
  let s := s.when (bitOf v 0) (fun t => t.askEnum false)
  let s := s.when (bitOf v 1) (fun t => t.askEnum true)
  let s := s.when (bitOf v 2) State.writeHeal
  s.when (bitOf v 3) (fun t => t.askMeasure)

/-- A write to ORB_WAKE (R331, R403). -/
def State.orbWakeWrite (s : State) (v : Word) : State :=
  (s.rw ORB.wake 0xFFFF v).when (bitOf v.toNat 16) (fun t => t.wakeSend (bitsOf v.toNat 0 8) (bitsOf v.toNat 8 8))

/-- A write in the Orbit block (R331): the manager's registers ignore it on a worker. -/
def State.writeOrb (s : State) (a : Nat) (v : Word) : State :=
  if orbManager a && !s.manager then s
  else if a = ORB.cfg then s.rw a 0xFFFF v
  else if a = 0x40004 then s.rw a 0xFFFF v
  else if a = ORB.event then s.w1c a 0x3FF v
  else if a = 0x40010 then s.rw a 0x3FF v
  else if a = ORB.ctrl then s.orbCtrlWrite v.toNat
  else if a = 0x4001C ∨ a = 0x40020 ∨ a = 0x40024 then s.rw a 0xFFFFF v
  else if a = ORB.release then s.releaseAddr (bitsOf v.toNat 0 8)
  else if a = ORB.wake then s.orbWakeWrite v
  else s

/-- A write to CAL_CTRL (R229, R234). -/
def State.calCtrlWrite (s : State) (v : Word) : State :=
  let was := s.calSuspended
  let t := s.rw CAL.ctrl 7 v
  let t := t.when (t.calSuspended) (fun u => u.suspendBegin was)
  ((t.suspendEnd was).when (bitOf v.toNat 3) (fun u => u.guardClear)).goOn

/-- A write in the calibration block (R234). -/
def State.writeCal (s : State) (a : Nat) (v : Word) : State :=
  if a = CAL.ctrl then s.calCtrlWrite v
  else if a = 0x60004 then s.rw a 0xFF0FFF v
  else if a = 0x60008 then s.rw a 0xFFFFFFF v
  else if a = 0x6000C then s.rw a 0xFFFF v
  else if a = CAL.event then s.w1c a 0x1F v
  else if a = 0x60018 then s.rw a 0x1F v
  else s

/-- A write in a direction engine's block (R144, R166, R167). -/
def State.writeDir (s : State) (e a : Nat) (v : Word) : State :=
  let o := a % 0x10000
  if o = 0x8 then s.w1c a 0xFFFFFF v
  else if o = 0xC then s.rw a 0xFFFFFF v
  else if o = 0x10 then s.rplcfgWrite e v.toNat
  else if 0x100 ≤ o ∧ o < 0x500 then
    (if o % 0x100 = 0 then s.rw a 3 v else if o % 0x100 = 0x14 then s.rw a 0xFFFF v else s)
  else s

/-- A write in the partition block (R211). -/
def State.writePrt (s : State) (a : Nat) (v : Word) : State :=
  if a < 0xA8000 then (if a % 8 = 0 then s.entryWrite ((a - 0xA0000) / 8) v.toNat else s)
  else if a = 0xA8000 then s.rw a 0xFF3F v
  else if a = PRT.event then s.w1c a 7 v
  else if a = 0xA8014 then s.rw a 7 v
  else s

/-- A write in the Eclipse block (R351). -/
def State.writeEcl (s : State) (a : Nat) (v : Word) : State :=
  if a = 0x50000 then s.rw a 1 v
  else if a = 0x50004 then s.rw a 3 v
  else if a = ECL.event then s.w1c a 7 v
  else if a = 0x50024 then s.rw a 7 v
  else s

/-- A write in the self-test block (R390). -/
def State.writeBst (s : State) (a : Nat) (v : Word) : State :=
  if a = BST.event then s.w1c a 0xF v
  else if a = 0x7000C then s.rw a 0xF v
  else s

/-- What a write of an answered register does (R5, R433): addresses that name no register ignore it. -/
def State.writeWord (s : State) (a : Nat) (v : Word) : State :=
  if a % 4 ≠ 0 then s
  else match lrxOf a with
  | some (i, o) => s.writeLrx i o v
  | none =>
    match ltxOf a with
    | some (i, o) => s.writeLtx i o v
    | none =>
      match a / 0x10000 with
      | 0 => s.writeGlb a v
      | 1 => s.writeFlt a v
      | 2 => s.writePwr a v
      | 3 => s.writeRng a v
      | 4 => s.writeOrb a v
      | 5 => s.writeEcl a v
      | 6 => s.writeCal a v
      | 7 => s.writeBst a v
      | 8 => s.writeDir 0 a v
      | 9 => s.writeDir 1 a v
      | 10 => s.writePrt a v
      | _ => s

/-- A register write: the unit after it and the status. -/
def State.swWrite (s : State) (a : Nat) (v : Word) : State × Nat :=
  if s.accessStatus a = stOk then (s.writeWord a v, stOk) else (s, s.accessStatus a)

/-- A read-modify-write (R266): the old value, and the status. -/
def State.swRmw (s : State) (a : Nat) (mask value : Word) : State × Word × Nat :=
  if s.accessStatus a = stOk then
    let (t, old) := s.readWord a
    (t.writeWord a ((old &&& ~~~mask) ||| (value &&& mask)), old, stOk)
  else (s, 0, s.accessStatus a)

/-- Reads `n` registers from `a` upward, stopping at the first that fails. -/
def State.swReads : Nat → State → Nat → State × List Word × Nat
  | 0, s, _ => (s, [], stOk)
  | n + 1, s, a =>
    let (t, w, st) := s.swRead a
    if st = stOk then
      let (u, ws, st') := State.swReads n t (a + 4)
      (u, w :: ws, st')
    else (t, [], st)

/-- Writes registers from `a` upward in ascending order, stopping at the first that fails (R266): the number
written, and the status. -/
def State.swWrites : List Word → State → Nat → State × Nat × Nat
  | [], s, _ => (s, 0, stOk)
  | v :: vs, s, a =>
    let (t, st) := s.swWrite a v
    if st = stOk then
      let (u, n, st') := State.swWrites vs t (a + 4)
      (u, n + 1, st')
    else (t, 0, st)

/-- A write whose status nobody sees. -/
def State.swSet (s : State) (a : Nat) (v : Word) : State := (s.swWrite a v).1

/-- The length and alignment of a BAR0 request are those of R238. -/
def barLength (r : BarReq) : Bool :=
  decide (r.off.toNat % 4 = 0) && (decide (r.dws = 1) || (decide (r.dws = 2) && decide (r.off.toNat % 8 = 0)))

/-- WIN_ERR is set (R238). -/
def State.winErr (s : State) : State := s.put RNG.winErr 1

/-- A read of `n` registers through BAR0; one that is not answered returns zero (R24, R238, R247). -/
def State.barRead (s : State) (a n : Nat) : State :=
  let r := (List.range n).foldl (fun (x : State × List Word) k =>
    let b := a + 4 * k
    let y := if x.1.barAnswers b then x.1.readWord b else (x.1, 0)
    (y.1, x.2 ++ [y.2])) (s, [])
  r.1.emit (.readData r.2)

/-- A write of one register through BAR0. -/
def State.barWrite (s : State) (a : Nat) (v : Word) : State := if s.barAnswers a then s.writeWord a v else s

/-- A request to BAR0 (R238, R248, R468): the first row that matches decides. -/
def State.barRequest (s : State) (r : BarReq) : State :=
  if !(s.manager && s.fileUp) then s.pcieWakes
  else
    let s := s.tlpArrives r.corr
    if !s.pcie.memEnable || s.on RNG.d3hot then s.unsupportedReq r.write
    else if r.write && r.poisoned then s.pcieError 12
    else if !barLength r then s.unsupportedReq r.write
    else if 0x800000 ≤ r.off.toNat then
      s.winErr.when (!r.write) (fun t => t.emit (.readData (List.replicate r.dws 0)))
    else if r.write && !r.beAll then s.winErr
    else if r.write then
      ((List.range r.dws).zip r.data).foldl (fun t x => t.barWrite (r.off.toNat + 4 * x.1) x.2) s
    else s.barRead r.off.toNat r.dws

/-- Entries of the configuration record are applied until one waits (R430), or until one resets or stops the core, which cuts
the record short (R431). -/
def State.recordRun : List (BitVec 64) → State → State
  | [], s => (s.updCore (fun c => { c with record := [], cold := false })).put GLB.cfgrec 1
  | e :: rest, s =>
    let a := bitsOf e.toNat 0 24
    let data := BitVec.ofNat 32 (e.toNat / 2 ^ 32)
    match bitsOf e.toNat 24 8 with
    | 0 =>
      if a % 4 = 0 then
        let t := (s.updCore (fun c => { c with record := e :: rest })).swSet a data
        if t.core.record.isEmpty then t else State.recordRun rest t
      else State.recordRun rest s
    | 1 => if data = 0 then State.recordRun rest s
      else s.updCore (fun c => { c with record := 0 :: rest })
    | _ => State.recordRun rest s

/-- The entries' bytes, as the CRC covers them. -/
def recordEntryBytes (r : CfgRecord) : List Byte := (r.entries.map (fun e => bytesOf 8 e.toNat)).flatten

/-- The record is good (R430). -/
def recordGood (r : CfgRecord) : Bool :=
  decide (r.magic = 0x47435054#32) && decide (1 ≤ r.count ∧ r.count ≤ 8190 ∧ r.count = r.entries.length)
    && decide (r.crc.toNat = crc32 (recordEntryBytes r))

/-- The boot configuration record (R430): after a cold start, once firmware is ready and CFG_SKIP is low. -/
def State.recordApply (s : State) (r : CfgRecord) : State :=
  if s.coreReady && s.core.cold && s.core.record.isEmpty && !s.on GLB.strapCfgSkip then
    if recordGood r then State.recordRun r.entries s
    else ((s.updCore (fun c => { c with cold := false })).put GLB.cfgrec 2).raise GLB.event 13
  else s

/-- The wait of an entry ends (R430). A record in progress begins with the entry that waits. -/
def State.recordWait (s : State) : State :=
  match s.core.record with
  | _ :: rest => if s.coreReady then State.recordRun rest s else s
  | [] => s

/-- COUNTER_LOW_READ (R437): a read of the low word of a 48-bit or 64-bit value. -/
def execCounterLowRead (addr : Addr) (s : State) : Host.Outcome State Fault Refusal :=
  .next (if isLowWord addr.toNat then (s.swRead addr.toNat).1 else s)

/-- A write carries the words of its length. -/
def barDataOk (r : BarReq) : Bool := !r.write || decide (r.data.length = r.dws)

/-- BAR0_REQUEST (R238). -/
def execBar0Request (r : BarReq) (s : State) : Host.Outcome State Fault Refusal :=
  if barDataOk r then .next (s.barRequest r) else .fault .illFormed

/-- REGISTER_WRITE (R5). -/
def execRegisterWrite (addr : Addr) (v : Word) (s : State) : Host.Outcome State Fault Refusal :=
  .next (if addr.toNat % 4 = 0 then s.swSet addr.toNat v else s)

/-- RWL_WRITE (R440): a write to a register with an RWL field. -/
def execRwlWrite (addr : Addr) (v : Word) (s : State) : Host.Outcome State Fault Refusal :=
  .next (if isLockReg addr.toNat then s.swSet addr.toNat v else s)

/-- LOCK_CLOSE (R439). -/
def execLockClose (s : State) : Host.Outcome State Fault Refusal := .next (s.soft GLB.lock (fun t => t.put GLB.closed 1))

/-- A record holds at most 8,190 entries (R430). -/
def recordFits (r : CfgRecord) : Bool := decide (r.entries.length ≤ 8190)

/-- CFG_RECORD_APPLY (R430). -/
def execCfgRecordApply (r : CfgRecord) (s : State) : Host.Outcome State Fault Refusal :=
  if recordFits r then .next (s.recordApply r) else .fault .illFormed

/-- CFG_RECORD_WAIT_EXPIRY (R430). -/
def execCfgRecordWaitExpiry (s : State) : Host.Outcome State Fault Refusal := .next s.recordWait

end Sys2Proof.Machine
end

