-- ==== Sys2Proof/Machine/Actions.lean ====
section
/-! DEFINITION. What the operations of descriptors do at the unit they name, whether they come from its own ring or
in an OP frame (R113, R135, R187, R231, R345, R365, R376, R429). -/

namespace Sys2Proof.Machine

/-- A descriptor's operation is the one that a row names: its TYPE, and the OP or SCOPE byte where the row is one of
several of a type. -/
def isOp (d : Desc) (t : Nat) (op : Option Nat) : Bool :=
  decide (dType d = t) && (match op with
    | some o => decide (dField d 8 1 = o)
    | none => true)

/-- TSTREAM_START (R345). -/
def State.startStream (s : State) (o : Owner) (d : Desc) : State :=
  let r := s.streamStart (dField d 8 1) (dField d 9 1) (dField d 12 4) (dField d 16 8)
  r.1.opDone o r.2 0

/-- TSTREAM_STOP (R345). -/
def State.stopStream (s : State) (o : Owner) (d : Desc) : State :=
  let r := s.streamStop (dField d 8 1)
  r.1.opDone o r.2 0

/-- The lanes of a CFL port in G or F mode can move without ending its link (R26, R113): its segment is in UP. -/
def State.movable (s : State) (g sd : Nat) : Bool :=
  s.cfl g && decide (s.pers g ≠ 0) && s.on (GLB.en g) && decide (s.segState g sd 0 = stUp)

/-- A task of the sparing logic for a lane that a descriptor names, where the port allows it (R26). -/
def State.laneTask (s : State) (o : Owner) (g sd : Nat) (j : Job) : State :=
  if s.movable g sd then (s.pushJob g { j with owner := o }).goOn else s.opDone o stPrecondition 0

/-- LANE_SWAP SWAP on a lane of an Ethernet port (R187, R180): the lane takes the position and the port's segment
retrains, whether it was UP or in training. -/
def State.swapEthernet (s : State) (o : Owner) (g sd lane p : Nat) : State :=
  let k := s.portOfLane g lane
  let st := s.segState g sd k
  if st = stUp then ((s.moveRetrain g sd k lane p).goOn).opDone o stOk 0
  else
    let t := s.moveMap g sd k lane p
    let t := if isTraining st then ((t.startAttempt g sd k).lossOther g sd k).segEval g sd k else t
    (t.goOn).opDone o stOk 0

/-- LANE_SWAP SWAP (R187, R26): of a lane that a port of the group carries. -/
def State.laneSwap (s : State) (o : Owner) (d : Desc) : State :=
  let sd := dField d 9 1
  let g := dField d 10 1
  let n := dField d 11 1
  let j := { Job.blank .move sd n with toPos := dField d 12 1 }
  if (s.lanePos g sd n).isNone || !s.on (GLB.en g) || !(s.portKeys g).any (fun k => decide (n ∈ s.lanes g sd k)) then s.opDone o stPrecondition 0
  else if s.cfl g then s.laneTask o g sd j
  else match s.moveTarget g j with
    | some p => if isUpOrTraining (s.segState g sd (s.portOfLane g n)) then s.swapEthernet o g sd n p
        else s.opDone o stPrecondition 0
    | none => s.opDone o stPrecondition 0

/-- LANE_SWAP RETRAIN (R113). -/
def State.laneRetrain (s : State) (o : Owner) (d : Desc) : State :=
  s.laneTask o (dField d 10 1) (dField d 9 1) (Job.blank .retrain (dField d 9 1) (dField d 11 1))

/-- LANE_SWAP RESTORE (R187): where no lane can be trained, the marks clear and nothing else happens. -/
def State.laneRestore (s : State) (o : Owner) (d : Desc) : State :=
  let sd := dField d 9 1
  let g := dField d 10 1
  if s.movable g sd then (s.pushJob g { Job.blank .restore sd 0 with owner := o }).goOn
  else (((s.clearChannel g [sd]).settleSpares).goOn).opDone o stOk 0

/-- CAL_REQ FULL (R231): the steps of R113 with a foreground calibration. -/
def State.calFull (s : State) (o : Owner) (d : Desc) : State :=
  s.laneTask o (dField d 10 1) (dField d 9 1) (Job.blank .full (dField d 9 1) (dField d 11 1))

/-- CAL_REQ SWEEP or TXPASS (R231). -/
def State.calLanes (s : State) (o : Owner) (d : Desc) (tx : Bool) : State := s.calRequest o tx (dField d 16 9)

/-- BIST_RUN (R376). -/
def State.bistRun (s : State) (o : Owner) (d : Desc) (q idx : Nat) : State :=
  s.bistAdd { owner := o, accepted := false, slices := dSlices d, addr := dField d 8 8, sq := q, sqIdx := idx, k := 0,
              stage := .waiting, pass := 0, fail := 0, timeout := 0, verdict := 0, detail := 0, us := 0 }

/-- The 32 bytes of a KEY_LOAD, byte 16 of the descriptor first (R264). -/
def dKey (d : Desc) : BitVec 256 := BitVec.ofNat 256 (ofBytes (bytesOf 32 (dField d 16 32)).reverse)

/-- The slot is the current TXSLOT of a port that is up (R135). -/
def State.keyInUse (s : State) (g sd slot : Nat) : Bool :=
  s.cfl g && s.bothUp g && decide (s.get (DIR.txSlot (outEngine sd) g) = slot)

/-- KEY_LOAD (R135): the slot, epoch zero, valid; RESULT is its key check value. -/
def State.keyLoad (s : State) (o : Owner) (d : Desc) : State :=
  let g := dField d 8 1
  let sd := dField d 9 1
  let slot := dField d 10 1
  if s.keyInUse g sd slot then s.opDone o stPrecondition 0
  else (s.setKey sd slot g { key := dKey d, epoch := 0, valid := true }).opDone o stOk (keyCheck (dKey d))

/-- FW_LOAD WRITE (R429): `image` are the bytes that have been read so far. -/
def State.fwWrite (s : State) (o : Owner) (d : Desc) (image : List Byte) : State :=
  s.loadAdd { owner := o, activate := false, length := dField d 12 4, image := image, frames := 0, target := 0 }

/-- FW_LOAD ACTIVATE (R429). -/
def State.fwActivate (s : State) (o : Owner) : State :=
  s.loadAdd { owner := o, activate := true, length := 0, image := [], frames := 0, target := 0 }

/-- FAULT_CLEAR (R365). -/
def State.faultClear (s : State) (o : Owner) (d : Desc) : State :=
  let r := match dField d 8 1 with
    | 0 => s.clearSource (dField d 10 2)
    | 1 => s.clearRecord
    | _ => s.clearSafe
  r.1.opDone o r.2 0

/-- An operation begins at this unit, or is refused; its end is reported to its owner. The ring and index serve the
tags of result records. -/
def State.opStart (s : State) (o : Owner) (d : Desc) (q idx : Nat) (image : List Byte) : State :=
  match dType d with
  | 0x08 => s.startStream o d
  | 0x09 => s.stopStream o d
  | 0x0A =>
    match dField d 8 1 with
    | 0 => s.calLanes o d false
    | 1 => s.calLanes o d true
    | _ => s.calFull o d
  | 0x0B => s.bistRun o d q idx
  | 0x0C =>
    match dField d 8 1 with
    | 0 => s.laneSwap o d
    | 1 => s.laneRetrain o d
    | _ => s.laneRestore o d
  | 0x0E => s.keyLoad o d
  | 0x0F => if dField d 8 1 = 0 then s.fwWrite o d image else s.fwActivate o
  | 0x10 => s.faultClear o d
  | _ => s.opDone o stBadDesc 0

/-- An operation needs an island that SLEEP gates (R392): those of the management core, a lane task and KEY_LOAD; telemetry and the
fault collector run. -/
def needsIsland (d : Desc) : Bool := isCoreType (dType d) || decide (dType d = 0x0C ∨ dType d = 0x0E)

/-- An operation of an OP frame waits: for firmware, or for the islands that it needs. -/
def State.opWaits (s : State) (d : Desc) : Bool :=
  (isCoreType (dType d) && !s.coreReady) || (needsIsland d && !s.running)

/-- Operations of OP frames that have waited begin, in the order of their arrival. -/
def State.waitingGo (s : State) : State :=
  (s.updCore (fun c => { c with waiting := c.waiting.filter (fun w => s.opWaits w.2) })).each
    (s.core.waiting.filter (fun w => !s.opWaits w.2)) (fun w t => t.opStart (.orbit w.1) w.2 0 0 [])

/-- An OP frame's operation at a worker (R314): OP_ACCEPT with the refusal of a unit that does not carry it out, or
with OK, and the operation begins, at once or when firmware is ready. In SLEEP, or on the way there, one that needs a gated
island wakes the unit and waits for it (R402). -/
def State.opFrame (s : State) (tag : Nat) (d : Desc) : State :=
  let st := if !s.fileUp then stIslandDown
    else if s.safe && safeRefuses d then stSafeState
    else if isRegType (dType d) || !decide (8 ≤ dType d ∧ dType d ≤ 0x10 ∧ dType d ≠ 0x0D) || !fieldsOk d then
      stBadDesc
    else stOk
  let s := s.ownFrame 0x05 tag [BitVec.ofNat 8 st]
  if st ≠ stOk then s
  else if s.opWaits d then
    (s.updCore (fun c => { c with waiting := c.waiting ++ [(tag, d)] })).when
      (needsIsland d && !s.running && s.asleep 1) (fun t => t.wakeDev (3, 0, 0))
  else s.opStart (.orbit tag) d 0 0 []

/-- LOGIC_STAGE_DONE (R408): operations that have waited for a gated island begin. -/
def execLogicStageDone (s : State) : Host.Outcome State Fault Refusal := .next s.logicDone.waitingGo

/-- FIRMWARE_READY (R428): the operations that waited for it begin. -/
def execFirmwareReady (version : Word) (s : State) : Host.Outcome State Fault Refusal :=
  .next (s.firmwareReady version).waitingGo

end Sys2Proof.Machine
end

