-- ==== Sys2Proof/Machine/DescCmds.lean ====
section
/-! DEFINITION. The descriptor commands: a descriptor in flight starts, at the manager or as a request over Orbit
(R202, R266, R267, R284 to R291, R312). Each row names a ring and an index; it acts only where that descriptor is of
the row's type and may start. -/

namespace Sys2Proof.Machine

/-- The descriptor that a row starts. -/
def State.starts (s : State) (q idx t : Nat) (op : Option Nat) : Option Flight :=
  (s.flight q idx).filter (fun f => isOp f.desc t op && s.mayStart q f)

/-- A descriptor in flight is marked as started. -/
def State.started (s : State) (q idx : Nat) : State :=
  s.updFlight q idx (fun f => { f with stage := .started, gen := s.orbit.gen })

/-- A descriptor that addresses one unit starts (R281, R312, R319, R327): `own` is its effect at the manager, and
`ftype`, `payload` and `image` its request to a worker. A request waits while the ring heals. -/
def State.descAt (s : State) (q : Nat) (f : Flight) (own : State → State) (ftype : Nat) (payload image : List Byte) :
    State :=
  if dTarget f.desc = 0 then
    if s.safe && safeRefuses f.desc then s.answerFlight q f.idx stSafeState 0 0 else own (s.started q f.idx)
  else if s.on ORB.conflict then s.answerFlight q f.idx stNoUnit 0 0
  else if s.orbPaused then s
  else s.sendReq q f.idx (dTarget f.desc) ftype payload image

/-- Payload of an OP frame: TYPE and bytes 8 to 62 of the descriptor (R312). -/
def opPayload (d : Desc) : List Byte := bytesOf 1 (dType d) ++ bytesOf 55 (dField d 8 55)

/-- Payload of a REG frame. -/
def regPayload (op addr count : Nat) (data : List Byte) : List Byte :=
  bytesOf 1 op ++ bytesOf 3 addr ++ bytesOf 2 count ++ data

/-- An operation of a type that travels in OP frames. -/
def State.descOp (s : State) (q idx t : Nat) (op : Option Nat) (image : List Byte) : State :=
  match s.starts q idx t op with
  | some f =>
    s.descAt q f (fun u => u.opStart (.ring q f.idx) f.desc q f.idx image) 0x04 (opPayload f.desc) image
  | none => s

/-- REG_READ at the manager (R266). -/
def State.readHere (s : State) (q idx : Nat) (d : Desc) : State :=
  let r := s.swReads (dField d 11 1) (dAddr d)
  r.1.answerFlight q idx r.2.2 (((r.2.1.headD 0).toNat) + 2 ^ 32 * ((r.2.1.drop 1).headD 0).toNat) 0

/-- REG_WRITE at the manager. -/
def State.writeHere (s : State) (q idx : Nat) (d : Desc) : State :=
  let r := s.swWrite (dAddr d) (BitVec.ofNat 32 (dField d 12 4))
  r.1.answerFlight q idx r.2 0 0

/-- REG_RMW at the manager. -/
def State.rmwHere (s : State) (q idx : Nat) (d : Desc) : State :=
  let r := s.swRmw (dAddr d) (BitVec.ofNat 32 (dField d 12 4)) (BitVec.ofNat 32 (dField d 16 4))
  r.1.answerFlight q idx r.2.2 r.2.1.toNat 0

/-- BULK_WRITE at the manager. -/
def State.bulkWriteHere (s : State) (q idx : Nat) (d : Desc) : State :=
  let r := s.swWrites (wordsOf (dField d 59 1) (dField d 8 48)) (dField d 56 3)
  r.1.answerFlight q idx r.2.2 r.2.1 0

/-- BULK_READ at the manager: the data is written before the entry (R285). -/
def State.bulkReadHere (s : State) (q idx : Nat) (d : Desc) : State :=
  let r := s.swReads (dField d 12 2) (dAddr d)
  let t := if r.2.1.isEmpty then r.1 else r.1.postWrite (dField d 16 8) r.2.1
  t.answerFlight q idx r.2.2 r.2.1.length 0

/-- The manager's part of a broadcast (R267, R281). -/
def State.castHere (s : State) (op addr : Nat) (data mask : Word) : State × Nat :=
  if s.safe then (s, stSafeState)
  else if op = 0 then s.swWrite addr data
  else
    let r := s.swRmw addr mask data
    (r.1, r.2.2)

/-- The lowest TAG from 2 on that no broadcast uses; none while all are in use (R315). -/
def State.castTag (s : State) : Option Nat :=
  ((List.range 254).map (fun n => n + 2)).find? (fun t =>
    !s.orbit.pris.any (fun p => decide (p.lead = 3 ∧ p.tag = t)))

/-- The first 12 bytes of a BCAST payload (R312). -/
def castPayload (d : Desc) : List Byte :=
  bytesOf 1 (dField d 11 1) ++ bytesOf 3 (dAddr d) ++ bytesOf 4 (dField d 12 4) ++ bytesOf 4 (dField d 16 4)

/-- A BCAST frame leaves on a port, with the manager's own part counted on D. -/
def State.castOn (s : State) (p : OrbPort) (tag : Nat) (payload : List Byte) (mine : Nat) : State :=
  let own := decide (p = .D)
  s.mgrFrame p 0xFF 0x03 tag (payload ++ [
    if own && decide (mine = stOk) then 1 else 0,
    if own && decide (mine ≠ stOk) then 1 else 0,
    if own then BitVec.ofNat 8 mine else 0])

/-- ORBIT_BCAST (R267); it waits while the ring heals and while no TAG is free (R315, R327). -/
def State.castStart (s : State) (q : Nat) (f : Flight) : State :=
  match s.castTag with
  | none => s
  | some tag =>
    if s.orbPaused then s
    else
      let r := (s.started q f.idx).castHere (dField f.desc 11 1) (dAddr f.desc) (BitVec.ofNat 32 (dField f.desc 12 4))
        (BitVec.ofNat 32 (dField f.desc 16 4))
      let t := r.1
      let p : PriOut := { lead := 3, tag := tag, data := castPayload f.desc, ports := t.castPorts, mine := some r.2,
                          gen := t.orbit.gen, tries := 0, applied := 0, refused := 0, rstat := 0,
                          owner := .ring q f.idx }
      if t.on ORB.conflict then t.priOutcome p false
      else (t.updOrb (fun o => { o with pris := o.pris ++ [p] })).each p.ports
        (fun o u => u.castOn o p.tag p.data r.2)

/-- ECLIPSE at the manager (R267, R322, R323): it takes its own part as the lead leaves on D. -/
def State.eclipseStart (s : State) (q : Nat) (f : Flight) : State :=
  match s.orbit.seq with
  | .measure _ => s
  | _ =>
    let e := dField f.desc 8 4
    let r := (s.started q f.idx).eclipseAccept (BitVec.ofNat 32 e) false 0 .D
    r.1.priStart 1 (bytesOf 4 e) (some r.2) (.ring q f.idx)

/-- The status of a quench command in this unit (R201). -/
def quenchStatus (ok : Bool) : Nat := if ok then stOk else stTableFull

/-- The command applied in this unit, with its status. -/
def State.quenchHere (s : State) (d : Desc) : State × Nat :=
  let lo := dField d 12 2
  let r := s.applyQuench (dField d 8 1) lo (dField d 9 1) lo (dField d 14 2)
  (r.1, quenchStatus r.2)

/-- Data characters of a QUENCH sequence (R316). -/
def quenchData (d : Desc) : List Byte :=
  bytesOf 1 (dTarget d) ++ bytesOf 1 (dField d 8 1 + 16 * dField d 9 1) ++ bytesOf 4 (dField d 12 4)

/-- A quench command (R202): here, over Orbit, or both. -/
def State.quenchStart (s : State) (q : Nat) (f : Flight) : State :=
  let s := s.started q f.idx
  let o : Owner := .ring q f.idx
  if dTarget f.desc = 0 then
    let r := s.quenchHere f.desc
    r.1.opDone o r.2 0
  else if dTarget f.desc = 0xFF then
    let r := s.quenchHere f.desc
    r.1.priStart 0 (quenchData f.desc) (some r.2) o
  else if s.on ORB.conflict then s.answerFlight q f.idx stNoUnit 0 0
  else s.priStart 0 (quenchData f.desc) none o

/-- A row of a quench operation. -/
def State.descQuench (s : State) (q idx op : Nat) : State :=
  match s.starts q idx 0x0D (some op) with
  | some f => s.quenchStart q f
  | none => s

/-- A descriptor of the ring engine itself starts: it has no effect (R284). -/
def State.descPlain (s : State) (q idx t : Nat) : State :=
  match s.starts q idx t none with
  | some f => s.answerFlight q f.idx stOk 0 0
  | none => s

/-- The completion ring that a worker's stream names, as the manager sends its start (R348). -/
def State.noteTeleCq (s : State) (q idx : Nat) : State :=
  match s.starts q idx 0x08 none with
  | some f =>
    if dTarget f.desc = 0 ∨ s.on ORB.conflict = true ∨ s.orbPaused = true then s
    else { s with teleCq := Sparse.set 0 s.teleCq (16 * dTarget f.desc + dField f.desc 8 1) (dField f.desc 9 1) }
  | none => s

/-- A register type's row: its effect at the manager, and its REG frame. -/
def State.descReg (s : State) (q idx t : Nat) (own : Desc → State → State) (payload : Desc → List Byte) : State :=
  match s.starts q idx t none with
  | some f => s.descAt q f (own f.desc) 0x01 (payload f.desc) []
  | none => s

/-- NOP (R263). -/
def execNop (q : RingN) (idx : BitVec 16) (s : State) : Host.Outcome State Fault Refusal :=
  .next (s.descPlain q idx.toNat 0x00)

/-- REG_READ (R266). -/
def execRegRead (q : RingN) (idx : BitVec 16) (s : State) : Host.Outcome State Fault Refusal :=
  .next (s.descReg q idx.toNat 0x01 (fun d t => t.readHere q idx.toNat d)
    (fun d => regPayload 0 (dAddr d) (dField d 11 1) []))

/-- REG_WRITE (R266). -/
def execRegWrite (q : RingN) (idx : BitVec 16) (s : State) : Host.Outcome State Fault Refusal :=
  .next (s.descReg q idx.toNat 0x02 (fun d t => t.writeHere q idx.toNat d)
    (fun d => regPayload 1 (dAddr d) 1 (bytesOf 4 (dField d 12 4))))

/-- REG_RMW (R266). -/
def execRegRmw (q : RingN) (idx : BitVec 16) (s : State) : Host.Outcome State Fault Refusal :=
  .next (s.descReg q idx.toNat 0x03 (fun d t => t.rmwHere q idx.toNat d)
    (fun d => regPayload 2 (dAddr d) 1 (bytesOf 8 (dField d 12 8))))

/-- BULK_WRITE (R266). -/
def execBulkWrite (q : RingN) (idx : BitVec 16) (s : State) : Host.Outcome State Fault Refusal :=
  .next (s.descReg q idx.toNat 0x04 (fun d t => t.bulkWriteHere q idx.toNat d)
    (fun d => regPayload 3 (dField d 56 3) (dField d 59 1) (bytesOf (4 * dField d 59 1) (dField d 8 48))))

/-- BULK_READ (R266). -/
def execBulkRead (q : RingN) (idx : BitVec 16) (s : State) : Host.Outcome State Fault Refusal :=
  .next (s.descReg q idx.toNat 0x05 (fun d t => t.bulkReadHere q idx.toNat d)
    (fun d => regPayload 4 (dAddr d) (dField d 12 2) []))

/-- ORBIT_BCAST (R267). -/
def execOrbitBcast (q : RingN) (idx : BitVec 16) (s : State) : Host.Outcome State Fault Refusal :=
  .next (match s.starts q idx.toNat 0x06 none with
    | some f => s.castStart q f
    | none => s)

/-- ECLIPSE (R267). -/
def execEclipse (q : RingN) (idx : BitVec 16) (s : State) : Host.Outcome State Fault Refusal :=
  .next (match s.starts q idx.toNat 0x07 none with
    | some f => s.eclipseStart q f
    | none => s)

/-- TSTREAM_START (R345). -/
def execTstreamStart (q : RingN) (idx : BitVec 16) (s : State) : Host.Outcome State Fault Refusal :=
  .next ((s.noteTeleCq q idx.toNat).descOp q idx.toNat 0x08 none [])

/-- TSTREAM_STOP (R345). -/
def execTstreamStop (q : RingN) (idx : BitVec 16) (s : State) : Host.Outcome State Fault Refusal :=
  .next (s.descOp q idx.toNat 0x09 none [])

/-- CAL_SWEEP (R231). -/
def execCalSweep (q : RingN) (idx : BitVec 16) (s : State) : Host.Outcome State Fault Refusal :=
  .next (s.descOp q idx.toNat 0x0A (some 0) [])

/-- CAL_TXPASS (R231). -/
def execCalTxpass (q : RingN) (idx : BitVec 16) (s : State) : Host.Outcome State Fault Refusal :=
  .next (s.descOp q idx.toNat 0x0A (some 1) [])

/-- CAL_FULL (R231). -/
def execCalFull (q : RingN) (idx : BitVec 16) (s : State) : Host.Outcome State Fault Refusal :=
  .next (s.descOp q idx.toNat 0x0A (some 2) [])

/-- BIST_RUN (R376). -/
def execBistRun (q : RingN) (idx : BitVec 16) (s : State) : Host.Outcome State Fault Refusal :=
  .next (s.descOp q idx.toNat 0x0B none [])

/-- LANE_SWAP_SWAP (R187). -/
def execLaneSwapSwap (q : RingN) (idx : BitVec 16) (s : State) : Host.Outcome State Fault Refusal :=
  .next (s.descOp q idx.toNat 0x0C (some 0) [])

/-- LANE_SWAP_RETRAIN (R113). -/
def execLaneSwapRetrain (q : RingN) (idx : BitVec 16) (s : State) : Host.Outcome State Fault Refusal :=
  .next (s.descOp q idx.toNat 0x0C (some 1) [])

/-- LANE_SWAP_RESTORE (R187). -/
def execLaneSwapRestore (q : RingN) (idx : BitVec 16) (s : State) : Host.Outcome State Fault Refusal :=
  .next (s.descOp q idx.toNat 0x0C (some 2) [])

/-- QUENCH (R200). -/
def execQuench (q : RingN) (idx : BitVec 16) (s : State) : Host.Outcome State Fault Refusal :=
  .next (s.descQuench q idx.toNat 0)

/-- UNQUENCH (R200). -/
def execUnquench (q : RingN) (idx : BitVec 16) (s : State) : Host.Outcome State Fault Refusal :=
  .next (s.descQuench q idx.toNat 1)

/-- RQUENCH (R200). -/
def execRquench (q : RingN) (idx : BitVec 16) (s : State) : Host.Outcome State Fault Refusal :=
  .next (s.descQuench q idx.toNat 2)

/-- RUNQUENCH (R200). -/
def execRunquench (q : RingN) (idx : BitVec 16) (s : State) : Host.Outcome State Fault Refusal :=
  .next (s.descQuench q idx.toNat 3)

/-- KEY_LOAD (R135). -/
def execKeyLoad (q : RingN) (idx : BitVec 16) (s : State) : Host.Outcome State Fault Refusal :=
  .next (s.descOp q idx.toNat 0x0E none [])

/-- An image is no longer than the longest that LENGTH names (R429). -/
def imageFits (image : List Byte) : Bool := decide (image.length ≤ 524288)

/-- The bytes that a read of SRC returned are as many as LENGTH of the WRITE that the row starts. -/
def State.imageOk (s : State) (q idx : Nat) (image : List Byte) : Bool :=
  imageFits image && (match s.starts q idx 0x0F (some 0) with
    | some f => decide (image.length = dField f.desc 12 4)
    | none => true)

/-- The image is read from SRC as its WRITE goes to its target (R264, R429). -/
def State.readImage (s : State) (q idx : Nat) : State :=
  match s.starts q idx 0x0F (some 0) with
  | some f =>
    if (if dTarget f.desc = 0 then s.safe && safeRefuses f.desc
        else s.on ORB.conflict || s.orbPaused || (s.freeTag (dTarget f.desc)).isNone) then s
    else s.hostRead (dField f.desc 16 8) (dField f.desc 12 4)
  | none => s

/-- The image at SRC as the core reads it, over the path that it shares with the engine (R298). -/
def State.seenImage (s : State) (q idx : Nat) (image : List Byte) : List Byte :=
  match s.flight q idx with
  | some f => s.seenBytes (dField f.desc 16 8) image
  | none => image

/-- FW_LOAD_WRITE (R429). -/
def execFwLoadWrite (q : RingN) (idx : BitVec 16) (image : List Byte) (s : State) : Host.Outcome State Fault Refusal :=
  if s.imageOk q idx.toNat image then
    .next ((s.readImage q idx.toNat).descOp q idx.toNat 0x0F (some 0) (s.seenImage q idx.toNat image))
  else .fault .illFormed

/-- FW_LOAD_ACTIVATE (R429). -/
def execFwLoadActivate (q : RingN) (idx : BitVec 16) (s : State) : Host.Outcome State Fault Refusal :=
  .next (s.descOp q idx.toNat 0x0F (some 1) [])

/-- FAULT_CLEAR_SOURCE (R365). -/
def execFaultClearSource (q : RingN) (idx : BitVec 16) (s : State) : Host.Outcome State Fault Refusal :=
  .next (s.descOp q idx.toNat 0x10 (some 0) [])

/-- FAULT_CLEAR_RECORD (R365). -/
def execFaultClearRecord (q : RingN) (idx : BitVec 16) (s : State) : Host.Outcome State Fault Refusal :=
  .next (s.descOp q idx.toNat 0x10 (some 1) [])

/-- FAULT_CLEAR_SAFE (R364). -/
def execFaultClearSafe (q : RingN) (idx : BitVec 16) (s : State) : Host.Outcome State Fault Refusal :=
  .next (s.descOp q idx.toNat 0x10 (some 2) [])

/-- FENCE (R291): it starts, and completes, once every descriptor dispatched before it is complete. -/
def execFence (q : RingN) (idx : BitVec 16) (s : State) : Host.Outcome State Fault Refusal :=
  .next (s.descPlain q idx.toNat 0x11)

end Sys2Proof.Machine
end

