-- ==== Sys2Proof/Machine/OrbitCmds.lean ====
section
/-! DEFINITION. The commands of the Orbit chain that concern the chain itself (13_orbit_chain.md). -/

namespace Sys2Proof.Machine

/-- ENUM_FRAME (R321). -/
def execEnumFrame (p : OrbPort) (f : Frame) (s : State) : Host.Outcome State Fault Refusal := .next (s.enumFrame p f)

/-- ENUM_ANS_FRAME (R321); a worker relays it. -/
def execEnumAnsFrame (p : OrbPort) (f : Frame) (s : State) : Host.Outcome State Fault Refusal :=
  .next (if s.manager then s.atManager f (fun t => t.enumAns f) else s.atWorker p f id)

/-- ASSIGN_FRAME (R321). -/
def execAssignFrame (p : OrbPort) (f : Frame) (s : State) : Host.Outcome State Fault Refusal :=
  .next (s.castFrame p f (fun t => t.assign f))

/-- ASSIGN_ACK_FRAME (R321); a worker relays it. -/
def execAssignAckFrame (p : OrbPort) (f : Frame) (s : State) : Host.Outcome State Fault Refusal :=
  .next (if s.manager then s.atManager f (fun t => t.assignAck f) else s.atWorker p f id)

/-- CLAIM_TIMEOUT (R321). -/
def execClaimTimeout (s : State) : Host.Outcome State Fault Refusal :=
  .next (s.updOrb (fun o => { o with claimed := false }))

/-- MAP_FRAME (R320). -/
def execMapFrame (p : OrbPort) (f : Frame) (s : State) : Host.Outcome State Fault Refusal := .next (s.mapFrame p f)

/-- MAP_RETURN (R325, R327): the TAG of the frame names its train. -/
def execMapReturn (_p : OrbPort) (f : Frame) (s : State) : Host.Outcome State Fault Refusal := .next (s.mapReturn f)

/-- PROBE_FRAME (R322). -/
def execProbeFrame (p : OrbPort) (f : Frame) (s : State) : Host.Outcome State Fault Refusal :=
  .next (s.atWorker p f (fun t => t.updOrb (fun o => { o with probed := true })))

/-- CTRL_UNWRAP (R327). -/
def execCtrlUnwrap (p : OrbPort) (f : Frame) (s : State) : Host.Outcome State Fault Refusal :=
  .next (s.castFrame p f (fun t => t.unwrap))

/-- CTRL_SET_ARM (R320). -/
def execCtrlSetArm (p : OrbPort) (f : Frame) (s : State) : Host.Outcome State Fault Refusal :=
  .next (s.castFrame p f (fun t => t.put ORB.arm 0))

/-- CTRL_SET_DELAY (R322). -/
def execCtrlSetDelay (p : OrbPort) (f : Frame) (s : State) : Host.Outcome State Fault Refusal :=
  .next (s.castFrame p f (fun t => t.setDelay f))

/-- BEACON_RECEIVED (R319, R325). -/
def execBeaconReceived (p : OrbPort) (sq : PriSeq) (s : State) : Host.Outcome State Fault Refusal :=
  .next (s.beacon p sq)

/-- BEACON_PERIOD (R318). -/
def execBeaconPeriod (s : State) : Host.Outcome State Fault Refusal := .next s.beaconPeriod

/-- BEACON_TIMEOUT (R325). The direction of the lost beacons does not matter to the fold. -/
def execBeaconTimeout (_reverse : Bool) (s : State) : Host.Outcome State Fault Refusal :=
  .next (s.when (s.orbUp && s.manager) (fun t => t.ringBroken))

/-- MARK_RECEIVED (R322): `tenthsNs` is the time since the MARK left, as the manager measures it. -/
def execMarkReceived (p : OrbPort) (tenthsNs : Nat) (s : State) : Host.Outcome State Fault Refusal :=
  .next (s.mark p tenthsNs)

/-- ABORT_RECEIVED (R311). -/
def execAbortReceived (p : OrbPort) (dest : Byte) (s : State) : Host.Outcome State Fault Refusal :=
  .next (s.abortFrame p dest.toNat)

/-- PRIORITY_SEQ_RETURN (R317). -/
def execPrioritySeqReturn (p : OrbPort) (sq : PriSeq) (s : State) : Host.Outcome State Fault Refusal :=
  .next (s.priReturn p sq)

/-- PRIORITY_SEQ_TIMEOUT (R317). -/
def execPrioritySeqTimeout (s : State) : Host.Outcome State Fault Refusal := .next s.priTimeout

/-- RESPONSE_TIMEOUT (R315). -/
def execResponseTimeout (target tag : Byte) (s : State) : Host.Outcome State Fault Refusal :=
  .next (s.respTimeout target.toNat tag.toNat)

/-- PORT_LOSS (R324). -/
def execPortLoss (p : OrbPort) (s : State) : Host.Outcome State Fault Refusal := .next (s.portLoss p)

/-- PORT_RESTORED (R327). -/
def execPortRestored (p : OrbPort) (s : State) : Host.Outcome State Fault Refusal := .next (s.portRestored p)

/-- HEAL_REQUEST (R327): a write of ORB_CTRL.HEAL, which stays set on a folded ring, or every wrapped port in the chain
restored; the heal starts once both HEAL or AUTO_HEAL and the ports allow it. -/
def execHealRequest (write restored : Bool) (s : State) : Host.Outcome State Fault Refusal :=
  let t := s.when write (fun u => u.soft ORB.ctrl State.writeHeal)
  .next (t.when (restored && (t.on ORB.autoHeal || t.on (ORB.ctrlBit 2))) State.askHeal)

/-- HEAL_RESUME (R327). -/
def execHealResume (s : State) : Host.Outcome State Fault Refusal := .next s.healResume

/-- ORB_ENUM (R321). -/
def execOrbEnum (s : State) : Host.Outcome State Fault Refusal := .next (s.soft ORB.ctrl (fun t => t.askEnum false))

/-- ORB_ENUM_RETRY (R321). -/
def execOrbEnumRetry (s : State) : Host.Outcome State Fault Refusal := .next (s.soft ORB.ctrl (fun t => t.askEnum true))

/-- ORB_REMEASURE (R322). -/
def execOrbRemeasure (s : State) : Host.Outcome State Fault Refusal := .next (s.soft ORB.ctrl (fun t => t.askMeasure))

/-- ORB_RELEASE (R326). -/
def execOrbRelease (a : Byte) (s : State) : Host.Outcome State Fault Refusal :=
  .next (s.soft ORB.release (fun t => t.releaseAddr a.toNat))

/-- FRAME_RETURN (R313). -/
def execFrameReturn (p : OrbPort) (f : Frame) (s : State) : Host.Outcome State Fault Refusal := .next (s.frameReturn p f)

end Sys2Proof.Machine
end

