-- ==== Sys2Proof/Machine/OrbitFrames.lean ====
section
/-! DEFINITION. The frames that carry register accesses, operations, images, answers and events (R312 to R315, R387,
R429, R445), the QUENCH sequence (R202, R317) and the JTAG port (R458). -/

namespace Sys2Proof.Machine

/-- What a REG frame does (R266, R312): the status, the first register's number or the count of registers written,
and the registers read. A unit in the safe state carries out only what lies wholly in the FLT block (R281). -/
def State.regAgent (s : State) (f : Frame) : State × Nat × Nat × List Word :=
  let addr := payNat f 1 3
  let count := payNat f 4 2
  if s.safe && !decide (addr / 0x10000 = 1 ∧ (addr + 4 * (count - 1)) / 0x10000 = 1) then (s, stSafeState, 0, [])
  else match payByte f 0 with
    | 1 =>
      let r := s.swWrite addr (BitVec.ofNat 32 (payNat f 6 4))
      (r.1, r.2, 0, [])
    | 2 =>
      let r := s.swRmw addr (BitVec.ofNat 32 (payNat f 6 4)) (BitVec.ofNat 32 (payNat f 10 4))
      (r.1, r.2.2, 0, [r.2.1])
    | 3 =>
      let r := s.swWrites (wordsOf (min count 12) (payNat f 6 48)) addr
      (r.1, r.2.2, r.2.1, [])
    | _ =>
      let r := s.swReads (min count 1024) addr
      (r.1, r.2.2, 0, r.2.1)

/-- Payload of a REG_ANS (R312). -/
def ansPayload (status first : Nat) (ws : List Word) : List Byte :=
  bytesOf 1 status ++ bytesOf 2 first ++ (ws.map (fun w => bytesOf 4 w.toNat)).flatten

/-- The answering frames of a REG frame: up to 15 registers each; the last one carries the status. -/
def State.regAnswers : Nat → State → Nat → Nat → Nat → List Word → State
  | 0, s, _, _, _, _ => s
  | n + 1, s, tag, status, first, ws =>
    if ws.length ≤ 15 then s.ownFrame 0x02 tag (ansPayload status first ws)
    else State.regAnswers n (s.ownFrame 0x02 tag (ansPayload stOk first (ws.take 15))) tag status (first + 15)
      (ws.drop 15)

/-- A REG frame for this worker (R314). -/
def State.regFrame (s : State) (f : Frame) : State :=
  let r := s.regAgent f
  State.regAnswers 69 r.1 f.tag.toNat r.2.1 r.2.2.1 r.2.2.2

/-- The payload of a BCAST frame with what this unit did added (R312, R317). -/
def castMarked (f : Frame) (status : Nat) : List Byte :=
  let b (n : Nat) : Byte := f.payload.getD n 0
  f.payload.take 12 ++ [
    if status = stOk then b 12 + 1 else b 12,
    if status = stOk then b 13 else b 13 + 1,
    if status ≠ stOk ∧ b 13 = 0 then BitVec.ofNat 8 status else b 14]

/-- A BCAST frame at a worker (R267, R313): applied and marked on the outbound path, relayed on the return path. -/
def State.castWorker (s : State) (p : OrbPort) (f : Frame) : State :=
  if !s.workerHears p then s
  else if p = s.outboundIn ∧ f.dest = 0xFF then
    if frameGood f then
      let r := s.castHere (payByte f 0) (payNat f 1 3) (BitVec.ofNat 32 (payNat f 4 4)) (BitVec.ofNat 32 (payNat f 8 4))
      r.1.relayFrame p (withPayload f (castMarked f r.2))
    else s.discardFrame.relayFrame p f
  else s.relayFrame p f

/-- The descriptor that an OP frame carries: TYPE, and bytes 8 to 62 (R312). -/
def frameDesc (f : Frame) : Desc := BitVec.ofNat 512 (payByte f 0 + 2 ^ 64 * payNat f 1 55)

/-- The WRITE that an image data frame belongs to. -/
def State.loadFor (s : State) (tag : Nat) : Option FwLoad :=
  s.core.loads.find? (fun l => decide (l.owner = .orbit tag) && !l.activate)

def State.updLoad (s : State) (tag : Nat) (l : FwLoad) : State :=
  s.updCore (fun c => { c with loads := c.loads.map (fun x => if x.owner = .orbit tag then l else x) })

/-- An image data frame (R429): taken at the expected OFFSET, and acknowledged after every 64 frames and when the
image is complete. -/
def State.imageData (s : State) (f : Frame) : State :=
  let tag := f.tag.toNat
  let data := f.payload.drop 5
  match s.loadFor tag with
  | some l =>
    if payByte f 0 = 0x0F ∧ payByte f 1 = 2 ∧ payNat f 2 3 = l.image.length ∧ 0 < data.length ∧ data.length ≤ 48
        ∧ l.image.length + data.length ≤ l.length then
      let image := l.image ++ data
      let ack := decide (l.frames = 63 ∨ image.length = l.length)
      let t := s.updLoad tag { l with image := image, frames := if ack then 0 else l.frames + 1 }
      if ack then t.ownFrame 0x05 tag (bytesOf 1 stOk ++ bytesOf 3 image.length) else t
    else s
  | none => s

/-- Up to 64 image data frames go out from the last OFFSET that the worker has acknowledged (R429). -/
def State.sendImage (s : State) (r : OrbReq) : State :=
  s.each ((List.range 64).filter (fun k => decide (r.next + 48 * k < r.image.length))) (fun k t =>
    let o := r.next + 48 * k
    t.mgrFrame (t.portTo r.target) r.target 0x04 r.tag
      (bytesOf 1 0x0F ++ bytesOf 1 2 ++ bytesOf 3 o ++ (r.image.drop o).take 48))

/-- No OP_ACCEPT has come for image data within ORB_RESPTO (R429): every WRITE whose image is not through goes on from its
NEXT. -/
def State.resendImage (s : State) : State :=
  if s.orbUp && s.manager then
    s.each (s.orbit.reqs.filter (fun r => r.accepted && decide (r.next < r.image.length))) (fun r t => t.sendImage r)
  else s

/-- A REG_ANS at the manager (R266, R270, R312). -/
def State.regAns (s : State) (r : OrbReq) (f : Frame) : State :=
  let status := payByte f 0
  let first := payNat f 1 2
  let data := wordsOf ((f.payload.length - 3) / 4) (payNat f 3 60)
  match s.flight r.q r.idx with
  | none => s
  | some x =>
    match dType x.desc with
    | 0x01 => s.endReq r status (((data.headD 0).toNat) + 2 ^ 32 * ((data.drop 1).headD 0).toNat)
    | 0x03 => s.endReq r status (data.headD 0).toNat
    | 0x04 => s.endReq r status (first % 256)
    | 0x05 =>
      let s := if data.isEmpty then s else s.postWrite (dField x.desc 16 8 + 4 * first) data
      let got := r.got + data.length
      if status ≠ stOk ∨ dField x.desc 12 2 ≤ got then s.endReq r status got
      else s.updReq r.target r.tag (fun y => { y with got := got })
    | _ => s.endReq r status 0

/-- An OP_ACCEPT at the manager (R315, R429): a refusal completes the request; otherwise the operation is under way,
and the image goes on from NEXT. -/
def State.opAccept (s : State) (r : OrbReq) (f : Frame) : State :=
  if payByte f 0 ≠ stOk then s.endReq r (payByte f 0) 0
  else
    let r' : OrbReq := { r with
      accepted := true, next := if 4 ≤ f.payload.length then payNat f 1 3 else r.next }
    (s.updReq r.target r.tag (fun _ => r')).sendImage r'

/-- An OP_DONE at the manager (R270, R314, R387): a result record is written to host memory, and the request
completes with the last one. -/
def State.opDoneAns (s : State) (r : OrbReq) (f : Frame) : State :=
  let status := payByte f 0
  let result := payNat f 1 16
  match s.flight r.q r.idx with
  | none => s
  | some x =>
    if dType x.desc = 0x0B ∧ f.payload.length = 41 then
      let k := payByte f 20
      let s := s.recordWrite (dField x.desc 8 8 + 32 * k) (payNat f 17 24) (recordTag r.idx r.q k)
      if dField x.desc 16 1 ≤ k + 1 then s.endReq r status result else s
    else s.endReq r status result

/-- An answer to a request (R312). -/
def State.answerTo (s : State) (r : OrbReq) (f : Frame) : State :=
  match f.ftype.toNat with
  | 0x02 => s.regAns r f
  | 0x05 => s.opAccept r f
  | 0x06 => s.opDoneAns r f
  | _ => s

/-- The request that timed out in the present cycle, whose descriptor has not completed since (R330). -/
def State.lapsedNow (s : State) (target tag : Nat) : Option OrbReq :=
  (s.orbit.lapsed.find? (fun x => decide (x.1 = s.clock ∧ x.2.target = target ∧ x.2.tag = tag)
    && (s.flight x.2.q x.2.idx).isSome)).map (fun x => x.2)

/-- It is as if the timeout had not come: the descriptor completes with the answer (R330). -/
def State.revive (s : State) (r : OrbReq) : State :=
  (s.updOrb (fun o => { o with
    reqs := o.reqs ++ [r], lapsed := o.lapsed.filter (fun x => decide (x.2 ≠ r)) })).updFlight r.q r.idx (fun x =>
      { x with stage := .started, status := 0, result := 0, src := 0 })

/-- An answer at the manager (R315): one whose request has completed is discarded and counted, but for one in the cycle of its
timeout (R330). -/
def State.answerFrame (s : State) (f : Frame) : State :=
  match s.reqOf f.src.toNat f.tag.toNat, s.lapsedNow f.src.toNat f.tag.toNat with
  | some r, _ => s.answerTo r f
  | none, some r => (s.revive r).answerTo r f
  | none, none => s.count ORB.frameErr

/-- A QUENCH sequence at a worker (R202, R317), in DEEP too (R205): it acts on the outbound path alone (R320), and has no
RSTAT. -/
def State.quenchSeq (s : State) (p : OrbPort) (q : PriSeq) : State :=
  if s.workerHears p then
    let s := s.notePri q
    let opn := (q.data.getD 1 0).toNat
    let lo := ofBytes ((q.data.drop 2).take 2)
    if priGood 0 q && decide (p = s.outboundIn) && s.named (q.data.getD 0 0).toNat then
      let r := s.applyQuench (opn % 4) lo (opn / 16) lo (ofBytes ((q.data.drop 4).take 2))
      r.1.relayPri p 0 (if r.2 then { q with applied := q.applied + 1 } else { q with refused := q.refused + 1 })
    else s.relayPri p 0 q
  else s

/-- The identification register of R458. -/
def idcode : Word :=
  BitVec.ofNat 32 (Config.step.toNat * 2 ^ 28 + 0x6434 * 2 ^ 12 + 0x37B * 2 + 1)

/-- A JTAG instruction (R458): those that drive pins take them only while every port group is disabled, and act as
BYPASS otherwise. The port is active where VDDC is up (R415, R420). A unit whose pins are taken is off the Orbit chain, and
its PCIe link is lost (R246, R248). -/
def State.jtagLoad (s : State) (i : JtagInstr) : State :=
  if !s.fileUp then s
  else
    let t := { s with jtag := if drivesPins i && !(List.range 4).all (fun g => !s.on (GLB.en g)) then .bypass else i }
    let t := (t.when (decide (i = .idcode)) (fun u => u.emit (.idcode Machine.idcode))).when (s.jtagPins && !t.jtagPins)
      State.pinLevels
    t.when (t.jtagPins && !s.jtagPins && t.manager && t.on RNG.dlUp) (fun u => (u.pcieError 5).mgmtReset 2)

/-- REG_FRAME (R314): at its worker; another relays it. -/
def execRegFrame (p : OrbPort) (f : Frame) (s : State) : Host.Outcome State Fault Refusal :=
  .next (s.atWorker p f (fun t => t.regFrame f))

/-- BCAST_FRAME (R313). -/
def execBcastFrame (p : OrbPort) (f : Frame) (s : State) : Host.Outcome State Fault Refusal := .next (s.castWorker p f)

/-- OP_FRAME (R314). -/
def execOpFrame (p : OrbPort) (f : Frame) (s : State) : Host.Outcome State Fault Refusal :=
  .next (s.atWorker p f (fun t => t.opFrame f.tag.toNat (frameDesc f)))

/-- IMAGE_DATA_FRAME (R429). -/
def execImageDataFrame (p : OrbPort) (f : Frame) (s : State) : Host.Outcome State Fault Refusal :=
  .next (s.atWorker p f (fun t => t.imageData f))

/-- FW_DATA_RESEND (R429). -/
def execFwDataResend (s : State) : Host.Outcome State Fault Refusal := .next s.resendImage

/-- ANSWER_FRAME (R315); a worker relays it. -/
def execAnswerFrame (p : OrbPort) (f : Frame) (s : State) : Host.Outcome State Fault Refusal :=
  .next (if s.manager then s.atManager f (fun t => t.answerFrame f) else s.atWorker p f id)

/-- EVENT_FRAME (R445); a worker relays it. -/
def execEventFrame (p : OrbPort) (f : Frame) (s : State) : Host.Outcome State Fault Refusal :=
  .next (if s.manager then
    s.atManager f (fun t => t.eventEntry (payNat f 0 4) (payNat f 4 3) f.src.toNat (payNat f 7 4))
  else s.atWorker p f id)

/-- QUENCH_SEQ_RECEIVED (R202). -/
def execQuenchSeqReceived (p : OrbPort) (sq : PriSeq) (s : State) : Host.Outcome State Fault Refusal :=
  .next (s.quenchSeq p sq)

/-- JTAG_INSTRUCTION (R458). -/
def execJtagInstruction (i : JtagInstr) (s : State) : Host.Outcome State Fault Refusal := .next (s.jtagLoad i)

end Sys2Proof.Machine
end

