-- ==== Sys2Proof/Machine/RetryOut.lean ====
section
/-! DEFINITION. Flits as they leave (R131 to R136, R155 to R161, R195 to R197), and what arrives over the
cross-engine control path (R156, R157). -/

namespace Sys2Proof.Machine

/-- A SACK from the outgoing partner (R156, R170): the slots it covers are released. -/
def State.takeSack (s : State) (e g n : Nat) : State :=
  if seqFrom n (s.get (DIR.txNext e g)) then s.raise (DIR.event e) 23
  else if seqAfter n (s.get (DIR.sackIn e g)) then
    let s := s.updEng e g (fun x => { x with
      slots := x.slots.map (fun y => if seqAfter y.seq n then y else { y with released := true }) })
    (s.put (DIR.sackIn e g) n).drainCheck e g
  else s

/-- The SEQs that a SNAK names (R157). A go-back SNAK whose FIRST lies after TX_NEXT names none (DESIGN CHOICE, log entry 38). -/
def snakRange (tx first count : Nat) (goBack : Bool) : List Nat :=
  (List.range (if goBack then (if seqAfter tx first then sub12 tx first else 0) else count)).map
    (fun i => (first + i) % 4096)

/-- The lowest of some SEQs, of which the first is given. -/
def lowestSeq (a : Nat) (l : List Nat) : Nat := l.foldl (fun m q => if seqAfter m q then q else m) a

/-- A SNAK from the outgoing partner (R157). -/
def State.takeSnak (s : State) (e g first count : Nat) (goBack : Bool) : State :=
  let tx := s.get (DIR.txNext e g)
  let range := (snakRange tx first count goBack).filter (fun q => seqAfter q (s.get (DIR.sackIn e g)))
  let overtaken := decide (s.get (DIR.inState e g) = inAbandoned) && (match (s.eng e g).outAbandon with
    | some f => seqFrom first f
    | none => false)
  match range with
  | [] => s
  | r :: _ =>
    if overtaken then s
    else if range.any (fun q => seqFrom q tx) then (s.count (DIR.snakBad e g)).raise (DIR.event e) 7
    else if 8 ≤ (s.eng e g).queue.length then
      s.abandonAt e g (lowestSeq r ((s.eng e g).queue.map (fun x => x.1))) 5
    else
      ((s.updEng e g (fun x => { x with queue := x.queue ++ [(r, range.length)] })).noteRetry e g).count
        (DIR.snakIn e g)

/-- The oldest message on the cross-engine path is taken off. -/
def State.popX (s : State) (e g : Nat) : State := s.updEng e g (fun x => { x with xpath := x.xpath.drop 1 })

/-- Whether a flit leaves as POISON under R195. -/
def State.quenchedFlit (s : State) (h : Held) : Bool :=
  decide (flitType h.flit = 1) && (h.pids.any (fun p => s.pidQuenched p) || (h.unknown && s.anyQuench))

/-- The tag of a sequenced flit as it leaves (R133, R134, R136). `mine` tells that the Thepin has rewritten
it as POISON. -/
def State.tagged (s : State) (e g : Nat) (f : Flit) (mine : Bool) : Flit × Bool :=
  if (s.eng e g).tagMode = 0 then
    (if mine then { setHdr f 58 1 0 with tag := 0 } else f, false)
  else
    let slot := s.get (DIR.txSlot e g)
    let k := s.key (keyIdx (outSide e) slot g)
    let x := s.eng e g
    let laps := if s.get (DIR.txNext e g) < flitSeq f then x.txLaps - 1 else x.txLaps
    if k.valid then
      let f := setHdr (setHdr f 58 1 1) 59 1 slot
      ({ f with tag := flitTag k.key f g 0 (boolNat mine) k.epoch (extSeq laps (flitSeq f)) }, false)
    else ({ setHdr f 58 1 0 with tag := 0 }, true)

/-- Step 4 of R132, or a stomped CRC where the datapath's parity failed (R131). -/
def State.sendFlit (s : State) (e g : Nat) (f : Flit) (parityError : Bool) : State :=
  if parityError then
    (((s.flitOut e g (stomped f)).count (DIR.stomp e g)).causeOn (136 + 12 * e))
  else s.flitOut e g (withCrc f)

/-- Slots sent to a partner since the last SACK (R152), kept by the engine that the partner feeds. -/
def State.countSlot (s : State) (e g : Nat) (carriesSack : Bool) : State :=
  if (s.eng (1 - e) g).accepted then
    s.updEng (1 - e) g (fun x => { x with sackSlots := if carriesSack then 0 else x.sackSlots + 1 })
  else s

/-- A SLACK flit leaves (R140, R160). -/
def State.sendSlack (s : State) (e g : Nat) : State :=
  (((s.flitOut e g slackFlit).count (DIR.slackIns e g)).updEng e g
    (fun x => { x with slackRun := 0 })).countSlot e g false

/-- A slot without SLACK. -/
def State.noSlack (s : State) (e g : Nat) : State :=
  (s.updEng e g (fun x => { x with slackRun := x.slackRun + 1 })).countSlot e g (s.segAck e g).isSome

/-- A flit queued for insertion leaves (R160 item 2). A SNAK names the peer engine's RX_NEXT as it leaves. -/
def State.sendIns (s : State) (e g : Nat) (i : Ins) (parityError : Bool) : State :=
  let f := match i with
    | .snak => s.ownFlit e g 6 (snakWord (s.get (DIR.rxNext (1 - e) g)) 0 true)
    | .pureSack => s.ownFlit e g 6 (snakWord 0 0 false)
    | .abandon first reason origin => s.ownFlit e g 7 (abandonWord first reason origin)
    | .lanemap w => s.ownFlit e g 5 w.toNat
  ((s.updEng e g (fun x => { x with ins := x.ins.erase i })).sendFlit e g f parityError).noSlack e g

/-- A flit as it leaves, before its CRC (R132, steps 1 to 3): the flit, whether R195 made it POISON, and whether
a needed key slot was invalid. -/
def State.regenerate (s : State) (e g : Nat) (h : Held) (poisoned : Bool) : Flit × Bool × Bool :=
  let q := s.quenchedFlit h
  let mine := q || h.tagBad || poisoned
  let f := withSack h.flit (s.segAck e g)
  let f := if mine && !poisoned then poisonOf f else f
  if sequenced f then
    let t := s.tagged e g f mine
    (t.1, q, t.2)
  else (f, q, false)

/-- Transactions of a flit that is rewritten although their PID is not quenched (R198). -/
def State.collateral (s : State) (h : Held) : Nat :=
  if h.pids.any (fun p => s.pidQuenched p) then (h.pids.filter (fun p => !s.pidQuenched p)).length else 0

/-- A slot is written; the slot that it reuses evicts its flit if that is still held (R155). -/
def State.writeSlot (s : State) (e g : Nat) (x : Slot) : State :=
  let l := (s.eng e g).slots
  let full := decide (s.replayCap e g ≤ l.length)
  let evicts := full && (match l with
    | y :: _ => y.held?
    | [] => false)
  let s := s.updEng e g (fun z => { z with slots := (if full then z.slots.drop 1 else z.slots) ++ [x] })
  if evicts then ((s.count (DIR.evict e g)).raise (DIR.event e) 14).drainCheck e g else s

/-- TX_NEXT advances past a SEQ sent for the first time. -/
def State.advanceTx (s : State) (e g seq : Nat) : State :=
  (s.put (DIR.txNext e g) (seq + 1)).updEng e g (fun x => { x with
    txLaps := if seq = 4095 then x.txLaps + 1 else x.txLaps })

/-- A forwarded flit leaves for the first time (R132, R155, R195, R210). -/
def State.sendNew (s : State) (e g : Nat) (h : Held) (parityError : Bool) : State :=
  let r := s.regenerate e g h false
  let s := if r.2.2 then s.raise (DIR.event e) 5 else s
  let s := if r.2.1 then (s.count (DIR.qpoison e g)).countBy (DIR.qcoll e g) (s.collateral h) else s
  let s := if sequenced h.flit then
      (s.advanceTx e g (flitSeq h.flit)).writeSlot e g
        { held := { h with flit := r.1 }, seq := flitSeq h.flit, count := 0, valid := true, released := false,
          poisoned := r.2.1 || h.tagBad }
    else s
  ((s.sendFlit e g r.1 parityError).noSlack e g).lpForward e g h.flit

/-- The valid slot that holds a SEQ. -/
def State.slotFor (s : State) (e g q : Nat) : Option Slot :=
  (s.eng e g).slots.find? (fun x => x.valid && decide (x.seq = q))

/-- The slot of a SEQ of the replay in progress. A replay that has passed its checks runs to completion, also where DRAIN_FORCE
has invalidated its slots since (R158, R208). -/
def State.replaySlot (s : State) (e g q : Nat) : Option Slot :=
  (s.eng e g).slots.reverse.find? (fun x => decide (x.seq = q))

/-- A copy of a held flit leaves (R158, R197): a slot once sent as POISON keeps that content. -/
def State.sendCopy (s : State) (e g : Nat) (x : Slot) (parityError : Bool) : State :=
  let r := s.regenerate e g x.held x.poisoned
  let s := if r.2.2 then s.raise (DIR.event e) 5 else s
  let first := r.2.1 && !x.poisoned
  let s := if first then (s.count (DIR.qpoison e g)).countBy (DIR.qcoll e g) (s.collateral x.held) else s
  let s := if r.2.1 || x.poisoned then s.count (DIR.qrpl e g) else s
  let s := s.updEng e g (fun z => { z with
    replay := z.replay.drop 1,
    slots := z.slots.map (fun y => if y.valid && decide (y.seq = x.seq) then
        { y with held := { y.held with flit := r.1 }, poisoned := y.poisoned || r.2.1 }
      else y) })
  ((s.noteRetry e g).sendFlit e g r.1 parityError).noSlack e g

/-- The flit time of R147 in picoseconds, as a fraction. -/
def flitTime (rate w : Nat) : Nat × Nat :=
  if rate = 0 then (20480, w) else if rate = 1 then (10240, w) else (54400, 7 * w)

/-- Slot, counted from now, of the k-th flit that is not an owed SLACK flit (R158). -/
def slotOfNth (n run k : Nat) : Nat := k + (run + k) / (n - 1)

/-- A flit that leaves in a slot `j` from now does so within 1,000 ns of its arrival (R18, R158). -/
def inBound (leave j arrive : Nat) (t : Nat × Nat) : Bool :=
  decide (leave * t.2 + j * t.1 ≤ (arrive + 1000000) * t.2)

/-- The check of the range at the head of the replay queue (R158): the abandon reason of the first check that
fails, or 0. -/
def State.replayCheck (s : State) (e g leave first len : Nat) : Nat :=
  let x := s.eng e g
  let seqs := (List.range len).map (fun i => (first + i) % 4096)
  let found := seqs.filterMap (fun q => s.slotFor e g q)
  let n := s.slackN g (outSide e)
  let t := flitTime (s.get (GLB.rate g)) (s.lanes g (outSide e) 0).length
  let arrivals := found.map (fun y => y.held.arrive) ++ x.defer.map (fun h => h.arrive)
  if found.length < len then 4
  else if found.any (fun y => decide (3 ≤ y.count)) then 2
  else if !((List.range arrivals.length).all (fun k =>
      inBound leave (slotOfNth n x.slackRun k) (arrivals.getD k 0) t)) then 1
  else if s.deferCap e g < x.defer.length + len + (x.slackRun + len - 1) / (n - 1) then 3
  else 0

/-- The range at the head of the replay queue is taken: its replay starts, or it leads to an abandon (R158). -/
def State.takeRange (s : State) (e g leave : Nat) : State :=
  match (s.eng e g).queue with
  | (first, len) :: _ =>
    let why := s.replayCheck e g leave first len
    let s := s.updEng e g (fun x => { x with queue := x.queue.drop 1 })
    if why ≠ 0 then s.abandonAt e g first why
    else
      let seqs := (List.range len).map (fun i => (first + i) % 4096)
      let s := s.updEng e g (fun x => { x with
        replay := seqs,
        slots := x.slots.map (fun y => if y.valid && decide (y.seq ∈ seqs) then { y with count := y.count + 1 } else y) })
      (((s.noteRetry e g).countBy (DIR.rplFlits e g) len).count (DIR.rplEvents e g)).raise (DIR.event e) 9
  | [] => s

/-- The oldest deferred flit leaves; one that was there at the drain mark brings the port nearer to drained
(R206). -/
def State.sendDeferred (s : State) (e g : Nat) (parityError : Bool) : State :=
  match (s.eng e g).defer with
  | h :: _ =>
    let s := (s.updEng e g (fun x => { x with defer := x.defer.drop 1 })).noteRetry e g
    let s := (s.deferFresh e g).sendNew e g h parityError
    if s.on (DIR.deferLeft e g) then (s.put (DIR.deferLeft e g) (s.get (DIR.deferLeft e g) - 1)).drainCheck e g else s
  | [] => s

/-- Items 4 to 6 of R160. -/
def State.slotRest (s : State) (e g : Nat) (parityError : Bool) : State :=
  let x := s.eng e g
  if !x.defer.isEmpty then s.sendDeferred e g parityError
  else match x.fresh with
    | some h => (s.updEng e g (fun y => { y with fresh := none })).sendNew e g h parityError
    | none => s.sendSlack e g

/-- The flits queued for insertion that can leave: a SNAK waits while the port lacks codeword lock on the segment that it asks for a
replay (R122). -/
def State.insReady (s : State) (e g : Nat) : List Ins :=
  (s.eng e g).ins.filter (fun i => decide (i ≠ .snak) || s.on (DIR.cwLock (1 - e) g))

/-- What an F-mode port sends in a slot that owes no SLACK: items 2 to 6 of R160 behind the replay in progress. -/
def State.slotGo (s : State) (e g : Nat) (parityError : Bool) : State :=
  match (s.eng e g).replay, s.insReady e g with
  | q :: _, _ =>
    match s.replaySlot e g q with
    | some y => (s.sendCopy e g y parityError).deferFresh e g
    | none => ((s.updEng e g (fun z => { z with replay := z.replay.drop 1 })).noteRetry e g).slotRest e g parityError
  | [], i :: _ => (s.sendIns e g i parityError).deferFresh e g
  | [], [] => s.slotRest e g parityError

/-- A slot of an F-mode port after item 1 of R160: a range that waits is taken up first where no replay and no insertion is ahead. -/
def State.slotF (s : State) (e g leave : Nat) (parityError : Bool) : State :=
  (if (s.eng e g).replay.isEmpty && (s.insReady e g).isEmpty then s.takeRange e g leave else s).slotGo e g parityError

/-- An owed SLACK flit falls in this slot (R140, R160 item 1). -/
def State.slackOwed (s : State) (e g : Nat) : Bool :=
  decide (s.slackN g (outSide e) ≤ (s.eng e g).slackRun + 1)

/-- A flit slot of an engine's outgoing segment (R122, R160): without codeword lock on the incoming segment the
engine sends SLACK flits, but not in the low-power states (R401). -/
def State.flitSlot (s : State) (e g leave : Nat) (parityError : Bool) : State :=
  if s.cfl g && s.bothUp g && decide (s.pers g ≠ 0) then
    if !s.on (DIR.cwLock e g) then (if s.inLowPower g then s else s.sendSlack e g)
    else if s.pers g = 2 then
      (if s.slackOwed e g then (s.sendSlack e g).deferFresh e g else s.slotF e g leave parityError)
    else s
  else s

/-- CROSS_ENGINE_SACK (R156). -/
def execCrossEngineSack (e : Eng) (g : Port) (s : State) : Host.Outcome State Fault Refusal :=
  match (s.eng e.idx g).xpath with
  | .sack n :: _ => .next ((s.popX e.idx g).takeSack e.idx g n)
  | _ => .next s

/-- CROSS_ENGINE_SNAK (R157). -/
def execCrossEngineSnak (e : Eng) (g : Port) (s : State) : Host.Outcome State Fault Refusal :=
  match (s.eng e.idx g).xpath with
  | .snak first count goBack :: _ => .next ((s.popX e.idx g).takeSnak e.idx g first count goBack)
  | _ => .next s

/-- FLIT_SLOT (R160). `leavePs` is the projected instant of the slot's first UI at the ball. -/
def execFlitSlot (e : Eng) (g : Port) (leavePs : Nat) (parityError : Bool) (s : State) :
    Host.Outcome State Fault Refusal :=
  .next (s.flitSlot e.idx g leavePs parityError)

end Sys2Proof.Machine
end

