-- ==== Sys2Proof/Machine/Dispatch.lean ====
section
/-! DEFINITION. The meaning of every command: one arm for each constructor of `Instr`, each a direct
call of that command's own definition. -/

namespace Sys2Proof.Machine

/-- The effect of a command on everything but the queue. -/
def exec (i : Instr) (s : State) : Host.Outcome State Fault Refusal :=
  match i with
  | .coldReset => Sys2Proof.Machine.execColdReset s
  | .vstbyApplied => Sys2Proof.Machine.execVstbyApplied s
  | .resetNRise pgs => Sys2Proof.Machine.execResetNRise pgs s
  | .powerLoss => Sys2Proof.Machine.execPowerLoss s
  | .regulatorStageReady straps => Sys2Proof.Machine.execRegulatorStageReady straps s
  | .oscillatorStageReady => Sys2Proof.Machine.execOscillatorStageReady s
  | .memoryStageDone rows => Sys2Proof.Machine.execMemoryStageDone rows s
  | .logicStageDone => Sys2Proof.Machine.execLogicStageDone s
  | .powerupPgTimeout => Sys2Proof.Machine.execPowerupPgTimeout s
  | .powerupRetry => Sys2Proof.Machine.execPowerupRetry s
  | .stageWaitExceeded => Sys2Proof.Machine.execStageWaitExceeded s
  | .firmwareReady version => Sys2Proof.Machine.execFirmwareReady version s
  | .fwTrialTimeout => Sys2Proof.Machine.execFwTrialTimeout s
  | .cfgRecordApply r => Sys2Proof.Machine.execCfgRecordApply r s
  | .cfgRecordWaitExpiry => Sys2Proof.Machine.execCfgRecordWaitExpiry s
  | .mresetNAssert mid => Sys2Proof.Machine.execMresetNAssert mid s
  | .glbMreset mid => Sys2Proof.Machine.execGlbMreset mid s
  | .engReset ab ba => Sys2Proof.Machine.execEngReset ab ba s
  | .engineRelease => Sys2Proof.Machine.execEngineRelease s
  | .laneEndResetHold side pos => Sys2Proof.Machine.execLaneEndResetHold side pos s
  | .laneEndResetRelease side pos => Sys2Proof.Machine.execLaneEndResetRelease side pos s
  | .idleEntry => Sys2Proof.Machine.execIdleEntry s
  | .idleExit => Sys2Proof.Machine.execIdleExit s
  | .targetWrite target => Sys2Proof.Machine.execTargetWrite target s
  | .entryDwellExpiry => Sys2Proof.Machine.execEntryDwellExpiry s
  | .entryStepDone => Sys2Proof.Machine.execEntryStepDone s
  | .entryRailsDone => Sys2Proof.Machine.execEntryRailsDone s
  | .linkWake groups => Sys2Proof.Machine.execLinkWake groups s
  | .laneWake side pos comet => Sys2Proof.Machine.execLaneWake side pos comet s
  | .wakeNLow => Sys2Proof.Machine.execWakeNLow s
  | .pcieWake => Sys2Proof.Machine.execPcieWake s
  | .tempWake => Sys2Proof.Machine.execTempWake s
  | .orbitFrameWake => Sys2Proof.Machine.execOrbitFrameWake s
  | .lpwrFlit e g f => Sys2Proof.Machine.execLpwrFlit e g f s
  | .lpAgreeTimeout g => Sys2Proof.Machine.execLpAgreeTimeout g s
  | .lpQuiet g => Sys2Proof.Machine.execLpQuiet g s
  | .lpWakeTimeout g => Sys2Proof.Machine.execLpWakeTimeout g s
  | .laneEndActivate fn side pos => Sys2Proof.Machine.execLaneEndActivate fn side pos s
  | .laneEndActive fn side pos => Sys2Proof.Machine.execLaneEndActive fn side pos s
  | .dvfsRequest point => Sys2Proof.Machine.execDvfsRequest point s
  | .vreadySample high => Sys2Proof.Machine.execVreadySample high s
  | .dvfsClockRaise => Sys2Proof.Machine.execDvfsClockRaise s
  | .vidTimeout => Sys2Proof.Machine.execVidTimeout s
  | .losAssert side pos mvpp us => Sys2Proof.Machine.execLosAssert side pos mvpp us s
  | .losClear side pos mvpp us => Sys2Proof.Machine.execLosClear side pos mvpp us s
  | .cometDetect side pos => Sys2Proof.Machine.execCometDetect side pos s
  | .cdrLock side pos ppm100 => Sys2Proof.Machine.execCdrLock side pos ppm100 s
  | .cdrUnlock side pos ppm100 => Sys2Proof.Machine.execCdrUnlock side pos ppm100 s
  | .adaptUpdate side pos u => Sys2Proof.Machine.execAdaptUpdate side pos u s
  | .coefWrite side pos r v => Sys2Proof.Machine.execCoefWrite side pos r v s
  | .detModeSwitch side pos => Sys2Proof.Machine.execDetModeSwitch side pos s
  | .starveWindowEnd side pos minCount transitions => Sys2Proof.Machine.execStarveWindowEnd side pos minCount transitions s
  | .rxFifoSlip side pos => Sys2Proof.Machine.execRxFifoSlip side pos s
  | .histogramRunStart side pos => Sys2Proof.Machine.execHistogramRunStart side pos s
  | .histogramRunDone side pos r => Sys2Proof.Machine.execHistogramRunDone side pos r s
  | .counterLowRead addr => Sys2Proof.Machine.execCounterLowRead addr s
  | .shadowCompareDone side pos sumEighths over3 => Sys2Proof.Machine.execShadowCompareDone side pos sumEighths over3 s
  | .swapWindow side pos phase syms => Sys2Proof.Machine.execSwapWindow side pos phase syms s
  | .sliceSettled side pos => Sys2Proof.Machine.execSliceSettled side pos s
  | .commit side pos => Sys2Proof.Machine.execCommit side pos s
  | .commitApply side pos => Sys2Proof.Machine.execCommitApply side pos s
  | .cellReplace side pos => Sys2Proof.Machine.execCellReplace side pos s
  | .rotatorLimit side pos negative => Sys2Proof.Machine.execRotatorLimit side pos negative s
  | .txFifoSlip side pos => Sys2Proof.Machine.execTxFifoSlip side pos s
  | .pllHoldoverEntry e => Sys2Proof.Machine.execPllHoldoverEntry e s
  | .timingFailover e => Sys2Proof.Machine.execTimingFailover e s
  | .pllLockDone e => Sys2Proof.Machine.execPllLockDone e s
  | .timingRevert e entry => Sys2Proof.Machine.execTimingRevert e entry s
  | .timingListWrite e half v => Sys2Proof.Machine.execTimingListWrite e half v s
  | .timingModeWrite e reference => Sys2Proof.Machine.execTimingModeWrite e reference s
  | .refclkLoss => Sys2Proof.Machine.execRefclkLoss s
  | .refclkReturn => Sys2Proof.Machine.execRefclkReturn s
  | .freqRange e g => Sys2Proof.Machine.execFreqRange e g s
  | .portGroupEnable g => Sys2Proof.Machine.execPortGroupEnable g s
  | .portGroupDisable g => Sys2Proof.Machine.execPortGroupDisable g s
  | .pgcfgWrite g v => Sys2Proof.Machine.execPgcfgWrite g v s
  | .rplcfgWrite e v => Sys2Proof.Machine.execRplcfgWrite e v s
  | .lmapWrite g side v => Sys2Proof.Machine.execLmapWrite g side v s
  | .anPage g k side page base last => Sys2Proof.Machine.execAnPage g k side page base last s
  | .anBreakLinkExpiry g k side => Sys2Proof.Machine.execAnBreakLinkExpiry g k side s
  | .trainingFrame g k side pos o => Sys2Proof.Machine.execTrainingFrame g k side pos o s
  | .widthWaitExpiry g side => Sys2Proof.Machine.execWidthWaitExpiry g side s
  | .coefRequest side pos r => Sys2Proof.Machine.execCoefRequest side pos r s
  | .coefStatus side pos st bins => Sys2Proof.Machine.execCoefStatus side pos st bins s
  | .eqTimeout g k side => Sys2Proof.Machine.execEqTimeout g k side s
  | .alignTimeout g side => Sys2Proof.Machine.execAlignTimeout g side s
  | .backoffExpiry g k side => Sys2Proof.Machine.execBackoffExpiry g k side s
  | .fecLockTimeout g k side => Sys2Proof.Machine.execFecLockTimeout g k side s
  | .segmentRestart g a b => Sys2Proof.Machine.execSegmentRestart g a b s
  | .segmentLosTimeout g k side => Sys2Proof.Machine.execSegmentLosTimeout g k side s
  | .ethLaneLossTimeout g k side => Sys2Proof.Machine.execEthLaneLossTimeout g k side s
  | .markerLossTimeout g k side => Sys2Proof.Machine.execMarkerLossTimeout g k side s
  | .fillToDataSwitch g k side => Sys2Proof.Machine.execFillToDataSwitch g k side s
  | .laneTrainingDone side pos => Sys2Proof.Machine.execLaneTrainingDone side pos s
  | .laneTrainingTimeout side pos => Sys2Proof.Machine.execLaneTrainingTimeout side pos s
  | .shadowCopyStart side pos => Sys2Proof.Machine.execShadowCopyStart side pos s
  | .markerCheck side pos m => Sys2Proof.Machine.execMarkerCheck side pos m s
  | .codewordReceived e g k errors marked msg => Sys2Proof.Machine.execCodewordReceived e g k errors marked msg s
  | .flitReceived e g f correctable arrivePs => Sys2Proof.Machine.execFlitReceived e g f correctable arrivePs s
  | .nakTimerExpiry e g => Sys2Proof.Machine.execNakTimerExpiry e g s
  | .pureSackDue e g => Sys2Proof.Machine.execPureSackDue e g s
  | .crossEngineSack e g => Sys2Proof.Machine.execCrossEngineSack e g s
  | .crossEngineSnak e g => Sys2Proof.Machine.execCrossEngineSnak e g s
  | .flitSlot e g leavePs parityError => Sys2Proof.Machine.execFlitSlot e g leavePs parityError s
  | .lanemapPropose g side => Sys2Proof.Machine.execLanemapPropose g side s
  | .lanemapAccept g side => Sys2Proof.Machine.execLanemapAccept g side s
  | .lanemapRefuse g side => Sys2Proof.Machine.execLanemapRefuse g side s
  | .lanemapNotice g side => Sys2Proof.Machine.execLanemapNotice g side s
  | .proposeResend g side => Sys2Proof.Machine.execProposeResend g side s
  | .mapSwitchTx g side => Sys2Proof.Machine.execMapSwitchTx g side s
  | .mapChangeTimeout g => Sys2Proof.Machine.execMapChangeTimeout g s
  | .mapChangeTimeoutTg g => Sys2Proof.Machine.execMapChangeTimeoutTg g s
  | .escalationRetry g => Sys2Proof.Machine.execEscalationRetry g s
  | .partitionEntryWrite x v => Sys2Proof.Machine.execPartitionEntryWrite x v s
  | .drainForceExpiry e g => Sys2Proof.Machine.execDrainForceExpiry e g s
  | .calCycleStart side pos => Sys2Proof.Machine.execCalCycleStart side pos s
  | .calCycleDone side pos m => Sys2Proof.Machine.execCalCycleDone side pos m s
  | .guardClr => Sys2Proof.Machine.execGuardClr s
  | .suspectVerdict el => Sys2Proof.Machine.execSuspectVerdict el s
  | .holdLimit side pos => Sys2Proof.Machine.execHoldLimit side pos s
  | .refvCheck inWindow => Sys2Proof.Machine.execRefvCheck inWindow s
  | .refvResume => Sys2Proof.Machine.execRefvResume s
  | .txPassStart side pos => Sys2Proof.Machine.execTxPassStart side pos s
  | .cellLend side pos => Sys2Proof.Machine.execCellLend side pos s
  | .cellReturn side pos trim err100 => Sys2Proof.Machine.execCellReturn side pos trim err100 s
  | .tempReading n t => Sys2Proof.Machine.execTempReading n t s
  | .tempDwellExpiry n => Sys2Proof.Machine.execTempDwellExpiry n s
  | .foregroundCalDone fn side pos results => Sys2Proof.Machine.execForegroundCalDone fn side pos results s
  | .bar0Request r => Sys2Proof.Machine.execBar0Request r s
  | .doorbell r => Sys2Proof.Machine.execDoorbell r s
  | .ringRecheck q img => Sys2Proof.Machine.execRingRecheck q img s
  | .cqHeadPoll q cqHead => Sys2Proof.Machine.execCqHeadPoll q cqHead s
  | .hostReadError q err => Sys2Proof.Machine.execHostReadError q err s
  | .descriptorComplete q idx => Sys2Proof.Machine.execDescriptorComplete q idx s
  | .coalesceExpiry q => Sys2Proof.Machine.execCoalesceExpiry q s
  | .ringEnable q => Sys2Proof.Machine.execRingEnable q s
  | .ringDisable q => Sys2Proof.Machine.execRingDisable q s
  | .ringEngineResetTimeout => Sys2Proof.Machine.execRingEngineResetTimeout s
  | .evgrpEnable n vector => Sys2Proof.Machine.execEvgrpEnable n vector s
  | .eventOnset r bit => Sys2Proof.Machine.execEventOnset r bit s
  | .flr => Sys2Proof.Machine.execFlr s
  | .pcieHotReset surprise => Sys2Proof.Machine.execPcieHotReset surprise s
  | .perstNAssert => Sys2Proof.Machine.execPerstNAssert s
  | .d3hotEntry => Sys2Proof.Machine.execD3hotEntry s
  | .d3hotExit => Sys2Proof.Machine.execD3hotExit s
  | .nop q idx => Sys2Proof.Machine.execNop q idx s
  | .regRead q idx => Sys2Proof.Machine.execRegRead q idx s
  | .regWrite q idx => Sys2Proof.Machine.execRegWrite q idx s
  | .regRmw q idx => Sys2Proof.Machine.execRegRmw q idx s
  | .bulkWrite q idx => Sys2Proof.Machine.execBulkWrite q idx s
  | .bulkRead q idx => Sys2Proof.Machine.execBulkRead q idx s
  | .orbitBcast q idx => Sys2Proof.Machine.execOrbitBcast q idx s
  | .eclipse q idx => Sys2Proof.Machine.execEclipse q idx s
  | .tstreamStart q idx => Sys2Proof.Machine.execTstreamStart q idx s
  | .tstreamStop q idx => Sys2Proof.Machine.execTstreamStop q idx s
  | .calSweep q idx => Sys2Proof.Machine.execCalSweep q idx s
  | .calTxpass q idx => Sys2Proof.Machine.execCalTxpass q idx s
  | .calFull q idx => Sys2Proof.Machine.execCalFull q idx s
  | .bistRun q idx => Sys2Proof.Machine.execBistRun q idx s
  | .laneSwapSwap q idx => Sys2Proof.Machine.execLaneSwapSwap q idx s
  | .laneSwapRetrain q idx => Sys2Proof.Machine.execLaneSwapRetrain q idx s
  | .laneSwapRestore q idx => Sys2Proof.Machine.execLaneSwapRestore q idx s
  | .quench q idx => Sys2Proof.Machine.execQuench q idx s
  | .unquench q idx => Sys2Proof.Machine.execUnquench q idx s
  | .rquench q idx => Sys2Proof.Machine.execRquench q idx s
  | .runquench q idx => Sys2Proof.Machine.execRunquench q idx s
  | .keyLoad q idx => Sys2Proof.Machine.execKeyLoad q idx s
  | .fwLoadWrite q idx image => Sys2Proof.Machine.execFwLoadWrite q idx image s
  | .fwLoadActivate q idx => Sys2Proof.Machine.execFwLoadActivate q idx s
  | .faultClearSource q idx => Sys2Proof.Machine.execFaultClearSource q idx s
  | .faultClearRecord q idx => Sys2Proof.Machine.execFaultClearRecord q idx s
  | .faultClearSafe q idx => Sys2Proof.Machine.execFaultClearSafe q idx s
  | .fence q idx => Sys2Proof.Machine.execFence q idx s
  | .regFrame p f => Sys2Proof.Machine.execRegFrame p f s
  | .bcastFrame p f => Sys2Proof.Machine.execBcastFrame p f s
  | .opFrame p f => Sys2Proof.Machine.execOpFrame p f s
  | .imageDataFrame p f => Sys2Proof.Machine.execImageDataFrame p f s
  | .fwDataResend => Sys2Proof.Machine.execFwDataResend s
  | .answerFrame p f => Sys2Proof.Machine.execAnswerFrame p f s
  | .eventFrame p f => Sys2Proof.Machine.execEventFrame p f s
  | .telemFrame p f => Sys2Proof.Machine.execTelemFrame p f s
  | .telemHalfTimeout src stream => Sys2Proof.Machine.execTelemHalfTimeout src stream s
  | .workerFrameSend => Sys2Proof.Machine.execWorkerFrameSend s
  | .enumFrame p f => Sys2Proof.Machine.execEnumFrame p f s
  | .enumAnsFrame p f => Sys2Proof.Machine.execEnumAnsFrame p f s
  | .assignFrame p f => Sys2Proof.Machine.execAssignFrame p f s
  | .assignAckFrame p f => Sys2Proof.Machine.execAssignAckFrame p f s
  | .claimTimeout => Sys2Proof.Machine.execClaimTimeout s
  | .mapFrame p f => Sys2Proof.Machine.execMapFrame p f s
  | .mapReturn p f => Sys2Proof.Machine.execMapReturn p f s
  | .probeFrame p f => Sys2Proof.Machine.execProbeFrame p f s
  | .ctrlUnwrap p f => Sys2Proof.Machine.execCtrlUnwrap p f s
  | .ctrlSetArm p f => Sys2Proof.Machine.execCtrlSetArm p f s
  | .ctrlMreset p f mid => Sys2Proof.Machine.execCtrlMreset p f mid s
  | .ctrlSetDelay p f => Sys2Proof.Machine.execCtrlSetDelay p f s
  | .quenchSeqReceived p sq => Sys2Proof.Machine.execQuenchSeqReceived p sq s
  | .eclipseSeqReceived p sq => Sys2Proof.Machine.execEclipseSeqReceived p sq s
  | .wakeSeqReceived p sq => Sys2Proof.Machine.execWakeSeqReceived p sq s
  | .beaconReceived p sq => Sys2Proof.Machine.execBeaconReceived p sq s
  | .beaconPeriod => Sys2Proof.Machine.execBeaconPeriod s
  | .beaconTimeout reverse => Sys2Proof.Machine.execBeaconTimeout reverse s
  | .markReceived p tenthsNs => Sys2Proof.Machine.execMarkReceived p tenthsNs s
  | .abortReceived p dest => Sys2Proof.Machine.execAbortReceived p dest s
  | .prioritySeqReturn p sq => Sys2Proof.Machine.execPrioritySeqReturn p sq s
  | .prioritySeqTimeout => Sys2Proof.Machine.execPrioritySeqTimeout s
  | .responseTimeout target tag => Sys2Proof.Machine.execResponseTimeout target tag s
  | .portLoss p => Sys2Proof.Machine.execPortLoss p s
  | .portRestored p => Sys2Proof.Machine.execPortRestored p s
  | .healRequest w r => Sys2Proof.Machine.execHealRequest w r s
  | .healResume => Sys2Proof.Machine.execHealResume s
  | .orbEnum => Sys2Proof.Machine.execOrbEnum s
  | .orbEnumRetry => Sys2Proof.Machine.execOrbEnumRetry s
  | .orbRemeasure => Sys2Proof.Machine.execOrbRemeasure s
  | .orbRelease a => Sys2Proof.Machine.execOrbRelease a s
  | .orbWakeSend target kind => Sys2Proof.Machine.execOrbWakeSend target kind s
  | .capture => Sys2Proof.Machine.execCapture s
  | .bankReady => Sys2Proof.Machine.execBankReady s
  | .eclipseCompletion => Sys2Proof.Machine.execEclipseCompletion s
  | .telemSample n => Sys2Proof.Machine.execTelemSample n s
  | .faultOnset src place => Sys2Proof.Machine.execFaultOnset src place s
  | .faultEventExpire src => Sys2Proof.Machine.execFaultEventExpire src s
  | .wiringFault src => Sys2Proof.Machine.execWiringFault src s
  | .wiringRecovery src faulty => Sys2Proof.Machine.execWiringRecovery src faulty s
  | .graceExpiry src => Sys2Proof.Machine.execGraceExpiry src s
  | .srccfgWrite src v => Sys2Proof.Machine.execSrccfgWrite src v s
  | .collSelfFault word => Sys2Proof.Machine.execCollSelfFault word s
  | .faultnPulseEnd => Sys2Proof.Machine.execFaultnPulseEnd s
  | .faultnReadback => Sys2Proof.Machine.execFaultnReadback s
  | .sliceStart => Sys2Proof.Machine.execSliceStart s
  | .loopbackDone r => Sys2Proof.Machine.execLoopbackDone r s
  | .mbistRotateDone => Sys2Proof.Machine.execMbistRotateDone s
  | .mbistDone r => Sys2Proof.Machine.execMbistDone r s
  | .lbistDone r => Sys2Proof.Machine.execLbistDone r s
  | .bistBudgetExpiry => Sys2Proof.Machine.execBistBudgetExpiry s
  | .lockClose => Sys2Proof.Machine.execLockClose s
  | .rwlWrite addr v => Sys2Proof.Machine.execRwlWrite addr v s
  | .jtagInstruction x => Sys2Proof.Machine.execJtagInstruction x s
  | .registerWrite addr v => Sys2Proof.Machine.execRegisterWrite addr v s
  | .frameReturn p f => Sys2Proof.Machine.execFrameReturn p f s
  | .configRequest r => Sys2Proof.Machine.execConfigRequest r s
  | .ethernetMarkerLock g k side pos locked codeword skewNs => Sys2Proof.Machine.execEthernetMarkerLock g k side pos locked codeword skewNs s
  | .txMeasurementDone side pos el trim err100 => Sys2Proof.Machine.execTxMeasurementDone side pos el trim err100 s
  | .cometEnd side pos => Sys2Proof.Machine.execCometEnd side pos s
  | .voltageReady => Sys2Proof.Machine.execVoltageReady s
  | .clockSwitchDone => Sys2Proof.Machine.execClockSwitchDone s
  | .fwWriteDone check => Sys2Proof.Machine.execFwWriteDone check s

end Sys2Proof.Machine
end

