-- ==== Sys2Proof/Machine/Tick.lean ====
section
/-! DEFINITION. What the passing of time does while no command waits. -/

namespace Sys2Proof.Machine

/-- One tick of 1.6 ns: the clock advances, and Chain Time with it while REFCLK is present (R346, R306;
DESIGN CHOICE, log entry 10). -/
def State.tick (s : State) : State :=
  let t := { s with clock := s.clock + 1 }
  if s.on GLB.refclkOk then t.setCounter ECL.time ((s.counter ECL.time + 1) % 2 ^ 64) else t

end Sys2Proof.Machine
end

