-- ==== Sys2Proof/Safety.lean ====
section
/-! DEFINITION. What counts as a safe run, in the terms claims use: a step that completes, the canonical form of the
stores, the legal states, the frame of a command, and the part of the state that the lane side leaves alone. -/

namespace Sys2Proof

/-- A step that neither stops nor is refused. -/
def Completes (s : Machine.State) : Prop := ∃ t, Machine.step s = .next t

end Sys2Proof

namespace Sys2Proof.Machine

/-- Every sparse store of the state, and the chain's slot counts and delays, are in their canonical form: keys strictly
rising, and no entry equal to what an unlisted key reads as. -/
structure State.Canonical (s : State) : Prop where
  regs : Sparse.wf regReset s.regs = true
  rings : Sparse.wf (fun _ => Ring.idle) s.rings = true
  evFrames : Sparse.wf (fun _ => (⟨0, 0⟩ : EvFrame)) s.evFrames = true
  rx : Sparse.wf (fun _ => RxEnd.reset) s.rx = true
  tx : Sparse.wf (fun _ => TxEnd.reset) s.tx = true
  segs : Sparse.wf (fun _ => Seg.off) s.segs = true
  engs : Sparse.wf (fun _ => EngPort.empty) s.engs = true
  lts : Sparse.wf (fun _ => none) s.lts = true
  ports : Sparse.wf (fun _ => PortRec.idle) s.ports = true
  plls : Sparse.wf (fun _ => (⟨0, false⟩ : Pll)) s.plls = true
  keys : Sparse.wf (fun _ => (⟨0, 0, false⟩ : Key)) s.keys = true
  banks : Sparse.wf (fun _ => Bank.empty) s.banks = true
  streams : Sparse.wf (fun _ => Stream.idle) s.streams = true
  teleCq : Sparse.wf (fun _ => 0) s.teleCq = true
  slots : Sparse.wf (fun _ => 0) s.orbit.slots = true
  delays : Sparse.wf (fun _ => (0, 0)) s.orbit.delays = true

/-- A legal state: canonical stores, supply rails asserted from the front of the order of R408 on, a boot control block
that names one of the two slots, and no third slot (R427, R428). -/
structure State.Legal (s : State) : Prop where
  canon : s.Canonical
  rails : s.pwr.rails ∈ [0, 1, 3, 7, 15, 31]
  active : s.flash.active ≤ 1
  valid : s.flash.valid ≤ 3

/-- The state without its registers and without what the forwarding of events uses: the ring engine's records, the
outputs and the EVENT frames that wait (R441 to R445). -/
def State.base (s : State) : State := { s with regs := [], rings := [], out := [], evFrames := [] }

/-- The frame of a command. Registers outside the ring engine's block (R234, which event messages and entries may
change) keep their values but for those at the addresses of `l`; apart from the fields that `m` blanks out, nothing
else changes but what the forwarding of events uses. -/
def Framed (m : State → State) (l : List Nat) (s t : State) : Prop :=
  m t.base = m s.base ∧ ∀ a, a / 0x10000 ≠ 3 → a ∉ l → t.reg a = s.reg a

/-- The part of the state that lanes, segments, sparing, fault collection and the self-tests leave alone: the state with
everything that they may change put to a fixed value. -/
def State.kept (s : State) : State :=
  { s with
    bist := [], bistHeld := 0, calReqs := [], causes := 0, core := Core.reset, engs := [], evFrames := [],
    flt := Flt.reset, freeCtr := 0, grace := 0, isolated := 0, lts := [], out := [], ports := [], regs := [],
    rings := [], rx := [], segs := [], tx := [], waitq := [], keys := [], pcie := { s.pcie with posted := [] },
    pwr := { s.pwr with wake := none, safeDue := false } }

/-- The answer of a descriptor in flight, status and result (R270). -/
def State.answerOf (s : State) (q idx : Nat) : Option (Nat × Nat) :=
  ((s.flight q idx).filter (fun f => decide (f.stage = .answered))).map (fun f => (f.status, f.result))

/-- The chain sequencer measures delays (R322). -/
def State.isMeasuring (s : State) : Bool :=
  match s.orbit.seq with
  | .measure _ => true
  | _ => false

/-- The enumeration that a break interrupts, by its RETRY (R330). -/
def State.brokenRound (s : State) : List Bool :=
  match s.orbit.seq with
  | .enum r _ => [r]
  | _ => []

/-- The commands of the lane side: lane-ends, segments, flits, sparing, partition entries, calibration cycles, fault
collection and self-test. -/
def laneSide (c : Instr) : Bool :=
  match c with
  | .engineRelease | .laneEndResetHold _ _ | .laneEndResetRelease _ _ | .lpwrFlit _ _ _ | .lpAgreeTimeout _
  | .lpQuiet _ | .lpWakeTimeout _ | .laneEndActivate _ _ _ | .losAssert _ _ _ _ | .losClear _ _ _ _ | .cometDetect _ _
  | .cometEnd _ _ | .cdrLock _ _ _ | .cdrUnlock _ _ _ | .adaptUpdate _ _ _ | .coefWrite _ _ _ _
  | .detModeSwitch _ _ | .starveWindowEnd _ _ _ _ | .rxFifoSlip _ _ | .histogramRunStart _ _
  | .histogramRunDone _ _ _ | .swapWindow _ _ _ _ | .sliceSettled _ _ | .commit _ _ | .commitApply _ _
  | .cellReplace _ _ | .rotatorLimit _ _ _ | .txFifoSlip _ _ | .pgcfgWrite _ _ | .rplcfgWrite _ _
  | .lmapWrite _ _ _ | .anPage _ _ _ _ _ _ | .anBreakLinkExpiry _ _ _ | .trainingFrame _ _ _ _ _
  | .widthWaitExpiry _ _ | .coefRequest _ _ _ | .coefStatus _ _ _ _ | .eqTimeout _ _ _ | .alignTimeout _ _
  | .backoffExpiry _ _ _ | .fecLockTimeout _ _ _ | .segmentRestart _ _ _ | .segmentLosTimeout _ _ _
  | .ethLaneLossTimeout _ _ _ | .markerLossTimeout _ _ _ | .fillToDataSwitch _ _ _ | .laneTrainingDone _ _
  | .laneTrainingTimeout _ _ | .shadowCopyStart _ _ | .markerCheck _ _ _ | .codewordReceived _ _ _ _ _ _
  | .ethernetMarkerLock _ _ _ _ _ _ _ | .flitReceived _ _ _ _ _ | .nakTimerExpiry _ _ | .pureSackDue _ _
  | .crossEngineSack _ _ | .crossEngineSnak _ _ | .flitSlot _ _ _ _ | .proposeResend _ _ | .mapChangeTimeout _
  | .mapChangeTimeoutTg _ | .escalationRetry _ | .partitionEntryWrite _ _ | .drainForceExpiry _ _
  | .calCycleStart _ _ | .holdLimit _ _ | .txPassStart _ _ | .cellLend _ _ | .wiringFault _ | .wiringRecovery _ _
  | .graceExpiry _ | .srccfgWrite _ _ | .collSelfFault _ | .faultnPulseEnd | .faultEventExpire _ | .sliceStart
  | .loopbackDone _ | .mbistRotateDone | .mbistDone _ | .lbistDone _ | .bistBudgetExpiry => true
  | _ => false

/-- The register that a command writes, where the command is a register write of its own. -/
def writesTo (c : Instr) : Option Nat :=
  match c with
  | .guardClr => some CAL.ctrl
  | .srccfgWrite src _ => some (FLT.srccfg src)
  | .coefWrite sd p .afe _ => some (LRX.afe (laneIdx sd p))
  | .coefWrite sd p (.tap n) _ => some (LRX.tap (laneIdx sd p) n).addr
  | .coefWrite sd p .dfe _ => some (LRX.dfe (laneIdx sd p)).addr
  | .lockClose => some GLB.lock
  | .orbEnum | .orbEnumRetry | .orbRemeasure => some ORB.ctrl
  | .orbRelease _ => some ORB.release
  | .orbWakeSend _ _ => some ORB.wake
  | .partitionEntryWrite i _ => some (PRT.entryLo i)
  | .targetWrite _ | .linkWake _ => some PWR.ctrl
  | .dvfsRequest _ => some PWR.dvfs
  | .histogramRunStart sd p => some (LRX.histcfg (laneIdx sd p))
  | .glbMreset _ | .engReset _ _ => some GLB.rstctrl
  | .laneEndResetHold sd p | .laneEndResetRelease sd p => some (GLB.lerstReg sd.idx (p / 32))
  | .ringEnable q | .ringDisable q => some (RNG.q q + 0x14)
  | .evgrpEnable n _ => some (RNG.evgrp n)
  | .portGroupEnable _ | .portGroupDisable _ => some GLB.pgen
  | .pgcfgWrite g _ => some (GLB.pgcfg g)
  | .rplcfgWrite e _ => some (DIR.rplcfg e.idx)
  | .lmapWrite g sd _ => some (GLB.lmap g sd.idx)
  | .segmentRestart g _ _ => some (GLB.trnCtrl g)
  | .timingListWrite e half _ => some (GLB.tlist e.idx half)
  | .timingModeWrite _ _ => some GLB.timing
  | .commit sd p => some (LTX.ctrl (laneIdx sd p))
  | _ => none

end Sys2Proof.Machine
end

