-- ==== Sys2Proof/WellFormed.lean ====
section
/-! DEFINITION. Which commands can exist: the operands of each lie within what its row can carry. The checks are
those that the meanings make. -/

namespace Sys2Proof

/-- The command's operands are well formed: a record's entries, a histogram's bins, recorded symbols, mean codes, the
symbol errors of a codeword, a number of an initial condition, the words of a request, the slots of a doorbell, the
elements of a result and an image fit the fields that hold them. -/
def Instr.wf (i : Instr) : Bool :=
  match i with
  | .cfgRecordApply r => Machine.recordFits r
  | .histogramRunDone _ _ r => Machine.binsOk r.bins
  | .coefStatus _ _ _ bins => Machine.binsOk bins
  | .swapWindow _ _ _ syms => Machine.symsOk syms
  | .calCycleDone _ _ m => Machine.cycleOk m
  | .coefRequest _ _ r => Machine.coefReqOk r
  | .codewordReceived _ _ _ errors marked _ => Machine.risingBelow 544 errors && Machine.risingBelow 544 marked
  | .suspectVerdict el => Machine.calElemOk el
  | .foregroundCalDone fn _ _ results => results.all (Machine.fgResultOk fn)
  | .bar0Request r => Machine.barDataOk r
  | .doorbell r => Machine.doorSlotsOk r
  | .fwLoadWrite _ _ image => Machine.imageFits image
  | .loopbackDone r => Machine.loopOk r
  | .mbistDone r => Machine.marchOk r
  | .txMeasurementDone _ _ el _ _ => Machine.txElemOk el
  | .coldReset | .vstbyApplied | .resetNRise _ | .powerLoss | .regulatorStageReady _
  | .oscillatorStageReady | .memoryStageDone _ | .logicStageDone | .powerupPgTimeout | .powerupRetry
  | .stageWaitExceeded | .firmwareReady _ | .fwTrialTimeout | .cfgRecordWaitExpiry | .mresetNAssert _
  | .glbMreset _ | .engReset _ _ | .engineRelease | .laneEndResetHold _ _ | .laneEndResetRelease _ _
  | .idleEntry | .idleExit | .targetWrite _ | .entryDwellExpiry | .entryStepDone | .entryRailsDone
  | .linkWake _ | .laneWake _ _ _ | .wakeNLow | .pcieWake | .tempWake | .orbitFrameWake
  | .lpwrFlit _ _ _ | .lpAgreeTimeout _ | .lpQuiet _ | .lpWakeTimeout _ | .laneEndActivate _ _ _
  | .laneEndActive _ _ _ | .dvfsRequest _ | .vreadySample _ | .dvfsClockRaise | .vidTimeout
  | .losAssert _ _ _ _ | .losClear _ _ _ _ | .cometDetect _ _ | .cdrLock _ _ _ | .cdrUnlock _ _ _
  | .adaptUpdate _ _ _ | .coefWrite _ _ _ _ | .detModeSwitch _ _ | .starveWindowEnd _ _ _ _
  | .rxFifoSlip _ _ | .histogramRunStart _ _ | .counterLowRead _ | .shadowCompareDone _ _ _ _
  | .sliceSettled _ _ | .commit _ _ | .commitApply _ _ | .cellReplace _ _
  | .rotatorLimit _ _ _ | .txFifoSlip _ _ | .pllHoldoverEntry _ | .timingFailover _ | .pllLockDone _
  | .timingRevert _ _ | .timingListWrite _ _ _ | .timingModeWrite _ _ | .refclkLoss | .refclkReturn
  | .freqRange _ _ | .portGroupEnable _ | .portGroupDisable _ | .pgcfgWrite _ _ | .rplcfgWrite _ _
  | .lmapWrite _ _ _ | .anPage _ _ _ _ _ _ | .anBreakLinkExpiry _ _ _ | .trainingFrame _ _ _ _ _
  | .widthWaitExpiry _ _ | .eqTimeout _ _ _ | .alignTimeout _ _
  | .backoffExpiry _ _ _ | .fecLockTimeout _ _ _ | .segmentRestart _ _ _ | .segmentLosTimeout _ _ _
  | .ethLaneLossTimeout _ _ _ | .markerLossTimeout _ _ _ | .fillToDataSwitch _ _ _
  | .laneTrainingDone _ _ | .laneTrainingTimeout _ _ | .shadowCopyStart _ _ | .markerCheck _ _ _
  | .flitReceived _ _ _ _ _ | .nakTimerExpiry _ _ | .pureSackDue _ _ | .crossEngineSack _ _
  | .crossEngineSnak _ _ | .flitSlot _ _ _ _ | .lanemapPropose _ _ | .lanemapAccept _ _
  | .lanemapRefuse _ _ | .lanemapNotice _ _ | .proposeResend _ _ | .mapSwitchTx _ _
  | .mapChangeTimeout _ | .mapChangeTimeoutTg _ | .escalationRetry _ | .partitionEntryWrite _ _
  | .drainForceExpiry _ _ | .calCycleStart _ _ | .guardClr | .holdLimit _ _
  | .refvCheck _ | .refvResume | .txPassStart _ _ | .cellLend _ _ | .cellReturn _ _ _ _
  | .tempReading _ _ | .tempDwellExpiry _ | .ringRecheck _ _ | .cqHeadPoll _ _
  | .hostReadError _ _ | .descriptorComplete _ _ | .coalesceExpiry _ | .ringEnable _ | .ringDisable _
  | .ringEngineResetTimeout | .evgrpEnable _ _ | .eventOnset _ _ | .flr | .pcieHotReset _ | .perstNAssert
  | .d3hotEntry | .d3hotExit | .nop _ _ | .regRead _ _ | .regWrite _ _ | .regRmw _ _ | .bulkWrite _ _
  | .bulkRead _ _ | .orbitBcast _ _ | .eclipse _ _ | .tstreamStart _ _ | .tstreamStop _ _
  | .calSweep _ _ | .calTxpass _ _ | .calFull _ _ | .bistRun _ _ | .laneSwapSwap _ _
  | .laneSwapRetrain _ _ | .laneSwapRestore _ _ | .quench _ _ | .unquench _ _ | .rquench _ _
  | .runquench _ _ | .keyLoad _ _ | .fwLoadActivate _ _ | .faultClearSource _ _ | .faultClearRecord _ _
  | .faultClearSafe _ _ | .fence _ _ | .regFrame _ _ | .bcastFrame _ _ | .opFrame _ _
  | .imageDataFrame _ _ | .fwDataResend | .answerFrame _ _ | .eventFrame _ _ | .telemFrame _ _
  | .telemHalfTimeout _ _ | .workerFrameSend | .enumFrame _ _ | .enumAnsFrame _ _ | .assignFrame _ _
  | .assignAckFrame _ _ | .claimTimeout | .mapFrame _ _ | .mapReturn _ _ | .probeFrame _ _
  | .ctrlUnwrap _ _ | .ctrlSetArm _ _ | .ctrlMreset _ _ _ | .ctrlSetDelay _ _ | .quenchSeqReceived _ _
  | .eclipseSeqReceived _ _ | .wakeSeqReceived _ _ | .beaconReceived _ _ | .beaconPeriod
  | .beaconTimeout _ | .markReceived _ _ | .abortReceived _ _ | .prioritySeqReturn _ _
  | .prioritySeqTimeout | .responseTimeout _ _ | .portLoss _ | .portRestored _ | .healRequest _ _
  | .healResume | .orbEnum | .orbEnumRetry | .orbRemeasure | .orbRelease _ | .orbWakeSend _ _
  | .capture | .bankReady | .eclipseCompletion | .telemSample _ | .faultOnset _ _ | .faultEventExpire _
  | .wiringFault _ | .wiringRecovery _ _ | .graceExpiry _ | .srccfgWrite _ _ | .collSelfFault _
  | .faultnPulseEnd | .faultnReadback | .sliceStart | .mbistRotateDone | .lbistDone _
  | .bistBudgetExpiry | .lockClose | .rwlWrite _ _ | .jtagInstruction _ | .registerWrite _ _
  | .frameReturn _ _ | .configRequest _ | .ethernetMarkerLock _ _ _ _ _ _ _ | .cometEnd _ _
  | .voltageReady | .clockSwitchDone | .fwWriteDone _ => true

end Sys2Proof
end

