-- ==== Sys2Proof/Certificates/Slice0/Obligations.lean ====
section
/-! DEFINITION. The statements for the provers. -/

open Sys2Proof Sys2Proof.Machine


/-- In every state COLD_RESET, VSTBY_APPLIED and POWER_LOSS complete. Every register but GLB_RSTSTAT then holds its
reset value, GLB_RSTSTAT.COLD_CAUSE names the cause (1 for RESET_N, 0 for a supply), and every other part of the
unit is as State.reset has it, but for the queue, the use count of free values, the outputs, the flash, which lies
outside the unit, and the power controller, which holds in its reset phase; PWR_EN keeps its level through a cold
reset, and VSTBY's PWRUP_FAIL stays through it and goes with the supply. What the manual gives no reset value holds
the one that log entries 9 and 29 name, and that the queue, the outputs and the flash stay is the model's choice too
(log entries 3 and 30). -/
def Obligations.ColdResetsClearTheUnit : Prop :=
  (∀ s : State, ∃ t, exec .coldReset s = .next t ∧
    t = { State.reset with
      pending := s.pending, freeCtr := s.freeCtr, flash := s.flash, out := t.out, regs := t.regs, pwr := t.pwr } ∧
    t.pwr = { Pwr.reset with rails := 2 ^ s.railCount - 1, upFail := s.pwr.upFail } ∧
    (∀ a, a ≠ 0x208 → t.reg a = regReset a) ∧ t.get GLB.coldCause = 1) ∧
  (∀ (s : State) (c : Instr), c = .vstbyApplied ∨ c = .powerLoss → ∃ t, exec c s = .next t ∧
    t = { State.reset with
      pending := s.pending, freeCtr := s.freeCtr, flash := s.flash, out := t.out, regs := t.regs, pwr := t.pwr } ∧
    t.pwr = Pwr.reset ∧
    (∀ a, a ≠ 0x208 → t.reg a = regReset a) ∧ t.get GLB.coldCause = 0) ∧
  (∀ s : State, (∃ t, exec .vstbyApplied s = .next t) ∧ ∃ t, exec .powerLoss s = .next t)

/-- RESET_N_RISE while RESET_N is low begins the regulator stage with the first rail asserted. REGULATOR_STAGE_READY in
that stage asserts every rail and goes to the oscillator stage, and latches the straps where the start is cold.
OSCILLATOR_STAGE_READY goes on with REFCLK present, the Orbit oscillator trimmed and both Tx PLLs locked, to the memory
stage, or after SLEEP straight to the logic stage. MEMORY_STAGE_DONE goes to the logic stage, whatever rows it reports.
LOGIC_STAGE_DONE ends in RUN where no entry request is held, before the operations of OP frames that waited begin. -/
def Obligations.PowerUpStagesPass : Prop :=
  (∀ (s : State) (pgs : BitVec 5), s.pwr.phase = .held → ∃ t, exec (.resetNRise pgs) s = .next t ∧
    t.pwr.phase = .stage 1 ∧ t.get PWR.stage = 1 ∧ t.pwr.rails.testBit 0 = true) ∧
  (∀ (s : State) (straps : BitVec 4), s.pwr.phase = .stage 1 → ∃ t, exec (.regulatorStageReady straps) s = .next t ∧
    t.pwr.phase = .stage 2 ∧ t.get PWR.stage = 2 ∧ t.pwr.rails = 31 ∧
    (s.pwr.origin = 0 → t.on GLB.strapRole = straps.getLsbD 0 ∧ t.on GLB.strapSafeTx = straps.getLsbD 1 ∧
      t.on GLB.strapCfgSkip = straps.getLsbD 2 ∧ t.on GLB.testMode = !straps.getLsbD 3 ∧
      t.on FLT.safeTx = straps.getLsbD 1 ∧ t.on ORB.role = straps.getLsbD 0)) ∧
  (∀ s : State, s.pwr.phase = .stage 2 → ∃ t, exec .oscillatorStageReady s = .next t ∧
    t.pwr.phase = (if s.pwr.origin = 2 then .stage 4 else .stage 3) ∧ t.on ORB.trimmed = true ∧
    t.on (GLB.pllLock 0) = true ∧ t.on (GLB.pllLock 1) = true ∧ t.on GLB.refclkOk = true) ∧
  (∀ (s : State) (rows : List SramRow), s.pwr.phase = .stage 3 → ∃ t, exec (.memoryStageDone rows) s = .next t ∧
    t.pwr.phase = .stage 4 ∧ t.get PWR.stage = 4) ∧
  (∀ s : State, s.pwr.phase = .stage 4 → s.pwr.held = false → ∃ u : State,
    exec .logicStageDone s = .next u.waitingGo ∧ u.pwr.phase = .run)

/-- POWERUP_PG_TIMEOUT in the regulator stage deasserts the rails of the attempt, counts it and waits for POWERUP_RETRY,
which begins again; with the third failure the unit is cleared, every PWR_EN is deasserted and PWRUP_FAIL is set at
once. WAKE_N_LOW starts a new attempt from there, and from OFF. STAGE_WAIT_EXCEEDED in the memory or logic stage
makes the cause of XING_TIMEOUT present and live. Which rails had risen in the attempt is open, a free value (log
entry 44). -/
def Obligations.PowerUpFailuresRetryAndGiveUp : Prop :=
  (∀ s : State, s.pwr.phase = .stage 1 → s.pwr.attempts < 2 → ∃ t, exec .powerupPgTimeout s = .next t ∧
    t.pwr.phase = .retry ∧ t.pwr.attempts = s.pwr.attempts + 1 ∧
    t.pwr.rails = (if s.pwr.origin = 0 then 0 else 15)) ∧
  (∀ s : State, s.pwr.phase = .stage 1 → 2 ≤ s.pwr.attempts → ∃ t, exec .powerupPgTimeout s = .next t ∧
    t.pwr.phase = .failed ∧ t.pwr.rails = 0 ∧ t.pwr.upFail = true) ∧
  (∀ s : State, s.pwr.phase = .retry → s.pwr.attempts < 3 → ∃ t, exec .powerupRetry s = .next t ∧
    t.pwr.phase = .stage 1 ∧ t.pwr.rails = (if s.pwr.origin = 0 then 1 else 31)) ∧
  (∀ s : State, s.pwr.phase = .retry → 3 ≤ s.pwr.attempts → ∃ t, exec .powerupRetry s = .next t ∧
    t.pwr.phase = .failed ∧ t.pwr.rails = 0 ∧ t.pwr.upFail = true) ∧
  (∀ s : State, s.pwr.phase = .failed ∨ s.pwr.phase = .off → ∃ t, exec .wakeNLow s = .next t ∧
    t.pwr.phase = .stage 1 ∧ t.pwr.rails = 1) ∧
  (∀ s : State, s.pwr.phase = .stage 3 ∨ s.pwr.phase = .stage 4 → ∃ t, exec .stageWaitExceeded s = .next t ∧
    t.causes.testBit 182 = true ∧ t.on (FLT.live 182) = true)

/-- IDLE_ENTRY in RUN with nothing for the core to do sets PWR_STAT.STATE to IDLE, and while the core has work changes
nothing; IDLE_EXIT sets it to RUN. Nothing else changes. -/
def Obligations.IdleFollowsTheCore : Prop :=
  (∀ s : State, s.pwr.phase = .run → ∃ t, exec .idleEntry s = .next t ∧
    t.get PWR.state = (if s.coreBusy then s.get PWR.state else 1) ∧
    (∀ a, a ≠ PWR.stat → t.reg a = s.reg a) ∧ t = { s with regs := t.regs }) ∧
  (∀ s : State, s.pwr.phase = .run → ∃ t, exec .idleExit s = .next t ∧ t.get PWR.state = 0 ∧
    (∀ a, a ≠ PWR.stat → t.reg a = s.reg a) ∧ t = { s with regs := t.regs })

/-- TARGET_WRITE of RUN, SLEEP or DEEP sets PWR_CTRL.TARGET; OFF with OFF_EN clear raises OFF_REFUSED and leaves TARGET
alone; with OFF_EN set it disables every port group and begins step 1 of an entry toward OFF at once, but with a wake
source in the same cycle entry does not start: TARGET is 0, SLEEP_ABANDONED is raised and the groups stay
disabled. ENTRY_DWELL_EXPIRY with no blocker and no wake source begins step 1. ENTRY_STEP_DONE goes to the next step,
toward SLEEP from step 1 to step 3 and then to SLEEP, and from step 4 to step 5 with VDDC deasserted, and every rail
toward OFF; with a wake it goes back at that abort point, with LAST_ABORT and TARGET 0, an entry that began in SLEEP to
the oscillator stage at the latest (log entry 24, the model's reading). ENTRY_RAILS_DONE ends an entry toward DEEP in
DEEP, and one toward OFF in OFF with every rail deasserted and every register at its reset value, COLD_CAUSE 2 and
PWRUP_FAIL kept; a wake that acted in step 5 then begins a power-up with the first rail. -/
def Obligations.TargetAndEntrySteps : Prop :=
  (∀ (s : State) (v : BitVec 2), s.pwr.phase = .run → s.safe = false → v ≠ 3#2 → ∃ t, exec (.targetWrite v) s = .next t
    ∧
    t.get PWR.target = v.toNat) ∧
  (∀ s : State, s.pwr.phase = .run → s.safe = false → s.on PWR.offEn = false → ∃ t, exec (.targetWrite 3#2) s = .next t
    ∧
    t.get PWR.target = s.get PWR.target ∧ (t.reg PWR.event).getLsbD 4 = true) ∧
  (∀ s : State, s.pwr.phase = .run → s.get PWR.target = 1 ∨ s.get PWR.target = 2 →
    s.blockBits (s.get PWR.target) = 0 → s.wakeNow = false → ∃ t, exec .entryDwellExpiry s = .next t ∧
    t.pwr.phase = .entry 1 ∧ t.pwr.goal = s.get PWR.target) ∧
  (∀ (s : State) (k : Nat), s.pwr.phase = .entry k → k < 5 → s.pwr.wake = none → s.pwr.goal ≠ 1 → ∃ t,
    exec .entryStepDone s = .next t ∧ t.pwr.phase = .entry (k + 1)) ∧
  (∀ s : State, s.pwr.phase = .entry 1 → s.pwr.wake = none → s.pwr.goal = 1 → ∃ t,
    exec .entryStepDone s = .next t ∧ t.pwr.phase = .entry 3) ∧
  (∀ s : State, s.pwr.phase = .entry 3 → s.pwr.wake = none → s.pwr.goal = 1 → ∃ t,
    exec .entryStepDone s = .next t ∧ t.pwr.phase = .sleep ∧ t.get PWR.state = 2) ∧
  (∀ (s : State) (k : Nat), s.pwr.phase = .entry k → k < 4 → s.pwr.wake.isSome = true → ∃ t,
    exec .entryStepDone s = .next t ∧ t.pwr.phase = .stage (if s.get PWR.state = 2 then min 2 (5 - k) else 5 - k) ∧
    t.get PWR.lastAbort = k ∧ t.get PWR.target = 0) ∧
  (∀ s : State, s.pwr.phase = .entry 5 → s.pwr.goal ≠ 3 → s.pwr.wake = none → ∃ t,
    exec .entryRailsDone s = .next t ∧ t.pwr.phase = .deep ∧ t.get PWR.state = 3 ∧ t.on ORB.trimmed = false) ∧
  (∀ s : State, s.pwr.phase = .run → s.safe = false → s.on PWR.offEn = true → s.wakeNow = false → ∃ t,
    exec (.targetWrite 3#2) s = .next t ∧ t.pwr.phase = .entry 1 ∧ t.pwr.goal = 3 ∧ t.get PWR.target = 3 ∧
    ∀ g ∈ [0, 1, 2, 3], t.on (GLB.en g) = false) ∧
  (∀ s : State, s.pwr.phase = .run → s.safe = false → s.on PWR.offEn = true → s.wakeNow = true → ∃ t,
    exec (.targetWrite 3#2) s = .next t ∧ t.pwr.phase = .run ∧ t.get PWR.target = 0 ∧
    (t.reg PWR.event).getLsbD 2 = true ∧ ∀ g ∈ [0, 1, 2, 3], t.on (GLB.en g) = false) ∧
  (∀ s : State, s.pwr.phase = .entry 4 → s.pwr.wake = none → s.pwr.goal ≠ 1 → ∃ t,
    exec .entryStepDone s = .next t ∧ t.pwr.rails = if s.pwr.goal = 3 then 0 else 15) ∧
  (∀ s : State, s.pwr.phase = .entry 5 → s.pwr.goal = 3 → s.pwr.wake = none → ∃ t,
    exec .entryRailsDone s = .next t ∧ t.pwr = { Pwr.reset with phase := .off, rails := 0, upFail := s.pwr.upFail } ∧
    (∀ a, a ≠ 0x208 → t.reg a = regReset a) ∧ t.get GLB.coldCause = 2) ∧
  (∀ s : State, s.pwr.phase = .entry 5 → s.pwr.goal = 3 → s.pwr.wake.isSome = true → ∃ t,
    exec .entryRailsDone s = .next t ∧ t.pwr.phase = .stage 1 ∧ t.pwr.rails = 1 ∧ t.get GLB.coldCause = 2)

/-- WAKE_N_LOW, PCIE_WAKE on the manager, LANE_WAKE of a powered receiver whose WAKE_SRC takes what is detected, and
LINK_WAKE of at least one group by a write that takes effect take a unit in SLEEP to the oscillator stage, and a unit
in DEEP to the regulator stage with every rail asserted; ORBIT_FRAME_WAKE does so from SLEEP and TEMP_WAKE from DEEP.
PWR_WAKESRC.KIND then names the source, LANE the lane-end of a LANE_WAKE, and WAKE is set. Of the four that name no
lane and no group, no more changes than the power controller's record and the registers PWR_STAT, PWR_EVENT,
PWR_WAKESRC, PWR_DVFS and PWR_WAKE_CNT. A port in QUIET goes to WAKING where a LANE_WAKE acts on a position that it
uses or a LINK_WAKE names it, whatever state the unit is in. -/
def Obligations.WakeSourcesEndSleepAndDeep : Prop :=
  (∀ s : State, s.pwr.phase = .sleep → ∃ t, exec .wakeNLow s = .next t ∧ t.pwr.phase = .stage 2 ∧
    t.get PWR.wsKind = 4 ∧ (t.reg PWR.event).getLsbD 1 = true) ∧
  (∀ s : State, s.pwr.phase = .deep → ∃ t, exec .wakeNLow s = .next t ∧ t.pwr.phase = .stage 1 ∧ t.pwr.rails = 31 ∧
    t.get PWR.wsKind = 4 ∧ (t.reg PWR.event).getLsbD 1 = true) ∧
  (∀ s : State, s.pwr.phase = .sleep → s.manager = true → ∃ t, exec .pcieWake s = .next t ∧ t.pwr.phase = .stage 2 ∧
    t.get PWR.wsKind = 5 ∧ (t.reg PWR.event).getLsbD 1 = true) ∧
  (∀ s : State, s.pwr.phase = .deep → s.manager = true → ∃ t, exec .pcieWake s = .next t ∧ t.pwr.phase = .stage 1 ∧
    t.pwr.rails = 31 ∧ t.get PWR.wsKind = 5 ∧ (t.reg PWR.event).getLsbD 1 = true) ∧
  (∀ s : State, s.pwr.phase = .deep → ∃ t, exec .tempWake s = .next t ∧ t.pwr.phase = .stage 1 ∧ t.pwr.rails = 31 ∧
    t.get PWR.wsKind = 6 ∧ (t.reg PWR.event).getLsbD 1 = true) ∧
  (∀ s : State, s.pwr.phase = .sleep → ∃ t, exec .orbitFrameWake s = .next t ∧ t.pwr.phase = .stage 2 ∧
    t.get PWR.wsKind = 3 ∧ (t.reg PWR.event).getLsbD 1 = true) ∧
  (∀ (s : State) (sd : Side) (p : Pos) (c : Bool), s.pwr.phase = .sleep → s.pwr.rails.testBit 0 = true →
    s.laneWakes (laneIdx sd p) c = true → ∃ t, exec (.laneWake sd p c) s = .next t ∧ t.pwr.phase = .stage 2 ∧
    t.get PWR.wsKind = 1 ∧ t.get PWR.wsLane = laneIdx sd p ∧ (t.reg PWR.event).getLsbD 1 = true) ∧
  (∀ (s : State) (sd : Side) (p : Pos) (c : Bool), s.pwr.phase = .deep → s.pwr.rails.testBit 0 = true →
    s.laneWakes (laneIdx sd p) c = true → ∃ t, exec (.laneWake sd p c) s = .next t ∧ t.pwr.phase = .stage 1 ∧
    t.pwr.rails = 31 ∧ t.get PWR.wsKind = 1 ∧ t.get PWR.wsLane = laneIdx sd p ∧
    (t.reg PWR.event).getLsbD 1 = true) ∧
  (∀ (s : State) (g : BitVec 4), s.pwr.phase = .sleep → s.writeTakes PWR.ctrl = true → g ≠ 0#4 → ∃ t,
    exec (.linkWake g) s = .next t ∧ t.pwr.phase = .stage 2 ∧ t.get PWR.wsKind = 7 ∧
    (t.reg PWR.event).getLsbD 1 = true) ∧
  (∀ (s : State) (g : BitVec 4), s.pwr.phase = .deep → s.writeTakes PWR.ctrl = true → g ≠ 0#4 → ∃ t,
    exec (.linkWake g) s = .next t ∧ t.pwr.phase = .stage 1 ∧ t.pwr.rails = 31 ∧ t.get PWR.wsKind = 7 ∧
    (t.reg PWR.event).getLsbD 1 = true) ∧
  (∀ (s : State) (c : Instr), c ∈ [.wakeNLow, .pcieWake, .tempWake, .orbitFrameWake] →
    s.pwr.phase = .sleep ∨ s.pwr.phase = .deep → ∃ t, exec c s = .next t ∧ Framed (fun x => { x with pwr := Pwr.reset })
    [PWR.stat, PWR.event, 0x20014, PWR.dvfs, PWR.wakeCnt, PWR.wakeCnt + 4] s t) ∧
  (∀ (s : State) (sd : Side) (p : Pos) (c : Bool) (g : Port) (n : Nat), s.pwr.rails.testBit 0 = true →
    s.laneWakes (laneIdx sd p) c = true → s.carried (laneIdx sd p / 34) (laneIdx sd p % 34) = some (g.val, n) →
    s.get (PWR.lpstat g) = 2 → ∃ t, exec (.laneWake sd p c) s = .next t ∧ t.get (PWR.lpstat g) = 3) ∧
  (∀ (s : State) (m : BitVec 4) (g : Port), s.writeTakes PWR.ctrl = true → m.toNat.testBit g = true →
    s.get (PWR.lpstat g) = 2 → ∃ t, exec (.linkWake m) s = .next t ∧ t.get (PWR.lpstat g) = 3)

/-- An LPWR flit has TYPE 9, SEQ 0, TAG_V 0 and a valid CRC, with the tag zero besides (log entry 44, the model's
reading); OP is the low two bits of its payload. On an enabled CFL port group in G or F mode that is ON, an
ENTER_REQ seen by an engine is noted beside one of the other direction. After it an ENTER_ACK that the other engine
sees makes the port AGREED, and an ENTER_NAK there ends that request; any other ENTER_ACK or ENTER_NAK, the reserved
OP, a flit that is no LPWR flit, and every LPWR flit of a port that is not ON, not CFL, not enabled or in T mode
change nothing. LP_AGREE_TIMEOUT of an AGREED port without silence on both sides takes it back to ON and raises
LP_CANCEL. LP_QUIET of an AGREED port with silence on both sides and no flit deferred, queued or being replayed
takes it to QUIET with no replay slot valid and raises LP_QUIET, before the lane-ends follow. LP_WAKE_TIMEOUT of a
WAKING port raises LP_WAKE_FAIL, takes the port back to ON and loses each segment without codeword lock, both of two
in UP at once, before what goes on follows. In other states, LP_AGREE_TIMEOUT with silence on both sides, and LP_QUIET
without it or with a flit left, the three change nothing. -/
def Obligations.LowPowerAgreement : Prop :=
  (∀ f : Flit, lpwrGood f = true ↔ flitType f = 9 ∧ flitSeq f = 0 ∧ flitTagV f = false ∧ f.tag = 0 ∧
    crcMatches f = true) ∧
  (∀ (s : State) (e : Eng) (g : Port) (f : Flit), lpwrGood f = true → lpwrOp f = 0 → s.on (GLB.en g) = true →
    s.cfl g = true → s.pers g ≠ 0 → s.get (PWR.lpstat g) = 0 → ∃ t, exec (.lpwrFlit e g f) s = .next t ∧
    (t.port g).lpReq = ((s.port g).lpReq ||| 2 ^ e.idx) ∧
    t = { s with ports := t.ports }) ∧
  (∀ (s : State) (e : Eng) (g : Port) (f : Flit), lpwrGood f = true → lpwrOp f = 1 → s.on (GLB.en g) = true →
    s.cfl g = true → s.pers g ≠ 0 → s.get (PWR.lpstat g) = 0 → (s.port g).lpReq.testBit (1 - e.idx) = true → ∃ t,
    exec (.lpwrFlit e g f) s = .next t ∧
    t.get (PWR.lpstat g) = 1 ∧ (t.port g).lpReq = 0 ∧ (∀ a, a ≠ 0x20020 + 4 * g.val → t.reg a = s.reg a) ∧
    t = { s with ports := t.ports, regs := t.regs }) ∧
  (∀ (s : State) (e : Eng) (g : Port) (f : Flit), lpwrGood f = true → lpwrOp f = 2 → s.on (GLB.en g) = true →
    s.cfl g = true → s.pers g ≠ 0 → s.get (PWR.lpstat g) = 0 → (s.port g).lpReq.testBit (1 - e.idx) = true → ∃ t,
    exec (.lpwrFlit e g f) s = .next t ∧
    (t.port g).lpReq.testBit (1 - e.idx) = false ∧
    (t.port g).lpReq.testBit e.idx = (s.port g).lpReq.testBit e.idx ∧ t = { s with ports := t.ports }) ∧
  (∀ (s : State) (e : Eng) (g : Port) (f : Flit), lpwrGood f = false ∨ s.on (GLB.en g) = false ∨ s.cfl g = false ∨
    s.pers g = 0 ∨ s.get (PWR.lpstat g) ≠ 0 ∨ lpwrOp f = 3 ∨
    (lpwrOp f ≠ 0 ∧ (s.port g).lpReq.testBit (1 - e.idx) = false) → exec (.lpwrFlit e g f) s = .next s) ∧
  (∀ (s : State) (g : Port), s.get (PWR.lpstat g) = 1 → (s.lossAll g 0 && s.lossAll g 1) = false → ∃ t,
    exec (.lpAgreeTimeout g) s = .next t ∧ t.get (PWR.lpstat g) = 0 ∧ (t.reg PWR.event).getLsbD 7 = true ∧
    Framed (fun x => { x with ports := [] }) [0x20020 + 4 * g.val, PWR.event] s t) ∧
  (∀ (s : State) (g : Port), s.get (PWR.lpstat g) = 1 → s.lossAll g 0 = true → s.lossAll g 1 = true →
    (∀ e ∈ [0, 1], (s.eng e g).defer = [] ∧ (s.eng e g).queue = [] ∧ (s.eng e g).replay = []) → ∃ u : State,
    exec (.lpQuiet g) s = .next (u.settlePower).settleCauses ∧ u.get (PWR.lpstat g) = 2 ∧
    (u.reg PWR.event).getLsbD 5 = true ∧
    ∀ e ∈ [0, 1], (u.eng e g).slots.all (fun x => !x.valid) = true) ∧
  (∀ (s : State) (g : Port), s.get (PWR.lpstat g) = 3 →
    s.on (DIR.cwLock 0 g) = true ∨ s.on (DIR.cwLock 1 g) = true ∨ s.bothUp g = false →
    exec (.lpWakeTimeout g) s = .next
    (([0, 1].foldl (fun t sd => if s.on (DIR.cwLock (inEngine sd) g) then t else t.segLost g sd 0 caLost)
      ((s.raise PWR.event 8).lpClear g)).goOn)) ∧
  (∀ (s : State) (g : Port), s.get (PWR.lpstat g) = 3 → s.on (DIR.cwLock 0 g) = false →
    s.on (DIR.cwLock 1 g) = false → s.bothUp g = true → exec (.lpWakeTimeout g) s = .next
    ((((s.raise PWR.event 8).lpClear g).bothLost g caLost).goOn)) ∧
  (∀ (s : State) (g : Port), ((s.raise PWR.event 8).lpClear g).get (PWR.lpstat g) = 0 ∧
    (((s.raise PWR.event 8).lpClear g).reg PWR.event).getLsbD 8 = true) ∧
  (∀ (s : State) (g : Port), s.get (PWR.lpstat g) ≠ 1 ∨ (s.lossAll g 0 = true ∧ s.lossAll g 1 = true) →
    exec (.lpAgreeTimeout g) s = .next s) ∧
  (∀ (s : State) (g : Port), s.get (PWR.lpstat g) ≠ 1 ∨ s.lossAll g 0 = false ∨ s.lossAll g 1 = false ∨
    (∃ e ∈ [0, 1], (s.eng e g).defer ≠ [] ∨ (s.eng e g).queue ≠ [] ∨ (s.eng e g).replay ≠ []) →
    exec (.lpQuiet g) s = .next s) ∧
  (∀ (s : State) (g : Port), s.get (PWR.lpstat g) ≠ 3 → exec (.lpWakeTimeout g) s = .next s)

/-- LANE_END_ACTIVATE in RUN of a lane-end that is not ACTIVE, that R398 gives ACTIVE and whose turn it is in the order
of R410 starts its island and changes nothing else; before its turn nothing changes. LANE_END_ACTIVE of a started
island makes the lane-end ACTIVE, with its foreground calibration running where it has not yet run; so it is said where
nothing is owed on its return: no sweep, and no verdict that fell due. COMET_END ends a transmitter's Comet and changes
nothing else. -/
def Obligations.LaneEndsBecomeActive : Prop :=
  (∀ (s : State) (sd : Side) (p : Pos), s.pwr.phase = .run → s.wantPwr (laneIdx sd p) = 2 →
    s.rxActive (laneIdx sd p) = false → s.startsNext .rx (laneIdx sd p) = true → ∃ t,
    exec (.laneEndActivate .rx sd p) s = .next t ∧ (t.rxe (laneIdx sd p)).starting = true ∧ t = { s with rx := t.rx } ∧
    ∀ i, i ≠ laneIdx sd p → t.rxe i = s.rxe i) ∧
  (∀ (s : State) (sd : Side) (p : Pos), s.pwr.phase = .run → s.wantPwr (laneIdx sd p) = 2 →
    s.txActive (laneIdx sd p) = false → s.startsNext .tx (laneIdx sd p) = true → ∃ t,
    exec (.laneEndActivate .tx sd p) s = .next t ∧ (t.txe (laneIdx sd p)).starting = true ∧ t = { s with tx := t.tx } ∧
    ∀ i, i ≠ laneIdx sd p → t.txe i = s.txe i) ∧
  (∀ (s : State) (fn : LaneFn) (sd : Side) (p : Pos), s.startsNext fn (laneIdx sd p) = false →
    exec (.laneEndActivate fn sd p) s = .next s) ∧
  (∀ (s : State) (sd : Side) (p : Pos), s.wantPwr (laneIdx sd p) = 2 → (s.rxe (laneIdx sd p)).starting = true →
    (s.rxe (laneIdx sd p)).fgDone = false ∨ s.sweepDue (laneIdx sd p) = false → (s.rxe (laneIdx sd p)).due = false →
    ∃ t, exec (.laneEndActive .rx sd p) s = .next t ∧ t.rxActive (laneIdx sd p) = true ∧
    (t.rxe (laneIdx sd p)).fg = !(s.rxe (laneIdx sd p)).fgDone ∧ (t.rxe (laneIdx sd p)).starting = false ∧
    (∀ i, i ≠ laneIdx sd p → t.rxe i = s.rxe i) ∧
    (∀ n, n ≠ laneIdx sd p → t.causes.testBit n = s.causes.testBit n) ∧
    Framed (fun x => { x with rx := [], causes := 0 })
    [(LRX.pwr (laneIdx sd p)).addr, (LRX.precode (laneIdx sd p)).addr] s t) ∧
  (∀ (s : State) (sd : Side) (p : Pos), s.wantPwr (laneIdx sd p) = 2 → (s.txe (laneIdx sd p)).starting = true →
    (s.txe (laneIdx sd p)).fgDone = false ∨ s.sweepDue (laneIdx sd p) = false → (s.txe (laneIdx sd p)).dues = [] →
    ∃ t, exec (.laneEndActive .tx sd p) s = .next t ∧ t.txActive (laneIdx sd p) = true ∧
    (t.txe (laneIdx sd p)).fg = !(s.txe (laneIdx sd p)).fgDone ∧ (t.txe (laneIdx sd p)).starting = false ∧
    ((s.txe (laneIdx sd p)).fgDone = false ∨ (s.ltRunning (laneIdx sd p) = false ∧
      s.posState (laneIdx sd p / 34) (laneIdx sd p % 34) ≠ 3) → t.rx = s.rx) ∧
    (∀ i, i ≠ laneIdx sd p → t.txe i = s.txe i ∧ t.rxe i = s.rxe i) ∧
    (∀ n, n ≠ 68 + laneIdx sd p → t.causes.testBit n = s.causes.testBit n) ∧
    Framed (fun x => { x with tx := [], rx := [], causes := 0 })
    [(LTX.pwr (laneIdx sd p)).addr, (LRX.precode (laneIdx sd p)).addr] s t) ∧
  (∀ (s : State) (sd : Side) (p : Pos), ∃ t, exec (.cometEnd sd p) s = .next t ∧
    (t.txe (laneIdx sd p)).comet = false ∧ t = { s with tx := t.tx } ∧
    ∀ i, i ≠ laneIdx sd p → t.txe i = s.txe i)

/-- DVFS_REQUEST in RUN with no change in progress: where VID is below what the point needs, it drives that VID and sets
BUSY, and it does the same where the VID for a higher point is driven and was not confirmed; where not, and VID or
the point in use differs from what is wanted, it sets BUSY and leaves VID and the point in use as they are. While a
change is in progress the request waits. VREADY_SAMPLE high and VOLTAGE_READY of a raise let the clock wait run;
DVFS_CLOCK_RAISE then takes the point, clears BUSY and raises DVFS_DONE. CLOCK_SWITCH_DONE of a lowering takes the
point and only then the lower VID, clears BUSY and raises DVFS_DONE. VID_TIMEOUT ends a raise with the cause of
VID_TIMEOUT present, the point in use as it was and BUSY clear. The endings are those with no request waiting. That
an unconfirmed VID is driven again is the model's choice (log entry 44). -/
def Obligations.VoltageAndFrequencyChanges : Prop :=
  (∀ (s : State) (pt : BitVec 2), s.pwr.phase = .run → s.safe = false → s.pwr.dvfs = .idle →
    s.get PWR.vid < s.vidFor (s.runFloor pt.toNat) → ∃ t, exec (.dvfsRequest pt) s = .next t ∧
    t.get PWR.corePt = pt.toNat ∧ t.pwr.dvfs = .raising ∧ t.on PWR.dvfsBusy = true ∧
    t.get PWR.vid = s.vidFor (s.runFloor pt.toNat) ∧ t.get PWR.curPt = s.get PWR.curPt ∧
    (∀ a, a ≠ PWR.dvfs → t.reg a = s.reg a) ∧ t = { s with regs := t.regs, pwr := t.pwr, out := t.out }) ∧
  (∀ (s : State) (pt : BitVec 2), s.pwr.phase = .run → s.safe = false → s.pwr.dvfs = .idle →
    s.vidFor (s.runFloor pt.toNat) ≤ s.get PWR.vid →
    s.vidFor (s.runFloor pt.toNat) ≤ s.pwr.okVid ∨ pt.toNat ≤ s.get PWR.curPt →
    s.get PWR.vid ≠ s.vidFor (s.runFloor pt.toNat) ∨ s.get PWR.curPt ≠ pt.toNat → ∃ t,
    exec (.dvfsRequest pt) s = .next t ∧ t.get PWR.corePt = pt.toNat ∧ t.pwr.dvfs = .lowering ∧
    t.pwr.point = pt.toNat ∧ t.on PWR.dvfsBusy = true ∧ t.get PWR.vid = s.get PWR.vid ∧
    t.get PWR.curPt = s.get PWR.curPt ∧ (∀ a, a ≠ PWR.dvfs → t.reg a = s.reg a) ∧
    t = { s with regs := t.regs, pwr := t.pwr }) ∧
  (∀ (s : State) (pt : BitVec 2), s.pwr.phase = .run → s.safe = false → s.pwr.dvfs = .idle →
    s.pwr.okVid < s.vidFor (s.runFloor pt.toNat) → s.get PWR.curPt < pt.toNat →
    ∃ t, exec (.dvfsRequest pt) s = .next t ∧
    t.pwr.dvfs = .raising ∧ t.get PWR.vid = s.vidFor (s.runFloor pt.toNat) ∧ t.get PWR.curPt = s.get PWR.curPt) ∧
  (∀ (s : State) (pt : BitVec 2), s.pwr.phase = .run → s.safe = false → s.pwr.dvfs ≠ .idle → ∃ t,
    exec (.dvfsRequest pt) s = .next t ∧ t.get PWR.corePt = pt.toNat ∧ t.pwr = { s.pwr with next := true } ∧
    (∀ a, a ≠ PWR.dvfs → t.reg a = s.reg a) ∧ t = { s with regs := t.regs, pwr := t.pwr }) ∧
  (∀ s : State, s.pwr.dvfs = .raising → (∃ t, exec (.vreadySample true) s = .next t ∧
    t = { s with pwr := { s.pwr with dvfs := .settling, okVid := s.get PWR.vid } }) ∧
    (∃ t, exec .voltageReady s = .next t ∧
      t = { s with pwr := { s.pwr with dvfs := .settling, okVid := s.get PWR.vid } })) ∧
  (∀ s : State, exec (.vreadySample false) s = .next s) ∧
  (∀ s : State, s.pwr.dvfs = .settling → s.pwr.next = false → ∃ t, exec .dvfsClockRaise s = .next t ∧
    t.get PWR.curPt = s.pwr.point % 4 ∧ t.pwr.dvfs = .idle ∧ t.on PWR.dvfsBusy = false ∧
    (t.reg PWR.event).getLsbD 9 = true ∧
    Framed (fun x => { x with pwr := { x.pwr with dvfs := .idle } }) [PWR.dvfs, PWR.event] s t) ∧
  (∀ s : State, s.pwr.dvfs = .lowering → s.pwr.next = false → ∃ t, exec .clockSwitchDone s = .next t ∧
    t.get PWR.curPt = s.pwr.point % 4 ∧ t.get PWR.vid = s.vidFor (s.runFloor s.pwr.point) ∧ t.pwr.dvfs = .idle ∧
    t.on PWR.dvfsBusy = false ∧ (t.reg PWR.event).getLsbD 9 = true ∧
    Framed (fun x => { x with pwr := { x.pwr with dvfs := .idle, okVid := 0 } }) [PWR.dvfs, PWR.event] s t) ∧
  (∀ s : State, s.pwr.dvfs = .raising → s.pwr.next = false → ∃ t, exec .vidTimeout s = .next t ∧
    t.pwr.dvfs = .idle ∧ t.on PWR.dvfsBusy = false ∧ t.causes.testBit 178 = true ∧
    t.get PWR.curPt = s.get PWR.curPt)

/-- FIRMWARE_READY of a booting core with no FW_LOAD under way sets FW_READY and GLB_FWVER, confirms a trial, and ends
Configuration Request Retry Status, before the operations of OP frames that waited begin. FW_TRIAL_TIMEOUT of a booting trial image makes the other slot active and raises
FW_FALLBACK; the core boots from it where its image is valid. FW_WRITE_DONE of the one FW_LOAD, a complete WRITE,
leaves the other slot valid where the signature verifies and the security version is not below the fused minimum,
and the flash as it was where not. A boot control block is written to the copy that does not govern, whose sequence
number and good CRC then make it govern. CFG_RECORD_APPLY after a cold start: a bad record gives CFGREC 2 and raises
CFGREC_BAD; a good record of one write entry writes its register as software would and gives CFGREC 1, unless the
write resets or stops the core, and one that writes 1 to MRESET gives CFGREC 3; one whose only entry waits leaves
the record in progress, and CFG_RECORD_WAIT_EXPIRY then ends it with CFGREC 1. The fused minimum has no stated value
(log entry 5). -/
def Obligations.FirmwareStartsAndLoads : Prop :=
  (∀ (s : State) (v : Word), s.core.st = .booting → s.pwr.phase = .run → s.core.loads = [] → ∃ u : State, exec
    (.firmwareReady v) s = .next u.waitingGo ∧ u.core.st = .ready ∧ u.on GLB.fwReady = true ∧ u.reg GLB.fwver = v ∧
    u.pcie.crs = false ∧ u.flash.active = s.flash.active ∧ Framed (fun x =>
    { x with core := Core.reset, pcie := Pcie.reset, flash := s.flash }) [0x20C, GLB.fwver] s u) ∧
  (∀ (s : State) (v : Word), s.core.st = .booting → s.pwr.phase = .run → s.core.loads = [] → s.core.trialRun = true →
    ∃ u : State, exec (.firmwareReady v) s = .next u.waitingGo ∧ u.flash.trial = false ∧ u.on GLB.trial = false) ∧
  (∀ (s : State), s.core.st = .booting → s.core.trialRun = true → s.on GLB.testMode = false → s.flash.valid.testBit
    (1 - s.flash.active) = true → ∃ t, exec .fwTrialTimeout s = .next t ∧ t.flash.active = 1 - s.flash.active ∧
    t.flash.trial = false ∧ t.core.st = .booting ∧ t.core.trialRun = false ∧ t.get GLB.runSlot = (1 - s.flash.active)
    % 2 ∧ (t.reg GLB.event).getLsbD 12 = true ∧ Framed (fun x => { x with core := Core.reset, flash := s.flash })
    [0x20C, GLB.event] s t) ∧
  (∀ (s : State) (l : FwLoad) (c : ImageCheck), s.core.loads = [l] → l.activate = false → l.image.length = l.length →
    c.signature = true → Config.minSecurity ≤ c.security → ∃ t, exec (.fwWriteDone c) s = .next t ∧
    t.flash.valid = s.flash.valid ||| 2 ^ (1 - s.flash.active) ∧ t.flash.active =
    s.flash.active ∧ t.core.loads = []) ∧
  (∀ (s : State) (l : FwLoad) (c : ImageCheck), s.core.loads = [l] → l.activate = false → l.image.length = l.length →
    c.signature = false ∨ c.security < Config.minSecurity → ∃ t, exec (.fwWriteDone c) s = .next t ∧
    t.flash = s.flash ∧ t.core.loads = []) ∧
  (∀ (f : Flash) (b : Bool), (f.write (boolNat b) true).governs.slotB = b ∧
    (f.write (boolNat b) true).governs.good = true ∧ (f.write (boolNat b) true).governs.seq = f.governs.seq + 1 ∧
    ((f.write (boolNat b) true).copy0 = f.governs ∨ (f.write (boolNat b) true).copy1 = f.governs)) ∧
  (∀ (s : State) (r : CfgRecord), s.coreReady = true → s.core.cold = true → s.core.record = [] → s.on
    GLB.strapCfgSkip = false → recordFits r = true → recordGood r = false → ∃ t, exec (.cfgRecordApply r) s = .next t
    ∧ t.get GLB.cfgrec = 2 ∧ t.core.cold = false ∧ (t.reg GLB.event).getLsbD 13 = true ∧ Framed (fun x =>
    { x with core := Core.reset }) [0x20C, GLB.event] s t) ∧
  (∀ (s : State) (r : CfgRecord) (e : BitVec 64), s.coreReady = true → s.core.cold = true → s.core.record = [] → s.on
    GLB.strapCfgSkip = false → recordGood r = true → r.entries = [e] → bitsOf e.toNat 24 8 = 0 → bitsOf e.toNat 0 24
    % 4 = 0 → ∃ u : State, u = { s with core := { s.core with record := [e] } }.swSet (bitsOf e.toNat 0 24)
    (BitVec.ofNat 32 (e.toNat / 2 ^ 32)) ∧ (u.core.record ≠ [] → ∃ t, exec (.cfgRecordApply r) s = .next t ∧
    t.get GLB.cfgrec = 1 ∧ t.core.record = [] ∧ t.core.cold = false ∧ ∀ a, a ≠ 0x20C → t.reg a = u.reg a) ∧
    (u.core.record = [] → exec (.cfgRecordApply r) s = .next u)) ∧
  (∀ (s : State) (r : CfgRecord) (e : BitVec 64), s.coreReady = true → s.core.cold = true → s.core.record = [] → s.on
    GLB.strapCfgSkip = false → recordGood r = true → r.entries = [e] → bitsOf e.toNat 24 8 = 0 →
    bitsOf e.toNat 0 24 = GLB.rstctrl → bitOf (e.toNat / 2 ^ 32) 2 = true → s.writeTakes GLB.rstctrl = true → ∃ t,
    exec (.cfgRecordApply r) s = .next t ∧ t.get GLB.cfgrec = 3 ∧ t.core.record = [] ∧ t.get GLB.mrstCause = 4) ∧
  (∀ (s : State) (r : CfgRecord) (e : BitVec 64), s.coreReady = true → s.core.cold = true → s.core.record = [] → s.on
    GLB.strapCfgSkip = false → recordGood r = true → r.entries = [e] → bitsOf e.toNat 24 8 = 1 → BitVec.ofNat 32
    (e.toNat / 2 ^ 32) ≠ 0 → ∃ t, exec (.cfgRecordApply r) s = .next t ∧ t.core.record = [0] ∧ t =
    { s with core := t.core }) ∧
  (∀ (s : State) (e : BitVec 64), s.coreReady = true → s.core.record = [e] → ∃ t, exec .cfgRecordWaitExpiry s = .next
    t ∧ t.core.record = [] ∧ t.core.cold = false ∧ t.get GLB.cfgrec = 1 ∧ Framed (fun x =>
    { x with core := Core.reset }) [0x20C] s t)

/-- While the unit is supplied, MRESET_N_ASSERT, GLB_MRESET by a write that takes effect, PCIE_HOT_RESET without a
surprise down and PERST_N_ASSERT on the manager, and CTRL_MRESET on a worker that a whole frame addresses, alone or
as a broadcast, set GLB_RSTSTAT.MRST_CAUSE to 1, 4, 2, 2 and 3; the power controller's phase, for PERST_N in RUN
since it wakes the unit, the Orbit chain's record, the banks, the streams and the Tx PLLs stay. On the manager
Configuration Request Retry Status holds again and the link is down. A surprise down sets its bit of the AER
uncorrectable status besides, with the same cause. On a worker PCIE_HOT_RESET and PERST_N_ASSERT change nothing. FLR
on the manager resets the function's configuration but for the AER status, masks and severities, and event groups,
and leaves the core's progress and its flash alone. That AER status, masks and severities are kept, and which bit a
surprise down sets, is the model's choice (log entry 41). -/
def Obligations.ManagementResetsKeepTheDataPath : Prop :=
  (∀ (s : State) (mid : Bool), s.supplied = true → ∃ t, exec (.mresetNAssert mid) s = .next t ∧
    t.get GLB.mrstCause = 1 ∧
    t.pwr.phase = s.pwr.phase ∧ t.orbit = s.orbit ∧ t.banks = s.banks ∧ t.streams = s.streams ∧ t.plls = s.plls ∧
    (s.manager = true → t.pcie.crs = true ∧ t.on RNG.dlUp = false)) ∧
  (∀ (s : State) (mid : Bool), s.writeTakes GLB.rstctrl = true → s.fileUp = true → ∃ t, exec (.glbMreset mid) s = .next
    t ∧
    t.get GLB.mrstCause = 4 ∧ t.pwr.phase = s.pwr.phase ∧ t.orbit = s.orbit ∧ t.banks = s.banks ∧ t.streams = s.streams
    ∧ t.plls = s.plls ∧
    (s.manager = true → t.pcie.crs = true ∧ t.on RNG.dlUp = false)) ∧
  (∀ (s : State) (c : Instr), s.manager = true → s.supplied = true → c = .pcieHotReset false ∨ c = .perstNAssert → ∃ t,
    exec c s = .next t ∧ t.get GLB.mrstCause = 2 ∧
    (c = .pcieHotReset false ∨ s.pwr.phase = .run → t.pwr.phase = s.pwr.phase) ∧ t.orbit = s.orbit ∧ t.banks = s.banks ∧
    t.streams = s.streams ∧ t.plls = s.plls ∧
    t.pcie.crs = true ∧ t.on RNG.dlUp = false) ∧
  (∀ s : State, s.manager = true → s.supplied = true → ∃ t, exec (.pcieHotReset true) s = .next t ∧
    t.get GLB.mrstCause = 2 ∧ t.pcie.crs = true ∧ t.on RNG.dlUp = false ∧ t.pcie.aerUncorr.getLsbD 5 = true) ∧
  (∀ (s : State) (p : OrbPort) (f : Frame) (mid : Bool), s.workerHears p = true → s.toMe p f = true →
    frameGood f = true → s.supplied = true → ∃ t, exec (.ctrlMreset p f mid) s = .next t ∧ t.get GLB.mrstCause = 3 ∧
    t.pwr.phase = s.pwr.phase ∧ t.orbit = s.orbit ∧ t.banks = s.banks ∧ t.streams = s.streams ∧ t.plls = s.plls) ∧
  (∀ (s : State) (p : OrbPort) (f : Frame) (mid : Bool), s.workerHears p = true → f.dest = 0xFF →
    p = s.outboundIn ∨ s.on ORB.addrValid = false → frameGood f = true → s.supplied = true → ∃ t,
    exec (.ctrlMreset p f mid) s = .next t ∧ t.get GLB.mrstCause = 3 ∧ t.pwr.phase = s.pwr.phase ∧ t.orbit = s.orbit ∧
    t.banks = s.banks ∧ t.streams = s.streams ∧ t.plls = s.plls) ∧
  (∀ (s : State) (b : Bool), s.manager = false → exec (.pcieHotReset b) s = .next s ∧ exec .perstNAssert s = .next s) ∧
  (∀ s : State, s.manager = true → s.fileUp = true → ∃ t, exec .flr s = .next t ∧ t.pcie = { Pcie.reset with
    crs := s.pcie.crs, crsEnd := s.pcie.crsEnd, aerUncorr := s.pcie.aerUncorr, aerCorr := s.pcie.aerCorr,
    aerMask := s.pcie.aerMask, aerSev := s.pcie.aerSev, aerCorrMask := s.pcie.aerCorrMask } ∧
    (∀ n, n < 13 → t.reg (RNG.evgrp n) = 0) ∧ t.core.st = s.core.st ∧ t.flash = s.flash ∧
    t.pwr.phase = s.pwr.phase ∧ t.orbit = s.orbit ∧ t.get GLB.mrstCause = s.get GLB.mrstCause)

/-- ENG_RESET of an engine holds it, with GLB_RSTSTAT busy, before the follow-up of its lost segments; ENGINE_RELEASE
clears both busy bits and changes nothing else, before the segments of enabled groups go on from the state they are
in. LANE_END_RESET_HOLD by a write that takes effect, on a position that is not isolated, in use or held by
maintenance, sets its bit of GLB_LERST before power management follows; LANE_END_RESET_RELEASE of a held position
clears the bit, drops CDR lock and marker lock, hunts for markers and recentres both FIFOs (that a FIFO is reset to
its middle is the model's choice, log entry 29), before what follows. Either on an isolated position, one in use or
one held by maintenance raises event 0 of GLB_EVENT and changes nothing else, and one that asks for what the bit
already holds changes nothing. -/
def Obligations.EngineAndLaneEndResets : Prop :=
  (∀ (s : State) (ab ba : Bool), s.writeTakes GLB.rstctrl = true → ab = true ∨ ba = true → ∃ u : State, exec
    (.engReset ab ba) s = .next (u.goOn) ∧ (ab = true → u.on (GLB.engBusy 0) = true) ∧ (ba = true → u.on (GLB.engBusy
    1) = true)) ∧
  (∀ (s : State), ∃ u t : State, u.on (GLB.engBusy 0) = false ∧ u.on (GLB.engBusy 1) = false ∧ Framed id [0x208] s u ∧
    exec .engineRelease s = .next t ∧ t.on (GLB.engBusy 0) = false ∧ t.on (GLB.engBusy 1) = false ∧
    t = (u.each [0, 1, 2, 3] (fun g x => if x.on (GLB.en g) then
      x.each (x.portKeys g) (fun k y => (y.segEval g 0 k).segEval g 1 k) else x)).goOn) ∧
  (∀ (s : State) (sd : Side) (p : Pos), s.writeTakes (GLB.lerstReg sd.idx (p / 32)) = true → s.on (GLB.lerst (laneIdx
    sd p / 34) (laneIdx sd p % 34)) = false → s.lerstRefused (laneIdx sd p) = false → ∃ u : State, exec
    (.laneEndResetHold sd p) s = .next (u.settlePower.goOn) ∧ u.on (GLB.lerst (laneIdx sd p / 34) (laneIdx sd p %
    34)) = true ∧ Framed id [(GLB.lerst (laneIdx sd p / 34) (laneIdx sd p % 34)).addr] s u) ∧
  (∀ (s : State) (sd : Side) (p : Pos), s.writeTakes (GLB.lerstReg sd.idx (p / 32)) = true → s.on (GLB.lerst (laneIdx
    sd p / 34) (laneIdx sd p % 34)) = true → s.lerstRefused (laneIdx sd p) = false → ∃ u : State, exec
    (.laneEndResetRelease sd p) s = .next (u.goOn) ∧ u.on (GLB.lerst (laneIdx sd p / 34) (laneIdx sd p % 34)) = false
    ∧ u.on (LRX.cdrLock (laneIdx sd p)) = false ∧ u.on (LRX.markerLock (laneIdx sd p)) = false ∧ (u.rxe (laneIdx sd
    p)).mark = .hunt ∧ (u.rxe (laneIdx sd p)).fifo = 128 ∧ (u.txe (laneIdx sd p)).fifo = 128 ∧ u.segs = s.segs ∧
    u.keys = s.keys ∧ u.pwr = s.pwr) ∧
  (∀ (s : State) (sd : Side) (p : Pos) (c : Instr) (h : Bool), (c, h) ∈ [(.laneEndResetHold sd p, true),
    (.laneEndResetRelease sd p, false)] → s.writeTakes (GLB.lerstReg sd.idx (p / 32)) = true → s.on (GLB.lerst
    (laneIdx sd p / 34) (laneIdx sd p % 34)) = !h → s.lerstRefused (laneIdx sd p) = true → ∃ t, exec c s = .next t ∧
    (t.reg GLB.event).getLsbD 0 = true ∧ Framed id [GLB.event] s t) ∧
  (∀ (s : State) (sd : Side) (p : Pos), (s.on (GLB.lerst (laneIdx sd p / 34) (laneIdx sd p % 34)) = true →
    exec (.laneEndResetHold sd p) s = .next s) ∧ (s.on (GLB.lerst (laneIdx sd p / 34) (laneIdx sd p % 34)) = false →
    exec (.laneEndResetRelease sd p) s = .next s))

/-- LOS_ASSERT at a running detector, with the amplitude below ASSERT − HYST for LOS_TIME, sets LOS_NOW and FRZ_LOS,
clears COMET_NOW, counts and raises LOS; LOS_CLEAR, with the amplitude above ASSERT for 1 µs, clears LOS_NOW and
COMET_NOW, and FRZ_LOS where the CDR is locked. COMET_DETECT with the signal present sets COMET_NOW. With the detector
off, with another amplitude or a shorter time, the three change nothing. CDR_LOCK of an ACTIVE lane-end with a signal
within 300 ppm sets CDR_LOCK, clears FRZ_LOS and COMET_NOW and holds the frequency, and the first one fixes which UI is
slot 0; at more than 300 ppm, with no signal, or at a lane-end that is not ACTIVE it does nothing but follow up what
holds already. CDR_UNLOCK clears CDR_LOCK and marker lock, counts, raises CDR_UNLOCK, holds the frequency within 300
ppm, and the marker machine hunts. Nothing outside that lane-end changes, before the follow-up in the fault collector
and, after an unlock, in the port's codeword lock and sparing. The model's own choices are the end of COMET_NOW (log
entry 38) and the amplitudes exactly at a threshold, which change nothing. -/
def Obligations.SquelchCometAndClockRecovery : Prop :=
  (∀ (s : State) (sd : Side) (p : Pos) (i mv us : Nat), i = laneIdx sd p → s.detectorOn i = true →
    s.on (LRX.losNow i) = false → mv + s.get (LRX.hyst i) < s.squelchAssert i → s.losTime i ≤ us → ∃ t,
    exec (.losAssert sd p mv us) s = .next t ∧ t.on (LRX.losNow i) = true ∧ t.on (LRX.frzLos i) = true ∧
    t.on (LRX.cometNow i) = false ∧ t.counter (LRX.losCnt i) = (s.counter (LRX.losCnt i) + 1) % 2 ^ 48 ∧
    (t.reg (LRX.event i)).getLsbD 0 = true ∧ (∀ j, j ≠ i → t.rxe j = s.rxe j) ∧ Framed (fun x => { x with rx := [] })
    [LRX.status i, LRX.losCnt i, LRX.losCnt i + 4, LRX.event i] s t) ∧
  (∀ (s : State) (sd : Side) (p : Pos) (i mv us : Nat), i = laneIdx sd p → s.detectorOn i = true →
    s.on (LRX.losNow i) = true → s.squelchAssert i < mv → 1 ≤ us → ∃ t, exec (.losClear sd p mv us) s = .next t ∧
    t.on (LRX.losNow i) = false ∧ t.on (LRX.cometNow i) = false ∧
    (s.on (LRX.cdrLock i) = true → t.on (LRX.frzLos i) = false) ∧
    (s.on (LRX.cdrLock i) = false → t.on (LRX.frzLos i) = s.on (LRX.frzLos i)) ∧ Framed id [LRX.status i] s t) ∧
  (∀ (s : State) (sd : Side) (p : Pos) (i : Nat), i = laneIdx sd p → s.detectorOn i = true →
    s.on (LRX.losNow i) = false → ∃ t, exec (.cometDetect sd p) s = .next t ∧ t.on (LRX.cometNow i) = true ∧
    Framed id [LRX.status i] s t) ∧
  (∀ (s : State) (sd : Side) (p : Pos) (i mv us : Nat), i = laneIdx sd p → s.detectorOn i = false →
    exec (.losAssert sd p mv us) s = .next s ∧ exec (.losClear sd p mv us) s = .next s ∧
    exec (.cometDetect sd p) s = .next s) ∧
  (∀ (s : State) (sd : Side) (p : Pos) (i mv us : Nat), i = laneIdx sd p →
    s.squelchAssert i ≤ mv + s.get (LRX.hyst i) ∨ us < s.losTime i → exec (.losAssert sd p mv us) s = .next s) ∧
  (∀ (s : State) (sd : Side) (p : Pos) (i mv us : Nat), i = laneIdx sd p → mv ≤ s.squelchAssert i ∨ us = 0 →
    exec (.losClear sd p mv us) s = .next s) ∧
  (∀ (s : State) (i : Nat), s.squelchAssert i = max 30 (min 120 (s.get (LRX.assertAt i))) ∧
    s.losTime i = if s.get (LRX.losTime i) = 0 then 1 else s.get (LRX.losTime i)) ∧
  (∀ (s : State) (sd : Side) (p : Pos) (i : Nat) (f : Int), i = laneIdx sd p → s.rxActive i = true →
    s.on (LRX.losNow i) = false → -30000 ≤ f → f ≤ 30000 → ∃ u : State,
    exec (.cdrLock sd p f) s = .next (u.settleCauses.heldCheck) ∧ u.on (LRX.cdrLock i) = true ∧
    u.on (LRX.frzLos i) = false ∧ u.on (LRX.cometNow i) = false ∧ (u.rxe i).freq = f ∧
    (u.rxe i).slotRef = (s.rxe i).slotRef.or (some s.clock) ∧ (∀ j, j ≠ i → u.rxe j = s.rxe j) ∧
    Framed (fun x => { x with rx := [] }) [LRX.status i] s u) ∧
  (∀ (s : State) (sd : Side) (p : Pos) (f : Int), f < -30000 ∨ 30000 < f ∨ s.on (LRX.losNow (laneIdx sd p)) = true ∨
    s.rxActive (laneIdx sd p) = false → exec (.cdrLock sd p f) s = .next (s.settleCauses.heldCheck)) ∧
  (∀ (s : State) (sd : Side) (p : Pos) (i : Nat) (f : Int), i = laneIdx sd p → s.rxActive i = true →
    s.on (LRX.cdrLock i) = true → ∃ u : State,
    exec (.cdrUnlock sd p f) s = .next (((u.cwDropAll sd.idx).settleCauses).goOn) ∧ u.on (LRX.cdrLock i) = false ∧
    u.on (LRX.markerLock i) = false ∧ (u.rxe i).mark = .hunt ∧ (u.rxe i).freq = max (-30000) (min 30000 f) ∧
    u.counter (LRX.unlockCnt i) = (s.counter (LRX.unlockCnt i) + 1) % 2 ^ 48 ∧
    (u.reg (LRX.event i)).getLsbD 1 = true ∧ (∀ j, j ≠ i → u.rxe j = s.rxe j) ∧
    Framed (fun x => { x with rx := [] }) [LRX.status i, LRX.unlockCnt i, LRX.unlockCnt i + 4, LRX.event i] s u)

/-- ADAPT_UPDATE changes nothing under a freeze, while the foreground calibration runs, or in a loopback test, whose
adaptation is not kept (log entry 21, the model's choice). Otherwise it moves a tap, where the taps adapt, and h1 by
the step for its gradient, and gives CTLE_PEAK, where it adapts, VGA and a slot's residual a value, each held within
its range. COEF_WRITE of the analog front end, a tap or h1 takes effect under FRZ_HOST alone, a CTLE_PEAK code above
24 as written (log entry 38, the model's choice). DET_MODE_SWITCH puts a waiting DET_MODE, 3 as 1, into effect at
marker lock. STARVE_WINDOW_END of an ACTIVE receiver that ends a run of WINDOWS starved windows sets FRZ_STARVED,
counts and raises PATTERN_STARVED. RX_FIFO_SLIP of an ACTIVE receiver, with the PLL of its direction in holdover,
recentres the FIFO, marks the 14 RS symbols that the affected word can touch and counts, and elsewhere changes nothing. HISTOGRAM_RUN_START sets RUN, clears DONE and the bins; HISTOGRAM_RUN_DONE of the run in
progress stores its bins, clears RUN and sets DONE, for SRC = 0 with nothing else changed; a run that is not the one
in progress changes nothing, and lists that are not 128 bins long are no command (log entry 36, the model's choice).
COUNTER_LOW_READ of a receiver count latches its high word. -/
def Obligations.AdaptationStarvationAndHistogram : Prop :=
  (∀ (s : State) (sd : Side) (p : Pos) (u : AdaptUpdate), s.freeze (laneIdx sd p) ≠ 0 ∨
    (s.rxe (laneIdx sd p)).fg = true ∨ s.bistHeld.testBit (laneIdx sd p) = true →
    exec (.adaptUpdate sd p u) s = .next s) ∧
  (∀ (s : State) (sd : Side) (p : Pos) (i : Nat) (n : Fin 32) (g : Int), i = laneIdx sd p → s.freeze i = 0 →
    (s.rxe i).fg = false → s.bistHeld.testBit i = false → s.on (LRX.ffeAdaptEn i) = true →
    ∃ t, exec (.adaptUpdate sd p (.tap n g)) s = .next t ∧
    t.getInt (LRX.tap i n) = max (-2048) (min 2047 (s.getInt (LRX.tap i n) +
      Config.adaptStep 0 (s.stepCode i (LRX.muFfe i)) g)) ∧
    Framed (fun x => { x with rx := [] }) [(LRX.tap i n).addr, LRX.status i] s t) ∧
  (∀ (s : State) (sd : Side) (p : Pos) (i : Nat) (g : Int), i = laneIdx sd p → s.freeze i = 0 →
    (s.rxe i).fg = false → s.bistHeld.testBit i = false → ∃ t, exec (.adaptUpdate sd p (.dfe g)) s = .next t ∧
    t.getInt (LRX.dfe i) = max (-256) (min 255 (s.getInt (LRX.dfe i) +
      Config.adaptStep 1 (s.stepCode i (LRX.muDfe i)) g)) ∧
    Framed (fun x => { x with rx := [] }) [(LRX.dfe i).addr, LRX.status i] s t) ∧
  (∀ (s : State) (sd : Side) (p : Pos) (i : Nat) (v : Int), i = laneIdx sd p → s.freeze i = 0 →
    (s.rxe i).fg = false → s.bistHeld.testBit i = false → s.on (LRX.ctleAdapt i) = true →
    ∃ t, exec (.adaptUpdate sd p (.ctle v)) s = .next t ∧
    (t.get (LRX.ctlePeak i) : Int) = max 0 (min 24 v) ∧
    Framed (fun x => { x with rx := [] }) [LRX.afe i, LRX.status i] s t) ∧
  (∀ (s : State) (sd : Side) (p : Pos) (i : Nat) (v : Int), i = laneIdx sd p → s.freeze i = 0 →
    (s.rxe i).fg = false → s.bistHeld.testBit i = false → ∃ t, exec (.adaptUpdate sd p (.vga v)) s = .next t ∧
    (t.get (LRX.vga i) : Int) = max 0 (min 63 v) ∧
    Framed (fun x => { x with rx := [] }) [LRX.afe i, LRX.status i] s t) ∧
  (∀ (s : State) (sd : Side) (p : Pos) (i : Nat) (m : Fin 64) (v : Int), i = laneIdx sd p → s.freeze i = 0 →
    (s.rxe i).fg = false → s.bistHeld.testBit i = false → ∃ t, exec (.adaptUpdate sd p (.residual m v)) s = .next t ∧
    Sparse.get 0 (t.rxe i).residuals m = v ∧ t = { s with rx := t.rx }) ∧
  (∀ (s : State) (sd : Side) (p : Pos) (i : Nat) (n : Fin 32) (v : Word), i = laneIdx sd p →
    s.writeTakes (LRX.tap i n).addr = true → s.on (LRX.adaptFreeze i) = true → ∃ t,
    exec (.coefWrite sd p (.tap n) v) s = .next t ∧ t.get (LRX.tap i n) = v.toNat % 4096 ∧
    Framed (fun x => { x with rx := [] }) [(LRX.tap i n).addr, LRX.status i] s t) ∧
  (∀ (s : State) (sd : Side) (p : Pos) (i : Nat) (v : Word), i = laneIdx sd p →
    s.writeTakes (LRX.dfe i).addr = true → s.on (LRX.adaptFreeze i) = true → ∃ t,
    exec (.coefWrite sd p .dfe v) s = .next t ∧ t.get (LRX.dfe i) = v.toNat % 512 ∧
    Framed (fun x => { x with rx := [] }) [(LRX.dfe i).addr, LRX.status i] s t) ∧
  (∀ (s : State) (sd : Side) (p : Pos) (i : Nat) (v : Word), i = laneIdx sd p →
    s.writeTakes (LRX.afe i) = true → s.on (LRX.adaptFreeze i) = true → ∃ t,
    exec (.coefWrite sd p .afe v) s = .next t ∧ t.get (LRX.ctlePeak i) = v.toNat % 32 ∧
    t.on (LRX.ctleAdapt i) = v.getLsbD 5 ∧ t.get (LRX.vga i) = v.toNat / 256 % 64 ∧
    Framed (fun x => { x with rx := [] }) [LRX.afe i, LRX.status i] s t) ∧
  (∀ (s : State) (sd : Side) (p : Pos) (r : CoefReg) (v : Word), s.on (LRX.adaptFreeze (laneIdx sd p)) = false →
    exec (.coefWrite sd p r v) s = .next s) ∧
  (∀ (s : State) (sd : Side) (p : Pos) (i : Nat), i = laneIdx sd p → (s.rxe i).detPend = true →
    s.on (LRX.markerLock i) = true → ∃ t, exec (.detModeSwitch sd p) s = .next t ∧ (t.rxe i).detPend = false ∧
    (t.rxe i).detCur = (if s.get (LRX.detMode i) = 3 then 1 else s.get (LRX.detMode i)) ∧ t = { s with rx := t.rx }) ∧
  (∀ (s : State) (sd : Side) (p : Pos) (i m n : Nat), i = laneIdx sd p → s.rxActive i = true →
    (s.rxe i).windowBad = false → s.on (LRX.losNow i) = false → s.on (LRX.cdrLock i) = true →
    s.on (LRX.detectEn i) = true → m < 256 ∨ n < 2 ^ 19 → s.get (LRX.windows i) ≤ (s.rxe i).starved + 1 →
    s.on (LRX.frzStarved i) = false → ∃ t, exec (.starveWindowEnd sd p m n) s = .next t ∧
    t.on (LRX.frzStarved i) = true ∧ t.counter (LRX.starveCnt i) = (s.counter (LRX.starveCnt i) + 1) % 2 ^ 48 ∧
    (t.reg (LRX.event i)).getLsbD 2 = true ∧ Framed (fun x => { x with rx := [] })
    [LRX.status i, LRX.starveCnt i, LRX.starveCnt i + 4, LRX.event i] s t) ∧
  (∀ (s : State) (sd : Side) (p : Pos) (i : Nat), i = laneIdx sd p → s.rxActive i = true →
    s.on (GLB.hold (inEngine sd.idx)) = true → ∃ t,
    exec (.rxFifoSlip sd p) s = .next t ∧ (t.rxe i).fifo = 128 ∧ (t.rxe i).marked = (s.rxe i).marked + wordSymbols ∧
    t.counter (LRX.slipCnt i) = (s.counter (LRX.slipCnt i) + 1) % 2 ^ 48 ∧
    Framed (fun x => { x with rx := [] }) [LRX.slipCnt i, LRX.slipCnt i + 4] s t) ∧
  (∀ (s : State) (sd : Side) (p : Pos), s.rxActive (laneIdx sd p) = false ∨
    s.on (GLB.hold (inEngine sd.idx)) = false → exec (.rxFifoSlip sd p) s = .next s) ∧
  (∀ (s : State) (sd : Side) (p : Pos) (i : Nat), i = laneIdx sd p → s.writeTakes (LRX.histcfg i) = true → ∃ t,
    exec (.histogramRunStart sd p) s = .next t ∧ t.on (LRX.run i) = true ∧ t.on (LRX.done i) = false ∧
    (∀ n, n < 128 → t.reg (LRX.hist i n) = 0) ∧ t = { s with regs := t.regs }) ∧
  (∀ (s : State) (sd : Side) (p : Pos) (i : Nat) (r : HistRun), i = laneIdx sd p → r.bins.length = 128 →
    s.histEnds i r = true → s.on (LRX.src i) = false → ∃ t, exec (.histogramRunDone sd p r) s = .next t ∧
    t.on (LRX.run i) = false ∧ t.on (LRX.done i) = true ∧ (∀ n, n < 128 → t.reg (LRX.hist i n) = r.bins.getD n 0) ∧
    t = { s with regs := t.regs }) ∧
  (∀ (s : State) (sd : Side) (p : Pos) (i : Nat) (r : HistRun), i = laneIdx sd p → r.bins.length = 128 →
    s.histEnds i r = true → s.on (LRX.src i) = true → ∃ t, exec (.histogramRunDone sd p r) s = .next t ∧
    t.on (LRX.run i) = false ∧ t.on (LRX.done i) = true ∧ ∀ n, n < 128 → t.reg (LRX.hist i n) = r.bins.getD n 0) ∧
  (∀ (s : State) (sd : Side) (p : Pos) (r : HistRun), r.bins.length = 128 → s.histEnds (laneIdx sd p) r = false →
    exec (.histogramRunDone sd p r) s = .next s) ∧
  (∀ (s : State) (sd : Side) (p : Pos) (r : HistRun), r.bins.length ≠ 128 →
    exec (.histogramRunDone sd p r) s = .fault .illFormed) ∧
  (∀ (s : State) (sd : Side) (p : Pos) (a : Addr), a.toNat = LRX.slipCnt (laneIdx sd p) →
    s.accessStatus a.toNat = stOk → ∃ t, exec (.counterLowRead a) s = .next t ∧ t.latch = s.view (a.toNat + 4) ∧
    t = { s with latch := t.latch })

/-- COMMIT outside training with staged taps whose magnitudes sum to at most 64 is scheduled, with the staged set as it
stands at the write; in training, or with a sum above 64, it is refused with COMMIT_REJ and nothing else changes.
COMMIT_APPLY of a scheduled set applies its taps and its amplitude, gives the main tap 128 less the magnitudes, and
clears COMMIT and COMMIT_REJ, or where a training has come to own the taps discards the set with COMMIT_REJ and no
other effect on them; with nothing scheduled and at each marker boundary the accepted amplitude bias comes into
effect. The staged amplitude is LTX_AMP held within 100 to 250. CELL_REPLACE, with one suspect cell waiting, that
serves, and no calibration pass running, takes the lowest redundant cell into service, retires the suspect and counts;
with no redundant cell it retires the suspect and sets the lane-end's source. ROTATOR_LIMIT of an ACTIVE lane-end at
the limit sets ROT_AT_LIMIT and raises its event. TX_FIFO_SLIP of an ACTIVE lane-end whose rotator moves recentres the
FIFO and counts; where the rotator is held static it changes nothing. That the set is taken at the write is the model's
choice (log entry 38). -/
def Obligations.TransmitterSettings : Prop :=
  (∀ (s : State) (sd : Side) (p : Pos) (i : Nat), i = laneIdx sd p → s.writeTakes (LTX.ctrl i) = true →
    s.txTraining i = false → tapSum (s.stagedTaps i) ≤ 64 → ∃ t, exec (.commit sd p) s = .next t ∧
    t.on (LTX.commit i) = true ∧
    (t.txe i).commitSet = some (s.stagedTaps i, max 100 (min 250 (s.get (LTX.amp i)))) ∧
    (∀ j, j ≠ i → t.txe j = s.txe j) ∧ Framed (fun x => { x with tx := [] }) [LTX.ctrl i] s t) ∧
  (∀ (s : State) (sd : Side) (p : Pos) (i : Nat), i = laneIdx sd p → s.writeTakes (LTX.ctrl i) = true →
    s.txTraining i = true ∨ 64 < tapSum (s.stagedTaps i) → ∃ t, exec (.commit sd p) s = .next t ∧
    t.on (LTX.commitRej i) = true ∧ Framed id [LTX.status i] s t) ∧
  (∀ (s : State) (sd : Side) (p : Pos) (i : Nat) (taps : List Int) (amp : Nat), i = laneIdx sd p →
    (s.txe i).commitSet = some (taps, amp) → s.txTraining i = false → taps.length = 5 → (∀ x ∈ taps, -64 ≤ x ∧
    x ≤ 63) → tapSum taps ≤ 64 →
    amp < 256 → ∃ t, exec (.commitApply sd p) s = .next t ∧
    (List.range 5).map (fun k => t.getInt (LTX.liveTap i k)) = taps ∧ t.get (LTX.liveAmp i) = amp ∧
    t.get (LTX.liveMain i) = 128 - tapSum taps ∧ t.on (LTX.commit i) = false ∧ t.on (LTX.commitRej i) = false ∧
    (t.txe i).commitSet = none ∧ (t.txe i).bias = s.getInt (CAL.repBias i) ∧ Framed (fun x => { x with tx := [] })
    [LTX.ctrl i, LTX.status i, LTX.base i + 0x1C, LTX.base i + 0x24] s t) ∧
  (∀ (s : State) (sd : Side) (p : Pos) (i : Nat), i = laneIdx sd p → (s.txe i).commitSet ≠ none →
    s.on (LTX.commit i) = true → s.txTraining i = true → ∃ t, exec (.commitApply sd p) s = .next t ∧
    t.on (LTX.commit i) = false ∧ t.on (LTX.commitRej i) = true ∧ (t.txe i).commitSet = none ∧
    (∀ k, t.get (LTX.liveTap i k) = s.get (LTX.liveTap i k)) ∧ t.get (LTX.liveAmp i) = s.get (LTX.liveAmp i) ∧
    Framed (fun x => { x with tx := [] }) [LTX.ctrl i, LTX.status i] s t) ∧
  (∀ (s : State) (sd : Side) (p : Pos) (i : Nat), i = laneIdx sd p → (s.txe i).commitSet = none → ∃ t,
    exec (.commitApply sd p) s = .next t ∧ (t.txe i).bias = s.getInt (CAL.repBias i) ∧ t = { s with tx := t.tx }) ∧
  (∀ (s : State) (sd : Side) (p : Pos) (i n r : Nat), i = laneIdx sd p → n < 271 → (s.txe i).cellPend = [n] →
    (s.txe i).pass = none → s.get (LTX.cell i n) = 0 → (s.cellPool i).head? = some r → ∃ t,
    exec (.cellReplace sd p) s = .next t ∧ t.get (LTX.cell i r) = 0 ∧ t.get (LTX.cell i n) = 2 ∧
    (t.txe i).cellPend = [] ∧ t.counter (LTX.cellswapCnt i) = (s.counter (LTX.cellswapCnt i) + 1) % 2 ^ 48 ∧
    Framed (fun x => { x with tx := [] }) [(LTX.cell i n).addr, (LTX.cell i r).addr, LTX.cellswapCnt i,
    LTX.cellswapCnt i + 4, LTX.status i] s t) ∧
  (∀ (s : State) (sd : Side) (p : Pos) (i n : Nat), i = laneIdx sd p → n < 271 → (s.txe i).cellPend = [n] →
    (s.txe i).pass = none → s.get (LTX.cell i n) = 0 → s.cellPool i = [] → ∃ t,
    exec (.cellReplace sd p) s = .next t ∧ t.get (LTX.cell i n) = 2 ∧ (t.txe i).cellPend = [] ∧
    t.on (FLT.le (68 + i) 1) = true ∧ (s.txActive i = true → t.causes.testBit (68 + i) = true)) ∧
  (∀ (s : State) (sd : Side) (p : Pos) (i : Nat) (neg : Bool), i = laneIdx sd p → s.txActive i = true →
    s.rotOffset i = (if neg then -20000 else 20000) → ∃ t, exec (.rotatorLimit sd p neg) s = .next t ∧
    t.on (LTX.rotAtLimit i) = true ∧ (t.reg (LTX.event i)).getLsbD 0 = true ∧
    Framed id [LTX.base i + 0x20, LTX.event i] s t) ∧
  (∀ (s : State) (sd : Side) (p : Pos) (i : Nat), i = laneIdx sd p → s.txActive i = true → s.rotStatic i = false → ∃ t,
    exec (.txFifoSlip sd p) s = .next t ∧ (t.txe i).fifo = 128 ∧
    t.counter (LTX.slipCnt i) = (s.counter (LTX.slipCnt i) + 1) % 2 ^ 48 ∧
    Framed (fun x => { x with tx := [] }) [LTX.slipCnt i, LTX.slipCnt i + 4] s t) ∧
  (∀ (s : State) (sd : Side) (p : Pos), s.rotStatic (laneIdx sd p) = true → exec (.txFifoSlip sd p) s = .next s)

/-- PLL_HOLDOVER_ENTRY sets HOLD and clears LOCK. TIMING_FAILOVER in a loop-timed direction in holdover whose current
entry is unhealthy, or which has had no healthy entry, takes the first healthy entry and raises TIMING_FAILOVER;
with none it stays on its entry. PLL_LOCK_DONE of a loop-timed direction with a healthy current entry ends holdover
at that lane's frequency, after a holdover that has had no healthy entry with the choice that TIMING_FAILOVER makes;
of a reference-timed one with REFCLK it ends holdover at no offset. TIMING_REVERT with REVERT takes a healthy entry
of higher priority back; LOCK then clears, which is the model's choice (log entry 38). TIMING_LIST_WRITE writes the
list, and where that removes the current entry of a loop-timed direction the PLL is in holdover; where the current
entry keeps its lane, and in a reference-timed direction, nothing else changes. TIMING_MODE_WRITE takes the mode while
no link is up or training, and a change of it raises PG_CFG_REFUSED otherwise. REFCLK_LOSS clears
REFCLK_OK, raises REFCLK_LOSS, suspends calibration and untrims the Orbit oscillator; REFCLK_RETURN, while REFCLK is
looked for, sets REFCLK_OK and clears the event, before what waits goes on. FREQ_RANGE of an F-mode group in a
reference-timed direction raises its event. -/
def Obligations.TransmitClockSources : Prop :=
  (∀ (s : State) (e : Eng), ∃ t, exec (.pllHoldoverEntry e) s = .next t ∧ t.on (GLB.hold e.idx) = true ∧
    t.on (GLB.pllLock e.idx) = false ∧ Framed (fun x => { x with plls := [] }) [0x54, GLB.event] s t) ∧
  (∀ (s : State) (e : Eng) (k : Nat), s.on (GLB.mode e.idx) = false → s.on (GLB.hold e.idx) = true →
    s.healthy e.idx (s.get (GLB.cur e.idx)) = false ∨ (s.pll e.idx).warned = true → s.firstHealthy e.idx = some k →
    ∃ t, exec (.timingFailover e) s = .next t ∧ t.get (GLB.cur e.idx) = k ∧ t.on (GLB.hold e.idx) = true ∧
    (t.reg GLB.event).getLsbD 1 = true ∧ Framed (fun x => { x with plls := [] }) [0x54, GLB.event] s t) ∧
  (∀ (s : State) (e : Eng), s.on (GLB.mode e.idx) = false → s.on (GLB.hold e.idx) = true →
    s.firstHealthy e.idx = none → ∃ t, exec (.timingFailover e) s = .next t ∧
    t.get (GLB.cur e.idx) = s.get (GLB.cur e.idx) ∧ t.on (GLB.hold e.idx) = true ∧
    Framed (fun x => { x with plls := [] }) [0x54, GLB.event] s t) ∧
  (∀ (s : State) (e : Eng) (i : Nat), s.on (GLB.mode e.idx) = false → (s.pll e.idx).warned = false →
    s.timingLane e.idx (s.get (GLB.cur e.idx)) = some i → s.healthy e.idx (s.get (GLB.cur e.idx)) = true → ∃ t,
    exec (.pllLockDone e) s = .next t ∧ t.on (GLB.hold e.idx) = false ∧ t.on (GLB.pllLock e.idx) = true ∧
    (t.pll e.idx).freq = (s.rxe i).freq ∧ Framed (fun x => { x with plls := [] }) [0x54] s t) ∧
  (∀ (s : State) (e : Eng) (k i : Nat), s.on (GLB.mode e.idx) = false → (s.pll e.idx).warned = true →
    s.firstHealthy e.idx = some k → s.timingLane e.idx k = some i → ∃ t,
    exec (.pllLockDone e) s = .next t ∧ t.get (GLB.cur e.idx) = k ∧ t.on (GLB.hold e.idx) = false ∧
    t.on (GLB.pllLock e.idx) = true ∧ (t.pll e.idx).freq = (s.rxe i).freq ∧ (t.reg GLB.event).getLsbD 1 = true ∧
    Framed (fun x => { x with plls := [] }) [0x54, GLB.event] s t) ∧
  (∀ (s : State) (e : Eng), s.on (GLB.mode e.idx) = true → s.on GLB.refclkOk = true → ∃ t,
    exec (.pllLockDone e) s = .next t ∧ t.on (GLB.hold e.idx) = false ∧ t.on (GLB.pllLock e.idx) = true ∧
    (t.pll e.idx).freq = 0 ∧ Framed (fun x => { x with plls := [] }) [0x54] s t) ∧
  (∀ (s : State) (e : Eng) (k : Fin 8), s.on (GLB.revert e.idx) = true → s.on (GLB.mode e.idx) = false →
    k.val < s.get (GLB.cur e.idx) → s.healthy e.idx k.val = true → ∃ t, exec (.timingRevert e k) s = .next t ∧
    t.get (GLB.cur e.idx) = k.val ∧ t.on (GLB.pllLock e.idx) = false ∧ Framed id [0x54] s t) ∧
  (∀ (s : State) (e : Eng) (half : Fin 2) (v : Word), s.writeTakes (GLB.tlist e.idx half) = true →
    s.on (GLB.mode e.idx) = true ∨ s.timingLane e.idx (s.get (GLB.cur e.idx)) = none ∨
    (s.setReg (GLB.tlist e.idx half) (v &&& 0xBFBFBFBF#32)).timingLane e.idx (s.get (GLB.cur e.idx)) =
      s.timingLane e.idx (s.get (GLB.cur e.idx)) → ∃ t, exec (.timingListWrite e half v) s = .next t ∧
    t.reg (GLB.tlist e.idx half) = v &&& 0xBFBFBFBF#32 ∧ Framed id [GLB.tlist e.idx half] s t) ∧
  (∀ (s : State) (e : Eng) (half : Fin 2) (v : Word) (i : Nat), s.writeTakes (GLB.tlist e.idx half) = true →
    s.on (GLB.mode e.idx) = false → s.timingLane e.idx (s.get (GLB.cur e.idx)) = some i →
    (s.setReg (GLB.tlist e.idx half) (v &&& 0xBFBFBFBF#32)).timingLane e.idx (s.get (GLB.cur e.idx)) ≠ some i → ∃ t,
    exec (.timingListWrite e half v) s = .next t ∧ t.reg (GLB.tlist e.idx half) = v &&& 0xBFBFBFBF#32 ∧
    t.on (GLB.hold e.idx) = true ∧ t.on (GLB.pllLock e.idx) = false ∧
    Framed (fun x => { x with plls := [] }) [GLB.tlist e.idx half, 0x54, GLB.event] s t) ∧
  (∀ (s : State) (e : Eng) (m : Bool), s.writeTakes GLB.timing = true → s.anyBusy = false → ∃ t,
    exec (.timingModeWrite e m) s = .next t ∧ t.on (GLB.mode e.idx) = m ∧ Framed id [GLB.timing, 0x54] s t) ∧
  (∀ (s : State) (e : Eng) (m : Bool), s.writeTakes GLB.timing = true → s.anyBusy = true →
    s.on (GLB.mode e.idx) = !m → ∃ t, exec (.timingModeWrite e m) s = .next t ∧
    (t.reg GLB.event).getLsbD 0 = true ∧ t.on (GLB.mode e.idx) = s.on (GLB.mode e.idx) ∧ Framed id [GLB.event] s t) ∧
  (∀ s : State, s.on GLB.refclkOk = true → ∃ t, exec .refclkLoss s = .next t ∧ t.on GLB.refclkOk = false ∧
    (t.reg GLB.event).getLsbD 3 = true ∧ t.on ORB.trimmed = false ∧ t.causes.testBit 171 = true ∧
    t.on CAL.refclkLost = true) ∧
  (∀ s : State, s.on GLB.refclkOk = false → s.refclkSought = true → ∃ u : State, exec .refclkReturn s = .next u.goOn ∧
    u.on GLB.refclkOk = true ∧ (u.reg GLB.event).getLsbD 3 = false ∧ u.on CAL.refclkLost = false) ∧
  (∀ (s : State) (e : Eng) (g : Port), s.on (GLB.mode e.idx) = true → s.pers g = 2 → s.on (GLB.en g) = true → ∃ t,
    exec (.freqRange e g) s = .next t ∧ (t.reg GLB.event).getLsbD 4 = true ∧ Framed id [GLB.event] s t)

/-- Where the write takes effect: PORT_GROUP_ENABLE of a disabled group whose configuration is accepted sets its enable
bit and returns the pins from JTAG, before the start of its segments; a refused one changes nothing but to raise
PG_CFG_REFUSED, before what waits goes on. PORT_GROUP_DISABLE clears the enable, puts the segments of every port of the
group to OFF, clears codeword lock, the fallback and RESTORE_PEND. PGCFG_WRITE stores the written word without its
reserved bits while the group is disabled and otherwise only raises PG_CFG_REFUSED. RPLCFG_WRITE stores a word whose
BANKS sum to at most 8 and DEFQ to at most 4 and that changes no busy group, and otherwise only raises PG_CFG_REFUSED.
LMAP_WRITE stores the written word while the segments of the group on that side are OFF, and otherwise only raises
PG_CFG_REFUSED. At the enable a lane for which the map names a spare that GLB_SPARE_REACH does not give the group is no
longer carried, which is the model's choice (log entry 40). -/
def Obligations.PortGroupSetup : Prop :=
  (∀ (s : State) (g : Port), s.writeTakes GLB.pgen = true → s.on (GLB.en g) = false → s.enableOk g = true → ∃ u :
    State, exec (.portGroupEnable g) s = .next ((((u.portStart g).settlePower).goOn).dvfsStart) ∧ u.on (GLB.en g) =
    true ∧ u.jtagPins = false ∧ (∀ sd ∈ [0, 1], ∀ n, n < 8 → u.regCode g sd n =
    if (s.regCode g sd n = 8 ∨ s.regCode g sd n = 9) ∧ s.on (GLB.reach sd (s.regCode g sd n - 8) g) = false then 15
    else s.regCode g sd n) ∧ Framed (fun x => { x with jtag := .idcode })
    [0x20, GLB.lmstat g, 0x1C4, GLB.lmap g 0, GLB.lmap g 1] s u) ∧
  (∀ (s : State) (g : Port), s.writeTakes GLB.pgen = true → s.on (GLB.en g) = false → s.enableOk g = false → ∃ u :
    State, exec (.portGroupEnable g) s = .next (u.goOn.dvfsStart) ∧ u.on (GLB.en g) = false ∧ (u.reg
    GLB.event).getLsbD 0 = true ∧ Framed id [GLB.event] s u) ∧
  (∀ (s : State) (g : Port), s.writeTakes GLB.pgen = true → s.on (GLB.en g) = true → ∃ u : State, exec
    (.portGroupDisable g) s = .next (u.copyBreaks.goOn.dvfsStart) ∧ u.on (GLB.en g) = false ∧ u.on (DIR.cwLock 0 g) =
    false ∧ u.on (DIR.cwLock 1 g) = false ∧ u.on (FLT.fallback g) = false ∧ u.on (GLB.restorePend g) = false ∧ (∀ k,
    k ∈ s.portKeys g → u.segState g 0 k = 0 ∧ u.segState g 1 k = 0)) ∧
  (∀ (s : State) (g : Port) (v : Word), s.writeTakes (GLB.pgcfg g) = true → s.on (GLB.en g) = false → ∃ t, exec
    (.pgcfgWrite g v) s = .next t ∧ t.reg (GLB.pgcfg g) = v &&& 0xFFFFFF3F#32 ∧ Framed id [GLB.pgcfg g] s t) ∧
  (∀ (s : State) (g : Port) (v : Word), s.writeTakes (GLB.pgcfg g) = true → s.on (GLB.en g) = true → ∃ t, exec
    (.pgcfgWrite g v) s = .next t ∧ (t.reg GLB.event).getLsbD 0 = true ∧ Framed id [GLB.event] s t) ∧
  (∀ (s : State) (e : Eng) (v : Word), s.writeTakes (DIR.rplcfg e.idx) = true → banksSum v.toNat ≤ 8 → defqSum
    v.toNat ≤ 4 → s.rplcfgBusy e.idx v.toNat = false → ∃ t, exec (.rplcfgWrite e v) s = .next t ∧ t.reg (DIR.rplcfg
    e.idx) = v &&& 0x0FFFFFFF#32 ∧ Framed id [DIR.rplcfg e.idx] s t) ∧
  (∀ (s : State) (e : Eng) (v : Word), s.writeTakes (DIR.rplcfg e.idx) = true → 8 < banksSum v.toNat ∨ 4 < defqSum
    v.toNat ∨ s.rplcfgBusy e.idx v.toNat = true → ∃ t, exec (.rplcfgWrite e v) s = .next t ∧ (t.reg
    GLB.event).getLsbD 0 = true ∧ Framed id [GLB.event] s t) ∧
  (∀ (s : State) (g : Port) (sd : Side) (v : Word), s.writeTakes (GLB.lmap g sd.idx) = true →
    (∀ k ∈ s.portKeys g, s.segState g sd.idx k = 0) → ∃ t, exec (.lmapWrite g sd v) s = .next t ∧
    t.reg (GLB.lmap g sd.idx) = v ∧
    Framed id [GLB.lmap g sd.idx] s t) ∧
  (∀ (s : State) (g : Port) (sd : Side) (v : Word) (k : Nat), s.writeTakes (GLB.lmap g sd.idx) = true →
    k ∈ s.portKeys g → s.segState g sd.idx k ≠ 0 → ∃ t, exec (.lmapWrite g sd v) s = .next t ∧
    (t.reg GLB.event).getLsbD 0 = true ∧ Framed id [GLB.event] s t)

/-- TRAINING_FRAME at an ACTIVE receiver with CDR lock whose foreground calibration has ended and that no loopback test
holds, elsewhere nothing: in WAIT and EQ it notes
frame lock, the inversion that POL_INV leaves, the partner's readiness and its precoding request of the position; in
ALIGN it notes the link word, the round trip and the partner's SLACK as well; in HOLD a frame whose sender is ready
changes nothing; in UP it loses the segment with cause PARTNER_RESTART. WIDTH_WAIT_EXPIRY in WAIT with 2 lanes in
frame lock enters EQ. EQ_TIMEOUT with fewer than 2 ready lanes, or on Ethernet, and ALIGN_TIMEOUT enter BACKOFF with
their cause, count an attempt and raise TRAIN_FAIL; EQ_TIMEOUT of a CFL port with 2 ready lanes or more enters ALIGN
with the width that they allow. BACKOFF_EXPIRY starts an attempt in WAIT, or in AN where the port relays, which
discards a COMMIT that waits. FEC_LOCK_TIMEOUT in UP without a first codeword lock enters BACKOFF with cause
FEC_LOCK. AN_PAGE in AN is relayed to the other side unless that keeps silent for its break, a base page with the
bits of the port's PMD alone in its Technology Ability field, and its last page ends the negotiation of its side;
AN_BREAK_LINK_EXPIRY ends the break. Which bits that field is, and which of them each PMD has, is the model's choice
(log entry 7). Each clause but the last holds before the rows of the state machine that now hold are taken. Which
lane's round trip RTT holds, what tells in HOLD that the partner trains again, what the other Ethernet segment does
at FEC_LOCK and that a page is dropped in the break-link silence are the model's choices (log entry 38). -/
def Obligations.SegmentTraining : Prop :=
  (∀ (s : State) (g : Port) (k : LaneN) (sd : Side) (p : Pos) (o : TrainObs) (i : Nat), i = laneIdx sd p →
    s.rxActive i = true → s.on (LRX.cdrLock i) = true → (s.rxe i).fg = false → s.bistHeld.testBit i = false →
    s.ltRunning i = false →
    k.val ∈ s.portKeys g → p.val ∈ s.positions g sd.idx k → s.on (GLB.en g) = true →
    (s.cfl g && linkLaneTrain o.link) = false → 
    (s.segState g sd.idx k = 2 ∧ s.noTrain g sd.idx k = false) ∨ s.segState g sd.idx k = 3 → ∃ u : State,
    exec (.trainingFrame g k sd p o) s = .next ((u.segEval g sd.idx k).goOn) ∧ (u.seg g sd.idx k).locked.testBit p =
    true ∧
    (u.seg g sd.idx k).inverted.testBit p = (o.inverted != decide ((s.rxe i).pol = 1)) ∧
    (u.seg g sd.idx k).farReady.testBit p = (if s.cfl g then linkRxReady o.link else o.farReady) ∧
    (u.txe i).precode = boolNat o.precode ∧
    Framed (fun x => { x with segs := [], tx := [] }) [] s u) ∧
  (∀ (s : State) (g : Port) (k : LaneN) (sd : Side) (p : Pos) (o : TrainObs) (i : Nat), i = laneIdx sd p →
    s.rxActive i = true → s.on (LRX.cdrLock i) = true → (s.rxe i).fg = false → s.bistHeld.testBit i = false →
    s.ltRunning i = false →
    k.val ∈ s.portKeys g → p.val ∈ s.positions g sd.idx k → s.on (GLB.en g) = true →
    (s.cfl g && linkLaneTrain o.link) = false → 
    s.segState g sd.idx k = 4 → ∃ u : State, exec (.trainingFrame g k sd p o) s = .next ((u.segEval g sd.idx k).goOn) ∧
    (p.val, o.link) ∈ (u.seg g sd.idx 0).links ∧ u.get (GLB.tsRtt g sd.idx 0) = min o.rttNs 511 ∧
    u.get (GLB.tsSlack g sd.idx 0) = linkSlack o.link ∧ (u.txe i).precode = boolNat o.precode) ∧
  (∀ (s : State) (g : Port) (k : LaneN) (sd : Side) (p : Pos) (o : TrainObs) (i : Nat), i = laneIdx sd p →
    s.rxActive i = true → s.on (LRX.cdrLock i) = true → (s.rxe i).fg = false → s.bistHeld.testBit i = false →
    s.ltRunning i = false →
    k.val ∈ s.portKeys g → p.val ∈ s.positions g sd.idx k → s.on (GLB.en g) = true →
    (s.cfl g && linkLaneTrain o.link) = false → 
    s.segState g sd.idx k = 5 → (if s.cfl g then linkRxReady o.link else o.farReady) = true →
    exec (.trainingFrame g k sd p o) s = .next s) ∧
  (∀ (s : State) (g : Port) (k : LaneN) (sd : Side) (p : Pos) (o : TrainObs) (i : Nat), i = laneIdx sd p →
    s.rxActive i = true → s.on (LRX.cdrLock i) = true → (s.rxe i).fg = false → s.bistHeld.testBit i = false →
    s.ltRunning i = false →
    k.val ∈ s.portKeys g → p.val ∈ s.positions g sd.idx k → s.on (GLB.en g) = true →
    (s.cfl g && linkLaneTrain o.link) = false → 
    s.segState g sd.idx k = 6 → ∃ u : State, exec (.trainingFrame g k sd p o) s =
      .next (((((u.segEnds g sd.idx).startAttempt g sd.idx k).lossOther g sd.idx k).segEval g sd.idx k).goOn) ∧
    u.get (GLB.tsCause g sd.idx k) = 9 ∧ (u.reg GLB.event).getLsbD 8 = true ∧
    Framed id [GLB.trnStat g sd.idx k, GLB.event] s u) ∧
  (∀ (s : State) (g : Port) (k : LaneN) (sd : Side) (p : Pos) (o : TrainObs), s.rxActive (laneIdx sd p) = false ∨
    s.on (LRX.cdrLock (laneIdx sd p)) = false ∨ (s.rxe (laneIdx sd p)).fg = true ∨
    s.bistHeld.testBit (laneIdx sd p) = true →
    exec (.trainingFrame g k sd p o) s = .next s) ∧
  (∀ (s : State) (g : Port) (sd : Side), s.cfl g = true → s.segState g sd.idx 0 = 2 →
    2 + (s.unlocked g sd.idx).length ≤ (s.lanes g sd.idx 0).length → ∃ u : State,
    exec (.widthWaitExpiry g sd) s = .next ((u.segEval g sd.idx 0).goOn) ∧ u.segState g sd.idx 0 = 3) ∧
  (∀ (s : State) (g : Port) (k : LaneN) (sd : Side), s.segState g sd.idx k = 3 → s.cfl g = false ∨ (s.readyLanes g
    sd.idx k).length < 2 → ∃ u : State, exec (.eqTimeout g k sd) s = .next ((u.segEval g sd.idx k).goOn) ∧ u.segState
    g sd.idx k = 7 ∧ u.get (GLB.tsCause g sd.idx k) = 1 ∧ u.get (GLB.tsAttempts g sd.idx k) = satSucc 15 (s.get
    (GLB.tsAttempts g sd.idx k)) ∧ (u.reg GLB.event).getLsbD 5 = true ∧ Framed id [GLB.trnStat g sd.idx k, GLB.event]
    s u) ∧
  (∀ (s : State) (g : Port) (k : LaneN) (sd : Side), s.segState g sd.idx k = 3 → s.cfl g = true → 2 ≤ (s.readyLanes g
    sd.idx k).length → ∃ u : State, exec (.eqTimeout g k sd) s = .next ((u.segEval g sd.idx k).goOn) ∧ u.segState g
    sd.idx 0 = 4 ∧ (u.seg g sd.idx 0).links = [] ∧ u.widthOf g = widthFor (min (s.readyLanes g sd.idx k).length
    (s.widthOf g))) ∧
  (∀ (s : State) (g : Port) (sd : Side), s.segState g sd.idx 0 = 4 → ∃ u : State, exec (.alignTimeout g sd) s = .next
    ((u.segEval g sd.idx 0).goOn) ∧ u.segState g sd.idx 0 = 7 ∧ u.get (GLB.tsCause g sd.idx 0) = 2 ∧ u.get
    (GLB.tsAttempts g sd.idx 0) = satSucc 15 (s.get (GLB.tsAttempts g sd.idx 0)) ∧ (u.reg GLB.event).getLsbD 5 = true
    ∧ Framed id [GLB.trnStat g sd.idx 0, GLB.event] s u) ∧
  (∀ (s : State) (g : Port) (k : LaneN) (sd : Side), s.segState g sd.idx k = 7 → s.relayMode g = false → ∃ u : State,
    exec (.backoffExpiry g k sd) s = .next ((u.segEval g sd.idx k).goOn) ∧ u.segState g sd.idx k = 2 ∧ (u.seg g
    sd.idx k).cfg = s.reg (GLB.trnCfg g) ∧ (u.seg g sd.idx k).locked = 0) ∧
  (∀ (s : State) (g : Port) (k : LaneN) (sd : Side), s.segState g sd.idx k = 7 → s.relayMode g = true → ∃ u : State,
    exec (.backoffExpiry g k sd) s = .next ((u.segEval g sd.idx k).goOn) ∧ u.segState g sd.idx k = 1 ∧
    (u.seg g sd.idx k).cfg = s.reg (GLB.trnCfg g) ∧ (u.seg g sd.idx k).anDone = false ∧
    (∀ p ∈ s.positions g sd.idx k, (u.txe (34 * sd.idx + p)).commitSet = none) ∧
    (∀ a, a ≠ GLB.trnStat g sd.idx k → a ≠ (DIR.cwLock (inEngine sd.idx) g).addr →
    (∀ i ∈ List.range 68, a ≠ LTX.ctrl i ∧ a ≠ LTX.status i) → u.reg a = s.reg a) ∧
    u = { s with regs := u.regs, segs := u.segs, tx := u.tx }) ∧
  (∀ (s : State) (g : Port) (k : LaneN) (sd : Side), s.segState g sd.idx k = 6 → s.pers g ≠ 0 →
    s.cwOf g sd.idx k = false → s.cwEverOf g sd.idx k = false → s.get (PWR.lpstat g) = 0 → ∃ u : State,
    exec (.fecLockTimeout g k sd) s = .next (((if s.cfl g then
      (if u.segState g (1 - sd.idx) k = 6 then u.enterHold g (1 - sd.idx) else u) else u.lossOther g sd.idx k).segEval g
      sd.idx k).goOn) ∧ u.segState g sd.idx k = 7 ∧ u.get (GLB.tsCause g sd.idx k) = 8 ∧
    (u.reg GLB.event).getLsbD 5 = true) ∧
  (∀ (s : State) (g : Port) (k : LaneN) (sd : Side) (page : BitVec 48) (base last : Bool),
    s.relaying g sd.idx k = true → k.val ∈ s.portKeys g → s.segState g sd.idx k = 1 → ∃ u : State,
    exec (.anPage g k sd page base last) s = .next ((u.segEval g sd.idx k).goOn) ∧ (u.seg g sd.idx k).anDone = last ∧
    u.out = (if (s.seg g (1 - sd.idx) k).anBreak then s.out else s.out ++ [.anPage g k (if sd.idx = 0 then .B else .A)
      (if base then (page &&& ~~~abilityMask) ||| (page &&& abilityMask &&& Config.techAbility (s.get (GLB.rate g))
        (s.ethLanes g k) (s.get (GLB.medium g))) else page)]) ∧
    Framed (fun x => { x with segs := [] }) [] s u) ∧
  (∀ (s : State) (g : Port) (k : LaneN) (sd : Side), ∃ t, exec (.anBreakLinkExpiry g k sd) s = .next t ∧
    (t.seg g sd.idx k).anBreak = false ∧ t = { s with segs := t.segs })

/-- SEGMENT_RESTART of a stopped CFL segment, where the write takes effect, puts it to OFF with ATTEMPTS 0; with no
segment stopped it only lets what waits go on; while a scan slice runs it only raises PG_CFG_REFUSED.
SEGMENT_LOS_TIMEOUT with LOS on every position, ETH_LANE_LOSS_TIMEOUT with LOS or an unlocked CDR on a lane of an
Ethernet port, and MARKER_LOSS_TIMEOUT with the lock gone lose a segment in UP with cause LOST and raise SEG_LOST,
the first and the last outside a low-power agreement. FILL_TO_DATA_SWITCH ends the fault fill where the other
segment has a stream to send on. COEF_REQUEST in a training answers a hold with status hold, takes the taps that the
PMD defines for an initial condition, held to a sum of 64, and moves a tap that it addresses by one LSB where its
range and the sum of 64 allow, answering updated, and otherwise answers at limit; outside a training it changes
nothing. That an Ethernet training does not address c(+2) is the model's choice (log entry 7). COEF_STATUS updated
with the level histogram of the 2^16 UI after it, whose mean of the four level SNRs has risen by 0.1 dB, goes on in
its direction; without such a rise it takes the step back. A histogram of another number of UI ends no estimate, and
one that is not 128 bins long is no command (log entry 36, the model's choice). -/
def Obligations.SegmentLossAndCoefficients : Prop :=
  (∀ (s : State) (g : Port), s.writeTakes (GLB.trnCtrl g) = true → s.scanRunning = false → s.cfl g = true →
    s.segState g 0 0 = 8 → ∃ u : State, exec (.segmentRestart g true false) s = .next ((u.segEval g 0 0).goOn) ∧
    u.segState g 0 0 = 0 ∧ u.get (GLB.tsAttempts g 0 0) = 0 ∧ Framed id [GLB.trnStat g 0 0] s u) ∧
  (∀ (s : State) (g : Port), s.writeTakes (GLB.trnCtrl g) = true → s.scanRunning = false → s.cfl g = true →
    s.segState g 1 0 = 8 → ∃ u : State, exec (.segmentRestart g false true) s = .next ((u.segEval g 1 0).goOn) ∧
    u.segState g 1 0 = 0 ∧ u.get (GLB.tsAttempts g 1 0) = 0 ∧ Framed id [GLB.trnStat g 1 0] s u) ∧
  (∀ (s : State) (g : Port) (a b : Bool), s.writeTakes (GLB.trnCtrl g) = true → s.scanRunning = false →
    s.cfl g = true → s.segState g 0 0 ≠ 8 → s.segState g 1 0 ≠ 8 → exec (.segmentRestart g a b) s = .next s.goOn) ∧
  (∀ (s : State) (g : Port), s.writeTakes (GLB.trnCtrl g) = true → s.scanRunning = true → ∃ u : State, exec
    (.segmentRestart g true false) s = .next (u.goOn) ∧ (u.reg GLB.event).getLsbD 0 = true ∧ Framed id [GLB.event] s
    u) ∧
  (∀ (s : State) (g : Port) (k : LaneN) (sd : Side), s.positions g sd.idx k ≠ [] → (∀ p ∈ s.positions g sd.idx k, s.on
    (LRX.losNow (34 * sd.idx + p)) = true) → s.inLowPower g = false → s.segState g sd.idx k = 6 → ∃ u : State, exec
    (.segmentLosTimeout g k sd) s = .next ((((((u.segEnds g sd.idx).startAttempt g sd.idx k).lossOther g sd.idx k).segEval g
    sd.idx k)).goOn) ∧ u.get (GLB.tsCause g sd.idx k) = 10 ∧ (u.reg GLB.event).getLsbD 8 = true ∧ Framed id
    [GLB.trnStat g sd.idx k, GLB.event] s u) ∧
  (∀ (s : State) (g : Port) (k : LaneN) (sd : Side) (p : Nat), s.cfl g = false → p ∈ s.positions g sd.idx k → s.on
    (LRX.losNow (34 * sd.idx + p)) = true ∨ s.on (LRX.cdrLock (34 * sd.idx + p)) = false → s.segState g sd.idx k = 6
    → ∃ u : State, exec (.ethLaneLossTimeout g k sd) s = .next ((((((u.segEnds g sd.idx).startAttempt g sd.idx k).lossOther
    g sd.idx k).segEval g sd.idx k)).goOn) ∧ u.get (GLB.tsCause g sd.idx k) = 10 ∧ (u.reg GLB.event).getLsbD 8 = true
    ∧ Framed id [GLB.trnStat g sd.idx k, GLB.event] s u) ∧
  (∀ (s : State) (g : Port) (k : LaneN) (sd : Side), s.pers g ≠ 0 → s.cwOf g sd.idx k = false → s.cwEverOf g sd.idx k
    = true → s.inLowPower g = false → s.segState g sd.idx k = 6 → ∃ u : State, exec (.markerLossTimeout g k sd) s =
    .next ((((((u.segEnds g sd.idx).startAttempt g sd.idx k).lossOther g sd.idx k).segEval g sd.idx k)).goOn) ∧ u.get
    (GLB.tsCause g sd.idx k) = 10 ∧ (u.reg GLB.event).getLsbD 8 = true ∧ Framed id [GLB.trnStat g sd.idx k,
    GLB.event] s u) ∧
  (∀ (s : State) (g : Port) (k : LaneN) (sd : Side), s.pers g = 0 → (∀ p ∈ s.positions g sd.idx k, s.on
    (LRX.markerLock (34 * sd.idx + p)) = false) → s.inLowPower g = false → s.segState g sd.idx k = 6 → ∃ u : State,
    exec (.markerLossTimeout g k sd) s = .next ((((((u.segEnds g sd.idx).startAttempt g sd.idx k).lossOther g sd.idx
    k).segEval g sd.idx k)).goOn) ∧ u.get (GLB.tsCause g sd.idx k) = 10 ∧ (u.reg GLB.event).getLsbD 8 = true ∧ Framed
    id [GLB.trnStat g sd.idx k, GLB.event] s u) ∧
  (∀ (s : State) (g : Port) (k : LaneN) (sd : Side), ∃ t, exec (.fillToDataSwitch g k sd) s = .next t ∧
    (s.ethStream g (1 - sd.idx) k = true → (t.seg g sd.idx k).fill = false) ∧
    (s.ethStream g (1 - sd.idx) k = false → t = s) ∧ t = { s with segs := t.segs }) ∧
  (∀ (s : State) (sd : Side) (p : Pos) (i : Nat), i = laneIdx sd p → s.tapsOpen i = true → ∃ t,
    exec (.coefRequest sd p .hold) s = .next t ∧ t = s.emit (.coefStatus i 6 0)) ∧
  (∀ (s : State) (sd : Side) (p : Pos) (i g cond : Nat), i = laneIdx sd p → s.tapsOpen i = true → cond < 8 →
    s.trainGroup i = g → ∃ t, exec (.coefRequest sd p (.initial cond)) s = .next t ∧
    (t.txe i).taps = initTaps (s.get (GLB.rate g)) (s.get (GLB.medium g)) (s.cfl g) cond ∧
    tapSum (t.txe i).taps ≤ 64 ∧ t.out = s.out ++ [.coefStatus i 6 1] ∧ t = { s with tx := t.tx, out := t.out }) ∧
  (∀ (s : State) (sd : Side) (p : Pos) (i : Nat) (k : Fin 6), i = laneIdx sd p → s.tapsOpen i = true →
    k.val < 4 ∨ (k.val = 4 ∧ s.addressesC2 i = true) → (s.txe i).taps.length = 5 → -64 ≤ (s.txe i).taps.getD k 0 →
    (s.txe i).taps.getD k 0 < 63 → tapSum (setNth (s.txe i).taps k ((s.txe i).taps.getD k 0 + 1)) ≤ 64 → ∃ t,
    exec (.coefRequest sd p (.increment k)) s = .next t ∧
    (t.txe i).taps.getD k 0 = (s.txe i).taps.getD k 0 + 1 ∧ t.out = s.out ++ [.coefStatus i k 1] ∧
    t = { s with tx := t.tx, out := t.out }) ∧
  (∀ (s : State) (sd : Side) (p : Pos) (i : Nat) (k : Fin 6), i = laneIdx sd p → s.tapsOpen i = true →
    k.val < 4 ∨ (k.val = 4 ∧ s.addressesC2 i = true) → (s.txe i).taps.length = 5 → -64 < (s.txe i).taps.getD k 0 →
    (s.txe i).taps.getD k 0 ≤ 63 → tapSum (setNth (s.txe i).taps k ((s.txe i).taps.getD k 0 - 1)) ≤ 64 → ∃ t,
    exec (.coefRequest sd p (.decrement k)) s = .next t ∧
    (t.txe i).taps.getD k 0 = (s.txe i).taps.getD k 0 - 1 ∧ t.out = s.out ++ [.coefStatus i k 1] ∧
    t = { s with tx := t.tx, out := t.out }) ∧
  (∀ (s : State) (sd : Side) (p : Pos) (i : Nat) (k : Fin 6), i = laneIdx sd p → s.tapsOpen i = true →
    k.val = 5 ∨ (k.val = 4 ∧ s.addressesC2 i = false) ∨ (s.txe i).taps.getD k 0 ≤ -64 ∨
    64 < tapSum (setNth (s.txe i).taps k ((s.txe i).taps.getD k 0 - 1)) → ∃ t,
    exec (.coefRequest sd p (.decrement k)) s = .next t ∧ t = s.emit (.coefStatus i k 2)) ∧
  (∀ (s : State) (sd : Side) (p : Pos) (i : Nat) (k : Fin 6), i = laneIdx sd p → s.tapsOpen i = true →
    k.val = 5 ∨ (k.val = 4 ∧ s.addressesC2 i = false) ∨ 63 ≤ (s.txe i).taps.getD k 0 ∨
    64 < tapSum (setNth (s.txe i).taps k ((s.txe i).taps.getD k 0 + 1)) → ∃ t,
    exec (.coefRequest sd p (.increment k)) s = .next t ∧ t = s.emit (.coefStatus i k 2)) ∧
  (∀ (s : State) (sd : Side) (p : Pos) (r : CoefReq), coefReqOk r = true → s.tapsOpen (laneIdx sd p) = false →
    exec (.coefRequest sd p r) s = .next s) ∧
  (∀ (s : State) (sd : Side) (p : Pos) (i : Nat) (q : Req) (bins : List Word), i = laneIdx sd p →
    s.requesting i = true → bins.length = 128 → binTotal bins = 65536 → (s.rxe i).req = some q → q.step ≠ 0 →
    q.rev = false → 10 * q.best + 16 ≤ 10 * s.snrMean bins → ∃ t, exec (.coefStatus sd p .updated bins) s = .next t ∧
    (t.rxe i).req = some { q with best := s.snrMean bins } ∧ t.out = s.out ++ [.coefRequest i ((tapOrder
    (s.addressesC2 i)).getD (q.step - 1) 0) (if q.inc then 1 else -1)] ∧
    t = { s with rx := t.rx, out := t.out, freeCtr := t.freeCtr }) ∧
  (∀ (s : State) (sd : Side) (p : Pos) (i : Nat) (q : Req) (bins : List Word), i = laneIdx sd p →
    s.requesting i = true → bins.length = 128 → binTotal bins = 65536 → (s.rxe i).req = some q → q.step ≠ 0 →
    q.rev = false → 10 * s.snrMean bins < 10 * q.best + 16 → ∃ t, exec (.coefStatus sd p .updated bins) s = .next t ∧
    (t.rxe i).req = some { q with rev := true } ∧ t.out = s.out ++ [.coefRequest i ((tapOrder
    (s.addressesC2 i)).getD (q.step - 1) 0) (if q.inc then -1 else 1)] ∧
    t = { s with rx := t.rx, out := t.out, freeCtr := t.freeCtr }) ∧
  (∀ (s : State) (sd : Side) (p : Pos) (st : CoefStat) (bins : List Word), (bins.length = 128 →
    binTotal bins ≠ 65536 → exec (.coefStatus sd p st bins) s = .next s) ∧ (bins.length ≠ 128 →
    exec (.coefStatus sd p st bins) s = .fault .illFormed))

/-- TRAINING_FRAME of a lane training, at an ACTIVE receiver with CDR lock whose foreground calibration has ended and
that no loopback test holds, with a marker that POL_INV leaves upright and a link word of a lane training, notes the partner's precoding request, its
readiness and the link word. LANE_TRAINING_DONE of a position in lane training whose receivers are ready at both ends,
and whose last link word shows the rate, the segment's SLACK and the lane, leaves it trained, with its acquisition
ended, its taps live and both elastic FIFOs recentred; where an end is not ready it changes nothing. SHADOW_COPY_START
of a trained position puts it into shadow copy and begins a marker period of the outgoing stream (log entry 38, the
model's choice), before what waits for it goes on; it changes nothing else.
LANE_TRAINING_TIMEOUT of a position in lane training that serves no maintenance activity and no return of a lane ends
the training and marks the position failed, before its task chooses again. At a position without lane training none of
the last three changes anything. -/
def Obligations.LaneTrainingAndShadowCopy : Prop :=
  (∀ (s : State) (g : Port) (k : LaneN) (sd : Side) (p : Pos) (o : TrainObs) (i : Nat) (x : LaneTrain),
    i = laneIdx sd p → s.lt i = some x → x.stage = .training → s.rxActive i = true → s.on (LRX.cdrLock i) = true →
    (s.rxe i).fg = false → s.bistHeld.testBit i = false → (o.inverted != decide ((s.rxe i).pol = 1)) = false →
    linkLaneTrain o.link = true → ∃ t,
    exec (.trainingFrame g k sd p o) s = .next t ∧
    t.lt i = some { x with far := linkRxReady o.link, link := some o.link } ∧ (t.txe i).precode = boolNat o.precode ∧
    t = { s with lts := t.lts, tx := t.tx }) ∧
  (∀ (s : State) (sd : Side) (p : Pos) (i : Nat) (x : LaneTrain) (w : BitVec 64), i = laneIdx sd p → s.lt i = some x →
    x.stage = .training → x.ready = true → x.far = true → x.link = some w → linkRate w = s.get (GLB.rate x.g) →
    linkSlack w ≤ 4 → linkSlack w = s.get (GLB.tsSlack x.g sd.idx 0) → linkLane w = x.lane → ∃ t,
    exec (.laneTrainingDone sd p) s = .next t ∧ t.lt i = some { x with stage := .trained } ∧
    (t.rxe i).acquire = false ∧ (t.rxe i).fifo = 128 ∧ (t.rxe i).req = none ∧ (t.txe i).fifo = 128 ∧
    (t.txe i).taps = (s.txe i).taps ∧ t.get (LTX.liveMain i) = (128 - tapSum (s.txe i).taps) % 256 ∧
    Framed (fun x => { x with lts := [], rx := [], tx := [] }) [LTX.base i + 0x1C, LTX.base i + 0x24] s t) ∧
  (∀ (s : State) (sd : Side) (p : Pos) (x : LaneTrain), s.lt (laneIdx sd p) = some x →
    x.ready = false ∨ x.far = false ∨ x.link = none → exec (.laneTrainingDone sd p) s = .next s) ∧
  (∀ (s : State) (sd : Side) (p : Pos) (i : Nat) (x : LaneTrain), i = laneIdx sd p → s.lt i = some x →
    x.stage = .trained → ∃ u : State, exec (.shadowCopyStart sd p) s = .next (u.goOn) ∧
    u.lt i = some { x with stage := .shadow } ∧
    u.eng (outEngine sd.idx) x.g = newPeriod (s.eng (outEngine sd.idx) x.g) ∧
    u = { s with lts := u.lts, engs := u.engs }) ∧
  (∀ (s : State) (sd : Side) (p : Pos) (i : Nat) (x : LaneTrain), i = laneIdx sd p → s.lt i = some x →
    x.stage = .training → (∀ j ∈ (s.port x.g).jobs, busyMaint j = false ∧ returning j = false) → ∃ u : State,
    exec (.laneTrainingTimeout sd p) s = .next ((u.ltTaskFails x.g i).goOn) ∧ u.lt i = none ∧
    u.posFailed x.g sd.idx p = true) ∧
  (∀ (s : State) (sd : Side) (p : Pos) (c : Instr), s.lt (laneIdx sd p) = none → c ∈ [.laneTrainingDone sd p,
    .shadowCopyStart sd p, .laneTrainingTimeout sd p] → exec c s = .next s)

/-- MARKER_CHECK at an ACTIVE receiver of a CFL port with CDR lock takes the machine of R120 one step and shows LOCK in
MARKER_LOCK: from HUNT a good marker leads to CONFIRM with GOOD 1; at the expected position the third good one in a row
leads to LOCK with MISS 0, a bad one in CONFIRM to HUNT, and the fourth bad one in a row in LOCK to HUNT; other checks
in LOCK keep it, and a good one clears MISS. A good one in LOCK lets the port gain codeword lock, where every lane of
the segment is in LOCK and the info words agree; in WAKING a port goes to ON with LP_WAKE once both incoming segments
have it. Elsewhere it changes nothing. ETHERNET_MARKER_LOCK on a lane of an
Ethernet port with CDR lock sets the lane's marker lock as given; the port has codeword lock where it is given, the
personality is not T, the segment is in UP and the skew is at most 40 ns, and losing it raises CW_LOCK_LOST.
CODEWORD_RECEIVED of a port with codeword lock counts it. A clean one counts besides only in the histograms of its
lanes; one with errors within the limit of the code (twice the errors and the erasures at most 30) counts as corrected,
and an Ethernet one leaves with fresh parity; above the limit it counts as uncorrectable and raises UNCORR, and an
Ethernet one counts as stomped and leaves with its blocks marked as errored. In T mode, or without codeword lock,
nothing changes. Places beyond 544 or out of order are no command (log entry 36). The code's field and roots, and which
lane of an Ethernet port a symbol came on, are the model's choices (log entry 7). -/
def Obligations.MarkersAndCodewords : Prop :=
  (∀ (s : State) (sd : Side) (p : Pos) (i : Nat) (m : MarkerObs), i = laneIdx sd p → s.rxActive i = true →
    s.on (LRX.cdrLock i) = true → s.cflEnd i = true →
    (markerNext (s.rxe i).mark (s.rxe i).good (s.rxe i).miss (goodMarker m) m.expected).1 ≠ .lock → ∃ u : State,
    exec (.markerCheck sd p m) s = .next (((u.cwDropAll sd.idx)).goOn) ∧ u.on (LRX.markerLock i) = false ∧
    ((s.rxe i).mark = .hunt → goodMarker m = true →
      (u.rxe i).mark = .confirm ∧ (u.rxe i).good = 1 ∧ (u.rxe i).info = m.info) ∧
    ((s.rxe i).mark = .hunt → goodMarker m = false → (u.rxe i).mark = .hunt) ∧
    ((s.rxe i).mark = .confirm → m.expected = true → goodMarker m = false → (u.rxe i).mark = .hunt) ∧
    ((s.rxe i).mark = .confirm → m.expected = true → goodMarker m = true →
      (u.rxe i).mark = .confirm ∧ (u.rxe i).good = (s.rxe i).good + 1) ∧
    ((s.rxe i).mark = .lock → (u.rxe i).mark = .hunt ∧ (s.rxe i).miss = 3) ∧
    Framed (fun x => { x with rx := [] }) [LRX.status i] s u) ∧
  (∀ (s : State) (sd : Side) (p : Pos) (i g n : Nat) (m : MarkerObs), i = laneIdx sd p → s.rxActive i = true →
    s.on (LRX.cdrLock i) = true → s.cflEnd i = true → goodMarker m = true → m.expected = true →
    (s.rxe i).mark = .lock ∨ ((s.rxe i).mark = .confirm ∧ (s.rxe i).good = 2) →
    s.carried sd.idx p = some (g, n) → ∃ u : State,
    exec (.markerCheck sd p m) s = .next ((u.markerPort g sd.idx i (decide ((s.rxe i).mark ≠ .lock))).goOn) ∧
    u.on (LRX.markerLock i) = true ∧ (u.rxe i).mark = .lock ∧ (u.rxe i).miss = 0 ∧ (u.rxe i).info = m.info ∧
    (u.rxe i).arriveNs = m.arriveNs ∧ Framed (fun x => { x with rx := [] }) [LRX.status i] s u) ∧
  (∀ (s : State) (sd : Side) (p : Pos) (i n : Nat) (g : Port) (m : MarkerObs), i = laneIdx sd p →
    s.rxActive i = true → s.on (LRX.cdrLock i) = true → s.cflEnd i = true → goodMarker m = true → m.expected = true →
    (s.rxe i).mark = .lock → s.carried sd.idx p = some (g.val, n) → s.pers g ≠ 0 → (s.port g).change = none →
    (s.seg g sd.idx 0).agreed = [] → s.on (DIR.cwLock (inEngine sd.idx) g) = false → ∃ u : State,
    exec (.markerCheck sd p m) s = .next (((u.cwGain g sd.idx).cwDropAll sd.idx).goOn) ∧
    Framed (fun x => { x with rx := [] }) [LRX.status i] s u) ∧
  (∀ (s : State) (g : Port) (sd : Side), s.get (PWR.lpstat g) = 3 → s.cfl g = true → s.pers g ≠ 0 →
    s.segState g sd.idx 0 = 6 → s.on (DIR.cwLock (inEngine sd.idx) g) = false →
    (s.lockedEnds g sd.idx).length = (s.rxEnds g sd.idx).length → s.infosAgree g sd.idx = true →
    (s.cwGain g sd.idx).on (DIR.cwLock (inEngine sd.idx) g) = true ∧
    (s.on (DIR.cwLock (inEngine (1 - sd.idx)) g) = true → (s.cwGain g sd.idx).get (PWR.lpstat g) = 0 ∧
      ((s.cwGain g sd.idx).reg PWR.event).getLsbD 6 = true) ∧
    (s.on (DIR.cwLock (inEngine (1 - sd.idx)) g) = false → (s.cwGain g sd.idx).get (PWR.lpstat g) = 3)) ∧
  (∀ (s : State) (sd : Side) (p : Pos) (i : Nat) (m : MarkerObs), i = laneIdx sd p → s.rxActive i = true →
    s.on (LRX.cdrLock i) = true → s.cflEnd i = true → goodMarker m = true → m.expected = true →
    (s.rxe i).mark = .lock ∨ ((s.rxe i).mark = .confirm ∧ (s.rxe i).good = 2) → s.carried sd.idx p = none → ∃ u : State,
    exec (.markerCheck sd p m) s = .next (([0, 1, 2, 3].foldl (fun t g =>
      if i ∈ t.rxEnds g sd.idx ∨ i ∈ t.ltEnds g sd.idx ∨ (t.partOf g sd.idx).isSome then
        t.markerPort g sd.idx i (decide ((s.rxe i).mark ≠ .lock)) else t) u).goOn) ∧
    u.on (LRX.markerLock i) = true ∧ (u.rxe i).mark = .lock ∧ (u.rxe i).miss = 0 ∧ (u.rxe i).info = m.info ∧
    Framed (fun x => { x with rx := [] }) [LRX.status i] s u) ∧
  (∀ (s : State) (sd : Side) (p : Pos) (i : Nat) (m : MarkerObs), i = laneIdx sd p → s.rxActive i = true →
    s.on (LRX.cdrLock i) = true → s.cflEnd i = true → (s.rxe i).mark = .lock →
    goodMarker m = false ∨ m.expected = false → (m.expected = true → (s.rxe i).miss ≠ 3) → ∃ u : State,
    exec (.markerCheck sd p m) s = .next ((u.cwDropAll sd.idx).goOn) ∧ u.on (LRX.markerLock i) = true ∧
    (u.rxe i).mark = .lock ∧ (u.rxe i).miss = (if m.expected then (s.rxe i).miss + 1 else (s.rxe i).miss) ∧
    Framed (fun x => { x with rx := [] }) [LRX.status i] s u) ∧
  (∀ (s : State) (sd : Side) (p : Pos) (m : MarkerObs), s.rxActive (laneIdx sd p) = false ∨
    s.on (LRX.cdrLock (laneIdx sd p)) = false ∨ s.cflEnd (laneIdx sd p) = false →
    exec (.markerCheck sd p m) s = .next s) ∧
  (∀ (s : State) (g : Port) (k : LaneN) (sd : Side) (p : Pos) (locked codeword : Bool) (skew i : Nat),
    i = laneIdx sd p → s.cfl g = false → p.val ∈ s.positions g sd.idx k → s.rxActive i = true →
    s.on (LRX.cdrLock i) = true → (s.seg g sd.idx k).cw = false → ∃ u : State,
    exec (.ethernetMarkerLock g k sd p locked codeword skew) s = .next ((u.segEval g sd.idx k).goOn) ∧
    u.on (LRX.markerLock i) = locked ∧ (u.rxe i).mark = (if locked then .lock else .hunt) ∧
    (u.seg g sd.idx k).cw = (codeword && decide (s.pers g ≠ 0) && decide (s.segState g sd.idx k = 6) &&
      decide (skew ≤ 40)) ∧
    Framed (fun x => { x with rx := [], segs := [] })
    [LRX.status i, (DIR.cwLock (inEngine sd.idx) g).addr, (DIR.skew (inEngine sd.idx) g).addr] s u) ∧
  (∀ (s : State) (g : Port) (k : LaneN) (sd : Side) (p : Pos) (locked codeword : Bool) (skew i : Nat),
    i = laneIdx sd p → s.cfl g = false → p.val ∈ s.positions g sd.idx k → s.rxActive i = true →
    s.on (LRX.cdrLock i) = true → (s.seg g sd.idx k).cw = true → codeword = false ∨ 40 < skew → ∃ u : State,
    exec (.ethernetMarkerLock g k sd p locked codeword skew) s = .next ((u.segEval g sd.idx k).goOn) ∧
    (u.seg g sd.idx k).cw = false ∧ u.on (LRX.markerLock i) = locked ∧
    (u.reg (DIR.event (inEngine sd.idx))).getLsbD 0 = true) ∧
  (∀ (s : State) (e : Eng) (g : Port) (k : LaneN) (msg : BitVec 5140), s.pers g ≠ 0 → k.val ∈ s.portKeys g →
    s.cwOf g e.inSide.idx k = true → s.portEnds' g e.idx k ≠ [] → (∀ i ∈ s.portEnds' g e.idx k, s.invalid i = false) →
    ∃ t, exec (.codewordReceived e g k [] [] msg) s = .next t ∧
    t.counter (DIR.cwTotal e.idx g) = (s.counter (DIR.cwTotal e.idx g) + 1) % 2 ^ 48 ∧
    Framed (fun x => { x with engs := [], rx := [], tx := [] }) ([DIR.cwTotal e.idx g, DIR.cwTotal e.idx g + 4] ++
      (s.portEnds' g e.idx k).map (fun i => LRX.base i + 0xE00)) s t) ∧
  (∀ (s : State) (e : Eng) (g : Port) (k : LaneN) (errors marked : List Nat) (msg : BitVec 5140), s.pers g ≠ 0 →
    k.val ∈ s.portKeys g → s.cwOf g e.inSide.idx k = true → s.portEnds' g e.idx k ≠ [] → errors ≠ [] →
    risingBelow 544 errors = true → risingBelow 544 marked = true →
    2 * (errors.filter (fun n => !s.erased (s.portEnds' g e.idx k) (544 * (s.eng e.idx g).cwIndex) marked n)).length +
      s.erasures (s.portEnds' g e.idx k) (544 * (s.eng e.idx g).cwIndex) marked ≤ 30 → ∃ t,
    exec (.codewordReceived e g k errors marked msg) s = .next t ∧
    t.counter (DIR.cwTotal e.idx g) = (s.counter (DIR.cwTotal e.idx g) + 1) % 2 ^ 48 ∧
    t.counter (DIR.cwCorr e.idx g) = (s.counter (DIR.cwCorr e.idx g) + 1) % 2 ^ 48 ∧
    (s.cfl g = false → s.segState g (1 - e.idx) k = 6 → (s.seg g (1 - e.idx) k).fill = false →
      t.out.getLast? = some (.codeword e g k (rsCodeword msg.toNat)))) ∧
  (∀ (s : State) (e : Eng) (g : Port) (k : LaneN) (errors marked : List Nat) (msg : BitVec 5140), s.pers g ≠ 0 →
    k.val ∈ s.portKeys g → s.cwOf g e.inSide.idx k = true → s.cfl g = true → s.portEnds' g e.idx k ≠ [] →
    risingBelow 544 errors = true → risingBelow 544 marked = true →
    30 < 2 * (errors.filter (fun n => !s.erased (s.portEnds' g e.idx k) (544 * (s.eng e.idx g).cwIndex) marked
    n)).length +
      s.erasures (s.portEnds' g e.idx k) (544 * (s.eng e.idx g).cwIndex) marked → ∃ t,
    exec (.codewordReceived e g k errors marked msg) s = .next t ∧
    t.counter (DIR.cwTotal e.idx g) = (s.counter (DIR.cwTotal e.idx g) + 1) % 2 ^ 48 ∧
    t.counter (DIR.cwUncorr e.idx g) = (s.counter (DIR.cwUncorr e.idx g) + 1) % 2 ^ 48 ∧
    (t.reg (DIR.event e.idx)).getLsbD 1 = true ∧
    Framed (fun x => { x with engs := [], rx := [] }) ([DIR.cwTotal e.idx g, DIR.cwTotal e.idx g + 4,
      DIR.cwUncorr e.idx g, DIR.cwUncorr e.idx g + 4, DIR.event e.idx] ++ (s.portEnds' g e.idx k).flatMap (fun i =>
      [LRX.cwUncorr i, LRX.cwUncorr i + 4, LRX.base i + 0xE40])) s t) ∧
  (∀ (s : State) (e : Eng) (g : Port) (k : LaneN) (errors marked : List Nat) (msg : BitVec 5140), s.pers g ≠ 0 →
    k.val ∈ s.portKeys g → s.cwOf g e.inSide.idx k = true → s.cfl g = false → s.portEnds' g e.idx k ≠ [] →
    risingBelow 544 errors = true → risingBelow 544 marked = true →
    30 < 2 * (errors.filter (fun n => !s.erased (s.portEnds' g e.idx k) (544 * (s.eng e.idx g).cwIndex) marked
    n)).length +
      s.erasures (s.portEnds' g e.idx k) (544 * (s.eng e.idx g).cwIndex) marked → ∃ t,
    exec (.codewordReceived e g k errors marked msg) s = .next t ∧
    t.counter (DIR.cwUncorr e.idx g) = (s.counter (DIR.cwUncorr e.idx g) + 1) % 2 ^ 48 ∧
    t.counter (DIR.stomp e.idx g) = (s.counter (DIR.stomp e.idx g) + 1) % 2 ^ 48 ∧
    (t.reg (DIR.event e.idx)).getLsbD 1 = true ∧
    (s.segState g (1 - e.idx) k = 6 → (s.seg g (1 - e.idx) k).fill = false →
      t.out.getLast? = some (.codeword e g k (rsCodeword (markedMessage msg))))) ∧
  (∀ (s : State) (e : Eng) (g : Port) (k : LaneN) (errors marked : List Nat) (msg : BitVec 5140),
    risingBelow 544 errors = true → risingBelow 544 marked = true → s.pers g = 0 ∨ s.cwOf g e.inSide.idx k = false →
    exec (.codewordReceived e g k errors marked msg) s = .next s) ∧
  (∀ (s : State) (e : Eng) (g : Port) (k : LaneN) (errors marked : List Nat) (msg : BitVec 5140),
    risingBelow 544 errors = false ∨ risingBelow 544 marked = false →
    exec (.codewordReceived e g k errors marked msg) s = .fault .illFormed)

/-- A command for a LANEMAP flit takes the oldest one where it has the command's operation, and otherwise changes
nothing. LANEMAP_PROPOSE in F mode answers with a REFUSE that echoes SEG, WIDTH, SRC and ID; where the port's own
change includes the segment, SEG names another or the proposal is not valid here, nothing else changes, and otherwise
it is queued as a request. LANEMAP_ACCEPT in F mode that carries the change's ID, SRC and WIDTH notes the acceptance,
with the ID and another SRC or WIDTH it ends the change, and with another ID it is only taken. LANEMAP_REFUSE with the
change's ID ends the change with MAP_FAIL. LANEMAP_NOTICE in G mode that names a move in progress lets it switch.
PROPOSE_RESEND of an unanswered part sends its PROPOSE again until it has been sent 8 times, and then ends the change.
Of a change that ends so, MAP_FAIL is raised and of the registers only the lane maps of its parts may change, before
the task it served goes on. -/
def Obligations.LanemapAgreements : Prop :=
  (∀ (s : State) (g : Port) (sd : Side) (w : BitVec 64) (r : List (BitVec 64)), (s.eng (inEngine sd.idx) g).mapq = w
    :: r → lmOp w = 0 → s.fMode g = true → s.ownChange g sd.idx = true ∨ lmSeg w ≠ sd.idx ∨
    s.askValid g sd.idx (widthLanes (lmWidth w)) (lmSrc w) = false → ∃ t, exec
    (.lanemapPropose g sd) s = .next t ∧ (t.eng (inEngine sd.idx) g).mapq = r ∧ (t.eng (outEngine sd.idx) g).ins =
    (s.eng (outEngine sd.idx) g).ins ++ [.lanemap (BitVec.ofNat 64 (lanemapWord 2 (lmSeg w) (lmWidth w) (lmSrc w) 0
    (lmId w)))] ∧ t = { s with engs := t.engs }) ∧
  (∀ (s : State) (g : Port) (sd : Side) (w : BitVec 64) (r : List (BitVec 64)), (s.eng (inEngine sd.idx) g).mapq = w
    :: r → lmOp w = 0 → s.fMode g = true → s.ownChange g sd.idx = false → lmSeg w = sd.idx → s.askValid g sd.idx
    (widthLanes (lmWidth w)) (lmSrc w) = true → ∃ u : State, exec (.lanemapPropose g sd) s = .next (u.goOn) ∧ (u.eng
    (inEngine sd.idx) g).mapq = r ∧ (u.eng (outEngine sd.idx) g).ins = (s.eng (outEngine sd.idx) g).ins ++ [.lanemap
    (BitVec.ofNat 64 (lanemapWord 2 (lmSeg w) (lmWidth w) (lmSrc w) 0 (lmId w)))] ∧ (u.port g).jobs = (s.port g).jobs
    ++ [{ Job.blank .asked sd.idx 0 with src := lmSrc w, width := widthLanes (lmWidth w) }] ∧ u =
    { s with engs := u.engs, ports := u.ports }) ∧
  (∀ (s : State) (g : Port) (sd : Side) (w : BitVec 64) (r : List (BitVec 64)) (c : Change) (p : Part), (s.eng
    (inEngine sd.idx) g).mapq = w :: r → lmOp w = 1 → s.fMode g = true → (s.port g).change = some c → s.partOf g
    sd.idx = some p → ∃ u : State, exec (.lanemapAccept g sd) s = .next ((if lmId w = c.id ∧ ¬(lmSrc w = p.src ∧
    lmWidth w = widthCode c.width) then (u.changeFail g).goOn else u)) ∧ (u.eng (inEngine sd.idx) g).mapq = r ∧ (lmId
    w = c.id → lmSrc w = p.src → lmWidth w = widthCode c.width → u.partOf g sd.idx = some { p with acc := true }) ∧
    (lmId w ≠ c.id → u = { s with engs := u.engs }) ∧ u = { s with engs := u.engs, ports := u.ports }) ∧
  (∀ (s : State) (g : Port) (sd : Side) (w : BitVec 64) (r : List (BitVec 64)) (c : Change) (p : Part), (s.eng
    (inEngine sd.idx) g).mapq = w :: r → lmOp w = 2 → s.fMode g = true → (s.port g).change = some c → s.partOf g
    sd.idx = some p → lmId w = c.id → ∃ u : State, exec (.lanemapRefuse g sd) s = .next (((((((if c.parts.any (fun p
    => p.tx) then u.noteWidth g else u).jobMapFailed g c.width).endTaken g).jobsRun).settlePower).settleCauses).goOn) ∧
    (u.eng (inEngine sd.idx) g).mapq = r ∧ (u.port g).change = none ∧ (u.reg GLB.event).getLsbD 11 = true ∧ Framed (fun
    x =>
    { x with engs := [], ports := [], segs := [] }) (GLB.event :: c.parts.map (fun p => GLB.lmap g p.side)) s u) ∧
  (∀ (s : State) (g : Port) (sd : Side) (w : BitVec 64) (r : List (BitVec 64)) (c : Change) (p : Part), (s.eng
    (inEngine sd.idx) g).mapq = w :: r → lmOp w = 3 → s.pers g = 1 → (s.port g).change = some c → s.partOf g sd.idx =
    some p → c.kind = .move → lmSeg w = sd.idx → lmSrc w = p.src → lmWidth w = widthCode c.width → ∃ t, exec
    (.lanemapNotice g sd) s = .next t ∧ (t.eng (inEngine sd.idx) g).mapq = r ∧ (t.port g).change = some
    { c with told := true } ∧ t = { s with engs := t.engs, ports := t.ports }) ∧
  (∀ (s : State) (g : Port) (sd : Side) (c : Change) (p : Part), (s.port g).change = some c → s.partOf g sd.idx =
    some p → p.acc = false → s.fMode g = true → p.sends < 8 → ∃ t, exec (.proposeResend g sd) s = .next t ∧ t.partOf
    g sd.idx = some { p with sends := p.sends + 1 } ∧ (t.eng (outEngine p.side) g).ins = (s.eng (outEngine p.side)
    g).ins ++ [.lanemap (BitVec.ofNat 64 (lanemapWord 0 p.side (widthCode c.width) p.src 0 c.id))] ∧ t =
    { s with engs := t.engs, ports := t.ports }) ∧
  (∀ (s : State) (g : Port) (sd : Side) (c : Change) (p : Part), (s.port g).change = some c → s.partOf g sd.idx =
    some p → p.acc = false → s.fMode g = true → 8 ≤ p.sends → ∃ u : State, exec (.proposeResend g sd) s = .next
    (((((((if c.parts.any (fun p => p.tx) then u.noteWidth g else u).jobMapFailed g c.width).endTaken
    g).jobsRun).settlePower).settleCauses).goOn) ∧ (u.port g).change = none ∧ (u.reg GLB.event).getLsbD 11 = true ∧
    Framed (fun x => { x with ports := [], segs := [] }) (GLB.event :: c.parts.map (fun p => GLB.lmap g p.side)) s u) ∧
  (∀ (s : State) (g : Port) (sd : Side), s.lanemapIn g sd.idx 0 = none → exec (.lanemapPropose g sd) s = .next s) ∧
  (∀ (s : State) (g : Port) (sd : Side), s.lanemapIn g sd.idx 1 = none → exec (.lanemapAccept g sd) s = .next s) ∧
  (∀ (s : State) (g : Port) (sd : Side), s.lanemapIn g sd.idx 2 = none → exec (.lanemapRefuse g sd) s = .next s) ∧
  (∀ (s : State) (g : Port) (sd : Side), s.lanemapIn g sd.idx 3 = none → exec (.lanemapNotice g sd) s = .next s)

/-- MAP_SWITCH_TX of a part whose transmitters may switch gives the segment's lanes the part's map for sending, notes
the switch and begins a marker period of the outgoing stream (log entry 38), before the change is checked for its end;
GLB_LMAP keeps the map of the last completed change. Where they may not switch it changes nothing. MAP_CHANGE_TIMEOUT
of an F-mode change with an accepted part, and MAP_CHANGE_TIMEOUT_TG of a change of a G- or T-mode port, end the change
and raise MAP_FAIL; of the registers only the lane maps of its parts may change besides, before the task that it served
goes on. With no part accepted, or in the other mode, they change nothing. ESCALATION_RETRY puts the first escalation
that waits after a MAP_FAIL in front of the port's tasks; with none waiting it changes nothing. Without a change in
progress none of the first two changes anything. -/
def Obligations.MapChanges : Prop :=
  (∀ (s : State) (g : Port) (sd : Side) (p : Part), s.partOf g sd.idx = some p → s.txMaySwitch g sd.idx = true →
    ∃ u : State, exec (.mapSwitchTx g sd) s = .next ((((u.changeCheck g)).settlePower).goOn) ∧
    u.partOf g sd.idx = some { p with tx := true } ∧ (∀ n, n < 8 → u.laneCode g sd.idx n = p.map.getD n 15) ∧
    u.eng (outEngine sd.idx) g = newPeriod (s.eng (outEngine sd.idx) g) ∧
    Framed (fun x => { x with ports := [], segs := [], engs := [] }) [0x1C4] s u) ∧
  (∀ (s : State) (g : Port) (sd : Side), s.txMaySwitch g sd.idx = false → exec (.mapSwitchTx g sd) s = .next s) ∧
  (∀ (s : State) (g : Port) (c : Change), (s.port g).change = some c → s.fMode g = true →
    c.parts.any (fun p => p.acc) = true → ∃ u : State, exec (.mapChangeTimeout g) s =
    .next (((((((if c.parts.any (fun p => p.tx) then u.noteWidth g else u).jobMapFailed g c.width).endTaken
      g).jobsRun).settlePower).settleCauses).goOn) ∧ (u.port g).change = none ∧
    (u.reg GLB.event).getLsbD 11 = true ∧
    Framed (fun x => { x with ports := [], segs := [] }) (GLB.event :: c.parts.map (fun p => GLB.lmap g p.side)) s u) ∧
  (∀ (s : State) (g : Port), (∀ c ∈ (s.port g).change, s.fMode g = false ∨ c.parts.any (fun p => p.acc) = false) →
    exec (.mapChangeTimeout g) s = .next s) ∧
  (∀ (s : State) (g : Port) (c : Change), (s.port g).change = some c → s.fMode g = false → ∃ u : State,
    exec (.mapChangeTimeoutTg g) s =
    .next (((((((if c.parts.any (fun p => p.tx) then u.noteWidth g else u).jobMapFailed g c.width).endTaken
      g).jobsRun).settlePower).settleCauses).goOn) ∧ (u.port g).change = none ∧
    (u.reg GLB.event).getLsbD 11 = true ∧
    Framed (fun x => { x with ports := [], segs := [] }) (GLB.event :: c.parts.map (fun p => GLB.lmap g p.side)) s u) ∧
  (∀ (s : State) (g : Port), s.fMode g = true → exec (.mapChangeTimeoutTg g) s = .next s) ∧
  (∀ (s : State) (g : Port) (j : Job) (r : List Job), (s.port g).retry = j :: r → ∃ u : State,
    exec (.escalationRetry g) s = .next (u.goOn) ∧ (u.port g).retry = r ∧ (u.port g).jobs = j :: (s.port g).jobs ∧
    u = { s with ports := u.ports }) ∧
  (∀ (s : State) (g : Port), (s.port g).retry = [] → exec (.escalationRetry g) s = .next s)

/-- On a CFL port with both segments in UP and codeword lock, where a flit counts as whole in correctable codewords as
the decoding of its pair has shown (R126, R130): in G mode an accepted flit other than LANEMAP and LPWR
leaves as it came, as the next flit of the outgoing codeword pair, and, but for SLACK, takes an AGREED port back to ON
with LP_CANCEL, and a failed one leaves
with a stomped CRC, counts in CRC_FAIL and STOMP and raises CRC_FAIL; an LPWR flit that leaves is observed besides.
Of the transmitters only the level that precoding goes on from changes. In F mode with transparent tags an accepted
CTRL or POISON flit with SEQ = RX_NEXT advances RX_NEXT, puts the incoming machine into FLOW and is forwarded, and
an accepted DATA flit does so after its parse; a failed flit in FLOW starts a go-back SNAK with C_SNAK 1, the NAK
timer and WAIT, and in another state it is only counted; a SLACK flit is deleted and counted; a SNAK follows its
acknowledgement over the cross-engine path; an accepted flit with a SEQ before RX_NEXT is dropped and counted.
Without codeword lock, with a segment out of UP, on an Ethernet port or in T mode a flit does nothing. All this
holds before what waits goes on. What makes a flit of TYPE 9 an LPWR flit is the model's reading (log entry 44). -/
def Obligations.FlitsReceived : Prop :=
  (∀ (s : State) (e : Eng) (g : Port) (f : Flit) (c : Bool) (a : Nat), s.cfl g = true → s.bothUp g = true →
    s.on (DIR.cwLock e.idx g) = true → s.pers g = 1 → flitAccepted f (s.flitWhole e.idx g c) = true →
    flitType f ≠ 5 → flitType f ≠ 9 → s.get (PWR.lpstat g) ≠ 1 ∨ flitType f = 2 →
    ∃ u : State, exec (.flitReceived e g f c a) s = .next (u.goOn) ∧
    s.out ++ [.flit e g f] <+: u.out ∧
    (u.eng e.idx g).pack = (if (s.eng e.idx g).pack.length < 4 then (s.eng e.idx g).pack ++ [f] else []) ∧
    (sequenced f = true → u.counter (DIR.flitRx e.idx g) = (s.counter (DIR.flitRx e.idx g) + 1) % 2 ^ 48) ∧
    (sequenced f = false → u.counter (DIR.flitRx e.idx g) = s.counter (DIR.flitRx e.idx g)) ∧
    (∀ i, u.txe i = { s.txe i with last := (u.txe i).last }) ∧
    Framed (fun x => { x with engs := [], tx := [] }) [DIR.flitRx e.idx g, DIR.flitRx e.idx g + 4] s u) ∧
  (∀ (s : State) (e : Eng) (g : Port) (f : Flit) (c : Bool) (a : Nat), s.cfl g = true → s.bothUp g = true →
    s.on (DIR.cwLock e.idx g) = true → s.pers g = 1 → flitAccepted f (s.flitWhole e.idx g c) = true →
    flitType f ≠ 5 → flitType f ≠ 9 → flitType f ≠ 2 → s.get (PWR.lpstat g) = 1 →
    ∃ u : State, exec (.flitReceived e g f c a) s = .next (u.goOn) ∧ s.out ++ [.flit e g f] <+: u.out ∧
    u.get (PWR.lpstat g) = 0 ∧ (u.reg PWR.event).getLsbD 7 = true ∧
    Framed (fun x => { x with engs := [], tx := [], ports := [] })
      [DIR.flitRx e.idx g, DIR.flitRx e.idx g + 4, 0x20020 + 4 * g.val, PWR.event] s u) ∧
  (∀ (s : State) (e : Eng) (g : Port) (f : Flit) (c : Bool) (a : Nat), s.cfl g = true → s.bothUp g = true →
    s.on (DIR.cwLock e.idx g) = true → s.pers g = 1 → flitAccepted f (s.flitWhole e.idx g c) = true → flitType f = 9 →
    ∃ u : State, exec (.flitReceived e g f c a) s = .next ((u.lpObserve e.idx g f).goOn) ∧
    s.out ++ [.flit e g f] <+: u.out ∧ (∀ i, u.txe i = { s.txe i with last := (u.txe i).last }) ∧
    Framed (fun x => { x with engs := [], tx := [] }) [] s u) ∧
  (∀ (s : State) (e : Eng) (g : Port) (f : Flit) (c : Bool) (a : Nat), s.cfl g = true → s.bothUp g = true →
    s.on (DIR.cwLock e.idx g) = true → s.pers g = 1 → flitAccepted f (s.flitWhole e.idx g c) = false → ∃ u : State,
    exec (.flitReceived e g f c a) s = .next (u.goOn) ∧ .flit e g (stomped f) ∈ u.out ∧
    (u.eng e.idx g).pack = (if (s.eng e.idx g).pack.length < 4 then (s.eng e.idx g).pack ++ [stomped f] else []) ∧
    u.counter (DIR.crcFail e.idx g) = (s.counter (DIR.crcFail e.idx g) + 1) % 2 ^ 48 ∧
    u.counter (DIR.stomp e.idx g) = (s.counter (DIR.stomp e.idx g) + 1) % 2 ^ 48 ∧
    (u.reg (DIR.event e.idx)).getLsbD 2 = true ∧ (∀ i, u.txe i = { s.txe i with last := (u.txe i).last }) ∧
    Framed (fun x => { x with engs := [], tx := [] }) [DIR.crcFail e.idx g,
    DIR.crcFail e.idx g + 4, DIR.stomp e.idx g, DIR.stomp e.idx g + 4, DIR.event e.idx] s u) ∧
  (∀ (s : State) (e : Eng) (g : Port) (f : Flit) (c : Bool) (a : Nat), s.cfl g = true → s.bothUp g = true →
    s.on (DIR.cwLock e.idx g) = true → s.pers g = 2 → flitAccepted f (s.flitWhole e.idx g c) = true →
    flitType f = 3 ∨ flitType f = 4 → flitSeq f = s.get (DIR.rxNext e.idx g) → (s.eng e.idx g).tagMode = 0 →
    ∃ u : State, exec (.flitReceived e g f c a) s =
    .next (((u.forward e.idx g { flit := f, arrive := a, pids := [], unknown := false, tagBad := false })).goOn) ∧
    u.get (DIR.rxNext e.idx g) = (flitSeq f + 1) % 4096 ∧ u.get (DIR.inState e.idx g) = 0 ∧
    u.get (DIR.cSnak e.idx g) = 0 ∧ (u.eng e.idx g).accepted = true ∧ (u.eng e.idx g).timer = false ∧
    u.counter (DIR.flitRx e.idx g) = (s.counter (DIR.flitRx e.idx g) + 1) % 2 ^ 48 ∧
    Framed (fun x => { x with engs := [] }) [(DIR.rxNext e.idx g).addr, DIR.flitRx e.idx g, DIR.flitRx e.idx g + 4,
      DIR.event e.idx] s u) ∧
  (∀ (s : State) (e : Eng) (g : Port) (f : Flit) (c : Bool) (a : Nat) (p : Parse), s.cfl g = true →
    s.bothUp g = true → s.on (DIR.cwLock e.idx g) = true → s.pers g = 2 →
    flitAccepted f (s.flitWhole e.idx g c) = true → flitType f = 1 → flitSeq f = s.get (DIR.rxNext e.idx g) →
    (s.eng e.idx g).tagMode = 0 → p = parseFlit f (s.eng e.idx g).openTx (s.eng e.idx g).lost → ∃ u : State,
    exec (.flitReceived e g f c a) s =
    .next (((u.forward e.idx g ⟨f, a, p.parts.map (fun w => w.pid), p.unknown, false⟩)).goOn) ∧
    u.get (DIR.rxNext e.idx g) = (flitSeq f + 1) % 4096 ∧ u.get (DIR.inState e.idx g) = 0 ∧
    u.get (DIR.cSnak e.idx g) = 0 ∧ (u.eng e.idx g).accepted = true ∧ (u.eng e.idx g).openTx = p.openTx ∧
    (u.eng e.idx g).lost = p.lost ∧
    u.counter (DIR.flitRx e.idx g) = (s.counter (DIR.flitRx e.idx g) + 1) % 2 ^ 48 ∧
    (p.bad = true → u.counter (DIR.parseErr e.idx g) = (s.counter (DIR.parseErr e.idx g) + 1) % 2 ^ 48 ∧
      (u.reg (DIR.event e.idx)).getLsbD 4 = true) ∧
    { u.base with engs := [] } = { s.base with engs := [] }) ∧
  (∀ (s : State) (e : Eng) (g : Port) (f : Flit) (c : Bool) (a : Nat), s.cfl g = true → s.bothUp g = true →
    s.on (DIR.cwLock e.idx g) = true → s.pers g = 2 → flitAccepted f (s.flitWhole e.idx g c) = false → ∃ u : State,
    exec (.flitReceived e g f c a) s = .next (u.goOn) ∧
    (s.get (DIR.inState e.idx g) = 0 → u.get (DIR.inState e.idx g) = 1 ∧ u.get (DIR.cSnak e.idx g) = 1 ∧
      (u.eng e.idx g).timer = true ∧ (u.eng (1 - e.idx) g).ins = (s.eng (1 - e.idx) g).ins ++ [.snak] ∧
      u.counter (DIR.snakOut e.idx g) = (s.counter (DIR.snakOut e.idx g) + 1) % 2 ^ 48 ∧
      (u.reg (DIR.event e.idx)).getLsbD 8 = true) ∧
    (s.get (DIR.inState e.idx g) ≠ 0 → u.get (DIR.inState e.idx g) = s.get (DIR.inState e.idx g) ∧
      u.get (DIR.cSnak e.idx g) = s.get (DIR.cSnak e.idx g) ∧
      u.counter (DIR.snakOut e.idx g) = s.counter (DIR.snakOut e.idx g)) ∧
    u.counter (DIR.crcFail e.idx g) = (s.counter (DIR.crcFail e.idx g) + 1) % 2 ^ 48 ∧
    u.counter (DIR.seqDrop e.idx g) = (s.counter (DIR.seqDrop e.idx g) + 1) % 2 ^ 48 ∧
    (u.reg (DIR.event e.idx)).getLsbD 2 = true ∧
    Framed (fun x => { x with engs := [] }) [(DIR.inState e.idx g).addr,
    DIR.crcFail e.idx g, DIR.crcFail e.idx g + 4, DIR.seqDrop e.idx g, DIR.seqDrop e.idx g + 4, DIR.snakOut e.idx g,
    DIR.snakOut e.idx g + 4, DIR.event e.idx] s u) ∧
  (∀ (s : State) (e : Eng) (g : Port) (f : Flit) (c : Bool) (a : Nat), s.cfl g = true → s.bothUp g = true →
    s.on (DIR.cwLock e.idx g) = true → s.pers g = 2 → flitAccepted f (s.flitWhole e.idx g c) = true → flitType f = 2 →
    ∃ u : State, exec (.flitReceived e g f c a) s = .next (u.goOn) ∧
    u.counter (DIR.slackDel e.idx g) = (s.counter (DIR.slackDel e.idx g) + 1) % 2 ^ 48 ∧
    Framed (fun x => { x with engs := [] }) [DIR.slackDel e.idx g, DIR.slackDel e.idx g + 4, DIR.event e.idx] s u) ∧
  (∀ (s : State) (e : Eng) (g : Port) (f : Flit) (c : Bool) (a : Nat), s.cfl g = true → s.bothUp g = true →
    s.on (DIR.cwLock e.idx g) = true → s.pers g = 2 → flitAccepted f (s.flitWhole e.idx g c) = true → flitType f = 6 →
    ∃ u : State, exec (.flitReceived e g f c a) s = .next (u.goOn) ∧
    (u.eng (1 - e.idx) g).xpath = (s.eng (1 - e.idx) g).xpath ++
      (if flitSackV f then [.sack (flitSack f)] else []) ++
      [.snak (payWord f 0 % 4096) (payWord f 0 / 4096 % 4096) (decide (payWord f 0 / 2 ^ 24 % 2 = 1))] ∧
    Framed (fun x => { x with engs := [] }) [DIR.event e.idx] s u) ∧
  (∀ (s : State) (e : Eng) (g : Port) (f : Flit) (c : Bool) (a : Nat), s.cfl g = true → s.bothUp g = true →
    s.on (DIR.cwLock e.idx g) = true → s.pers g = 2 → flitAccepted f (s.flitWhole e.idx g c) = true →
    sequenced f = true → flitSeq f ≠ s.get (DIR.rxNext e.idx g) →
    seqAfter (flitSeq f) (s.get (DIR.rxNext e.idx g)) = false → ∃ u : State,
    exec (.flitReceived e g f c a) s = .next (u.goOn) ∧
    u.counter (DIR.flitRx e.idx g) = (s.counter (DIR.flitRx e.idx g) + 1) % 2 ^ 48 ∧
    u.counter (DIR.seqDrop e.idx g) = (s.counter (DIR.seqDrop e.idx g) + 1) % 2 ^ 48 ∧
    u.get (DIR.rxNext e.idx g) = s.get (DIR.rxNext e.idx g) ∧ Framed (fun x => { x with engs := [] })
    [DIR.seqDrop e.idx g, DIR.seqDrop e.idx g + 4, DIR.flitRx e.idx g, DIR.flitRx e.idx g + 4, DIR.event e.idx] s u) ∧
  (∀ (s : State) (e : Eng) (g : Port) (f : Flit) (c : Bool) (a : Nat), s.bothUp g = false ∨
    s.on (DIR.cwLock e.idx g) = false ∨ s.cfl g = false ∨ (s.pers g ≠ 1 ∧ s.pers g ≠ 2) →
    exec (.flitReceived e g f c a) s = .next s.goOn)

/-- In F mode: NAK_TIMER_EXPIRY in WAIT with the timer running raises NAK_TIMEOUT, and with C_SNAK below 3 sends the
SNAK again with C_SNAK one higher, or without codeword lock leaves it and the timer (log entry 39, the model's
choice), at 3 it abandons at RX_NEXT with reason 6; elsewhere it changes nothing. PURE_SACK_DUE with the idle count
reached and no pure SACK waiting queues one; elsewhere it changes nothing. CROSS_ENGINE_SACK of a SEQ after SACK_IN
and before TX_NEXT moves SACK_IN to it, releases the slots that it covers and then checks the drain; of a SEQ at or
after TX_NEXT it only raises SACK_BAD, and of one not after SACK_IN it is only taken. CROSS_ENGINE_SNAK with no SEQ
left to replay, or in ABANDONED behind the abandon that overtakes it, is only taken; otherwise, in ABANDONED too, of
SEQs all before TX_NEXT it queues the range that is not
acknowledged and counts it, with the replay queue full it abandons at the lowest SEQ with reason 5, and of a SEQ at
or after TX_NEXT it counts in SNAK_BAD and raises it. With nothing on the cross-engine path neither changes
anything. -/
def Obligations.AcknowledgementsAndReplayRequests : Prop :=
  (∀ (s : State) (e : Eng) (g : Port), s.fMode g = true → s.get (DIR.inState e.idx g) = 1 → (s.eng e.idx g).timer =
    true → s.get (DIR.cSnak e.idx g) < 3 → s.on (DIR.cwLock e.idx g) = true →
    ∃ t, exec (.nakTimerExpiry e g) s = .next t ∧ t.get (DIR.inState e.idx g)
    = 1 ∧ t.get (DIR.cSnak e.idx g) = s.get (DIR.cSnak e.idx g) + 1 ∧ (t.reg (DIR.event e.idx)).getLsbD 15 = true ∧
    (t.eng (1 - e.idx) g).ins = (s.eng (1 - e.idx) g).ins ++ [.snak] ∧ (t.eng e.idx g).timer = true ∧ t.counter
    (DIR.snakOut e.idx g) = (s.counter (DIR.snakOut e.idx g) + 1) % 2 ^ 48 ∧ Framed (fun x => { x with engs := [] })
    [(DIR.inState e.idx g).addr, DIR.snakOut e.idx g, DIR.snakOut e.idx g + 4, DIR.event e.idx] s t) ∧
  (∀ (s : State) (e : Eng) (g : Port), s.fMode g = true → s.get (DIR.inState e.idx g) = 1 → (s.eng e.idx g).timer =
    true → s.get (DIR.cSnak e.idx g) < 3 → s.on (DIR.cwLock e.idx g) = false → ∃ t, exec (.nakTimerExpiry e g) s =
    .next t ∧ (t.reg (DIR.event e.idx)).getLsbD 15 = true ∧ Framed id [DIR.event e.idx] s t) ∧
  (∀ (s : State) (e : Eng) (g : Port), s.fMode g = true → s.get (DIR.inState e.idx g) = 1 → (s.eng e.idx g).timer =
    true → s.get (DIR.cSnak e.idx g) = 3 → ∃ t, exec (.nakTimerExpiry e g) s = .next t ∧ t.get (DIR.inState e.idx g)
    = 2 ∧ t.get (DIR.rxNext e.idx g) = s.get (DIR.rxNext e.idx g) ∧ t.get (DIR.abnFirst e.idx g) = s.get (DIR.rxNext
    e.idx g) ∧ t.get (DIR.abnReason e.idx g) = 6 ∧ t.on (DIR.abnOrigin e.idx g) = true ∧ (t.eng e.idx g).timer =
    false ∧ t.counter (DIR.abandon e.idx g) = (s.counter (DIR.abandon e.idx g) + 1) % 2 ^ 48 ∧ (t.reg (DIR.event
    e.idx)).getLsbD 6 = true ∧ (t.reg (DIR.event e.idx)).getLsbD 15 = true ∧ Framed (fun x => { x with engs := [] })
    [(DIR.inState e.idx g).addr, (DIR.backlog e.idx g).addr, (DIR.abnFirst e.idx g).addr, (DIR.deferLeft e.idx
    g).addr, DIR.abandon e.idx g, DIR.abandon e.idx g + 4, DIR.event e.idx, 0xA800C, PRT.event] s t) ∧
  (∀ (s : State) (e : Eng) (g : Port), s.fMode g = true → (s.eng e.idx g).accepted = true → orOne (s.get
    (DIR.sackIdle e.idx g)) ≤ (s.eng e.idx g).sackSlots →
    (s.eng (1 - e.idx) g).ins.contains .pureSack = false → ∃ t, exec (.pureSackDue e g) s = .next t ∧ (t.eng (1 -
    e.idx) g).ins = (s.eng (1 - e.idx) g).ins ++ [.pureSack] ∧ t = { s with engs := t.engs }) ∧
  (∀ (s : State) (e : Eng) (g : Port), s.fMode g = false ∨ (s.eng e.idx g).accepted = false ∨
    (s.eng e.idx g).sackSlots < orOne (s.get (DIR.sackIdle e.idx g)) ∨
    (s.eng (1 - e.idx) g).ins.contains .pureSack = true → exec (.pureSackDue e g) s = .next s) ∧
  (∀ (s : State) (e : Eng) (g : Port) (n : Nat) (r : List XMsg), (s.eng e.idx g).xpath = .sack n :: r → n < 4096 →
    seqFrom n (s.get (DIR.txNext e.idx g)) = false → seqAfter n (s.get (DIR.sackIn e.idx g)) = true → ∃ u : State,
    exec (.crossEngineSack e g) s = .next ((u.drainCheck e.idx g)) ∧ u.get (DIR.sackIn e.idx g) = n ∧ (u.eng e.idx
    g).xpath = r ∧ (u.eng e.idx g).slots = (s.eng e.idx g).slots.map (fun y => if seqAfter y.seq n then y else
    { y with released := true }) ∧ Framed (fun x => { x with engs := [] }) [(DIR.sackIn e.idx g).addr] s u) ∧
  (∀ (s : State) (e : Eng) (g : Port) (n : Nat) (r : List XMsg), (s.eng e.idx g).xpath = .sack n :: r → seqFrom n
    (s.get (DIR.txNext e.idx g)) = true → ∃ t, exec (.crossEngineSack e g) s = .next t ∧ (t.eng e.idx g).xpath = r ∧
    (t.reg (DIR.event e.idx)).getLsbD 23 = true ∧ Framed (fun x => { x with engs := [] }) [DIR.event e.idx] s t) ∧
  (∀ (s : State) (e : Eng) (g : Port) (n : Nat) (r : List XMsg), (s.eng e.idx g).xpath = .sack n :: r →
    seqFrom n (s.get (DIR.txNext e.idx g)) = false → seqAfter n (s.get (DIR.sackIn e.idx g)) = false →
    exec (.crossEngineSack e g) s = .next (s.updEng e.idx g (fun x => { x with xpath := r }))) ∧
  (∀ (s : State) (e : Eng) (g : Port) (first count : Nat) (back : Bool) (r : List XMsg) (q : Nat) (l : List Nat),
    (s.eng e.idx g).xpath = .snak first count back :: r → (s.get (DIR.inState e.idx g) = 2 → (match (s.eng e.idx g).outAbandon with
    | some a => seqFrom first a | none => false) = false) →
    (snakRange (s.get
    (DIR.txNext e.idx g)) first count back).filter (fun x => seqAfter x (s.get (DIR.sackIn e.idx g))) = q :: l → (q ::
    l).any (fun x => seqFrom x (s.get (DIR.txNext e.idx g))) = false → (s.eng e.idx g).queue.length < 8 → ∃ t, exec
    (.crossEngineSnak e g) s = .next t ∧ (t.eng e.idx g).queue = (s.eng e.idx g).queue ++ [(q, l.length + 1)] ∧
    (t.eng e.idx g).xpath = r ∧ t.get (DIR.rplq e.idx g) = (s.eng e.idx g).queue.length + 1 ∧ t.counter (DIR.snakIn
    e.idx g) = (s.counter (DIR.snakIn e.idx g) + 1) % 2 ^ 48 ∧ Framed (fun x => { x with engs := [] }) [(DIR.rplq
    e.idx g).addr, (DIR.replaying e.idx g).addr, DIR.snakIn e.idx g, DIR.snakIn e.idx g + 4] s t) ∧
  (∀ (s : State) (e : Eng) (g : Port) (first count : Nat) (back : Bool) (r : List XMsg),
    (s.eng e.idx g).xpath = .snak first count back :: r → (snakRange (s.get (DIR.txNext e.idx g)) first count
    back).filter (fun x => seqAfter x (s.get (DIR.sackIn e.idx g))) = [] ∨ (s.get (DIR.inState e.idx g) = 2 ∧
    (match (s.eng e.idx g).outAbandon with | some a => seqFrom first a | none => false) = true) →
    exec (.crossEngineSnak e g) s = .next (s.updEng e.idx g (fun x => { x with xpath := r }))) ∧
  (∀ (s : State) (e : Eng) (g : Port) (first count : Nat) (back : Bool) (r : List XMsg) (q : Nat) (l : List Nat),
    (s.eng e.idx g).xpath = .snak first count back :: r → (s.get (DIR.inState e.idx g) = 2 → (match (s.eng e.idx g).outAbandon with
    | some a => seqFrom first a | none => false) = false) →
    (snakRange (s.get (DIR.txNext e.idx g)) first count back).filter (fun x => seqAfter x
    (s.get (DIR.sackIn e.idx g))) = q :: l → (q :: l).any (fun x => seqFrom x (s.get (DIR.txNext e.idx g))) = true →
    ∃ t, exec (.crossEngineSnak e g) s = .next t ∧ (t.eng e.idx g).xpath = r ∧
    t.counter (DIR.snakBad e.idx g) = (s.counter (DIR.snakBad e.idx g) + 1) % 2 ^ 48 ∧
    (t.reg (DIR.event e.idx)).getLsbD 7 = true ∧ Framed (fun x => { x with engs := [] })
    [DIR.snakBad e.idx g, DIR.snakBad e.idx g + 4, DIR.event e.idx] s t) ∧
  (∀ (s : State) (e : Eng) (g : Port) (first count : Nat) (back : Bool) (r : List XMsg) (q : Nat) (l : List Nat),
    (s.eng e.idx g).xpath = .snak first count back :: r → (s.get (DIR.inState e.idx g) = 2 → (match (s.eng e.idx g).outAbandon with
    | some a => seqFrom first a | none => false) = false) →
    (snakRange (s.get (DIR.txNext e.idx g)) first count back).filter (fun x => seqAfter x
    (s.get (DIR.sackIn e.idx g))) = q :: l → (q :: l).any (fun x => seqFrom x (s.get (DIR.txNext e.idx g))) = false →
    8 ≤ (s.eng e.idx g).queue.length → exec (.crossEngineSnak e g) s = .next ((s.updEng e.idx g (fun x =>
      { x with xpath := r })).abandonAt e.idx g (lowestSeq q ((s.eng e.idx g).queue.map (fun x => x.1))) 5)) ∧
  (∀ (s : State) (e : Eng) (g : Port), s.fMode g = false ∨ s.get (DIR.inState e.idx g) ≠ 1 ∨
    (s.eng e.idx g).timer = false → exec (.nakTimerExpiry e g) s = .next s) ∧
  (∀ (s : State) (e : Eng) (g : Port), (s.eng e.idx g).xpath = [] →
    exec (.crossEngineSack e g) s = .next s ∧ exec (.crossEngineSnak e g) s = .next s)

/-- FLIT_SLOT of a CFL port in G or F mode with both segments in UP: without codeword lock on the incoming segment,
outside the low-power states, a SLACK flit leaves and counts; in F mode an idle slot and an owed one, with no flit
waiting, send SLACK too. In F mode where no SLACK flit is owed: with no replay, insertion or deferred flit, a newly
accepted flit other than LPWR leaves with the acknowledgement of R132 and a computed CRC, and TX_NEXT moves past its
SEQ; one that R195 names leaves as POISON without tag where tags are transparent, and counts in QPOISON; in segment
mode a sequenced one leaves with the tag under the key of TX_SLOT, or without a tag and with KEY_ABSENT where that is
invalid. Any but SLACK and LPWR takes an AGREED port back to ON with LP_CANCEL. A queued SNAK leaves with the peer
engine's RX_NEXT, and waits while that engine lacks codeword lock; a pure SACK, ABANDON or LANEMAP flit leaves. A range
that waits is checked, in this order: a SEQ not held gives NOT_HELD, a flit replayed 3 times REPLAY_LIMIT, one too late
BOUND, too little room DEFER_FULL, and the range is abandoned at its first SEQ with that reason; otherwise its replay
starts, is counted and raises RPL_REPLAY. A flit of a replay leaves again with the present acknowledgement; with a
quenched PID it leaves as POISON and counts in QPOISON the first time and in QRPL each time. The oldest deferred flit
leaves as a new one, or as POISON. A new flit whose slot is taken is deferred, and with the buffer full abandons at the
oldest sequenced SEQ there with DEFER_FULL and, sequenced, is dropped. A slot of a port whose segments are not both in
UP, of an Ethernet or T-mode port, of a G-mode port with codeword lock, or without codeword lock in a low-power state,
changes nothing. -/
def Obligations.FlitSlots : Prop :=
  (∀ (s : State) (e : Eng) (g : Port) (ps : Nat) (pe : Bool), s.cfl g = true → s.bothUp g = true → s.pers g ≠ 0 →
    s.on (DIR.cwLock e.idx g) = false → s.inLowPower g = false → ∃ t, exec (.flitSlot e g ps pe) s = .next t ∧ s.out ++
    [.flit e g slackFlit] <+: t.out ∧ t.counter (DIR.slackIns e.idx g) = (s.counter (DIR.slackIns e.idx g) + 1) % 2
    ^ 48 ∧ (t.eng e.idx g).slackRun = 0 ∧ (∀ i, t.txe i = { s.txe i with last := (t.txe i).last }) ∧
    Framed (fun x => { x with engs := [], tx := [] }) [DIR.slackIns e.idx g, DIR.slackIns
    e.idx g + 4] s t) ∧
  (∀ (s : State) (e : Eng) (g : Port) (ps : Nat) (pe : Bool), s.cfl g = true → s.bothUp g = true → s.pers g = 2 →
    s.on (DIR.cwLock e.idx g) = true → s.slackOwed e.idx g = false → (s.eng e.idx g).replay = [] →
    (s.eng e.idx g).ins = [] → (s.eng e.idx g).queue = [] → (s.eng e.idx g).defer = [] → (s.eng e.idx g).fresh = none →
    ∃ t, exec (.flitSlot e g ps pe) s = .next t ∧
    s.out ++ [.flit e g slackFlit] <+: t.out ∧ t.counter (DIR.slackIns e.idx g) = (s.counter (DIR.slackIns e.idx g) +
    1) % 2 ^ 48 ∧ (t.eng e.idx g).slackRun = 0 ∧ (∀ i, t.txe i = { s.txe i with last := (t.txe i).last }) ∧
    Framed (fun x => { x with engs := [], tx := [] }) [DIR.slackIns e.idx g,
    DIR.slackIns e.idx g + 4] s t) ∧
  (∀ (s : State) (e : Eng) (g : Port) (ps : Nat) (h : Held), s.cfl g = true → s.bothUp g = true → s.pers g = 2 → s.on
    (DIR.cwLock e.idx g) = true → s.slackOwed e.idx g = false → (s.eng e.idx g).replay = [] → (s.eng e.idx g).ins =
    [] → (s.eng e.idx g).queue = [] → (s.eng e.idx g).defer = [] → (s.eng e.idx g).fresh = some h → (s.eng e.idx
    g).tagMode = 0 → s.quenchedFlit h = false → h.tagBad = false → flitType h.flit ≠ 9 → s.get (PWR.lpstat g) ≠ 1 →
    ∃ t, exec (.flitSlot e
    g ps false) s = .next t ∧ 
    .flit e g (withCrc (withSack h.flit (s.segAck e.idx g))) ∈ t.out ∧
    (t.eng e.idx g).fresh = none ∧ (sequenced h.flit = true → t.get (DIR.txNext e.idx g) = (flitSeq h.flit + 1) %
    4096) ∧ (∀ i, t.txe i = { s.txe i with last := (t.txe i).last }) ∧
    Framed (fun x => { x with engs := [], tx := [] }) [(DIR.txNext e.idx g).addr, DIR.evict e.idx g, DIR.evict e.idx g
    + 4, DIR.event e.idx, (DIR.drained e.idx g).addr, 0xA800C, PRT.event] s t) ∧
  (∀ (s : State) (e : Eng) (g : Port) (ps : Nat) (h : Held), s.cfl g = true → s.bothUp g = true → s.pers g = 2 → s.on
    (DIR.cwLock e.idx g) = true → s.slackOwed e.idx g = false → (s.eng e.idx g).replay = [] → (s.eng e.idx g).ins =
    [] → (s.eng e.idx g).queue = [] → (s.eng e.idx g).defer = [] → (s.eng e.idx g).fresh = some h → (s.eng e.idx
    g).tagMode = 0 → s.quenchedFlit h = true → s.get (PWR.lpstat g) ≠ 1 → ∃ t, exec (.flitSlot e g ps false) s =
    .next t ∧ 
    .flit e g (withCrc { setHdr (poisonOf (withSack h.flit (s.segAck e.idx g))) 58 1 0 with tag := 0 }) ∈ t.out ∧
    (t.eng e.idx g).fresh = none
    ∧ t.get (DIR.txNext e.idx g) = (flitSeq h.flit + 1) % 4096 ∧ t.counter (DIR.qpoison e.idx g) = (s.counter
    (DIR.qpoison e.idx g) + 1) % 2 ^ 48 ∧ (∀ i, t.txe i = { s.txe i with last := (t.txe i).last }) ∧
    Framed (fun x => { x with engs := [], tx := [] }) [(DIR.txNext e.idx g).addr,
    DIR.evict e.idx g, DIR.evict e.idx g + 4, DIR.qpoison e.idx g, DIR.qpoison e.idx g + 4, DIR.qcoll e.idx g,
    DIR.qcoll e.idx g + 4, DIR.event e.idx, (DIR.drained e.idx g).addr, 0xA800C, PRT.event] s t) ∧
  (∀ (s : State) (e : Eng) (g : Port) (ps : Nat) (pe : Bool), s.cfl g = true → s.bothUp g = true → s.pers g = 2 →
    s.on (DIR.cwLock e.idx g) = true → s.slackOwed e.idx g = true → (s.eng e.idx g).fresh = none → ∃ t,
    exec (.flitSlot e g ps pe) s = .next t ∧ s.out ++ [.flit e g slackFlit] <+: t.out ∧
    t.counter (DIR.slackIns e.idx g) = (s.counter (DIR.slackIns e.idx g) + 1) % 2 ^ 48 ∧
    (t.eng e.idx g).slackRun = 0 ∧ (∀ i, t.txe i = { s.txe i with last := (t.txe i).last }) ∧
    Framed (fun x => { x with engs := [], tx := [] }) [DIR.slackIns e.idx g,
    DIR.slackIns e.idx g + 4] s t) ∧
  (∀ (s : State) (e : Eng) (g : Port) (ps : Nat) (r : List Ins), s.cfl g = true → s.bothUp g = true →
    s.pers g = 2 → s.on (DIR.cwLock e.idx g) = true → s.slackOwed e.idx g = false → (s.eng e.idx g).replay = [] →
    (s.eng e.idx g).ins = .snak :: r → s.on (DIR.cwLock (1 - e.idx) g) = true → (s.eng e.idx g).fresh = none → ∃ t,
    exec (.flitSlot e g ps false) s = .next t ∧ (t.eng e.idx g).ins = r ∧ s.out ++ [.flit e g (withCrc
      (s.ownFlit e.idx g 6 (snakWord (s.get (DIR.rxNext (1 - e.idx) g)) 0 true)))] <+: t.out ∧
    (t.eng e.idx g).slackRun = (s.eng e.idx g).slackRun + 1 ∧ (∀ i, t.txe i = { s.txe i with last := (t.txe i).last }) ∧
    Framed (fun x => { x with engs := [], tx := [] }) [] s t) ∧
  (∀ (s : State) (e : Eng) (g : Port) (ps : Nat) (pe : Bool), s.cfl g = true → s.bothUp g = true → s.pers g = 2 →
    s.on (DIR.cwLock e.idx g) = true → s.slackOwed e.idx g = false → (s.eng e.idx g).replay = [] →
    (s.eng e.idx g).ins = [.snak] → s.on (DIR.cwLock (1 - e.idx) g) = false → (s.eng e.idx g).queue = [] →
    (s.eng e.idx g).defer = [] → (s.eng e.idx g).fresh = none → ∃ t, exec (.flitSlot e g ps pe) s = .next t ∧
    (t.eng e.idx g).ins = [.snak] ∧ s.out ++ [.flit e g slackFlit] <+: t.out ∧
    (∀ i, t.txe i = { s.txe i with last := (t.txe i).last }) ∧
    Framed (fun x => { x with engs := [], tx := [] }) [DIR.slackIns e.idx g, DIR.slackIns e.idx g + 4] s t) ∧
  (∀ (s : State) (e : Eng) (g : Port) (ps q : Nat) (l : List Nat) (y : Slot), s.cfl g = true → s.bothUp g = true →
    s.pers g = 2 → s.on (DIR.cwLock e.idx g) = true → s.slackOwed e.idx g = false →
    (s.eng e.idx g).replay = q :: l → s.replaySlot e.idx g q = some y → (s.eng e.idx g).fresh = none →
    (s.eng e.idx g).tagMode = 0 → s.quenchedFlit y.held = false → y.held.tagBad = false → y.poisoned = false →
    sequenced y.held.flit = true → ∃ t,
    exec (.flitSlot e g ps false) s = .next t ∧ (t.eng e.idx g).replay = l ∧
    s.out ++ [.flit e g (withCrc (withSack y.held.flit (s.segAck e.idx g)))] <+: t.out ∧
    t.get (DIR.txNext e.idx g) = s.get (DIR.txNext e.idx g) ∧
    t.get (DIR.replaying e.idx g) = (if l = [] then 0 else 1) ∧
    (∀ i, t.txe i = { s.txe i with last := (t.txe i).last }) ∧
    Framed (fun x => { x with engs := [], tx := [] }) [(DIR.rplq e.idx g).addr, (DIR.backlog e.idx g).addr,
      (DIR.replaying e.idx g).addr] s t) ∧
  (∀ (s : State) (e : Eng) (g : Port) (ps : Nat) (pe : Bool) (h : Held) (r : List Held), s.cfl g = true →
    s.bothUp g = true → s.pers g = 2 → s.on (DIR.cwLock e.idx g) = true → s.slackOwed e.idx g = false →
    (s.eng e.idx g).replay = [] → (s.eng e.idx g).ins = [] → (s.eng e.idx g).queue = [] →
    (s.eng e.idx g).defer = h :: r → (s.eng e.idx g).fresh = none → s.get (DIR.deferLeft e.idx g) = 0 → ∃ u : State,
    exec (.flitSlot e g ps pe) s = .next ((u.sendNew e.idx g h pe)) ∧ (u.eng e.idx g).defer = r ∧
    u.get (DIR.backlog e.idx g) = r.length % 512 ∧ Framed (fun x => { x with engs := [] })
    [(DIR.rplq e.idx g).addr, (DIR.backlog e.idx g).addr, (DIR.replaying e.idx g).addr] s u) ∧
  (∀ (s : State) (e : Eng) (g : Port) (ps first len : Nat) (r : List (Nat × Nat)) (y : Slot), s.cfl g = true → s.bothUp g = true →
    s.pers g = 2 → s.on (DIR.cwLock e.idx g) = true → s.slackOwed e.idx g = false →
    (s.eng e.idx g).replay = [] → (s.eng e.idx g).ins = [] → (s.eng e.idx g).queue = (first, len) :: r → 0 < len →
    first < 4096 → s.replayCheck e.idx g ps first len = 0 → s.replaySlot e.idx g first = some y →
    (s.eng e.idx g).fresh = none → (s.eng e.idx g).tagMode = 0 → s.quenchedFlit y.held = false →
    y.held.tagBad = false → y.poisoned = false → sequenced y.held.flit = true → ∃ t,
    exec (.flitSlot e g ps false) s = .next t ∧ (t.eng e.idx g).queue = r ∧
    (t.eng e.idx g).replay = ((List.range len).map (fun i => (first + i) % 4096)).drop 1 ∧
    (t.eng e.idx g).slots.map (fun z => z.count) = (s.eng e.idx g).slots.map (fun z =>
      if z.valid && decide (z.seq ∈ (List.range len).map (fun i => (first + i) % 4096)) then z.count + 1 else z.count) ∧
    s.out ++ [.flit e g (withCrc (withSack y.held.flit (s.segAck e.idx g)))] <+: t.out ∧
    t.counter (DIR.rplFlits e.idx g) = (s.counter (DIR.rplFlits e.idx g) + len) % 2 ^ 48 ∧
    t.counter (DIR.rplEvents e.idx g) = (s.counter (DIR.rplEvents e.idx g) + 1) % 2 ^ 48 ∧
    (t.reg (DIR.event e.idx)).getLsbD 9 = true ∧ (∀ i, t.txe i = { s.txe i with last := (t.txe i).last }) ∧
    Framed (fun x => { x with engs := [], tx := [] }) [(DIR.rplq e.idx g).addr, (DIR.backlog e.idx g).addr,
      (DIR.replaying e.idx g).addr, DIR.rplFlits e.idx g, DIR.rplFlits e.idx g + 4, DIR.rplEvents e.idx g,
      DIR.rplEvents e.idx g + 4, DIR.event e.idx] s t) ∧
  (∀ (s : State) (e : Eng) (g : Port) (ps first len : Nat) (pe : Bool) (r : List (Nat × Nat)), s.cfl g = true → s.bothUp g = true →
    s.pers g = 2 → s.on (DIR.cwLock e.idx g) = true → s.slackOwed e.idx g = false →
    (s.eng e.idx g).replay = [] → (s.eng e.idx g).ins = [] → (s.eng e.idx g).queue = (first, len) :: r →
    s.replayCheck e.idx g ps first len ≠ 0 → exec (.flitSlot e g ps pe) s =
    .next (((s.updEng e.idx g (fun x => { x with queue := r })).abandonAt e.idx g first
      (s.replayCheck e.idx g ps first len)).slotGo e.idx g pe)) ∧
  (∀ (s : State) (e : Eng) (g : Port) (leave first len k : Nat), k < len →
    s.slotFor e.idx g ((first + k) % 4096) = none → s.replayCheck e.idx g leave first len = 4) ∧
  (∀ (s : State) (e : Eng) (g : Port) (leave first len k : Nat) (y : Slot),
    (∀ j, j < len → (s.slotFor e.idx g ((first + j) % 4096)).isSome = true) → k < len →
    s.slotFor e.idx g ((first + k) % 4096) = some y → 3 ≤ y.count → s.replayCheck e.idx g leave first len = 2) ∧
  (∀ (s : State) (e : Eng) (g : Port) (leave first len n : Nat) (l : List Slot) (a : List Nat) (f : Nat × Nat),
    l = (List.range len).filterMap (fun j => s.slotFor e.idx g ((first + j) % 4096)) → l.length = len →
    (∀ y ∈ l, y.count < 3) → n = s.slackN g (outSide e.idx) →
    f = flitTime (s.get (GLB.rate g)) (s.lanes g (outSide e.idx) 0).length →
    a = l.map (fun y => y.held.arrive) ++ (s.eng e.idx g).defer.map (fun h => h.arrive) →
    ((∃ k, k < a.length ∧ inBound leave (slotOfNth n (s.eng e.idx g).slackRun k) (a.getD k 0) f = false) →
      s.replayCheck e.idx g leave first len = 1) ∧
    ((∀ k, k < a.length → inBound leave (slotOfNth n (s.eng e.idx g).slackRun k) (a.getD k 0) f = true) →
      s.replayCheck e.idx g leave first len = if 64 * s.get (DIR.defq e.idx g) < (s.eng e.idx g).defer.length + len +
        ((s.eng e.idx g).slackRun + len - 1) / (n - 1) then 3 else 0)) ∧
  (∀ (s : State) (e : Eng) (g : Port) (ps q : Nat) (l : List Nat) (y : Slot) (h : Held), s.cfl g = true → s.bothUp g = true →
    s.pers g = 2 → s.on (DIR.cwLock e.idx g) = true → s.slackOwed e.idx g = false →
    (s.eng e.idx g).replay = q :: l → s.replaySlot e.idx g q = some y → (s.eng e.idx g).fresh = some h →
    (s.eng e.idx g).defer.length < s.deferCap e.idx g → (s.eng e.idx g).tagMode = 0 →
    s.quenchedFlit y.held = false → y.held.tagBad = false → y.poisoned = false → sequenced y.held.flit = true → ∃ t,
    exec (.flitSlot e g ps false) s = .next t ∧ (t.eng e.idx g).replay = l ∧
    s.out ++ [.flit e g (withCrc (withSack y.held.flit (s.segAck e.idx g)))] <+: t.out ∧
    (t.eng e.idx g).defer = (s.eng e.idx g).defer ++ [h] ∧ (t.eng e.idx g).fresh = none ∧
    t.get (DIR.backlog e.idx g) = ((s.eng e.idx g).defer.length + 1) % 512) ∧
  (∀ (s : State) (e : Eng) (g : Port) (ps : Nat) (i : Ins) (r : List Ins) (h : Held), s.cfl g = true → s.bothUp g = true →
    s.pers g = 2 → s.on (DIR.cwLock e.idx g) = true → s.slackOwed e.idx g = false →
    (s.eng e.idx g).replay = [] → (s.eng e.idx g).ins = i :: r → i ≠ .snak ∨ s.on (DIR.cwLock (1 - e.idx) g) = true →
    (s.eng e.idx g).fresh = some h → (s.eng e.idx g).defer.length < s.deferCap e.idx g → ∃ t,
    exec (.flitSlot e g ps false) s = .next t ∧ (t.eng e.idx g).ins = r ∧
    (t.eng e.idx g).defer = (s.eng e.idx g).defer ++ [h] ∧ (t.eng e.idx g).fresh = none) ∧
  (∀ (s : State) (e : Eng) (g : Port) (ps : Nat) (pe : Bool) (h : Held), s.cfl g = true → s.bothUp g = true →
    s.pers g = 2 → s.on (DIR.cwLock e.idx g) = true → s.slackOwed e.idx g = true → (s.eng e.idx g).fresh = some h →
    (s.eng e.idx g).defer.length < s.deferCap e.idx g → ∃ t, exec (.flitSlot e g ps pe) s = .next t ∧
    s.out ++ [.flit e g slackFlit] <+: t.out ∧ (t.eng e.idx g).defer = (s.eng e.idx g).defer ++ [h] ∧
    (t.eng e.idx g).fresh = none ∧ t.get (DIR.backlog e.idx g) = ((s.eng e.idx g).defer.length + 1) % 512) ∧
  (∀ (s : State) (e : Eng) (g : Port) (ps : Nat) (pe : Bool) (h : Held), s.cfl g = true → s.bothUp g = true →
    s.pers g = 2 → s.on (DIR.cwLock e.idx g) = true → s.slackOwed e.idx g = true → (s.eng e.idx g).fresh = some h →
    s.deferCap e.idx g ≤ (s.eng e.idx g).defer.length → sequenced h.flit = true → ∃ u : State,
    exec (.flitSlot e g ps pe) s = .next ((u.abandonAt e.idx g (s.deferOldest e.idx g) 3).count (DIR.seqDrop e.idx g)) ∧
    s.out ++ [.flit e g slackFlit] <+: u.out ∧ (u.eng e.idx g).fresh = none ∧
    (u.eng e.idx g).defer = (s.eng e.idx g).defer) ∧
  (∀ (s : State) (e : Eng) (g : Port) (ps : Nat) (i : Ins) (r : List Ins) (f : Flit), s.cfl g = true → s.bothUp g = true →
    s.pers g = 2 → s.on (DIR.cwLock e.idx g) = true → s.slackOwed e.idx g = false →
    (s.eng e.idx g).replay = [] → (s.eng e.idx g).ins = i :: r → i ≠ .snak → (s.eng e.idx g).fresh = none →
    f = (match i with
      | .abandon first why origin => s.ownFlit e.idx g 7 (abandonWord first why origin)
      | .lanemap w => s.ownFlit e.idx g 5 w.toNat
      | _ => s.ownFlit e.idx g 6 (snakWord 0 0 false)) → ∃ t,
    exec (.flitSlot e g ps false) s = .next t ∧ (t.eng e.idx g).ins = r ∧ s.out ++ [.flit e g (withCrc f)] <+: t.out ∧
    (t.eng e.idx g).slackRun = (s.eng e.idx g).slackRun + 1 ∧ (∀ i, t.txe i = { s.txe i with last := (t.txe i).last }) ∧
    Framed (fun x => { x with engs := [], tx := [] }) [] s t) ∧
  (∀ (s : State) (e : Eng) (g : Port) (ps n : Nat) (h : Held) (k : Key) (f : Flit), s.cfl g = true → s.bothUp g = true →
    s.pers g = 2 → s.on (DIR.cwLock e.idx g) = true → s.slackOwed e.idx g = false →
    (s.eng e.idx g).replay = [] → (s.eng e.idx g).ins = [] → (s.eng e.idx g).queue = [] → (s.eng e.idx g).defer = [] →
    (s.eng e.idx g).fresh = some h → s.quenchedFlit h = false → h.tagBad = false → sequenced h.flit = true →
    (s.eng e.idx g).tagMode ≠ 0 → s.get (PWR.lpstat g) ≠ 1 →
    k = s.key (keyIdx (outSide e.idx) (s.get (DIR.txSlot e.idx g)) g) → k.valid = true →
    f = setHdr (setHdr (withSack h.flit (s.segAck e.idx g)) 58 1 1) 59 1 (s.get (DIR.txSlot e.idx g)) →
    n = (if s.get (DIR.txNext e.idx g) < flitSeq h.flit then (s.eng e.idx g).txLaps - 1 else (s.eng e.idx g).txLaps) →
    ∃ t,
    exec (.flitSlot e g ps false) s = .next t ∧
    .flit e g (withCrc { f with tag := flitTag k.key f g 0 0 k.epoch (extSeq n (flitSeq h.flit)) }) ∈ t.out ∧
    t.get (DIR.txNext e.idx g) = (flitSeq h.flit + 1) % 4096) ∧
  (∀ (s : State) (e : Eng) (g : Port) (ps : Nat) (h : Held), s.cfl g = true → s.bothUp g = true →
    s.pers g = 2 → s.on (DIR.cwLock e.idx g) = true → s.slackOwed e.idx g = false →
    (s.eng e.idx g).replay = [] → (s.eng e.idx g).ins = [] → (s.eng e.idx g).queue = [] → (s.eng e.idx g).defer = [] →
    (s.eng e.idx g).fresh = some h → s.quenchedFlit h = false → h.tagBad = false → sequenced h.flit = true →
    (s.eng e.idx g).tagMode ≠ 0 → s.get (PWR.lpstat g) ≠ 1 →
    (s.key (keyIdx (outSide e.idx) (s.get (DIR.txSlot e.idx g)) g)).valid = false → ∃ t,
    exec (.flitSlot e g ps false) s = .next t ∧
    .flit e g (withCrc { setHdr (withSack h.flit (s.segAck e.idx g)) 58 1 0 with tag := 0 }) ∈ t.out ∧
    (t.reg (DIR.event e.idx)).getLsbD 5 = true ∧ t.get (DIR.txNext e.idx g) = (flitSeq h.flit + 1) % 4096) ∧
  (∀ (s : State) (e : Eng) (g : Port) (ps q : Nat) (l : List Nat) (y : Slot), s.cfl g = true → s.bothUp g = true →
    s.pers g = 2 → s.on (DIR.cwLock e.idx g) = true → s.slackOwed e.idx g = false →
    (s.eng e.idx g).replay = q :: l → s.replaySlot e.idx g q = some y → (s.eng e.idx g).fresh = none →
    (s.eng e.idx g).tagMode = 0 → s.quenchedFlit y.held = true → y.poisoned = false → ∃ t,
    exec (.flitSlot e g ps false) s = .next t ∧ (t.eng e.idx g).replay = l ∧ s.out ++ [.flit e g (withCrc
      { setHdr (poisonOf (withSack y.held.flit (s.segAck e.idx g))) 58 1 0 with tag := 0 })] <+: t.out ∧
    t.counter (DIR.qpoison e.idx g) = (s.counter (DIR.qpoison e.idx g) + 1) % 2 ^ 48 ∧
    t.counter (DIR.qrpl e.idx g) = (s.counter (DIR.qrpl e.idx g) + 1) % 2 ^ 48 ∧
    t.get (DIR.txNext e.idx g) = s.get (DIR.txNext e.idx g)) ∧
  (∀ (s : State) (e : Eng) (g : Port) (ps q : Nat) (l : List Nat) (y : Slot), s.cfl g = true → s.bothUp g = true →
    s.pers g = 2 → s.on (DIR.cwLock e.idx g) = true → s.slackOwed e.idx g = false →
    (s.eng e.idx g).replay = q :: l → s.replaySlot e.idx g q = some y → (s.eng e.idx g).fresh = none →
    (s.eng e.idx g).tagMode = 0 → y.poisoned = true → s.quenchedFlit y.held = false →
    sequenced y.held.flit = true → ∃ t,
    exec (.flitSlot e g ps false) s = .next t ∧ (t.eng e.idx g).replay = l ∧ s.out ++ [.flit e g (withCrc
      { setHdr (withSack y.held.flit (s.segAck e.idx g)) 58 1 0 with tag := 0 })] <+: t.out ∧
    t.counter (DIR.qrpl e.idx g) = (s.counter (DIR.qrpl e.idx g) + 1) % 2 ^ 48 ∧
    t.counter (DIR.qpoison e.idx g) = s.counter (DIR.qpoison e.idx g)) ∧
  (∀ (s : State) (e : Eng) (g : Port) (ps : Nat) (h : Held) (r : List Held), s.cfl g = true → s.bothUp g = true →
    s.pers g = 2 → s.on (DIR.cwLock e.idx g) = true → s.slackOwed e.idx g = false →
    (s.eng e.idx g).replay = [] → (s.eng e.idx g).ins = [] → (s.eng e.idx g).queue = [] →
    (s.eng e.idx g).defer = h :: r → (s.eng e.idx g).fresh = none → (s.eng e.idx g).tagMode = 0 →
    s.quenchedFlit h = true → ∃ t, exec (.flitSlot e g ps false) s = .next t ∧ (t.eng e.idx g).defer = r ∧
    .flit e g (withCrc { setHdr (poisonOf (withSack h.flit (s.segAck e.idx g))) 58 1 0 with tag := 0 }) ∈ t.out ∧
    t.counter (DIR.qpoison e.idx g) = (s.counter (DIR.qpoison e.idx g) + 1) % 2 ^ 48) ∧
  (∀ (s : State) (e : Eng) (g : Port) (ps : Nat) (h : Held), s.cfl g = true → s.bothUp g = true →
    s.pers g = 2 → s.on (DIR.cwLock e.idx g) = true → s.slackOwed e.idx g = false →
    (s.eng e.idx g).replay = [] → (s.eng e.idx g).ins = [] → (s.eng e.idx g).queue = [] → (s.eng e.idx g).defer = [] →
    (s.eng e.idx g).fresh = some h → flitType h.flit ≠ 9 → flitType h.flit ≠ 2 → s.get (PWR.lpstat g) = 1 → ∃ t,
    exec (.flitSlot e g ps false) s = .next t ∧ (t.eng e.idx g).fresh = none ∧ t.get (PWR.lpstat g) = 0 ∧
    (t.reg PWR.event).getLsbD 7 = true) ∧
  (∀ (s : State) (e : Eng) (g : Port) (ps : Nat) (pe : Bool), s.bothUp g = false ∨ s.pers g = 0 → exec (.flitSlot e g
    ps pe) s = .next s) ∧
  (∀ (s : State) (e : Eng) (g : Port) (ps : Nat) (pe : Bool), s.cfl g = false ∨ (s.pers g = 1 ∧
    s.on (DIR.cwLock e.idx g) = true) ∨ (s.on (DIR.cwLock e.idx g) = false ∧ s.inLowPower g = true) →
    exec (.flitSlot e g ps pe) s = .next s)

/-- PARTITION_ENTRY_WRITE, where it takes effect, stores PID, group and VALID, and PRT_STAT follows the table; where
another valid entry names the PID, or the entry is quenched and the write would change its PID or clear VALID, it only
raises WRITE_REFUSED. DRAIN_FORCE_EXPIRY of a port that is not drained, with DRAIN_FORCE set, invalidates the slots
still held before the mark and raises DRAIN_FORCED, before the drain is checked; of a drained port, or with DRAIN_FORCE
0, it changes nothing. -/
def Obligations.PartitionEntriesAndDrains : Prop :=
  (∀ (s : State) (i : Fin 4096) (v : Word), s.writeTakes (PRT.entryLo i) = true → (v.getLsbD 22 = true → s.entryOf
    (v.toNat % 2 ^ 16) = none ∨ s.entryOf (v.toNat % 2 ^ 16) = some i.val) → (s.on (PRT.quenched i) = true →
    v.getLsbD 22 = true ∧ v.toNat % 2 ^ 16 = s.get (PRT.pid i)) → ∃ t, exec (.partitionEntryWrite i v) s = .next t ∧
    t.reg (PRT.entryLo i) = v &&& 0x7FFFFF#32 ∧ t.on PRT.qactive = t.anyQuench ∧ Framed id [PRT.entryLo i, 0xA8004] s
    t) ∧
  (∀ (s : State) (i : Fin 4096) (v : Word) (j : Nat), s.writeTakes (PRT.entryLo i) = true → (v.getLsbD 22 = true ∧
    s.entryOf (v.toNat % 2 ^ 16) = some j ∧ j ≠ i.val) ∨ (s.on (PRT.quenched i) = true ∧ (v.getLsbD 22 = false ∨
    v.toNat % 2 ^ 16 ≠ s.get (PRT.pid i))) → ∃ t, exec (.partitionEntryWrite i v) s = .next t ∧ (t.reg
    PRT.event).getLsbD 1 = true ∧ Framed id [PRT.event] s t) ∧
  (∀ (s : State) (e : Eng) (g : Port), s.on (DIR.drained e.idx g) = false → s.on PRT.drainForce = true → ∃ u : State,
    exec (.drainForceExpiry e g) s = .next ((u.drainCheck e.idx g)) ∧ (u.eng e.idx g).slots = (s.eng e.idx
    g).slots.map (fun y => if y.held? && seqAfter (s.get (DIR.drainMark e.idx g)) y.seq then
    { y with valid := false } else y) ∧ (u.reg (DIR.event e.idx)).getLsbD 13 = true ∧ Framed (fun x =>
    { x with engs := [] }) [DIR.event e.idx] s u) ∧
  (∀ (s : State) (e : Eng) (g : Port), s.on (DIR.drained e.idx g) = true ∨ s.on PRT.drainForce = false → ∃ t, exec
    (.drainForceExpiry e g) s = .next t ∧ t = s)

/-- CAL_CYCLE_START at an ACTIVE lane-end that calibration may measure begins a cycle. CAL_CYCLE_DONE of a running cycle
turns the sums of its phases into trims, and loads a plausible result as the trims of the CRESCENT slice; an
implausible one, with the guard off, counts as a reject of the slice and the lane-end and raises CAL_REJECT.
SHADOW_COMPARE_DONE of a comparison that runs, with a mean within 0.5 LSB and at most 4 pairs beyond 3 LSB, readies
the swap; a first failure blocks the slot and is a reject. SWAP_WINDOW with a swap that is ready and not held gives
the slot to the incoming slice, counts the swap and lets the displaced slice settle, and on a G-mode Ethernet lane
marks the window's two decisions; a held swap waits. On a T-mode Ethernet lane a slot without constant positions
waits, and after 64 marker periods another slot is compared. SLICE_SETTLED makes the displaced slice CRESCENT.
Without a cycle or a swap CAL_CYCLE_DONE, SHADOW_COMPARE_DONE and SLICE_SETTLED change nothing. Phase sums and
symbol lists beyond what the hardware records are no commands. The model's choices: the displaced slice keeps its
state until it settles, and only boundaries at which the swap is not held count among the 64 (log entry 38); where a
window falls on constant positions (slotConstant) and that a comparison waits for the cycle (log entry 39); the
lists that are no commands (log entry 36). -/
def Obligations.MeasurementCyclesAndSwaps : Prop :=
  (∀ (s : State) (sd : Side) (p : Pos) (i : Nat), i = laneIdx sd p → s.rxActive i = true → s.calSuspended = false →
    s.bistHolds i = false → (s.rxe i).fg = false → (s.rxe i).stopped = false → s.sliceBusy i = false → (s.rxe
    i).verdict = none → (s.crescent i).isSome = true → ∃ t, exec (.calCycleStart sd p) s = .next t ∧ (t.rxe
    i).cycling = true ∧ t = { s with rx := t.rx }) ∧
  (∀ (s : State) (sd : Side) (p : Pos) (i n : Nat) (c : CycleMeas) (m : SliceMeas), i = laneIdx sd p →
    cycleOk c = true → m = cycleTrims c → (s.rxe i).cycling = true →
    s.rxActive i = true → s.bistHolds i = false → s.crescent i = some n → s.sliceFlags i n m = 0 →
    ∃ t, exec (.calCycleDone sd p c) s = .next
    t ∧ t.getInt (CAL.offset i n) = m.offset ∧ t.getInt (CAL.gain i n) = m.gain ∧ t.getInt (CAL.skew i n) = m.skew ∧
    (t.rxe i).cycling = false ∧ Framed (fun x => { x with rx := [] }) [CAL.rxTrim i n] s t) ∧
  (∀ (s : State) (sd : Side) (p : Pos) (i n : Nat) (c : CycleMeas) (m : SliceMeas), i = laneIdx sd p →
    cycleOk c = true → m = cycleTrims c → (s.rxe i).cycling = true →
    s.rxActive i = true → s.bistHolds i = false → s.crescent i = some n → s.sliceFlags i n m ≠ 0 →
    s.on CAL.guardEn = false → ∃ t, exec
    (.calCycleDone sd p c) s = .next t ∧ t.get (CAL.rej i n) = satSucc 3 (s.get (CAL.rej i n)) ∧ t.counter
    (LRX.rejectCnt i) = (s.counter (LRX.rejectCnt i) + 1) % 2 ^ 48 ∧ (t.reg (LRX.event i)).getLsbD 3 = true ∧ (t.rxe
    i).cycling = false ∧ (s.get (CAL.rej i n) = 2 → (t.rxe i).verdict = some n) ∧ t.getInt (CAL.offset i n) =
    s.getInt (CAL.offset i n) ∧ Framed (fun x => { x with rx := [], rejects := [] }) ([CAL.rxTrim i n, LRX.rejectCnt
    i, LRX.rejectCnt i + 4, LRX.event i] ++ [0, 4, 8, 12].map (fun k => LRX.base i + 0xE80 + 16 * ((s.rxe i).logSeq %
    24) + k)) s t) ∧
  (∀ (s : State) (sd : Side) (p : Pos) (i : Nat) (w : Swap) (sum : Int) (ov : Nat), i = laneIdx sd p → (s.rxe i).swap
    = some w → w.stage = .compare → s.compareStopped i = false → (s.rxe i).cycling = false → -16384 ≤ sum → sum ≤
    16384 → ov ≤ 4 → ∃ t, exec (.shadowCompareDone sd p sum ov) s = .next t ∧ (t.rxe i).swap = some
    { w with stage := .window } ∧ t = { s with rx := t.rx }) ∧
  (∀ (s : State) (sd : Side) (p : Pos) (i : Nat) (w : Swap) (sum : Int) (ov : Nat), i = laneIdx sd p → (s.rxe i).swap
    = some w → w.stage = .compare → w.slice < 66 → s.compareStopped i = false → (s.rxe i).cycling = false → 16384
    < sum ∨ sum < -16384 ∨ 4 < ov → (s.rxe i).blocked = none → s.on CAL.guardEn = false → ∃ t, exec
    (.shadowCompareDone sd p sum ov) s = .next t ∧ (t.rxe i).swap = none ∧ (t.rxe i).blocked = some (w.slot, w.slice)
    ∧ t.get (CAL.rej i w.slice) = satSucc 3 (s.get (CAL.rej i w.slice)) ∧ t.counter (LRX.rejectCnt i) = (s.counter
    (LRX.rejectCnt i) + 1) % 2 ^ 48 ∧ (t.reg (LRX.event i)).getLsbD 3 = true ∧ Framed (fun x =>
    { x with rx := [], rejects := [] }) ([CAL.rxTrim i w.slice, LRX.rejectCnt i, LRX.rejectCnt i + 4, LRX.event i] ++
    [0, 4, 8, 12].map (fun k => LRX.base i + 0xE80 + 16 * ((s.rxe i).logSeq % 24) + k)) s t) ∧
  (∀ (s : State) (sd : Side) (p : Pos) (i : Nat) (w : Swap) (ph : Fin 64) (syms : List (Fin 4)), i = laneIdx sd p →
    syms.length ≤ 4097 → (s.rxe i).swap = some w →
    w.stage = .window → w.slice < 66 → w.slot < 64 → s.swapHeld i = false → s.ethPers i ≠ some 0 ∨ slotConstant (s.rxe
    i).record ph w.slot = true →
    (s.rxe i).holdDone = false → (s.rxe i).sweep = 0 → ∃ t, exec (.swapWindow sd p ph syms) s = .next t ∧ t.get
    (LRX.slotMap i w.slot) = w.slice ∧ t.get (LRX.slice i w.slice) = 0 ∧ t.get (CAL.rej i w.slice) = 0 ∧ (t.rxe
    i).swap = some { w with slice := s.get (LRX.slotMap i w.slot), stage := .settle } ∧ t.counter (LRX.swapCnt i) =
    (s.counter (LRX.swapCnt i) + 1) % 2 ^ 48 ∧
    (s.ethPers i = some 1 → (t.rxe i).marked = (s.rxe i).marked + 2) ∧
    Framed (fun x => { x with rx := [] }) ([(LRX.slotMap i
    w.slot).addr,
    (LRX.slice i w.slice).addr, CAL.rxTrim i w.slice, LRX.swapCnt i, LRX.swapCnt i + 4] ++ [0, 4, 8, 12].map (fun k
    => LRX.base i + 0xE80 + 16 * ((s.rxe i).logSeq % 24) + k)) s t) ∧
  (∀ (s : State) (sd : Side) (p : Pos) (i : Nat) (w : Swap) (ph : Fin 64) (syms : List (Fin 4)), i = laneIdx sd p →
    syms.length ≤ 4097 → (s.rxe i).swap = some w →
    w.stage = .window → s.swapHeld i = true → ∃ t, exec (.swapWindow sd p ph syms) s = .next t ∧ (t.rxe i).swap = some
    w ∧
    t = { s with rx := t.rx }) ∧
  (∀ (s : State) (sd : Side) (p : Pos) (i : Nat) (w : Swap), i = laneIdx sd p → (s.rxe i).swap = some w → w.stage =
    .settle → w.slice < 66 → ∃ t, exec (.sliceSettled sd p) s = .next t ∧ t.get (LRX.slice i w.slice) = 1 ∧ (t.rxe
    i).swap = none ∧ Framed (fun x => { x with rx := [] }) [(LRX.slice i w.slice).addr] s t) ∧
  (∀ (s : State) (sd : Side) (p : Pos) (i : Nat) (w : Swap) (ph : Fin 64) (syms : List (Fin 4)), i = laneIdx sd p →
    syms.length ≤ 4097 → (s.rxe i).swap = some w → w.stage = .window → s.swapHeld i = false → s.ethPers i = some 0 →
    slotConstant (s.rxe i).record ph w.slot = false → w.periods + 1 < 64 → ∃ t,
    exec (.swapWindow sd p ph syms) s = .next t ∧ (t.rxe i).swap = some { w with periods := w.periods + 1 } ∧
    t = { s with rx := t.rx }) ∧
  (∀ (s : State) (sd : Side) (p : Pos) (i : Nat) (w : Swap) (ph : Fin 64) (syms : List (Fin 4)), i = laneIdx sd p →
    syms.length ≤ 4097 → (s.rxe i).swap = some w → w.stage = .window → s.swapHeld i = false → s.ethPers i = some 0 →
    slotConstant (s.rxe i).record ph w.slot = false → 64 ≤ w.periods + 1 → ∃ t,
    exec (.swapWindow sd p ph syms) s = .next t ∧ w.slot ∈ (t.rxe i).passed ∧
    (∀ v ∈ (t.rxe i).swap, v.stage = .compare ∧ v.slot ≠ w.slot) ∧ t = { s with rx := t.rx }) ∧
  (∀ (s : State) (sd : Side) (p : Pos) (c : CycleMeas) (ph : Fin 64) (syms : List (Fin 4)),
    cycleOk c = false → 4097 < syms.length → exec (.calCycleDone sd p c) s = .fault .illFormed ∧
    exec (.swapWindow sd p ph syms) s = .fault .illFormed) ∧
  (∀ (s : State) (sd : Side) (p : Pos) (i : Nat) (c : CycleMeas) (sum : Int) (ov : Nat), i = laneIdx sd p →
    cycleOk c = true → (s.rxe i).cycling = false → (s.rxe i).swap = none → exec (.calCycleDone sd p c) s = .next s ∧
    exec (.shadowCompareDone sd p sum ov) s = .next s ∧ exec (.sliceSettled sd p) s = .next s)

/-- TX_PASS_START at an ACTIVE lane-end that calibration may measure starts a pass with the replica. TX_MEASUREMENT_DONE
of a plausible replica loads its bias and error and goes on to the redundant cells. CELL_LEND in the serving step
lends the next cell for the lowest redundant one, at a marker boundary, where an accepted bias comes into effect;
CELL_RETURN gives it back and loads a plausible trim. While calibration is suspended or a LOOPBACK slice holds the
lane-end CELL_RETURN only gives it back, and TX_MEASUREMENT_DONE changes nothing. SUSPECT_VERDICT retires the
CRESCENT slice of an ACTIVE lane-end, where the COLD slice takes its place, or names a cell for replacement, and
raises SUSPECT; for a slice of one that is not ACTIVE it waits. FOREGROUND_CAL_DONE ends the foreground calibration
of a receiver or transmitter outside maintenance and takes TREF; with REFV_BAD, or with none in progress, it changes
nothing. A cell number above 270 and results that name no element of the lane-end are no commands (log entry 36),
and results under REFV_BAD are not taken (log entry 39): both are the model's choice. -/
def Obligations.TransmitterPassesAndVerdicts : Prop :=
  (∀ (s : State) (sd : Side) (p : Pos) (i : Nat), i = laneIdx sd p → s.txActive i = true → s.calSuspended = false →
    s.bistHolds i = false → (s.txe i).fg = false → (s.txe i).pass = none → s.replicaSkipped i = false → ∃ t, exec
    (.txPassStart sd p) s = .next t
    ∧ (t.txe i).pass = some .replica ∧ t = { s with tx := t.tx }) ∧
  (∀ (s : State) (sd : Side) (p : Pos) (i : Nat) (trim err : Int), i = laneIdx sd p → s.calSuspended = false →
    s.bistHolds i = false → (s.txe i).pass = some .replica → s.replicaSkipped i = false →
    s.replicaPlausible i trim = true → ∃ u : State, exec
    (.txMeasurementDone sd p .replica trim err) s = .next ((u.passSettle i)) ∧ u.getInt (CAL.repBias i) = trim ∧
    u.get (CAL.repRej i) = 0 ∧ (u.txe i).pass = some .redundant ∧ Framed (fun x => { x with tx := [] }) [(CAL.repBias
    i).addr, (CAL.ampErr i).addr] s u) ∧
  (∀ (s : State) (sd : Side) (p : Pos) (i n r : Nat), i = laneIdx sd p → s.calSuspended = false →
    s.bistHolds i = false → s.lendHeld i = false → (s.txe i).pass = some .serving → (s.txe i).lent = none →
    s.passTarget i = some n → (s.cellPool i).head? =
    some r → ∃ t, exec (.cellLend sd p) s = .next t ∧ (t.txe i).lent = some (n, r) ∧
    (t.txe i).bias = s.getInt (CAL.repBias i) ∧ t = { s with tx := t.tx }) ∧
  (∀ (s : State) (sd : Side) (p : Pos) (i n r : Nat) (trim err : Int), i = laneIdx sd p → n < 271 → (s.txe i).lent =
    some (n, r) → s.calSuspended = false → s.bistHolds i = false →
    (s.txe i).repDone = false → n ∉ (s.txe i).verdicts → s.cellPlausible i n trim = true → ∃ u : State, exec
    (.cellReturn sd p trim
    err) s = .next ((u.passSettle i)) ∧ (u.txe i).lent = none ∧ u.getInt (CAL.cellTrim i n) = trim ∧ u.get
    (CAL.cellRej i n) = 0 ∧ (u.txe i).passCell = n + 1 ∧ Framed (fun x => { x with tx := [] }) [(CAL.cellTrim i
    n).addr] s u) ∧
  (∀ (s : State) (sd : Side) (p : Pos) (i : Nat) (trim err : Int), i = laneIdx sd p → s.calSuspended = true ∨
    s.bistHolds i = true → ∃ t, exec (.cellReturn sd p trim err) s = .next t ∧ (t.txe i).lent = none ∧
    t = { s with tx := t.tx }) ∧
  (∀ (s : State) (sd : Side) (p : Pos) (el : TxElem) (trim err : Int), txElemOk el = true → s.calSuspended = true →
    exec (.txMeasurementDone sd p el trim err) s = .next s) ∧
  (∀ (s : State) (sd : Side) (p : Pos) (i n : Nat), i = laneIdx sd p → (s.rxe i).verdict = some n → n < 66 → s.rxActive
    i = true → s.get (LRX.slice i n) = 1 →
    ∃ t, exec (.suspectVerdict (.slice sd p)) s = .next t ∧ t.get (LRX.slice i n) = 3 ∧ (t.rxe i).verdict = none ∧
    (t.rxe i).swap = none ∧
    (∀ k ∈ (s.slicesIn i 2).head?, t.get (LRX.slice i k) = 1 ∧ t.get (LRX.sliceSpares i) = 1) ∧
    ((s.slicesIn i 2).head? = none → t.get (LRX.sliceSpares i) = 0 ∧ (t.rxe i).stopped = true) ∧
    (t.reg CAL.event).getLsbD 1 = true) ∧
  (∀ (s : State) (sd : Side) (p : Pos) (i n : Nat), i = laneIdx sd p → (s.rxe i).verdict = some n → s.rxActive i =
    false → ∃ t, exec (.suspectVerdict (.slice sd p)) s = .next t ∧ (t.rxe i).due = true ∧ t = { s with rx := t.rx }) ∧
  (∀ (s : State) (sd : Side) (p : Pos) (i n : Nat), i = laneIdx sd p → n ∈ (s.txe i).verdicts → n < 271 → s.txActive
    i = true → (s.txe i).lent = none → ∃ t, exec (.suspectVerdict (.cell sd p n)) s = .next t ∧ (t.txe i).cellPend =
    (s.txe i).cellPend ++ [n] ∧
    n ∉ (t.txe i).verdicts ∧ (t.reg CAL.event).getLsbD 1 = true ∧ Framed (fun x => { x with tx := [], calSeq := 0 })
    ([CAL.event] ++
    [0, 4, 8, 12].map (fun k => CAL.log (s.calSeq % 64) + k)) s t) ∧
  (∀ (s : State) (sd : Side) (p : Pos) (i : Nat) (results : List FgResult), i = laneIdx sd p → (s.rxe i).fg = true →
    s.rxActive i = true → s.on CAL.refvBad = false → results.all (fgResultOk .rx) = true →
    s.maintJob 0 = none → s.maintJob 1 = none → s.maintJob 2 = none → s.maintJob 3 = none → ∃ t,
    exec (.foregroundCalDone .rx sd p results) s = .next t ∧ (t.rxe i).fg = false ∧ (t.rxe i).fgDone = true ∧
    (t.rxe i).swap = none ∧ t.get (CAL.tref (sensorOf i)) = t.get (CAL.temp (sensorOf i))) ∧
  (∀ (s : State) (sd : Side) (p : Pos) (i : Nat) (results : List FgResult), i = laneIdx sd p → (s.txe i).fg = true →
    s.txActive i = true → s.on CAL.refvBad = false → results.all (fgResultOk .tx) = true →
    s.maintJob 0 = none → s.maintJob 1 = none → s.maintJob 2 = none → s.maintJob 3 = none → ∃ t,
    exec (.foregroundCalDone .tx sd p results) s = .next t ∧ (t.txe i).fg = false ∧ (t.txe i).fgDone = true ∧
    (t.txe i).pass = none ∧ t.get (CAL.tref (sensorOf i)) = t.get (CAL.temp (sensorOf i))) ∧
  (∀ (s : State) (fn : LaneFn) (sd : Side) (p : Pos) (i : Nat) (results : List FgResult), i = laneIdx sd p →
    results.all (fgResultOk fn) = true → s.on CAL.refvBad = true ∨ ((s.rxe i).fg = false ∧ (s.txe i).fg = false) →
    exec (.foregroundCalDone fn sd p results) s = .next s) ∧
  (∀ (s : State) (sd : Side) (p : Pos) (n : Nat) (trim err : Int), 271 ≤ n →
    exec (.suspectVerdict (.cell sd p n)) s = .fault .illFormed ∧
    exec (.txMeasurementDone sd p (.cell n) trim err) s = .fault .illFormed) ∧
  (∀ (s : State) (fn : LaneFn) (sd : Side) (p : Pos) (results : List FgResult),
    results.all (fgResultOk fn) = false → exec (.foregroundCalDone fn sd p results) s = .fault .illFormed)

/-- GUARD_CLR, where it takes effect, clears GUARD and its cause once REFV_BAD is clear, before calibration and what
waits go on; with REFV_BAD or without GUARD it clears nothing. REFV_CHECK outside the window sets REFV_BAD, raises
REFV_BAD and its cause, before calibration is suspended; within it, or with REFV_BAD set, nothing changes; REFV_BAD then
ends a LOOPBACK slice in progress, and without one, or with the reference good, that changes nothing. REFV_RESUME
clears REFV_BAD and its cause. HOLD_LIMIT with CAL_HOLD.LIMIT set, at a lane-end with an accepted measurement that is
held for the first time, notes the episode, raises HOLD_LIMIT and the cause CAL_HELD; with LIMIT 0 it does nothing.
TEMP_READING stores the reading, and a reading of 100 °C or more carries TEMP_HIGH, one of 115 °C or more TEMP_CRIT.
TEMP_DWELL_EXPIRY of a running dwell takes TREF, raises TEMP_TRIGGER and starts a sweep of 64 on every ACTIVE receiver
that the sensor serves; of another it changes nothing. -/
def Obligations.CalibrationSuspensionAndTemperature : Prop :=
  (∀ (s : State), s.writeTakes CAL.ctrl = true → s.on CAL.guard = true → s.on CAL.refvBad = false → ∃ u : State, exec
    .guardClr s = .next ((u.suspendEnd s.calSuspended).goOn) ∧ u.on CAL.guard = false ∧ (s.flt.wiring.testBit 169 =
    false
    → u.on (FLT.live 169) = false) ∧ u.causes.testBit 169 = false ∧ Framed (fun x =>
    { x with causes := 0, grace := 0, flt := Flt.reset }) [0x60010, (FLT.live 169).addr] s u) ∧
  (∀ (s : State), s.writeTakes CAL.ctrl = true → s.on CAL.guard = false ∨ s.on CAL.refvBad = true →
    exec .guardClr s = .next s.goOn) ∧
  (∀ (s : State), s.writeTakes CAL.ctrl = false → exec .guardClr s = .next s) ∧
  (∀ (s : State), s.on CAL.refvBad = true → exec (.refvCheck false) s = .next s.bistRef) ∧
  (∀ (s : State), s.on CAL.refvBad = false → exec .refvResume s = .next s.goOn) ∧
  (∀ (s : State), s.on CAL.refvBad = false → ∃ u : State, exec (.refvCheck false) s = .next ((u.suspendBegin
    s.calSuspended).bistRef) ∧ u.on CAL.refvBad = true ∧ (u.reg CAL.event).getLsbD 3 = true ∧
    u.causes.testBit 170 = true ∧
    Framed (fun x => { x with causes := 0 }) [0x60010, CAL.event] s u) ∧
  (∀ s : State, exec (.refvCheck true) s = .next s.bistRef) ∧
  (∀ s : State, s.sliceAt 1 .testing = none → s.sliceAt 1 .moving = none → s.sliceAt 1 .returning = none →
    s.bistRef = s) ∧
  (∀ s : State, s.on CAL.refvBad = false → s.on CAL.refclkLost = false → s.bistRef = s) ∧
  (∀ (s : State), s.on CAL.refvBad = true → ∃ u : State, exec .refvResume s = .next ((u.suspendEnd
    s.calSuspended).goOn) ∧
    u.on CAL.refvBad = false ∧ u.causes.testBit 170 = false ∧ Framed (fun x =>
    { x with causes := 0, grace := 0, flt := Flt.reset }) [0x60010, (FLT.live 170).addr] s u) ∧
  (∀ (s : State) (sd : Side) (p : Pos) (i : Nat), i = laneIdx sd p → s.on CAL.holdLimit = true → (s.rxe i).accepted =
    true → (s.rxe i).holdDone = false → ∃ t, exec (.holdLimit sd p) s = .next t ∧ (t.rxe i).holdDone
    = true ∧ (t.reg CAL.event).getLsbD 2 = true ∧ t.causes.testBit 168 = true) ∧
  (∀ (s : State) (sd : Side) (p : Pos), s.on CAL.holdLimit = false → exec (.holdLimit sd p) s = .next s) ∧
  (∀ (s : State) (n : Fin 9) (v : BitVec 16), ∃ t, exec (.tempReading n v) s = .next t ∧ t.get (CAL.temp n) = v.toNat
    ∧ (800 ≤ v.toInt → t.causes.testBit 175 = true) ∧ (920 ≤ v.toInt → t.causes.testBit 176 = true) ∧ (n.val = 8 →
    t.dwell = s.dwell) ∧ Framed (fun x => { x with causes := 0, grace := 0, flt := Flt.reset, dwell := 0 })
    [(CAL.temp n).addr, (FLT.live 175).addr, (FLT.live 176).addr] s t) ∧
  (∀ (s : State) (n : Fin 8), s.dwell.testBit n = true → ∃ t, exec (.tempDwellExpiry n) s = .next t ∧ t.get (CAL.tref
    n) = s.get (CAL.temp n) ∧ t.dwell.testBit n = false ∧ (t.reg CAL.event).getLsbD 0 = true ∧ (∀ i, i ∈ sensorLanes
    n → s.rxActive i = true → (t.rxe i).sweep = 64)) ∧
  (∀ (s : State) (n : Fin 8), s.dwell.testBit n = false → exec (.tempDwellExpiry n) s = .next s)

/-- RING_ENABLE where it takes effect, of a DISABLED pair whose setup is accepted, makes it RUNNING with CONS and CDONE
at SQ_START and CQ_TAIL at CQ_START; a refused one clears EN and sets CFG_ERR; of any other pair it only sets EN.
RING_DISABLE of a RUNNING pair without descriptors in flight makes it DISABLED at once where the link can carry its
shadow write, otherwise it is DRAINING; a HALTED pair becomes DISABLED; of any other pair it only clears EN.
RING_ENGINE_RESET_TIMEOUT of a reset with nothing in flight ends it with every pair DISABLED and the pages not set,
and without a reset it changes nothing. EVGRP_ENABLE gives the group its vector and EN. COALESCE_EXPIRY ends the
interval, or the wait of the message that was held. EVENT_ONSET sets a bit that the register has, and beyond its
bits does nothing. Where they do not take effect the register writes change nothing. That a ring waits for the link
in DRAINING, and that EN 0 in HALTING only reads back, is the model's choice (log entry 42). That Bus Master Enable
gates the memory writes is presumed (log entry 11). -/
def Obligations.RingsEventsAndMessages : Prop :=
  (∀ (s : State) (q : RingN), s.writeTakes (RNG.q q + 0x14) = true → s.get (RNG.state q) = 0 → s.enableRingOk q =
    true → ∃ t, exec (.ringEnable q) s = .next t ∧ t.get (RNG.state q) = 1 ∧ t.on (RNG.en q) = true ∧ t.on
    (RNG.cfgErr q) = false ∧ t.get (RNG.cons q) = s.get (RNG.sqStart q) ∧ t.get (RNG.cdone q) = s.get (RNG.sqStart q)
    ∧ t.get (RNG.cqTail q) = s.get (RNG.cqStart q) ∧ (t.ring q).flights = [] ∧ t =
    { s with regs := t.regs, rings := t.rings, out := t.out } ∧ (∀ a, a ∉ [RNG.q q + 0x14, RNG.q q + 0x1C, RNG.q q +
    0x20, RNG.q q + 0x24, RNG.q q + 0x28] → t.reg a = s.reg a)) ∧
  (∀ (s : State) (q : RingN), s.writeTakes (RNG.q q + 0x14) = true → s.get (RNG.state q) = 0 → s.enableRingOk q =
    false → ∃ t, exec (.ringEnable q) s = .next t ∧ t.get (RNG.state q) = 0 ∧ t.on (RNG.en q) = false ∧ t.on
    (RNG.cfgErr q) = true ∧ t = { s with regs := t.regs } ∧ (∀ a, a ∉ [RNG.q q + 0x14, RNG.q q + 0x1C] → t.reg a =
    s.reg a)) ∧
  (∀ (s : State) (q : RingN), s.writeTakes (RNG.q q + 0x14) = true → s.get (RNG.state q) = 1 → ∃ t, exec
    (.ringDisable q) s = .next t ∧ t.on (RNG.en q) = false ∧ t.get (RNG.state q) = (if (s.ring q).flights = [] ∧
    s.hostUp = true then 0 else 2) ∧ t = { s with regs := t.regs, out := t.out } ∧ (∀ a, a ∉ [RNG.q q + 0x14, RNG.q q +
    0x1C] → t.reg a =
    s.reg a)) ∧
  (∀ (s : State) (q : RingN), s.writeTakes (RNG.q q + 0x14) = true → s.get (RNG.state q) = 4 → ∃ t, exec
    (.ringDisable q) s = .next t ∧ t.on (RNG.en q) = false ∧ t.get (RNG.state q) = 0 ∧ t = { s with regs := t.regs }) ∧
  (∀ s : State, s.ringReset = true → (∀ r ∈ s.rings, r.2.flights = []) → exec .ringEngineResetTimeout s = .next
    (((s.jobsRun).settlePower).resetSettle)) ∧
  (∀ s : State, s.ringReset = true → (∀ r ∈ s.rings, r.2.flights = []) → s.resetSettle.ringReset = false ∧
    s.resetSettle.pages = 0 ∧ (∀ q, q < 64 → s.resetSettle.get (RNG.state q) = 0 ∧ s.resetSettle.on (RNG.en q) =
    false)) ∧
  (∀ (s : State) (n : Fin 13) (v : BitVec 6), s.writeTakes (RNG.evgrp n) = true → ∃ t, exec (.evgrpEnable n v) s =
    .next t ∧ t.get (RNG.grpVector n) = v.toNat ∧ t.on (RNG.grpEn n) = true ∧ (s.on (RNG.sum n) = false → ∀ a, a ≠
    RNG.evgrp n → t.reg a = s.reg a) ∧ (s.on (RNG.sum n) = false → t = { s with regs := t.regs }) ∧ Framed id [] s t) ∧
  (∀ (s : State) (q : RingN), ∃ t, exec (.coalesceExpiry q) s = .next t ∧ ((s.ring q).msgPend = true → (t.ring
    q).msgPend = false) ∧ ((s.ring q).msgPend = false → (t.ring q).msgRecent = false) ∧ ((s.ring q).msgPend = false →
    t = { s with rings := t.rings }) ∧ Framed id [] s t) ∧
  (∀ (s : State) (r : EvReg) (b : Fin 24), b.val < evBits r → ∃ t, exec (.eventOnset r b) s = .next t ∧ (t.reg
    (evRegOf r)).getLsbD b = true ∧ Framed id [evRegOf r] s t) ∧
  (∀ (s : State) (r : EvReg) (b : Fin 24), evBits r ≤ b.val → exec (.eventOnset r b) s = .next s) ∧
  (∀ (s : State) (q : RingN), s.writeTakes (RNG.q q + 0x14) = true → s.get (RNG.state q) ≠ 0 →
    exec (.ringEnable q) s = .next (s.put (RNG.en q) 1)) ∧
  (∀ (s : State) (q : RingN), s.writeTakes (RNG.q q + 0x14) = true → s.get (RNG.state q) ≠ 1 →
    s.get (RNG.state q) ≠ 4 → exec (.ringDisable q) s = .next (s.put (RNG.en q) 0)) ∧
  (∀ (s : State) (q : RingN) (n : Fin 13) (v : BitVec 6), s.writeTakes (RNG.q q + 0x14) = false →
    s.writeTakes (RNG.evgrp n) = false → exec (.ringEnable q) s = .next s ∧ exec (.ringDisable q) s = .next s ∧
    exec (.evgrpEnable n v) s = .next s) ∧
  (∀ s : State, s.ringReset = false → exec .ringEngineResetTimeout s = .next s)


/-- A request to BAR2 or BAR4 reaches the function of a powered manager only; otherwise it wakes the manager and is
lost. While the function decodes no memory requests a read is unsupported and a write is discarded, and PCIE_ERR
reports either; otherwise a read of a doorbell returns zeros, and a poisoned write notes the error and reports
PCIE_ERR. A doorbell of a ring with one new owned descriptor, within its limits, reads its slot and dispatches it:
CONS moves on and the descriptor is in flight, held, or answered at once with the status of the check that it fails.
With a producer index beyond the ring's size it halts the ring with cause 1, before the ring settles; so does a
RING_RECHECK of a stalled ring, which, once the limit has cleared, reads and dispatches the new owned descriptor just as
a doorbell does, or with none left ends the stall. Slots out of address order are no command. What the unit has written
to host memory and is not yet visible there reads as it wrote it last (which writes those are is free, log entry 4).
CQ_HEAD_POLL without room takes a good head of a RUNNING, DRAINING or HALTING ring before the ring settles, and a bad
one halts a RUNNING ring with cause 3; with room, or while the engine may not fetch, it does nothing. HOST_READ_ERROR of a powered manager notes how the read failed, reports PCIE_ERR and
halts a RUNNING ring with cause 2; an FW_LOAD whose image it was is answered with HOST_ERR. DESCRIPTOR_COMPLETE of
an answered descriptor that may complete takes it out of flight and, in order, moves CDONE past it; one that may not
complete stays, and a reset of the ring engine may end. The model's choices: the places of the error bits (log entry
41), that a bad CQ_HEAD is not taken over (log entry 42), and that slots out of order are no command (log entry 36).
That Bus Master Enable gates the memory writes is presumed (log entry 11). -/
def Obligations.DoorbellsAndCompletions : Prop :=
  (∀ (s : State) (r : DoorReq), doorSlotsOk r = true → s.manager = false → exec (.doorbell r) s = .next s) ∧
  (∀ (s : State) (r : DoorReq), doorSlotsOk r = true → s.manager = true → s.fileUp = false →
    exec (.doorbell r) s = .next (s.wakeDev (5, 0, 0))) ∧
  (∀ (s : State) (r : DoorReq), doorSlotsOk r = true → s.manager = true → s.fileUp = true →
    s.pcie.memEnable = false ∨ s.on RNG.d3hot = true → ∃ u : State, exec (.doorbell r) s =
    .next (if r.write then u.report 165 else (u.report 165).emit .unsupported) ∧
    u = { s.tlpArrives [] with pcie := u.pcie, out := u.out } ∧
    u.pcie.aerUncorr = s.pcie.aerUncorr ||| 0x100000#32) ∧
  (∀ (s : State) (r : DoorReq), doorSlotsOk r = true → s.manager = true → s.fileUp = true → s.pcie.memEnable = true →
    s.on RNG.d3hot = false → r.write = false →
    exec (.doorbell r) s = .next ((s.tlpArrives []).emit (.readData (List.replicate r.dws 0)))) ∧
  (∀ (s : State) (r : DoorReq), doorSlotsOk r = true → s.manager = true → s.fileUp = true → s.pcie.memEnable = true →
    s.on RNG.d3hot = false → r.write = true → r.poisoned = true → ∃ u : State,
    exec (.doorbell r) s = .next (u.report 165) ∧ u = { s.tlpArrives [] with pcie := u.pcie, out := u.out } ∧
    u.pcie.aerUncorr = s.pcie.aerUncorr ||| 0x1000#32 ∧
    u.pcie.devStatus = s.pcie.devStatus ||| (if s.pcie.aerSev.getLsbD 12 then 4 else 2)) ∧
  (∀ (s u : State) (k : RingN) (q dws : Nat) (m j : HostImg) (d : Desc), u = s.tlpArrives [] → j = u.seenImg q m →
    doorbellRing false k = some q → s.manager = true → s.fileUp = true → u.pcie.memEnable = true →
    u.on RNG.d3hot = false → u.safe = false → u.get (RNG.state q) = 1 → u.fetchUp = true →
    sub16 j.prod.toNat (u.get (RNG.cons q)) = 1 →
    j.prod.toNat = (u.get (RNG.cons q) + 1) % 65536 → u.headBad q j.cqHead.toNat = false →
    (u.updRing q (fun r => { r with cqHead := j.cqHead.toNat, stalled := false })).fetchLimited q = false →
    (u.ring q).copies = [] → j.slots.getD 0 0 = d → u.owned q d (u.get (RNG.cons q)) = true → ∃ t,
    exec (.doorbell ⟨false, true, false, dws, [(k, m)]⟩) s = .next t ∧
    t.get (RNG.cons q) = (u.get (RNG.cons q) + 1) % 65536 ∧ t.dispatched = u.dispatched + 1 ∧
    (u.descCheck q d = none → (t.ring q).flights = (u.ring q).flights ++
      [⟨u.get (RNG.cons q), d, u.dispatched, .held, 0, 0, 0, 0, 0⟩]) ∧
    ((u.descCheck q d).isSome = true → (t.ring q).flights = (u.ring q).flights ++
      [⟨u.get (RNG.cons q), d, u.dispatched, .answered, (u.descCheck q d).getD 0, 0, 0, u.orbit.gen, u.nextStamp⟩]) ∧
    .hostRead (u.slotAddr q (u.get (RNG.cons q))) 64 ∈ t.out ∧
    Framed (fun x => { x with dispatched := 0, fenceHeld := false }) [] u t) ∧
  (∀ (s v : State) (k : RingN) (q dws : Nat) (m : HostImg), v = s.tlpArrives [] → doorbellRing true k = some q →
    s.manager = true → s.fileUp = true → v.pcie.memEnable = true → v.on RNG.d3hot = false →
    v.get (RNG.state q) = 1 → v.fetchUp = true →
    2 ^ v.get (RNG.sqLog2 q) < sub16 (v.seenImg q m).prod.toNat (v.get (RNG.cons q)) → ∃ u : State,
    exec (.doorbell ⟨true, true, false, dws, [(k, m)]⟩) s = .next ((u.ringSettle q)) ∧ u.get (RNG.state q) = 3 ∧
    u.get (RNG.haltCause q) = 1 ∧ u.get (RNG.cons q) = v.get (RNG.cons q) ∧
    (∀ a, a ≠ RNG.q q + 0x1C → u.reg a = v.reg a) ∧ Framed id [] v u) ∧
  (∀ (s : State) (r : DoorReq), doorSlotsOk r = false → exec (.doorbell r) s = .fault .illFormed) ∧
  (∀ (s : State) (q : RingN) (m : HostImg), (s.ring q).stalled = true → s.fetchLimited q = false →
    s.get (RNG.state q) = 1 → s.fetchUp = true → 
    2 ^ s.get (RNG.sqLog2 q) < sub16 (s.seenImg q m).prod.toNat (s.get (RNG.cons q)) →
    ∃ u : State, exec (.ringRecheck q m) s = .next ((u.ringSettle q)) ∧ u.get (RNG.state q) = 3 ∧
    u.get (RNG.haltCause q) = 1 ∧ (u.ring q).stalled = false ∧ (∀ a, a ≠ RNG.q q + 0x1C → u.reg a = s.reg a) ∧
    Framed id [] s u) ∧
  (∀ (s : State) (q : RingN) (m j : HostImg) (d : Desc), j = s.seenImg q m → (s.ring q).stalled = true →
    s.fetchLimited q = false → s.get (RNG.state q) = 1 → s.fetchUp = true →
    sub16 j.prod.toNat (s.get (RNG.cons q)) = 1 → j.prod.toNat = (s.get (RNG.cons q) + 1) % 65536 →
    s.headBad q j.cqHead.toNat = false →
    (s.updRing q (fun r => { r with cqHead := j.cqHead.toNat, stalled := false })).fetchLimited q = false →
    (s.ring q).copies = [] → j.slots.getD 0 0 = d → s.owned q d (s.get (RNG.cons q)) = true → ∃ t,
    exec (.ringRecheck q m) s = .next t ∧ (t.ring q).stalled = false ∧
    t.get (RNG.cons q) = (s.get (RNG.cons q) + 1) % 65536 ∧ t.dispatched = s.dispatched + 1 ∧
    (s.descCheck q d = none → (t.ring q).flights = (s.ring q).flights ++
      [⟨s.get (RNG.cons q), d, s.dispatched, .held, 0, 0, 0, 0, 0⟩]) ∧
    ((s.descCheck q d).isSome = true → (t.ring q).flights = (s.ring q).flights ++
      [⟨s.get (RNG.cons q), d, s.dispatched, .answered, (s.descCheck q d).getD 0, 0, 0, s.orbit.gen, s.nextStamp⟩]) ∧
    .hostRead (s.slotAddr q (s.get (RNG.cons q))) 64 ∈ t.out ∧
    Framed (fun x => { x with dispatched := 0, fenceHeld := false }) [] s t) ∧
  (∀ (s : State) (q : RingN) (m j : HostImg), j = s.seenImg q m → (s.ring q).stalled = true →
    s.fetchLimited q = false → s.get (RNG.state q) = 1 → s.fetchUp = true → j.prod.toNat = s.get (RNG.cons q) →
    s.headBad q j.cqHead.toNat = false → ∃ t, exec (.ringRecheck q m) s = .next t ∧ (t.ring q).stalled = false ∧
    t.get (RNG.cons q) = s.get (RNG.cons q) ∧ t.dispatched = s.dispatched ∧
    (t.ring q).flights = (s.ring q).flights ∧ (t.ring q).cqHead = j.cqHead.toNat ∧ Framed id [] s t) ∧
  (∀ (s : State) (a : Nat) (b : Byte), s.pathWrites = [] → s.seenByte a b = b) ∧
  (∀ (s : State) (a : Nat) (b v : Byte) (l : List (Nat × List Word)) (w : Nat × List Word),
    s.pathWrites = l ++ [w] → writtenIn w a = some v →
    s.seenByte a b = if Config.unseen a s.clock then v else b) ∧
  (∀ (s : State) (q : RingN) (m : HostImg), (s.ring q).stalled = false ∨ s.fetchLimited q = true ∨
    (s.get (RNG.state q) ≠ 1) →
    exec (.ringRecheck q m) s = .next s) ∧
  (∀ (s : State) (q : RingN) (h : BitVec 16), s.cqRoom q = 0 → 1 ≤ s.get (RNG.state q) →
    s.get (RNG.state q) ≤ 3 → s.fetchUp = true → s.headBad q (s.seenHead q h) = false → ∃ u : State,
    exec (.cqHeadPoll q h) s = .next (u.ringSettle q) ∧ (u.ring q).cqHead = s.seenHead q h ∧ u = { s with rings := u.rings, out := u.out }) ∧
  (∀ (s : State) (q : RingN) (h : BitVec 16), s.cqRoom q = 0 → s.get (RNG.state q) = 1 →
    s.fetchUp = true → s.headBad q (s.seenHead q h) = true → ∃ u : State, exec (.cqHeadPoll q h) s = .next (u.ringSettle q) ∧
    u.get (RNG.state q) = 3 ∧ u.get (RNG.haltCause q) = 3 ∧ u.rings = s.rings ∧
    (∀ a, a ≠ RNG.q q + 0x1C → u.reg a = s.reg a) ∧ Framed id [] s u) ∧
  (∀ (s : State) (q : RingN) (h : BitVec 16), s.cqRoom q ≠ 0 ∨ s.fetchUp = false ∨
    s.get (RNG.state q) = 0 ∨ 4 ≤ s.get (RNG.state q) → exec (.cqHeadPoll q h) s = .next s) ∧
  (∀ (s : State) (q : RingN) (w : ReadFail), s.manager = true → s.fileUp = true → ∃ u : State,
    exec (.hostReadError q ⟨w, none⟩) s = .next ((u.report 165).ringHalt q 2) ∧
    u = { s with pcie := u.pcie, out := u.out } ∧
    u.pcie.aerUncorr = s.pcie.aerUncorr ||| (match w with
      | .timeout => 0x4000#32
      | .poisoned => 0x1000#32
      | _ => 0#32) ∧
    u.pcie.status = s.pcie.status ||| (match w with
      | .timeout => 0#16
      | .unsupported => 0x2000#16
      | .aborted => 0x1000#16
      | .poisoned => 0x8000#16)) ∧
  (∀ (s : State) (q : RingN) (w : ReadFail), s.manager = true → s.fileUp = true → s.on (FLT.live 165) = true →
    s.get (RNG.state q) = 1 → ∃ u : State, exec (.hostReadError q ⟨w, none⟩) s = .next (u.ringSettle q) ∧
    u.causes.testBit 165 = true ∧ u.get (RNG.state q) = 3 ∧ u.get (RNG.haltCause q) = 2 ∧
    (∀ a, a ≠ RNG.q q + 0x1C → u.reg a = s.reg a) ∧
    Framed (fun x => { x with causes := 0, pcie := Pcie.reset }) [] s u) ∧
  (∀ (s : State) (q : RingN) (w : ReadFail) (i : BitVec 16) (f : Flight), s.manager = true → s.fileUp = true →
    (s.readFailed w).flight q i.toNat = some f → dType f.desc = 0x0F → f.stage = .started →
    exec (.hostReadError q ⟨w, some i⟩) s = .next ((((((s.readFailed w).endOperation (.ring q i.toNat)).forgetOut q
      i.toNat).answerFlight q i.toNat 0x0C 0 (dTarget f.desc))).ringHalt q 2)) ∧
  (∀ (s : State) (q : RingN) (w : ReadFail) (i : BitVec 16), s.manager = true → s.fileUp = true →
    ((s.readFailed w).flight q i.toNat).all (fun f => decide (dType f.desc ≠ 0x0F ∨ f.stage ≠ .started)) = true →
    exec (.hostReadError q ⟨w, some i⟩) s = .next ((s.readFailed w).ringHalt q 2)) ∧
  (∀ (s : State) (q : RingN) (e : ReadError), s.manager = false ∨ s.fileUp = false →
    exec (.hostReadError q e) s = .next s) ∧
  (∀ (s : State) (q : RingN) (i : BitVec 16) (f : Flight), s.flight q i.toNat = some f → s.mayComplete q f = true →
    s.hostUp = true → ∃ u : State, exec (.descriptorComplete q i) s = .next (u.resetSettle) ∧
    (u.ring q).flights = (s.ring q).flights.filter (fun x => decide (x.idx ≠ f.idx)) ∧
    (s.get (RNG.cdone q) = i.toNat → s.reg (RNG.donemap q) = 0 → u.get (RNG.cdone q) = (i.toNat + 1) % 65536) ∧
    u.get (RNG.inflight q) = ((s.ring q).flights.filter (fun x => decide (x.idx ≠ f.idx))).length % 64 ∧
    Framed (fun x => { x with fenceHeld := false }) [] s u) ∧
  (∀ (s : State) (q : RingN) (i : BitVec 16) (f : Flight), s.flight q i.toNat = some f →
    s.mayComplete q f = false ∨ (s.hostUp = false ∧ s.ringReset = false) →
    exec (.descriptorComplete q i) s = .next (s.resetSettle)) ∧
  (∀ (s : State) (q : RingN) (i : BitVec 16), s.flight q i.toNat = none →
    exec (.descriptorComplete q i) s = .next (s.resetSettle))

/-- A CONFIG_REQUEST to the manager's function, while the block is powered, sets DL_UP with a speed and a width of the
link partner's choice and leaves the link in L0; before firmware is ready it is answered with retry status, and
afterwards a read returns what the function holds (vendor and device, class and revision, 64-bit memory BARs, the
link's speed and width), a command write takes Memory Space Enable and Bus Master Enable, a BAR write its address
bits, and the writes of the MSI-X control, of the error status, masks and severities, of Device Control and of LTR
their fields, before what waited goes out; a change of the link's power state shows in LINK_PM, and its exit from L1 or L1.1 wakes the unit, in any of
its states. D3HOT_ENTRY on the
manager and D3HOT_EXIT set and clear D3HOT and keep everything else, but for what waited for the link. A
BAR0_REQUEST that the function does not decode, or of a length that it does not take, is unsupported when it reads
and discarded when it writes, and PCIE_ERR reports either; a poisoned write reports an uncorrectable error; beyond
the register file, where a read returns zeros, and for a write without all byte enables, it sets WIN_ERR; a write of
one word writes the register, and a read returns its value, where the register answers. The correctable errors of
the link are counted. Every request wakes the unit; one to a manager whose register file is off does nothing else. A
write whose data is not as long as its length is no command. The model's choices: the BARs' address bits (log entry
34), the places of the error bits, Device Control and the severities, and LINK_PM's changes (log entry 41), and what
is no command (log entry 36). -/
def Obligations.ThePcieFunction : Prop :=
  (∀ (s : State) (r : CfgReq), s.manager = true → s.fileUp = true → s.crsNow = true →
    (match r with | .link _ => false | _ => true) = true →
    exec (.configRequest r) s = .next ((s.tlpArrives []).emit .retryStatus)) ∧
  (∀ (s : State), s.manager = true → s.fileUp = true → s.crsNow = true → s.on RNG.dlUp = false →
    s.jtagPins = false → ∃ u : State,
    exec (.configRequest (.read .id)) s = .next ((u.wakeDev (5, 0, 0)).emit .retryStatus) ∧ u.on RNG.dlUp = true ∧
    1 ≤ u.get RNG.speed ∧ u.get RNG.speed ≤ 5 ∧
    (u.get RNG.pcieWidth = 1 ∨ u.get RNG.pcieWidth = 2 ∨ u.get RNG.pcieWidth = 4) ∧ u.get RNG.linkPm = 0 ∧
    u = { s with regs := u.regs, freeCtr := u.freeCtr } ∧ (∀ a, a ≠ RNG.pcieStat → u.reg a = s.reg a)) ∧
  (∀ (s : State) (c : CfgReg), s.manager = true → s.fileUp = true → s.crsNow = false → s.on RNG.dlUp = true →
    exec (.configRequest (.read c)) s = .next (((s.put RNG.linkPm 0).wakeDev (5, 0, 0)).emit (.readData [s.configWord c])) ∧
    s.configWord .id = 0x64341E7B#32 ∧ s.configWord .classRev = BitVec.ofNat 32 (0x08800000 + (s.reg GLB.id).toNat / 16
    % 16) ∧
    (∀ n : Fin 6, n.val % 2 = 0 → s.configWord (.bar n) = ((s.pcie.bars.getD n 0) ||| 4#32)) ∧
    s.configWord .linkStatus = BitVec.ofNat 32 (s.get RNG.speed + 16 * s.get RNG.pcieWidth)) ∧
  (∀ (s : State) (m b : Bool), s.manager = true → s.fileUp = true → s.crsNow = false → ∃ u : State,
    exec (.configRequest (.command m b)) s = .next (u.hostBack) ∧ u.pcie.memEnable = m ∧ u.pcie.busMaster = b ∧
    u = { s.tlpArrives [] with pcie := u.pcie }) ∧
  (∀ (s : State) (n : Fin 6) (v : Word), s.manager = true → s.fileUp = true → s.crsNow = false →
    s.pcie.bars.length = 6 → ∃ t, exec (.configRequest (.bar n v)) s = .next t ∧
    t.pcie.bars.getD n 0 = v &&& (if n.val = 0 then 0xFF000000#32 else if n.val % 2 = 0 then 0xFFFFF000#32 else
      0xFFFFFFFF#32) ∧ t = { s.tlpArrives [] with pcie := t.pcie }) ∧
  (∀ (s : State) (e m : Bool), s.manager = true → s.fileUp = true → s.crsNow = false → ∃ u : State,
    exec (.configRequest (.msixControl e m)) s = .next (u.msixUnmask) ∧ u.pcie.msixEnable = e ∧ u.pcie.msixMask = m ∧
    u = { s.tlpArrives [] with pcie := u.pcie }) ∧
  (∀ (s : State) (d : BitVec 4) (x y : Word), s.manager = true → s.fileUp = true → s.crsNow = false → ∃ t,
    exec (.configRequest (.errorClear d x y)) s = .next t ∧ t.pcie.devStatus = s.pcie.devStatus &&& ~~~d ∧
    t.pcie.aerUncorr = s.pcie.aerUncorr &&& ~~~x ∧ t.pcie.aerCorr = s.pcie.aerCorr &&& ~~~y ∧
    t = { s.tlpArrives [] with pcie := t.pcie }) ∧
  (∀ (s : State) (v : BitVec 16) (x y z : Word) (d : BitVec 4) (m : Fin 8), s.manager = true → s.fileUp = true →
    s.crsNow = false →
    exec (.configRequest (.statusClear v)) s = .next { s.tlpArrives [] with pcie := { s.pcie with
      status := s.pcie.status &&& ~~~v } } ∧
    exec (.configRequest (.aerMask x y)) s = .next { s.tlpArrives [] with pcie := { s.pcie with
      aerMask := x, aerCorrMask := y } } ∧
    exec (.configRequest (.aerSev z)) s = .next { s.tlpArrives [] with pcie := { s.pcie with aerSev := z } } ∧
    exec (.configRequest (.devControl d m)) s = .next { s.tlpArrives [] with pcie := { s.pcie with
      devCtl := d, mrrs := m.val } }) ∧
  (∀ (s : State) (v : Word), s.manager = true → s.fileUp = true → s.crsNow = false → ∃ t,
    exec (.configRequest (.ltr v)) s = .next t ∧ t.pcie.ltr = v ∧ t = { s.tlpArrives [] with pcie := t.pcie }) ∧
  (∀ (s : State) (pm : Fin 3), s.manager = true → s.on RNG.dlUp = true → exec (.configRequest (.link pm)) s = .next
    ((s.put RNG.linkPm pm.val).when (decide (s.get RNG.linkPm ≠ 0 ∧ pm.val = 0)) (fun t => t.wakeDev (5, 0, 0)))) ∧
  (∀ (s : State) (pm : Fin 3), s.on RNG.dlUp = false → exec (.configRequest (.link pm)) s = .next s) ∧
  (∀ (s : State), s.manager = true → ∃ t, exec .d3hotEntry s = .next t ∧ t.on RNG.d3hot = true ∧
    t = { s with regs := t.regs } ∧ (∀ a, a ≠ RNG.pcieStat → t.reg a = s.reg a)) ∧
  (∀ (s : State), ∃ u : State, exec .d3hotExit s = .next (u.hostBack) ∧ u.on RNG.d3hot = false ∧
    u = { s with regs := u.regs } ∧ (∀ a, a ≠ RNG.pcieStat → u.reg a = s.reg a)) ∧
  (∀ (s : State) (r : BarReq), barDataOk r = true → s.manager = true → s.fileUp = true →
    s.pcie.memEnable = false ∨ s.on RNG.d3hot = true ∨ (barLength r = false ∧ r.poisoned = false) →
    exec (.bar0Request r) s = .next ((s.tlpArrives r.corr).unsupportedReq r.write)) ∧
  (∀ (s : State) (r : BarReq), barDataOk r = true → s.manager = true → s.fileUp = true → s.pcie.memEnable = true →
    s.on RNG.d3hot = false → r.write = true → r.poisoned = true →
    exec (.bar0Request r) s = .next ((s.tlpArrives r.corr).pcieError 12)) ∧
  (∀ (s : State) (r : BarReq), barDataOk r = true → s.manager = true → s.fileUp = true → s.pcie.memEnable = true →
    s.on RNG.d3hot = false → barLength r = true → r.poisoned = false → 0x800000 ≤ r.off.toNat ∨ (r.write = true ∧
    r.beAll = false) → ∃ t, exec (.bar0Request r) s = .next t ∧ t.on RNG.winErr = true ∧
    (r.write = true → t.out = (s.tlpArrives r.corr).out) ∧
    (r.write = false → t.out = (s.tlpArrives r.corr).out ++ [.readData (List.replicate r.dws 0)]) ∧
    t = { s.tlpArrives r.corr with regs := t.regs, out := t.out } ∧
    (∀ a, a ≠ RNG.pcieStat → t.reg a = (s.tlpArrives r.corr).reg a)) ∧
  (∀ (s u : State) (a : Addr) (v : Word), u = s.tlpArrives [] → s.manager = true → s.fileUp = true → s.pcie.memEnable =
    true →
    s.on RNG.d3hot = false → a.toNat % 4 = 0 → a.toNat < 0x800000 →
    exec (.bar0Request ⟨true, a, 1, true, false, [v], []⟩) s =
    .next (if u.barAnswers a.toNat then u.writeWord a.toNat v else u)) ∧
  (∀ (s u : State) (a : Addr), u = s.tlpArrives [] → s.manager = true → s.fileUp = true → s.pcie.memEnable = true →
    s.on RNG.d3hot = false →
    a.toNat % 4 = 0 → a.toNat < 0x800000 → ∃ t,
    exec (.bar0Request ⟨false, a, 1, true, false, [], []⟩) s = .next t ∧ t.out = u.out ++ [.readData
      [if u.barAnswers a.toNat then (u.readWord a.toNat).2 else 0]] ∧ t.regs = u.regs ∧
    Framed (fun x => { x with latch := 0 }) [] u t) ∧
  (∀ (s : State) (r : BarReq), barDataOk r = true → s.manager = true → s.fileUp = true → s.on RNG.dlUp = true →
    s.pcie.memEnable = false → r.write = true → r.corr ≠ [] →
    ∃ u : State, exec (.bar0Request r) s = .next (u.report 165) ∧
    u.counter RNG.pcieCorr = (s.counter RNG.pcieCorr + r.corr.length) % 2 ^ 48 ∧ u.pcie.devStatus.getLsbD 0 = true ∧
    u.pcie.devStatus.getLsbD 3 = true ∧ u.pcie.aerUncorr = s.pcie.aerUncorr ||| 0x100000#32 ∧
    (∀ b ∈ r.corr, u.pcie.aerCorr.getLsbD b.val = true) ∧
    u = { s.tlpArrives [] with pcie := u.pcie, regs := u.regs, out := u.out } ∧
    (∀ a, a ≠ RNG.pcieCorr → a ≠ RNG.pcieCorr + 4 → u.reg a = (s.tlpArrives []).reg a)) ∧
  (∀ (s : State) (r : BarReq) (c : CfgReq), barDataOk r = true → s.manager = false →
    exec (.bar0Request r) s = .next s ∧ exec (.configRequest c) s = .next s) ∧
  (∀ (s : State) (r : BarReq) (c : CfgReq), barDataOk r = true → s.manager = true → s.fileUp = false →
    (match c with | .link _ => false | _ => true) = true →
    exec (.bar0Request r) s = .next (s.wakeDev (5, 0, 0)) ∧
    exec (.configRequest c) s = .next (s.wakeDev (5, 0, 0))) ∧
  (∀ (s : State), s.manager = false → exec .d3hotEntry s = .next s) ∧
  (∀ (s : State) (r : BarReq), barDataOk r = false → exec (.bar0Request r) s = .fault .illFormed)

/-- A NOP or FENCE that starts is answered OK with RESULT 0 and does nothing else. REG_READ of one register at the
manager answers OK with its value, and of several their values or the first failure; REG_WRITE and REG_RMW of the
global event mask change its event bits alone, REG_RMW answering the old value; an access to an address beyond the
file answers ADDR_ERR and changes no register. BULK_WRITE of two words to the fault collector's masks writes both
and answers 2, in the safe state too; BULK_READ writes the words it reads to host memory and answers their number. A
descriptor that the manager refuses in the safe state is answered SAFE_STATE and does nothing else. One that names a
worker goes out as one request, with the payload of its type; with a second manager seen it is answered NO_UNIT;
while the ring heals, or while no TAG is free (that it waits there is the model's reading, log entry 42), it waits.
A row whose descriptor is not in flight does nothing. NO_UNIT with a second manager is the model's reading (log
entry 37). -/
def Obligations.RegisterDescriptors : Prop :=
  (∀ (s : State) (q : RingN) (i : BitVec 16) (f : Flight), s.starts q i.toNat 0x00 none = some f → ∃ t, exec (.nop q
    i) s = .next t ∧ t.answerOf q i.toNat = some (0, 0) ∧ t = { s with rings := t.rings }) ∧
  (∀ (s : State) (q : RingN) (i : BitVec 16) (f : Flight), s.starts q i.toNat 0x11 none = some f → ∃ t, exec (.fence
    q i) s = .next t ∧ t.answerOf q i.toNat = some (0, 0) ∧ t = { s with rings := t.rings }) ∧
  (∀ (s : State) (q : RingN) (i : BitVec 16) (c : Instr), s.flight q i.toNat = none → c ∈ [.nop q i, .regRead q i,
    .regWrite q i, .regRmw q i, .bulkWrite q i, .bulkRead q i, .orbitBcast q i, .eclipse q i, .tstreamStart q i,
    .tstreamStop q i, .calSweep q i, .calTxpass q i, .calFull q i, .bistRun q i, .laneSwapSwap q i, .laneSwapRetrain
    q i, .laneSwapRestore q i, .quench q i, .unquench q i, .rquench q i, .runquench q i, .keyLoad q i, .fwLoadWrite q
    i [], .fwLoadActivate q i, .faultClearSource q i, .faultClearRecord q i, .faultClearSafe q i, .fence q i] → ∃ t,
    exec c s = .next t ∧ t = s) ∧
  (∀ (s : State) (q : RingN) (i : BitVec 16) (f : Flight) (a : Nat), s.starts q i.toNat 0x01 none = some f → dTarget
    f.desc = 0 → dField f.desc 11 1 = 1 → dAddr f.desc = a → s.accessStatus a = 0 → ∃ t, exec (.regRead q i) s =
    .next t ∧ t.answerOf q i.toNat = some (0, (s.readWord a).2.toNat) ∧ t =
    { s with rings := t.rings, latch := t.latch } ∧ (isLowWord a = false → t.latch = s.latch) ∧ (isLowWord a = true →
    t.latch = s.view (a + 4))) ∧
  (∀ (s : State) (q : RingN) (i : BitVec 16) (f : Flight), s.starts q i.toNat 0x01 none = some f → dTarget f.desc = 0
    → (s.safe && safeRefuses f.desc) = false → ∃ t, exec (.regRead q i) s = .next t ∧ t = ((s.started q
    i.toNat).swReads (dField f.desc 11 1) (dAddr f.desc)).1.answerFlight q i.toNat ((s.started q i.toNat).swReads
    (dField f.desc 11 1) (dAddr f.desc)).2.2 ((((s.started q i.toNat).swReads (dField f.desc 11 1) (dAddr
    f.desc)).2.1.headD 0).toNat + 2 ^ 32 * ((((s.started q i.toNat).swReads (dField f.desc 11 1) (dAddr
    f.desc)).2.1.drop 1).headD 0).toNat) 0) ∧
  (∀ (s : State) (q : RingN) (i : BitVec 16) (f : Flight) (v : Word), s.starts q i.toNat 0x02 none = some f → dTarget
    f.desc = 0 → dAddr f.desc = 0x34 → dField f.desc 12 4 = v.toNat → s.fileUp = true → s.safe = false → ∃ t, exec
    (.regWrite q i) s = .next t ∧ t.answerOf q i.toNat = some (0, 0) ∧ t.reg 0x34 = (s.reg 0x34 &&& 0xFFFFC000#32)
    ||| (v &&& 0x3FFF#32) ∧ t = { s with regs := t.regs, rings := t.rings } ∧ (∀ a, a ≠ 0x34 → t.reg a = s.reg a)) ∧
  (∀ (s : State) (q : RingN) (i : BitVec 16) (f : Flight), s.starts q i.toNat 0x02 none = some f → dTarget f.desc = 0
    → 0x800000 ≤ dAddr f.desc → s.safe = false → ∃ t, exec (.regWrite q i) s = .next t ∧ t.answerOf q i.toNat = some
    (6, 0) ∧ t = { s with rings := t.rings }) ∧
  (∀ (s : State) (q : RingN) (i : BitVec 16) (f : Flight), s.starts q i.toNat 0x02 none = some f → dTarget f.desc = 0
    → (s.safe && safeRefuses f.desc) = false → ∃ t, exec (.regWrite q i) s = .next t ∧ t = ((s.started q
    i.toNat).swWrite (dAddr f.desc) (BitVec.ofNat 32 (dField f.desc 12 4))).1.answerFlight q i.toNat ((s.started q
    i.toNat).swWrite (dAddr f.desc) (BitVec.ofNat 32 (dField f.desc 12 4))).2 0 0) ∧
  (∀ (s : State) (q : RingN) (i : BitVec 16) (f : Flight) (m v : Word), s.starts q i.toNat 0x03 none = some f →
    dTarget f.desc = 0 → dAddr f.desc = 0x34 → dField f.desc 12 4 = m.toNat → dField f.desc 16 4 = v.toNat → s.fileUp
    = true → s.safe = false → ∃ t, exec (.regRmw q i) s = .next t ∧ t.answerOf q i.toNat = some (0, (s.reg
    0x34).toNat) ∧ t.reg 0x34 = (s.reg 0x34 &&& ~~~(m &&& 0x3FFF#32)) ||| (v &&& m &&& 0x3FFF#32) ∧ t =
    { s with regs := t.regs, rings := t.rings } ∧ (∀ a, a ≠ 0x34 → t.reg a = s.reg a)) ∧
  (∀ (s : State) (q : RingN) (i : BitVec 16) (f : Flight), s.starts q i.toNat 0x03 none = some f → dTarget f.desc = 0
    → (s.safe && safeRefuses f.desc) = false → ∃ t, exec (.regRmw q i) s = .next t ∧ t = ((s.started q i.toNat).swRmw
    (dAddr f.desc) (BitVec.ofNat 32 (dField f.desc 12 4)) (BitVec.ofNat 32 (dField f.desc 16 4))).1.answerFlight q
    i.toNat ((s.started q i.toNat).swRmw (dAddr f.desc) (BitVec.ofNat 32 (dField f.desc 12 4)) (BitVec.ofNat 32
    (dField f.desc 16 4))).2.2 ((s.started q i.toNat).swRmw (dAddr f.desc) (BitVec.ofNat 32 (dField f.desc 12 4))
    (BitVec.ofNat 32 (dField f.desc 16 4))).2.1.toNat 0) ∧
  (∀ (s : State) (q : RingN) (i : BitVec 16) (f : Flight) (v w : Word), s.starts q i.toNat 0x04 none = some f →
    dTarget f.desc = 0 → dField f.desc 56 3 = 0x10010 → dField f.desc 59 1 = 2 → dField f.desc 8 4 = v.toNat → dField
    f.desc 12 4 = w.toNat → s.fileUp = true → ∃ t, exec (.bulkWrite q i) s = .next t ∧ t.answerOf q i.toNat = some
    (0, 2) ∧ t.reg 0x10010 = (s.reg 0x10010 &&& 0xFFFFFF80#32) ||| (v &&& 0x7F#32) ∧ t.reg 0x10014 = (s.reg 0x10014
    &&& 0xFF000000#32) ||| (w &&& 0xFFFFFF#32) ∧ t = { s with regs := t.regs, rings := t.rings } ∧ (∀ a, a ∉
    [0x10010, 0x10014] → t.reg a = s.reg a)) ∧
  (∀ (s : State) (q : RingN) (i : BitVec 16) (f : Flight), s.starts q i.toNat 0x04 none = some f → dTarget f.desc = 0
    → (s.safe && safeRefuses f.desc) = false → ∃ t, exec (.bulkWrite q i) s = .next t ∧ t = ((s.started q
    i.toNat).swWrites (wordsOf (dField f.desc 59 1) (dField f.desc 8 48)) (dField f.desc 56 3)).1.answerFlight q
    i.toNat ((s.started q i.toNat).swWrites (wordsOf (dField f.desc 59 1) (dField f.desc 8 48)) (dField f.desc 56
    3)).2.2 ((s.started q i.toNat).swWrites (wordsOf (dField f.desc 59 1) (dField f.desc 8 48)) (dField f.desc 56
    3)).2.1 0) ∧
  (∀ (s : State) (q : RingN) (i : BitVec 16) (f : Flight), s.starts q i.toNat 0x05 none = some f → dTarget f.desc = 0
    → dAddr f.desc = 0x10010 → dField f.desc 12 2 = 2 → s.fileUp = true → s.hostUp = true → ∃ t, exec (.bulkRead q i)
    s = .next t ∧ t.answerOf q i.toNat = some (0, 2) ∧ t.out = s.out ++ [.hostWrite (dField f.desc 16 8) [s.reg
    0x10010, s.reg 0x10014]] ∧ t = { s with rings := t.rings, out := t.out }) ∧
  (∀ (s : State) (q : RingN) (i : BitVec 16) (f : Flight), s.starts q i.toNat 0x05 none = some f → dTarget f.desc = 0
    → (s.safe && safeRefuses f.desc) = false → ∃ t, exec (.bulkRead q i) s = .next t ∧ t = (if ((s.started q
    i.toNat).swReads (dField f.desc 12 2) (dAddr f.desc)).2.1 = [] then ((s.started q i.toNat).swReads (dField f.desc
    12 2) (dAddr f.desc)).1 else ((s.started q i.toNat).swReads (dField f.desc 12 2) (dAddr f.desc)).1.postWrite
    (dField f.desc 16 8) ((s.started q i.toNat).swReads (dField f.desc 12 2) (dAddr f.desc)).2.1).answerFlight q
    i.toNat ((s.started q i.toNat).swReads (dField f.desc 12 2) (dAddr f.desc)).2.2 ((s.started q i.toNat).swReads
    (dField f.desc 12 2) (dAddr f.desc)).2.1.length 0) ∧
  (∀ (s : State) (q : RingN) (i : BitVec 16) (f : Flight) (c : Instr) (ty : Nat) (op : Option Nat), (c, ty, op) ∈
    [(.regRead q i, 0x01, none), (.regWrite q i, 0x02, none), (.regRmw q i, 0x03, none), (.bulkWrite q i, 0x04,
    none), (.bulkRead q i, 0x05, none), (.tstreamStart q i, 0x08, none), (.tstreamStop q i, 0x09, none), (.calSweep q
    i, 0x0A, some 0), (.calTxpass q i, 0x0A, some 1), (.calFull q i, 0x0A, some 2), (.bistRun q i, 0x0B, none),
    (.laneSwapSwap q i, 0x0C, some 0), (.laneSwapRetrain q i, 0x0C, some 1), (.laneSwapRestore q i, 0x0C, some 2),
    (.fwLoadActivate q i, 0x0F, some 1)] → s.starts q i.toNat ty op = some f → dTarget f.desc = 0 → s.safe = true →
    safeRefuses f.desc = true → ∃ t, exec c s = .next t ∧ t.answerOf q i.toNat = some (0x0E, 0) ∧ t =
    { s with rings := t.rings }) ∧
  (∀ (s : State) (q : RingN) (i : BitVec 16) (f : Flight) (c : Instr) (ty : Nat) (op : Option Nat) (ft : Nat) (pay :
    List Byte), (c, ty, op, ft, pay) ∈ [(.regRead q i, 0x01, none, 1, regPayload 0 (dAddr f.desc) (dField f.desc 11
    1) []), (.regWrite q i, 0x02, none, 1, regPayload 1 (dAddr f.desc) 1 (bytesOf 4 (dField f.desc 12 4))), (.regRmw
    q i, 0x03, none, 1, regPayload 2 (dAddr f.desc) 1 (bytesOf 8 (dField f.desc 12 8))), (.bulkWrite q i, 0x04, none,
    1, regPayload 3 (dField f.desc 56 3) (dField f.desc 59 1) (bytesOf (4 * dField f.desc 59 1) (dField f.desc 8
    48))), (.bulkRead q i, 0x05, none, 1, regPayload 4 (dAddr f.desc) (dField f.desc 12 2) []), (.tstreamStop q i,
    0x09, none, 4, opPayload f.desc), (.calSweep q i, 0x0A, some 0, 4, opPayload f.desc), (.calTxpass q i, 0x0A, some
    1, 4, opPayload f.desc), (.calFull q i, 0x0A, some 2, 4, opPayload f.desc), (.bistRun q i, 0x0B, none, 4,
    opPayload f.desc), (.laneSwapSwap q i, 0x0C, some 0, 4, opPayload f.desc), (.laneSwapRetrain q i, 0x0C, some 1,
    4, opPayload f.desc), (.laneSwapRestore q i, 0x0C, some 2, 4, opPayload f.desc), (.keyLoad q i, 0x0E, none, 4,
    opPayload f.desc), (.fwLoadActivate q i, 0x0F, some 1, 4, opPayload f.desc), (.faultClearSource q i, 0x10, some
    0, 4, opPayload f.desc), (.faultClearRecord q i, 0x10, some 1, 4, opPayload f.desc), (.faultClearSafe q i, 0x10,
    some 2, 4, opPayload f.desc)] → s.starts q i.toNat ty op = some f → dTarget f.desc ≠ 0 → ∃ t, exec c s = .next t
    ∧ (s.on ORB.conflict = true → t.answerOf q i.toNat = some (3, 0) ∧ t = { s with rings := t.rings }) ∧ (s.on
    ORB.conflict = false → s.orbPaused = true → t = s) ∧
    (s.on ORB.conflict = false → s.orbPaused = false → s.freeTag (dTarget f.desc) = none → t = s) ∧
    (s.on ORB.conflict = false → s.orbPaused = false → (s.freeTag (dTarget f.desc)).isSome = true →
      t = s.sendReq q i.toNat (dTarget f.desc) ft pay [] ∧ (s.orbUp = true → t.out.getLast? = some (.frame (s.portTo (dTarget f.desc)) (sealFrame ⟨BitVec.ofNat 8 (dTarget f.desc), 0,
        BitVec.ofNat 8 ft, BitVec.ofNat 8 (s.newTag (dTarget f.desc)), 0, BitVec.ofNat 8 pay.length, pay, 0, []⟩)))))

/-- The engine checks each descriptor at dispatch in this order, and the first failing check decides its status: a
reserved TYPE (0x12 and above) BAD_DESC; a privileged TYPE (BIST_RUN, QUENCH, KEY_LOAD, FW_LOAD or FAULT_CLEAR) on
rings 4 to 63 PRIV_VIOLATION; a TARGET outside the range of its type or a field value outside its range BAD_DESC; a
worker address that no unit holds NO_UNIT; the manager in the safe state, for a type or address that it refuses there,
SAFE_STATE. A refused descriptor is complete at dispatch: it is in flight as answered with that status and its row no
longer carries it out; the consumer index moves past it. One that no check refuses is held until its row starts it.
What a ring fetches is an owned copy that it holds, or the slot that it reads from host memory for it. -/
def Obligations.DispatchChecks : Prop :=
  (∀ (s : State) (q : Nat) (d : Desc), 0x12 ≤ dType d → s.descCheck q d = some 0x01) ∧ (∀ (s : State) (q : Nat) (d :
    Desc), dType d ∈ [0x0B, 0x0D, 0x0E, 0x0F, 0x10] → 4 ≤ q → s.descCheck q d = some 0x02) ∧ (∀ (s : State) (q : Nat)
    (d : Desc), dType d < 0x12 → (dType d ∈ [0x0B, 0x0D, 0x0E, 0x0F, 0x10] → q < 4) → s.descCheck q d = if targetOk
    (dType d) (dTarget d) = false ∨ fieldsOk d = false then some 0x01 else if dType d ≠ 0 ∧ dType d ≠ 0x11 ∧ 1 ≤
    dTarget d ∧ dTarget d ≤ 254 ∧ s.unitHeld (dTarget d) = false then some 0x03 else if dType d ≠ 0 ∧ dType d ≠ 0x11
    ∧ dTarget d = 0 ∧ s.safe = true ∧ safeRefuses d = true then some 0x0E else none) ∧
  (∀ d : Desc, targetOk (dType d) (dTarget d) = decide (dType d = 0 ∨ dType d = 0x11 ∨ dType d = 0x0D ∨ (dType d ∈
    [0x06, 0x07] ∧ dTarget d = 0xFF) ∨ (dType d ∉ [0x06, 0x07] ∧ dTarget d ≠ 0xFF))) ∧
  (∀ (s : State) (q : RingN) (i : Nat) (d : Desc) (st : Nat), s.descCheck q d = some st → (s.ring q).flights = [] → i
    < 65536 → (s.dispatch q i d).answerOf q i = some (st, 0) ∧ (s.dispatch q i d).get (RNG.cons q) = (i + 1) % 65536
    ∧ (∀ (ty : Nat) (op : Option Nat), (s.dispatch q i d).starts q i ty op = none) ∧ Framed (fun x =>
    { x with dispatched := 0 }) [] s (s.dispatch q i d)) ∧
  (∀ (s : State) (q : RingN) (i : Nat) (d : Desc), s.descCheck q d = none → (s.ring q).flights = [] → i < 65536 →
    (s.dispatch q i d).flight q i = some ⟨i, d, s.dispatched, .held, 0, 0, 0, 0, 0⟩ ∧ (s.dispatch q i d).get (RNG.cons
    q) = (i + 1) % 65536 ∧ Framed (fun x => { x with dispatched := 0, fenceHeld := false }) [] s (s.dispatch q i d)) ∧
  (∀ (s : State) (q : Nat) (n p : Nat) (d : Desc) (l : List Desc), s.get (RNG.cons q) ≠ p → s.fetchLimited q = false
    → s.copyOf q (s.get (RNG.cons q)) = none → s.owned q d (s.get (RNG.cons q)) = true → State.fetchLoop (n + 1) s q
    p (d :: l) = 
    State.fetchLoop n ((s.hostRead (s.slotAddr q (s.get (RNG.cons q))) 64).dispatch q (s.get (RNG.cons q)) d) q p l) ∧
  (∀ (s : State) (q : Nat) (n p : Nat) (d : Desc) (l : List Desc), s.get (RNG.cons q) ≠ p → s.fetchLimited q = false →
    s.copyOf q (s.get (RNG.cons q)) = some d → s.owned q d (s.get (RNG.cons q)) = true →
    State.fetchLoop (n + 1) s q p l = State.fetchLoop n (s.dispatch q (s.get (RNG.cons q)) d) q p (l.drop 1)) ∧
  (∀ (s : State) (q : Nat) (n p : Nat) (l : List Desc), s.get (RNG.cons q) = p ∨ s.fetchLimited q = true →
    State.fetchLoop (n + 1) s q p l = (s, l))

/-- TSTREAM_START sets the stream's ring, interval and selection, begins its record count at zero and makes it active,
or answers BAD_DESC for a selection outside the layout; TSTREAM_STOP makes it inactive. CAL_REQ SWEEP and TXPASS wait
while calibration is suspended, are answered OK with the lanes skipped where none is ACTIVE, and otherwise begin, a
lane-end already held beyond the limit timing its SWEEP out at once. CAL_REQ FULL and LANE_SWAP RETRAIN and SWAP queue
the task of the sparing logic where the port is CFL, of a personality other than T, so in F or G mode, enabled and its
segment in UP, and are answered PRECONDITION elsewhere; LANE_SWAP SWAP also where the lane is in no position or the group is disabled; SWAP of
an Ethernet port's lane moves it and retrains the port's segment where that is up or training and a position is left,
and is answered PRECONDITION elsewhere. RESTORE queues its task where lanes can train; elsewhere it clears the side's
channel marks and is answered OK. A started stream of a worker notes the ring that its records go to. -/
def Obligations.LaneAndStreamDescriptors : Prop :=
  (∀ (s : State) (q : RingN) (i : BitVec 16) (f : Flight) (n : Fin 16), s.starts q i.toNat 0x08 none = some f →
    dTarget f.desc = 0 → (s.safe && safeRefuses f.desc) = false → dField f.desc 8 1 = n.val → selectOk (dField f.desc
    16 8) = true → dField f.desc 9 1 < 64 → dField f.desc 12 4 < 65536 → ∃ t, exec (.tstreamStart q i) s = .next t ∧
    t.answerOf q i.toNat = some (0, 0) ∧ t.on (ECL.sActive n) = true ∧ t.get (ECL.sCq n) = dField f.desc 9 1 ∧ t.get
    (ECL.sInt n) = dField f.desc 12 4 ∧ t.reg (ECL.rseq n) = 0 ∧ (t.reg (ECL.sSel n 0)).toNat = dField f.desc 16 4 ∧
    (t.reg (ECL.sSel n 1)).toNat = dField f.desc 20 4 ∧ (t.strm n).t0 = s.counter ECL.time ∧ t =
    { s with regs := t.regs, rings := t.rings, streams := t.streams } ∧ (∀ a, a ∉ [ECL.stream n, ECL.stream n + 4,
    ECL.stream n + 8, ECL.stream n + 0xC, ECL.stream n + 0x10] → t.reg a = s.reg a)) ∧
  (∀ (s : State) (q : RingN) (i : BitVec 16) (f : Flight), s.starts q i.toNat 0x08 none = some f → dTarget f.desc = 0
    → (s.safe && safeRefuses f.desc) = false → selectOk (dField f.desc 16 8) = false → ∃ t, exec (.tstreamStart q i)
    s = .next t ∧ t.answerOf q i.toNat = some (1, 0) ∧ t = { s with rings := t.rings }) ∧
  (∀ (s : State) (q : RingN) (i : BitVec 16) (f : Flight), s.starts q i.toNat 0x08 none = some f → dTarget f.desc ≠ 0
    → s.on ORB.conflict = false → s.orbPaused = false → ∃ t, exec (.tstreamStart q i) s = .next t ∧ t =
    { s with teleCq := Sparse.set 0 s.teleCq (16 * dTarget f.desc + dField f.desc 8 1) (dField f.desc 9 1) }.sendReq
    q i.toNat (dTarget f.desc) 0x04 (opPayload f.desc) []) ∧
  (∀ (s : State) (q : RingN) (i : BitVec 16) (f : Flight) (n : Fin 16), s.starts q i.toNat 0x09 none = some f →
    dTarget f.desc = 0 → (s.safe && safeRefuses f.desc) = false → dField f.desc 8 1 = n.val → ∃ t, exec (.tstreamStop
    q i) s = .next t ∧ t.answerOf q i.toNat = some (0, 0) ∧ t.on (ECL.sActive n) = false ∧ t =
    { s with regs := t.regs, rings := t.rings } ∧ (∀ a, a ≠ ECL.stream n → t.reg a = s.reg a)) ∧
  (∀ (s : State) (q : RingN) (i : BitVec 16) (f : Flight), s.starts q i.toNat 0x0A (some 0) = some f → dTarget f.desc
    = 0 → (s.safe && safeRefuses f.desc) = false → s.calSuspended = true → ∃ t, exec (.calSweep q i) s = .next t ∧
    t.calReqs = s.calReqs ++ [⟨.ring q i.toNat, false, (setBits 68 (dField f.desc 16 9)).filter (fun k => s.rxActive
    k), ((setBits 68 (dField f.desc 16 9)).filter (fun k => !s.rxActive k)).foldl (fun a k => a + 2 ^ k) 0, false⟩] ∧
    t = { s with rings := t.rings, calReqs := t.calReqs } ∧ t.answerOf q i.toNat = none) ∧
  (∀ (s : State) (q : RingN) (i : BitVec 16) (f : Flight), s.starts q i.toNat 0x0A (some 0) = some f → dTarget f.desc
    = 0 → (s.safe && safeRefuses f.desc) = false → s.calSuspended = false → (setBits 68 (dField f.desc 16 9)).filter
    (fun k => s.rxActive k) = [] → ∃ t, exec (.calSweep q i) s = .next t ∧ t.answerOf q i.toNat = some (0, (setBits
    68 (dField f.desc 16 9)).foldl (fun a k => a + 2 ^ k) 0) ∧ t = { s with rings := t.rings }) ∧
  (∀ (s : State) (q : RingN) (i : BitVec 16) (f : Flight) (n : Fin 68), s.starts q i.toNat 0x0A (some 0) = some f →
    dTarget f.desc = 0 → (s.safe && safeRefuses f.desc) = false → s.calSuspended = false → setBits 68 (dField f.desc
    16 9) = [n.val] → s.rxActive n = true → (s.rxe n).holdDone = false → ∃ t, exec (.calSweep q i) s = .next t ∧ t =
    (({ (s.started q i.toNat) with calReqs := s.calReqs ++ [(⟨.ring q i.toNat, false, [n.val], 0, true⟩ : CalReq)]
    }).sweepRxStart
    n)) ∧
  (∀ (s : State) (q : RingN) (i : BitVec 16) (f : Flight) (n : Fin 68), s.starts q i.toNat 0x0A (some 0) = some f →
    dTarget f.desc = 0 → (s.safe && safeRefuses f.desc) = false → s.calSuspended = false →
    setBits 68 (dField f.desc 16 9) = [n.val] → s.rxActive n = true → (s.rxe n).holdDone = true →
    exec (.calSweep q i) s = .next ((({ (s.started q i.toNat) with calReqs := s.calReqs ++
      [(⟨.ring q i.toNat, false, [n.val], 0, true⟩ : CalReq)] }).sweepRxStart n).calTimedOut false n)) ∧
  (∀ (s : State) (q : RingN) (i : BitVec 16) (f : Flight), s.starts q i.toNat 0x0A (some 1) = some f → dTarget f.desc
    = 0 → (s.safe && safeRefuses f.desc) = false → s.calSuspended = true → ∃ t, exec (.calTxpass q i) s = .next t ∧
    t.calReqs = s.calReqs ++ [⟨.ring q i.toNat, true, (setBits 68 (dField f.desc 16 9)).filter (fun k => s.txActive
    k), ((setBits 68 (dField f.desc 16 9)).filter (fun k => !s.txActive k)).foldl (fun a k => a + 2 ^ k) 0, false⟩] ∧
    t = { s with rings := t.rings, calReqs := t.calReqs } ∧ t.answerOf q i.toNat = none) ∧
  (∀ (s : State) (q : RingN) (i : BitVec 16) (f : Flight), s.starts q i.toNat 0x0A (some 1) = some f → dTarget f.desc
    = 0 → (s.safe && safeRefuses f.desc) = false → s.calSuspended = false → (setBits 68 (dField f.desc 16 9)).filter
    (fun k => s.txActive k) = [] → ∃ t, exec (.calTxpass q i) s = .next t ∧ t.answerOf q i.toNat = some (0, (setBits
    68 (dField f.desc 16 9)).foldl (fun a k => a + 2 ^ k) 0) ∧ t = { s with rings := t.rings }) ∧
  (∀ (s : State) (q : RingN) (i : BitVec 16) (f : Flight) (n : Fin 68), s.starts q i.toNat 0x0A (some 1) = some f →
    dTarget f.desc = 0 → (s.safe && safeRefuses f.desc) = false → s.calSuspended = false → setBits 68 (dField f.desc
    16 9) = [n.val] → s.txActive n = true → ∃ t, exec (.calTxpass q i) s = .next t ∧ t =
    (({ (s.started q i.toNat) with calReqs := s.calReqs ++ [(⟨.ring q i.toNat, true, [n.val], 0, true⟩ : CalReq)]
    }).passAsked n)) ∧
  (∀ (s : State) (q : RingN) (i : BitVec 16) (f : Flight) (g : Port) (sd : Fin 2), s.starts q i.toNat 0x0A (some 2) =
    some f → dTarget f.desc = 0 → (s.safe && safeRefuses f.desc) = false → dField f.desc 10 1 = g.val → dField f.desc
    9 1 = sd.val → s.movable g sd = true → ∃ u : State, exec (.calFull q i) s = .next (u.goOn) ∧ (u.port g).jobs =
    (s.port g).jobs ++ [{ Job.blank .full sd (dField f.desc 11 1) with owner := .ring q i.toNat }] ∧ u.answerOf q
    i.toNat = none ∧ u = { s with rings := u.rings, ports := u.ports }) ∧
  (∀ (s : State) (q : RingN) (i : BitVec 16) (f : Flight), s.starts q i.toNat 0x0A (some 2) = some f → dTarget f.desc
    = 0 → (s.safe && safeRefuses f.desc) = false → s.movable (dField f.desc 10 1) (dField f.desc 9 1) = false → ∃ t,
    exec (.calFull q i) s = .next t ∧ t.answerOf q i.toNat = some (7, 0) ∧ t = { s with rings := t.rings }) ∧
  (∀ (s : State) (q : RingN) (i : BitVec 16) (f : Flight) (g : Port) (sd : Fin 2), s.starts q i.toNat 0x0C (some 1) =
    some f → dTarget f.desc = 0 → (s.safe && safeRefuses f.desc) = false → dField f.desc 10 1 = g.val → dField f.desc
    9 1 = sd.val → s.movable g sd = true → ∃ u : State, exec (.laneSwapRetrain q i) s = .next (u.goOn) ∧ (u.port
    g).jobs = (s.port g).jobs ++ [{ Job.blank .retrain sd (dField f.desc 11 1) with owner := .ring q i.toNat }] ∧
    u.answerOf q i.toNat = none ∧ u = { s with rings := u.rings, ports := u.ports }) ∧
  (∀ (s : State) (q : RingN) (i : BitVec 16) (f : Flight), s.starts q i.toNat 0x0C (some 1) = some f → dTarget f.desc
    = 0 → (s.safe && safeRefuses f.desc) = false → s.movable (dField f.desc 10 1) (dField f.desc 9 1) = false → ∃ t,
    exec (.laneSwapRetrain q i) s = .next t ∧ t.answerOf q i.toNat = some (7, 0) ∧ t = { s with rings := t.rings }) ∧
  (∀ (s : State) (q : RingN) (i : BitVec 16) (f : Flight) (g : Port) (sd : Fin 2), s.starts q i.toNat 0x0C (some 0) =
    some f → dTarget f.desc = 0 → (s.safe && safeRefuses f.desc) = false → dField f.desc 10 1 = g.val → dField f.desc
    9 1 = sd.val → s.movable g sd = true → (s.lanePos g sd (dField f.desc 11 1)).isSome = true → ∃ u : State, exec
    (.laneSwapSwap q i) s = .next (u.goOn) ∧ (u.port g).jobs = (s.port g).jobs ++
    [{ Job.blank .move sd (dField f.desc 11 1) with toPos := dField f.desc 12 1, owner := .ring q i.toNat }] ∧
    u.answerOf q i.toNat = none ∧ u = { s with rings := u.rings, ports := u.ports }) ∧
  (∀ (s : State) (q : RingN) (i : BitVec 16) (f : Flight), s.starts q i.toNat 0x0C (some 0) = some f → dTarget f.desc
    = 0 → (s.safe && safeRefuses f.desc) = false → (s.lanePos (dField f.desc 10 1) (dField f.desc 9 1) (dField f.desc
    11 1)).isNone = true ∨ s.on (GLB.en (dField f.desc 10 1)) = false ∨ (s.cfl (dField f.desc 10 1) && !s.movable
    (dField f.desc 10 1) (dField f.desc 9 1)) = true → ∃ t, exec (.laneSwapSwap q i) s = .next t ∧ t.answerOf q
    i.toNat = some (7, 0) ∧ t = { s with rings := t.rings }) ∧
  (∀ (s : State) (q : RingN) (i : BitVec 16) (f : Flight) (g : Port) (sd : Fin 2), s.starts q i.toNat 0x0C (some 2) =
    some f → dTarget f.desc = 0 → (s.safe && safeRefuses f.desc) = false → dField f.desc 10 1 = g.val → dField f.desc
    9 1 = sd.val → s.movable g sd = true → ∃ u : State, exec (.laneSwapRestore q i) s = .next (u.goOn) ∧ (u.port
    g).jobs = (s.port g).jobs ++ [{ Job.blank .restore sd 0 with owner := .ring q i.toNat }] ∧ u.answerOf q i.toNat =
    none ∧ u = { s with rings := u.rings, ports := u.ports }) ∧
  (∀ (s : State) (q : RingN) (i : BitVec 16) (f : Flight) (g : Port) (sd : Fin 2), s.starts q i.toNat 0x0C (some 2) =
    some f → dTarget f.desc = 0 → (s.safe && safeRefuses f.desc) = false → dField f.desc 10 1 = g.val → dField f.desc
    9 1 = sd.val → s.movable g sd = false → ∃ u : State, exec (.laneSwapRestore q i) s = .next
    ((u.settleSpares.goOn.answerFlight q i.toNat 0 0 0)) ∧ (∀ b : Fin 8, (s.port g).channel.testBit (8 * sd.val +
    b.val) = true → u.on (GLB.failed g sd b) = false) ∧ (∀ b : Fin 8, (u.port g).channel.testBit (8 * sd.val + b.val)
    = false)) ∧
  (∀ (s : State) (q : RingN) (i : BitVec 16) (f : Flight) (g : Port) (sd : Fin 2) (n p : Nat),
    s.starts q i.toNat 0x0C (some 0) = some f → dTarget f.desc = 0 → (s.safe && safeRefuses f.desc) = false →
    dField f.desc 10 1 = g.val → dField f.desc 9 1 = sd.val → dField f.desc 11 1 = n → s.cfl g = false →
    s.on (GLB.en g) = true → (s.lanePos g sd n).isSome = true →
    s.moveTarget g { Job.blank .move sd n with toPos := dField f.desc 12 1 } = some p →
    isUpOrTraining (s.segState g sd (s.portOfLane g n)) = true →
    exec (.laneSwapSwap q i) s = .next ((s.started q i.toNat).swapEthernet (.ring q i.toNat) g sd n p)) ∧
  (∀ (s : State) (q : RingN) (i : BitVec 16) (f : Flight) (g : Port) (sd : Fin 2) (n : Nat),
    s.starts q i.toNat 0x0C (some 0) = some f → dTarget f.desc = 0 → (s.safe && safeRefuses f.desc) = false →
    dField f.desc 10 1 = g.val → dField f.desc 9 1 = sd.val → dField f.desc 11 1 = n → s.cfl g = false →
    s.moveTarget g { Job.blank .move sd n with toPos := dField f.desc 12 1 } = none ∨
      isUpOrTraining (s.segState g sd (s.portOfLane g n)) = false → ∃ t,
    exec (.laneSwapSwap q i) s = .next t ∧ t.answerOf q i.toNat = some (7, 0) ∧ t = { s with rings := t.rings })

/-- BIST_RUN is accepted where no list runs and every slice meets its precondition, answered PRECONDITION where one does
not, and waits behind a list. KEY_LOAD of a slot that is not the current TXSLOT of a port that is up sets the key,
with epoch zero, valid, and answers the key check value; the slot in use answers PRECONDITION. FW_LOAD WRITE begins
by erasing the slot that is not active, waits behind another load, and is PRECONDITION while an image is on trial;
its image is read from SRC as the command goes to its target, with what the unit has itself written there, and is as
long as LENGTH, or the command is no command; to a worker it goes out as an OP frame. ACTIVATE is PRECONDITION where the other slot is not valid, and
otherwise names it, on trial, and restarts the core. FAULT_CLEAR of a source whose cause is gone clears its status,
wire and grace; of the record clears it and the history and re-arms the pulse; of the safe state leaves it. Each is
refused with PRECONDITION, an event and a history entry where it may not act. That the bytes of an image are an
operand, and that one of another length is no command, is the model's form (log entries 4 and 36). -/
def Obligations.TestKeyFirmwareAndFaultDescriptors : Prop :=
  (∀ (s : State) (q : RingN) (i : BitVec 16) (f : Flight), s.starts q i.toNat 0x0B none = some f → dTarget f.desc = 0
    → (s.safe && safeRefuses f.desc) = false → s.bist ≠ [] → ∃ t, exec (.bistRun q i) s = .next t ∧ t.bist = s.bist
    ++ [⟨.ring q i.toNat, false, dSlices f.desc, dField f.desc 8 8, q, i.toNat, 0, .waiting, 0, 0, 0, 0, 0, 0⟩] ∧
    t.answerOf q i.toNat = none ∧ t = { s with rings := t.rings, bist := t.bist }) ∧
  (∀ (s : State) (q : RingN) (i : BitVec 16) (f : Flight), s.starts q i.toNat 0x0B none = some f → dTarget f.desc = 0
    → (s.safe && safeRefuses f.desc) = false → s.bist = [] → (dSlices f.desc).all s.slicePre = true → dField f.desc
    16 1 ≠ 0 → (dSlices f.desc).all (fun x => decide (x.kind < 8)) = true → ∃ t, exec (.bistRun q i) s = .next t ∧
    t.bist = [⟨.ring q i.toNat,
    true, dSlices f.desc, dField f.desc 8 8, q, i.toNat, 0, .waiting, 0, 0, 0, 0, 0, 0⟩] ∧ t.on BST.busy = true ∧
    t.get BST.index = 0 ∧ some (t.get BST.kind) = ((dSlices f.desc)[0]?).map (fun x => x.kind) ∧ t.answerOf q i.toNat
    = none ∧ t = { s with regs := t.regs, rings := t.rings, bist := t.bist } ∧ (∀ a, a ≠ 0x70000 → t.reg a = s.reg
    a)) ∧
  (∀ (s : State) (q : RingN) (i : BitVec 16) (f : Flight), s.starts q i.toNat 0x0B none = some f → dTarget f.desc = 0
    → (s.safe && safeRefuses f.desc) = false → s.bist = [] → (dSlices f.desc).all s.slicePre = false → ∃ t, exec
    (.bistRun q i) s = .next t ∧ t.answerOf q i.toNat = some (7, 0) ∧ t = { s with rings := t.rings }) ∧
  (∀ (s : State) (q : RingN) (i : BitVec 16) (f : Flight) (g : Port) (sd slot : Fin 2) (e : Fin 2), s.starts q
    i.toNat 0x0E none = some f → dTarget f.desc = 0 → dField f.desc 8 1 = g.val → dField f.desc 9 1 = sd.val → dField
    f.desc 10 1 = slot.val → s.keyInUse g sd slot = false → ∃ t, exec (.keyLoad q i) s = .next t ∧ t.answerOf q
    i.toNat = some (0, keyCheck (dKey f.desc)) ∧ t.key (keyIdx sd slot g) = ⟨dKey f.desc, 0, true⟩ ∧ t.on
    (DIR.keyValid e g (if outEngine sd = e then 1 else 0) slot) = true ∧ t.get (DIR.kcv e g (if outEngine sd = e then
    1 else 0) slot) = keyCheck (dKey f.desc) % 65536 ∧ t =
    { s with regs := t.regs, rings := t.rings, keys := t.keys } ∧ (∀ a, a ∉ [DIR.g 0 g + 8, DIR.g 1 g + 8, DIR.g 0 g
    + 0xC, DIR.g 0 g + 0x10, DIR.g 1 g + 0xC, DIR.g 1 g + 0x10] → t.reg a = s.reg a)) ∧
  (∀ (s : State) (q : RingN) (i : BitVec 16) (f : Flight), s.starts q i.toNat 0x0E none = some f → dTarget f.desc = 0
    → s.keyInUse (dField f.desc 8 1) (dField f.desc 9 1) (dField f.desc 10 1) = true → ∃ t, exec (.keyLoad q i) s =
    .next t ∧ t.answerOf q i.toNat = some (7, 0) ∧ t = { s with rings := t.rings }) ∧
  (∀ (s : State) (q : RingN) (i : BitVec 16) (f : Flight) (l : List Byte), s.starts q i.toNat 0x0F (some 0) = some f
    → dTarget f.desc = 0 → (s.safe && safeRefuses f.desc) = false → s.core.loads ≠ [] → l.length = dField f.desc 12 4
    → l.length ≤ 524288 → ∃ t, exec (.fwLoadWrite q i l) s = .next t ∧ t.core.loads = s.core.loads ++ [⟨.ring q
    i.toNat, false, l.length, s.seenBytes (dField f.desc 16 8) l, 0, 0⟩] ∧ t.answerOf q i.toNat = none ∧ Out.hostRead (dField f.desc 16 8) (dField
    f.desc 12 4) ∈ t.out ∧ t = { s with rings := t.rings, out := t.out, core := { s.core with loads := t.core.loads }
    }) ∧
  (∀ (s : State) (q : RingN) (i : BitVec 16) (f : Flight) (l : List Byte), s.starts q i.toNat 0x0F (some 0) = some f
    → dTarget f.desc = 0 → (s.safe && safeRefuses f.desc) = false → s.core.loads = [] → s.flash.trial = false →
    s.flash.active ≤ 1 → s.flash.valid ≤ 3 → l.length = dField f.desc 12 4 → l.length ≤ 524288 → ∃ t, exec
    (.fwLoadWrite q i l) s = .next t ∧ t.core.loads = [⟨.ring q i.toNat, false, l.length,
    s.seenBytes (dField f.desc 16 8) l, 0, 0⟩] ∧
    t.flash.valid.testBit (1 - s.flash.active) = false ∧ t.flash.valid.testBit s.flash.active = s.flash.valid.testBit
    s.flash.active ∧ t.answerOf q i.toNat = none ∧ Out.hostRead (dField f.desc 16 8) (dField f.desc 12 4) ∈ t.out ∧ t =
    { s with regs := t.regs, rings := t.rings, out := t.out, core := { s.core with loads := t.core.loads }, flash := {
    s.flash with valid := t.flash.valid } }) ∧
  (∀ (s : State) (q : RingN) (i : BitVec 16) (f : Flight) (l : List Byte), s.starts q i.toNat 0x0F (some 0) = some f
    → dTarget f.desc = 0 → (s.safe && safeRefuses f.desc) = false → s.core.loads = [] → s.flash.trial = true →
    l.length = dField f.desc 12 4 → l.length ≤ 524288 → ∃ t, exec (.fwLoadWrite q i l) s = .next t ∧ Out.hostRead
    (dField f.desc 16 8) (dField f.desc 12 4) ∈ t.out ∧ t.answerOf q i.toNat = some (7, 0) ∧
    t = { s with rings := t.rings, out := t.out }) ∧
  (∀ (s : State) (q : RingN) (i : BitVec 16) (f : Flight) (l : List Byte), s.starts q i.toNat 0x0F (some 0) = some f
    → dTarget f.desc ≠ 0 → s.on ORB.conflict = false → s.orbPaused = false → (s.freeTag (dTarget f.desc)).isSome = true
    → l.length = dField f.desc 12 4 → l.length
    ≤ 524288 → ∃ t, exec (.fwLoadWrite q i l) s = .next t ∧ t = (s.hostRead (dField f.desc 16 8) (dField f.desc 12
    4)).sendReq q i.toNat (dTarget f.desc) 0x04 (opPayload
    f.desc) (s.seenBytes (dField f.desc 16 8) l)) ∧
  (∀ (s : State) (q : RingN) (i : BitVec 16) (f : Flight) (l : List Byte), s.starts q i.toNat 0x0F (some 0) = some f →
    l.length ≠ dField f.desc 12 4 → exec (.fwLoadWrite q i l) s = .fault .illFormed) ∧
  (∀ (s : State) (q : RingN) (i : BitVec 16) (f : Flight), s.starts q i.toNat 0x0F (some 1) = some f → dTarget f.desc
    = 0 → (s.safe && safeRefuses f.desc) = false → s.core.loads = [] → s.flash.valid.testBit (1 - s.flash.active) =
    false → ∃ t, exec (.fwLoadActivate q i) s = .next t ∧ t.answerOf q i.toNat = some (7, 0) ∧ t =
    { s with rings := t.rings }) ∧
  (∀ (s : State) (q : RingN) (i : BitVec 16) (f : Flight), s.starts q i.toNat 0x0F (some 1) = some f → dTarget f.desc
    = 0 → (s.safe && safeRefuses f.desc) = false → s.core.loads = [] → s.flash.valid.testBit (1 - s.flash.active) =
    true → ∃ u : State, exec (.fwLoadActivate q i) s = .next ((u.coreReset 8).updCore (fun c =>
    { c with loads := [⟨.ring q i.toNat, true, 0, [], 0, 1 - s.flash.active⟩] })) ∧ u.flash.valid = s.flash.valid ∧
    u.answerOf q i.toNat = none) ∧
  (∀ (s : State) (q : RingN) (i : BitVec 16) (f : Flight) (n : Source), s.starts q i.toNat 0x10 (some 0) = some f →
    dTarget f.desc = 0 → dField f.desc 10 2 = n.val → s.on (FLT.live n) = false → ∃ t, exec (.faultClearSource q i) s
    = .next t ∧ t.answerOf q i.toNat = some (0, 0) ∧ t.on (FLT.status n) = false ∧ t.on (FLT.wire n) = false ∧
    t.grace.testBit n = false ∧ t = { s with regs := t.regs, rings := t.rings, grace := t.grace } ∧ (∀ a, a ∉
    [(FLT.status n).addr, (FLT.wire n).addr] → t.reg a = s.reg a)) ∧
  (∀ (s : State) (q : RingN) (i : BitVec 16) (f : Flight) (n : Source), s.starts q i.toNat 0x10 (some 0) = some f →
    dTarget f.desc = 0 → dField f.desc 10 2 = n.val → s.on (FLT.live n) = true → ∃ t, exec (.faultClearSource q i) s
    = .next t ∧ t.answerOf q i.toNat = some (7, 0) ∧ (t.reg FLT.event).getLsbD 6 = true ∧ t.reg FLT.histSeq = s.reg
    FLT.histSeq + 1 ∧ Framed id [FLT.hist ((s.reg FLT.histSeq).toNat % 16) 0, FLT.hist ((s.reg FLT.histSeq).toNat %
    16) 1, FLT.hist ((s.reg FLT.histSeq).toNat % 16) 2, FLT.hist ((s.reg FLT.histSeq).toNat % 16) 3, FLT.histSeq,
    FLT.event] s t) ∧
  (∀ (s : State) (q : RingN) (i : BitVec 16) (f : Flight) (k : Fin 64), s.starts q i.toNat 0x10 (some 1) = some f →
    dTarget f.desc = 0 → ∃ t, exec (.faultClearRecord q i) s = .next t ∧ t.answerOf q i.toNat = some (0, 0) ∧ t.reg
    FLT.first = 0 ∧ t.reg FLT.firstEpoch = 0 ∧ t.counter FLT.firstTime = 0 ∧ t.reg (FLT.hist 0 k) = 0 ∧ t.on
    FLT.pulseArmed = true ∧ t = { s with regs := t.regs, rings := t.rings } ∧ (∀ a, a / 0x400 ≠ 0x42 → a ∉
    [FLT.first, FLT.firstEpoch, FLT.firstTime, FLT.firstTime + 4, 0x10004] → t.reg a = s.reg a)) ∧
  (∀ (s : State) (q : RingN) (i : BitVec 16) (f : Flight), s.starts q i.toNat 0x10 (some 2) = some f → dTarget f.desc
    = 0 → s.safe = false ∨ s.blockers ≠ [] → ∃ t, exec (.faultClearSafe q i) s = .next t ∧ t.answerOf q i.toNat =
    some (7, 0) ∧ t.safe = s.safe ∧ (t.reg FLT.event).getLsbD 6 = true ∧ t.reg FLT.histSeq = s.reg FLT.histSeq + 1 ∧
    Framed id [FLT.hist ((s.reg FLT.histSeq).toNat % 16) 0, FLT.hist ((s.reg FLT.histSeq).toNat % 16) 1, FLT.hist
    ((s.reg FLT.histSeq).toNat % 16) 2, FLT.hist ((s.reg FLT.histSeq).toNat % 16) 3, FLT.histSeq, FLT.event] s t) ∧
  (∀ (s : State) (q : RingN) (i : BitVec 16) (f : Flight), s.starts q i.toNat 0x10 (some 2) = some f → dTarget f.desc
    = 0 → s.safe = true → s.blockers = [] → ∃ u : State, exec (.faultClearSafe q i) s = .next (((((u.coreReset
    stSafeState).jobsRun).settlePower).settleCauses).answerFlight q i.toNat 0 0 0) ∧ u.safe = false ∧ u.flt.taken = 0
    ∧ (u.reg FLT.event).getLsbD 3 = true ∧ u.flt.low = (s.on FLT.pulseBusy || s.on FLT.hold))

/-- At the manager (TARGET 0): QUENCH of a PID with an entry sets that entry's QUENCH; without one it takes the lowest
invalid entry, with the PID, the default accounting group, AUTO and QUENCH; without an invalid entry it changes
nothing but the event TABLE_FULL and PRT_FAIL, and is answered TABLE_FULL. UNQUENCH clears QUENCH, an entry with
AUTO becomes invalid, and a PID without an entry needs no action. RQUENCH sets the range register, so that every PID
of its range is quenched, with LO = HI = PID just that one, whatever the table holds; RUNQUENCH clears EN. QUENCH
and RQUENCH add one to the generation, the others leave it. TARGET 0xFF applies the command here and sends the
sequence with this unit's part counted; a worker's address sends it alone, or is answered NO_UNIT once a second
manager has been seen. A worker that the sequence names applies it on arrival and passes it on with its part
counted: a refusal leaves the unit unchanged but for TABLE_FULL and PRT_FAIL. A sequence for another unit, or one
with a bad check character, is passed on as it came. NO_UNIT with a second manager is the model's reading (log entry
37). -/
def Obligations.QuenchCommands : Prop :=
  (∀ (s : State) (q : RingN) (i : BitVec 16) (f : Flight) (k : Nat), s.starts q i.toNat 0x0D (some 0) = some f →
    dTarget f.desc = 0 → s.entryOf (dField f.desc 12 2) = some k → ∃ t, exec (.quench q i) s = .next t ∧ t.answerOf q
    i.toNat = some (0, 0) ∧ t.on (PRT.quenched k) = true ∧ t.get PRT.qgen = (s.get PRT.qgen + 1) % 65536 ∧ Framed id
    ([PRT.entryHi k, 0xA8004, 0xA800C, PRT.event, DIR.event 0, DIR.event 1] ++ (List.range 8).map (fun n => DIR.g (n
    / 4) (n % 4) + 0x24)) s t) ∧
  (∀ (s : State) (q : RingN) (i : BitVec 16) (f : Flight) (k : Nat), s.starts q i.toNat 0x0D (some 0) = some f →
    dTarget f.desc = 0 → s.entryOf (dField f.desc 12 2) = none → s.freeEntry = some k → ∃ t, exec (.quench q i) s =
    .next t ∧ t.answerOf q i.toNat = some (0, 0) ∧ t.get (PRT.pid k) = dField f.desc 12 2 ∧ t.get (PRT.agroup k) =
    s.get PRT.defaultAg ∧ t.on (PRT.valid k) = true ∧ t.on (PRT.auto k) = true ∧ t.on (PRT.quenched k) = true ∧ t.get
    PRT.qgen = (s.get PRT.qgen + 1) % 65536 ∧ Framed id ([PRT.entryLo k, PRT.entryHi k, 0xA8004, 0xA800C, PRT.event,
    DIR.event 0, DIR.event 1] ++ (List.range 8).map (fun n => DIR.g (n / 4) (n % 4) + 0x24)) s t) ∧
  (∀ (s : State) (q : RingN) (i : BitVec 16) (f : Flight), s.starts q i.toNat 0x0D (some 0) = some f → dTarget f.desc
    = 0 → s.entryOf (dField f.desc 12 2) = none → s.freeEntry = none → ∃ t, exec (.quench q i) s = .next t ∧
    t.answerOf q i.toNat = some (0x0A, 0) ∧ t.get PRT.failPid = dField f.desc 12 2 ∧ t.on PRT.failValid = true ∧
    (t.reg PRT.event).getLsbD 0 = true ∧ Framed id [PRT.event, 0xA8008] s t) ∧
  (∀ (s : State) (q : RingN) (i : BitVec 16) (f : Flight) (k : Nat), s.starts q i.toNat 0x0D (some 1) = some f →
    dTarget f.desc = 0 → s.entryOf (dField f.desc 12 2) = some k → ∃ t, exec (.unquench q i) s = .next t ∧ t.answerOf
    q i.toNat = some (0, 0) ∧ t.on (PRT.quenched k) = false ∧ t.on (PRT.valid k) = !s.on (PRT.auto k) ∧ t.on
    (PRT.auto k) = false ∧ t.get PRT.qgen = s.get PRT.qgen ∧ t = { s with regs := t.regs, rings := t.rings } ∧ (∀ a,
    a ∉ [PRT.entryLo k, PRT.entryHi k, 0xA8004] → t.reg a = s.reg a)) ∧
  (∀ (s : State) (q : RingN) (i : BitVec 16) (f : Flight), s.starts q i.toNat 0x0D (some 1) = some f → dTarget f.desc
    = 0 → s.entryOf (dField f.desc 12 2) = none → ∃ t, exec (.unquench q i) s = .next t ∧ t.answerOf q i.toNat = some
    (0, 0) ∧ t = { s with rings := t.rings }) ∧
  (∀ (s : State) (q : RingN) (i : BitVec 16) (f : Flight) (n : Fin 16), s.starts q i.toNat 0x0D (some 2) = some f →
    dTarget f.desc = 0 → dField f.desc 9 1 = n.val → ∃ t, exec (.rquench q i) s = .next t ∧ t.answerOf q i.toNat =
    some (0, 0) ∧ t.get (PRT.rLo n) = dField f.desc 12 2 ∧ t.get (PRT.rHi n) = dField f.desc 14 2 ∧ t.on (PRT.rEn n)
    = true ∧ (∀ p, dField f.desc 12 2 ≤ p → p ≤ dField f.desc 14 2 → t.pidQuenched p = true) ∧ t.get PRT.qgen =
    (s.get PRT.qgen + 1) % 65536 ∧ Framed id ([PRT.rangeLo n, PRT.rangeLo n + 4, 0xA8004, 0xA800C, PRT.event,
    DIR.event 0, DIR.event 1] ++ (List.range 8).map (fun n => DIR.g (n / 4) (n % 4) + 0x24)) s t) ∧
  (∀ (s : State) (q : RingN) (i : BitVec 16) (f : Flight) (n : Fin 16), s.starts q i.toNat 0x0D (some 3) = some f →
    dTarget f.desc = 0 → dField f.desc 9 1 = n.val → ∃ t, exec (.runquench q i) s = .next t ∧ t.answerOf q i.toNat =
    some (0, 0) ∧ t.on (PRT.rEn n) = false ∧ t.get PRT.qgen = s.get PRT.qgen ∧ t =
    { s with regs := t.regs, rings := t.rings } ∧ (∀ a, a ∉ [PRT.rangeLo n + 4, 0xA8004] → t.reg a = s.reg a)) ∧
  (∀ (s : State) (q : RingN) (i : BitVec 16) (f : Flight) (c : Instr) (op : Nat), (c, op) ∈ [(.quench q i, 0),
    (.unquench q i, 1), (.rquench q i, 2), (.runquench q i, 3)] → s.starts q i.toNat 0x0D (some op) = some f →
    dTarget f.desc = 0xFF → ∃ t, exec c s = .next t ∧ t = ((s.started q i.toNat).quenchHere f.desc).1.priStart 0
    (quenchData f.desc) (some ((s.started q i.toNat).quenchHere f.desc).2) (.ring q i.toNat)) ∧
  (∀ (s : State) (q : RingN) (i : BitVec 16) (f : Flight) (c : Instr) (op : Nat), (c, op) ∈ [(.quench q i, 0),
    (.unquench q i, 1), (.rquench q i, 2), (.runquench q i, 3)] → s.starts q i.toNat 0x0D (some op) = some f →
    dTarget f.desc ≠ 0 → dTarget f.desc ≠ 0xFF → s.on ORB.conflict = false → s.orbUp = true → ∃ t, exec c s = .next t ∧ t.out = s.out
    ++ s.castPorts.map (fun o => .priority o 0 (priOf (quenchData f.desc) none)) ∧ t.orbit.pris = s.orbit.pris ++
    [⟨0, 0, quenchData f.desc, s.castPorts, none, s.orbit.gen, 0, 0, 0, 0, .ring q i.toNat⟩] ∧ t =
    { s with rings := t.rings, out := t.out, orbit := { s.orbit with pris := t.orbit.pris } } ∧ t.answerOf q i.toNat
    = none) ∧
  (∀ (s : State) (q : RingN) (i : BitVec 16) (f : Flight) (c : Instr) (op : Nat), (c, op) ∈ [(.quench q i, 0),
    (.unquench q i, 1), (.rquench q i, 2), (.runquench q i, 3)] → s.starts q i.toNat 0x0D (some op) = some f →
    dTarget f.desc ≠ 0 → dTarget f.desc ≠ 0xFF → s.on ORB.conflict = true → ∃ t, exec c s = .next t ∧ t.answerOf q
    i.toNat = some (3, 0) ∧ t = { s with rings := t.rings }) ∧
  (∀ (s : State) (p : OrbPort) (sq : PriSeq) (tg ob : Byte) (lo hi : BitVec 16), s.workerHears p = true →
    p = s.outboundIn → priGood 0
    sq = true → sq.data = [tg, ob, lo.truncate 8, (lo >>> 8).truncate 8, hi.truncate 8, (hi >>> 8).truncate 8] →
    s.named tg.toNat = true → (s.applyQuench (ob.toNat % 4) lo.toNat (ob.toNat / 16) lo.toNat hi.toNat).2 = true →
    s.drives (s.outPort p) = true → ∃ t, exec (.quenchSeqReceived p sq) s = .next t ∧ t = (s.applyQuench (ob.toNat %
    4) lo.toNat (ob.toNat / 16) lo.toNat hi.toNat).1.emit (.priority (s.outPort p) 0
    { sq with applied := sq.applied + 1 }) ∧ (ob.toNat % 4 = 2 → t.pidQuenched lo.toNat = decide (lo.toNat ≤
    hi.toNat) ∨ s.pidQuenched lo.toNat = true) ∧ (ob.toNat % 4 = 0 → t.pidQuenched lo.toNat = true)) ∧
  (∀ (s : State) (p : OrbPort) (sq : PriSeq) (tg ob : Byte) (lo hi : BitVec 16), s.workerHears p = true →
    p = s.outboundIn → priGood 0
    sq = true → sq.data = [tg, ob, lo.truncate 8, (lo >>> 8).truncate 8, hi.truncate 8, (hi >>> 8).truncate 8] →
    s.named tg.toNat = true → ob.toNat % 4 = 0 → s.entryOf lo.toNat = none → s.freeEntry = none → s.drives (s.outPort
    p) = true → ∃ u : State, exec (.quenchSeqReceived p sq) s = .next ((u.emit (.priority (s.outPort p) 0
    { sq with refused := sq.refused + 1 }))) ∧ u.get PRT.failPid = lo.toNat ∧ u.on PRT.failValid = true ∧ (u.reg
    PRT.event).getLsbD 0 = true ∧ Framed id [PRT.event, 0xA8008] s u) ∧
  (∀ (s : State) (p : OrbPort) (sq : PriSeq), s.workerHears p = true → sq.intact = true →
    (priGood 0 sq && decide (p = s.outboundIn) &&
    s.named (sq.data.getD 0 0).toNat) = false → s.drives (s.outPort p) = true →
    ∃ t, exec (.quenchSeqReceived p sq) s = .next
    t ∧ t = s.emit (.priority (s.outPort p) 0 sq))

/-- ORBIT_BCAST waits while the ring heals and while no TAG is free; otherwise it applies its write here, or refuses it
in the safe state, and leaves on the manager's ports with that part counted on D, behind the slot that is due to
stay EMPTY. ECLIPSE schedules a capture here, ECL_T after it leaves, or refuses it with ISLAND_DOWN while the
register file is off and with PRECONDITION while another capture is under way, or finds that it holds that epoch,
and its sequence leaves with that part counted; it waits for a delay measurement. ORB_WAKE.SEND on the manager with
none under way makes WAKE_STAT busy and sends WAKE on both trains, its own part counted where TARGET is 0 or 0xFF;
with one under way it only writes the register. With a second manager seen nothing leaves; a descriptor ends with
NO_RESPONSE at once, and a WAKE stays busy until its re-sends are used up (log entry 43, the model's choice). A
sequence that returns whole and unchanged on its last port, be it the first outstanding or a later one, ends its
operation with the counts it brings: a QUENCH answers OK or TABLE_FULL, an ECLIPSE waits for its bank, a WAKE shows
its counts. One that returns otherwise, or not in time, is sent again up to PRI_RETRY times and then given up: a
QUENCH is answered NO_RESPONSE, an ECLIPSE waits for its bank with that status, and a WAKE sets NORESP.
ECLIPSE_COMPLETION answers the first that waits, once the manager's own capture is taken and copied. -/
def Obligations.BroadcastsAndSequencesOfTheManager : Prop :=
  (∀ (s : State) (q : RingN) (i : BitVec 16) (f : Flight), s.starts q i.toNat 0x06 none = some f → s.orbPaused = true ∨
    s.castTag = none → ∃ t, exec (.orbitBcast q i) s = .next t ∧ t = s) ∧
  (∀ (s : State) (q : RingN) (i : BitVec 16) (f : Flight) (g : Nat), s.starts q i.toNat 0x06 none = some f →
    s.castTag = some g → s.orbPaused = false → s.on ORB.conflict = false → s.orbUp = true → s.safe = true → ∃ t, exec (.orbitBcast q i)
    s = .next t ∧ t.orbit.pris =
    s.orbit.pris ++ [⟨3, g, castPayload f.desc, s.castPorts, some 0x0E, s.orbit.gen, 0, 0, 0, 0, .ring q
    i.toNat⟩] ∧ t.out = s.out ++ (s.castPorts.map (fun o => (if s.emptyDue o then [Out.emptySlot o] else []) ++
    [.frame o (sealFrame ⟨0xFF, 0, 3, BitVec.ofNat 8 g, 0, 15, castPayload f.desc ++
    [0, if o = .D then 1 else 0, if o = .D then 0x0E else 0], 0, []⟩)])).flatten ∧ t.answerOf q
    i.toNat = none ∧ t =
    { s with rings := t.rings, out := t.out, orbit := { s.orbit with pris := t.orbit.pris, slots := t.orbit.slots } }) ∧
  (∀ (s : State) (q : RingN) (i : BitVec 16) (f : Flight) (g : Nat) (v : Word), s.starts q i.toNat 0x06 none = some f →
    s.castTag = some g → s.orbPaused = false → s.on ORB.conflict = false → s.orbUp = true → s.safe = false →
    s.fileUp = true → dAddr
    f.desc = 0x34 → dField
    f.desc 11 1 = 0 → dField f.desc 12 4 = v.toNat → ∃ t, exec (.orbitBcast q i) s = .next t ∧ t.reg 0x34 = (s.reg
    0x34 &&& 0xFFFFC000#32) ||| (v &&& 0x3FFF#32) ∧ t.orbit.pris = s.orbit.pris ++ [⟨3, g, castPayload
    f.desc, s.castPorts, some 0, s.orbit.gen, 0, 0, 0, 0, .ring q i.toNat⟩] ∧ t.out = s.out ++ (s.castPorts.map (fun o
    => (if s.emptyDue o then [Out.emptySlot o] else []) ++
    [.frame o (sealFrame ⟨0xFF, 0, 3, BitVec.ofNat 8 g, 0, 15, castPayload f.desc ++
    [if o = .D then 1 else 0, 0, 0], 0, []⟩)])).flatten ∧ t =
    { s with regs := t.regs, rings := t.rings, out := t.out, orbit := { s.orbit with pris := t.orbit.pris, slots :=
    t.orbit.slots } } ∧ (∀ a, a ≠ 0x34 → t.reg a = s.reg a)) ∧
  (∀ (s : State) (q : RingN) (i : BitVec 16) (f : Flight), s.starts q i.toNat 0x06 none = some f → s.castTag.isSome =
    true →
    s.orbPaused = false → s.on ORB.conflict = true → s.safe = true → ∃ t, exec (.orbitBcast q i) s = .next t ∧
    t.answerOf q i.toNat = some (4, 0) ∧ t = { s with rings := t.rings }) ∧
  (∀ (s : State) (q : RingN) (i : BitVec 16) (f : Flight), s.starts q i.toNat 0x07 none = some f → s.isMeasuring =
    true → ∃ t, exec (.eclipse q i) s = .next t ∧ t = s) ∧
  (∀ (s : State) (q : RingN) (i : BitVec 16) (f : Flight) (e : Word), s.starts q i.toNat 0x07 none = some f →
    s.isMeasuring = false → dField f.desc 8 4 = e.toNat → s.on ORB.conflict = false → s.orbUp = true →
    e ≠ s.reg ECL.epoch → s.shot = none → s.fileUp = true → s.on ECL.copyBusy = false → s.chooseBank.isSome = true → ∃ t, exec (.eclipse q i) s =
    .next t ∧ t.shot = some ⟨e, false, 0, .D, s.shotWait .D⟩ ∧ (s.manager = true → s.shotWait .D = s.get ORB.eclT) ∧
    t.orbit.pris = s.orbit.pris ++ [⟨1, 0, bytesOf 4 e.toNat,
    s.castPorts, some 0, s.orbit.gen, 0, 0, 0, 0, .ring q i.toNat⟩] ∧ t.out = s.out ++ s.castPorts.map (fun o =>
    .priority o 1 (priOf (bytesOf 4 e.toNat) (if o = .D then some 0 else none))) ∧ t.answerOf q i.toNat = none ∧ t =
    { s with rings := t.rings, shot := t.shot, out := t.out, orbit := { s.orbit with pris := t.orbit.pris } }) ∧
  (∀ (s : State) (q : RingN) (i : BitVec 16) (f : Flight) (e : Word), s.starts q i.toNat 0x07 none = some f →
    s.isMeasuring = false → dField f.desc 8 4 = e.toNat → s.on ORB.conflict = false → e ≠ s.reg ECL.epoch →
    s.shot.any (fun x => decide (x.epoch = e)) = false → s.fileUp = true →
    s.on ECL.copyBusy = true ∨ s.shot.isSome = true ∨ s.chooseBank = none → ∃ t, exec (.eclipse q i) s = .next t ∧
    t.counter ECL.refused = (s.counter ECL.refused + 1) % 2 ^ 48 ∧ (t.reg ECL.event).getLsbD 1 = true ∧ t.shot = s.shot
    ∧ t.orbit.pris = s.orbit.pris ++ [⟨1, 0, bytesOf 4 e.toNat, s.castPorts, some 7, s.orbit.gen, 0, 0, 0, 0, .ring q
    i.toNat⟩] ∧ t.answerOf q i.toNat = none ∧ Framed (fun x => { x with orbit := Orbit.reset }) [ECL.refused,
    ECL.refused + 4, ECL.event] s t) ∧
  (∀ (s : State) (q : RingN) (i : BitVec 16) (f : Flight) (e : Word), s.starts q i.toNat 0x07 none = some f →
    s.isMeasuring = false → dField f.desc 8 4 = e.toNat → s.on ORB.conflict = true → e = s.reg ECL.epoch → ∃ t, exec
    (.eclipse q i) s = .next t ∧ t.ecliDone = s.ecliDone ++ [(q.val, i.toNat, 4, 0)] ∧
    t.answerOf q i.toNat = none ∧ t = { s with rings := t.rings, ecliDone := t.ecliDone }) ∧
  (∀ (s : State) (q : RingN) (i : BitVec 16) (f : Flight) (e : Word), s.starts q i.toNat 0x07 none = some f →
    s.isMeasuring = false → dField f.desc 8 4 = e.toNat → s.on ORB.conflict = false → e ≠ s.reg ECL.epoch →
    s.shot.any (fun x => decide (x.epoch = e)) = false → s.fileUp = false → ∃ t, exec (.eclipse q i) s = .next t ∧
    t.shot = s.shot ∧ t.orbit.pris = s.orbit.pris ++ [⟨1, 0, bytesOf 4 e.toNat, s.castPorts, some 5, s.orbit.gen, 0,
    0, 0, 0, .ring q i.toNat⟩] ∧ t.answerOf q i.toNat = none ∧ Framed (fun x => { x with orbit := Orbit.reset })
    [ECL.refused, ECL.refused + 4, ECL.event] s t) ∧
  (∀ (s : State) (q : RingN) (i : BitVec 16) (f : Flight) (e : Word), s.starts q i.toNat 0x07 none = some f →
    s.isMeasuring = false → dField f.desc 8 4 = e.toNat → s.on ORB.conflict = false →
    e = s.reg ECL.epoch ∨ s.shot.any (fun x => decide (x.epoch = e)) = true → ∃ t, exec (.eclipse q i) s = .next t ∧
    t.orbit.pris = s.orbit.pris ++ [⟨1, 0, bytesOf 4 e.toNat, s.castPorts, some 0, s.orbit.gen, 0, 0, 0, 0, .ring q
    i.toNat⟩] ∧ t.answerOf q i.toNat = none ∧ t = { s with rings := t.rings, out := t.out, orbit := { s.orbit with pris
    := t.orbit.pris } }) ∧
  (∀ (s : State) (tg kind : Byte), s.writeTakes ORB.wake = false ∨ s.manager = false → ∃ t, exec (.orbWakeSend tg
    kind) s = .next t ∧ t = s) ∧
  (∀ (s : State) (tg kind : Byte), s.writeTakes ORB.wake = true → s.manager = true → s.on ORB.wBusy = true → ∃ t,
    exec (.orbWakeSend tg kind) s = .next t ∧ (t.reg ORB.wake).toNat = tg.toNat + 256 * kind.toNat ∧ t =
    { s with regs := t.regs } ∧ (∀ a, a ≠ ORB.wake → t.reg a = s.reg a)) ∧
  (∀ (s : State) (tg kind : Byte), s.writeTakes ORB.wake = true → s.manager = true → s.on ORB.wBusy = false → s.on
    ORB.conflict = false → s.orbUp = true → tg ≠ 0 → tg ≠ 0xFF → ∃ t, exec (.orbWakeSend tg kind) s = .next t ∧ t.on ORB.wBusy = true
    ∧ t.get ORB.wApplied = 0 ∧ t.on ORB.wNoresp = false ∧ t.out = s.out ++ [.priority .D 2 (priOf [tg, kind] none),
    .priority .U 2 (priOf [tg, kind] none)] ∧ t.orbit.pris = s.orbit.pris ++ [⟨2, 0, [tg, kind], [.D, .U], none,
    s.orbit.gen, 0, 0, 0, 0, .nobody⟩] ∧ t =
    { s with regs := t.regs, out := t.out, orbit := { s.orbit with pris := t.orbit.pris } } ∧ (∀ a, a ∉ [ORB.wake,
    ORB.wakeStat] → t.reg a = s.reg a)) ∧
  (∀ (s : State) (tg kind : Byte), s.writeTakes ORB.wake = true → s.manager = true → s.on ORB.wBusy = false → s.on
    ORB.conflict = false → s.orbUp = true → tg = 0 ∨ tg = 0xFF → kind = 1 → s.pwr.phase = .run → ∃ t, exec (.orbWakeSend tg kind) s =
    .next t ∧ t.on ORB.wBusy = true ∧ t.out = s.out ++ [.priority .D 2 (priOf [tg, kind] (some 0)), .priority .U 2
    (priOf [tg, kind] none)] ∧ t =
    { s with regs := t.regs, out := t.out, orbit := { s.orbit with pris := t.orbit.pris } } ∧ (∀ a, a ∉ [ORB.wake,
    ORB.wakeStat] → t.reg a = s.reg a)) ∧
  (∀ (s : State) (tg kind : Byte), s.writeTakes ORB.wake = true → s.manager = true → s.on ORB.wBusy = false → s.on
    ORB.conflict = true → tg ≠ 0 → tg ≠ 0xFF → ∃ t, exec (.orbWakeSend tg kind) s = .next t ∧ t.on ORB.wBusy = true ∧
    t.on ORB.wNoresp = false ∧
    t.orbit.pris = s.orbit.pris ++ [⟨2, 0, [tg, kind], [.D, .U], none, s.orbit.gen, 0, 0, 0, 0,
    .nobody⟩] ∧ t = { s with regs := t.regs, orbit := { s.orbit with pris := t.orbit.pris } } ∧
    (∀ a, a ∉ [ORB.wake, ORB.wakeStat] → t.reg a = s.reg a)) ∧
  (∀ (s : State) (x : PriOut), s.orbUp = true → s.manager = true → s.orbit.pris = [x] → x.lead = 2 →
    s.get ORB.priRetry ≤ x.tries → ∃ t, exec .prioritySeqTimeout s = .next t ∧ t.orbit.pris = [] ∧
    t.on ORB.wBusy = false ∧ t.on ORB.wNoresp = true ∧
    t = { s with regs := t.regs, orbit := { s.orbit with pris := [] } } ∧
    (∀ a, a ≠ ORB.wakeStat → t.reg a = s.reg a)) ∧
  (∀ (s : State) (p : OrbPort) (sq : PriSeq) (x y : PriOut), s.orbUp = true → s.manager = true → s.orbit.pris = [x, y] →
    x.lead = 2 → y.lead = 2 → s.leftBy p ∈ x.ports → y.ports = [s.leftBy p] → x.data ≠ y.data → y.refused = 0 →
    y.applied + sq.applied.toNat < 256 → priGood 2 sq = true → sq.data = y.data → ∃ t,
    exec (.prioritySeqReturn p sq) s = .next t ∧ t.orbit.pris = [x] ∧
    t.get ORB.wApplied = y.applied + sq.applied.toNat ∧
    t = { s with regs := t.regs, orbit := { s.orbit with pris := [x] } } ∧ (∀ a, a ≠ ORB.wakeStat →
    t.reg a = s.reg a)) ∧
  (∀ (s : State) (p : OrbPort) (sq : PriSeq) (x : PriOut), s.orbUp = true → s.manager = true → s.orbit.pris = [x] →
    x.lead = 2 → x.ports = [s.leftBy p] → x.refused = 0 → x.applied + sq.applied.toNat < 256 → priGood 2 sq = true →
    sq.data = x.data → ∃ t, exec (.prioritySeqReturn p sq) s = .next t ∧ t.orbit.pris = [] ∧ t.on ORB.wBusy = false ∧
    t.get ORB.wApplied = x.applied + sq.applied.toNat ∧ t.get ORB.wRefused = sq.refused.toNat ∧ t.get ORB.wRstat =
    sq.rstat.toNat ∧ t = { s with regs := t.regs, orbit := { s.orbit with pris := [] } } ∧ (∀ a, a ≠ ORB.wakeStat →
    t.reg a = s.reg a)) ∧
  (∀ (s : State) (p : OrbPort) (sq : PriSeq) (x : PriOut) (q : RingN) (i : BitVec 16) (f : Flight), s.orbUp = true →
    s.manager = true → s.orbit.pris = [x] → x.lead = 0 → x.ports = [s.leftBy p] → x.refused = 0 → x.owner = .ring q
    i.toNat → s.flight q i.toNat = some f → f.stage = .started → dTarget f.desc = 0xFF → priGood 0 sq = true →
    sq.data = x.data → x.applied + sq.applied.toNat < 65536 → ∃ t, exec (.prioritySeqReturn p sq) s = .next t ∧
    t.orbit.pris = [] ∧ t.answerOf q i.toNat = some (if sq.refused = 0 then 0 else 0x0A, x.applied + sq.applied.toNat
    + 2 ^ 16 * sq.refused.toNat) ∧ t = { s with rings := t.rings, orbit := { s.orbit with pris := [] } }) ∧
  (∀ (s : State) (p : OrbPort) (sq : PriSeq) (x : PriOut) (q i : Nat), s.orbUp = true → s.manager = true →
    s.orbit.pris = [x] → x.lead = 1 → x.ports = [s.leftBy p] → x.refused = 0 → x.applied = 0 → x.owner = .ring q i →
    priGood 1 sq = true → sq.data = x.data → ∃ t, exec (.prioritySeqReturn p sq) s = .next t ∧ t.orbit.pris = [] ∧
    t.ecliDone = s.ecliDone ++ [(q, i, if sq.refused = 0 then 0 else sq.rstat.toNat, sq.applied.toNat + 2 ^ 16 *
    sq.refused.toNat)] ∧ t = { s with ecliDone := t.ecliDone, orbit := { s.orbit with pris := [] } }) ∧
  (∀ (s : State) (p : OrbPort) (sq : PriSeq) (x : PriOut), s.orbUp = true → s.manager = true → s.on ORB.conflict =
    false → sq.intact = true → s.orbit.pris = [x] → x.lead ≠ 3 → s.leftBy p ∈ x.ports → priGood x.lead sq = false ∨
    sq.data ≠ x.data → x.tries < s.get ORB.priRetry → x.gen = s.orbit.gen → ∃ t, exec (.prioritySeqReturn p sq) s =
    .next t ∧ t.orbit.pris = [{ x with tries := x.tries + 1 }] ∧ t.out = s.out ++ x.ports.map (fun o => .priority o
    x.lead (priOf x.data (if o = .D then x.mine else none))) ∧ t =
    { s with out := t.out, orbit := { s.orbit with pris := t.orbit.pris } }) ∧
  (∀ (s : State) (x : PriOut), s.orbUp = true → s.manager = true → s.on ORB.conflict = false → s.orbit.pris = [x] →
    x.lead ≠ 3 → x.tries < s.get ORB.priRetry → x.gen = s.orbit.gen → ∃ t, exec .prioritySeqTimeout s = .next t ∧
    t.orbit.pris = [{ x with tries := x.tries + 1 }] ∧ t.out = s.out ++ x.ports.map (fun o => .priority o x.lead
    (priOf x.data (if o = .D then x.mine else none))) ∧ t =
    { s with out := t.out, orbit := { s.orbit with pris := t.orbit.pris } }) ∧
  (∀ (s : State) (x : PriOut) (q : RingN) (i : BitVec 16) (f : Flight), s.orbUp = true → s.manager = true →
    s.orbit.pris = [x] → x.lead = 0 → s.get ORB.priRetry ≤ x.tries → x.owner = .ring q i.toNat → s.flight q i.toNat =
    some f → f.stage = .started → dTarget f.desc = 0xFF → ∃ t, exec .prioritySeqTimeout s = .next t ∧
    t.orbit.pris = [] ∧
    t.answerOf q i.toNat = some (4, x.applied % 65536 + 2 ^ 16 * x.refused) ∧ t =
    { s with rings := t.rings, orbit := { s.orbit with pris := [] } }) ∧
  (∀ (s : State) (x : PriOut) (q i : Nat), s.orbUp = true → s.manager = true → s.orbit.pris = [x] → x.lead = 1 →
    s.get ORB.priRetry ≤ x.tries → x.owner = .ring q i → ∃ t, exec .prioritySeqTimeout s = .next t ∧ t.orbit.pris = [] ∧
    t.ecliDone = s.ecliDone ++ [(q, i, 4, x.applied % 65536 + 2 ^ 16 * x.refused)] ∧ t =
    { s with ecliDone := t.ecliDone, orbit := { s.orbit with pris := [] } }) ∧
  (∀ (s : State) (p : OrbPort) (sq : PriSeq), s.orbUp = false ∨ s.manager = false → ∃ t, exec (.prioritySeqReturn p
    sq) s = .next t ∧ t = s) ∧
  (∀ (s : State), s.orbUp = false ∨ s.manager = false → ∃ t, exec .prioritySeqTimeout s = .next t ∧ t = s) ∧
  (∀ (s : State) (q : RingN) (i : BitVec 16) (f : Flight) (st res : Nat) (l : List (Nat × Nat × Nat × Nat)), s.shot =
    none →
    s.on ECL.copyBusy = false → s.ecliDone = (q.val, i.toNat, st, res) :: l → s.flight q i.toNat = some f → f.stage =
    .started → ∃ t, exec
    .eclipseCompletion s = .next t ∧ t.ecliDone = l ∧ t.answerOf q i.toNat = some (st, res) ∧ t =
    { s with rings := t.rings, ecliDone := l }) ∧
  (∀ (s : State), s.ecliDone = [] ∨ s.shot.isSome = true ∨ s.on ECL.copyBusy = true →
    ∃ t, exec .eclipseCompletion s = .next t ∧ t = s)

/-- A frame that is not for the worker is passed on by the other port, or back where that is wrapped, with one hop more,
or discarded and counted at 255 hops, and its framing errors are counted; a damaged frame for it is discarded and
counted; what arrives on a wrapped port is ignored. A frame for it that arrives whole is consumed, and its slot goes
on EMPTY. A REG frame that writes the global event mask writes it and is answered OK, one that reads two registers
is answered with their values, and one outside the fault collector is answered SAFE_STATE in the safe state. An OP
frame is answered with OP_ACCEPT: ISLAND_DOWN with the register file off, SAFE_STATE, BAD_DESC, or OK, and then
begins, or waits for firmware or for an island that is off; in SLEEP an operation that needs one wakes the unit. Image
data is taken at the expected offset within LENGTH and ignored elsewhere, and
acknowledged when complete. A broadcast write on the outbound path is applied, or refused in the safe state, and
passed on with its part counted; a damaged one is counted and passed on, and on the return path it is only relayed.
PROBE arms the worker; CTRL UNWRAP, SET_ARM and SET_DELAY act on a frame for the unit and on a broadcast that it
passes on. WORKER_FRAME_SEND sends the first frame that waits, unless the tail of a telemetry record does. -/
def Obligations.FramesAtAWorker : Prop :=
  (∀ (s : State) (p : OrbPort) (f : Frame) (c : Instr), c ∈ [.regFrame p f, .opFrame p f, .imageDataFrame p f,
    .probeFrame p f, .answerFrame p f, .eventFrame p f, .telemFrame p f, .enumAnsFrame p f, .assignAckFrame p f,
    .bcastFrame p f, .assignFrame p f, .ctrlUnwrap p f, .ctrlSetArm p f, .ctrlSetDelay p f] → s.workerHears p = true
    → s.toMe p f = false → f.dest ≠ 0xFF → f.hops ≠ 255 → s.drives (s.outPort p) = true → ∃ t, exec c s = .next t ∧ t
    = (s.framing f).emit (.frame (s.outPort p) { f with hops := f.hops + 1 })) ∧
  (∀ (s : State) (p : OrbPort) (f : Frame) (c : Instr), c ∈ [.regFrame p f, .opFrame p f, .imageDataFrame p f,
    .probeFrame p f, .answerFrame p f, .eventFrame p f, .telemFrame p f, .enumAnsFrame p f, .assignAckFrame p f,
    .bcastFrame p f, .assignFrame p f, .ctrlUnwrap p f, .ctrlSetArm p f, .ctrlSetDelay p f] → s.workerHears p = true
    → f.dest ≠ 0xFF → (s.toMe p f = false ∧ f.hops = 255) ∨ (s.toMe p f = true ∧ frameGood f = false ∧ c ≠
    .bcastFrame p f) → ∃ t, exec c s = .next t ∧ t.counter ORB.frameErr = (s.counter ORB.frameErr + 1) % 2 ^ 48 ∧
    (t.reg ORB.event).getLsbD 9 = true ∧
    t.out = (if s.toMe p f then s.takeFrame p else s).out ∧
    Framed id [ORB.charErr, ORB.charErr + 4, ORB.frameErr, ORB.frameErr + 4, ORB.event] s t) ∧
  (∀ (s : State) (p : OrbPort) (f : Frame) (c : Instr), c ∈ [.regFrame p f, .opFrame p f, .imageDataFrame p f,
    .probeFrame p f, .answerFrame p f, .eventFrame p f, .telemFrame p f, .enumAnsFrame p f, .assignAckFrame p f,
    .bcastFrame p f, .assignFrame p f, .ctrlUnwrap p f, .ctrlSetArm p f, .ctrlSetDelay p f] → s.workerHears p = false
    → s.manager = false → ∃ t, exec c s = .next t ∧ t = s) ∧
  (∀ (s : State) (p : OrbPort) (f : Frame) (v : Word), s.workerHears p = true → s.toMe p f = true → frameGood f =
    true → s.fileUp = true → s.safe = false → payByte f 0 = 1 → payNat f 1 3 = 0x34 → payNat f 6 4 = v.toNat → ∃ t,
    exec (.regFrame p f) s = .next t ∧ t.reg 0x34 = (s.reg 0x34 &&& 0xFFFFC000#32) ||| (v &&& 0x3FFF#32) ∧ t.waitq =
    s.waitq ++ [⟨0, BitVec.ofNat 8 (s.get ORB.addr), 2, f.tag, 0, 3, [0, 0, 0], 0, []⟩] ∧
    t = { s.takeFrame p with regs := t.regs, waitq := t.waitq } ∧ (∀ a, a ≠ 0x34 → t.reg a = s.reg a)) ∧
  (∀ (s : State) (p : OrbPort) (f : Frame), s.workerHears p = true → s.toMe p f = true → frameGood f = true →
    s.fileUp = true → payByte f 0 = 0 → payNat f 1 3 = 0x10010 → payNat f 4 2 = 2 → ∃ t, exec (.regFrame p f) s =
    .next t ∧ t.waitq = s.waitq ++ [⟨0, BitVec.ofNat 8 (s.get ORB.addr), 2, f.tag, 0, 11, [0, 0, 0] ++ bytesOf 4
    (s.reg 0x10010).toNat ++ bytesOf 4 (s.reg 0x10014).toNat, 0, []⟩] ∧ t = { s.takeFrame p with waitq := t.waitq }) ∧
  (∀ (s : State) (p : OrbPort) (f : Frame), s.workerHears p = true → s.toMe p f = true → frameGood f = true → s.safe
    = true → payNat f 1 3 / 0x10000 ≠ 1 → ∃ t, exec (.regFrame p f) s = .next t ∧ t.waitq = s.waitq ++ [⟨0,
    BitVec.ofNat 8 (s.get ORB.addr), 2, f.tag, 0, 3, [0x0E, 0, 0], 0, []⟩] ∧ t = { s.takeFrame p with waitq := t.waitq
    }) ∧
  (∀ (s : State) (p : OrbPort) (f : Frame), s.workerHears p = true → s.toMe p f = true → frameGood f = true → ∃ t,
    exec (.regFrame p f) s = .next t ∧ t = State.regAnswers 69 ((s.takeFrame p).regAgent f).1 f.tag.toNat
    ((s.takeFrame p).regAgent f).2.1 ((s.takeFrame p).regAgent f).2.2.1 ((s.takeFrame p).regAgent f).2.2.2) ∧
  (∀ (s : State) (p : OrbPort) (f : Frame) (st : Nat), s.workerHears p = true → s.toMe p f = true → frameGood f =
    true → (s.fileUp = false ∧ st = 5) ∨ (s.fileUp = true ∧ (s.safe && safeRefuses (frameDesc f)) = true ∧ st = 0x0E)
    ∨ (s.fileUp = true ∧ (s.safe && safeRefuses (frameDesc f)) = false ∧ (dType (frameDesc f) < 8 ∨ 0x10 < dType
    (frameDesc f) ∨ dType (frameDesc f) = 0x0D ∨ fieldsOk (frameDesc f) = false) ∧ st = 1) → ∃ t, exec (.opFrame p f)
    s = .next t ∧ t.waitq = s.waitq ++ [⟨0, BitVec.ofNat 8 (s.get ORB.addr), 5, f.tag, 0, 1, [BitVec.ofNat 8 st], 0,
    []⟩] ∧ t = { s.takeFrame p with waitq := t.waitq }) ∧
  (∀ (s : State) (p : OrbPort) (f : Frame), s.workerHears p = true → s.toMe p f = true → frameGood f = true →
    s.fileUp = true → (s.safe && safeRefuses (frameDesc f)) = false → 8 ≤ dType (frameDesc f) → dType (frameDesc f) ≤
    0x10 → dType (frameDesc f) ≠ 0x0D → fieldsOk (frameDesc f) = true → s.opWaits (frameDesc f) = false → ∃ u : State, exec (.opFrame p f) s = .next ((u.opStart (.orbit f.tag.toNat) (frameDesc f)
    0 0 [])) ∧ (dType (frameDesc f) = 9 → (u.opStart (.orbit f.tag.toNat) (frameDesc f) 0 0 []).waitq = u.waitq ++
    [⟨0, BitVec.ofNat 8 (s.get ORB.addr), 6, f.tag, 0, 17, 0 :: List.replicate 16 0, 0, []⟩])) ∧
  (∀ (s : State) (p : OrbPort) (f : Frame), s.workerHears p = true → s.toMe p f = true → frameGood f = true →
    s.fileUp = true → (s.safe && safeRefuses (frameDesc f)) = false → 8 ≤ dType (frameDesc f) → dType (frameDesc f) ≤
    0x10 → dType (frameDesc f) ≠ 0x0D → fieldsOk (frameDesc f) = true → s.opWaits (frameDesc f) = true →
    (needsIsland (frameDesc f) && !s.running && s.asleep 1) = false → ∃ t, exec (.opFrame p f) s = .next t ∧
    t.waitq = s.waitq ++
    [⟨0, BitVec.ofNat 8 (s.get ORB.addr), 5, f.tag, 0, 1, [0], 0, []⟩] ∧ t.core.waiting = s.core.waiting ++
    [(f.tag.toNat, frameDesc f)] ∧ t = { s.takeFrame p with waitq := t.waitq, core := { s.core with waiting :=
    t.core.waiting } }) ∧
  (∀ (s : State) (p : OrbPort) (f : Frame), s.workerHears p = true → s.toMe p f = true → frameGood f = true →
    s.pwr.phase = .sleep → (s.safe && safeRefuses (frameDesc f)) = false → 8 ≤ dType (frameDesc f) →
    dType (frameDesc f) ≤ 0x10 → dType (frameDesc f) ≠ 0x0D → fieldsOk (frameDesc f) = true →
    needsIsland (frameDesc f) = true → ∃ t, exec (.opFrame p f) s = .next t ∧ t.pwr.phase = .stage 2 ∧
    t.get PWR.wsKind = 3 ∧ (t.reg PWR.event).getLsbD 1 = true ∧ t.core.waiting = s.core.waiting ++
    [(f.tag.toNat, frameDesc f)] ∧ t.waitq = s.waitq ++
    [⟨0, BitVec.ofNat 8 (s.get ORB.addr), 5, f.tag, 0, 1, [0], 0, []⟩]) ∧
  (∀ (s : State) (p : OrbPort) (f : Frame) (l : FwLoad), s.workerHears p = true → s.toMe p f = true → frameGood f =
    true → s.core.loads = [l] → l.owner = .orbit f.tag.toNat → l.activate = false → l.frames < 63 → payByte f 0 =
    0x0F → payByte f 1 = 2 → payNat f 2 3 = l.image.length → 5 < f.payload.length → f.payload.length ≤ 53 →
    l.image.length + (f.payload.length - 5) ≤ l.length → l.length < 2 ^ 24 → ∃ t, exec (.imageDataFrame p f) s =
    .next t ∧ (t.core.loads.map (fun x => x.image)) = [l.image ++ f.payload.drop 5] ∧ (l.image.length +
    (f.payload.length - 5) < l.length → t.waitq = s.waitq ∧ t.core.loads.map (fun x => x.frames) = [l.frames + 1]) ∧
    (l.image.length + (f.payload.length - 5) = l.length → t.waitq = s.waitq ++ [⟨0, BitVec.ofNat 8 (s.get ORB.addr),
    5, f.tag, 0, 4, 0 :: bytesOf 3 l.length, 0, []⟩] ∧ t.core.loads.map (fun x => x.frames) = [0]) ∧ t = { s.takeFrame
    p with waitq := t.waitq, core := { s.core with loads := t.core.loads } }) ∧
  (∀ (s : State) (p : OrbPort) (f : Frame), s.workerHears p = true → s.toMe p f = true → frameGood f = true →
    (s.loadFor f.tag.toNat).all (fun l => decide (payNat f 2 3 ≠ l.image.length)) = true → ∃ t, exec (.imageDataFrame p
    f) s = .next t ∧ t = s.takeFrame p) ∧
  (∀ (s : State) (p : OrbPort) (f : Frame) (v : Word), s.workerHears p = true → p = s.outboundIn → f.dest = 0xFF →
    frameGood f = true → f.hops ≠ 255 → s.drives (s.outPort p) = true → s.fileUp = true → s.safe = false → payByte f
    0 = 0 → payNat f 1 3 = 0x34 → payNat f 4 4 = v.toNat → ∃ t, exec (.bcastFrame p f) s = .next t ∧ t.reg 0x34 =
    (s.reg 0x34 &&& 0xFFFFC000#32) ||| (v &&& 0x3FFF#32) ∧ t.out = s.out ++ [.frame (s.outPort p)
    { withPayload f (f.payload.take 12 ++ [f.payload.getD 12 0 + 1, f.payload.getD 13 0, f.payload.getD 14 0]) with
    hops := f.hops + 1 }]
    ∧ t = { s with regs := t.regs, out := t.out } ∧ (∀ a, a ≠ 0x34 → t.reg a = s.reg a)) ∧
  (∀ (s : State) (p : OrbPort) (f : Frame), s.workerHears p = true → p = s.outboundIn → f.dest = 0xFF → frameGood f =
    true → f.hops ≠ 255 → s.drives (s.outPort p) = true → s.safe = true → ∃ t, exec (.bcastFrame p f) s = .next t ∧ t
    = s.emit (.frame (s.outPort p)
    { withPayload f (f.payload.take 12 ++ [f.payload.getD 12 0, f.payload.getD 13 0 + 1, if f.payload.getD 13 0 = 0
    then 0x0E else f.payload.getD 14 0]) with hops := f.hops + 1 })) ∧
  (∀ (s : State) (p : OrbPort) (f : Frame), s.workerHears p = true → p ≠ s.outboundIn ∨ f.dest ≠ 0xFF →
    f.hops ≠ 255 → s.drives (s.outPort p) = true → ∃ t, exec (.bcastFrame p f) s = .next t ∧
    t = (s.framing f).emit (.frame
    (s.outPort p) { f with hops := f.hops + 1 })) ∧
  (∀ (s : State) (f : Frame), (s.framing f).counter ORB.charErr = (s.counter ORB.charErr + framingErrors f) % 2 ^ 48 ∧
    Framed id [ORB.charErr, ORB.charErr + 4] s (s.framing f)) ∧
  (∀ (s : State) (p : OrbPort) (f : Frame), s.workerHears p = true → p = s.outboundIn → f.dest = 0xFF → frameGood f =
    false → f.hops ≠ 255 → s.drives (s.outPort p) = true → ∃ t, exec (.bcastFrame p f) s = .next t ∧
    t.counter ORB.frameErr = (s.counter ORB.frameErr + 1) % 2 ^ 48 ∧ (t.reg ORB.event).getLsbD 9 = true ∧
    t.out = s.out ++ [.frame (s.outPort p) { f with hops := f.hops + 1 }] ∧
    Framed id [ORB.charErr, ORB.charErr + 4, ORB.frameErr, ORB.frameErr + 4, ORB.event] s t) ∧
  (∀ (s : State) (p : OrbPort) (f : Frame), s.workerHears p = true → f.hops = 255 → (p = s.outboundIn → f.dest = 0xFF →
    s.safe = true ∧ frameGood f = true) → ∃ t, exec (.bcastFrame p f) s = .next t ∧ t.out = s.out ∧
    t.counter ORB.frameErr = (s.counter ORB.frameErr + 1) % 2 ^ 48 ∧ (t.reg ORB.event).getLsbD 9 = true ∧
    Framed id [ORB.charErr, ORB.charErr + 4, ORB.frameErr, ORB.frameErr + 4, ORB.event] s t) ∧
  (∀ (s : State) (p : OrbPort) (f : Frame), s.workerHears p = true → s.toMe p f = true → frameGood f = true → ∃ t,
    exec (.probeFrame p f) s = .next t ∧
    t = { s.takeFrame p with orbit := { s.orbit with probed := true } } ∧
    (s.drives (s.outPort p) = true → t.out = s.out ++ [.emptySlot (s.outPort p)]) ∧
    (s.drives (s.outPort p) = false → t.out = s.out)) ∧
  (∀ (s : State) (p : OrbPort) (f : Frame), s.workerHears p = true → s.toMe p f = true → f.dest ≠ 0xFF → frameGood f
    = true → ∃ t, exec (.ctrlUnwrap p f) s = .next t ∧ t.on (ORB.wrap 0) = false ∧ t.on (ORB.wrap 1) = false ∧
    t.orbit.restored = 0 ∧ t = { s.takeFrame p with regs := t.regs, orbit := { s.orbit with restored := 0 } } ∧ (∀ a, a
    ≠ 0x40008
    → t.reg a = s.reg a)) ∧
  (∀ (s : State) (p : OrbPort) (f : Frame), s.workerHears p = true → f.dest = 0xFF → p = s.outboundIn ∨ s.on
    ORB.addrValid = false → frameGood f = true → f.hops ≠ 255 → s.drives (s.outPort p) = true → ∃ t, exec
    (.ctrlSetArm p f) s = .next t ∧ t.get ORB.arm = 0 ∧ t.out = s.out ++ [.frame (s.outPort p)
    { f with hops := f.hops + 1 }] ∧ t = { s with regs := t.regs, out := t.out } ∧ (∀ a, a ≠ 0x40018 → t.reg a =
    s.reg a)) ∧
  (∀ (s : State) (p : OrbPort) (f : Frame), s.workerHears p = true → s.toMe p f = true → f.dest ≠ 0xFF → frameGood f
    = true → ∃ t, exec (.ctrlSetDelay p f) s = .next t ∧ t.get ORB.delayFwd = payNat f 1 3 % 2 ^ 20 ∧ t.get
    ORB.delayRev = payNat f 4 3 % 2 ^ 20 ∧ t.get ORB.eclT = payNat f 7 3 % 2 ^ 20 ∧ t = { s.takeFrame p with regs :=
    t.regs } ∧ (∀ a, a ∉ [0x4001C, 0x40020, 0x40024] → t.reg a = s.reg a)) ∧
  (∀ (s : State) (f : Frame) (l : List Frame), s.telemWaiting true = none →
    s.waitq = f :: l → s.orbUp = true → s.manager = false → s.drives
    (s.outPort s.outboundIn) = true → ∃ t, exec .workerFrameSend s = .next t ∧ t =
    { s with waitq := l, out := s.out ++ [.frame (s.outPort s.outboundIn) (sealFrame f)] }) ∧
  (∀ (s : State) (a : Nat) (x : EvFrame) (l : List (Nat × EvFrame)), s.telemWaiting true = none →
    s.waitq = [] → s.evFrames = (a, x) :: l →
    s.orbUp = true → s.manager = false → s.on ORB.addrValid = true → s.drives (s.outPort s.outboundIn) = true → ∃ t,
    exec .workerFrameSend s = .next t ∧ t =
    { s with evFrames := l, out := s.out ++ [.frame (s.outPort s.outboundIn) (sealFrame ⟨0, BitVec.ofNat 8 (s.get
    ORB.addr), 7, 0, 0, 11, bytesOf 4 x.bits.toNat ++ bytesOf 3 a ++ bytesOf 4 x.epoch.toNat, 0, []⟩)] })

/-- A damaged frame for the manager is discarded and counted; an answer without an open request is counted. REG_ANS
answers a read with its two values, a read-modify-write with the old value, a bulk write with the number written,
and a bulk read with its count once every value has been written to host memory, or waits until the function can
write. OP_ACCEPT with a refusal answers the request; with OK it keeps it, and the image goes on. OP_DONE answers it
with its STATUS and RESULT, and writes a self-test record and then its tag to host memory. A request frame that
returns unconsumed is answered NO_UNIT, one with no answer in time NO_RESPONSE, both only before it is accepted and
with the registers read till then; an answer in the cycle of that timeout still counts, and the descriptor completes
with it; a broadcast without return is given up with NO_RESPONSE. An EVENT frame becomes an EVENT entry of the ring that
RNG_EVCQ names, where it is enabled. A telemetry head waits for its tail, a pair becomes two entries, and a half
without its other is counted as dropped, as is a head after 1 ms. Image data not acknowledged is sent again from the
last offset. That Bus Master Enable gates the memory writes is presumed (log entry 11). -/
def Obligations.AnswersAtTheManager : Prop :=
  (∀ (s : State) (p : OrbPort) (f : Frame) (c : Instr), c ∈ [.answerFrame p f, .eventFrame p f, .telemFrame p f,
    .enumAnsFrame p f, .assignAckFrame p f, .frameReturn p f, .mapReturn p f] → s.orbUp = true → s.manager = true →
    frameGood f = false → ∃ t, exec c s = .next t ∧ t.counter ORB.frameErr = (s.counter ORB.frameErr + 1) % 2 ^ 48 ∧
    (t.reg ORB.event).getLsbD 9 = true ∧ Framed id [ORB.charErr, ORB.charErr + 4, ORB.frameErr, ORB.frameErr + 4,
    ORB.event] s t) ∧
  (∀ (s : State) (p : OrbPort) (f : Frame), s.orbUp = true → s.manager = true → frameGood f = true → s.reqOf
    f.src.toNat f.tag.toNat = none → s.lapsedNow f.src.toNat f.tag.toNat = none → ∃ t,
    exec (.answerFrame p f) s = .next t ∧ t.counter ORB.frameErr = (s.counter
    ORB.frameErr + 1) % 2 ^ 48 ∧ t = { s with regs := t.regs } ∧ (∀ a, a ≠ ORB.frameErr → a ≠ ORB.frameErr + 4 →
    t.reg a = s.reg a)) ∧
  (∀ (s : State) (p : OrbPort) (f : Frame) (r : OrbReq) (x : Flight) (a b : Word), s.orbUp = true → s.manager = true
    → frameGood f = true → s.orbit.reqs = [r] → r.target = f.src.toNat → r.tag = f.tag.toNat → s.flight r.q r.idx =
    some x → x.stage = .started → dType x.desc = 1 → f.ftype = 2 → f.payload = f.payload.take 3 ++ bytesOf 4 a.toNat
    ++ bytesOf 4 b.toNat → f.payload.length = 11 → ∃ t, exec (.answerFrame p f) s = .next t ∧ t.orbit.reqs = [] ∧
    t.answerOf r.q r.idx = some (payByte f 0, a.toNat + 2 ^ 32 * b.toNat) ∧ t =
    { s with rings := t.rings, orbit := { s.orbit with reqs := [] } }) ∧
  (∀ (s : State) (p : OrbPort) (f : Frame) (r : OrbReq) (x : Flight) (a : Word), s.orbUp = true → s.manager = true →
    frameGood f = true → s.orbit.reqs = [r] → r.target = f.src.toNat → r.tag = f.tag.toNat → s.flight r.q r.idx =
    some x → x.stage = .started → dType x.desc = 3 → f.ftype = 2 → f.payload = f.payload.take 3 ++ bytesOf 4 a.toNat
    → f.payload.length = 7 → ∃ t, exec (.answerFrame p f) s = .next t ∧ t.orbit.reqs = [] ∧ t.answerOf r.q r.idx =
    some (payByte f 0, a.toNat) ∧ t = { s with rings := t.rings, orbit := { s.orbit with reqs := [] } }) ∧
  (∀ (s : State) (p : OrbPort) (f : Frame) (r : OrbReq) (x : Flight), s.orbUp = true → s.manager = true → frameGood f
    = true → s.orbit.reqs = [r] → r.target = f.src.toNat → r.tag = f.tag.toNat → s.flight r.q r.idx = some x →
    x.stage = .started → dType x.desc = 2 ∨ dType x.desc = 4 → f.ftype = 2 → ∃ t, exec (.answerFrame p f) s = .next t
    ∧ t.orbit.reqs = [] ∧ t.answerOf r.q r.idx = some (payByte f 0, if dType x.desc = 4 then payNat f 1 2 % 256 else
    0) ∧ t = { s with rings := t.rings, orbit := { s.orbit with reqs := [] } }) ∧
  (∀ (s : State) (p : OrbPort) (f : Frame) (r : OrbReq) (x : Flight) (a b : Word), s.orbUp = true → s.manager = true
    → s.hostUp = true → frameGood f = true → s.orbit.reqs = [r] → r.target = f.src.toNat → r.tag = f.tag.toNat →
    s.flight r.q r.idx = some x → x.stage = .started → dType x.desc = 5 → f.ftype = 2 → payByte f 0 = 0 → f.payload =
    f.payload.take 3 ++ bytesOf 4 a.toNat ++ bytesOf 4 b.toNat → f.payload.length = 11 → ∃ t, exec (.answerFrame p f)
    s = .next t ∧ t.out = s.out ++ [.hostWrite (dField x.desc 16 8 + 4 * payNat f 1 2) [a, b]] ∧ (dField x.desc 12 2
    ≤ r.got + 2 → t.orbit.reqs = [] ∧ t.answerOf r.q r.idx = some (0, r.got + 2)) ∧ (r.got + 2 < dField x.desc 12 2 →
    t.orbit.reqs = [{ r with got := r.got + 2 }] ∧ t.answerOf r.q r.idx = none) ∧ t =
    { s with rings := t.rings, out := t.out, orbit := { s.orbit with reqs := t.orbit.reqs } }) ∧
  (∀ (s : State) (p : OrbPort) (f : Frame) (r : OrbReq) (x : Flight) (a : Word), s.orbUp = true → s.manager = true →
    s.hostUp = false → s.ringReset = false → frameGood f = true → s.orbit.reqs = [r] → r.target = f.src.toNat →
    r.tag = f.tag.toNat → s.flight r.q r.idx = some x → dType x.desc = 5 → f.ftype = 2 → payByte f 0 = 0 →
    f.payload = f.payload.take 3 ++ bytesOf 4 a.toNat → f.payload.length = 7 → r.got + 1 < dField x.desc 12 2 →
    ∃ t, exec (.answerFrame p f) s = .next t ∧
    t.pcie.posted = s.pcie.posted ++ [(dField x.desc 16 8 + 4 * payNat f 1 2, [a])] ∧
    t.orbit.reqs = [{ r with got := r.got + 1 }] ∧
    t = { s with pcie := { s.pcie with posted := t.pcie.posted }, orbit := { s.orbit with reqs := t.orbit.reqs } }) ∧
  (∀ (s : State) (p : OrbPort) (f : Frame) (r : OrbReq) (x : Flight), s.orbUp = true → s.manager = true →
    s.hostUp = true → frameGood f = true → s.orbit.reqs = [r] → r.target = f.src.toNat → r.tag = f.tag.toNat →
    s.flight r.q r.idx = some x → x.stage = .started → f.ftype = 6 → dType x.desc = 0x0B → f.payload.length = 41 →
    ∃ t, exec (.answerFrame p f) s = .next t ∧ t.out = s.out ++ [.hostWrite (dField x.desc 8 8 + 32 * payByte f 20)
    (wordsOf 6 (payNat f 17 24)), .hostWrite (dField x.desc 8 8 + 32 * payByte f 20 + 24) (wordsOf 2 (recordTag r.idx
    r.q
    (payByte f 20)))] ∧ (dField x.desc 16 1 ≤ payByte f 20 + 1 → t.orbit.reqs = [] ∧
    t.answerOf r.q r.idx = some (payByte f 0, payNat f 1 16)) ∧ (payByte f 20 + 1 < dField x.desc 16 1 →
    t.orbit.reqs = [r] ∧ t.answerOf r.q r.idx = none) ∧
    t = { s with rings := t.rings, out := t.out, orbit := { s.orbit with reqs := t.orbit.reqs } }) ∧
  (∀ (s : State) (p : OrbPort) (f : Frame) (r : OrbReq) (x : Flight), s.orbUp = true → s.manager = true → frameGood f
    = true → s.orbit.reqs = [r] → r.target = f.src.toNat → r.tag = f.tag.toNat → s.flight r.q r.idx = some x →
    x.stage = .started → f.ftype = 5 → payByte f 0 ≠ 0 → ∃ t, exec (.answerFrame p f) s = .next t ∧ t.orbit.reqs = []
    ∧ t.answerOf r.q r.idx = some (payByte f 0, 0) ∧ t =
    { s with rings := t.rings, orbit := { s.orbit with reqs := [] } }) ∧
  (∀ (s : State) (p : OrbPort) (f : Frame) (r : OrbReq), s.orbUp = true → s.manager = true → frameGood f = true →
    s.orbit.reqs = [r] → r.target = f.src.toNat → r.tag = f.tag.toNat → f.ftype = 5 → payByte f 0 = 0 →
    f.payload.length < 4 → r.image = [] → ∃ t, exec (.answerFrame p f) s = .next t ∧ t =
    { s with orbit := { s.orbit with reqs := [{ r with accepted := true }] } }) ∧
  (∀ (s : State) (p : OrbPort) (f : Frame) (r : OrbReq) (x : Flight), s.orbUp = true → s.manager = true → frameGood f
    = true → s.orbit.reqs = [r] → r.target = f.src.toNat → r.tag = f.tag.toNat → s.flight r.q r.idx = some x →
    x.stage = .started → f.ftype = 6 → dType x.desc ≠ 0x0B → ∃ t, exec (.answerFrame p f) s = .next t ∧ t.orbit.reqs
    = [] ∧ t.answerOf r.q r.idx = some (payByte f 0, payNat f 1 16) ∧ t =
    { s with rings := t.rings, orbit := { s.orbit with reqs := [] } }) ∧
  (∀ (s : State) (p : OrbPort) (f : Frame) (r : OrbReq) (x : Flight), s.orbUp = true → s.manager = true → frameGood f
    = true → s.orbit.reqs = [r] → r.target = f.dest.toNat → r.tag = f.tag.toNat → s.flight r.q r.idx = some x →
    x.stage = .started → f.ftype = 1 ∨ f.ftype = 4 → ∃ t, exec (.frameReturn p f) s = .next t ∧ (r.accepted = false →
    t.orbit.reqs = [] ∧ t.answerOf r.q r.idx = some (3, r.got) ∧ t =
    { s with rings := t.rings, orbit := { s.orbit with reqs := [] } }) ∧ (r.accepted = true → t = s)) ∧
  (∀ (s : State) (tg tag : Byte) (r : OrbReq) (x : Flight), s.orbUp = true → s.manager = true → tg ≠ 0xFF →
    s.orbit.reqs = [r] → r.target = tg.toNat → r.tag = tag.toNat → s.flight r.q r.idx = some x → x.stage = .started →
    ∃ t, exec (.responseTimeout tg tag) s = .next t ∧ (r.accepted = false → t.orbit.reqs = [] ∧ t.answerOf r.q r.idx
    = some (4, r.got) ∧ (s.clock, r) ∈ t.orbit.lapsed ∧
    t = { s with rings := t.rings, orbit := { s.orbit with reqs := [], lapsed := t.orbit.lapsed } }) ∧
    (r.accepted = true → t = s)) ∧
  (∀ (s : State) (p : OrbPort) (f : Frame) (r : OrbReq) (x : Flight), s.orbUp = true → s.manager = true →
    frameGood f = true → s.orbit.reqs = [] → s.orbit.lapsed = [(s.clock, r)] → r.target = f.src.toNat →
    r.tag = f.tag.toNat → s.flight r.q r.idx = some x → dType x.desc = 2 → f.ftype = 2 → ∃ t,
    exec (.answerFrame p f) s = .next t ∧ t.answerOf r.q r.idx = some (payByte f 0, 0) ∧
    t = { s with rings := t.rings, orbit := { s.orbit with lapsed := [] } }) ∧
  (∀ (s : State) (tag : Byte) (y : PriOut) (q : RingN) (i : BitVec 16) (x : Flight), s.orbUp = true → s.manager =
    true → 2 ≤ tag.toNat → s.orbit.pris = [y] → y.lead = 3 → y.tag = tag.toNat → y.owner = .ring q i.toNat → s.flight
    q i.toNat = some x → x.stage = .started → ∃ t, exec (.responseTimeout 0xFF tag) s = .next t ∧ t.orbit.pris = [] ∧
    t.answerOf q i.toNat = some (4, y.applied % 2 ^ 16 + 2 ^ 16 * y.refused) ∧ t =
    { s with rings := t.rings, orbit := { s.orbit with pris := [] } }) ∧
  (∀ (s : State) (p : OrbPort) (f : Frame), s.orbUp = true → s.manager = true → frameGood f = true → ∃ t, exec
    (.eventFrame p f) s = .next t ∧ (s.on RNG.evcqEn = false → t = s) ∧ (s.on RNG.evcqEn = true → t = s.cqUnreserved
    (s.get RNG.evCq) [(payNat f 0 4 % 2 ^ 32 + 2 ^ 32 * (payNat f 4 3 % 2 ^ 24) + 2 ^ 56 * f.src.toNat + 2 ^ 64 *
    (payNat f 7 4 % 2 ^ 32), 2)])) ∧
  (∀ (s : State) (p : OrbPort) (f : Frame), s.orbUp = true → s.manager = true → frameGood f = true → payByte f 1 = 0
    → s.halves = [] → ∃ t, exec (.telemFrame p f) s = .next t ∧ t =
    { s with halves := [⟨f.src.toNat, payByte f 0 % 16, payNat f 2 2, f.payload.drop 4⟩] }) ∧
  (∀ (s : State) (p : OrbPort) (f : Frame) (h : Half), s.orbUp = true → s.manager = true → frameGood f = true →
    payByte f 1 ≠ 0 → s.halves = [h] → h.src = f.src.toNat → h.stream = payByte f 0 % 16 → h.rseq = payNat f 2 2 → ∃ t,
    exec (.telemFrame p f) s = .next t ∧
    t = ({ s with halves := [] }).telemEntry (Sparse.get 0 s.teleCq (16 * f.src.toNat + payByte f 0 % 16)) h.body
    (f.payload.drop 4)) ∧
  (∀ (s : State) (p : OrbPort) (f : Frame), s.orbUp = true → s.manager = true → frameGood f = true → payByte f 1 ≠ 0
    → (∀ h ∈ s.halves, h.src = f.src.toNat → h.stream = payByte f 0 % 16 → h.rseq ≠ payNat f 2 2) → ∃ t, exec
    (.telemFrame p f) s = .next t ∧ t.counter ECL.tdrop = (s.counter ECL.tdrop + 1) % 2 ^ 48 ∧ t =
    { s with regs := t.regs } ∧ (∀ a, a ≠ ECL.tdrop → a ≠ ECL.tdrop + 4 → t.reg a = s.reg a)) ∧
  (∀ (s : State) (src : Byte) (n : Fin 16) (h : Half), s.halves = [h] → h.src = src.toNat → h.stream = n.val → ∃ t,
    exec (.telemHalfTimeout src n) s = .next t ∧ t.halves = [] ∧ t.counter ECL.tdrop = (s.counter ECL.tdrop + 1) % 2
    ^ 48 ∧ t = { s with regs := t.regs, halves := [] } ∧ (∀ a, a ≠ ECL.tdrop → a ≠ ECL.tdrop + 4 → t.reg a = s.reg
    a)) ∧
  (∀ (s : State) (src : Byte) (n : Fin 16), s.halves = [] → ∃ t, exec (.telemHalfTimeout src n) s = .next t ∧ t = s) ∧
  (∀ (s : State) (r : OrbReq), s.orbUp = true → s.manager = true → s.orbit.reqs = [r] → r.accepted = true → r.next +
    48 < r.image.length → r.image.length ≤ r.next + 96 → ∃ t, exec .fwDataResend s = .next t ∧ (s.on ORB.conflict =
    true → t = s) ∧ (s.on ORB.conflict = false → t.out.take s.out.length = s.out ∧ (t.out.drop
    s.out.length).filter (fun x => decide (x ≠ .emptySlot (s.portTo r.target))) = [0, 1].map (fun k => .frame (s.portTo
    r.target)
    (sealFrame ⟨BitVec.ofNat 8 r.target, 0, 4, BitVec.ofNat 8 r.tag, 0, BitVec.ofNat 8 (5 + ((r.image.drop (r.next +
    48 * k)).take 48).length), [0x0F, 2] ++ bytesOf 3 (r.next + 48 * k) ++ (r.image.drop (r.next + 48 * k)).take 48,
    0, []⟩)) ∧ t = { s with out := t.out, orbit := { s.orbit with slots := t.orbit.slots } })) ∧
  (∀ (s : State), s.orbUp = false ∨ s.manager = false ∨ s.orbit.reqs = [] → ∃ t, exec .fwDataResend s = .next t ∧ t =
    s)

/-- An unaddressed worker that has made no claim, and that is not left over from a full chain unless RETRY is set,
answers a whole ENUM with its serial and the hops to it, claims, and takes its position; it discards a damaged one,
and any other relays it, one that receives it counting a damaged one. ASSIGN of its serial gives it the address and clears its claim, with an acknowledgement, or
with 0xFF marks it CHAIN_FULL; an address that it already holds changes nothing but the relay. The claim ends by a
timeout. The manager answers ENUM_ANS with an ASSIGN of the serial's recorded address or the lowest free one, which
is PRESENT with its position from then on, and the next ENUM, and of two answers with one serial the first counts;
without a free address it raises CHAIN_FULL and assigns 0xFF. ASSIGN_ACK raises UNIT_JOINED, and the last one that
is awaited ends the round. ENUM, ENUM_RETRY and REMEASURE set their bits on the manager, and start where the
sequencer is idle; ORB_RELEASE frees a GONE address alone. None of them acts on a worker, nor a frame on a unit
without power. That the position follows from HOPS, and that UNIT_JOINED waits for the acknowledgement, are the
model's readings (log entries 23 and 43). -/
def Obligations.EnumerationAndAddresses : Prop :=
  (∀ (s : State) (p : OrbPort) (f : Frame), s.workerHears p = true → s.wantsEnum (decide (payByte f 0 = 1)) = true →
    frameGood f = true → s.drives (s.outPort p) = true → f.hops.toNat < 255 → ∃ t, exec (.enumFrame p f) s = .next t
    ∧ t.orbit = { s.orbit with claimed := true } ∧ t.get (if p = .U then ORB.hopsFwd else ORB.hopsRev) = f.hops.toNat
    + 1 ∧ t.out = s.out ++ [.frame (s.outPort p) (sealFrame ⟨0, 0xFF, 0x0A, f.tag, 0, 9, bytesOf 8
    Config.serial.toNat ++ [f.hops], 0, []⟩)] ∧ t = { s with regs := t.regs, out := t.out, orbit := t.orbit } ∧ (∀
    a, a ≠ 0x40018 → t.reg a = s.reg a)) ∧
  (∀ (s : State) (p : OrbPort) (f : Frame), s.workerHears p = true → s.wantsEnum (decide (payByte f 0 = 1)) = false →
    s.receives p f.dest.toNat = true → frameGood f = false → s.drives (s.outPort p) = true → f.hops ≠ 255 → ∃ t,
    exec (.enumFrame p f) s = .next t ∧ t.counter ORB.frameErr = (s.counter ORB.frameErr + 1) % 2 ^ 48 ∧
    (t.reg ORB.event).getLsbD 9 = true ∧ t.out = s.out ++ [.frame (s.outPort p) { f with hops := f.hops + 1 }] ∧
    Framed id [ORB.frameErr, ORB.frameErr + 4, ORB.charErr, ORB.charErr + 4, ORB.event] s t) ∧
  (∀ (s : State) (p : OrbPort) (f : Frame), s.workerHears p = true → s.wantsEnum (decide (payByte f 0 = 1)) = false →
    s.receives p f.dest.toNat = false ∨ frameGood f = true → s.drives (s.outPort p) = true → f.hops ≠ 255 → ∃ t, exec (.enumFrame p f) s = .next t ∧
    t = (s.framing f).emit (.frame
    (s.outPort p) { f with hops := f.hops + 1 })) ∧
  (∀ (s : State) (p : OrbPort) (f : Frame), s.workerHears p = true → s.wantsEnum (decide (payByte f 0 = 1)) = true →
    frameGood f = false → ∃ t, exec (.enumFrame p f) s = .next t ∧ t.out = s.out ∧
    t.counter ORB.frameErr = (s.counter ORB.frameErr + 1) % 2 ^ 48 ∧ (t.reg ORB.event).getLsbD 9 = true ∧
    Framed id [ORB.charErr, ORB.charErr + 4, ORB.frameErr, ORB.frameErr + 4, ORB.event] s t) ∧
  (∀ (s : State) (p : OrbPort) (f : Frame) (c : Instr), c ∈ [.enumAnsFrame p f, .assignAckFrame p f] →
    s.orbUp = false → ∃ t, exec c s = .next t ∧ t = s) ∧
  (∀ (s : State) (p : OrbPort) (f : Frame), s.workerHears p = true → f.dest = 0xFF → s.on ORB.addrValid = false →
    frameGood f = true → f.hops ≠ 255 → s.drives (s.outPort p) = true → payNat f 0 8 = Config.serial.toNat → payByte f
    8 ≠ 0xFF → (∀ a ∈ eventRegs, s.reg a &&& s.reg (a + 4) = 0) → ∃ t, exec (.assignFrame p f) s = .next t ∧ t.get
    ORB.addr = payByte f 8 ∧ t.on ORB.addrValid = true ∧ t.on ORB.chainFull = false ∧ t.orbit.claimed = false ∧
    t.waitq = s.waitq ++ [⟨0, f.payload.getD 8 0, 0x0C, f.tag, 0, 8, bytesOf 8 Config.serial.toNat, 0, []⟩] ∧ t.out
    = s.out ++ [.frame (s.outPort p) { f with hops := f.hops + 1 }] ∧ t =
    { s with regs := t.regs, waitq := t.waitq, out := t.out, orbit := { s.orbit with claimed := false } } ∧ (∀ a, a ≠
    0x40008 → t.reg a = s.reg a)) ∧
  (∀ (s : State) (p : OrbPort) (f : Frame), s.workerHears p = true → f.dest = 0xFF → s.on ORB.addrValid = false →
    frameGood f = true → f.hops ≠ 255 → s.drives (s.outPort p) = true → payNat f 0 8 = Config.serial.toNat → payByte
    f 8 = 0xFF → ∃ t, exec (.assignFrame p f) s = .next t ∧ t.on ORB.chainFull = true ∧ t.on ORB.addrValid = false ∧
    t.orbit.claimed = false ∧ t.out = s.out ++ [.frame (s.outPort p) { f with hops := f.hops + 1 }] ∧ t =
    { s with regs := t.regs, out := t.out, orbit := { s.orbit with claimed := false } } ∧ (∀ a, a ≠ 0x40008 → t.reg a
    = s.reg a)) ∧
  (∀ (s : State) (p : OrbPort) (f : Frame), s.workerHears p = true → f.dest = 0xFF → p = s.outboundIn → s.on
    ORB.addrValid = true → frameGood f = true → f.hops ≠ 255 → s.drives (s.outPort p) = true → ∃ t, exec
    (.assignFrame p f) s = .next t ∧ t = s.emit (.frame (s.outPort p) { f with hops := f.hops + 1 })) ∧
  (∀ (s : State), ∃ t, exec .claimTimeout s = .next t ∧ t = { s with orbit := { s.orbit with claimed := false } }) ∧
  (∀ (s : State) (p po : OrbPort) (f : Frame) (r : Bool) (l : List OrbPort) (a : Nat), s.orbUp = true → s.manager =
    true → frameGood f = true → s.on ORB.conflict = false → s.orbit.seq = .enum r (po :: l) → s.addrFor (BitVec.ofNat
    64 (payNat f 0 8)) = some a → f.payload.length = 9 → ∃ t, exec (.enumAnsFrame p f) s = .next t ∧ t.out.take
    s.out.length = s.out ∧
    (t.out.drop s.out.length).filter (fun x => decide (x ≠ .emptySlot po)) = [.frame po (sealFrame ⟨0xFF, 0, 0x0B, 0,
    0, 9, f.payload.take 8 ++ [BitVec.ofNat 8 a], 0, []⟩), .frame po
    (sealFrame ⟨0xFF, 0, 9, 0, 0, 1, [if r then 1 else 0], 0, []⟩)] ∧
    t.orbit.asked = (if a ∈ s.orbit.asked then s.orbit.asked
    else s.orbit.asked ++ [a]) ∧
    (a ∉ s.orbit.asked → (a, BitVec.ofNat 64 (payNat f 0 8)) ∈ t.orbit.serials ∧ t.get (ORB.mapState a) = 1 ∧
      t.get (ORB.mapArm a) = (if s.on ORB.folded then (if po = .D then 1 else 2) else 0) ∧
      t.get (if po = .D then ORB.mapFwd a else ORB.mapRev a) = (payByte f 8 + 1) % 256 ∧
      t.get ORB.units = t.present254.length) ∧
    (a ∈ s.orbit.asked → t.regs = s.regs) ∧ (∀ x, x ≠ ORB.map a → x ≠ 0x40008 → t.reg x = s.reg x) ∧
    t = { s with regs := t.regs, out := t.out, orbit := { s.orbit with
      serials := t.orbit.serials, asked := t.orbit.asked, slots := t.orbit.slots } }) ∧
  (∀ (s : State) (p po : OrbPort) (f : Frame) (r : Bool) (l : List OrbPort), s.orbUp = true → s.manager = true →
    frameGood f = true → s.on ORB.conflict = false → s.orbit.seq = .enum r (po :: l) → s.addrFor (BitVec.ofNat 64
    (payNat f 0 8)) = none → f.payload.length = 9 → ∃ t, exec (.enumAnsFrame p f) s = .next t ∧
    (t.out.filter (fun x => decide (x ≠ .emptySlot po))).reverse.take 2 = [.frame po (sealFrame ⟨0xFF, 0, 9, 0, 0, 1,
    [if r then 1 else 0], 0, []⟩), .frame po (sealFrame ⟨0xFF, 0, 0x0B, 0, 0, 9, f.payload.take 8 ++ [0xFF], 0, []⟩)] ∧
    (t.reg ORB.event).getLsbD 7 = true ∧ t.orbit = { s.orbit with slots := t.orbit.slots } ∧
    Framed (fun x => { x with orbit := Orbit.reset }) [ORB.event] s t) ∧
  (∀ (s : State) (p po : OrbPort) (f : Frame) (r : Bool) (a : Nat) (l : List OrbPort), s.orbUp = true →
    s.manager = true → frameGood f = true → s.orbit.seq = .enum r (po :: l) → s.orbit.asked = [a] →
    Sparse.get 0 s.orbit.serials a = BitVec.ofNat 64 (payNat f 0 8) → ∃ t,
    exec (.assignAckFrame p f) s = .next t ∧ t.orbit = { s.orbit with asked := [] } ∧
    (t.reg ORB.event).getLsbD 5 = true ∧ Framed (fun x => { x with orbit := Orbit.reset }) [ORB.event] s t) ∧
  (∀ (s : State) (p : OrbPort) (f : Frame) (r : Bool) (a : Nat), s.orbUp = true →
    s.manager = true → frameGood f = true → s.orbit.seq = .enum r [] → s.orbit.asked = [a] →
    Sparse.get 0 s.orbit.serials a = BitVec.ofNat 64 (payNat f 0 8) → ∃ u : State,
    exec (.assignAckFrame p f) s = .next (u.enumEnd r) ∧ u.orbit = { s.orbit with asked := [] } ∧
    (u.reg ORB.event).getLsbD 5 = true ∧ Framed (fun x => { x with orbit := Orbit.reset }) [ORB.event] s u) ∧
  (∀ (s : State) (p : OrbPort) (f : Frame), s.orbUp = true → s.manager = true → frameGood f = true → s.orbit.asked =
    [] → ∃ t, exec (.assignAckFrame p f) s = .next t ∧ t = s) ∧
  (∀ (s : State) (c : Instr), c ∈ [.orbEnum, .orbEnumRetry, .orbRemeasure] → s.writeTakes ORB.ctrl = false ∨
    s.manager = false → ∃ t, exec c s = .next t ∧ t = s) ∧
  (∀ (s : State) (c : Instr) (b : Bool), (c, b) ∈ [(.orbEnum, false), (.orbEnumRetry, true)] →
    s.writeTakes ORB.ctrl = true → s.manager = true → s.orbit.seq ≠ .idle → ∃ t, exec c s = .next t ∧
    t.on (ORB.ctrlBit (if b then 1 else 0)) = true ∧ t.orbit = { s.orbit with enumOwed := s.orbit.enumOwed ++ [b] } ∧
    t = { s with regs := t.regs, orbit := t.orbit } ∧ (∀ a, a ≠ ORB.ctrl → t.reg a = s.reg a)) ∧
  (∀ (s : State) (c : Instr) (b : Bool), (c, b) ∈ [(.orbEnum, false), (.orbEnumRetry, true)] →
    s.writeTakes ORB.ctrl = true → s.manager = true → s.orbit.seq = .idle → s.on ORB.conflict = false →
    s.orbUp = true → s.orbit.remeasure = false → s.orbit.healOwed = false → s.orbit.enumOwed = [] → ∃ t, exec c s = .next t ∧
    t.on (ORB.ctrlBit (if b then 1 else 0)) = true ∧ t.on ORB.busy = true ∧ t.out = s.out ++ (if s.emptyDue .D then
    [.emptySlot .D] else []) ++ [.frame .D (sealFrame ⟨0xFF, 0, 9, 0, 0, 1, [if b then 1 else 0], 0, []⟩)] ∧ t.orbit =
    { s.orbit with seq := .enum b s.castPorts, asked := [], serials := s.orbit.serials.filter (fun x => decide (s.get
    (ORB.mapState x.1) ≠ 0)), slots := t.orbit.slots }
    ∧ t = { s with regs := t.regs, out := t.out, orbit := t.orbit } ∧ (∀ a, a ∉ [ORB.ctrl, 0x40008] → t.reg a = s.reg
    a)) ∧
  (∀ (s : State) (a : Nat) (l : List Nat), s.writeTakes ORB.ctrl = true → s.manager = true → s.orbit.seq = .idle →
    s.on ORB.conflict = false → s.orbUp = true → s.on ORB.folded = false → s.present254 = a :: l → ∃ t, exec .orbRemeasure s = .next t
    ∧ t.on (ORB.ctrlBit 3) = true ∧ t.on ORB.busy = true ∧ t.orbit.seq = .measure ([(a, false), (a, true)] ++ (l.map
    (fun b => [(b, false), (b, true)])).flatten) ∧ t.out = s.out ++ (if s.emptyDue .D then [.emptySlot .D] else []) ++
    [.frame .D (sealFrame ⟨BitVec.ofNat 8 a, 0, 0x0E,
    BitVec.ofNat 8 (s.newTag a), 0, 0, [], 0, []⟩), .mark .D] ∧
    t.orbit = { s.orbit with seq := t.orbit.seq, remeasure := false, delays := [], slots := t.orbit.slots } ∧
    t = { s with regs := t.regs, out := t.out, orbit := t.orbit } ∧ (∀ b, b ∉ [ORB.ctrl, 0x40008] → t.reg b = s.reg b))
    ∧
  (∀ (s : State) (a : Byte), s.writeTakes ORB.release = true → s.manager = true → s.get (ORB.mapState a.toNat) = 2 →
    ∃ t, exec (.orbRelease a) s = .next t ∧ t.reg (ORB.map a.toNat) = 0 ∧ t.orbit =
    { s.orbit with serials := Sparse.del s.orbit.serials a.toNat } ∧ t = { s with regs := t.regs, orbit := t.orbit }
    ∧ (∀ b, b ≠ ORB.map a.toNat → t.reg b = s.reg b)) ∧
  (∀ (s : State) (a : Byte), s.writeTakes ORB.release = false ∨ s.manager = false ∨ s.get (ORB.mapState a.toNat) ≠ 2
    → ∃ t, exec (.orbRelease a) s = .next t ∧ t = s)

/-- A MAP whose bit is clear gives a worker its arm and hops and goes on with the bit set; any other is relayed. The
manager's fold waits for the MAP of each train or its timeout, and then records each present worker's arm, those
that no bitmap shows being GONE; a heal is complete when every present worker's bit is set and folds again
otherwise. A beacon is relayed by a worker; at the manager its own on the right path changes nothing, one that comes
back on the other path is a break, as is a missing one: RING_BROKEN and a MAP on each train, unless a fold runs or a
second manager was seen; one that returns rightly to an unbroken ring clears HEAL; another manager's beacon sets CONFLICT, raises MANAGER_CONFLICT and leaves the sequencer
idle. BEACON_PERIOD sends one on each train. A MARK is relayed, returned by an armed worker, and timed by the
manager. ABORT is counted and relayed, and a receiver of the frame discards it. A lost port raises PORT_LOSS and
wraps a worker there, and there alone (log entry 43), or with both lost neither way; a port that returns raises
PORT_RESTORED and stays wrapped until UNWRAP. A write of HEAL sets it, and a break keeps it, so that it heals a break
that shows only after the write (log entry 43, the model's reading); a heal is asked for only while folded, by HEAL or
AUTO_HEAL with every wrapped port restored, and goes on with UNWRAP to the ends of the arms and MAP. A WAKE for the worker is applied and counted. -/
def Obligations.FoldsHealsBeaconsAndPorts : Prop :=
  (∀ (s : State) (p : OrbPort) (f : Frame), s.workerHears p = true → s.on ORB.addrValid = true → s.get ORB.addr < 255
    → bitOf (payNat f 0 32) (s.get ORB.addr) = false → frameGood f = true → f.hops.toNat < 255 → ∃ t, exec
    (.mapFrame p f) s = .next t ∧ t.get ORB.arm = (if p = .U then 1 else 2) ∧
    t.get (if p = .U then ORB.hopsFwd else ORB.hopsRev) = f.hops.toNat + 1 ∧ t.out = s.out ++ (if s.drives (s.outPort p)
    then [.frame (s.outPort p) { withPayload f (bytesOf 32 (payNat f 0 32 + 2 ^ s.get ORB.addr)) with hops := f.hops +
    1 }]
    else []) ∧ t = { s with regs := t.regs, out := t.out } ∧ (∀ a, a ≠ 0x40018 → t.reg a = s.reg a)) ∧
  (∀ (s : State) (p : OrbPort) (f : Frame), s.workerHears p = true → s.on ORB.addrValid = false ∨ bitOf (payNat f 0
    32) (s.get ORB.addr) = true → s.receives p f.dest.toNat = false ∨ frameGood f = true →
    s.drives (s.outPort p) = true → f.hops ≠ 255 → ∃ t, exec (.mapFrame p f) s = .next
    t ∧ t = (s.framing f).emit (.frame (s.outPort p) { f with hops := f.hops + 1 })) ∧
  (∀ (s : State) (p : OrbPort) (f : Frame), s.workerHears p = true → s.on ORB.addrValid = false ∨ bitOf (payNat f 0
    32) (s.get ORB.addr) = true → s.receives p f.dest.toNat = true → frameGood f = false →
    s.drives (s.outPort p) = true → f.hops ≠ 255 → ∃ t, exec (.mapFrame p f) s = .next t ∧
    t.counter ORB.frameErr = (s.counter ORB.frameErr + 1) % 2 ^ 48 ∧ (t.reg ORB.event).getLsbD 9 = true ∧
    t.out = s.out ++ [.frame (s.outPort p) { f with hops := f.hops + 1 }] ∧
    Framed id [ORB.frameErr, ORB.frameErr + 4, ORB.charErr, ORB.charErr + 4, ORB.event] s t) ∧
  (∀ (s : State) (p : OrbPort) (f : Frame), s.orbUp = true → s.manager = true → frameGood f = true → s.orbit.seq =
    .fold [.D, .U] → f.tag = 1 → ∃ t, exec (.mapReturn p f) s = .next t ∧ t.orbit =
    { s.orbit with seq := .fold [.D], maps := s.orbit.maps ++ [(payNat f 0 32, true)] } ∧ t.on ORB.busy = true ∧ t =
    { s with regs := t.regs, orbit := t.orbit } ∧ (∀ a, a ≠ 0x40008 → t.reg a = s.reg a)) ∧
  (∀ (s : State) (p : OrbPort) (f : Frame), s.orbUp = true → s.manager = true → frameGood f = true → s.orbit.seq =
    .fold [.D] → f.tag = 0 → ∃ t, exec (.mapReturn p f) s = .next t ∧
    t = ({ s with orbit := { s.orbit with maps := s.orbit.maps ++ [(payNat f 0 32, false)] } }).foldEnd ∧
    t.on ORB.folded = true ∧ (t.reg ORB.event).getLsbD 3 = true ∧
    (∀ a : Fin 255, 0 < a.val → s.get (ORB.mapState a) = 1 → t.get (ORB.mapState a) =
    (if (s.orbit.maps ++ [(payNat f 0 32, false)]).any (fun m => bitOf m.1 a) then 1 else 2) ∧
    ((s.orbit.maps ++ [(payNat f 0 32, false)]).any (fun m => bitOf m.1 a) = true → t.get (ORB.mapArm a) =
    (if (s.orbit.maps ++ [(payNat f 0 32, false)]).any (fun m => !m.2 && bitOf m.1 a) then 1 else 2)))) ∧
  (∀ (s : State) (p : OrbPort) (f : Frame), s.orbUp = true → s.manager = true → frameGood f = true → s.orbit.seq =
    .healMap → ∃ t, exec (.mapReturn p f) s = .next t ∧
    t = (if s.present254.all (fun a => bitOf (payNat f 0 32) a)
      then ({ s with orbit := { s.orbit with loop := f.hops.toNat } }).healed else s.foldStart)) ∧
  (∀ (s : State) (p : OrbPort) (f : Frame), s.orbUp = false ∨ s.manager = false ∨ (frameGood f = true ∧ s.orbit.seq =
    .idle) → ∃ t, exec (.mapReturn p f) s = .next t ∧ t = s) ∧
  (∀ (s : State) (tag : Byte), s.orbUp = true → s.manager = true → s.orbit.seq = .fold [.D, .U] → tag = 0 → ∃ t, exec
    (.responseTimeout 0xFF tag) s = .next t ∧ t.orbit = { s.orbit with seq := .fold [.U] } ∧ t =
    { s with regs := t.regs, orbit := t.orbit }) ∧
  (∀ (s : State) (p : OrbPort) (sq : PriSeq), s.workerHears p = true → sq.intact = true → s.drives (s.outPort p) =
    true → s.orbit.restored = 0 → ∃ t, exec (.beaconReceived p sq) s = .next t ∧ t = s.emit (.priority (s.outPort p)
    3 sq)) ∧
  (∀ (s : State) (p : OrbPort) (sq : PriSeq), s.orbUp = true → s.manager = true → sq.intact = true → priGood 3 sq =
    false → exec (.beaconReceived p sq) s = .next s) ∧
  (∀ (s : State) (p : OrbPort) (sq : PriSeq), s.orbUp = true → s.manager = true → priGood 3 sq = true →
    ofBytes (sq.data.take 2) = (s.reg GLB.serialLo).toNat % 2 ^ 16 → s.on ORB.folded = true ∨ p = (if bitOf
    (sq.data.getD 2 0).toNat 7 then .D else .U) → exec (.beaconReceived p sq) s = .next
    (if s.on ORB.folded = false ∧ s.folding = false ∧ s.on (ORB.loss 0) = false ∧ s.on (ORB.loss 1) = false
      then s.put (ORB.ctrlBit 2) 0 else s)) ∧
  (∀ (s : State) (p : OrbPort) (sq : PriSeq), s.orbUp = true → s.manager = true → priGood 3 sq = true → ofBytes
    (sq.data.take 2) = (s.reg GLB.serialLo).toNat % 2 ^ 16 → s.on ORB.folded = false → p = (if bitOf (sq.data.getD 2
    0).toNat 7 then .U else .D) → s.on ORB.conflict = false → s.folding = false → ∃ t, exec (.beaconReceived p sq) s
    = .next t ∧
    (t.reg ORB.event).getLsbD 2 = true ∧ t.on ORB.busy = true ∧ t.orbit =
    { s.orbit with maps := [], healOwed := false, enumOwed := s.orbit.enumOwed ++ s.brokenRound, seq := .fold [.D, .U], slots :=
    t.orbit.slots } ∧ (t.out.filter (fun x => decide (x ≠ .emptySlot .D ∧ x ≠ .emptySlot .U))).reverse.take 2 = [.frame .U (sealFrame
    ⟨0xFF, 0, 0x0D, 1, 0, 32, List.replicate 32 0, 0, []⟩), .frame .D (sealFrame ⟨0xFF, 0, 0x0D, 0, 0, 32,
    List.replicate 32 0, 0, []⟩)] ∧
    Framed (fun x => { x with orbit := Orbit.reset }) [ORB.event, 0x40008] s t) ∧
  (∀ (s : State) (p : OrbPort) (sq : PriSeq), s.orbUp = true → s.manager = true → priGood 3 sq = true → ofBytes
    (sq.data.take 2) ≠ (s.reg GLB.serialLo).toNat % 2 ^ 16 → s.on ORB.conflict = false → ∃ u : State, exec
    (.beaconReceived p sq) s = .next (((u.onsetIfNew 166 false).each s.orbit.reqs (fun r t => t.endReq r 3 0))) ∧
    u.on ORB.conflict = true ∧ (u.reg ORB.event).getLsbD 8 = true ∧ u.causes.testBit 166 = true ∧ u.orbit =
    { s.orbit with seq := .idle } ∧ u.on ORB.busy = false ∧ Framed (fun x =>
    { x with causes := 0, orbit := Orbit.reset }) [0x40008, ORB.event] s u) ∧
  (∀ (s : State), s.orbUp = true → s.manager = true → ∃ t, exec .beaconPeriod s = .next t ∧ t.orbit =
    { s.orbit with beacons := s.orbit.beacons + 1 } ∧ t.out = s.out ++ [.priority .D 3 (priOf (bytesOf 2 ((s.reg
    GLB.serialLo).toNat % 65536) ++ [BitVec.ofNat 8 (s.orbit.beacons % 128)]) none), .priority .U 3 (priOf (bytesOf 2
    ((s.reg GLB.serialLo).toNat % 65536) ++ [BitVec.ofNat 8 (s.orbit.beacons % 128 + 128)]) none)] ∧ t =
    { s with out := t.out, orbit := t.orbit }) ∧
  (∀ (s : State), s.orbUp = false ∨ s.manager = false → ∃ t, exec .beaconPeriod s = .next t ∧ t = s) ∧
  (∀ (s : State) (b : Bool), s.orbUp = true → s.manager = true → s.on ORB.conflict = false → s.folding = false → ∃ t,
    exec (.beaconTimeout b) s = .next t ∧
    (t.reg ORB.event).getLsbD 2 = true ∧ t.on ORB.busy = true ∧ t.orbit =
    { s.orbit with maps := [], healOwed := false, enumOwed := s.orbit.enumOwed ++ s.brokenRound, seq := .fold [.D, .U], slots :=
    t.orbit.slots } ∧ (t.out.filter (fun x => decide (x ≠ .emptySlot .D ∧ x ≠ .emptySlot .U))).reverse.take 2 = [.frame .U (sealFrame
    ⟨0xFF, 0, 0x0D, 1, 0, 32, List.replicate 32 0, 0, []⟩), .frame .D (sealFrame ⟨0xFF, 0, 0x0D, 0, 0, 32,
    List.replicate 32 0, 0, []⟩)] ∧
    Framed (fun x => { x with orbit := Orbit.reset }) [ORB.event, 0x40008] s t) ∧
  (∀ (s : State) (b : Bool), s.orbUp = false ∨ s.manager = false ∨ s.on ORB.conflict = true ∨ s.folding = true → ∃ t,
    exec
    (.beaconTimeout b) s = .next t ∧ t = s) ∧
  (∀ (s : State) (p : OrbPort) (n : Nat), s.workerHears p = true → s.drives (s.outPort p) = true → ∃ t, exec
    (.markReceived p n) s = .next t ∧ t.orbit = { s.orbit with probed := false } ∧ t.out = s.out ++ (if
    s.orbit.probed then [.mark p] else []) ++ [.mark (s.outPort p)] ∧ t = { s with out := t.out, orbit := t.orbit }) ∧
  (∀ (s : State) (p : OrbPort) (n a : Nat) (r : Bool) (b : Nat × Bool) (l : List (Nat × Bool)), s.orbUp = true →
    s.manager = true → s.orbit.seq = .measure ((a, r) :: b :: l) → p = (if r then .U else .D) → s.on ORB.conflict =
    false → 920 ≤ n → ∃ t, exec (.markReceived p n) s = .next t ∧ t.orbit.seq = .measure (b :: l) ∧ (Sparse.get (0,
    0) t.orbit.delays a) = (if r then ((Sparse.get (0, 0) s.orbit.delays a).1, n - 920) else (n - 920, (Sparse.get
    (0, 0) s.orbit.delays a).2)) ∧ t.on ORB.busy = true ∧ t =
    { s with regs := t.regs, out := t.out, orbit := t.orbit } ∧ (∀ x, x ≠ 0x40008 → t.reg x = s.reg x)) ∧
  (∀ (s : State) (p : OrbPort) (d : Byte), s.workerHears p = true → s.receives p d.toNat = true → ∃ t, exec
    (.abortReceived p d) s = .next t ∧ t.out = s.out ++ (if s.drives (s.outPort p) then [.abort (s.outPort p)] else [])
    ∧
    t.counter ORB.abortCnt = (s.counter ORB.abortCnt + 1) % 2 ^ 48 ∧ t.counter ORB.frameErr = (s.counter
    ORB.frameErr + 1) % 2 ^ 48 ∧ (t.reg ORB.event).getLsbD 9 = true ∧ Framed id [ORB.abortCnt, ORB.abortCnt + 4,
    ORB.frameErr, ORB.frameErr + 4, ORB.event] s t) ∧
  (∀ (s : State) (p : OrbPort) (d : Byte), s.workerHears p = true → s.receives p d.toNat = false → ∃ t, exec
    (.abortReceived p d) s = .next t ∧ t.out = s.out ++ (if s.drives (s.outPort p) then [.abort (s.outPort p)] else [])
    ∧
    t.counter ORB.abortCnt = (s.counter ORB.abortCnt + 1) % 2 ^ 48 ∧ t = { s with regs := t.regs, out := t.out } ∧
    (∀ a, a ∉ [ORB.abortCnt, ORB.abortCnt + 4] → t.reg a = s.reg a)) ∧
  (∀ (s : State) (p : OrbPort) (d : Byte), s.orbUp = true → s.manager = true → ∃ t, exec (.abortReceived p d) s = .next
    t ∧
    t.counter ORB.abortCnt = (s.counter ORB.abortCnt + 1) % 2 ^ 48 ∧ t.counter ORB.frameErr = (s.counter
    ORB.frameErr + 1) % 2 ^ 48 ∧ (t.reg ORB.event).getLsbD 9 = true ∧ Framed id [ORB.abortCnt, ORB.abortCnt + 4,
    ORB.frameErr, ORB.frameErr + 4, ORB.event] s t) ∧
  (∀ (s : State) (p : OrbPort) (d : Byte), s.orbUp = false ∨ (s.manager = false ∧ s.workerHears p = false) → ∃ t, exec
    (.abortReceived p d) s = .next t ∧ t = s) ∧
  (∀ (s : State) (p : OrbPort), s.orbUp = true → s.on (ORB.loss (portIdx p)) = false → ∃ t, exec (.portLoss p) s =
    .next t ∧ t.on (ORB.loss (portIdx p)) = true ∧ (t.reg ORB.event).getLsbD 0 = true ∧ (s.manager = false → s.on
    (ORB.loss (portIdx (otherPort p))) = false → t.on (ORB.wrap (portIdx p)) = true) ∧ (s.manager = false → s.on
    (ORB.loss (portIdx (otherPort p))) = true → t.on (ORB.wrap 0) = false ∧ t.on (ORB.wrap 1) = false) ∧ (s.manager =
    true → t.on (ORB.wrap (portIdx p)) = s.on (ORB.wrap (portIdx p))) ∧
    (s.manager = false → s.on (ORB.loss (portIdx (otherPort p))) = false →
    t.on (ORB.wrap (portIdx (otherPort p))) = false) ∧
    t.orbit = { s.orbit with restored := if s.manager = false ∧ s.on (ORB.loss (portIdx (otherPort p))) = false then 0
      else s.orbit.restored &&& (3 - 2 ^ portIdx p) } ∧ Framed (fun x =>
    { x with orbit := Orbit.reset }) [0x40008, ORB.event] s t) ∧
  (∀ (s : State) (p : OrbPort), s.orbUp = false ∨ s.on (ORB.loss (portIdx p)) = true → ∃ t, exec (.portLoss p) s =
    .next t ∧ t = s) ∧
  (∀ (s : State) (p : OrbPort), s.orbUp = true → s.on (ORB.loss (portIdx p)) = true → ∃ t, exec (.portRestored p) s =
    .next t ∧ t.on (ORB.loss (portIdx p)) = false ∧ (t.reg ORB.event).getLsbD 1 = true ∧ (s.on (ORB.wrap (portIdx p))
    = true → t.on (ORB.wrap (portIdx p)) = true) ∧ (s.manager = false → s.on (ORB.wrap (portIdx p)) = true →
    t.orbit.restored.testBit (portIdx p) = true) ∧ (s.manager = false → s.on (ORB.wrap (portIdx p)) = false → s.on
    (ORB.loss (portIdx (otherPort p))) = true → t.on (ORB.wrap (portIdx (otherPort p))) = true) ∧ Framed (fun x =>
    { x with orbit := Orbit.reset }) [0x40008, ORB.event] s t) ∧
  (∀ (s : State) (p : OrbPort), s.orbUp = false ∨ s.on (ORB.loss (portIdx p)) = false → ∃ t, exec (.portRestored p) s
    = .next t ∧ t = s) ∧
  (∀ (s : State) (w : Bool), s.manager = true → s.on ORB.folded = true → s.orbit.seq = .idle → s.on ORB.conflict = false
    → s.orbit.remeasure = false → s.on ORB.autoHeal = true ∨ s.on (ORB.ctrlBit 2) = true ∨ (w = true ∧ s.writeTakes
    ORB.ctrl = true) → ∃ t, exec (.healRequest w true) s = .next t ∧ t.orbit =
    { s.orbit with seq := .healWait, healOwed := false } ∧ t.on ORB.busy = true ∧
    ((w && s.writeTakes ORB.ctrl) = true → t.on (ORB.ctrlBit 2) = true) ∧
    t = { s with regs := t.regs, orbit := t.orbit } ∧ (∀ a, a ∉ [ORB.ctrl, 0x40008] → t.reg a = s.reg a)) ∧
  (∀ (s : State), s.writeTakes ORB.ctrl = true → s.manager = true → ∃ t, exec
    (.healRequest true false) s = .next t ∧ t.on (ORB.ctrlBit 2) = true ∧ t = { s with regs := t.regs } ∧
    (∀ a, a ≠ ORB.ctrl → t.reg a = s.reg a)) ∧
  (∀ (s : State) (w : Bool), s.on ORB.autoHeal = false → s.on (ORB.ctrlBit 2) = false → w = false ∨ s.writeTakes
    ORB.ctrl = false → ∃ t, exec (.healRequest w true) s = .next t ∧ t = s) ∧
  (∀ (s : State) (w r : Bool), s.manager = false ∨ (s.on ORB.folded = false ∧
    (w = false ∨ s.writeTakes ORB.ctrl = false)) →
    ∃ t, exec (.healRequest w r) s = .next t ∧ t = s) ∧
  (∀ (s : State) (r : Bool), s.manager = true → s.writeTakes ORB.ctrl = true → s.on ORB.folded = false →
    ∃ t, exec (.healRequest true r) s = .next t ∧ t.on (ORB.ctrlBit 2) = true ∧
    t = { s with regs := t.regs } ∧ (∀ a, a ≠ ORB.ctrl → t.reg a = s.reg a)) ∧
  (∀ (s : State), s.orbit.seq = .healWait → s.on ORB.conflict = false → s.orbUp = true → ∃ t, exec .healResume s = .next t ∧
    t.orbit = { s.orbit with seq := .healMap, slots := t.orbit.slots } ∧ t.on ORB.busy = true ∧
    (∀ a ∈ [1, 2].filterMap (fun r => s.armEnd r), .frame (s.portTo a) (sealFrame ⟨BitVec.ofNat 8 a, 0, 0x0F,
    BitVec.ofNat
    8 (s.newTag a), 0, 1, [0], 0, []⟩) ∈ t.out) ∧ t.out.getLast? = some (.frame .D (sealFrame ⟨0xFF, 0, 0x0D, 0, 0, 32,
    List.replicate 32 0, 0, []⟩)) ∧ t = { s with regs := t.regs, out := t.out, orbit := t.orbit } ∧
    (∀ a, a ≠ 0x40008 → t.reg a = s.reg a)) ∧
  (∀ (s : State), s.orbit.seq = .healWait → s.on ORB.conflict = true ∨ s.orbUp = false → ∃ t, exec .healResume s = .next t ∧
    t.orbit = { s.orbit with seq := .healMap } ∧ t = { s with regs := t.regs, orbit := t.orbit } ∧
    (∀ a, a ≠ 0x40008 → t.reg a = s.reg a)) ∧
  (∀ (s : State), s.orbit.seq ≠ .healWait → ∃ t, exec .healResume s = .next t ∧ t = s) ∧
  (∀ (s : State) (p : OrbPort) (sq : PriSeq) (tg kind : Byte), s.workerHears p = true → p = s.outboundIn →
    priGood 2 sq = true → sq.data
    = [tg, kind] → s.named tg.toNat = true → s.drives (s.outPort p) = true → s.pwr.phase = .run → kind = 1 ∨ 3 ≤
    kind.toNat → ∃ t, exec (.wakeSeqReceived p sq) s = .next t ∧ t = s.emit (.priority (s.outPort p) 2 (if kind = 1
    then { sq with applied := sq.applied + 1 } else
    { sq with refused := sq.refused + 1, rstat := if sq.refused = 0 then 1 else sq.rstat }))) ∧
  (∀ (s : State) (p : OrbPort) (sq : PriSeq) (tg kind : Byte), s.workerHears p = true → p = s.outboundIn →
    priGood 2 sq = true → sq.data
    = [tg, kind] → s.named tg.toNat = true → ∃ t, exec (.wakeSeqReceived p sq) s = .next t ∧
    t = (s.applyWake kind.toNat).1.passPri p 2 sq (some (s.applyWake kind.toNat).2)) ∧
  (∀ (s : State) (p : OrbPort) (sq : PriSeq) (tg : Byte), s.workerHears p = true → p = s.outboundIn →
    priGood 2 sq = true → sq.data =
    [tg, 0] → s.named tg.toNat = true → s.pwr.phase = .sleep → ∃ u : State, exec (.wakeSeqReceived p sq) s = .next
    ((u.relayPri p 2 { sq with applied := sq.applied + 1 })) ∧ u.pwr.phase = .stage 2 ∧ u.get PWR.target = 0 ∧ u.get
    PWR.wsKind = 2 ∧ (u.reg PWR.event).getLsbD 1 = true) ∧
  (∀ (s : State) (p : OrbPort) (sq : PriSeq), s.workerHears p = true → sq.intact = true →
    (priGood 2 sq && decide (p = s.outboundIn) &&
    s.named (sq.data.getD 0 0).toNat) = false → s.drives (s.outPort p) = true →
    ∃ t, exec (.wakeSeqReceived p sq) s = .next t
    ∧ t = s.emit (.priority (s.outPort p) 2 sq))

/-- An ECLIPSE on the worker's outbound path with a new epoch, the register file on, no capture under way and a bank to
take schedules its capture, ECL_T less the delay of its path away, and counts the unit in APPLIED, as one with an
epoch that it holds does; without REFCLK timing it sets UNTIMED as it passes on. Refused for want of a bank or while
a capture or a copy is in progress, or with the register file off, it counts the refusal, raises CAPTURE_REFUSED and
marks the sequence; a damaged one, and one on the return path, is not acted on. At its instant the chosen bank
becomes FILLING and the newest, with the epoch in its header and every register as it stands (the bins of a run in
progress are partial, log entry 6), ECL_EPOCH, the bank's epoch and ECL_CAPTURES change, and with HCLR the
errors-per-codeword histograms are cleared; a capture that finds no bank or no register file is refused. BANK_READY
makes the FILLING bank READY and raises CAPTURED. A sample of an inactive stream does nothing; while the last record
waits it counts a miss and raises TELEM_MISSED; on a worker it makes its record wait, on the manager it is two
entries of the stream's completion ring, or is dropped and counted where that ring does not run. The record count
goes on in each case, and alone while an entry has stopped sampling (log entry 44, the model's choice). On a worker
the halves of a record go out in turn. That a capture still to be taken counts as one in progress is the model's
reading (log entry 25). -/
def Obligations.CapturesAndTelemetry : Prop :=
  (∀ (s : State) (p : OrbPort) (sq : PriSeq) (e : Word), s.workerHears p = true → p = s.outboundIn →
    priGood 1 sq = true → ofBytes
    sq.data = e.toNat → s.drives (s.outPort p) = true → e ≠ s.reg ECL.epoch → s.shot = none → s.fileUp = true → s.on
    ECL.copyBusy = false → s.chooseBank.isSome = true → ∃ t, exec (.eclipseSeqReceived p sq) s = .next t ∧ t.shot =
    some ⟨e, bitOf sq.flags.toNat 0, s.get (if p = .U then ORB.hopsFwd else ORB.hopsRev), p,
    s.get ORB.eclT - s.get (if p = .U then ORB.delayFwd else ORB.delayRev)⟩ ∧ t.out = s.out ++
    [.priority (s.outPort p) 1
    { sq with flags := if s.on ORB.trimmed then sq.flags else sq.flags ||| 1, applied := sq.applied + 1 }] ∧ t =
    { s with shot := t.shot, out := t.out }) ∧
  (∀ (s : State) (p : OrbPort) (sq : PriSeq) (e : Word), s.workerHears p = true → p = s.outboundIn →
    priGood 1 sq = true → ofBytes
    sq.data = e.toNat → s.drives (s.outPort p) = true → e = s.reg ECL.epoch ∨ s.shot.any (fun x => decide (x.epoch =
    e)) = true → ∃ t, exec (.eclipseSeqReceived p sq) s = .next t ∧ t = s.emit (.priority (s.outPort p) 1
    { sq with flags := if s.on ORB.trimmed then sq.flags else sq.flags ||| 1, applied := sq.applied + 1 })) ∧
  (∀ (s : State) (p : OrbPort) (sq : PriSeq) (e : Word) (st : Nat), s.workerHears p = true → p = s.outboundIn →
    priGood 1 sq = true →
    ofBytes sq.data = e.toNat → s.drives (s.outPort p) = true → e ≠ s.reg ECL.epoch → s.shot.any (fun x => decide
    (x.epoch = e)) = false → sq.refused = 0 → (s.fileUp = false ∧ st = 5) ∨ (s.fileUp = true ∧ (s.on ECL.copyBusy =
    true ∨ s.shot.isSome = true ∨ s.chooseBank = none) ∧ st = 7) → ∃ t, exec (.eclipseSeqReceived p sq) s = .next t ∧
    t.out = s.out ++ [.priority (s.outPort p) 1
    { sq with flags := if s.on ORB.trimmed then sq.flags else sq.flags ||| 1, refused := 1, rstat := BitVec.ofNat 8 st }] ∧
    t.counter ECL.refused = (s.counter ECL.refused + 1) % 2 ^ 48 ∧ (t.reg ECL.event).getLsbD 1 = true ∧ t.reg
    ECL.epoch = s.reg ECL.epoch ∧ Framed id [ECL.refused, ECL.refused + 4, ECL.event] s t) ∧
  (∀ (s : State) (p : OrbPort) (sq : PriSeq), s.workerHears p = true → sq.intact = true →
    priGood 1 sq = false ∨ p ≠ s.outboundIn →
    s.drives (s.outPort p) = true → ∃ t, exec (.eclipseSeqReceived p sq) s = .next t ∧ t = s.emit (.priority (s.outPort
    p) 1 { sq with flags := if s.on ORB.trimmed then sq.flags else sq.flags ||| 1 })) ∧
  (∀ (s : State) (p : OrbPort) (sq : PriSeq), s.workerHears p = false → ∃ t, exec (.eclipseSeqReceived p sq) s = .next
    t ∧ t = s) ∧
  (∀ (s : State) (x : Shot) (b : Fin 2), s.shot = some x → s.fileUp = true → s.chooseBank = some b.val → s.on
    ECL.hclr = false → ∃ t, exec .capture s = .next t ∧ t.shot = none ∧ t.reg ECL.epoch = x.epoch ∧ t.reg (ECL.bepoch
    b) = x.epoch ∧ t.counter ECL.captures = (s.counter ECL.captures + 1) % 2 ^ 48 ∧ t.get (ECL.bank b) = 1 ∧ t.get
    ECL.newest = b.val ∧ t.on ECL.copyBusy = true ∧ (Sparse.get Bank.empty t.banks b).head.headD 0 = x.epoch ∧ (∀ a,
    a ∉ viewedInBank → a ∉ s.runBins → a / 0x10000 ≠ 5 →
    Sparse.get (regReset a) (Sparse.get Bank.empty t.banks b).regs a = s.reg a)
    ∧ t = { s with regs := t.regs, shot := none, banks := t.banks } ∧ (∀ a, a ∉ [ECL.captures, ECL.captures + 4,
    ECL.epoch, ECL.bepoch b, 0x50008] → t.reg a = s.reg a)) ∧
  (∀ (s : State) (x : Shot) (b : Fin 2) (i : Fin 68) (k : Fin 17), s.shot = some x → s.fileUp = true → s.chooseBank =
    some b.val → s.on ECL.hclr = true → ∃ t, exec .capture s = .next t ∧ t.reg (LRX.base i + 0xE00 + 4 * k) = 0 ∧
    t.get (ECL.bank b) = 1 ∧ t.reg ECL.epoch = x.epoch ∧
    t = { s with regs := t.regs, shot := none, banks := t.banks } ∧ (∀ a, a ∉ [ECL.captures, ECL.captures + 4,
    ECL.epoch, ECL.bepoch b, 0x50008] → (lrxOf a).all (fun z => !decide (0xE00 ≤ z.2 ∧ z.2 < 0xE44)) = true →
    t.reg a = s.reg a)) ∧
  (∀ (s : State) (x : Shot), s.shot = some x → s.fileUp = false ∨ s.chooseBank = none → ∃ t, exec .capture s = .next
    t ∧ t.shot = none ∧ t.counter ECL.refused = (s.counter ECL.refused + 1) % 2 ^ 48 ∧ (t.reg ECL.event).getLsbD 1 =
    true ∧ t.reg ECL.epoch = s.reg ECL.epoch ∧ Framed (fun x => { x with shot := none }) [ECL.refused, ECL.refused +
    4, ECL.event] s t) ∧
  (∀ (s : State), s.shot = none → ∃ t, exec .capture s = .next t ∧ t = s) ∧
  (∀ (s : State) (b : Fin 2), s.get (ECL.bank b) = 1 → (b.val = 1 → s.get (ECL.bank 0) ≠ 1) → ∃ t, exec .bankReady s
    = .next t ∧ t.get (ECL.bank b) = 2 ∧ t.on ECL.copyBusy = false ∧ (t.reg ECL.event).getLsbD 0 = true ∧ Framed id
    [0x50008, ECL.event] s t) ∧
  (∀ (s : State), s.get (ECL.bank 0) ≠ 1 → s.get (ECL.bank 1) ≠ 1 → ∃ t, exec .bankReady s = .next t ∧ t = s) ∧
  (∀ (s : State) (n : Fin 16), s.on (ECL.sActive n) = false → ∃ t, exec (.telemSample n) s = .next t ∧ t = s) ∧
  (∀ (s : State) (n : Fin 16), s.on (ECL.sActive n) = true → s.sampling = false →
    ∃ t, exec (.telemSample n) s = .next t ∧
    t.reg (ECL.rseq n) = s.reg (ECL.rseq n) + 1 ∧ t = { s with regs := t.regs } ∧
    (∀ a, a ≠ ECL.rseq n → t.reg a = s.reg a)) ∧
  (∀ (s : State) (n : Fin 16), s.on (ECL.sActive n) = true → s.sampling = true →
    s.fileUp = false ∨ (s.strm n).wait.isSome = true → ∃ t,
    exec (.telemSample n) s = .next t ∧ t.reg (ECL.rseq n) = s.reg (ECL.rseq n) + 1 ∧ (t.reg (ECL.miss n)).toNat =
    min ((s.reg (ECL.miss n)).toNat + 1) (2 ^ 32 - 1) ∧ (t.strm n).missed = true ∧ (t.strm n).wait = (s.strm n).wait
    ∧ (t.reg ECL.event).getLsbD 2 = true ∧ Framed (fun x => { x with streams := [] }) [ECL.rseq n, ECL.miss n,
    ECL.event] s t) ∧
  (∀ (s : State) (n : Fin 16), s.on (ECL.sActive n) = true → s.sampling = true →
    s.fileUp = true → s.manager = false → (s.strm n).wait =
    none → ∃ t, exec (.telemSample n) s = .next t ∧ (t.strm n).wait = some (s.telemHead n, s.telemTail n) ∧ (t.strm
    n).missed = false ∧ t.on (ECL.sPending n) = true ∧ t.reg (ECL.rseq n) = s.reg (ECL.rseq n) + 1 ∧ t =
    { s with regs := t.regs, streams := t.streams } ∧ (∀ a, a ∉ [ECL.rseq n, ECL.stream n] → t.reg a = s.reg a)) ∧
  (∀ (s : State) (n : Fin 16), s.on (ECL.sActive n) = true → s.sampling = true →
    s.fileUp = true → s.manager = true → (s.strm n).wait =
    none → s.get (RNG.state (s.get (ECL.sCq n))) ≠ 1 → ∃ t, exec (.telemSample n) s = .next t ∧ t.counter ECL.tdrop =
    (s.counter ECL.tdrop + 1) % 2 ^ 48 ∧ (t.strm n).missed = false ∧ t.reg (ECL.rseq n) = s.reg (ECL.rseq n) + 1 ∧ t
    = { s with regs := t.regs, streams := t.streams } ∧ (∀ a, a ∉ [ECL.rseq n, ECL.tdrop, ECL.tdrop + 4] → t.reg a =
    s.reg a)) ∧
  (∀ (s : State) (n : Fin 16), s.on (ECL.sActive n) = true → s.sampling = true →
    s.fileUp = true → s.manager = true → s.hostUp = true →
    (s.strm n).wait = none → s.get (RNG.state (s.get (ECL.sCq n))) = 1 → 2 ≤ s.cqRoom (s.get (ECL.sCq n)) → ∃ t, exec
    (.telemSample n) s = .next t ∧ t.get (RNG.cqTail (s.get (ECL.sCq n))) = (s.get (RNG.cqTail (s.get (ECL.sCq n))) +
    2) % 65536 ∧ t.counter ECL.tdrop = s.counter ECL.tdrop ∧ (t.strm n).missed = false ∧
    t.reg (ECL.rseq n) = s.reg (ECL.rseq n) + 1) ∧
  (∀ (s : State) (n : Fin 16) (b : List Byte), s.orbUp = true → s.manager = false → s.on ORB.addrValid = true →
    s.telemWaiting true = some n.val → (s.strm n).wait = some ([], b) → s.drives (s.outPort s.outboundIn) = true → ∃ t,
    exec .workerFrameSend s = .next t ∧ (t.strm n).wait = none ∧ t.on (ECL.sPending n) = false ∧
    t.out = s.out ++ [.frame (s.outPort s.outboundIn) (sealFrame (s.telemFrame n 1 (ofBytes (b.drop 24)) (b.take 24)))]
    ∧
    t = { s with regs := t.regs, streams := t.streams, out := t.out } ∧ (∀ a, a ≠ ECL.stream n → t.reg a = s.reg a)) ∧
  (∀ (s : State) (n : Fin 16) (h b : List Byte), s.orbUp = true → s.manager = false → s.on ORB.addrValid = true →
    s.telemWaiting true = none → s.waitq = [] → s.evFrames = [] → s.telemWaiting false = some n.val → (s.strm n).wait =
    some (h, b) → s.drives (s.outPort s.outboundIn) = true → ∃ t, exec .workerFrameSend s = .next t ∧
    (t.strm n).wait = some ([], b ++ bytesOf 2 (ofBytes ((h.drop 4).take 2))) ∧
    t.out = s.out ++ [.frame (s.outPort s.outboundIn) (sealFrame (s.telemFrame n 0 (ofBytes ((h.drop 4).take 2)) h))] ∧
    t = { s with streams := t.streams, out := t.out })

/-- ECL_EPOCH reads 0 in the reset state. A capture that takes a bank sets it to its epoch. An ECLIPSE descriptor with
EPOCH 0 is not carried out: the checks at dispatch answer BAD_DESC, whatever the ring and the unit. An ECLIPSE whose
epoch equals ECL_EPOCH changes nothing in the worker that it reaches but the sequence that goes on, which counts the
unit in APPLIED; at the manager it schedules no capture and its own part counts as applied. -/
def Obligations.TheEclipseEpoch : Prop :=
  (State.reset.reg ECL.epoch = 0) ∧
  (∀ (s : State) (x : Shot), s.shot = some x → s.fileUp = true → s.chooseBank.isSome = true → ∃ t, exec .capture s =
    .next t ∧ t.reg ECL.epoch = x.epoch) ∧
  (∀ (s : State) (q : Nat) (d : Desc), dType d = 0x07 → dField d 8 4 = 0 → s.descCheck q d = some 0x01) ∧
  (∀ (s : State) (p : OrbPort) (sq : PriSeq), s.workerHears p = true → p = s.outboundIn →
    s.drives (s.outPort p) = true → priGood 1 sq =
    true → BitVec.ofNat 32 (ofBytes sq.data) = s.reg ECL.epoch → ∃ t, exec (.eclipseSeqReceived p sq) s = .next t ∧ t
    = s.emit (.priority (s.outPort p) 1
    { sq with flags := if s.on ORB.trimmed then sq.flags else sq.flags ||| 1, applied := sq.applied + 1 })) ∧
  (∀ (s : State) (q : RingN) (i : BitVec 16) (f : Flight), s.starts q i.toNat 0x07 none = some f → s.isMeasuring =
    false → BitVec.ofNat 32 (dField f.desc 8 4) = s.reg ECL.epoch → s.on ORB.conflict = false → s.orbUp = true → ∃ t,
    exec (.eclipse q i) s = .next t ∧ t.shot = s.shot ∧ t.out = s.out ++ s.castPorts.map (fun o => .priority o 1 (priOf (bytesOf 4
    (dField f.desc 8 4)) (if o = .D then some 0 else none))))

/-- The onset of a source whose island is powered, that is not this unit's own machine and was not live before, makes it
live; with severity 0 nothing more happens, from severity 1 on it sets its status, enters the history and takes the
first-fault record or its overflow bit; from 2 on it raises FAULT_NOTIFY; with 3 its grace timer runs; from 4 on it
escalates, as the safe state from 5 on. A source that is live already only keeps its cause, and does what its
condition does where it occurs: an error in a replay bank invalidates the slot, one in the deferral buffer discards
the flit, one in a key slot invalidates the key, and a PCIe protocol error is counted and shown in AER. A source
whose island has no power does nothing, nor a source of this unit's own machines whose cause is not present; ERASED
of an isolated lane-end that is live already escalates it (log entry 39). The readback source ends with its ball,
which shows in PIN_IN. The end of a source takes its cause, its live bit, its grace timer and a held escalation
away, but for a pair in a wiring fault, which stays present. WIRING_FAULT of a powered pair sets its bits, raises
WIRE_FAULT and is an onset where the source was not live; one known already changes nothing. A recovery ends it. A
grace timer that expires with its cause escalates it, without it only stops, and in DEEP stands. SRCCFG_WRITE sets
severity and grace, and a severity below 3 stops a running timer. Which causes the model holds itself is its choice
(log entry 20). -/
def Obligations.FaultOnsetsAndGrace : Prop :=
  (∀ (s : State) (n : Source), ownCause n = false → s.faultCan n 0 = true →
    n.val < 136 ∨ 160 ≤ n.val → s.on (FLT.live n) = false → s.get
    (FLT.sev n) = 0 → ∃ t, exec (.faultOnset n 0) s = .next t ∧ t.on (FLT.live n) = true ∧ t.causes.testBit n = true
    ∧ t = { s with regs := t.regs, causes := s.causes ||| 2 ^ n.val } ∧ (∀ a, a ≠ (FLT.live n).addr → t.reg a = s.reg
    a)) ∧
  (∀ (s : State) (n : Source), ownCause n = false → s.faultCan n 0 = true →
    n.val < 136 ∨ 160 ≤ n.val → s.on (FLT.live n) = false → 1 ≤ s.get
    (FLT.sev n) → s.get (FLT.sev n) ≤ 3 → s.on FLT.fValid = false → ∃ t, exec (.faultOnset n 0) s = .next t ∧ t.on
    (FLT.live n) = true ∧ t.on (FLT.status n) = true ∧ t.causes.testBit n = true ∧ t.get FLT.fSource = n.val ∧ t.get
    FLT.fSev = s.get (FLT.sev n) ∧ t.on FLT.fValid = true ∧ t.reg FLT.firstEpoch = s.reg ECL.epoch ∧ t.counter
    FLT.firstTime = s.counter ECL.time ∧ t.reg FLT.histSeq = s.reg FLT.histSeq + 1 ∧ (t.reg (FLT.hist ((s.reg
    FLT.histSeq).toNat % 16) 0)).toNat = n.val + 2 ^ 16 * 1 + 2 ^ 24 * s.get (FLT.sev n) ∧ (2 ≤ s.get (FLT.sev n) →
    (t.reg FLT.event).getLsbD 0 = true) ∧ t.grace = (if s.get (FLT.sev n) = 3 then s.grace ||| 2 ^ n.val else
    s.grace) ∧ Framed (fun x => { x with causes := 0, grace := 0 }) [(FLT.live n).addr, (FLT.status n).addr,
    FLT.first, FLT.firstEpoch, FLT.firstTime, FLT.firstTime + 4, FLT.histSeq, FLT.event, FLT.hist ((s.reg
    FLT.histSeq).toNat % 16) 0, FLT.hist ((s.reg FLT.histSeq).toNat % 16) 1, FLT.hist ((s.reg FLT.histSeq).toNat %
    16) 2, FLT.hist ((s.reg FLT.histSeq).toNat % 16) 3] s t) ∧
  (∀ (s : State) (n : Source), ownCause n = false → s.faultCan n 0 = true →
    n.val < 136 ∨ 160 ≤ n.val → s.on (FLT.live n) = false → 1 ≤ s.get
    (FLT.sev n) → s.get (FLT.sev n) ≤ 3 → s.on FLT.fValid = true → ∃ t, exec (.faultOnset n 0) s = .next t ∧ t.on
    (FLT.live n) = true ∧ t.on (FLT.status n) = true ∧ t.on FLT.fOvf = true ∧ t.get FLT.fSource = s.get FLT.fSource ∧
    t.reg FLT.firstEpoch = s.reg FLT.firstEpoch ∧ t.counter FLT.firstTime = s.counter FLT.firstTime) ∧
  (∀ (s : State) (n : Source), ownCause n = false → s.faultCan n 0 = true →
    n.val < 136 ∨ 160 ≤ n.val → s.on (FLT.live n) = false → 4 ≤ s.get
    (FLT.sev n) → ∃ u : State, exec (.faultOnset n 0) s = .next ((u.escalate n (decide (5 ≤ s.get (FLT.sev n))))) ∧
    u.on (FLT.live n) = true ∧ u.on (FLT.status n) = true ∧ (u.reg FLT.event).getLsbD 0 = true) ∧
  (∀ (s : State) (n : Source), ownCause n = false → s.faultCan n 0 = true →
    n.val < 136 ∨ 160 ≤ n.val → s.on (FLT.live n) = true → ∃ t, exec
    (.faultOnset n 0) s = .next t ∧ t = { s with causes := s.causes ||| 2 ^ n.val }) ∧
  (∀ (s : State) (n : Source) (k : Nat), s.faultCan n k = false → ∃ t, exec (.faultOnset n k) s = .next t ∧ t = s) ∧
  (∀ (s : State) (e : Fin 2) (g : Fin 4) (k : Fin 4096) (n : Source), n.val = 137 + 12 * e.val → s.fileUp = true →
    s.on (FLT.live n) = true → ∃ t, exec (.faultOnset n (4096 * g.val + k.val)) s = .next t ∧ t.causes =
    s.causes ||| 2 ^ n.val ∧ (t.eng e g).slots = (s.eng e g).slots.map (fun y => if y.seq = k.val then
    { y with valid := false } else y)) ∧
  (∀ (s : State) (e : Fin 2) (g : Fin 4) (k : Nat) (n : Source), n.val = 138 + 12 * e.val → k < 4096 → s.fileUp = true →
    s.on (FLT.live n) = true → ∃ t, exec (.faultOnset n (4096 * g.val + k)) s = .next t ∧ t.causes = s.causes ||| 2 ^
    n.val ∧ (t.eng e g).defer = (s.eng e g).defer.eraseIdx k ∧ (k < s.get (DIR.deferLeft e g) →
    t.get (DIR.deferLeft e g) = s.get (DIR.deferLeft e g) - 1)) ∧
  (∀ (s : State) (e sd slot : Fin 2) (g : Fin 4) (n : Source), n.val = 140 + 12 * e.val → s.fileUp = true →
    s.on (FLT.live n) = true → ∃ t, exec (.faultOnset n (8 * sd.val + 4 * slot.val + g.val)) s = .next t ∧ t.causes =
    s.causes ||| 2 ^ n.val ∧ (t.key (keyIdx sd slot g)).valid = false) ∧
  (∀ (s : State) (k : Nat), 0 < k → k < 32 → s.fileUp = true → s.on (FLT.live 165) = true → ∃ t, exec (.faultOnset 165
    k)
    s = .next t ∧ t.counter RNG.pcieUncorr = (s.counter RNG.pcieUncorr + 1) % 2 ^ 48 ∧
    t.pcie.aerUncorr.getLsbD k = true ∧ t.causes = s.causes ||| 2 ^ 165 ∧
    t.pcie.devStatus.getLsbD (if s.pcie.aerSev.getLsbD k then 2 else 1) = true) ∧
  (∀ (s : State) (n : Source) (k : Nat), ownCause n = true → s.present n = false → 68 ≤ n.val ∨ s.erasedNow n = false
    → ∃ t, exec (.faultOnset n k) s = .next t ∧ t = s) ∧
  (∀ (s : State) (n : Source), n.val < 68 → s.faultCan n 0 = true → s.erasedNow n = true → s.on (FLT.le n 3) = false →
    s.isIsolated n = true → s.on (FLT.live n) = true → 4 ≤ s.get (FLT.sev n) → ∃ u : State,
    exec (.faultOnset n 0) s = .next (u.escalate n (decide (5 ≤ s.get (FLT.sev n)))) ∧ u.on (FLT.le n 3) = true ∧
    u.causes = s.causes ||| 2 ^ n.val ∧ u = { s with regs := u.regs, causes := u.causes } ∧
    (∀ a, a ≠ FLT.lecause n → u.reg a = s.reg a)) ∧
  (∀ (s : State) (n : Source), ownCause n = true → n.val ≠ 183 → ∃ t, exec (.faultEventExpire n) s = .next t ∧ t = s) ∧
  (∀ (s : State), ∃ t, exec (.faultEventExpire 183) s = .next t ∧ t.causes.testBit 183 = false ∧
    (s.flt.wiring.testBit 183 = false → t.on (FLT.live 183) = false) ∧ t.on FLT.pinIn = !s.faultLow ∧
    t.flt.low = s.faultLow ∧ Framed (fun x => { x with causes := 0, grace := 0, flt := Flt.reset })
    [(FLT.live 183).addr, 0x10008] s t) ∧
  (∀ (s : State) (n : Source), ownCause n = false → s.flt.wiring.testBit n = false → ∃ t, exec (.faultEventExpire n)
    s = .next t ∧ t.causes.testBit n = false ∧ t.grace.testBit n = false ∧ t.on (FLT.live n) = false ∧ t.flt.held =
    s.flt.held.filter (fun m => decide (m ≠ n.val)) ∧ t =
    { s with regs := t.regs, causes := t.causes, grace := t.grace, flt := { s.flt with held := t.flt.held } } ∧ (∀ a,
    a ≠ (FLT.live n).addr → t.reg a = s.reg a)) ∧
  (∀ (s : State) (n : Source), ownCause n = false → s.flt.wiring.testBit n = true → ∃ t, exec (.faultEventExpire n) s
    = .next t ∧ t.causes.testBit n = false ∧ t.on (FLT.live n) = s.on (FLT.live n) ∧ t =
    { s with causes := t.causes }) ∧
  (∀ (s : State) (n : Source), s.flt.wiring.testBit n = true ∨ s.sourceUp n = false → ∃ t, exec (.wiringFault n) s =
    .next
    t ∧ t = s) ∧
  (∀ (s : State) (n : Source), s.flt.wiring.testBit n = false → s.sourceUp n = true → ∃ u : State, exec (.wiringFault
    n) s = .next ((if
    s.on (FLT.live n) then u else u.onset n (s.get (FLT.sev n)) true)) ∧ u.on (FLT.wire n) = true ∧ (u.reg
    FLT.event).getLsbD 4 = true ∧ u.flt.wiring.testBit n = true ∧ u.reg FLT.histSeq = s.reg FLT.histSeq + 1) ∧
  (∀ (s : State) (n : Source) (b : Bool), s.flt.wiring.testBit n = false → ∃ t, exec (.wiringRecovery n b) s = .next
    t ∧ t = s) ∧
  (∀ (s : State) (n : Source) (b : Bool), s.flt.wiring.testBit n = true → ∃ t, exec (.wiringRecovery n b) s = .next t
    ∧ t.flt.wiring.testBit n = false ∧ (b = true → t.causes.testBit n = true ∧ t.regs = s.regs) ∧ (b = false →
    s.causes.testBit n = false → t.on (FLT.live n) = false ∧ t.grace.testBit n = false) ∧ (b = false →
    s.causes.testBit n = true → t.regs = s.regs ∧ t.causes = s.causes) ∧ (∀ a, a ≠ (FLT.live n).addr → t.reg a =
    s.reg a) ∧ Framed (fun x => { x with causes := 0, grace := 0, flt := Flt.reset }) [(FLT.live n).addr] s t) ∧
  (∀ (s : State) (n : Source), s.grace.testBit n = false ∨ s.fileUp = false → ∃ t, exec (.graceExpiry n) s = .next t
    ∧ t = s) ∧
  (∀ (s : State) (n : Source), s.grace.testBit n = true → s.fileUp = true → ∃ t, exec (.graceExpiry n) s = .next t ∧
    t = (if s.present n then ({ s with grace := s.grace &&& (2 ^ 184 - 1 - 2 ^ n.val) }).escalate n false else
    { s with grace := s.grace &&& (2 ^ 184 - 1 - 2 ^ n.val) })) ∧
  (∀ (s : State) (n : Source) (v : Word), s.writeTakes (FLT.srccfg n) = true → s.flt.parity.testBit n = false → ∃ t,
    exec (.srccfgWrite n v) s = .next t ∧ t.reg (FLT.srccfg n) = v &&& 0xFFFFFF07#32 ∧ t.get (FLT.sev n) = v.toNat %
    8 ∧ (v.toNat % 8 < 3 → t.grace.testBit n = false) ∧ (3 ≤ v.toNat % 8 → t.grace = s.grace) ∧ t =
    { s with regs := t.regs, grace := t.grace } ∧ (∀ a, a ≠ FLT.srccfg n → t.reg a = s.reg a)) ∧
  (∀ (s : State) (n : Source) (v : Word), s.writeTakes (FLT.srccfg n) = false → ∃ t, exec (.srccfgWrite n v) s =
    .next t ∧ t = s)

/-- The pulse of FAULT_N ends with its busy bit, and the pin goes high, where no JTAG instruction has taken it, unless
HOLD or the safe state drives it low, which also ends a failed readback. A readback that fails while the unit drives the pin low makes the readback source
present and its onset follow; while the unit does not drive it nothing happens. A parity error of a source word in
native mode reloads the word with its reset value, enters the history, sets the status of COLL_CFG and takes the
record or its COLL bit, and raises COLL_FAULT; one of FLT_CFG reloads it, SAFE_TX from its strap and COMPAT 0, with
the lock open or closed. In compatibility mode a source word keeps its failing value, which is free (log entry 6),
until it is written, and FLT_CFG is reloaded; the error is an onset of the safe-state severity where it was not
live. The level of PIN_IN is the model's choice (log entry 19). -/
def Obligations.CollectorPinAndSelfFaults : Prop :=
  (∀ (s : State), s.on FLT.hold = false → s.safe = false → ∃ t, exec .faultnPulseEnd s = .next t ∧ t.on FLT.pulseBusy
    = false ∧ t.flt.low = false ∧ t.causes.testBit 183 = false ∧ t.out = s.out ++ (if s.flt.low &&
    !s.jtagPins then [.faultN false] else [])) ∧
  (∀ (s : State), (s.on FLT.hold || s.safe) = true → s.flt.low = true → ∃ t, exec .faultnPulseEnd s = .next t ∧ t.on
    FLT.pulseBusy = false ∧ t = { s with regs := t.regs } ∧ (∀ a, a ≠ 0x10008 → t.reg a = s.reg a)) ∧
  (∀ (s : State), s.faultLow = false → ∃ t, exec .faultnReadback s = .next t ∧ t = s) ∧
  (∀ (s : State), s.faultLow = true → s.flt.low = true → ∃ u : State, exec .faultnReadback s = .next ((u.onsetIfNew
    183 false)) ∧ u.causes.testBit 183 = true ∧ u.on FLT.pinIn = true ∧ (∀ a, a ≠ 0x10008 → u.reg a = s.reg a)) ∧
  (∀ (s : State) (n : Source), s.on FLT.compat = false → s.on FLT.fValid = true → n.val ≠ 160 → ∃ t, exec
    (.collSelfFault (some n)) s = .next t ∧ t.reg (FLT.srccfg n) = regReset (FLT.srccfg n) ∧ t.on (FLT.status 160) =
    true ∧ t.on FLT.fColl = true ∧ (t.reg FLT.event).getLsbD 5 = true ∧ t.reg FLT.histSeq = s.reg FLT.histSeq + 1 ∧
    t.flt.parity.testBit n = false ∧ (t.flt.parity = 0 → t.causes.testBit 160 = false) ∧
    Framed (fun x => { x with causes := 0, grace := 0, flt := Flt.reset }) [FLT.srccfg n, (FLT.live 160).addr,
    (FLT.status 160).addr, FLT.first, FLT.histSeq, FLT.event,
    FLT.hist ((s.reg FLT.histSeq).toNat % 16) 0, FLT.hist ((s.reg FLT.histSeq).toNat % 16) 1, FLT.hist ((s.reg
    FLT.histSeq).toNat % 16) 2, FLT.hist ((s.reg FLT.histSeq).toNat % 16) 3] s t) ∧
  (∀ (s : State), s.on FLT.compat = false → s.on FLT.fValid = false → ∃ t, exec (.collSelfFault none) s = .next t ∧
    t.on FLT.compat = false ∧ t.get FLT.safeTx = s.get GLB.strapSafeTx ∧ t.on (FLT.status 160) = true ∧ t.get
    FLT.fSource = 160 ∧ t.on FLT.fValid = true ∧ (t.reg FLT.event).getLsbD 5 = true ∧ Framed id [FLT.cfg, (FLT.status
    160).addr, FLT.first, FLT.firstEpoch, FLT.firstTime, FLT.firstTime + 4, FLT.histSeq, FLT.event, FLT.hist ((s.reg
    FLT.histSeq).toNat % 16) 0, FLT.hist ((s.reg FLT.histSeq).toNat % 16) 1, FLT.hist ((s.reg FLT.histSeq).toNat %
    16) 2, FLT.hist ((s.reg FLT.histSeq).toNat % 16) 3] s t) ∧
  (∀ (s : State) (n : Source), s.on FLT.compat = true → s.on (FLT.live 160) = true → ∃ t, exec (.collSelfFault (some
    n)) s = .next t ∧ t.reg (FLT.srccfg n) = (s.free &&& 0xFFFFFF07#32) ∧ t.flt.parity.testBit n = true ∧
    t.causes.testBit
    160 = true ∧ t.reg FLT.histSeq = s.reg FLT.histSeq + 1 ∧ Framed (fun x =>
    { x with causes := 0, grace := 0, freeCtr := 0, flt := Flt.reset }) [FLT.srccfg n, FLT.histSeq, FLT.hist ((s.reg FLT.histSeq).toNat % 16) 0, FLT.hist
    ((s.reg FLT.histSeq).toNat % 16) 1, FLT.hist ((s.reg FLT.histSeq).toNat % 16) 2, FLT.hist ((s.reg
    FLT.histSeq).toNat % 16) 3] s t) ∧
  (∀ (s : State) (n : Source), s.on FLT.compat = true → s.on (FLT.live 160) = false → ∃ u : State, exec
    (.collSelfFault (some n)) s = .next ((u.onset 160 5 false)) ∧ u.reg (FLT.srccfg n) = (s.free &&& 0xFFFFFF07#32) ∧
    u.causes.testBit 160 = true ∧ u.flt.parity.testBit n = true) ∧
  (∀ (s : State), s.on FLT.compat = true →
    ∃ u : State, exec (.collSelfFault none) s = .next (if s.on (FLT.live 160) then u
    else (u.onset 160 5 false).put (FLT.live 160) 0) ∧ u.on FLT.compat = false ∧
    u.get FLT.safeTx = s.get GLB.strapSafeTx ∧ u.reg FLT.histSeq = s.reg FLT.histSeq + 1 ∧
    Framed id [FLT.cfg, FLT.histSeq, FLT.hist ((s.reg FLT.histSeq).toNat % 16) 0, FLT.hist ((s.reg
    FLT.histSeq).toNat % 16) 1, FLT.hist ((s.reg FLT.histSeq).toNat % 16) 2, FLT.hist ((s.reg FLT.histSeq).toNat % 16) 3] s u)

/-- SLICE_START does nothing without a list or while its slice runs. A slice whose precondition fails gets PRECONDITION,
and a list ends with its last slice and LIST_DONE. An MBIST slice copies the bank under test first, unless it is the
spare; MBIST_ROTATE_DONE makes it the spare and the test begins. An engine scan begins with every key slot invalid.
A loopback slice begins at once on a position that carries no lane, and with the move of the lane elsewhere. A march
without errors passes; one with errors retires the bank, takes the spare away, raises BANK_RETIRED and SLICE_FAIL
and counts a failure. A scan signature without difference makes a tested engine usable, another holds it; a
whole-engine scan that fails makes the source of its own present. A loopback result on a position that carries no
lane, whose lane-ends are ACTIVE and calibrated, with a measurement of every element in the order of the test,
passes, or isolates both lane-ends with BIST_FAIL; one that leaves an element out changes nothing; one that names a
slice or cell that does not exist is no command, nor is such a march result (log entry 36); the order of the results
is log entry 21's. A budget that expires gives TIMEOUT with the consequence of a failure; that of a loopback does not run while its
lane-ends are not ACTIVE or still calibrate. Results without a slice of
their kind in test change nothing. -/
def Obligations.SelfTestSlices : Prop :=
  (∀ (s : State), s.bist = [] → ∃ t, exec .sliceStart s = .next t ∧ t = s) ∧
  (∀ (s : State) (r : BistRun), s.bist = [r] → r.accepted = true → r.stage ≠ .waiting → ∃ t, exec .sliceStart s =
    .next t ∧ t = s) ∧
  (∀ (s : State) (r : BistRun) (x : BistSlice), s.bist = [r] → r.accepted = true → r.stage = .waiting → r.slices =
    [x] → r.k = 0 → r.owner = .nobody → x.kind ≠ 1 → s.slicePre x = false → ∃ t, exec .sliceStart s = .next t ∧
    t.bist = [] ∧ t.on BST.busy = false ∧ (t.reg BST.event).getLsbD 3 = true ∧ t.counter BST.runs = s.counter
    BST.runs ∧ Framed (fun x => { x with bist := [], bistHeld := 0 }) [0x70000, BST.event] s t) ∧
  (∀ (s : State) (r : BistRun) (x : BistSlice), s.bist = [r] → r.accepted = true → r.stage = .waiting → r.slices =
    [x] → r.k = 0 → x.kind = 2 → s.slicePre x = true → ∃ t, exec .sliceStart s = .next t ∧ t =
    { s with bist := [{ r with stage := if s.get (BST.spare (x.sel / 128)) = x.sel % 16 then .testing else .copying }]
    }) ∧
  (∀ (s : State) (r : BistRun) (x : BistSlice) (k : Fin 16), s.bist = [r] → r.accepted = true → r.stage = .waiting →
    r.slices = [x] → r.k = 0 → x.kind = 3 ∨ x.kind = 4 → s.slicePre x = true → ∃ t, exec .sliceStart s = .next t ∧
    (t.key k).valid = false ∧ t.bist = [{ r with stage := .testing }]) ∧
  (∀ (s : State) (r : BistRun) (x : BistSlice), s.bist = [r] → r.stage = .copying → r.slices = [x] → r.k = 0 → x.kind
    = 2 → x.sel / 128 < 2 → ∃ t, exec .mbistRotateDone s = .next t ∧ t.get (BST.spare (x.sel / 128)) = x.sel % 16 ∧
    t.bist = [{ r with stage := .testing }] ∧ t = { s with regs := t.regs, bist := t.bist } ∧ (∀ a, a ≠ 0x70004 →
    t.reg a = s.reg a)) ∧
  (∀ (s : State), s.sliceAt 2 .copying = none → ∃ t, exec .mbistRotateDone s = .next t ∧ t = s) ∧
  (∀ (s : State) (r : BistRun) (x : BistSlice) (m : MarchResult), s.bist = [r] → r.stage = .testing → r.slices = [x]
    → r.k = 0 → r.owner = .nobody → x.kind = 2 → marchOk m = true → m.fails = 0 → ∃ u : State, exec (.mbistDone m) s
    = .next (u.goOn) ∧ u.bist = [] ∧ u.on BST.busy = false ∧ (u.reg BST.event).getLsbD 3 = true ∧ u.counter BST.runs
    = (s.counter BST.runs + 1) % 2 ^ 48 ∧ u.counter BST.fails = s.counter BST.fails ∧ Framed (fun x =>
    { x with bist := [], bistHeld := 0 }) [0x70000, BST.event, BST.runs, BST.runs + 4] s u) ∧
  (∀ (s : State) (r : BistRun) (x : BistSlice) (m : MarchResult) (e : Fin 2), s.bist = [r] → r.stage = .testing →
    r.slices = [x] → r.k = 0 → r.owner = .nobody → x.kind = 2 → x.sel / 128 = e.val → x.sel % 16 ≤ 8 → marchOk m =
    true → m.fails ≠ 0 → ∃ u : State, exec (.mbistDone m) s = .next (u.goOn) ∧ u.bist = [] ∧ bitOf (u.get
    (BST.retired e)) (x.sel % 16) = true ∧ u.get (BST.spare e) = 15 ∧ u.causes.testBit (146 + 12 * e.val) = true ∧
    (u.reg BST.event).getLsbD 0 = true ∧ (u.reg BST.event).getLsbD 2 = true ∧ (u.reg BST.event).getLsbD 3 = true ∧
    u.counter BST.runs = (s.counter BST.runs + 1) % 2 ^ 48 ∧ u.counter BST.fails = (s.counter BST.fails + 1) % 2 ^ 48
    ∧ Framed (fun x => { x with bist := [], bistHeld := 0, causes := 0 }) [0x70000, 0x70004, BST.event, BST.runs,
    BST.runs + 4, BST.fails, BST.fails + 4] s u) ∧
  (∀ (s : State) (m : MarchResult), marchOk m = false → exec (.mbistDone m) s = .fault .illFormed) ∧
  (∀ (s : State) (m : MarchResult), s.sliceAt 2 .testing = none → marchOk m = true → ∃ t, exec (.mbistDone m) s =
    .next t ∧ t = s) ∧
  (∀ (s : State) (r : BistRun) (x : BistSlice) (c : ScanResult) (e : Fin 2), s.bist = [r] → r.stage = .testing →
    r.slices = [x] → r.k = 0 → r.owner = .nobody → x.kind = 3 → x.sel / 128 = e.val → ∃ u : State, exec (.lbistDone
    c) s = .next (u.goOn) ∧ u.bist = [] ∧ u.on (BST.held e) = !decide (c.sigXor = 0) ∧ (u.reg BST.event).getLsbD 3 =
    true ∧ (c.sigXor ≠ 0 → (u.reg BST.event).getLsbD 0 = true)) ∧
  (∀ (s : State) (r : BistRun) (x : BistSlice) (c : ScanResult), s.bist = [r] → r.stage = .testing → r.slices = [x] →
    r.k = 0 → r.owner = .nobody → x.kind = 4 → ∃ u : State, exec (.lbistDone c) s = .next (u.goOn) ∧ u.bist = [] ∧
    (c.sigXor ≠ 0 → u.causes.testBit 181 = true) ∧ (c.sigXor = 0 → u.on (BST.held 0) = false ∧ u.on (BST.held 1) =
    false)) ∧
  (∀ (s : State) (c : ScanResult), s.scanSlice = none → ∃ t, exec (.lbistDone c) s = .next t ∧ t = s) ∧
  (∀ (s : State) (r : BistRun) (x : BistSlice) (l : LoopResult), s.bist = [r] → r.stage = .testing → r.slices = [x] →
    r.k = 0 → r.owner = .nobody → x.kind = 1 → loopOk l = true → resultElems l = s.testElems (sliceIdx x) →
    s.loopJob = none → s.rxActive (sliceIdx x) = true →
    s.txActive (sliceIdx x) = true → (s.rxe (sliceIdx x)).fg = false → (s.txe (sliceIdx x)).fg = false → s.loopPass
    (sliceIdx x) l = true → s.isIsolated (sliceIdx x) = false → ∃ u : State, exec (.loopbackDone l) s = .next (u.goOn)
    ∧ u.bist = [] ∧ u.isolated = s.isolated ∧ (u.reg
    BST.event).getLsbD 3 = true ∧ u.counter BST.runs = (s.counter BST.runs + 1) % 2 ^ 48 ∧ Framed (fun x =>
    { x with bist := [], bistHeld := 0 }) [0x70000, BST.event, BST.runs, BST.runs + 4] s u) ∧
  (∀ (s : State) (r : BistRun) (x : BistSlice) (l : LoopResult), s.bist = [r] → r.stage = .testing → r.slices = [x] →
    r.k = 0 → r.owner = .nobody → x.kind = 1 → sliceIdx x < 68 → loopOk l = true →
    resultElems l = s.testElems (sliceIdx x) → s.loopJob = none → s.rxActive
    (sliceIdx x) = true → s.txActive (sliceIdx x) = true → (s.rxe (sliceIdx x)).fg = false → (s.txe (sliceIdx x)).fg
    = false → s.loopPass (sliceIdx x) l = false → ∃ u : State, exec (.loopbackDone l) s = .next (u.goOn) ∧ u.bist = [] ∧
    u.isIsolated (sliceIdx x) = true ∧ u.on (FLT.le (sliceIdx x) 6) = true ∧ u.on (FLT.le (68 + sliceIdx x) 6) = true
    ∧ (u.reg BST.event).getLsbD 0 = true ∧ u.counter BST.fails = (s.counter BST.fails + 1) % 2 ^ 48) ∧
  (∀ (s : State) (l : LoopResult), loopOk l = true → s.sliceAt 1 .testing = none → ∃ t, exec (.loopbackDone l) s =
    .next t
    ∧ t = s) ∧
  (∀ (s : State) (r : BistRun) (x : BistSlice) (l : LoopResult), s.bist = [r] → r.stage = .testing → r.slices = [x] →
    r.k = 0 → x.kind = 1 → loopOk l = true →
    resultElems l ≠ s.testElems (sliceIdx x) ∨ (s.isIsolated (sliceIdx x) = false ∧
    (s.rxActive (sliceIdx x) = false ∨ s.txActive (sliceIdx x) = false ∨ (s.rxe (sliceIdx x)).fg = true ∨
    (s.txe (sliceIdx x)).fg = true)) → ∃ t, exec
    (.loopbackDone l) s = .next t ∧ t = s) ∧
  (∀ (s : State) (r : BistRun) (x : BistSlice), s.bist = [r] → r.accepted = true → r.stage = .waiting → r.slices =
    [x] → r.k = 0 → x.kind = 1 → s.slicePre x = true → s.sliceCarries x = none → ∃ t, exec .sliceStart s = .next t ∧
    t = s.loopbackDirect x ∧ t.bist.map (fun y => y.stage) = [.testing]) ∧
  (∀ (s : State) (r : BistRun) (x : BistSlice) (g : Port) (n : Nat), s.bist = [r] → r.accepted = true → r.stage =
    .waiting → r.slices = [x] → r.k = 0 → x.kind = 1 → s.slicePre x = true → s.sliceCarries x = some (g.val, n) → ∃ t,
    exec .sliceStart s = .next t ∧ t = ((s.bistStage .moving).pushJob g { Job.blank .loopback (sliceSide x) n with
    home := slicePos x }).goOn) ∧
  (∀ (s : State) (l : LoopResult), loopOk l = false → exec (.loopbackDone l) s = .fault .illFormed) ∧
  (∀ (s : State) (r : BistRun) (x : BistSlice) (e : Fin 2), s.bist = [r] → r.stage = .testing → r.slices = [x] → r.k
    = 0 → r.owner = .nobody → x.kind = 3 → x.sel / 128 = e.val → ∃ u : State, exec .bistBudgetExpiry s = .next
    (u.goOn) ∧ u.bist = [] ∧ u.on (BST.held e) = true ∧ (u.reg BST.event).getLsbD 1 = true ∧ u.counter BST.fails =
    (s.counter BST.fails + 1) % 2 ^ 48) ∧
  (∀ (s : State) (r : BistRun) (x : BistSlice), s.bist = [r] → r.stage = .testing → r.slices = [x] → r.k = 0 →
    x.kind = 1 → s.isIsolated (sliceIdx x) = false → s.rxActive (sliceIdx x) = false ∨ s.txActive (sliceIdx x) = false
    ∨ (s.rxe (sliceIdx x)).fg = true ∨ (s.txe (sliceIdx x)).fg = true → ∃ t, exec .bistBudgetExpiry s = .next t ∧
    t = s) ∧
  (∀ (s : State), s.bist = [] → ∃ t, exec .bistBudgetExpiry s = .next t ∧ t = s)

/-- A write to an unaligned address, or one that is not carried out (ADDR_ERR, ISLAND_DOWN or SAFE_STATE), changes
nothing. A read-write register takes the bits of its fields alone, and with RESTORE_EN the ports go on with what it
allows; a write-1-to-clear register clears the bits written 1; the unit's identity and serial ignore writes.
LOCK_CLOSE closes the setup lock for every write that follows, and the write of GLB_LOCK too; nothing opens it. A
write of a register with fields under the lock: while it is open, every field takes the written value; while closed,
the locked fields keep theirs, the others take the written value, and DENIED is set if a locked field would have
changed. The safe-state setup is among them (in the safe state too), and OFF_EN, SPARE_REACH and the polarity of
every lane-end. RWL_WRITE to a register without such a field does nothing. A boundary-scan instruction that drives
pins takes them only while every port group is disabled; it takes the unit off the Orbit chain, and on a manager
whose link was up that is lost (log entry 43). The others release the pins, which then carry the unit's own levels again, and IDCODE shifts out the
identification; without VDDC the port floats. -/
def Obligations.RegisterWritesAndTheLock : Prop :=
  (∀ (s : State), s.writeTakes GLB.lock = true → ∃ t, exec .lockClose s = .next t ∧ t.on GLB.closed = true ∧ t.on
    GLB.denied = s.on GLB.denied ∧ Framed id [GLB.lock] s t) ∧
  (∀ (s : State), s.writeTakes GLB.lock = false → ∃ t, exec .lockClose s = .next t ∧ t = s) ∧
  (∀ (s : State) (v : Word), s.writeTakes GLB.lock = true → ∃ t, exec (.registerWrite 0xC#24 v) s = .next t ∧ t.on
    GLB.closed = (s.on GLB.closed || v.getLsbD 1) ∧ t.on GLB.denied = (s.on GLB.denied && !v.getLsbD 2) ∧ Framed id
    [GLB.lock] s t) ∧
  (∀ (s : State) (a : Addr) (v : Word), a.toNat % 4 ≠ 0 ∨ s.accessStatus a.toNat ≠ 0 → ∃ t, exec (.registerWrite a v)
    s = .next t ∧ t = s) ∧
  (∀ (s : State) (a : Addr) (v : Word), a ∈ [0#24, 4#24, 8#24] → ∃ t, exec (.registerWrite a v) s = .next t ∧ t = s) ∧
  (∀ (s : State) (am : Addr × Word) (a : Addr) (m v : Word), am ∈ [(0x34#24, 0x3FFF#32),
    (0x10010#24, 0x7F#32), (0x20010#24, 0x3FF#32), (0x50000#24, 1#32), (0x50024#24, 7#32), (0x60018#24, 0x1F#32),
    (0x7000C#24, 0xF#32), (0x8000C#24, 0xFFFFFF#32), (0x9000C#24, 0xFFFFFF#32), (0xA8000#24, 0xFF3F#32), (0xA8014#24,
    7#32)] → am = (a, m) → s.writeTakes a.toNat = true → ∃ t, exec (.registerWrite a v) s = .next t ∧ t.reg a.toNat =
    (s.reg a.toNat &&& ~~~m) ||| (v &&& m) ∧ Framed id [a.toNat] s t) ∧
  (∀ (s : State) (v : Word), s.writeTakes 0x1C8 = true → ∃ t, exec (.registerWrite 0x1C8#24 v) s = .next t ∧
    t = (s.setReg 0x1C8 ((s.reg 0x1C8 &&& ~~~1#32) ||| (v &&& 1#32))).goOn) ∧
  (∀ (s : State) (am : Addr × Word) (a : Addr) (m v : Word), am ∈ [(0x1000C#24, 0x7F#32), (0x2000C#24, 0x3FF#32),
    (0x50020#24, 7#32), (0x60014#24, 0x1F#32), (0x70008#24, 0xF#32), (0x80008#24, 0xFFFFFF#32), (0x90008#24,
    0xFFFFFF#32), (0xA8010#24, 7#32)] → am = (a, m) → s.writeTakes a.toNat = true → ∃ t, exec (.registerWrite a v) s
    = .next t ∧ t.reg a.toNat = s.reg a.toNat &&& ~~~(v &&& m) ∧ Framed id [a.toNat] s t) ∧
  (∀ (s : State) (a : Addr) (v : Word), isLockReg a.toNat = false ∨ s.accessStatus a.toNat ≠ 0 → ∃ t, exec (.rwlWrite
    a v) s = .next t ∧ t = s) ∧
  (∀ (s : State) (v : Word), s.fileUp = true → ∃ t, exec (.rwlWrite 0x10000#24 v) s = .next t ∧ t.reg 0x10000 = (if
    s.on GLB.closed then s.reg 0x10000 else (s.reg 0x10000 &&& 0xFFFFFFFC#32) ||| (v &&& 3#32)) ∧ t.on GLB.denied =
    (s.on GLB.denied || (s.on GLB.closed && decide ((v ^^^ s.reg 0x10000) &&& 3#32 ≠ 0#32))) ∧ Framed id [0x10000,
    GLB.lock] s t) ∧
  (∀ (s : State) (v : Word), s.writeTakes GLB.spareReach = true → ∃ u : State, exec (.rwlWrite 0x1C0#24 v) s = .next
    (u.goOn) ∧ u.reg 0x1C0 = (if s.on GLB.closed then s.reg 0x1C0 else (s.reg 0x1C0 &&& 0xFFFF0000#32) ||| (v &&&
    0xFFFF#32)) ∧ u.on GLB.denied = (s.on GLB.denied || (s.on GLB.closed && decide ((v ^^^ s.reg 0x1C0) &&& 0xFFFF#32
    ≠ 0#32))) ∧ Framed id [0x1C0, GLB.lock] s u) ∧
  (∀ (s : State) (v : Word), s.writeTakes PWR.cfg = true → ∃ u : State, exec (.rwlWrite 0x20004#24 v) s = .next
    (u.settlePower) ∧ u.reg 0x20004 = (if s.on GLB.closed then (s.reg 0x20004 &&& 0xF00000F1#32) ||| (v &&&
    0x0FFFFF0E#32) else (s.reg 0x20004 &&& 0xF00000F0#32) ||| (v &&& 0x0FFFFF0F#32)) ∧ u.on GLB.denied = (s.on
    GLB.denied || (s.on GLB.closed && decide ((v ^^^ s.reg 0x20004) &&& 1#32 ≠ 0#32))) ∧ Framed id [0x20004,
    GLB.lock] s u) ∧
  (∀ (s : State) (i : Fin 68) (a : Addr) (v : Word), a.toNat = LRX.ctrl i → s.writeTakes a.toNat = true → ∃ t, exec
    (.rwlWrite a v) s = .next t ∧ t.reg a.toNat = (if s.on GLB.closed then (s.reg a.toNat &&& ~~~0x73E#32) ||| (v &&&
    0x73E#32) else (s.reg a.toNat &&& ~~~0x73F#32) ||| (v &&& 0x73F#32)) ∧ t.on GLB.denied = (s.on GLB.denied ||
    (s.on GLB.closed && decide ((v ^^^ s.reg a.toNat) &&& 1#32 ≠ 0#32))) ∧ (t.rxe i).detPend = ((s.rxe i).detPend ||
    decide (t.get (LRX.detMode i) ≠ s.get (LRX.detMode i))) ∧ Framed (fun x => { x with rx := [] }) [a.toNat,
    GLB.lock] s t) ∧
  (∀ (s : State) (i : Fin 68) (a : Addr) (v : Word), a.toNat = LTX.ctrl i → s.writeTakes a.toNat = true → v.getLsbD 1
    = false → ∃ t, exec (.rwlWrite a v) s = .next t ∧ t.reg a.toNat = (if s.on GLB.closed then (s.reg a.toNat &&&
    ~~~4#32) ||| (v &&& 4#32) else (s.reg a.toNat &&& ~~~5#32) ||| (v &&& 5#32)) ∧ t.on GLB.denied = (s.on GLB.denied
    || (s.on GLB.closed && decide ((v ^^^ s.reg a.toNat) &&& 1#32 ≠ 0#32))) ∧ Framed id [a.toNat, GLB.lock] s t) ∧
  (∀ (s : State) (c : JtagInstr), c ∈ [.extest, .extestPulse, .extestTrain, .clamp, .highz] → s.fileUp = true →
    s.manager = false ∨ s.on RNG.dlUp = false ∨ s.jtagPins = true ∨ (List.range 4).any (fun g => s.on (GLB.en g)) = true →
    ∃ t, exec (.jtagInstruction c) s = .next t ∧
    t = (if (List.range 4).all (fun g => !s.on (GLB.en g)) then { s with jtag := c } else if s.jtagPins then
      ({ s with jtag := .bypass }).pinLevels else { s with jtag := .bypass })) ∧
  (∀ (s : State) (c : JtagInstr), c ∈ [.extest, .extestPulse, .extestTrain, .clamp, .highz] → s.fileUp = true →
    s.manager = true → s.on RNG.dlUp = true → s.jtagPins = false →
    (List.range 4).all (fun g => !s.on (GLB.en g)) = true →
    exec (.jtagInstruction c) s = .next ((({ s with jtag := c }).pcieError 5).mgmtReset 2) ∧
    ({ s with jtag := c }).orbUp = false) ∧
  (∀ (s : State) (c : JtagInstr), c ∈ [.bypass, .samplePreload] → s.fileUp = true → ∃ t,
    exec (.jtagInstruction c) s = .next t ∧
    t = (if s.jtagPins then ({ s with jtag := c }).pinLevels else { s with jtag := c }) ∧
    ({ s with jtag := c }).pinLevels.out = s.out ++ [.pwrEn s.pwr.rails, .vid (s.get PWR.vid), .faultN s.flt.low]) ∧
  (∀ s : State, s.fileUp = true → ∃ t, exec (.jtagInstruction .idcode) s = .next t ∧ t =
    (if s.jtagPins then ({ s with jtag := .idcode, out := s.out ++ [.idcode idcode] } : State).pinLevels else
    ({ s with jtag := .idcode, out := s.out ++ [.idcode idcode] } : State)) ∧ idcode &&& 0x0FFFFFFF#32 = 0x064346F7#32) ∧
  (∀ (s : State) (c : JtagInstr), s.fileUp = false → exec (.jtagInstruction c) s = .next s)


/-- The unit has one high-word latch. A read of the low word of a 48-bit or 64-bit value loads it with the value's high
word as it is at that instant and returns the low word, whichever requester reads. A read of a high word, of whichever
value, returns the latch and leaves it and everything else as they are, whether or not a low word was read before. The
latch reads zero after a cold reset. A BAR0 read of 2 DW and a REG_READ descriptor with COUNT = 2 that begin at a low
word return the low word and the high word of the same instant. -/
def Obligations.TheHighWordLatch : Prop :=
  (∀ (s : State) (a : Addr), isLowWord a.toNat = true → s.accessStatus a.toNat = 0 → ∃ t, exec (.counterLowRead a) s
    = .next t ∧ t = { s with latch := s.view (a.toNat + 4) }) ∧
  (∀ (s : State) (a : Addr), isLowWord a.toNat = false ∨ s.accessStatus a.toNat ≠ 0 → ∃ t, exec (.counterLowRead a) s
    = .next t ∧ t = s) ∧
  (∀ (s : State) (a : Nat), isLowWord a = true → s.accessStatus a = 0 → s.swRead a =
    ({ s with latch := s.view (a + 4) }, s.view a, 0)) ∧ (∀ (s : State) (a : Nat), isHighWord a = true →
    s.accessStatus a = 0 → s.swRead a = (s, s.latch, 0)) ∧ (∀ s : State, ∃ t, exec .coldReset s = .next t ∧ t.latch =
    0#32) ∧ (State.reset.latch = 0#32) ∧
  (∀ (s : State) (a : Addr), s.manager = true → s.on RNG.dlUp = true → s.pcie.memEnable = true → s.on RNG.d3hot = false
    → s.get RNG.linkPm = 0 → isLowWord a.toNat = true → s.accessStatus a.toNat = 0 → s.accessStatus (a.toNat + 4) = 0 →
    s.pwr.phase = .run → a.toNat % 8 = 0 → ∃ t, exec (.bar0Request ⟨false, a, 2, true, false, [], []⟩) s = .next t ∧
    t = { s with regs := t.regs, latch := s.view (a.toNat + 4), out := s.out ++ [.readData [s.view a.toNat, s.view
    (a.toNat + 4)]], pwr := { s.pwr with wakeAt := some s.clock } } ∧ (∀ b, t.reg b = s.reg b)) ∧
  (∀ (s : State) (q : RingN) (i : BitVec 16) (f : Flight) (a : Nat), s.starts q i.toNat 0x01 none = some f → dTarget
    f.desc = 0 → dField f.desc 11 1 = 2 → dAddr f.desc = a → isLowWord a = true → s.accessStatus a = 0 →
    s.accessStatus (a + 4) = 0 → ∃ t, exec (.regRead q i) s = .next t ∧ t.answerOf q i.toNat = some (0, (s.view
    a).toNat + 2 ^ 32 * (s.view (a + 4)).toNat) ∧ t = { s with rings := t.rings, latch := s.view (a + 4) })

/-- After a cold reset of any state, logical lane n of port p is carried on position 8p + n, on both sides and in both
directions (the transmitters' map and the map that the receivers show), for every n and p; and no lane of any port is
carried on a spare position, P32 or P33. -/
def Obligations.TheDefaultLaneMap : Prop :=
  (∀ s : State, ∃ t, exec .coldReset s = .next t ∧ ∀ (p : Port) (sd : Side) (n : Fin 8), t.lanePos p sd.idx n = some
    (8 * p.val + n.val) ∧ t.rxPos p sd.idx n = some (8 * p.val + n.val) ∧ (∀ x : Nat, 32 ≤ x → t.lanePos p sd.idx n ≠
    some x ∧ t.rxPos p sd.idx n ≠ some x))

/-- For every command c and every state s whose queue begins with c, the step of s is exec of c on s with the queue's
rest: nothing is added around the command. -/
def Obligations.AStepRunsTheFrontCommand : Prop :=
  ∀ (s : State) (c : Instr) (rest : List Instr), s.pending = c :: rest → step s = exec c { s with pending := rest }

/-- With an empty queue the step of every state completes. The tick count rises by one; while REFCLK is present
ECL_TIME, 64 bits, rises by one and wraps, and no other register changes; while it is not, no register changes. Nothing
else changes. That a step on an empty queue is a tick is the model's choice, log entry 10. -/
def Obligations.AnEmptyQueueLetsATickPass : Prop :=
  (∀ s : State, s.pending = [] → s.on GLB.refclkOk = true → ∃ t, step s = .next t ∧
    t.counter ECL.time = (s.counter ECL.time + 1) % 2 ^ 64 ∧
    (∀ a, a ≠ ECL.time → a ≠ ECL.time + 4 → t.reg a = s.reg a) ∧ t = { s with clock := s.clock + 1, regs := t.regs }) ∧
  (∀ s : State, s.pending = [] → s.on GLB.refclkOk = false → ∃ t, step s = .next t ∧
    t = { s with clock := s.clock + 1 })

/-- State.reset meets the invariant of O55: every store is canonical, the asserted rails stand at the front of the
order of R408, and the boot control block names one of the two slots. Its queue is empty, its power controller is held
in reset, and GLB_LOCK.CLOSED, every GLB_PGEN.EN and the high-word latch read 0. Which image the flash holds is the
model's choice, log entry 3. -/
def Obligations.TheResetStateIsLegal : Prop :=
  State.reset.Legal ∧ State.reset.pending = [] ∧ State.reset.pwr.phase = .held ∧ State.reset.on GLB.closed = false ∧
  (∀ g : Port, State.reset.on (GLB.en g) = false) ∧ State.reset.latch = 0#32

/-- For every state that is legal, whether a run reaches it or not: if its step answers a next state, that state is
legal. Every sparse store of the state, and the chain's slot counts and delays, stay in their canonical form (keys
strictly rising, no entry equal to what an unlisted key reads as), the asserted supply rails stay a front part of the
order of R408, and the boot control block goes on naming one of the two flash slots with no third slot valid. -/
def Obligations.EveryStepKeepsTheStateLegal : Prop :=
  ∀ s t : State, s.Legal → step s = .next t → t.Legal

/-- A command of the lane side (lane-ends, segments, flits, sparing, partition entries, calibration cycles, fault
collection and self-test, as laneSide lists them) that completes in any state leaves alone the queue, the tick count,
the high-word latch, the PCIe function but for the writes it owes, the dispatch order and the fence of the rings, the
Tx PLLs, the calibration log's count and the rejects, the temperature dwells, the JTAG pins, the flash, the Orbit
chain, captures, snapshot banks and streams, the reset of the ring engine, and the power controller but for a wake that
an escalation owes. -/
def Obligations.TheLaneSideLeavesTheRestAlone : Prop :=
  ∀ (s t : State) (c : Instr), laneSide c = true → exec c s = .next t → t.kept = s.kept

/-- Every command that completes, in every state, leaves the queue of waiting commands as it is: what waits is the
environment's, and no command drops, adds or reorders it. A reset of any kind leaves it too. That the queue lies
outside every reset is the model's choice (log entries 2 and 30). -/
def Obligations.CommandsLeaveTheQueueAlone : Prop :=
  ∀ (s t : State) (c : Instr), exec c s = .next t → t.pending = s.pending

/-- In every state every command whose operands are well formed completes, but for FW_LOAD_WRITE with an image of
another length than the LENGTH of the descriptor that it starts; FW_LOAD_WRITE completes exactly where the image has
that length. A command whose operands are not well formed ends in illFormed in every state, and no command is ever
refused. That ill-formed operands are no command and end in illFormed is the model's form (log entry 36). -/
def Obligations.WellFormedCommandsComplete : Prop :=
  (∀ (s : State) (c : Instr), c.wf = true → (∀ q i b, c ≠ .fwLoadWrite q i b) → ∃ t, exec c s = .next t) ∧
  (∀ (s : State) (q : RingN) (i : BitVec 16) (b : List Byte),
    (∃ t, exec (.fwLoadWrite q i b) s = .next t) ↔ s.imageOk q i.toNat b = true) ∧
  (∀ (s : State) (c : Instr), c.wf = false → exec c s = .fault .illFormed) ∧
  (∀ (s : State) (c : Instr) (r : Refusal), exec c s ≠ .refused r)

/-- A command that is a write of one register (as writesTo lists them: GUARD_CLR, SRCCFG_WRITE, COEF_WRITE, LOCK_CLOSE,
the Orbit controls, PARTITION_ENTRY_WRITE, TARGET_WRITE, LINK_WAKE, DVFS_REQUEST, HISTOGRAM_RUN_START, the resets by
register, the ring and event-group controls, the port-group, lane-map and timing registers, and COMMIT) leaves the
whole state as it is where a write of that register does not take effect: its island does not answer, or the safe state
ignores it. -/
def Obligations.WritesWithoutEffectChangeNothing : Prop :=
  ∀ (s : State) (c : Instr) (a : Nat), writesTo c = some a → s.writeTakes a = false → exec c s = .next s
end

