-- ==== Sys2Proof/Laws/Sparse.lean ====
section
/-! SUPPORT. The laws of the sparse stores: what is read after a write, and that every write keeps the canonical
form. -/

namespace Sys2Proof.Machine

theorem Sparse.get_del_same {α : Type} (d : α) (m : Sparse α) (k : Nat) : Sparse.get d (Sparse.del m k) k = d := by
  induction m with
  | nil => rfl
  | cons e m ih =>
    obtain ⟨k', v⟩ := e
    by_cases h : k' = k
    · simpa [Sparse.del, h] using ih
    · simpa [Sparse.del, Sparse.get, h] using ih

theorem Sparse.get_del_ne {α : Type} (d : α) (m : Sparse α) {j k : Nat} (hj : j ≠ k) :
    Sparse.get d (Sparse.del m k) j = Sparse.get d m j := by
  induction m with
  | nil => rfl
  | cons e m ih =>
    obtain ⟨k', v⟩ := e
    by_cases h : k' = k
    · subst h; simpa [Sparse.del, Sparse.get, Ne.symm hj] using ih
    · simp only [Sparse.del, if_neg h, Sparse.get, ih]

theorem Sparse.get_ins_same {α : Type} (d : α) (m : Sparse α) (k : Nat) (v : α) :
    Sparse.get d (Sparse.ins m k v) k = v := by
  induction m with
  | nil => simp [Sparse.ins, Sparse.get]
  | cons e m ih =>
    obtain ⟨k', v'⟩ := e
    unfold Sparse.ins
    split
    · simp [Sparse.get]
    · split
      · simp [Sparse.get]
      · rename_i h
        simpa [Sparse.get, Ne.symm h] using ih

theorem Sparse.get_ins_ne {α : Type} (d : α) (m : Sparse α) {j k : Nat} (v : α) (hj : j ≠ k) :
    Sparse.get d (Sparse.ins m k v) j = Sparse.get d m j := by
  induction m with
  | nil => simp [Sparse.ins, Sparse.get, Ne.symm hj]
  | cons e m ih =>
    obtain ⟨k', v'⟩ := e
    unfold Sparse.ins
    split
    · simp [Sparse.get, Ne.symm hj]
    · split
      · rename_i h; subst h; simp [Sparse.get, Ne.symm hj]
      · by_cases h2 : k' = j <;> simp [Sparse.get, h2, ih]

/-- What a written key reads as. -/
@[simp] theorem Sparse.get_set_same {α : Type} [DecidableEq α] (d : α) (m : Sparse α) (k : Nat) (v : α) :
    Sparse.get d (Sparse.set d m k v) k = v := by
  unfold Sparse.set
  split
  · rename_i h; rw [Sparse.get_del_same, h]
  · exact Sparse.get_ins_same d m k v

/-- A write leaves every other key alone. -/
theorem Sparse.get_set_ne {α : Type} [DecidableEq α] (d d' : α) (m : Sparse α) {j k : Nat} (v : α) (hj : j ≠ k) :
    Sparse.get d (Sparse.set d' m k v) j = Sparse.get d m j := by
  unfold Sparse.set
  split
  · exact Sparse.get_del_ne d m hj
  · exact Sparse.get_ins_ne d m v hj

theorem Sparse.risesFrom_mono {α : Type} {lo lo' : Nat} {m : Sparse α} (h : Sparse.risesFrom lo m = true)
    (hl : lo' ≤ lo) : Sparse.risesFrom lo' m = true := by
  cases m with
  | nil => rfl
  | cons e m =>
    obtain ⟨k, v⟩ := e
    simp only [Sparse.risesFrom, Bool.and_eq_true, decide_eq_true_eq] at h ⊢
    exact ⟨by omega, h.2⟩

theorem Sparse.rises_of_risesFrom {α : Type} {lo : Nat} {m : Sparse α} (h : Sparse.risesFrom lo m = true) :
    Sparse.rises m = true := by
  cases m with
  | nil => rfl
  | cons e m =>
    simp only [Sparse.risesFrom, Bool.and_eq_true] at h
    exact h.2

theorem Sparse.risesFrom_del {α : Type} {lo : Nat} {m : Sparse α} (k : Nat) (h : Sparse.risesFrom lo m = true) :
    Sparse.risesFrom lo (Sparse.del m k) = true := by
  induction m generalizing lo with
  | nil => rfl
  | cons e m ih =>
    obtain ⟨k', v⟩ := e
    simp only [Sparse.risesFrom, Bool.and_eq_true, decide_eq_true_eq] at h
    unfold Sparse.del
    split
    · exact ih (Sparse.risesFrom_mono h.2 (by omega))
    · simp [Sparse.risesFrom, h.1, ih h.2]

theorem Sparse.risesFrom_ins {α : Type} {lo : Nat} {m : Sparse α} {k : Nat} (v : α) (hk : lo < k)
    (h : Sparse.risesFrom lo m = true) : Sparse.risesFrom lo (Sparse.ins m k v) = true := by
  induction m generalizing lo with
  | nil => simp [Sparse.ins, Sparse.risesFrom, hk]
  | cons e m ih =>
    obtain ⟨k', v'⟩ := e
    simp only [Sparse.risesFrom, Bool.and_eq_true, decide_eq_true_eq] at h
    unfold Sparse.ins
    split
    · simp [Sparse.risesFrom, hk, h.2]; assumption
    · split
      · rename_i h2; subst h2; simp [Sparse.risesFrom, hk, h.2]
      · simp [Sparse.risesFrom, h.1, ih (lo := k') (by omega) h.2]

theorem Sparse.rises_del {α : Type} {m : Sparse α} (k : Nat) (h : Sparse.rises m = true) :
    Sparse.rises (Sparse.del m k) = true := by
  cases m with
  | nil => rfl
  | cons e m =>
    obtain ⟨k', v⟩ := e
    unfold Sparse.del
    split
    · exact Sparse.rises_of_risesFrom (Sparse.risesFrom_del k h)
    · exact Sparse.risesFrom_del k h

theorem Sparse.rises_ins {α : Type} {m : Sparse α} (k : Nat) (v : α) (h : Sparse.rises m = true) :
    Sparse.rises (Sparse.ins m k v) = true := by
  cases m with
  | nil => rfl
  | cons e m =>
    obtain ⟨k', v'⟩ := e
    unfold Sparse.ins
    split
    · simp [Sparse.rises, Sparse.risesFrom] at h ⊢; exact ⟨‹_›, h⟩
    · split
      · rename_i h2; subst h2; exact h
      · exact Sparse.risesFrom_ins v (by omega) h

theorem Sparse.mem_del {α : Type} {m : Sparse α} {k : Nat} {e : Nat × α} (h : e ∈ Sparse.del m k) : e ∈ m := by
  induction m with
  | nil => exact h
  | cons x m ih =>
    obtain ⟨k', v⟩ := x
    unfold Sparse.del at h
    split at h
    · exact List.mem_cons_of_mem _ (ih h)
    · rcases List.mem_cons.mp h with h | h
      · exact h ▸ List.mem_cons_self
      · exact List.mem_cons_of_mem _ (ih h)

theorem Sparse.mem_ins {α : Type} {m : Sparse α} {k : Nat} {v : α} {e : Nat × α} (h : e ∈ Sparse.ins m k v) :
    e = (k, v) ∨ e ∈ m := by
  induction m with
  | nil => exact .inl (List.mem_singleton.mp h)
  | cons x m ih =>
    obtain ⟨k', v'⟩ := x
    unfold Sparse.ins at h
    split at h
    · exact List.mem_cons.mp h
    · split at h
      · rcases List.mem_cons.mp h with h | h
        · exact .inl h
        · exact .inr (List.mem_cons_of_mem _ h)
      · rcases List.mem_cons.mp h with h | h
        · exact .inr (h ▸ List.mem_cons_self)
        · exact (ih h).imp id (List.mem_cons_of_mem _)

/-- A write keeps the canonical form. -/
theorem Sparse.wf_set {α : Type} [DecidableEq α] {d : Nat → α} {m : Sparse α} (k : Nat) (v : α)
    (h : Sparse.wf d m = true) : Sparse.wf d (Sparse.set (d k) m k v) = true := by
  simp only [Sparse.wf, Bool.and_eq_true, List.all_eq_true, decide_eq_true_eq] at h ⊢
  unfold Sparse.set
  split
  · exact ⟨Sparse.rises_del k h.1, fun e he => h.2 e (Sparse.mem_del he)⟩
  · rename_i hv
    refine ⟨Sparse.rises_ins k v h.1, fun e he => ?_⟩
    rcases Sparse.mem_ins he with rfl | he
    · exact hv
    · exact h.2 e he

theorem Sparse.risesFrom_filterMap {α β : Type} (f : Nat × α → Option (Nat × β)) (hf : ∀ e e', f e = some e' → e'.1 = e.1)
    {lo : Nat} {m : Sparse α} (h : Sparse.risesFrom lo m = true) : Sparse.risesFrom lo (List.filterMap f m) = true := by
  induction m generalizing lo with
  | nil => rfl
  | cons e m ih =>
    simp only [Sparse.risesFrom, Bool.and_eq_true, decide_eq_true_eq] at h
    rw [List.filterMap_cons]
    split
    · exact ih (Sparse.risesFrom_mono h.2 (by omega))
    · rename_i e' he
      have := hf _ _ he
      simp only [Sparse.risesFrom, Bool.and_eq_true, decide_eq_true_eq, this]
      exact ⟨h.1, ih h.2⟩

/-- Dropping and changing entries in place keeps the keys rising. -/
theorem Sparse.rises_filterMap {α β : Type} (f : Nat × α → Option (Nat × β)) (hf : ∀ e e', f e = some e' → e'.1 = e.1)
    {m : Sparse α} (h : Sparse.rises m = true) : Sparse.rises (List.filterMap f m) = true := by
  cases m with
  | nil => rfl
  | cons e m =>
    rw [List.filterMap_cons]
    split
    · exact Sparse.rises_of_risesFrom (Sparse.risesFrom_filterMap f hf h)
    · rename_i e' he
      have := hf _ _ he
      simp only [Sparse.rises, this]
      exact Sparse.risesFrom_filterMap f hf h

end Sys2Proof.Machine
end

