-- ==== Sys2Proof/Laws/Regs.lean ====
section
/-! SUPPORT. The laws of the register store: what a register and a field read as after a write of the same or of
another one. -/

namespace Sys2Proof.Machine

theorem testBit_bitsOf (w lo len i : Nat) :
    (bitsOf w lo len).testBit i = (decide (i < len) && w.testBit (lo + i)) := by
  simp [bitsOf, Nat.testBit_mod_two_pow, Nat.testBit_shiftRight]

theorem testBit_putBits (w lo len v i : Nat) :
    (putBits w lo len v).testBit i =
      if i < lo then w.testBit i else if i < lo + len then v.testBit (i - lo) else w.testBit i := by
  unfold putBits
  have e : w / 2 ^ (lo + len) * 2 ^ (lo + len) + v % 2 ^ len * 2 ^ lo + w % 2 ^ lo =
      2 ^ lo * (2 ^ len * (w / 2 ^ (lo + len)) + v % 2 ^ len) + w % 2 ^ lo := by
    rw [Nat.pow_add]; ring
  rw [e, Nat.testBit_two_pow_mul_add _ (Nat.mod_lt _ (Nat.two_pow_pos lo))]
  split
  · rename_i h; simp [Nat.testBit_mod_two_pow, h]
  · rename_i h
    rw [Nat.testBit_two_pow_mul_add _ (Nat.mod_lt _ (Nat.two_pow_pos len))]
    by_cases h2 : i < lo + len
    · have : i - lo < len := by omega
      simp [h2, this, Nat.testBit_mod_two_pow]
    · have h3 : ¬ i - lo < len := by omega
      have h4 : lo + len + (i - lo - len) = i := by omega
      simp [h2, h3, Nat.testBit_div_two_pow]
      rw [← h4]; congr 1; omega

@[simp] theorem bitsOf_putBits_same (w lo len v : Nat) : bitsOf (putBits w lo len v) lo len = v % 2 ^ len := by
  apply Nat.eq_of_testBit_eq; intro i
  rw [testBit_bitsOf, testBit_putBits, Nat.testBit_mod_two_pow]
  by_cases h : i < len
  · have : ¬ lo + i < lo := by omega
    simp [h]
  · simp [h]

theorem bitsOf_putBits_disjoint (w lo len v lo' len' : Nat) (h : lo' + len' ≤ lo ∨ lo + len ≤ lo') :
    bitsOf (putBits w lo len v) lo' len' = bitsOf w lo' len' := by
  apply Nat.eq_of_testBit_eq; intro i
  rw [testBit_bitsOf, testBit_bitsOf, testBit_putBits]
  by_cases hi : i < len'
  · simp only [hi, decide_true, Bool.true_and]
    rcases h with h | h
    · rw [if_pos (by omega)]
    · rw [if_neg (by omega), if_neg (by omega)]
  · simp [hi]

theorem bitsOf_mod_two_pow (w n lo len : Nat) (h : lo + len ≤ n) : bitsOf (w % 2 ^ n) lo len = bitsOf w lo len := by
  apply Nat.eq_of_testBit_eq; intro i
  rw [testBit_bitsOf, testBit_bitsOf, Nat.testBit_mod_two_pow]
  by_cases hi : i < len
  · have : lo + i < n := by omega
    simp [hi, this]
  · simp [hi]

/-- What a written register reads as. -/
@[simp] theorem State.reg_setReg_same (s : State) (a : Nat) (w : Word) : (s.setReg a w).reg a = w :=
  Sparse.get_set_same _ _ _ _

/-- A register write leaves every other register alone. -/
theorem State.reg_setReg_ne (s : State) {a b : Nat} (w : Word) (h : b ≠ a) : (s.setReg a w).reg b = s.reg b :=
  Sparse.get_set_ne _ _ _ _ h

theorem State.reg_setReg (s : State) (a b : Nat) (w : Word) :
    (s.setReg a w).reg b = if b = a then w else s.reg b := by
  split
  · rename_i h; subst h; simp
  · exact State.reg_setReg_ne s w ‹_›

/-- A field write leaves every other register alone. -/
theorem State.reg_put_ne (s : State) (f : Fld) (v : Nat) {b : Nat} (h : b ≠ f.addr) : (s.put f v).reg b = s.reg b :=
  State.reg_setReg_ne s _ h

theorem State.reg_put_same (s : State) (f : Fld) (v : Nat) :
    (s.put f v).reg f.addr = BitVec.ofNat 32 (putBits (s.reg f.addr).toNat f.lo f.len v) :=
  State.reg_setReg_same s _ _

/-- What a written field reads as, for a field that lies within its register. -/
theorem State.get_put_same (s : State) (f : Fld) (v : Nat) (h : f.lo + f.len ≤ 32) :
    (s.put f v).get f = v % 2 ^ f.len := by
  unfold State.get
  rw [State.reg_put_same, BitVec.toNat_ofNat, bitsOf_mod_two_pow _ _ _ _ h, bitsOf_putBits_same]

/-- A field write leaves the fields of other registers alone. -/
theorem State.get_put_ne (s : State) (f g : Fld) (v : Nat) (h : g.addr ≠ f.addr) : (s.put f v).get g = s.get g := by
  unfold State.get; rw [State.reg_put_ne s f v h]

/-- A field write leaves the other fields of its register alone. -/
theorem State.get_put_disjoint (s : State) (f g : Fld) (v : Nat) (hg : g.lo + g.len ≤ 32)
    (h : g.lo + g.len ≤ f.lo ∨ f.lo + f.len ≤ g.lo) : (s.put f v).get g = s.get g := by
  by_cases ha : g.addr = f.addr
  · unfold State.get
    rw [ha, State.reg_put_same, BitVec.toNat_ofNat, bitsOf_mod_two_pow _ _ _ _ hg, bitsOf_putBits_disjoint _ _ _ _ _ _ h]
  · exact State.get_put_ne s f g v ha

/-- A field of a register that is written reads its bits of the value. -/
theorem State.get_setReg_same (s : State) (f : Fld) (w : Word) : (s.setReg f.addr w).get f = bitsOf w.toNat f.lo f.len := by
  unfold State.get; rw [State.reg_setReg_same]

theorem State.get_setReg_ne (s : State) (f : Fld) {a : Nat} (w : Word) (h : f.addr ≠ a) :
    (s.setReg a w).get f = s.get f := by
  unfold State.get; rw [State.reg_setReg_ne s w h]

theorem State.on_put_one (s : State) (f : Fld) (h : f.lo + f.len ≤ 32) (hl : 0 < f.len) : (s.put f 1).on f = true := by
  unfold State.on
  rw [State.get_put_same s f 1 h, Nat.mod_eq_of_lt (Nat.one_lt_two_pow (by omega))]
  rfl

theorem State.on_put_zero (s : State) (f : Fld) (h : f.lo + f.len ≤ 32) : (s.put f 0).on f = false := by
  unfold State.on
  rw [State.get_put_same s f 0 h, Nat.zero_mod]
  rfl

/-- What a written counter holds. -/
theorem State.counter_setCounter (s : State) (a v : Nat) (h : v < 2 ^ 64) : (s.setCounter a v).counter a = v := by
  unfold State.counter State.setCounter
  rw [State.reg_setReg_ne _ _ (by omega), State.reg_setReg_same, State.reg_setReg_same]
  simp only [BitVec.toNat_ofNat]
  omega

/-- A counter write leaves every other register alone. -/
theorem State.reg_setCounter_ne (s : State) (a v : Nat) {b : Nat} (h : b ≠ a) (h4 : b ≠ a + 4) :
    (s.setCounter a v).reg b = s.reg b := by
  unfold State.setCounter
  rw [State.reg_setReg_ne _ _ h4, State.reg_setReg_ne _ _ h]

/-- A 48-bit counter goes up by one and wraps (R61). -/
theorem State.counter_count (s : State) (a : Nat) : (s.count a).counter a = (s.counter a + 1) % 2 ^ 48 := by
  unfold State.count State.countBy
  exact State.counter_setCounter s a _ (by omega)

theorem State.reg_count_ne (s : State) (a : Nat) {b : Nat} (h : b ≠ a) (h4 : b ≠ a + 4) :
    (s.count a).reg b = s.reg b :=
  State.reg_setCounter_ne s a _ h h4

/-- A saturating count goes up by one until it is full (R274, R351). -/
theorem State.satCount_same (s : State) (a : Nat) :
    ((s.satCount a).reg a).toNat = min ((s.reg a).toNat + 1) (2 ^ 32 - 1) := by
  unfold State.satCount satSucc
  rw [State.reg_setReg_same, BitVec.toNat_ofNat]
  split <;> omega

@[simp] theorem State.reg_resetReg_same (s : State) (a : Nat) : (s.resetReg a).reg a = regReset a :=
  State.reg_setReg_same s a _

end Sys2Proof.Machine
end

