-- ==== Sys2Proof/Laws/Events.lean ====
section
/-! SUPPORT. What the onset of an event can change: its own event register, the ring engine's registers
(block 3 of the map), the rings, the outputs and the EVENT frames; nothing else. -/

namespace Sys2Proof.Machine

theorem State.get_lt (s : State) (f : Fld) : s.get f < 2 ^ f.len := Nat.mod_lt _ (Nat.two_pow_pos _)

/-- Apart from registers, rings, outputs and EVENT frames the two states agree. -/
def SameButEvents (s t : State) : Prop :=
  t = { s with regs := t.regs, rings := t.rings, out := t.out, evFrames := t.evFrames }

/-- `t` follows from `s` by forwarding alone: the registers outside block 3 stay. -/
structure Forwarded (s t : State) : Prop where
  same : SameButEvents s t
  reg  : ∀ a, a / 0x10000 ≠ 3 → t.reg a = s.reg a

theorem Forwarded.refl (s : State) : Forwarded s s := ⟨rfl, fun _ _ => rfl⟩

theorem Forwarded.trans {s t u : State} (h : Forwarded s t) (k : Forwarded t u) : Forwarded s u := by
  refine ⟨?_, fun a ha => (k.reg a ha).trans (h.reg a ha)⟩
  have h1 := h.same
  have h2 := k.same
  unfold SameButEvents at *
  rw [h2, h1]

theorem Forwarded.setReg {s t : State} (h : Forwarded s t) {a : Nat} (w : Word) (ha : a / 0x10000 = 3) :
    Forwarded s (t.setReg a w) :=
  h.trans ⟨rfl, fun b hb => State.reg_setReg_ne t w (by intro e; subst e; exact hb ha)⟩

theorem Forwarded.put {s t : State} (h : Forwarded s t) {f : Fld} (v : Nat) (hf : f.addr / 0x10000 = 3) :
    Forwarded s (t.put f v) := h.setReg _ hf

theorem Forwarded.emit {s t : State} (h : Forwarded s t) (o : Out) : Forwarded s (t.emit o) :=
  h.trans ⟨rfl, fun _ _ => rfl⟩

theorem Forwarded.updRing {s t : State} (h : Forwarded s t) (q : Nat) (f : Ring → Ring) : Forwarded s (t.updRing q f) :=
  h.trans ⟨rfl, fun _ _ => rfl⟩

theorem Forwarded.hostWrite {s t : State} (h : Forwarded s t) (a : Nat) (d : List Word) :
    Forwarded s (t.hostWrite a d) := by
  unfold State.hostWrite
  split
  · exact h.emit _
  · exact h

theorem Forwarded.msix {s t : State} (h : Forwarded s t) {v : Nat} (hv : v < 64) : Forwarded s (t.msix v) := by
  unfold State.msix
  split
  · split
    · refine h.put 1 ?_
      simp only [RNG.pba]; omega
    · exact h.emit _
  · exact h

theorem Forwarded.satCount {s t : State} (h : Forwarded s t) {a : Nat} (ha : a / 0x10000 = 3) :
    Forwarded s (t.satCount a) := h.setReg _ ha

theorem Forwarded.writeShadow {s t : State} (h : Forwarded s t) (q : Nat) : Forwarded s (t.writeShadow q) := by
  unfold State.writeShadow
  split
  · exact h.emit _
  · split
    · exact h
    · exact h.updRing _ _

theorem Forwarded.cqSignal {s t : State} (h : Forwarded s t) (q : Nat) (b : Bool) : Forwarded s (t.cqSignal q b) := by
  unfold State.cqSignal
  split
  · split
    · exact (h.msix (State.get_lt t (RNG.vector q))).updRing _ _
    · exact h.updRing _ _
  · exact h

theorem Forwarded.cqEntry {s t : State} (h : Forwarded s t) {q : Nat} (hq : q < 64) (b k r : Nat) :
    Forwarded s (t.cqEntry q b k r) := by
  unfold State.cqEntry
  refine (((Forwarded.updRing (h.put _ ?_) _ _).writeShadow _).hostWrite _ _).hostWrite _ _
  simp only [RNG.cqTail, RNG.q]; omega

theorem Forwarded.each {α : Type} {s : State} (l : List α) (f : α → State → State)
    (hf : ∀ x t, Forwarded s t → Forwarded s (f x t)) {t : State} (h : Forwarded s t) : Forwarded s (t.each l f) := by
  unfold State.each
  induction l generalizing t with
  | nil => exact h
  | cons x l ih => exact ih (hf x t h)

theorem Forwarded.cqUnreserved {s t : State} (h : Forwarded s t) {q : Nat} (hq : q < 64) (l : List (Nat × Nat)) :
    Forwarded s (t.cqUnreserved q l) := by
  unfold State.cqUnreserved
  split
  · exact h
  · split
    · refine (h.satCount ?_).updRing _ _
      simp only [RNG.cqdrop, RNG.q]; omega
    · exact (Forwarded.each l _ (fun x t ht => ht.cqEntry hq _ _ _) h).cqSignal _ _

theorem Forwarded.eventEntry {s t : State} (h : Forwarded s t) (b a r e : Nat) : Forwarded s (t.eventEntry b a r e) := by
  unfold State.eventEntry
  split
  · exact h.cqUnreserved (State.get_lt t RNG.evCq) _
  · exact h

theorem Forwarded.evSummary {s t : State} (h : Forwarded s t) (n : Nat) : Forwarded s (t.evSummary n) := by
  unfold State.evSummary State.when
  split
  · exact h
  · have h2 : Forwarded s (t.put (RNG.sum n) 1) := h.put 1 (by norm_num [RNG.sum])
    split
    · exact h2.msix (State.get_lt _ (RNG.grpVector n))
    · exact h2

theorem Forwarded.forwardEvents {s t : State} (h : Forwarded s t) (a b : Nat) : Forwarded s (t.forwardEvents a b) := by
  unfold State.forwardEvents
  split
  · exact h
  · split
    · split
      · exact h.evSummary _
      · exact h.eventEntry _ _ _ _
    · split
      · exact h.trans ⟨rfl, fun _ _ => rfl⟩
      · exact h

/-- An onset sets its bits in the event register (R62, R441). -/
theorem State.reg_raiseBits_same (s : State) (a b : Nat) (ha : a / 0x10000 ≠ 3) :
    (s.raiseBits a b).reg a = s.reg a ||| BitVec.ofNat 32 b := by
  unfold State.raiseBits
  rw [((Forwarded.refl _).forwardEvents _ _).reg a ha, State.reg_setReg_same]

/-- An onset leaves every other register outside block 3 alone. -/
theorem State.reg_raiseBits_ne (s : State) (a b : Nat) {c : Nat} (hc : c / 0x10000 ≠ 3) (h : c ≠ a) :
    (s.raiseBits a b).reg c = s.reg c := by
  unfold State.raiseBits
  rw [((Forwarded.refl _).forwardEvents _ _).reg c hc, State.reg_setReg_ne _ _ h]

theorem State.raiseBits_same (s : State) (a b : Nat) : SameButEvents s (s.raiseBits a b) := by
  have h := ((Forwarded.refl (s.setReg a (s.reg a ||| BitVec.ofNat 32 b))).forwardEvents a
    (b &&& (s.reg (a + 4)).toNat)).same
  unfold SameButEvents State.raiseBits at *
  rw [h]; rfl

theorem State.reg_raise_same (s : State) (a b : Nat) (ha : a / 0x10000 ≠ 3) :
    (s.raise a b).reg a = s.reg a ||| BitVec.ofNat 32 (2 ^ b) := s.reg_raiseBits_same a _ ha

theorem State.reg_raise_ne (s : State) (a b : Nat) {c : Nat} (hc : c / 0x10000 ≠ 3) (h : c ≠ a) :
    (s.raise a b).reg c = s.reg c := s.reg_raiseBits_ne a _ hc h

theorem State.raise_same (s : State) (a b : Nat) : SameButEvents s (s.raise a b) := s.raiseBits_same a _

/-- The event bit that an onset sets reads 1. -/
theorem State.raise_bit (s : State) (a : Nat) {b : Nat} (ha : a / 0x10000 ≠ 3) (hb : b < 32) :
    ((s.raise a b).reg a).getLsbD b = true := by
  rw [State.reg_raise_same s a b ha, BitVec.getLsbD_or, BitVec.getLsbD_ofNat]
  simp [hb, Nat.testBit_two_pow_self]

end Sys2Proof.Machine
end

