-- ==== Sys2Proof/Laws/State.lean ====
section
/-! SUPPORT. What each update of the state leaves alone, one lemma per field per update, and what the accessors read
after it. -/

namespace Sys2Proof.Machine

variable (s : State)

@[simp] theorem State.setReg_pending (a : Nat) (w : Word) : (s.setReg a w).pending = s.pending := rfl
@[simp] theorem State.setReg_clock (a : Nat) (w : Word) : (s.setReg a w).clock = s.clock := rfl
@[simp] theorem State.setReg_freeCtr (a : Nat) (w : Word) : (s.setReg a w).freeCtr = s.freeCtr := rfl
@[simp] theorem State.setReg_latch (a : Nat) (w : Word) : (s.setReg a w).latch = s.latch := rfl
@[simp] theorem State.setReg_out (a : Nat) (w : Word) : (s.setReg a w).out = s.out := rfl
@[simp] theorem State.setReg_pcie (a : Nat) (w : Word) : (s.setReg a w).pcie = s.pcie := rfl
@[simp] theorem State.setReg_rings (a : Nat) (w : Word) : (s.setReg a w).rings = s.rings := rfl
@[simp] theorem State.setReg_dispatched (a : Nat) (w : Word) : (s.setReg a w).dispatched = s.dispatched := rfl
@[simp] theorem State.setReg_fenceHeld (a : Nat) (w : Word) : (s.setReg a w).fenceHeld = s.fenceHeld := rfl
@[simp] theorem State.setReg_evFrames (a : Nat) (w : Word) : (s.setReg a w).evFrames = s.evFrames := rfl
@[simp] theorem State.setReg_rx (a : Nat) (w : Word) : (s.setReg a w).rx = s.rx := rfl
@[simp] theorem State.setReg_tx (a : Nat) (w : Word) : (s.setReg a w).tx = s.tx := rfl
@[simp] theorem State.setReg_segs (a : Nat) (w : Word) : (s.setReg a w).segs = s.segs := rfl
@[simp] theorem State.setReg_engs (a : Nat) (w : Word) : (s.setReg a w).engs = s.engs := rfl
@[simp] theorem State.setReg_lts (a : Nat) (w : Word) : (s.setReg a w).lts = s.lts := rfl
@[simp] theorem State.setReg_ports (a : Nat) (w : Word) : (s.setReg a w).ports = s.ports := rfl
@[simp] theorem State.setReg_waitq (a : Nat) (w : Word) : (s.setReg a w).waitq = s.waitq := rfl
@[simp] theorem State.setReg_plls (a : Nat) (w : Word) : (s.setReg a w).plls = s.plls := rfl
@[simp] theorem State.setReg_calSeq (a : Nat) (w : Word) : (s.setReg a w).calSeq = s.calSeq := rfl
@[simp] theorem State.setReg_calReqs (a : Nat) (w : Word) : (s.setReg a w).calReqs = s.calReqs := rfl
@[simp] theorem State.setReg_rejects (a : Nat) (w : Word) : (s.setReg a w).rejects = s.rejects := rfl
@[simp] theorem State.setReg_dwell (a : Nat) (w : Word) : (s.setReg a w).dwell = s.dwell := rfl
@[simp] theorem State.setReg_causes (a : Nat) (w : Word) : (s.setReg a w).causes = s.causes := rfl
@[simp] theorem State.setReg_grace (a : Nat) (w : Word) : (s.setReg a w).grace = s.grace := rfl
@[simp] theorem State.setReg_isolated (a : Nat) (w : Word) : (s.setReg a w).isolated = s.isolated := rfl
@[simp] theorem State.setReg_keys (a : Nat) (w : Word) : (s.setReg a w).keys = s.keys := rfl
@[simp] theorem State.setReg_bist (a : Nat) (w : Word) : (s.setReg a w).bist = s.bist := rfl
@[simp] theorem State.setReg_bistHeld (a : Nat) (w : Word) : (s.setReg a w).bistHeld = s.bistHeld := rfl
@[simp] theorem State.setReg_pwr (a : Nat) (w : Word) : (s.setReg a w).pwr = s.pwr := rfl
@[simp] theorem State.setReg_jtag (a : Nat) (w : Word) : (s.setReg a w).jtag = s.jtag := rfl
@[simp] theorem State.setReg_core (a : Nat) (w : Word) : (s.setReg a w).core = s.core := rfl
@[simp] theorem State.setReg_flash (a : Nat) (w : Word) : (s.setReg a w).flash = s.flash := rfl
@[simp] theorem State.setReg_flt (a : Nat) (w : Word) : (s.setReg a w).flt = s.flt := rfl
@[simp] theorem State.setReg_orbit (a : Nat) (w : Word) : (s.setReg a w).orbit = s.orbit := rfl
@[simp] theorem State.setReg_shot (a : Nat) (w : Word) : (s.setReg a w).shot = s.shot := rfl
@[simp] theorem State.setReg_banks (a : Nat) (w : Word) : (s.setReg a w).banks = s.banks := rfl
@[simp] theorem State.setReg_streams (a : Nat) (w : Word) : (s.setReg a w).streams = s.streams := rfl
@[simp] theorem State.setReg_halves (a : Nat) (w : Word) : (s.setReg a w).halves = s.halves := rfl
@[simp] theorem State.setReg_teleCq (a : Nat) (w : Word) : (s.setReg a w).teleCq = s.teleCq := rfl
@[simp] theorem State.setReg_ecliDone (a : Nat) (w : Word) : (s.setReg a w).ecliDone = s.ecliDone := rfl
@[simp] theorem State.setReg_ringReset (a : Nat) (w : Word) : (s.setReg a w).ringReset = s.ringReset := rfl
@[simp] theorem State.setReg_pages (a : Nat) (w : Word) : (s.setReg a w).pages = s.pages := rfl
@[simp] theorem State.setReg_ring (a : Nat) (w : Word) (x0 : Nat) : (s.setReg a w).ring x0 = s.ring x0 := rfl
@[simp] theorem State.setReg_rxe (a : Nat) (w : Word) (x0 : Nat) : (s.setReg a w).rxe x0 = s.rxe x0 := rfl
@[simp] theorem State.setReg_txe (a : Nat) (w : Word) (x0 : Nat) : (s.setReg a w).txe x0 = s.txe x0 := rfl
@[simp] theorem State.setReg_seg (a : Nat) (w : Word) (x0 x1 x2 : Nat) : (s.setReg a w).seg x0 x1 x2 = s.seg x0 x1 x2 := rfl
@[simp] theorem State.setReg_eng (a : Nat) (w : Word) (x0 x1 : Nat) : (s.setReg a w).eng x0 x1 = s.eng x0 x1 := rfl
@[simp] theorem State.setReg_port (a : Nat) (w : Word) (x0 : Nat) : (s.setReg a w).port x0 = s.port x0 := rfl
@[simp] theorem State.setReg_pll (a : Nat) (w : Word) (x0 : Nat) : (s.setReg a w).pll x0 = s.pll x0 := rfl
@[simp] theorem State.setReg_strm (a : Nat) (w : Word) (x0 : Nat) : (s.setReg a w).strm x0 = s.strm x0 := rfl
@[simp] theorem State.setReg_lt (a : Nat) (w : Word) (x : Nat) : (s.setReg a w).lt x = s.lt x := rfl

@[simp] theorem State.put_pending (f : Fld) (v : Nat) : (s.put f v).pending = s.pending := rfl
@[simp] theorem State.put_clock (f : Fld) (v : Nat) : (s.put f v).clock = s.clock := rfl
@[simp] theorem State.put_freeCtr (f : Fld) (v : Nat) : (s.put f v).freeCtr = s.freeCtr := rfl
@[simp] theorem State.put_latch (f : Fld) (v : Nat) : (s.put f v).latch = s.latch := rfl
@[simp] theorem State.put_out (f : Fld) (v : Nat) : (s.put f v).out = s.out := rfl
@[simp] theorem State.put_pcie (f : Fld) (v : Nat) : (s.put f v).pcie = s.pcie := rfl
@[simp] theorem State.put_rings (f : Fld) (v : Nat) : (s.put f v).rings = s.rings := rfl
@[simp] theorem State.put_dispatched (f : Fld) (v : Nat) : (s.put f v).dispatched = s.dispatched := rfl
@[simp] theorem State.put_fenceHeld (f : Fld) (v : Nat) : (s.put f v).fenceHeld = s.fenceHeld := rfl
@[simp] theorem State.put_evFrames (f : Fld) (v : Nat) : (s.put f v).evFrames = s.evFrames := rfl
@[simp] theorem State.put_rx (f : Fld) (v : Nat) : (s.put f v).rx = s.rx := rfl
@[simp] theorem State.put_tx (f : Fld) (v : Nat) : (s.put f v).tx = s.tx := rfl
@[simp] theorem State.put_segs (f : Fld) (v : Nat) : (s.put f v).segs = s.segs := rfl
@[simp] theorem State.put_engs (f : Fld) (v : Nat) : (s.put f v).engs = s.engs := rfl
@[simp] theorem State.put_lts (f : Fld) (v : Nat) : (s.put f v).lts = s.lts := rfl
@[simp] theorem State.put_ports (f : Fld) (v : Nat) : (s.put f v).ports = s.ports := rfl
@[simp] theorem State.put_waitq (f : Fld) (v : Nat) : (s.put f v).waitq = s.waitq := rfl
@[simp] theorem State.put_plls (f : Fld) (v : Nat) : (s.put f v).plls = s.plls := rfl
@[simp] theorem State.put_calSeq (f : Fld) (v : Nat) : (s.put f v).calSeq = s.calSeq := rfl
@[simp] theorem State.put_calReqs (f : Fld) (v : Nat) : (s.put f v).calReqs = s.calReqs := rfl
@[simp] theorem State.put_rejects (f : Fld) (v : Nat) : (s.put f v).rejects = s.rejects := rfl
@[simp] theorem State.put_dwell (f : Fld) (v : Nat) : (s.put f v).dwell = s.dwell := rfl
@[simp] theorem State.put_causes (f : Fld) (v : Nat) : (s.put f v).causes = s.causes := rfl
@[simp] theorem State.put_grace (f : Fld) (v : Nat) : (s.put f v).grace = s.grace := rfl
@[simp] theorem State.put_isolated (f : Fld) (v : Nat) : (s.put f v).isolated = s.isolated := rfl
@[simp] theorem State.put_keys (f : Fld) (v : Nat) : (s.put f v).keys = s.keys := rfl
@[simp] theorem State.put_bist (f : Fld) (v : Nat) : (s.put f v).bist = s.bist := rfl
@[simp] theorem State.put_bistHeld (f : Fld) (v : Nat) : (s.put f v).bistHeld = s.bistHeld := rfl
@[simp] theorem State.put_pwr (f : Fld) (v : Nat) : (s.put f v).pwr = s.pwr := rfl
@[simp] theorem State.put_jtag (f : Fld) (v : Nat) : (s.put f v).jtag = s.jtag := rfl
@[simp] theorem State.put_core (f : Fld) (v : Nat) : (s.put f v).core = s.core := rfl
@[simp] theorem State.put_flash (f : Fld) (v : Nat) : (s.put f v).flash = s.flash := rfl
@[simp] theorem State.put_flt (f : Fld) (v : Nat) : (s.put f v).flt = s.flt := rfl
@[simp] theorem State.put_orbit (f : Fld) (v : Nat) : (s.put f v).orbit = s.orbit := rfl
@[simp] theorem State.put_shot (f : Fld) (v : Nat) : (s.put f v).shot = s.shot := rfl
@[simp] theorem State.put_banks (f : Fld) (v : Nat) : (s.put f v).banks = s.banks := rfl
@[simp] theorem State.put_streams (f : Fld) (v : Nat) : (s.put f v).streams = s.streams := rfl
@[simp] theorem State.put_halves (f : Fld) (v : Nat) : (s.put f v).halves = s.halves := rfl
@[simp] theorem State.put_teleCq (f : Fld) (v : Nat) : (s.put f v).teleCq = s.teleCq := rfl
@[simp] theorem State.put_ecliDone (f : Fld) (v : Nat) : (s.put f v).ecliDone = s.ecliDone := rfl
@[simp] theorem State.put_ringReset (f : Fld) (v : Nat) : (s.put f v).ringReset = s.ringReset := rfl
@[simp] theorem State.put_pages (f : Fld) (v : Nat) : (s.put f v).pages = s.pages := rfl
@[simp] theorem State.put_ring (f : Fld) (v : Nat) (x0 : Nat) : (s.put f v).ring x0 = s.ring x0 := rfl
@[simp] theorem State.put_rxe (f : Fld) (v : Nat) (x0 : Nat) : (s.put f v).rxe x0 = s.rxe x0 := rfl
@[simp] theorem State.put_txe (f : Fld) (v : Nat) (x0 : Nat) : (s.put f v).txe x0 = s.txe x0 := rfl
@[simp] theorem State.put_seg (f : Fld) (v : Nat) (x0 x1 x2 : Nat) : (s.put f v).seg x0 x1 x2 = s.seg x0 x1 x2 := rfl
@[simp] theorem State.put_eng (f : Fld) (v : Nat) (x0 x1 : Nat) : (s.put f v).eng x0 x1 = s.eng x0 x1 := rfl
@[simp] theorem State.put_port (f : Fld) (v : Nat) (x0 : Nat) : (s.put f v).port x0 = s.port x0 := rfl
@[simp] theorem State.put_pll (f : Fld) (v : Nat) (x0 : Nat) : (s.put f v).pll x0 = s.pll x0 := rfl
@[simp] theorem State.put_strm (f : Fld) (v : Nat) (x0 : Nat) : (s.put f v).strm x0 = s.strm x0 := rfl
@[simp] theorem State.put_lt (f : Fld) (v : Nat) (x : Nat) : (s.put f v).lt x = s.lt x := rfl

@[simp] theorem State.putInt_pending (f : Fld) (v : Int) : (s.putInt f v).pending = s.pending := rfl
@[simp] theorem State.putInt_clock (f : Fld) (v : Int) : (s.putInt f v).clock = s.clock := rfl
@[simp] theorem State.putInt_freeCtr (f : Fld) (v : Int) : (s.putInt f v).freeCtr = s.freeCtr := rfl
@[simp] theorem State.putInt_latch (f : Fld) (v : Int) : (s.putInt f v).latch = s.latch := rfl
@[simp] theorem State.putInt_out (f : Fld) (v : Int) : (s.putInt f v).out = s.out := rfl
@[simp] theorem State.putInt_pcie (f : Fld) (v : Int) : (s.putInt f v).pcie = s.pcie := rfl
@[simp] theorem State.putInt_rings (f : Fld) (v : Int) : (s.putInt f v).rings = s.rings := rfl
@[simp] theorem State.putInt_dispatched (f : Fld) (v : Int) : (s.putInt f v).dispatched = s.dispatched := rfl
@[simp] theorem State.putInt_fenceHeld (f : Fld) (v : Int) : (s.putInt f v).fenceHeld = s.fenceHeld := rfl
@[simp] theorem State.putInt_evFrames (f : Fld) (v : Int) : (s.putInt f v).evFrames = s.evFrames := rfl
@[simp] theorem State.putInt_rx (f : Fld) (v : Int) : (s.putInt f v).rx = s.rx := rfl
@[simp] theorem State.putInt_tx (f : Fld) (v : Int) : (s.putInt f v).tx = s.tx := rfl
@[simp] theorem State.putInt_segs (f : Fld) (v : Int) : (s.putInt f v).segs = s.segs := rfl
@[simp] theorem State.putInt_engs (f : Fld) (v : Int) : (s.putInt f v).engs = s.engs := rfl
@[simp] theorem State.putInt_lts (f : Fld) (v : Int) : (s.putInt f v).lts = s.lts := rfl
@[simp] theorem State.putInt_ports (f : Fld) (v : Int) : (s.putInt f v).ports = s.ports := rfl
@[simp] theorem State.putInt_waitq (f : Fld) (v : Int) : (s.putInt f v).waitq = s.waitq := rfl
@[simp] theorem State.putInt_plls (f : Fld) (v : Int) : (s.putInt f v).plls = s.plls := rfl
@[simp] theorem State.putInt_calSeq (f : Fld) (v : Int) : (s.putInt f v).calSeq = s.calSeq := rfl
@[simp] theorem State.putInt_calReqs (f : Fld) (v : Int) : (s.putInt f v).calReqs = s.calReqs := rfl
@[simp] theorem State.putInt_rejects (f : Fld) (v : Int) : (s.putInt f v).rejects = s.rejects := rfl
@[simp] theorem State.putInt_dwell (f : Fld) (v : Int) : (s.putInt f v).dwell = s.dwell := rfl
@[simp] theorem State.putInt_causes (f : Fld) (v : Int) : (s.putInt f v).causes = s.causes := rfl
@[simp] theorem State.putInt_grace (f : Fld) (v : Int) : (s.putInt f v).grace = s.grace := rfl
@[simp] theorem State.putInt_isolated (f : Fld) (v : Int) : (s.putInt f v).isolated = s.isolated := rfl
@[simp] theorem State.putInt_keys (f : Fld) (v : Int) : (s.putInt f v).keys = s.keys := rfl
@[simp] theorem State.putInt_bist (f : Fld) (v : Int) : (s.putInt f v).bist = s.bist := rfl
@[simp] theorem State.putInt_bistHeld (f : Fld) (v : Int) : (s.putInt f v).bistHeld = s.bistHeld := rfl
@[simp] theorem State.putInt_pwr (f : Fld) (v : Int) : (s.putInt f v).pwr = s.pwr := rfl
@[simp] theorem State.putInt_jtag (f : Fld) (v : Int) : (s.putInt f v).jtag = s.jtag := rfl
@[simp] theorem State.putInt_core (f : Fld) (v : Int) : (s.putInt f v).core = s.core := rfl
@[simp] theorem State.putInt_flash (f : Fld) (v : Int) : (s.putInt f v).flash = s.flash := rfl
@[simp] theorem State.putInt_flt (f : Fld) (v : Int) : (s.putInt f v).flt = s.flt := rfl
@[simp] theorem State.putInt_orbit (f : Fld) (v : Int) : (s.putInt f v).orbit = s.orbit := rfl
@[simp] theorem State.putInt_shot (f : Fld) (v : Int) : (s.putInt f v).shot = s.shot := rfl
@[simp] theorem State.putInt_banks (f : Fld) (v : Int) : (s.putInt f v).banks = s.banks := rfl
@[simp] theorem State.putInt_streams (f : Fld) (v : Int) : (s.putInt f v).streams = s.streams := rfl
@[simp] theorem State.putInt_halves (f : Fld) (v : Int) : (s.putInt f v).halves = s.halves := rfl
@[simp] theorem State.putInt_teleCq (f : Fld) (v : Int) : (s.putInt f v).teleCq = s.teleCq := rfl
@[simp] theorem State.putInt_ecliDone (f : Fld) (v : Int) : (s.putInt f v).ecliDone = s.ecliDone := rfl
@[simp] theorem State.putInt_ringReset (f : Fld) (v : Int) : (s.putInt f v).ringReset = s.ringReset := rfl
@[simp] theorem State.putInt_pages (f : Fld) (v : Int) : (s.putInt f v).pages = s.pages := rfl
@[simp] theorem State.putInt_ring (f : Fld) (v : Int) (x0 : Nat) : (s.putInt f v).ring x0 = s.ring x0 := rfl
@[simp] theorem State.putInt_rxe (f : Fld) (v : Int) (x0 : Nat) : (s.putInt f v).rxe x0 = s.rxe x0 := rfl
@[simp] theorem State.putInt_txe (f : Fld) (v : Int) (x0 : Nat) : (s.putInt f v).txe x0 = s.txe x0 := rfl
@[simp] theorem State.putInt_seg (f : Fld) (v : Int) (x0 x1 x2 : Nat) : (s.putInt f v).seg x0 x1 x2 = s.seg x0 x1 x2 := rfl
@[simp] theorem State.putInt_eng (f : Fld) (v : Int) (x0 x1 : Nat) : (s.putInt f v).eng x0 x1 = s.eng x0 x1 := rfl
@[simp] theorem State.putInt_port (f : Fld) (v : Int) (x0 : Nat) : (s.putInt f v).port x0 = s.port x0 := rfl
@[simp] theorem State.putInt_pll (f : Fld) (v : Int) (x0 : Nat) : (s.putInt f v).pll x0 = s.pll x0 := rfl
@[simp] theorem State.putInt_strm (f : Fld) (v : Int) (x0 : Nat) : (s.putInt f v).strm x0 = s.strm x0 := rfl
@[simp] theorem State.putInt_lt (f : Fld) (v : Int) (x : Nat) : (s.putInt f v).lt x = s.lt x := rfl

@[simp] theorem State.setCounter_pending (a v : Nat) : (s.setCounter a v).pending = s.pending := rfl
@[simp] theorem State.setCounter_clock (a v : Nat) : (s.setCounter a v).clock = s.clock := rfl
@[simp] theorem State.setCounter_freeCtr (a v : Nat) : (s.setCounter a v).freeCtr = s.freeCtr := rfl
@[simp] theorem State.setCounter_latch (a v : Nat) : (s.setCounter a v).latch = s.latch := rfl
@[simp] theorem State.setCounter_out (a v : Nat) : (s.setCounter a v).out = s.out := rfl
@[simp] theorem State.setCounter_pcie (a v : Nat) : (s.setCounter a v).pcie = s.pcie := rfl
@[simp] theorem State.setCounter_rings (a v : Nat) : (s.setCounter a v).rings = s.rings := rfl
@[simp] theorem State.setCounter_dispatched (a v : Nat) : (s.setCounter a v).dispatched = s.dispatched := rfl
@[simp] theorem State.setCounter_fenceHeld (a v : Nat) : (s.setCounter a v).fenceHeld = s.fenceHeld := rfl
@[simp] theorem State.setCounter_evFrames (a v : Nat) : (s.setCounter a v).evFrames = s.evFrames := rfl
@[simp] theorem State.setCounter_rx (a v : Nat) : (s.setCounter a v).rx = s.rx := rfl
@[simp] theorem State.setCounter_tx (a v : Nat) : (s.setCounter a v).tx = s.tx := rfl
@[simp] theorem State.setCounter_segs (a v : Nat) : (s.setCounter a v).segs = s.segs := rfl
@[simp] theorem State.setCounter_engs (a v : Nat) : (s.setCounter a v).engs = s.engs := rfl
@[simp] theorem State.setCounter_lts (a v : Nat) : (s.setCounter a v).lts = s.lts := rfl
@[simp] theorem State.setCounter_ports (a v : Nat) : (s.setCounter a v).ports = s.ports := rfl
@[simp] theorem State.setCounter_waitq (a v : Nat) : (s.setCounter a v).waitq = s.waitq := rfl
@[simp] theorem State.setCounter_plls (a v : Nat) : (s.setCounter a v).plls = s.plls := rfl
@[simp] theorem State.setCounter_calSeq (a v : Nat) : (s.setCounter a v).calSeq = s.calSeq := rfl
@[simp] theorem State.setCounter_calReqs (a v : Nat) : (s.setCounter a v).calReqs = s.calReqs := rfl
@[simp] theorem State.setCounter_rejects (a v : Nat) : (s.setCounter a v).rejects = s.rejects := rfl
@[simp] theorem State.setCounter_dwell (a v : Nat) : (s.setCounter a v).dwell = s.dwell := rfl
@[simp] theorem State.setCounter_causes (a v : Nat) : (s.setCounter a v).causes = s.causes := rfl
@[simp] theorem State.setCounter_grace (a v : Nat) : (s.setCounter a v).grace = s.grace := rfl
@[simp] theorem State.setCounter_isolated (a v : Nat) : (s.setCounter a v).isolated = s.isolated := rfl
@[simp] theorem State.setCounter_keys (a v : Nat) : (s.setCounter a v).keys = s.keys := rfl
@[simp] theorem State.setCounter_bist (a v : Nat) : (s.setCounter a v).bist = s.bist := rfl
@[simp] theorem State.setCounter_bistHeld (a v : Nat) : (s.setCounter a v).bistHeld = s.bistHeld := rfl
@[simp] theorem State.setCounter_pwr (a v : Nat) : (s.setCounter a v).pwr = s.pwr := rfl
@[simp] theorem State.setCounter_jtag (a v : Nat) : (s.setCounter a v).jtag = s.jtag := rfl
@[simp] theorem State.setCounter_core (a v : Nat) : (s.setCounter a v).core = s.core := rfl
@[simp] theorem State.setCounter_flash (a v : Nat) : (s.setCounter a v).flash = s.flash := rfl
@[simp] theorem State.setCounter_flt (a v : Nat) : (s.setCounter a v).flt = s.flt := rfl
@[simp] theorem State.setCounter_orbit (a v : Nat) : (s.setCounter a v).orbit = s.orbit := rfl
@[simp] theorem State.setCounter_shot (a v : Nat) : (s.setCounter a v).shot = s.shot := rfl
@[simp] theorem State.setCounter_banks (a v : Nat) : (s.setCounter a v).banks = s.banks := rfl
@[simp] theorem State.setCounter_streams (a v : Nat) : (s.setCounter a v).streams = s.streams := rfl
@[simp] theorem State.setCounter_halves (a v : Nat) : (s.setCounter a v).halves = s.halves := rfl
@[simp] theorem State.setCounter_teleCq (a v : Nat) : (s.setCounter a v).teleCq = s.teleCq := rfl
@[simp] theorem State.setCounter_ecliDone (a v : Nat) : (s.setCounter a v).ecliDone = s.ecliDone := rfl
@[simp] theorem State.setCounter_ringReset (a v : Nat) : (s.setCounter a v).ringReset = s.ringReset := rfl
@[simp] theorem State.setCounter_pages (a v : Nat) : (s.setCounter a v).pages = s.pages := rfl
@[simp] theorem State.setCounter_ring (a v : Nat) (x0 : Nat) : (s.setCounter a v).ring x0 = s.ring x0 := rfl
@[simp] theorem State.setCounter_rxe (a v : Nat) (x0 : Nat) : (s.setCounter a v).rxe x0 = s.rxe x0 := rfl
@[simp] theorem State.setCounter_txe (a v : Nat) (x0 : Nat) : (s.setCounter a v).txe x0 = s.txe x0 := rfl
@[simp] theorem State.setCounter_seg (a v : Nat) (x0 x1 x2 : Nat) : (s.setCounter a v).seg x0 x1 x2 = s.seg x0 x1 x2 := rfl
@[simp] theorem State.setCounter_eng (a v : Nat) (x0 x1 : Nat) : (s.setCounter a v).eng x0 x1 = s.eng x0 x1 := rfl
@[simp] theorem State.setCounter_port (a v : Nat) (x0 : Nat) : (s.setCounter a v).port x0 = s.port x0 := rfl
@[simp] theorem State.setCounter_pll (a v : Nat) (x0 : Nat) : (s.setCounter a v).pll x0 = s.pll x0 := rfl
@[simp] theorem State.setCounter_strm (a v : Nat) (x0 : Nat) : (s.setCounter a v).strm x0 = s.strm x0 := rfl
@[simp] theorem State.setCounter_lt (a v : Nat) (x : Nat) : (s.setCounter a v).lt x = s.lt x := rfl

@[simp] theorem State.countBy_pending (a n : Nat) : (s.countBy a n).pending = s.pending := rfl
@[simp] theorem State.countBy_clock (a n : Nat) : (s.countBy a n).clock = s.clock := rfl
@[simp] theorem State.countBy_freeCtr (a n : Nat) : (s.countBy a n).freeCtr = s.freeCtr := rfl
@[simp] theorem State.countBy_latch (a n : Nat) : (s.countBy a n).latch = s.latch := rfl
@[simp] theorem State.countBy_out (a n : Nat) : (s.countBy a n).out = s.out := rfl
@[simp] theorem State.countBy_pcie (a n : Nat) : (s.countBy a n).pcie = s.pcie := rfl
@[simp] theorem State.countBy_rings (a n : Nat) : (s.countBy a n).rings = s.rings := rfl
@[simp] theorem State.countBy_dispatched (a n : Nat) : (s.countBy a n).dispatched = s.dispatched := rfl
@[simp] theorem State.countBy_fenceHeld (a n : Nat) : (s.countBy a n).fenceHeld = s.fenceHeld := rfl
@[simp] theorem State.countBy_evFrames (a n : Nat) : (s.countBy a n).evFrames = s.evFrames := rfl
@[simp] theorem State.countBy_rx (a n : Nat) : (s.countBy a n).rx = s.rx := rfl
@[simp] theorem State.countBy_tx (a n : Nat) : (s.countBy a n).tx = s.tx := rfl
@[simp] theorem State.countBy_segs (a n : Nat) : (s.countBy a n).segs = s.segs := rfl
@[simp] theorem State.countBy_engs (a n : Nat) : (s.countBy a n).engs = s.engs := rfl
@[simp] theorem State.countBy_lts (a n : Nat) : (s.countBy a n).lts = s.lts := rfl
@[simp] theorem State.countBy_ports (a n : Nat) : (s.countBy a n).ports = s.ports := rfl
@[simp] theorem State.countBy_waitq (a n : Nat) : (s.countBy a n).waitq = s.waitq := rfl
@[simp] theorem State.countBy_plls (a n : Nat) : (s.countBy a n).plls = s.plls := rfl
@[simp] theorem State.countBy_calSeq (a n : Nat) : (s.countBy a n).calSeq = s.calSeq := rfl
@[simp] theorem State.countBy_calReqs (a n : Nat) : (s.countBy a n).calReqs = s.calReqs := rfl
@[simp] theorem State.countBy_rejects (a n : Nat) : (s.countBy a n).rejects = s.rejects := rfl
@[simp] theorem State.countBy_dwell (a n : Nat) : (s.countBy a n).dwell = s.dwell := rfl
@[simp] theorem State.countBy_causes (a n : Nat) : (s.countBy a n).causes = s.causes := rfl
@[simp] theorem State.countBy_grace (a n : Nat) : (s.countBy a n).grace = s.grace := rfl
@[simp] theorem State.countBy_isolated (a n : Nat) : (s.countBy a n).isolated = s.isolated := rfl
@[simp] theorem State.countBy_keys (a n : Nat) : (s.countBy a n).keys = s.keys := rfl
@[simp] theorem State.countBy_bist (a n : Nat) : (s.countBy a n).bist = s.bist := rfl
@[simp] theorem State.countBy_bistHeld (a n : Nat) : (s.countBy a n).bistHeld = s.bistHeld := rfl
@[simp] theorem State.countBy_pwr (a n : Nat) : (s.countBy a n).pwr = s.pwr := rfl
@[simp] theorem State.countBy_jtag (a n : Nat) : (s.countBy a n).jtag = s.jtag := rfl
@[simp] theorem State.countBy_core (a n : Nat) : (s.countBy a n).core = s.core := rfl
@[simp] theorem State.countBy_flash (a n : Nat) : (s.countBy a n).flash = s.flash := rfl
@[simp] theorem State.countBy_flt (a n : Nat) : (s.countBy a n).flt = s.flt := rfl
@[simp] theorem State.countBy_orbit (a n : Nat) : (s.countBy a n).orbit = s.orbit := rfl
@[simp] theorem State.countBy_shot (a n : Nat) : (s.countBy a n).shot = s.shot := rfl
@[simp] theorem State.countBy_banks (a n : Nat) : (s.countBy a n).banks = s.banks := rfl
@[simp] theorem State.countBy_streams (a n : Nat) : (s.countBy a n).streams = s.streams := rfl
@[simp] theorem State.countBy_halves (a n : Nat) : (s.countBy a n).halves = s.halves := rfl
@[simp] theorem State.countBy_teleCq (a n : Nat) : (s.countBy a n).teleCq = s.teleCq := rfl
@[simp] theorem State.countBy_ecliDone (a n : Nat) : (s.countBy a n).ecliDone = s.ecliDone := rfl
@[simp] theorem State.countBy_ringReset (a n : Nat) : (s.countBy a n).ringReset = s.ringReset := rfl
@[simp] theorem State.countBy_pages (a n : Nat) : (s.countBy a n).pages = s.pages := rfl
@[simp] theorem State.countBy_ring (a n : Nat) (x0 : Nat) : (s.countBy a n).ring x0 = s.ring x0 := rfl
@[simp] theorem State.countBy_rxe (a n : Nat) (x0 : Nat) : (s.countBy a n).rxe x0 = s.rxe x0 := rfl
@[simp] theorem State.countBy_txe (a n : Nat) (x0 : Nat) : (s.countBy a n).txe x0 = s.txe x0 := rfl
@[simp] theorem State.countBy_seg (a n : Nat) (x0 x1 x2 : Nat) : (s.countBy a n).seg x0 x1 x2 = s.seg x0 x1 x2 := rfl
@[simp] theorem State.countBy_eng (a n : Nat) (x0 x1 : Nat) : (s.countBy a n).eng x0 x1 = s.eng x0 x1 := rfl
@[simp] theorem State.countBy_port (a n : Nat) (x0 : Nat) : (s.countBy a n).port x0 = s.port x0 := rfl
@[simp] theorem State.countBy_pll (a n : Nat) (x0 : Nat) : (s.countBy a n).pll x0 = s.pll x0 := rfl
@[simp] theorem State.countBy_strm (a n : Nat) (x0 : Nat) : (s.countBy a n).strm x0 = s.strm x0 := rfl
@[simp] theorem State.countBy_lt (a n : Nat) (x : Nat) : (s.countBy a n).lt x = s.lt x := rfl

@[simp] theorem State.count_pending (a : Nat) : (s.count a).pending = s.pending := rfl
@[simp] theorem State.count_clock (a : Nat) : (s.count a).clock = s.clock := rfl
@[simp] theorem State.count_freeCtr (a : Nat) : (s.count a).freeCtr = s.freeCtr := rfl
@[simp] theorem State.count_latch (a : Nat) : (s.count a).latch = s.latch := rfl
@[simp] theorem State.count_out (a : Nat) : (s.count a).out = s.out := rfl
@[simp] theorem State.count_pcie (a : Nat) : (s.count a).pcie = s.pcie := rfl
@[simp] theorem State.count_rings (a : Nat) : (s.count a).rings = s.rings := rfl
@[simp] theorem State.count_dispatched (a : Nat) : (s.count a).dispatched = s.dispatched := rfl
@[simp] theorem State.count_fenceHeld (a : Nat) : (s.count a).fenceHeld = s.fenceHeld := rfl
@[simp] theorem State.count_evFrames (a : Nat) : (s.count a).evFrames = s.evFrames := rfl
@[simp] theorem State.count_rx (a : Nat) : (s.count a).rx = s.rx := rfl
@[simp] theorem State.count_tx (a : Nat) : (s.count a).tx = s.tx := rfl
@[simp] theorem State.count_segs (a : Nat) : (s.count a).segs = s.segs := rfl
@[simp] theorem State.count_engs (a : Nat) : (s.count a).engs = s.engs := rfl
@[simp] theorem State.count_lts (a : Nat) : (s.count a).lts = s.lts := rfl
@[simp] theorem State.count_ports (a : Nat) : (s.count a).ports = s.ports := rfl
@[simp] theorem State.count_waitq (a : Nat) : (s.count a).waitq = s.waitq := rfl
@[simp] theorem State.count_plls (a : Nat) : (s.count a).plls = s.plls := rfl
@[simp] theorem State.count_calSeq (a : Nat) : (s.count a).calSeq = s.calSeq := rfl
@[simp] theorem State.count_calReqs (a : Nat) : (s.count a).calReqs = s.calReqs := rfl
@[simp] theorem State.count_rejects (a : Nat) : (s.count a).rejects = s.rejects := rfl
@[simp] theorem State.count_dwell (a : Nat) : (s.count a).dwell = s.dwell := rfl
@[simp] theorem State.count_causes (a : Nat) : (s.count a).causes = s.causes := rfl
@[simp] theorem State.count_grace (a : Nat) : (s.count a).grace = s.grace := rfl
@[simp] theorem State.count_isolated (a : Nat) : (s.count a).isolated = s.isolated := rfl
@[simp] theorem State.count_keys (a : Nat) : (s.count a).keys = s.keys := rfl
@[simp] theorem State.count_bist (a : Nat) : (s.count a).bist = s.bist := rfl
@[simp] theorem State.count_bistHeld (a : Nat) : (s.count a).bistHeld = s.bistHeld := rfl
@[simp] theorem State.count_pwr (a : Nat) : (s.count a).pwr = s.pwr := rfl
@[simp] theorem State.count_jtag (a : Nat) : (s.count a).jtag = s.jtag := rfl
@[simp] theorem State.count_core (a : Nat) : (s.count a).core = s.core := rfl
@[simp] theorem State.count_flash (a : Nat) : (s.count a).flash = s.flash := rfl
@[simp] theorem State.count_flt (a : Nat) : (s.count a).flt = s.flt := rfl
@[simp] theorem State.count_orbit (a : Nat) : (s.count a).orbit = s.orbit := rfl
@[simp] theorem State.count_shot (a : Nat) : (s.count a).shot = s.shot := rfl
@[simp] theorem State.count_banks (a : Nat) : (s.count a).banks = s.banks := rfl
@[simp] theorem State.count_streams (a : Nat) : (s.count a).streams = s.streams := rfl
@[simp] theorem State.count_halves (a : Nat) : (s.count a).halves = s.halves := rfl
@[simp] theorem State.count_teleCq (a : Nat) : (s.count a).teleCq = s.teleCq := rfl
@[simp] theorem State.count_ecliDone (a : Nat) : (s.count a).ecliDone = s.ecliDone := rfl
@[simp] theorem State.count_ringReset (a : Nat) : (s.count a).ringReset = s.ringReset := rfl
@[simp] theorem State.count_pages (a : Nat) : (s.count a).pages = s.pages := rfl
@[simp] theorem State.count_ring (a : Nat) (x0 : Nat) : (s.count a).ring x0 = s.ring x0 := rfl
@[simp] theorem State.count_rxe (a : Nat) (x0 : Nat) : (s.count a).rxe x0 = s.rxe x0 := rfl
@[simp] theorem State.count_txe (a : Nat) (x0 : Nat) : (s.count a).txe x0 = s.txe x0 := rfl
@[simp] theorem State.count_seg (a : Nat) (x0 x1 x2 : Nat) : (s.count a).seg x0 x1 x2 = s.seg x0 x1 x2 := rfl
@[simp] theorem State.count_eng (a : Nat) (x0 x1 : Nat) : (s.count a).eng x0 x1 = s.eng x0 x1 := rfl
@[simp] theorem State.count_port (a : Nat) (x0 : Nat) : (s.count a).port x0 = s.port x0 := rfl
@[simp] theorem State.count_pll (a : Nat) (x0 : Nat) : (s.count a).pll x0 = s.pll x0 := rfl
@[simp] theorem State.count_strm (a : Nat) (x0 : Nat) : (s.count a).strm x0 = s.strm x0 := rfl
@[simp] theorem State.count_lt (a : Nat) (x : Nat) : (s.count a).lt x = s.lt x := rfl

@[simp] theorem State.satCount_pending (a : Nat) : (s.satCount a).pending = s.pending := rfl
@[simp] theorem State.satCount_clock (a : Nat) : (s.satCount a).clock = s.clock := rfl
@[simp] theorem State.satCount_freeCtr (a : Nat) : (s.satCount a).freeCtr = s.freeCtr := rfl
@[simp] theorem State.satCount_latch (a : Nat) : (s.satCount a).latch = s.latch := rfl
@[simp] theorem State.satCount_out (a : Nat) : (s.satCount a).out = s.out := rfl
@[simp] theorem State.satCount_pcie (a : Nat) : (s.satCount a).pcie = s.pcie := rfl
@[simp] theorem State.satCount_rings (a : Nat) : (s.satCount a).rings = s.rings := rfl
@[simp] theorem State.satCount_dispatched (a : Nat) : (s.satCount a).dispatched = s.dispatched := rfl
@[simp] theorem State.satCount_fenceHeld (a : Nat) : (s.satCount a).fenceHeld = s.fenceHeld := rfl
@[simp] theorem State.satCount_evFrames (a : Nat) : (s.satCount a).evFrames = s.evFrames := rfl
@[simp] theorem State.satCount_rx (a : Nat) : (s.satCount a).rx = s.rx := rfl
@[simp] theorem State.satCount_tx (a : Nat) : (s.satCount a).tx = s.tx := rfl
@[simp] theorem State.satCount_segs (a : Nat) : (s.satCount a).segs = s.segs := rfl
@[simp] theorem State.satCount_engs (a : Nat) : (s.satCount a).engs = s.engs := rfl
@[simp] theorem State.satCount_lts (a : Nat) : (s.satCount a).lts = s.lts := rfl
@[simp] theorem State.satCount_ports (a : Nat) : (s.satCount a).ports = s.ports := rfl
@[simp] theorem State.satCount_waitq (a : Nat) : (s.satCount a).waitq = s.waitq := rfl
@[simp] theorem State.satCount_plls (a : Nat) : (s.satCount a).plls = s.plls := rfl
@[simp] theorem State.satCount_calSeq (a : Nat) : (s.satCount a).calSeq = s.calSeq := rfl
@[simp] theorem State.satCount_calReqs (a : Nat) : (s.satCount a).calReqs = s.calReqs := rfl
@[simp] theorem State.satCount_rejects (a : Nat) : (s.satCount a).rejects = s.rejects := rfl
@[simp] theorem State.satCount_dwell (a : Nat) : (s.satCount a).dwell = s.dwell := rfl
@[simp] theorem State.satCount_causes (a : Nat) : (s.satCount a).causes = s.causes := rfl
@[simp] theorem State.satCount_grace (a : Nat) : (s.satCount a).grace = s.grace := rfl
@[simp] theorem State.satCount_isolated (a : Nat) : (s.satCount a).isolated = s.isolated := rfl
@[simp] theorem State.satCount_keys (a : Nat) : (s.satCount a).keys = s.keys := rfl
@[simp] theorem State.satCount_bist (a : Nat) : (s.satCount a).bist = s.bist := rfl
@[simp] theorem State.satCount_bistHeld (a : Nat) : (s.satCount a).bistHeld = s.bistHeld := rfl
@[simp] theorem State.satCount_pwr (a : Nat) : (s.satCount a).pwr = s.pwr := rfl
@[simp] theorem State.satCount_jtag (a : Nat) : (s.satCount a).jtag = s.jtag := rfl
@[simp] theorem State.satCount_core (a : Nat) : (s.satCount a).core = s.core := rfl
@[simp] theorem State.satCount_flash (a : Nat) : (s.satCount a).flash = s.flash := rfl
@[simp] theorem State.satCount_flt (a : Nat) : (s.satCount a).flt = s.flt := rfl
@[simp] theorem State.satCount_orbit (a : Nat) : (s.satCount a).orbit = s.orbit := rfl
@[simp] theorem State.satCount_shot (a : Nat) : (s.satCount a).shot = s.shot := rfl
@[simp] theorem State.satCount_banks (a : Nat) : (s.satCount a).banks = s.banks := rfl
@[simp] theorem State.satCount_streams (a : Nat) : (s.satCount a).streams = s.streams := rfl
@[simp] theorem State.satCount_halves (a : Nat) : (s.satCount a).halves = s.halves := rfl
@[simp] theorem State.satCount_teleCq (a : Nat) : (s.satCount a).teleCq = s.teleCq := rfl
@[simp] theorem State.satCount_ecliDone (a : Nat) : (s.satCount a).ecliDone = s.ecliDone := rfl
@[simp] theorem State.satCount_ringReset (a : Nat) : (s.satCount a).ringReset = s.ringReset := rfl
@[simp] theorem State.satCount_pages (a : Nat) : (s.satCount a).pages = s.pages := rfl
@[simp] theorem State.satCount_ring (a : Nat) (x0 : Nat) : (s.satCount a).ring x0 = s.ring x0 := rfl
@[simp] theorem State.satCount_rxe (a : Nat) (x0 : Nat) : (s.satCount a).rxe x0 = s.rxe x0 := rfl
@[simp] theorem State.satCount_txe (a : Nat) (x0 : Nat) : (s.satCount a).txe x0 = s.txe x0 := rfl
@[simp] theorem State.satCount_seg (a : Nat) (x0 x1 x2 : Nat) : (s.satCount a).seg x0 x1 x2 = s.seg x0 x1 x2 := rfl
@[simp] theorem State.satCount_eng (a : Nat) (x0 x1 : Nat) : (s.satCount a).eng x0 x1 = s.eng x0 x1 := rfl
@[simp] theorem State.satCount_port (a : Nat) (x0 : Nat) : (s.satCount a).port x0 = s.port x0 := rfl
@[simp] theorem State.satCount_pll (a : Nat) (x0 : Nat) : (s.satCount a).pll x0 = s.pll x0 := rfl
@[simp] theorem State.satCount_strm (a : Nat) (x0 : Nat) : (s.satCount a).strm x0 = s.strm x0 := rfl
@[simp] theorem State.satCount_lt (a : Nat) (x : Nat) : (s.satCount a).lt x = s.lt x := rfl

@[simp] theorem State.mapRegs_pending (f : Nat → Word → Word) : (s.mapRegs f).pending = s.pending := rfl
@[simp] theorem State.mapRegs_clock (f : Nat → Word → Word) : (s.mapRegs f).clock = s.clock := rfl
@[simp] theorem State.mapRegs_freeCtr (f : Nat → Word → Word) : (s.mapRegs f).freeCtr = s.freeCtr := rfl
@[simp] theorem State.mapRegs_latch (f : Nat → Word → Word) : (s.mapRegs f).latch = s.latch := rfl
@[simp] theorem State.mapRegs_out (f : Nat → Word → Word) : (s.mapRegs f).out = s.out := rfl
@[simp] theorem State.mapRegs_pcie (f : Nat → Word → Word) : (s.mapRegs f).pcie = s.pcie := rfl
@[simp] theorem State.mapRegs_rings (f : Nat → Word → Word) : (s.mapRegs f).rings = s.rings := rfl
@[simp] theorem State.mapRegs_dispatched (f : Nat → Word → Word) : (s.mapRegs f).dispatched = s.dispatched := rfl
@[simp] theorem State.mapRegs_fenceHeld (f : Nat → Word → Word) : (s.mapRegs f).fenceHeld = s.fenceHeld := rfl
@[simp] theorem State.mapRegs_evFrames (f : Nat → Word → Word) : (s.mapRegs f).evFrames = s.evFrames := rfl
@[simp] theorem State.mapRegs_rx (f : Nat → Word → Word) : (s.mapRegs f).rx = s.rx := rfl
@[simp] theorem State.mapRegs_tx (f : Nat → Word → Word) : (s.mapRegs f).tx = s.tx := rfl
@[simp] theorem State.mapRegs_segs (f : Nat → Word → Word) : (s.mapRegs f).segs = s.segs := rfl
@[simp] theorem State.mapRegs_engs (f : Nat → Word → Word) : (s.mapRegs f).engs = s.engs := rfl
@[simp] theorem State.mapRegs_lts (f : Nat → Word → Word) : (s.mapRegs f).lts = s.lts := rfl
@[simp] theorem State.mapRegs_ports (f : Nat → Word → Word) : (s.mapRegs f).ports = s.ports := rfl
@[simp] theorem State.mapRegs_waitq (f : Nat → Word → Word) : (s.mapRegs f).waitq = s.waitq := rfl
@[simp] theorem State.mapRegs_plls (f : Nat → Word → Word) : (s.mapRegs f).plls = s.plls := rfl
@[simp] theorem State.mapRegs_calSeq (f : Nat → Word → Word) : (s.mapRegs f).calSeq = s.calSeq := rfl
@[simp] theorem State.mapRegs_calReqs (f : Nat → Word → Word) : (s.mapRegs f).calReqs = s.calReqs := rfl
@[simp] theorem State.mapRegs_rejects (f : Nat → Word → Word) : (s.mapRegs f).rejects = s.rejects := rfl
@[simp] theorem State.mapRegs_dwell (f : Nat → Word → Word) : (s.mapRegs f).dwell = s.dwell := rfl
@[simp] theorem State.mapRegs_causes (f : Nat → Word → Word) : (s.mapRegs f).causes = s.causes := rfl
@[simp] theorem State.mapRegs_grace (f : Nat → Word → Word) : (s.mapRegs f).grace = s.grace := rfl
@[simp] theorem State.mapRegs_isolated (f : Nat → Word → Word) : (s.mapRegs f).isolated = s.isolated := rfl
@[simp] theorem State.mapRegs_keys (f : Nat → Word → Word) : (s.mapRegs f).keys = s.keys := rfl
@[simp] theorem State.mapRegs_bist (f : Nat → Word → Word) : (s.mapRegs f).bist = s.bist := rfl
@[simp] theorem State.mapRegs_bistHeld (f : Nat → Word → Word) : (s.mapRegs f).bistHeld = s.bistHeld := rfl
@[simp] theorem State.mapRegs_pwr (f : Nat → Word → Word) : (s.mapRegs f).pwr = s.pwr := rfl
@[simp] theorem State.mapRegs_jtag (f : Nat → Word → Word) : (s.mapRegs f).jtag = s.jtag := rfl
@[simp] theorem State.mapRegs_core (f : Nat → Word → Word) : (s.mapRegs f).core = s.core := rfl
@[simp] theorem State.mapRegs_flash (f : Nat → Word → Word) : (s.mapRegs f).flash = s.flash := rfl
@[simp] theorem State.mapRegs_flt (f : Nat → Word → Word) : (s.mapRegs f).flt = s.flt := rfl
@[simp] theorem State.mapRegs_orbit (f : Nat → Word → Word) : (s.mapRegs f).orbit = s.orbit := rfl
@[simp] theorem State.mapRegs_shot (f : Nat → Word → Word) : (s.mapRegs f).shot = s.shot := rfl
@[simp] theorem State.mapRegs_banks (f : Nat → Word → Word) : (s.mapRegs f).banks = s.banks := rfl
@[simp] theorem State.mapRegs_streams (f : Nat → Word → Word) : (s.mapRegs f).streams = s.streams := rfl
@[simp] theorem State.mapRegs_halves (f : Nat → Word → Word) : (s.mapRegs f).halves = s.halves := rfl
@[simp] theorem State.mapRegs_teleCq (f : Nat → Word → Word) : (s.mapRegs f).teleCq = s.teleCq := rfl
@[simp] theorem State.mapRegs_ecliDone (f : Nat → Word → Word) : (s.mapRegs f).ecliDone = s.ecliDone := rfl
@[simp] theorem State.mapRegs_ringReset (f : Nat → Word → Word) : (s.mapRegs f).ringReset = s.ringReset := rfl
@[simp] theorem State.mapRegs_pages (f : Nat → Word → Word) : (s.mapRegs f).pages = s.pages := rfl
@[simp] theorem State.mapRegs_ring (f : Nat → Word → Word) (x0 : Nat) : (s.mapRegs f).ring x0 = s.ring x0 := rfl
@[simp] theorem State.mapRegs_rxe (f : Nat → Word → Word) (x0 : Nat) : (s.mapRegs f).rxe x0 = s.rxe x0 := rfl
@[simp] theorem State.mapRegs_txe (f : Nat → Word → Word) (x0 : Nat) : (s.mapRegs f).txe x0 = s.txe x0 := rfl
@[simp] theorem State.mapRegs_seg (f : Nat → Word → Word) (x0 x1 x2 : Nat) : (s.mapRegs f).seg x0 x1 x2 = s.seg x0 x1 x2 := rfl
@[simp] theorem State.mapRegs_eng (f : Nat → Word → Word) (x0 x1 : Nat) : (s.mapRegs f).eng x0 x1 = s.eng x0 x1 := rfl
@[simp] theorem State.mapRegs_port (f : Nat → Word → Word) (x0 : Nat) : (s.mapRegs f).port x0 = s.port x0 := rfl
@[simp] theorem State.mapRegs_pll (f : Nat → Word → Word) (x0 : Nat) : (s.mapRegs f).pll x0 = s.pll x0 := rfl
@[simp] theorem State.mapRegs_strm (f : Nat → Word → Word) (x0 : Nat) : (s.mapRegs f).strm x0 = s.strm x0 := rfl
@[simp] theorem State.mapRegs_lt (f : Nat → Word → Word) (x : Nat) : (s.mapRegs f).lt x = s.lt x := rfl

@[simp] theorem State.emit_pending (o : Out) : (s.emit o).pending = s.pending := rfl
@[simp] theorem State.emit_clock (o : Out) : (s.emit o).clock = s.clock := rfl
@[simp] theorem State.emit_freeCtr (o : Out) : (s.emit o).freeCtr = s.freeCtr := rfl
@[simp] theorem State.emit_regs (o : Out) : (s.emit o).regs = s.regs := rfl
@[simp] theorem State.emit_latch (o : Out) : (s.emit o).latch = s.latch := rfl
@[simp] theorem State.emit_out (o : Out) : (s.emit o).out = s.out ++ [o] := rfl
@[simp] theorem State.emit_pcie (o : Out) : (s.emit o).pcie = s.pcie := rfl
@[simp] theorem State.emit_rings (o : Out) : (s.emit o).rings = s.rings := rfl
@[simp] theorem State.emit_dispatched (o : Out) : (s.emit o).dispatched = s.dispatched := rfl
@[simp] theorem State.emit_fenceHeld (o : Out) : (s.emit o).fenceHeld = s.fenceHeld := rfl
@[simp] theorem State.emit_evFrames (o : Out) : (s.emit o).evFrames = s.evFrames := rfl
@[simp] theorem State.emit_rx (o : Out) : (s.emit o).rx = s.rx := rfl
@[simp] theorem State.emit_tx (o : Out) : (s.emit o).tx = s.tx := rfl
@[simp] theorem State.emit_segs (o : Out) : (s.emit o).segs = s.segs := rfl
@[simp] theorem State.emit_engs (o : Out) : (s.emit o).engs = s.engs := rfl
@[simp] theorem State.emit_lts (o : Out) : (s.emit o).lts = s.lts := rfl
@[simp] theorem State.emit_ports (o : Out) : (s.emit o).ports = s.ports := rfl
@[simp] theorem State.emit_waitq (o : Out) : (s.emit o).waitq = s.waitq := rfl
@[simp] theorem State.emit_plls (o : Out) : (s.emit o).plls = s.plls := rfl
@[simp] theorem State.emit_calSeq (o : Out) : (s.emit o).calSeq = s.calSeq := rfl
@[simp] theorem State.emit_calReqs (o : Out) : (s.emit o).calReqs = s.calReqs := rfl
@[simp] theorem State.emit_rejects (o : Out) : (s.emit o).rejects = s.rejects := rfl
@[simp] theorem State.emit_dwell (o : Out) : (s.emit o).dwell = s.dwell := rfl
@[simp] theorem State.emit_causes (o : Out) : (s.emit o).causes = s.causes := rfl
@[simp] theorem State.emit_grace (o : Out) : (s.emit o).grace = s.grace := rfl
@[simp] theorem State.emit_isolated (o : Out) : (s.emit o).isolated = s.isolated := rfl
@[simp] theorem State.emit_keys (o : Out) : (s.emit o).keys = s.keys := rfl
@[simp] theorem State.emit_bist (o : Out) : (s.emit o).bist = s.bist := rfl
@[simp] theorem State.emit_bistHeld (o : Out) : (s.emit o).bistHeld = s.bistHeld := rfl
@[simp] theorem State.emit_pwr (o : Out) : (s.emit o).pwr = s.pwr := rfl
@[simp] theorem State.emit_jtag (o : Out) : (s.emit o).jtag = s.jtag := rfl
@[simp] theorem State.emit_core (o : Out) : (s.emit o).core = s.core := rfl
@[simp] theorem State.emit_flash (o : Out) : (s.emit o).flash = s.flash := rfl
@[simp] theorem State.emit_flt (o : Out) : (s.emit o).flt = s.flt := rfl
@[simp] theorem State.emit_orbit (o : Out) : (s.emit o).orbit = s.orbit := rfl
@[simp] theorem State.emit_shot (o : Out) : (s.emit o).shot = s.shot := rfl
@[simp] theorem State.emit_banks (o : Out) : (s.emit o).banks = s.banks := rfl
@[simp] theorem State.emit_streams (o : Out) : (s.emit o).streams = s.streams := rfl
@[simp] theorem State.emit_halves (o : Out) : (s.emit o).halves = s.halves := rfl
@[simp] theorem State.emit_teleCq (o : Out) : (s.emit o).teleCq = s.teleCq := rfl
@[simp] theorem State.emit_ecliDone (o : Out) : (s.emit o).ecliDone = s.ecliDone := rfl
@[simp] theorem State.emit_ringReset (o : Out) : (s.emit o).ringReset = s.ringReset := rfl
@[simp] theorem State.emit_pages (o : Out) : (s.emit o).pages = s.pages := rfl
@[simp] theorem State.emit_reg (o : Out) (x : Nat) : (s.emit o).reg x = s.reg x := rfl
@[simp] theorem State.emit_get (o : Out) (x : Fld) : (s.emit o).get x = s.get x := rfl
@[simp] theorem State.emit_on (o : Out) (x : Fld) : (s.emit o).on x = s.on x := rfl
@[simp] theorem State.emit_counter (o : Out) (x : Nat) : (s.emit o).counter x = s.counter x := rfl
@[simp] theorem State.emit_ring (o : Out) (x0 : Nat) : (s.emit o).ring x0 = s.ring x0 := rfl
@[simp] theorem State.emit_rxe (o : Out) (x0 : Nat) : (s.emit o).rxe x0 = s.rxe x0 := rfl
@[simp] theorem State.emit_txe (o : Out) (x0 : Nat) : (s.emit o).txe x0 = s.txe x0 := rfl
@[simp] theorem State.emit_seg (o : Out) (x0 x1 x2 : Nat) : (s.emit o).seg x0 x1 x2 = s.seg x0 x1 x2 := rfl
@[simp] theorem State.emit_eng (o : Out) (x0 x1 : Nat) : (s.emit o).eng x0 x1 = s.eng x0 x1 := rfl
@[simp] theorem State.emit_port (o : Out) (x0 : Nat) : (s.emit o).port x0 = s.port x0 := rfl
@[simp] theorem State.emit_pll (o : Out) (x0 : Nat) : (s.emit o).pll x0 = s.pll x0 := rfl
@[simp] theorem State.emit_strm (o : Out) (x0 : Nat) : (s.emit o).strm x0 = s.strm x0 := rfl
@[simp] theorem State.emit_lt (o : Out) (x : Nat) : (s.emit o).lt x = s.lt x := rfl

@[simp] theorem State.useFree_pending : (s.useFree).pending = s.pending := rfl
@[simp] theorem State.useFree_clock : (s.useFree).clock = s.clock := rfl
@[simp] theorem State.useFree_freeCtr : (s.useFree).freeCtr = s.freeCtr + 1 := rfl
@[simp] theorem State.useFree_regs : (s.useFree).regs = s.regs := rfl
@[simp] theorem State.useFree_latch : (s.useFree).latch = s.latch := rfl
@[simp] theorem State.useFree_out : (s.useFree).out = s.out := rfl
@[simp] theorem State.useFree_pcie : (s.useFree).pcie = s.pcie := rfl
@[simp] theorem State.useFree_rings : (s.useFree).rings = s.rings := rfl
@[simp] theorem State.useFree_dispatched : (s.useFree).dispatched = s.dispatched := rfl
@[simp] theorem State.useFree_fenceHeld : (s.useFree).fenceHeld = s.fenceHeld := rfl
@[simp] theorem State.useFree_evFrames : (s.useFree).evFrames = s.evFrames := rfl
@[simp] theorem State.useFree_rx : (s.useFree).rx = s.rx := rfl
@[simp] theorem State.useFree_tx : (s.useFree).tx = s.tx := rfl
@[simp] theorem State.useFree_segs : (s.useFree).segs = s.segs := rfl
@[simp] theorem State.useFree_engs : (s.useFree).engs = s.engs := rfl
@[simp] theorem State.useFree_lts : (s.useFree).lts = s.lts := rfl
@[simp] theorem State.useFree_ports : (s.useFree).ports = s.ports := rfl
@[simp] theorem State.useFree_waitq : (s.useFree).waitq = s.waitq := rfl
@[simp] theorem State.useFree_plls : (s.useFree).plls = s.plls := rfl
@[simp] theorem State.useFree_calSeq : (s.useFree).calSeq = s.calSeq := rfl
@[simp] theorem State.useFree_calReqs : (s.useFree).calReqs = s.calReqs := rfl
@[simp] theorem State.useFree_rejects : (s.useFree).rejects = s.rejects := rfl
@[simp] theorem State.useFree_dwell : (s.useFree).dwell = s.dwell := rfl
@[simp] theorem State.useFree_causes : (s.useFree).causes = s.causes := rfl
@[simp] theorem State.useFree_grace : (s.useFree).grace = s.grace := rfl
@[simp] theorem State.useFree_isolated : (s.useFree).isolated = s.isolated := rfl
@[simp] theorem State.useFree_keys : (s.useFree).keys = s.keys := rfl
@[simp] theorem State.useFree_bist : (s.useFree).bist = s.bist := rfl
@[simp] theorem State.useFree_bistHeld : (s.useFree).bistHeld = s.bistHeld := rfl
@[simp] theorem State.useFree_pwr : (s.useFree).pwr = s.pwr := rfl
@[simp] theorem State.useFree_jtag : (s.useFree).jtag = s.jtag := rfl
@[simp] theorem State.useFree_core : (s.useFree).core = s.core := rfl
@[simp] theorem State.useFree_flash : (s.useFree).flash = s.flash := rfl
@[simp] theorem State.useFree_flt : (s.useFree).flt = s.flt := rfl
@[simp] theorem State.useFree_orbit : (s.useFree).orbit = s.orbit := rfl
@[simp] theorem State.useFree_shot : (s.useFree).shot = s.shot := rfl
@[simp] theorem State.useFree_banks : (s.useFree).banks = s.banks := rfl
@[simp] theorem State.useFree_streams : (s.useFree).streams = s.streams := rfl
@[simp] theorem State.useFree_halves : (s.useFree).halves = s.halves := rfl
@[simp] theorem State.useFree_teleCq : (s.useFree).teleCq = s.teleCq := rfl
@[simp] theorem State.useFree_ecliDone : (s.useFree).ecliDone = s.ecliDone := rfl
@[simp] theorem State.useFree_ringReset : (s.useFree).ringReset = s.ringReset := rfl
@[simp] theorem State.useFree_pages : (s.useFree).pages = s.pages := rfl
@[simp] theorem State.useFree_reg (x : Nat) : (s.useFree).reg x = s.reg x := rfl
@[simp] theorem State.useFree_get (x : Fld) : (s.useFree).get x = s.get x := rfl
@[simp] theorem State.useFree_on (x : Fld) : (s.useFree).on x = s.on x := rfl
@[simp] theorem State.useFree_counter (x : Nat) : (s.useFree).counter x = s.counter x := rfl
@[simp] theorem State.useFree_ring (x0 : Nat) : (s.useFree).ring x0 = s.ring x0 := rfl
@[simp] theorem State.useFree_rxe (x0 : Nat) : (s.useFree).rxe x0 = s.rxe x0 := rfl
@[simp] theorem State.useFree_txe (x0 : Nat) : (s.useFree).txe x0 = s.txe x0 := rfl
@[simp] theorem State.useFree_seg (x0 x1 x2 : Nat) : (s.useFree).seg x0 x1 x2 = s.seg x0 x1 x2 := rfl
@[simp] theorem State.useFree_eng (x0 x1 : Nat) : (s.useFree).eng x0 x1 = s.eng x0 x1 := rfl
@[simp] theorem State.useFree_port (x0 : Nat) : (s.useFree).port x0 = s.port x0 := rfl
@[simp] theorem State.useFree_pll (x0 : Nat) : (s.useFree).pll x0 = s.pll x0 := rfl
@[simp] theorem State.useFree_strm (x0 : Nat) : (s.useFree).strm x0 = s.strm x0 := rfl
@[simp] theorem State.useFree_lt (x : Nat) : (s.useFree).lt x = s.lt x := rfl

@[simp] theorem State.causeOn_pending (n : Nat) : (s.causeOn n).pending = s.pending := rfl
@[simp] theorem State.causeOn_clock (n : Nat) : (s.causeOn n).clock = s.clock := rfl
@[simp] theorem State.causeOn_freeCtr (n : Nat) : (s.causeOn n).freeCtr = s.freeCtr := rfl
@[simp] theorem State.causeOn_regs (n : Nat) : (s.causeOn n).regs = s.regs := rfl
@[simp] theorem State.causeOn_latch (n : Nat) : (s.causeOn n).latch = s.latch := rfl
@[simp] theorem State.causeOn_out (n : Nat) : (s.causeOn n).out = s.out := rfl
@[simp] theorem State.causeOn_pcie (n : Nat) : (s.causeOn n).pcie = s.pcie := rfl
@[simp] theorem State.causeOn_rings (n : Nat) : (s.causeOn n).rings = s.rings := rfl
@[simp] theorem State.causeOn_dispatched (n : Nat) : (s.causeOn n).dispatched = s.dispatched := rfl
@[simp] theorem State.causeOn_fenceHeld (n : Nat) : (s.causeOn n).fenceHeld = s.fenceHeld := rfl
@[simp] theorem State.causeOn_evFrames (n : Nat) : (s.causeOn n).evFrames = s.evFrames := rfl
@[simp] theorem State.causeOn_rx (n : Nat) : (s.causeOn n).rx = s.rx := rfl
@[simp] theorem State.causeOn_tx (n : Nat) : (s.causeOn n).tx = s.tx := rfl
@[simp] theorem State.causeOn_segs (n : Nat) : (s.causeOn n).segs = s.segs := rfl
@[simp] theorem State.causeOn_engs (n : Nat) : (s.causeOn n).engs = s.engs := rfl
@[simp] theorem State.causeOn_lts (n : Nat) : (s.causeOn n).lts = s.lts := rfl
@[simp] theorem State.causeOn_ports (n : Nat) : (s.causeOn n).ports = s.ports := rfl
@[simp] theorem State.causeOn_waitq (n : Nat) : (s.causeOn n).waitq = s.waitq := rfl
@[simp] theorem State.causeOn_plls (n : Nat) : (s.causeOn n).plls = s.plls := rfl
@[simp] theorem State.causeOn_calSeq (n : Nat) : (s.causeOn n).calSeq = s.calSeq := rfl
@[simp] theorem State.causeOn_calReqs (n : Nat) : (s.causeOn n).calReqs = s.calReqs := rfl
@[simp] theorem State.causeOn_rejects (n : Nat) : (s.causeOn n).rejects = s.rejects := rfl
@[simp] theorem State.causeOn_dwell (n : Nat) : (s.causeOn n).dwell = s.dwell := rfl
@[simp] theorem State.causeOn_causes (n : Nat) : (s.causeOn n).causes = s.causes ||| 2 ^ n := rfl
@[simp] theorem State.causeOn_grace (n : Nat) : (s.causeOn n).grace = s.grace := rfl
@[simp] theorem State.causeOn_isolated (n : Nat) : (s.causeOn n).isolated = s.isolated := rfl
@[simp] theorem State.causeOn_keys (n : Nat) : (s.causeOn n).keys = s.keys := rfl
@[simp] theorem State.causeOn_bist (n : Nat) : (s.causeOn n).bist = s.bist := rfl
@[simp] theorem State.causeOn_bistHeld (n : Nat) : (s.causeOn n).bistHeld = s.bistHeld := rfl
@[simp] theorem State.causeOn_pwr (n : Nat) : (s.causeOn n).pwr = s.pwr := rfl
@[simp] theorem State.causeOn_jtag (n : Nat) : (s.causeOn n).jtag = s.jtag := rfl
@[simp] theorem State.causeOn_core (n : Nat) : (s.causeOn n).core = s.core := rfl
@[simp] theorem State.causeOn_flash (n : Nat) : (s.causeOn n).flash = s.flash := rfl
@[simp] theorem State.causeOn_flt (n : Nat) : (s.causeOn n).flt = s.flt := rfl
@[simp] theorem State.causeOn_orbit (n : Nat) : (s.causeOn n).orbit = s.orbit := rfl
@[simp] theorem State.causeOn_shot (n : Nat) : (s.causeOn n).shot = s.shot := rfl
@[simp] theorem State.causeOn_banks (n : Nat) : (s.causeOn n).banks = s.banks := rfl
@[simp] theorem State.causeOn_streams (n : Nat) : (s.causeOn n).streams = s.streams := rfl
@[simp] theorem State.causeOn_halves (n : Nat) : (s.causeOn n).halves = s.halves := rfl
@[simp] theorem State.causeOn_teleCq (n : Nat) : (s.causeOn n).teleCq = s.teleCq := rfl
@[simp] theorem State.causeOn_ecliDone (n : Nat) : (s.causeOn n).ecliDone = s.ecliDone := rfl
@[simp] theorem State.causeOn_ringReset (n : Nat) : (s.causeOn n).ringReset = s.ringReset := rfl
@[simp] theorem State.causeOn_pages (n : Nat) : (s.causeOn n).pages = s.pages := rfl
@[simp] theorem State.causeOn_reg (n : Nat) (x : Nat) : (s.causeOn n).reg x = s.reg x := rfl
@[simp] theorem State.causeOn_get (n : Nat) (x : Fld) : (s.causeOn n).get x = s.get x := rfl
@[simp] theorem State.causeOn_on (n : Nat) (x : Fld) : (s.causeOn n).on x = s.on x := rfl
@[simp] theorem State.causeOn_counter (n : Nat) (x : Nat) : (s.causeOn n).counter x = s.counter x := rfl
@[simp] theorem State.causeOn_ring (n : Nat) (x0 : Nat) : (s.causeOn n).ring x0 = s.ring x0 := rfl
@[simp] theorem State.causeOn_rxe (n : Nat) (x0 : Nat) : (s.causeOn n).rxe x0 = s.rxe x0 := rfl
@[simp] theorem State.causeOn_txe (n : Nat) (x0 : Nat) : (s.causeOn n).txe x0 = s.txe x0 := rfl
@[simp] theorem State.causeOn_seg (n : Nat) (x0 x1 x2 : Nat) : (s.causeOn n).seg x0 x1 x2 = s.seg x0 x1 x2 := rfl
@[simp] theorem State.causeOn_eng (n : Nat) (x0 x1 : Nat) : (s.causeOn n).eng x0 x1 = s.eng x0 x1 := rfl
@[simp] theorem State.causeOn_port (n : Nat) (x0 : Nat) : (s.causeOn n).port x0 = s.port x0 := rfl
@[simp] theorem State.causeOn_pll (n : Nat) (x0 : Nat) : (s.causeOn n).pll x0 = s.pll x0 := rfl
@[simp] theorem State.causeOn_strm (n : Nat) (x0 : Nat) : (s.causeOn n).strm x0 = s.strm x0 := rfl
@[simp] theorem State.causeOn_lt (n : Nat) (x : Nat) : (s.causeOn n).lt x = s.lt x := rfl

@[simp] theorem State.updRing_pending (q : Nat) (f : Ring → Ring) : (s.updRing q f).pending = s.pending := rfl
@[simp] theorem State.updRing_clock (q : Nat) (f : Ring → Ring) : (s.updRing q f).clock = s.clock := rfl
@[simp] theorem State.updRing_freeCtr (q : Nat) (f : Ring → Ring) : (s.updRing q f).freeCtr = s.freeCtr := rfl
@[simp] theorem State.updRing_regs (q : Nat) (f : Ring → Ring) : (s.updRing q f).regs = s.regs := rfl
@[simp] theorem State.updRing_latch (q : Nat) (f : Ring → Ring) : (s.updRing q f).latch = s.latch := rfl
@[simp] theorem State.updRing_out (q : Nat) (f : Ring → Ring) : (s.updRing q f).out = s.out := rfl
@[simp] theorem State.updRing_pcie (q : Nat) (f : Ring → Ring) : (s.updRing q f).pcie = s.pcie := rfl
@[simp] theorem State.updRing_dispatched (q : Nat) (f : Ring → Ring) : (s.updRing q f).dispatched = s.dispatched := rfl
@[simp] theorem State.updRing_fenceHeld (q : Nat) (f : Ring → Ring) : (s.updRing q f).fenceHeld = s.fenceHeld := rfl
@[simp] theorem State.updRing_evFrames (q : Nat) (f : Ring → Ring) : (s.updRing q f).evFrames = s.evFrames := rfl
@[simp] theorem State.updRing_rx (q : Nat) (f : Ring → Ring) : (s.updRing q f).rx = s.rx := rfl
@[simp] theorem State.updRing_tx (q : Nat) (f : Ring → Ring) : (s.updRing q f).tx = s.tx := rfl
@[simp] theorem State.updRing_segs (q : Nat) (f : Ring → Ring) : (s.updRing q f).segs = s.segs := rfl
@[simp] theorem State.updRing_engs (q : Nat) (f : Ring → Ring) : (s.updRing q f).engs = s.engs := rfl
@[simp] theorem State.updRing_lts (q : Nat) (f : Ring → Ring) : (s.updRing q f).lts = s.lts := rfl
@[simp] theorem State.updRing_ports (q : Nat) (f : Ring → Ring) : (s.updRing q f).ports = s.ports := rfl
@[simp] theorem State.updRing_waitq (q : Nat) (f : Ring → Ring) : (s.updRing q f).waitq = s.waitq := rfl
@[simp] theorem State.updRing_plls (q : Nat) (f : Ring → Ring) : (s.updRing q f).plls = s.plls := rfl
@[simp] theorem State.updRing_calSeq (q : Nat) (f : Ring → Ring) : (s.updRing q f).calSeq = s.calSeq := rfl
@[simp] theorem State.updRing_calReqs (q : Nat) (f : Ring → Ring) : (s.updRing q f).calReqs = s.calReqs := rfl
@[simp] theorem State.updRing_rejects (q : Nat) (f : Ring → Ring) : (s.updRing q f).rejects = s.rejects := rfl
@[simp] theorem State.updRing_dwell (q : Nat) (f : Ring → Ring) : (s.updRing q f).dwell = s.dwell := rfl
@[simp] theorem State.updRing_causes (q : Nat) (f : Ring → Ring) : (s.updRing q f).causes = s.causes := rfl
@[simp] theorem State.updRing_grace (q : Nat) (f : Ring → Ring) : (s.updRing q f).grace = s.grace := rfl
@[simp] theorem State.updRing_isolated (q : Nat) (f : Ring → Ring) : (s.updRing q f).isolated = s.isolated := rfl
@[simp] theorem State.updRing_keys (q : Nat) (f : Ring → Ring) : (s.updRing q f).keys = s.keys := rfl
@[simp] theorem State.updRing_bist (q : Nat) (f : Ring → Ring) : (s.updRing q f).bist = s.bist := rfl
@[simp] theorem State.updRing_bistHeld (q : Nat) (f : Ring → Ring) : (s.updRing q f).bistHeld = s.bistHeld := rfl
@[simp] theorem State.updRing_pwr (q : Nat) (f : Ring → Ring) : (s.updRing q f).pwr = s.pwr := rfl
@[simp] theorem State.updRing_jtag (q : Nat) (f : Ring → Ring) : (s.updRing q f).jtag = s.jtag := rfl
@[simp] theorem State.updRing_core (q : Nat) (f : Ring → Ring) : (s.updRing q f).core = s.core := rfl
@[simp] theorem State.updRing_flash (q : Nat) (f : Ring → Ring) : (s.updRing q f).flash = s.flash := rfl
@[simp] theorem State.updRing_flt (q : Nat) (f : Ring → Ring) : (s.updRing q f).flt = s.flt := rfl
@[simp] theorem State.updRing_orbit (q : Nat) (f : Ring → Ring) : (s.updRing q f).orbit = s.orbit := rfl
@[simp] theorem State.updRing_shot (q : Nat) (f : Ring → Ring) : (s.updRing q f).shot = s.shot := rfl
@[simp] theorem State.updRing_banks (q : Nat) (f : Ring → Ring) : (s.updRing q f).banks = s.banks := rfl
@[simp] theorem State.updRing_streams (q : Nat) (f : Ring → Ring) : (s.updRing q f).streams = s.streams := rfl
@[simp] theorem State.updRing_halves (q : Nat) (f : Ring → Ring) : (s.updRing q f).halves = s.halves := rfl
@[simp] theorem State.updRing_teleCq (q : Nat) (f : Ring → Ring) : (s.updRing q f).teleCq = s.teleCq := rfl
@[simp] theorem State.updRing_ecliDone (q : Nat) (f : Ring → Ring) : (s.updRing q f).ecliDone = s.ecliDone := rfl
@[simp] theorem State.updRing_ringReset (q : Nat) (f : Ring → Ring) : (s.updRing q f).ringReset = s.ringReset := rfl
@[simp] theorem State.updRing_pages (q : Nat) (f : Ring → Ring) : (s.updRing q f).pages = s.pages := rfl
@[simp] theorem State.updRing_reg (q : Nat) (f : Ring → Ring) (x : Nat) : (s.updRing q f).reg x = s.reg x := rfl
@[simp] theorem State.updRing_get (q : Nat) (f : Ring → Ring) (x : Fld) : (s.updRing q f).get x = s.get x := rfl
@[simp] theorem State.updRing_on (q : Nat) (f : Ring → Ring) (x : Fld) : (s.updRing q f).on x = s.on x := rfl
@[simp] theorem State.updRing_counter (q : Nat) (f : Ring → Ring) (x : Nat) : (s.updRing q f).counter x = s.counter x := rfl
@[simp] theorem State.updRing_ring_same (q : Nat) (f : Ring → Ring) : (s.updRing q f).ring q = f (s.ring q) := Sparse.get_set_same ..
@[simp] theorem State.updRing_rxe (q : Nat) (f : Ring → Ring) (x0 : Nat) : (s.updRing q f).rxe x0 = s.rxe x0 := rfl
@[simp] theorem State.updRing_txe (q : Nat) (f : Ring → Ring) (x0 : Nat) : (s.updRing q f).txe x0 = s.txe x0 := rfl
@[simp] theorem State.updRing_seg (q : Nat) (f : Ring → Ring) (x0 x1 x2 : Nat) : (s.updRing q f).seg x0 x1 x2 = s.seg x0 x1 x2 := rfl
@[simp] theorem State.updRing_eng (q : Nat) (f : Ring → Ring) (x0 x1 : Nat) : (s.updRing q f).eng x0 x1 = s.eng x0 x1 := rfl
@[simp] theorem State.updRing_port (q : Nat) (f : Ring → Ring) (x0 : Nat) : (s.updRing q f).port x0 = s.port x0 := rfl
@[simp] theorem State.updRing_pll (q : Nat) (f : Ring → Ring) (x0 : Nat) : (s.updRing q f).pll x0 = s.pll x0 := rfl
@[simp] theorem State.updRing_strm (q : Nat) (f : Ring → Ring) (x0 : Nat) : (s.updRing q f).strm x0 = s.strm x0 := rfl
@[simp] theorem State.updRing_lt (q : Nat) (f : Ring → Ring) (x : Nat) : (s.updRing q f).lt x = s.lt x := rfl

@[simp] theorem State.updRx_pending (i : Nat) (f : RxEnd → RxEnd) : (s.updRx i f).pending = s.pending := rfl
@[simp] theorem State.updRx_clock (i : Nat) (f : RxEnd → RxEnd) : (s.updRx i f).clock = s.clock := rfl
@[simp] theorem State.updRx_freeCtr (i : Nat) (f : RxEnd → RxEnd) : (s.updRx i f).freeCtr = s.freeCtr := rfl
@[simp] theorem State.updRx_regs (i : Nat) (f : RxEnd → RxEnd) : (s.updRx i f).regs = s.regs := rfl
@[simp] theorem State.updRx_latch (i : Nat) (f : RxEnd → RxEnd) : (s.updRx i f).latch = s.latch := rfl
@[simp] theorem State.updRx_out (i : Nat) (f : RxEnd → RxEnd) : (s.updRx i f).out = s.out := rfl
@[simp] theorem State.updRx_pcie (i : Nat) (f : RxEnd → RxEnd) : (s.updRx i f).pcie = s.pcie := rfl
@[simp] theorem State.updRx_rings (i : Nat) (f : RxEnd → RxEnd) : (s.updRx i f).rings = s.rings := rfl
@[simp] theorem State.updRx_dispatched (i : Nat) (f : RxEnd → RxEnd) : (s.updRx i f).dispatched = s.dispatched := rfl
@[simp] theorem State.updRx_fenceHeld (i : Nat) (f : RxEnd → RxEnd) : (s.updRx i f).fenceHeld = s.fenceHeld := rfl
@[simp] theorem State.updRx_evFrames (i : Nat) (f : RxEnd → RxEnd) : (s.updRx i f).evFrames = s.evFrames := rfl
@[simp] theorem State.updRx_tx (i : Nat) (f : RxEnd → RxEnd) : (s.updRx i f).tx = s.tx := rfl
@[simp] theorem State.updRx_segs (i : Nat) (f : RxEnd → RxEnd) : (s.updRx i f).segs = s.segs := rfl
@[simp] theorem State.updRx_engs (i : Nat) (f : RxEnd → RxEnd) : (s.updRx i f).engs = s.engs := rfl
@[simp] theorem State.updRx_lts (i : Nat) (f : RxEnd → RxEnd) : (s.updRx i f).lts = s.lts := rfl
@[simp] theorem State.updRx_ports (i : Nat) (f : RxEnd → RxEnd) : (s.updRx i f).ports = s.ports := rfl
@[simp] theorem State.updRx_waitq (i : Nat) (f : RxEnd → RxEnd) : (s.updRx i f).waitq = s.waitq := rfl
@[simp] theorem State.updRx_plls (i : Nat) (f : RxEnd → RxEnd) : (s.updRx i f).plls = s.plls := rfl
@[simp] theorem State.updRx_calSeq (i : Nat) (f : RxEnd → RxEnd) : (s.updRx i f).calSeq = s.calSeq := rfl
@[simp] theorem State.updRx_calReqs (i : Nat) (f : RxEnd → RxEnd) : (s.updRx i f).calReqs = s.calReqs := rfl
@[simp] theorem State.updRx_rejects (i : Nat) (f : RxEnd → RxEnd) : (s.updRx i f).rejects = s.rejects := rfl
@[simp] theorem State.updRx_dwell (i : Nat) (f : RxEnd → RxEnd) : (s.updRx i f).dwell = s.dwell := rfl
@[simp] theorem State.updRx_causes (i : Nat) (f : RxEnd → RxEnd) : (s.updRx i f).causes = s.causes := rfl
@[simp] theorem State.updRx_grace (i : Nat) (f : RxEnd → RxEnd) : (s.updRx i f).grace = s.grace := rfl
@[simp] theorem State.updRx_isolated (i : Nat) (f : RxEnd → RxEnd) : (s.updRx i f).isolated = s.isolated := rfl
@[simp] theorem State.updRx_keys (i : Nat) (f : RxEnd → RxEnd) : (s.updRx i f).keys = s.keys := rfl
@[simp] theorem State.updRx_bist (i : Nat) (f : RxEnd → RxEnd) : (s.updRx i f).bist = s.bist := rfl
@[simp] theorem State.updRx_bistHeld (i : Nat) (f : RxEnd → RxEnd) : (s.updRx i f).bistHeld = s.bistHeld := rfl
@[simp] theorem State.updRx_pwr (i : Nat) (f : RxEnd → RxEnd) : (s.updRx i f).pwr = s.pwr := rfl
@[simp] theorem State.updRx_jtag (i : Nat) (f : RxEnd → RxEnd) : (s.updRx i f).jtag = s.jtag := rfl
@[simp] theorem State.updRx_core (i : Nat) (f : RxEnd → RxEnd) : (s.updRx i f).core = s.core := rfl
@[simp] theorem State.updRx_flash (i : Nat) (f : RxEnd → RxEnd) : (s.updRx i f).flash = s.flash := rfl
@[simp] theorem State.updRx_flt (i : Nat) (f : RxEnd → RxEnd) : (s.updRx i f).flt = s.flt := rfl
@[simp] theorem State.updRx_orbit (i : Nat) (f : RxEnd → RxEnd) : (s.updRx i f).orbit = s.orbit := rfl
@[simp] theorem State.updRx_shot (i : Nat) (f : RxEnd → RxEnd) : (s.updRx i f).shot = s.shot := rfl
@[simp] theorem State.updRx_banks (i : Nat) (f : RxEnd → RxEnd) : (s.updRx i f).banks = s.banks := rfl
@[simp] theorem State.updRx_streams (i : Nat) (f : RxEnd → RxEnd) : (s.updRx i f).streams = s.streams := rfl
@[simp] theorem State.updRx_halves (i : Nat) (f : RxEnd → RxEnd) : (s.updRx i f).halves = s.halves := rfl
@[simp] theorem State.updRx_teleCq (i : Nat) (f : RxEnd → RxEnd) : (s.updRx i f).teleCq = s.teleCq := rfl
@[simp] theorem State.updRx_ecliDone (i : Nat) (f : RxEnd → RxEnd) : (s.updRx i f).ecliDone = s.ecliDone := rfl
@[simp] theorem State.updRx_ringReset (i : Nat) (f : RxEnd → RxEnd) : (s.updRx i f).ringReset = s.ringReset := rfl
@[simp] theorem State.updRx_pages (i : Nat) (f : RxEnd → RxEnd) : (s.updRx i f).pages = s.pages := rfl
@[simp] theorem State.updRx_reg (i : Nat) (f : RxEnd → RxEnd) (x : Nat) : (s.updRx i f).reg x = s.reg x := rfl
@[simp] theorem State.updRx_get (i : Nat) (f : RxEnd → RxEnd) (x : Fld) : (s.updRx i f).get x = s.get x := rfl
@[simp] theorem State.updRx_on (i : Nat) (f : RxEnd → RxEnd) (x : Fld) : (s.updRx i f).on x = s.on x := rfl
@[simp] theorem State.updRx_counter (i : Nat) (f : RxEnd → RxEnd) (x : Nat) : (s.updRx i f).counter x = s.counter x := rfl
@[simp] theorem State.updRx_ring (i : Nat) (f : RxEnd → RxEnd) (x0 : Nat) : (s.updRx i f).ring x0 = s.ring x0 := rfl
@[simp] theorem State.updRx_rxe_same (i : Nat) (f : RxEnd → RxEnd) : (s.updRx i f).rxe i = f (s.rxe i) := Sparse.get_set_same ..
@[simp] theorem State.updRx_txe (i : Nat) (f : RxEnd → RxEnd) (x0 : Nat) : (s.updRx i f).txe x0 = s.txe x0 := rfl
@[simp] theorem State.updRx_seg (i : Nat) (f : RxEnd → RxEnd) (x0 x1 x2 : Nat) : (s.updRx i f).seg x0 x1 x2 = s.seg x0 x1 x2 := rfl
@[simp] theorem State.updRx_eng (i : Nat) (f : RxEnd → RxEnd) (x0 x1 : Nat) : (s.updRx i f).eng x0 x1 = s.eng x0 x1 := rfl
@[simp] theorem State.updRx_port (i : Nat) (f : RxEnd → RxEnd) (x0 : Nat) : (s.updRx i f).port x0 = s.port x0 := rfl
@[simp] theorem State.updRx_pll (i : Nat) (f : RxEnd → RxEnd) (x0 : Nat) : (s.updRx i f).pll x0 = s.pll x0 := rfl
@[simp] theorem State.updRx_strm (i : Nat) (f : RxEnd → RxEnd) (x0 : Nat) : (s.updRx i f).strm x0 = s.strm x0 := rfl
@[simp] theorem State.updRx_lt (i : Nat) (f : RxEnd → RxEnd) (x : Nat) : (s.updRx i f).lt x = s.lt x := rfl

@[simp] theorem State.updTx_pending (i : Nat) (f : TxEnd → TxEnd) : (s.updTx i f).pending = s.pending := rfl
@[simp] theorem State.updTx_clock (i : Nat) (f : TxEnd → TxEnd) : (s.updTx i f).clock = s.clock := rfl
@[simp] theorem State.updTx_freeCtr (i : Nat) (f : TxEnd → TxEnd) : (s.updTx i f).freeCtr = s.freeCtr := rfl
@[simp] theorem State.updTx_regs (i : Nat) (f : TxEnd → TxEnd) : (s.updTx i f).regs = s.regs := rfl
@[simp] theorem State.updTx_latch (i : Nat) (f : TxEnd → TxEnd) : (s.updTx i f).latch = s.latch := rfl
@[simp] theorem State.updTx_out (i : Nat) (f : TxEnd → TxEnd) : (s.updTx i f).out = s.out := rfl
@[simp] theorem State.updTx_pcie (i : Nat) (f : TxEnd → TxEnd) : (s.updTx i f).pcie = s.pcie := rfl
@[simp] theorem State.updTx_rings (i : Nat) (f : TxEnd → TxEnd) : (s.updTx i f).rings = s.rings := rfl
@[simp] theorem State.updTx_dispatched (i : Nat) (f : TxEnd → TxEnd) : (s.updTx i f).dispatched = s.dispatched := rfl
@[simp] theorem State.updTx_fenceHeld (i : Nat) (f : TxEnd → TxEnd) : (s.updTx i f).fenceHeld = s.fenceHeld := rfl
@[simp] theorem State.updTx_evFrames (i : Nat) (f : TxEnd → TxEnd) : (s.updTx i f).evFrames = s.evFrames := rfl
@[simp] theorem State.updTx_rx (i : Nat) (f : TxEnd → TxEnd) : (s.updTx i f).rx = s.rx := rfl
@[simp] theorem State.updTx_segs (i : Nat) (f : TxEnd → TxEnd) : (s.updTx i f).segs = s.segs := rfl
@[simp] theorem State.updTx_engs (i : Nat) (f : TxEnd → TxEnd) : (s.updTx i f).engs = s.engs := rfl
@[simp] theorem State.updTx_lts (i : Nat) (f : TxEnd → TxEnd) : (s.updTx i f).lts = s.lts := rfl
@[simp] theorem State.updTx_ports (i : Nat) (f : TxEnd → TxEnd) : (s.updTx i f).ports = s.ports := rfl
@[simp] theorem State.updTx_waitq (i : Nat) (f : TxEnd → TxEnd) : (s.updTx i f).waitq = s.waitq := rfl
@[simp] theorem State.updTx_plls (i : Nat) (f : TxEnd → TxEnd) : (s.updTx i f).plls = s.plls := rfl
@[simp] theorem State.updTx_calSeq (i : Nat) (f : TxEnd → TxEnd) : (s.updTx i f).calSeq = s.calSeq := rfl
@[simp] theorem State.updTx_calReqs (i : Nat) (f : TxEnd → TxEnd) : (s.updTx i f).calReqs = s.calReqs := rfl
@[simp] theorem State.updTx_rejects (i : Nat) (f : TxEnd → TxEnd) : (s.updTx i f).rejects = s.rejects := rfl
@[simp] theorem State.updTx_dwell (i : Nat) (f : TxEnd → TxEnd) : (s.updTx i f).dwell = s.dwell := rfl
@[simp] theorem State.updTx_causes (i : Nat) (f : TxEnd → TxEnd) : (s.updTx i f).causes = s.causes := rfl
@[simp] theorem State.updTx_grace (i : Nat) (f : TxEnd → TxEnd) : (s.updTx i f).grace = s.grace := rfl
@[simp] theorem State.updTx_isolated (i : Nat) (f : TxEnd → TxEnd) : (s.updTx i f).isolated = s.isolated := rfl
@[simp] theorem State.updTx_keys (i : Nat) (f : TxEnd → TxEnd) : (s.updTx i f).keys = s.keys := rfl
@[simp] theorem State.updTx_bist (i : Nat) (f : TxEnd → TxEnd) : (s.updTx i f).bist = s.bist := rfl
@[simp] theorem State.updTx_bistHeld (i : Nat) (f : TxEnd → TxEnd) : (s.updTx i f).bistHeld = s.bistHeld := rfl
@[simp] theorem State.updTx_pwr (i : Nat) (f : TxEnd → TxEnd) : (s.updTx i f).pwr = s.pwr := rfl
@[simp] theorem State.updTx_jtag (i : Nat) (f : TxEnd → TxEnd) : (s.updTx i f).jtag = s.jtag := rfl
@[simp] theorem State.updTx_core (i : Nat) (f : TxEnd → TxEnd) : (s.updTx i f).core = s.core := rfl
@[simp] theorem State.updTx_flash (i : Nat) (f : TxEnd → TxEnd) : (s.updTx i f).flash = s.flash := rfl
@[simp] theorem State.updTx_flt (i : Nat) (f : TxEnd → TxEnd) : (s.updTx i f).flt = s.flt := rfl
@[simp] theorem State.updTx_orbit (i : Nat) (f : TxEnd → TxEnd) : (s.updTx i f).orbit = s.orbit := rfl
@[simp] theorem State.updTx_shot (i : Nat) (f : TxEnd → TxEnd) : (s.updTx i f).shot = s.shot := rfl
@[simp] theorem State.updTx_banks (i : Nat) (f : TxEnd → TxEnd) : (s.updTx i f).banks = s.banks := rfl
@[simp] theorem State.updTx_streams (i : Nat) (f : TxEnd → TxEnd) : (s.updTx i f).streams = s.streams := rfl
@[simp] theorem State.updTx_halves (i : Nat) (f : TxEnd → TxEnd) : (s.updTx i f).halves = s.halves := rfl
@[simp] theorem State.updTx_teleCq (i : Nat) (f : TxEnd → TxEnd) : (s.updTx i f).teleCq = s.teleCq := rfl
@[simp] theorem State.updTx_ecliDone (i : Nat) (f : TxEnd → TxEnd) : (s.updTx i f).ecliDone = s.ecliDone := rfl
@[simp] theorem State.updTx_ringReset (i : Nat) (f : TxEnd → TxEnd) : (s.updTx i f).ringReset = s.ringReset := rfl
@[simp] theorem State.updTx_pages (i : Nat) (f : TxEnd → TxEnd) : (s.updTx i f).pages = s.pages := rfl
@[simp] theorem State.updTx_reg (i : Nat) (f : TxEnd → TxEnd) (x : Nat) : (s.updTx i f).reg x = s.reg x := rfl
@[simp] theorem State.updTx_get (i : Nat) (f : TxEnd → TxEnd) (x : Fld) : (s.updTx i f).get x = s.get x := rfl
@[simp] theorem State.updTx_on (i : Nat) (f : TxEnd → TxEnd) (x : Fld) : (s.updTx i f).on x = s.on x := rfl
@[simp] theorem State.updTx_counter (i : Nat) (f : TxEnd → TxEnd) (x : Nat) : (s.updTx i f).counter x = s.counter x := rfl
@[simp] theorem State.updTx_ring (i : Nat) (f : TxEnd → TxEnd) (x0 : Nat) : (s.updTx i f).ring x0 = s.ring x0 := rfl
@[simp] theorem State.updTx_rxe (i : Nat) (f : TxEnd → TxEnd) (x0 : Nat) : (s.updTx i f).rxe x0 = s.rxe x0 := rfl
@[simp] theorem State.updTx_txe_same (i : Nat) (f : TxEnd → TxEnd) : (s.updTx i f).txe i = f (s.txe i) := Sparse.get_set_same ..
@[simp] theorem State.updTx_seg (i : Nat) (f : TxEnd → TxEnd) (x0 x1 x2 : Nat) : (s.updTx i f).seg x0 x1 x2 = s.seg x0 x1 x2 := rfl
@[simp] theorem State.updTx_eng (i : Nat) (f : TxEnd → TxEnd) (x0 x1 : Nat) : (s.updTx i f).eng x0 x1 = s.eng x0 x1 := rfl
@[simp] theorem State.updTx_port (i : Nat) (f : TxEnd → TxEnd) (x0 : Nat) : (s.updTx i f).port x0 = s.port x0 := rfl
@[simp] theorem State.updTx_pll (i : Nat) (f : TxEnd → TxEnd) (x0 : Nat) : (s.updTx i f).pll x0 = s.pll x0 := rfl
@[simp] theorem State.updTx_strm (i : Nat) (f : TxEnd → TxEnd) (x0 : Nat) : (s.updTx i f).strm x0 = s.strm x0 := rfl
@[simp] theorem State.updTx_lt (i : Nat) (f : TxEnd → TxEnd) (x : Nat) : (s.updTx i f).lt x = s.lt x := rfl

@[simp] theorem State.updSeg_pending (g sd k : Nat) (f : Seg → Seg) : (s.updSeg g sd k f).pending = s.pending := rfl
@[simp] theorem State.updSeg_clock (g sd k : Nat) (f : Seg → Seg) : (s.updSeg g sd k f).clock = s.clock := rfl
@[simp] theorem State.updSeg_freeCtr (g sd k : Nat) (f : Seg → Seg) : (s.updSeg g sd k f).freeCtr = s.freeCtr := rfl
@[simp] theorem State.updSeg_regs (g sd k : Nat) (f : Seg → Seg) : (s.updSeg g sd k f).regs = s.regs := rfl
@[simp] theorem State.updSeg_latch (g sd k : Nat) (f : Seg → Seg) : (s.updSeg g sd k f).latch = s.latch := rfl
@[simp] theorem State.updSeg_out (g sd k : Nat) (f : Seg → Seg) : (s.updSeg g sd k f).out = s.out := rfl
@[simp] theorem State.updSeg_pcie (g sd k : Nat) (f : Seg → Seg) : (s.updSeg g sd k f).pcie = s.pcie := rfl
@[simp] theorem State.updSeg_rings (g sd k : Nat) (f : Seg → Seg) : (s.updSeg g sd k f).rings = s.rings := rfl
@[simp] theorem State.updSeg_dispatched (g sd k : Nat) (f : Seg → Seg) : (s.updSeg g sd k f).dispatched = s.dispatched := rfl
@[simp] theorem State.updSeg_fenceHeld (g sd k : Nat) (f : Seg → Seg) : (s.updSeg g sd k f).fenceHeld = s.fenceHeld := rfl
@[simp] theorem State.updSeg_evFrames (g sd k : Nat) (f : Seg → Seg) : (s.updSeg g sd k f).evFrames = s.evFrames := rfl
@[simp] theorem State.updSeg_rx (g sd k : Nat) (f : Seg → Seg) : (s.updSeg g sd k f).rx = s.rx := rfl
@[simp] theorem State.updSeg_tx (g sd k : Nat) (f : Seg → Seg) : (s.updSeg g sd k f).tx = s.tx := rfl
@[simp] theorem State.updSeg_engs (g sd k : Nat) (f : Seg → Seg) : (s.updSeg g sd k f).engs = s.engs := rfl
@[simp] theorem State.updSeg_lts (g sd k : Nat) (f : Seg → Seg) : (s.updSeg g sd k f).lts = s.lts := rfl
@[simp] theorem State.updSeg_ports (g sd k : Nat) (f : Seg → Seg) : (s.updSeg g sd k f).ports = s.ports := rfl
@[simp] theorem State.updSeg_waitq (g sd k : Nat) (f : Seg → Seg) : (s.updSeg g sd k f).waitq = s.waitq := rfl
@[simp] theorem State.updSeg_plls (g sd k : Nat) (f : Seg → Seg) : (s.updSeg g sd k f).plls = s.plls := rfl
@[simp] theorem State.updSeg_calSeq (g sd k : Nat) (f : Seg → Seg) : (s.updSeg g sd k f).calSeq = s.calSeq := rfl
@[simp] theorem State.updSeg_calReqs (g sd k : Nat) (f : Seg → Seg) : (s.updSeg g sd k f).calReqs = s.calReqs := rfl
@[simp] theorem State.updSeg_rejects (g sd k : Nat) (f : Seg → Seg) : (s.updSeg g sd k f).rejects = s.rejects := rfl
@[simp] theorem State.updSeg_dwell (g sd k : Nat) (f : Seg → Seg) : (s.updSeg g sd k f).dwell = s.dwell := rfl
@[simp] theorem State.updSeg_causes (g sd k : Nat) (f : Seg → Seg) : (s.updSeg g sd k f).causes = s.causes := rfl
@[simp] theorem State.updSeg_grace (g sd k : Nat) (f : Seg → Seg) : (s.updSeg g sd k f).grace = s.grace := rfl
@[simp] theorem State.updSeg_isolated (g sd k : Nat) (f : Seg → Seg) : (s.updSeg g sd k f).isolated = s.isolated := rfl
@[simp] theorem State.updSeg_keys (g sd k : Nat) (f : Seg → Seg) : (s.updSeg g sd k f).keys = s.keys := rfl
@[simp] theorem State.updSeg_bist (g sd k : Nat) (f : Seg → Seg) : (s.updSeg g sd k f).bist = s.bist := rfl
@[simp] theorem State.updSeg_bistHeld (g sd k : Nat) (f : Seg → Seg) : (s.updSeg g sd k f).bistHeld = s.bistHeld := rfl
@[simp] theorem State.updSeg_pwr (g sd k : Nat) (f : Seg → Seg) : (s.updSeg g sd k f).pwr = s.pwr := rfl
@[simp] theorem State.updSeg_jtag (g sd k : Nat) (f : Seg → Seg) : (s.updSeg g sd k f).jtag = s.jtag := rfl
@[simp] theorem State.updSeg_core (g sd k : Nat) (f : Seg → Seg) : (s.updSeg g sd k f).core = s.core := rfl
@[simp] theorem State.updSeg_flash (g sd k : Nat) (f : Seg → Seg) : (s.updSeg g sd k f).flash = s.flash := rfl
@[simp] theorem State.updSeg_flt (g sd k : Nat) (f : Seg → Seg) : (s.updSeg g sd k f).flt = s.flt := rfl
@[simp] theorem State.updSeg_orbit (g sd k : Nat) (f : Seg → Seg) : (s.updSeg g sd k f).orbit = s.orbit := rfl
@[simp] theorem State.updSeg_shot (g sd k : Nat) (f : Seg → Seg) : (s.updSeg g sd k f).shot = s.shot := rfl
@[simp] theorem State.updSeg_banks (g sd k : Nat) (f : Seg → Seg) : (s.updSeg g sd k f).banks = s.banks := rfl
@[simp] theorem State.updSeg_streams (g sd k : Nat) (f : Seg → Seg) : (s.updSeg g sd k f).streams = s.streams := rfl
@[simp] theorem State.updSeg_halves (g sd k : Nat) (f : Seg → Seg) : (s.updSeg g sd k f).halves = s.halves := rfl
@[simp] theorem State.updSeg_teleCq (g sd k : Nat) (f : Seg → Seg) : (s.updSeg g sd k f).teleCq = s.teleCq := rfl
@[simp] theorem State.updSeg_ecliDone (g sd k : Nat) (f : Seg → Seg) : (s.updSeg g sd k f).ecliDone = s.ecliDone := rfl
@[simp] theorem State.updSeg_ringReset (g sd k : Nat) (f : Seg → Seg) : (s.updSeg g sd k f).ringReset = s.ringReset := rfl
@[simp] theorem State.updSeg_pages (g sd k : Nat) (f : Seg → Seg) : (s.updSeg g sd k f).pages = s.pages := rfl
@[simp] theorem State.updSeg_reg (g sd k : Nat) (f : Seg → Seg) (x : Nat) : (s.updSeg g sd k f).reg x = s.reg x := rfl
@[simp] theorem State.updSeg_get (g sd k : Nat) (f : Seg → Seg) (x : Fld) : (s.updSeg g sd k f).get x = s.get x := rfl
@[simp] theorem State.updSeg_on (g sd k : Nat) (f : Seg → Seg) (x : Fld) : (s.updSeg g sd k f).on x = s.on x := rfl
@[simp] theorem State.updSeg_counter (g sd k : Nat) (f : Seg → Seg) (x : Nat) : (s.updSeg g sd k f).counter x = s.counter x := rfl
@[simp] theorem State.updSeg_ring (g sd k : Nat) (f : Seg → Seg) (x0 : Nat) : (s.updSeg g sd k f).ring x0 = s.ring x0 := rfl
@[simp] theorem State.updSeg_rxe (g sd k : Nat) (f : Seg → Seg) (x0 : Nat) : (s.updSeg g sd k f).rxe x0 = s.rxe x0 := rfl
@[simp] theorem State.updSeg_txe (g sd k : Nat) (f : Seg → Seg) (x0 : Nat) : (s.updSeg g sd k f).txe x0 = s.txe x0 := rfl
@[simp] theorem State.updSeg_seg_same (g sd k : Nat) (f : Seg → Seg) : (s.updSeg g sd k f).seg g sd k = f (s.seg g sd k) := Sparse.get_set_same ..
@[simp] theorem State.updSeg_eng (g sd k : Nat) (f : Seg → Seg) (x0 x1 : Nat) : (s.updSeg g sd k f).eng x0 x1 = s.eng x0 x1 := rfl
@[simp] theorem State.updSeg_port (g sd k : Nat) (f : Seg → Seg) (x0 : Nat) : (s.updSeg g sd k f).port x0 = s.port x0 := rfl
@[simp] theorem State.updSeg_pll (g sd k : Nat) (f : Seg → Seg) (x0 : Nat) : (s.updSeg g sd k f).pll x0 = s.pll x0 := rfl
@[simp] theorem State.updSeg_strm (g sd k : Nat) (f : Seg → Seg) (x0 : Nat) : (s.updSeg g sd k f).strm x0 = s.strm x0 := rfl
@[simp] theorem State.updSeg_lt (g sd k : Nat) (f : Seg → Seg) (x : Nat) : (s.updSeg g sd k f).lt x = s.lt x := rfl

@[simp] theorem State.updEng_pending (e g : Nat) (f : EngPort → EngPort) : (s.updEng e g f).pending = s.pending := rfl
@[simp] theorem State.updEng_clock (e g : Nat) (f : EngPort → EngPort) : (s.updEng e g f).clock = s.clock := rfl
@[simp] theorem State.updEng_freeCtr (e g : Nat) (f : EngPort → EngPort) : (s.updEng e g f).freeCtr = s.freeCtr := rfl
@[simp] theorem State.updEng_regs (e g : Nat) (f : EngPort → EngPort) : (s.updEng e g f).regs = s.regs := rfl
@[simp] theorem State.updEng_latch (e g : Nat) (f : EngPort → EngPort) : (s.updEng e g f).latch = s.latch := rfl
@[simp] theorem State.updEng_out (e g : Nat) (f : EngPort → EngPort) : (s.updEng e g f).out = s.out := rfl
@[simp] theorem State.updEng_pcie (e g : Nat) (f : EngPort → EngPort) : (s.updEng e g f).pcie = s.pcie := rfl
@[simp] theorem State.updEng_rings (e g : Nat) (f : EngPort → EngPort) : (s.updEng e g f).rings = s.rings := rfl
@[simp] theorem State.updEng_dispatched (e g : Nat) (f : EngPort → EngPort) : (s.updEng e g f).dispatched = s.dispatched := rfl
@[simp] theorem State.updEng_fenceHeld (e g : Nat) (f : EngPort → EngPort) : (s.updEng e g f).fenceHeld = s.fenceHeld := rfl
@[simp] theorem State.updEng_evFrames (e g : Nat) (f : EngPort → EngPort) : (s.updEng e g f).evFrames = s.evFrames := rfl
@[simp] theorem State.updEng_rx (e g : Nat) (f : EngPort → EngPort) : (s.updEng e g f).rx = s.rx := rfl
@[simp] theorem State.updEng_tx (e g : Nat) (f : EngPort → EngPort) : (s.updEng e g f).tx = s.tx := rfl
@[simp] theorem State.updEng_segs (e g : Nat) (f : EngPort → EngPort) : (s.updEng e g f).segs = s.segs := rfl
@[simp] theorem State.updEng_lts (e g : Nat) (f : EngPort → EngPort) : (s.updEng e g f).lts = s.lts := rfl
@[simp] theorem State.updEng_ports (e g : Nat) (f : EngPort → EngPort) : (s.updEng e g f).ports = s.ports := rfl
@[simp] theorem State.updEng_waitq (e g : Nat) (f : EngPort → EngPort) : (s.updEng e g f).waitq = s.waitq := rfl
@[simp] theorem State.updEng_plls (e g : Nat) (f : EngPort → EngPort) : (s.updEng e g f).plls = s.plls := rfl
@[simp] theorem State.updEng_calSeq (e g : Nat) (f : EngPort → EngPort) : (s.updEng e g f).calSeq = s.calSeq := rfl
@[simp] theorem State.updEng_calReqs (e g : Nat) (f : EngPort → EngPort) : (s.updEng e g f).calReqs = s.calReqs := rfl
@[simp] theorem State.updEng_rejects (e g : Nat) (f : EngPort → EngPort) : (s.updEng e g f).rejects = s.rejects := rfl
@[simp] theorem State.updEng_dwell (e g : Nat) (f : EngPort → EngPort) : (s.updEng e g f).dwell = s.dwell := rfl
@[simp] theorem State.updEng_causes (e g : Nat) (f : EngPort → EngPort) : (s.updEng e g f).causes = s.causes := rfl
@[simp] theorem State.updEng_grace (e g : Nat) (f : EngPort → EngPort) : (s.updEng e g f).grace = s.grace := rfl
@[simp] theorem State.updEng_isolated (e g : Nat) (f : EngPort → EngPort) : (s.updEng e g f).isolated = s.isolated := rfl
@[simp] theorem State.updEng_keys (e g : Nat) (f : EngPort → EngPort) : (s.updEng e g f).keys = s.keys := rfl
@[simp] theorem State.updEng_bist (e g : Nat) (f : EngPort → EngPort) : (s.updEng e g f).bist = s.bist := rfl
@[simp] theorem State.updEng_bistHeld (e g : Nat) (f : EngPort → EngPort) : (s.updEng e g f).bistHeld = s.bistHeld := rfl
@[simp] theorem State.updEng_pwr (e g : Nat) (f : EngPort → EngPort) : (s.updEng e g f).pwr = s.pwr := rfl
@[simp] theorem State.updEng_jtag (e g : Nat) (f : EngPort → EngPort) : (s.updEng e g f).jtag = s.jtag := rfl
@[simp] theorem State.updEng_core (e g : Nat) (f : EngPort → EngPort) : (s.updEng e g f).core = s.core := rfl
@[simp] theorem State.updEng_flash (e g : Nat) (f : EngPort → EngPort) : (s.updEng e g f).flash = s.flash := rfl
@[simp] theorem State.updEng_flt (e g : Nat) (f : EngPort → EngPort) : (s.updEng e g f).flt = s.flt := rfl
@[simp] theorem State.updEng_orbit (e g : Nat) (f : EngPort → EngPort) : (s.updEng e g f).orbit = s.orbit := rfl
@[simp] theorem State.updEng_shot (e g : Nat) (f : EngPort → EngPort) : (s.updEng e g f).shot = s.shot := rfl
@[simp] theorem State.updEng_banks (e g : Nat) (f : EngPort → EngPort) : (s.updEng e g f).banks = s.banks := rfl
@[simp] theorem State.updEng_streams (e g : Nat) (f : EngPort → EngPort) : (s.updEng e g f).streams = s.streams := rfl
@[simp] theorem State.updEng_halves (e g : Nat) (f : EngPort → EngPort) : (s.updEng e g f).halves = s.halves := rfl
@[simp] theorem State.updEng_teleCq (e g : Nat) (f : EngPort → EngPort) : (s.updEng e g f).teleCq = s.teleCq := rfl
@[simp] theorem State.updEng_ecliDone (e g : Nat) (f : EngPort → EngPort) : (s.updEng e g f).ecliDone = s.ecliDone := rfl
@[simp] theorem State.updEng_ringReset (e g : Nat) (f : EngPort → EngPort) : (s.updEng e g f).ringReset = s.ringReset := rfl
@[simp] theorem State.updEng_pages (e g : Nat) (f : EngPort → EngPort) : (s.updEng e g f).pages = s.pages := rfl
@[simp] theorem State.updEng_reg (e g : Nat) (f : EngPort → EngPort) (x : Nat) : (s.updEng e g f).reg x = s.reg x := rfl
@[simp] theorem State.updEng_get (e g : Nat) (f : EngPort → EngPort) (x : Fld) : (s.updEng e g f).get x = s.get x := rfl
@[simp] theorem State.updEng_on (e g : Nat) (f : EngPort → EngPort) (x : Fld) : (s.updEng e g f).on x = s.on x := rfl
@[simp] theorem State.updEng_counter (e g : Nat) (f : EngPort → EngPort) (x : Nat) : (s.updEng e g f).counter x = s.counter x := rfl
@[simp] theorem State.updEng_ring (e g : Nat) (f : EngPort → EngPort) (x0 : Nat) : (s.updEng e g f).ring x0 = s.ring x0 := rfl
@[simp] theorem State.updEng_rxe (e g : Nat) (f : EngPort → EngPort) (x0 : Nat) : (s.updEng e g f).rxe x0 = s.rxe x0 := rfl
@[simp] theorem State.updEng_txe (e g : Nat) (f : EngPort → EngPort) (x0 : Nat) : (s.updEng e g f).txe x0 = s.txe x0 := rfl
@[simp] theorem State.updEng_seg (e g : Nat) (f : EngPort → EngPort) (x0 x1 x2 : Nat) : (s.updEng e g f).seg x0 x1 x2 = s.seg x0 x1 x2 := rfl
@[simp] theorem State.updEng_eng_same (e g : Nat) (f : EngPort → EngPort) : (s.updEng e g f).eng e g = f (s.eng e g) := Sparse.get_set_same ..
@[simp] theorem State.updEng_port (e g : Nat) (f : EngPort → EngPort) (x0 : Nat) : (s.updEng e g f).port x0 = s.port x0 := rfl
@[simp] theorem State.updEng_pll (e g : Nat) (f : EngPort → EngPort) (x0 : Nat) : (s.updEng e g f).pll x0 = s.pll x0 := rfl
@[simp] theorem State.updEng_strm (e g : Nat) (f : EngPort → EngPort) (x0 : Nat) : (s.updEng e g f).strm x0 = s.strm x0 := rfl
@[simp] theorem State.updEng_lt (e g : Nat) (f : EngPort → EngPort) (x : Nat) : (s.updEng e g f).lt x = s.lt x := rfl

@[simp] theorem State.setLt_pending (i : Nat) (t : Option LaneTrain) : (s.setLt i t).pending = s.pending := rfl
@[simp] theorem State.setLt_clock (i : Nat) (t : Option LaneTrain) : (s.setLt i t).clock = s.clock := rfl
@[simp] theorem State.setLt_freeCtr (i : Nat) (t : Option LaneTrain) : (s.setLt i t).freeCtr = s.freeCtr := rfl
@[simp] theorem State.setLt_regs (i : Nat) (t : Option LaneTrain) : (s.setLt i t).regs = s.regs := rfl
@[simp] theorem State.setLt_latch (i : Nat) (t : Option LaneTrain) : (s.setLt i t).latch = s.latch := rfl
@[simp] theorem State.setLt_out (i : Nat) (t : Option LaneTrain) : (s.setLt i t).out = s.out := rfl
@[simp] theorem State.setLt_pcie (i : Nat) (t : Option LaneTrain) : (s.setLt i t).pcie = s.pcie := rfl
@[simp] theorem State.setLt_rings (i : Nat) (t : Option LaneTrain) : (s.setLt i t).rings = s.rings := rfl
@[simp] theorem State.setLt_dispatched (i : Nat) (t : Option LaneTrain) : (s.setLt i t).dispatched = s.dispatched := rfl
@[simp] theorem State.setLt_fenceHeld (i : Nat) (t : Option LaneTrain) : (s.setLt i t).fenceHeld = s.fenceHeld := rfl
@[simp] theorem State.setLt_evFrames (i : Nat) (t : Option LaneTrain) : (s.setLt i t).evFrames = s.evFrames := rfl
@[simp] theorem State.setLt_rx (i : Nat) (t : Option LaneTrain) : (s.setLt i t).rx = s.rx := rfl
@[simp] theorem State.setLt_tx (i : Nat) (t : Option LaneTrain) : (s.setLt i t).tx = s.tx := rfl
@[simp] theorem State.setLt_segs (i : Nat) (t : Option LaneTrain) : (s.setLt i t).segs = s.segs := rfl
@[simp] theorem State.setLt_engs (i : Nat) (t : Option LaneTrain) : (s.setLt i t).engs = s.engs := rfl
@[simp] theorem State.setLt_ports (i : Nat) (t : Option LaneTrain) : (s.setLt i t).ports = s.ports := rfl
@[simp] theorem State.setLt_waitq (i : Nat) (t : Option LaneTrain) : (s.setLt i t).waitq = s.waitq := rfl
@[simp] theorem State.setLt_plls (i : Nat) (t : Option LaneTrain) : (s.setLt i t).plls = s.plls := rfl
@[simp] theorem State.setLt_calSeq (i : Nat) (t : Option LaneTrain) : (s.setLt i t).calSeq = s.calSeq := rfl
@[simp] theorem State.setLt_calReqs (i : Nat) (t : Option LaneTrain) : (s.setLt i t).calReqs = s.calReqs := rfl
@[simp] theorem State.setLt_rejects (i : Nat) (t : Option LaneTrain) : (s.setLt i t).rejects = s.rejects := rfl
@[simp] theorem State.setLt_dwell (i : Nat) (t : Option LaneTrain) : (s.setLt i t).dwell = s.dwell := rfl
@[simp] theorem State.setLt_causes (i : Nat) (t : Option LaneTrain) : (s.setLt i t).causes = s.causes := rfl
@[simp] theorem State.setLt_grace (i : Nat) (t : Option LaneTrain) : (s.setLt i t).grace = s.grace := rfl
@[simp] theorem State.setLt_isolated (i : Nat) (t : Option LaneTrain) : (s.setLt i t).isolated = s.isolated := rfl
@[simp] theorem State.setLt_keys (i : Nat) (t : Option LaneTrain) : (s.setLt i t).keys = s.keys := rfl
@[simp] theorem State.setLt_bist (i : Nat) (t : Option LaneTrain) : (s.setLt i t).bist = s.bist := rfl
@[simp] theorem State.setLt_bistHeld (i : Nat) (t : Option LaneTrain) : (s.setLt i t).bistHeld = s.bistHeld := rfl
@[simp] theorem State.setLt_pwr (i : Nat) (t : Option LaneTrain) : (s.setLt i t).pwr = s.pwr := rfl
@[simp] theorem State.setLt_jtag (i : Nat) (t : Option LaneTrain) : (s.setLt i t).jtag = s.jtag := rfl
@[simp] theorem State.setLt_core (i : Nat) (t : Option LaneTrain) : (s.setLt i t).core = s.core := rfl
@[simp] theorem State.setLt_flash (i : Nat) (t : Option LaneTrain) : (s.setLt i t).flash = s.flash := rfl
@[simp] theorem State.setLt_flt (i : Nat) (t : Option LaneTrain) : (s.setLt i t).flt = s.flt := rfl
@[simp] theorem State.setLt_orbit (i : Nat) (t : Option LaneTrain) : (s.setLt i t).orbit = s.orbit := rfl
@[simp] theorem State.setLt_shot (i : Nat) (t : Option LaneTrain) : (s.setLt i t).shot = s.shot := rfl
@[simp] theorem State.setLt_banks (i : Nat) (t : Option LaneTrain) : (s.setLt i t).banks = s.banks := rfl
@[simp] theorem State.setLt_streams (i : Nat) (t : Option LaneTrain) : (s.setLt i t).streams = s.streams := rfl
@[simp] theorem State.setLt_halves (i : Nat) (t : Option LaneTrain) : (s.setLt i t).halves = s.halves := rfl
@[simp] theorem State.setLt_teleCq (i : Nat) (t : Option LaneTrain) : (s.setLt i t).teleCq = s.teleCq := rfl
@[simp] theorem State.setLt_ecliDone (i : Nat) (t : Option LaneTrain) : (s.setLt i t).ecliDone = s.ecliDone := rfl
@[simp] theorem State.setLt_ringReset (i : Nat) (t : Option LaneTrain) : (s.setLt i t).ringReset = s.ringReset := rfl
@[simp] theorem State.setLt_pages (i : Nat) (t : Option LaneTrain) : (s.setLt i t).pages = s.pages := rfl
@[simp] theorem State.setLt_reg (i : Nat) (t : Option LaneTrain) (x : Nat) : (s.setLt i t).reg x = s.reg x := rfl
@[simp] theorem State.setLt_get (i : Nat) (t : Option LaneTrain) (x : Fld) : (s.setLt i t).get x = s.get x := rfl
@[simp] theorem State.setLt_on (i : Nat) (t : Option LaneTrain) (x : Fld) : (s.setLt i t).on x = s.on x := rfl
@[simp] theorem State.setLt_counter (i : Nat) (t : Option LaneTrain) (x : Nat) : (s.setLt i t).counter x = s.counter x := rfl
@[simp] theorem State.setLt_ring (i : Nat) (t : Option LaneTrain) (x0 : Nat) : (s.setLt i t).ring x0 = s.ring x0 := rfl
@[simp] theorem State.setLt_rxe (i : Nat) (t : Option LaneTrain) (x0 : Nat) : (s.setLt i t).rxe x0 = s.rxe x0 := rfl
@[simp] theorem State.setLt_txe (i : Nat) (t : Option LaneTrain) (x0 : Nat) : (s.setLt i t).txe x0 = s.txe x0 := rfl
@[simp] theorem State.setLt_seg (i : Nat) (t : Option LaneTrain) (x0 x1 x2 : Nat) : (s.setLt i t).seg x0 x1 x2 = s.seg x0 x1 x2 := rfl
@[simp] theorem State.setLt_eng (i : Nat) (t : Option LaneTrain) (x0 x1 : Nat) : (s.setLt i t).eng x0 x1 = s.eng x0 x1 := rfl
@[simp] theorem State.setLt_port (i : Nat) (t : Option LaneTrain) (x0 : Nat) : (s.setLt i t).port x0 = s.port x0 := rfl
@[simp] theorem State.setLt_pll (i : Nat) (t : Option LaneTrain) (x0 : Nat) : (s.setLt i t).pll x0 = s.pll x0 := rfl
@[simp] theorem State.setLt_strm (i : Nat) (t : Option LaneTrain) (x0 : Nat) : (s.setLt i t).strm x0 = s.strm x0 := rfl
@[simp] theorem State.setLt_lt_same (i : Nat) (t : Option LaneTrain) : (s.setLt i t).lt i = t := Sparse.get_set_same ..

@[simp] theorem State.updPort_pending (g : Nat) (f : PortRec → PortRec) : (s.updPort g f).pending = s.pending := rfl
@[simp] theorem State.updPort_clock (g : Nat) (f : PortRec → PortRec) : (s.updPort g f).clock = s.clock := rfl
@[simp] theorem State.updPort_freeCtr (g : Nat) (f : PortRec → PortRec) : (s.updPort g f).freeCtr = s.freeCtr := rfl
@[simp] theorem State.updPort_regs (g : Nat) (f : PortRec → PortRec) : (s.updPort g f).regs = s.regs := rfl
@[simp] theorem State.updPort_latch (g : Nat) (f : PortRec → PortRec) : (s.updPort g f).latch = s.latch := rfl
@[simp] theorem State.updPort_out (g : Nat) (f : PortRec → PortRec) : (s.updPort g f).out = s.out := rfl
@[simp] theorem State.updPort_pcie (g : Nat) (f : PortRec → PortRec) : (s.updPort g f).pcie = s.pcie := rfl
@[simp] theorem State.updPort_rings (g : Nat) (f : PortRec → PortRec) : (s.updPort g f).rings = s.rings := rfl
@[simp] theorem State.updPort_dispatched (g : Nat) (f : PortRec → PortRec) : (s.updPort g f).dispatched = s.dispatched := rfl
@[simp] theorem State.updPort_fenceHeld (g : Nat) (f : PortRec → PortRec) : (s.updPort g f).fenceHeld = s.fenceHeld := rfl
@[simp] theorem State.updPort_evFrames (g : Nat) (f : PortRec → PortRec) : (s.updPort g f).evFrames = s.evFrames := rfl
@[simp] theorem State.updPort_rx (g : Nat) (f : PortRec → PortRec) : (s.updPort g f).rx = s.rx := rfl
@[simp] theorem State.updPort_tx (g : Nat) (f : PortRec → PortRec) : (s.updPort g f).tx = s.tx := rfl
@[simp] theorem State.updPort_segs (g : Nat) (f : PortRec → PortRec) : (s.updPort g f).segs = s.segs := rfl
@[simp] theorem State.updPort_engs (g : Nat) (f : PortRec → PortRec) : (s.updPort g f).engs = s.engs := rfl
@[simp] theorem State.updPort_lts (g : Nat) (f : PortRec → PortRec) : (s.updPort g f).lts = s.lts := rfl
@[simp] theorem State.updPort_waitq (g : Nat) (f : PortRec → PortRec) : (s.updPort g f).waitq = s.waitq := rfl
@[simp] theorem State.updPort_plls (g : Nat) (f : PortRec → PortRec) : (s.updPort g f).plls = s.plls := rfl
@[simp] theorem State.updPort_calSeq (g : Nat) (f : PortRec → PortRec) : (s.updPort g f).calSeq = s.calSeq := rfl
@[simp] theorem State.updPort_calReqs (g : Nat) (f : PortRec → PortRec) : (s.updPort g f).calReqs = s.calReqs := rfl
@[simp] theorem State.updPort_rejects (g : Nat) (f : PortRec → PortRec) : (s.updPort g f).rejects = s.rejects := rfl
@[simp] theorem State.updPort_dwell (g : Nat) (f : PortRec → PortRec) : (s.updPort g f).dwell = s.dwell := rfl
@[simp] theorem State.updPort_causes (g : Nat) (f : PortRec → PortRec) : (s.updPort g f).causes = s.causes := rfl
@[simp] theorem State.updPort_grace (g : Nat) (f : PortRec → PortRec) : (s.updPort g f).grace = s.grace := rfl
@[simp] theorem State.updPort_isolated (g : Nat) (f : PortRec → PortRec) : (s.updPort g f).isolated = s.isolated := rfl
@[simp] theorem State.updPort_keys (g : Nat) (f : PortRec → PortRec) : (s.updPort g f).keys = s.keys := rfl
@[simp] theorem State.updPort_bist (g : Nat) (f : PortRec → PortRec) : (s.updPort g f).bist = s.bist := rfl
@[simp] theorem State.updPort_bistHeld (g : Nat) (f : PortRec → PortRec) : (s.updPort g f).bistHeld = s.bistHeld := rfl
@[simp] theorem State.updPort_pwr (g : Nat) (f : PortRec → PortRec) : (s.updPort g f).pwr = s.pwr := rfl
@[simp] theorem State.updPort_jtag (g : Nat) (f : PortRec → PortRec) : (s.updPort g f).jtag = s.jtag := rfl
@[simp] theorem State.updPort_core (g : Nat) (f : PortRec → PortRec) : (s.updPort g f).core = s.core := rfl
@[simp] theorem State.updPort_flash (g : Nat) (f : PortRec → PortRec) : (s.updPort g f).flash = s.flash := rfl
@[simp] theorem State.updPort_flt (g : Nat) (f : PortRec → PortRec) : (s.updPort g f).flt = s.flt := rfl
@[simp] theorem State.updPort_orbit (g : Nat) (f : PortRec → PortRec) : (s.updPort g f).orbit = s.orbit := rfl
@[simp] theorem State.updPort_shot (g : Nat) (f : PortRec → PortRec) : (s.updPort g f).shot = s.shot := rfl
@[simp] theorem State.updPort_banks (g : Nat) (f : PortRec → PortRec) : (s.updPort g f).banks = s.banks := rfl
@[simp] theorem State.updPort_streams (g : Nat) (f : PortRec → PortRec) : (s.updPort g f).streams = s.streams := rfl
@[simp] theorem State.updPort_halves (g : Nat) (f : PortRec → PortRec) : (s.updPort g f).halves = s.halves := rfl
@[simp] theorem State.updPort_teleCq (g : Nat) (f : PortRec → PortRec) : (s.updPort g f).teleCq = s.teleCq := rfl
@[simp] theorem State.updPort_ecliDone (g : Nat) (f : PortRec → PortRec) : (s.updPort g f).ecliDone = s.ecliDone := rfl
@[simp] theorem State.updPort_ringReset (g : Nat) (f : PortRec → PortRec) : (s.updPort g f).ringReset = s.ringReset := rfl
@[simp] theorem State.updPort_pages (g : Nat) (f : PortRec → PortRec) : (s.updPort g f).pages = s.pages := rfl
@[simp] theorem State.updPort_reg (g : Nat) (f : PortRec → PortRec) (x : Nat) : (s.updPort g f).reg x = s.reg x := rfl
@[simp] theorem State.updPort_get (g : Nat) (f : PortRec → PortRec) (x : Fld) : (s.updPort g f).get x = s.get x := rfl
@[simp] theorem State.updPort_on (g : Nat) (f : PortRec → PortRec) (x : Fld) : (s.updPort g f).on x = s.on x := rfl
@[simp] theorem State.updPort_counter (g : Nat) (f : PortRec → PortRec) (x : Nat) : (s.updPort g f).counter x = s.counter x := rfl
@[simp] theorem State.updPort_ring (g : Nat) (f : PortRec → PortRec) (x0 : Nat) : (s.updPort g f).ring x0 = s.ring x0 := rfl
@[simp] theorem State.updPort_rxe (g : Nat) (f : PortRec → PortRec) (x0 : Nat) : (s.updPort g f).rxe x0 = s.rxe x0 := rfl
@[simp] theorem State.updPort_txe (g : Nat) (f : PortRec → PortRec) (x0 : Nat) : (s.updPort g f).txe x0 = s.txe x0 := rfl
@[simp] theorem State.updPort_seg (g : Nat) (f : PortRec → PortRec) (x0 x1 x2 : Nat) : (s.updPort g f).seg x0 x1 x2 = s.seg x0 x1 x2 := rfl
@[simp] theorem State.updPort_eng (g : Nat) (f : PortRec → PortRec) (x0 x1 : Nat) : (s.updPort g f).eng x0 x1 = s.eng x0 x1 := rfl
@[simp] theorem State.updPort_port_same (g : Nat) (f : PortRec → PortRec) : (s.updPort g f).port g = f (s.port g) := Sparse.get_set_same ..
@[simp] theorem State.updPort_pll (g : Nat) (f : PortRec → PortRec) (x0 : Nat) : (s.updPort g f).pll x0 = s.pll x0 := rfl
@[simp] theorem State.updPort_strm (g : Nat) (f : PortRec → PortRec) (x0 : Nat) : (s.updPort g f).strm x0 = s.strm x0 := rfl
@[simp] theorem State.updPort_lt (g : Nat) (f : PortRec → PortRec) (x : Nat) : (s.updPort g f).lt x = s.lt x := rfl

@[simp] theorem State.updPll_pending (e : Nat) (f : Pll → Pll) : (s.updPll e f).pending = s.pending := rfl
@[simp] theorem State.updPll_clock (e : Nat) (f : Pll → Pll) : (s.updPll e f).clock = s.clock := rfl
@[simp] theorem State.updPll_freeCtr (e : Nat) (f : Pll → Pll) : (s.updPll e f).freeCtr = s.freeCtr := rfl
@[simp] theorem State.updPll_regs (e : Nat) (f : Pll → Pll) : (s.updPll e f).regs = s.regs := rfl
@[simp] theorem State.updPll_latch (e : Nat) (f : Pll → Pll) : (s.updPll e f).latch = s.latch := rfl
@[simp] theorem State.updPll_out (e : Nat) (f : Pll → Pll) : (s.updPll e f).out = s.out := rfl
@[simp] theorem State.updPll_pcie (e : Nat) (f : Pll → Pll) : (s.updPll e f).pcie = s.pcie := rfl
@[simp] theorem State.updPll_rings (e : Nat) (f : Pll → Pll) : (s.updPll e f).rings = s.rings := rfl
@[simp] theorem State.updPll_dispatched (e : Nat) (f : Pll → Pll) : (s.updPll e f).dispatched = s.dispatched := rfl
@[simp] theorem State.updPll_fenceHeld (e : Nat) (f : Pll → Pll) : (s.updPll e f).fenceHeld = s.fenceHeld := rfl
@[simp] theorem State.updPll_evFrames (e : Nat) (f : Pll → Pll) : (s.updPll e f).evFrames = s.evFrames := rfl
@[simp] theorem State.updPll_rx (e : Nat) (f : Pll → Pll) : (s.updPll e f).rx = s.rx := rfl
@[simp] theorem State.updPll_tx (e : Nat) (f : Pll → Pll) : (s.updPll e f).tx = s.tx := rfl
@[simp] theorem State.updPll_segs (e : Nat) (f : Pll → Pll) : (s.updPll e f).segs = s.segs := rfl
@[simp] theorem State.updPll_engs (e : Nat) (f : Pll → Pll) : (s.updPll e f).engs = s.engs := rfl
@[simp] theorem State.updPll_lts (e : Nat) (f : Pll → Pll) : (s.updPll e f).lts = s.lts := rfl
@[simp] theorem State.updPll_ports (e : Nat) (f : Pll → Pll) : (s.updPll e f).ports = s.ports := rfl
@[simp] theorem State.updPll_waitq (e : Nat) (f : Pll → Pll) : (s.updPll e f).waitq = s.waitq := rfl
@[simp] theorem State.updPll_calSeq (e : Nat) (f : Pll → Pll) : (s.updPll e f).calSeq = s.calSeq := rfl
@[simp] theorem State.updPll_calReqs (e : Nat) (f : Pll → Pll) : (s.updPll e f).calReqs = s.calReqs := rfl
@[simp] theorem State.updPll_rejects (e : Nat) (f : Pll → Pll) : (s.updPll e f).rejects = s.rejects := rfl
@[simp] theorem State.updPll_dwell (e : Nat) (f : Pll → Pll) : (s.updPll e f).dwell = s.dwell := rfl
@[simp] theorem State.updPll_causes (e : Nat) (f : Pll → Pll) : (s.updPll e f).causes = s.causes := rfl
@[simp] theorem State.updPll_grace (e : Nat) (f : Pll → Pll) : (s.updPll e f).grace = s.grace := rfl
@[simp] theorem State.updPll_isolated (e : Nat) (f : Pll → Pll) : (s.updPll e f).isolated = s.isolated := rfl
@[simp] theorem State.updPll_keys (e : Nat) (f : Pll → Pll) : (s.updPll e f).keys = s.keys := rfl
@[simp] theorem State.updPll_bist (e : Nat) (f : Pll → Pll) : (s.updPll e f).bist = s.bist := rfl
@[simp] theorem State.updPll_bistHeld (e : Nat) (f : Pll → Pll) : (s.updPll e f).bistHeld = s.bistHeld := rfl
@[simp] theorem State.updPll_pwr (e : Nat) (f : Pll → Pll) : (s.updPll e f).pwr = s.pwr := rfl
@[simp] theorem State.updPll_jtag (e : Nat) (f : Pll → Pll) : (s.updPll e f).jtag = s.jtag := rfl
@[simp] theorem State.updPll_core (e : Nat) (f : Pll → Pll) : (s.updPll e f).core = s.core := rfl
@[simp] theorem State.updPll_flash (e : Nat) (f : Pll → Pll) : (s.updPll e f).flash = s.flash := rfl
@[simp] theorem State.updPll_flt (e : Nat) (f : Pll → Pll) : (s.updPll e f).flt = s.flt := rfl
@[simp] theorem State.updPll_orbit (e : Nat) (f : Pll → Pll) : (s.updPll e f).orbit = s.orbit := rfl
@[simp] theorem State.updPll_shot (e : Nat) (f : Pll → Pll) : (s.updPll e f).shot = s.shot := rfl
@[simp] theorem State.updPll_banks (e : Nat) (f : Pll → Pll) : (s.updPll e f).banks = s.banks := rfl
@[simp] theorem State.updPll_streams (e : Nat) (f : Pll → Pll) : (s.updPll e f).streams = s.streams := rfl
@[simp] theorem State.updPll_halves (e : Nat) (f : Pll → Pll) : (s.updPll e f).halves = s.halves := rfl
@[simp] theorem State.updPll_teleCq (e : Nat) (f : Pll → Pll) : (s.updPll e f).teleCq = s.teleCq := rfl
@[simp] theorem State.updPll_ecliDone (e : Nat) (f : Pll → Pll) : (s.updPll e f).ecliDone = s.ecliDone := rfl
@[simp] theorem State.updPll_ringReset (e : Nat) (f : Pll → Pll) : (s.updPll e f).ringReset = s.ringReset := rfl
@[simp] theorem State.updPll_pages (e : Nat) (f : Pll → Pll) : (s.updPll e f).pages = s.pages := rfl
@[simp] theorem State.updPll_reg (e : Nat) (f : Pll → Pll) (x : Nat) : (s.updPll e f).reg x = s.reg x := rfl
@[simp] theorem State.updPll_get (e : Nat) (f : Pll → Pll) (x : Fld) : (s.updPll e f).get x = s.get x := rfl
@[simp] theorem State.updPll_on (e : Nat) (f : Pll → Pll) (x : Fld) : (s.updPll e f).on x = s.on x := rfl
@[simp] theorem State.updPll_counter (e : Nat) (f : Pll → Pll) (x : Nat) : (s.updPll e f).counter x = s.counter x := rfl
@[simp] theorem State.updPll_ring (e : Nat) (f : Pll → Pll) (x0 : Nat) : (s.updPll e f).ring x0 = s.ring x0 := rfl
@[simp] theorem State.updPll_rxe (e : Nat) (f : Pll → Pll) (x0 : Nat) : (s.updPll e f).rxe x0 = s.rxe x0 := rfl
@[simp] theorem State.updPll_txe (e : Nat) (f : Pll → Pll) (x0 : Nat) : (s.updPll e f).txe x0 = s.txe x0 := rfl
@[simp] theorem State.updPll_seg (e : Nat) (f : Pll → Pll) (x0 x1 x2 : Nat) : (s.updPll e f).seg x0 x1 x2 = s.seg x0 x1 x2 := rfl
@[simp] theorem State.updPll_eng (e : Nat) (f : Pll → Pll) (x0 x1 : Nat) : (s.updPll e f).eng x0 x1 = s.eng x0 x1 := rfl
@[simp] theorem State.updPll_port (e : Nat) (f : Pll → Pll) (x0 : Nat) : (s.updPll e f).port x0 = s.port x0 := rfl
@[simp] theorem State.updPll_pll_same (e : Nat) (f : Pll → Pll) : (s.updPll e f).pll e = f (s.pll e) := Sparse.get_set_same ..
@[simp] theorem State.updPll_strm (e : Nat) (f : Pll → Pll) (x0 : Nat) : (s.updPll e f).strm x0 = s.strm x0 := rfl
@[simp] theorem State.updPll_lt (e : Nat) (f : Pll → Pll) (x : Nat) : (s.updPll e f).lt x = s.lt x := rfl

@[simp] theorem State.updOrb_pending (f : Orbit → Orbit) : (s.updOrb f).pending = s.pending := rfl
@[simp] theorem State.updOrb_clock (f : Orbit → Orbit) : (s.updOrb f).clock = s.clock := rfl
@[simp] theorem State.updOrb_freeCtr (f : Orbit → Orbit) : (s.updOrb f).freeCtr = s.freeCtr := rfl
@[simp] theorem State.updOrb_regs (f : Orbit → Orbit) : (s.updOrb f).regs = s.regs := rfl
@[simp] theorem State.updOrb_latch (f : Orbit → Orbit) : (s.updOrb f).latch = s.latch := rfl
@[simp] theorem State.updOrb_out (f : Orbit → Orbit) : (s.updOrb f).out = s.out := rfl
@[simp] theorem State.updOrb_pcie (f : Orbit → Orbit) : (s.updOrb f).pcie = s.pcie := rfl
@[simp] theorem State.updOrb_rings (f : Orbit → Orbit) : (s.updOrb f).rings = s.rings := rfl
@[simp] theorem State.updOrb_dispatched (f : Orbit → Orbit) : (s.updOrb f).dispatched = s.dispatched := rfl
@[simp] theorem State.updOrb_fenceHeld (f : Orbit → Orbit) : (s.updOrb f).fenceHeld = s.fenceHeld := rfl
@[simp] theorem State.updOrb_evFrames (f : Orbit → Orbit) : (s.updOrb f).evFrames = s.evFrames := rfl
@[simp] theorem State.updOrb_rx (f : Orbit → Orbit) : (s.updOrb f).rx = s.rx := rfl
@[simp] theorem State.updOrb_tx (f : Orbit → Orbit) : (s.updOrb f).tx = s.tx := rfl
@[simp] theorem State.updOrb_segs (f : Orbit → Orbit) : (s.updOrb f).segs = s.segs := rfl
@[simp] theorem State.updOrb_engs (f : Orbit → Orbit) : (s.updOrb f).engs = s.engs := rfl
@[simp] theorem State.updOrb_lts (f : Orbit → Orbit) : (s.updOrb f).lts = s.lts := rfl
@[simp] theorem State.updOrb_ports (f : Orbit → Orbit) : (s.updOrb f).ports = s.ports := rfl
@[simp] theorem State.updOrb_waitq (f : Orbit → Orbit) : (s.updOrb f).waitq = s.waitq := rfl
@[simp] theorem State.updOrb_plls (f : Orbit → Orbit) : (s.updOrb f).plls = s.plls := rfl
@[simp] theorem State.updOrb_calSeq (f : Orbit → Orbit) : (s.updOrb f).calSeq = s.calSeq := rfl
@[simp] theorem State.updOrb_calReqs (f : Orbit → Orbit) : (s.updOrb f).calReqs = s.calReqs := rfl
@[simp] theorem State.updOrb_rejects (f : Orbit → Orbit) : (s.updOrb f).rejects = s.rejects := rfl
@[simp] theorem State.updOrb_dwell (f : Orbit → Orbit) : (s.updOrb f).dwell = s.dwell := rfl
@[simp] theorem State.updOrb_causes (f : Orbit → Orbit) : (s.updOrb f).causes = s.causes := rfl
@[simp] theorem State.updOrb_grace (f : Orbit → Orbit) : (s.updOrb f).grace = s.grace := rfl
@[simp] theorem State.updOrb_isolated (f : Orbit → Orbit) : (s.updOrb f).isolated = s.isolated := rfl
@[simp] theorem State.updOrb_keys (f : Orbit → Orbit) : (s.updOrb f).keys = s.keys := rfl
@[simp] theorem State.updOrb_bist (f : Orbit → Orbit) : (s.updOrb f).bist = s.bist := rfl
@[simp] theorem State.updOrb_bistHeld (f : Orbit → Orbit) : (s.updOrb f).bistHeld = s.bistHeld := rfl
@[simp] theorem State.updOrb_pwr (f : Orbit → Orbit) : (s.updOrb f).pwr = s.pwr := rfl
@[simp] theorem State.updOrb_jtag (f : Orbit → Orbit) : (s.updOrb f).jtag = s.jtag := rfl
@[simp] theorem State.updOrb_core (f : Orbit → Orbit) : (s.updOrb f).core = s.core := rfl
@[simp] theorem State.updOrb_flash (f : Orbit → Orbit) : (s.updOrb f).flash = s.flash := rfl
@[simp] theorem State.updOrb_flt (f : Orbit → Orbit) : (s.updOrb f).flt = s.flt := rfl
@[simp] theorem State.updOrb_orbit (f : Orbit → Orbit) : (s.updOrb f).orbit = f s.orbit := rfl
@[simp] theorem State.updOrb_shot (f : Orbit → Orbit) : (s.updOrb f).shot = s.shot := rfl
@[simp] theorem State.updOrb_banks (f : Orbit → Orbit) : (s.updOrb f).banks = s.banks := rfl
@[simp] theorem State.updOrb_streams (f : Orbit → Orbit) : (s.updOrb f).streams = s.streams := rfl
@[simp] theorem State.updOrb_halves (f : Orbit → Orbit) : (s.updOrb f).halves = s.halves := rfl
@[simp] theorem State.updOrb_teleCq (f : Orbit → Orbit) : (s.updOrb f).teleCq = s.teleCq := rfl
@[simp] theorem State.updOrb_ecliDone (f : Orbit → Orbit) : (s.updOrb f).ecliDone = s.ecliDone := rfl
@[simp] theorem State.updOrb_ringReset (f : Orbit → Orbit) : (s.updOrb f).ringReset = s.ringReset := rfl
@[simp] theorem State.updOrb_pages (f : Orbit → Orbit) : (s.updOrb f).pages = s.pages := rfl
@[simp] theorem State.updOrb_reg (f : Orbit → Orbit) (x : Nat) : (s.updOrb f).reg x = s.reg x := rfl
@[simp] theorem State.updOrb_get (f : Orbit → Orbit) (x : Fld) : (s.updOrb f).get x = s.get x := rfl
@[simp] theorem State.updOrb_on (f : Orbit → Orbit) (x : Fld) : (s.updOrb f).on x = s.on x := rfl
@[simp] theorem State.updOrb_counter (f : Orbit → Orbit) (x : Nat) : (s.updOrb f).counter x = s.counter x := rfl
@[simp] theorem State.updOrb_ring (f : Orbit → Orbit) (x0 : Nat) : (s.updOrb f).ring x0 = s.ring x0 := rfl
@[simp] theorem State.updOrb_rxe (f : Orbit → Orbit) (x0 : Nat) : (s.updOrb f).rxe x0 = s.rxe x0 := rfl
@[simp] theorem State.updOrb_txe (f : Orbit → Orbit) (x0 : Nat) : (s.updOrb f).txe x0 = s.txe x0 := rfl
@[simp] theorem State.updOrb_seg (f : Orbit → Orbit) (x0 x1 x2 : Nat) : (s.updOrb f).seg x0 x1 x2 = s.seg x0 x1 x2 := rfl
@[simp] theorem State.updOrb_eng (f : Orbit → Orbit) (x0 x1 : Nat) : (s.updOrb f).eng x0 x1 = s.eng x0 x1 := rfl
@[simp] theorem State.updOrb_port (f : Orbit → Orbit) (x0 : Nat) : (s.updOrb f).port x0 = s.port x0 := rfl
@[simp] theorem State.updOrb_pll (f : Orbit → Orbit) (x0 : Nat) : (s.updOrb f).pll x0 = s.pll x0 := rfl
@[simp] theorem State.updOrb_strm (f : Orbit → Orbit) (x0 : Nat) : (s.updOrb f).strm x0 = s.strm x0 := rfl
@[simp] theorem State.updOrb_lt (f : Orbit → Orbit) (x : Nat) : (s.updOrb f).lt x = s.lt x := rfl

@[simp] theorem State.updCore_pending (f : Core → Core) : (s.updCore f).pending = s.pending := rfl
@[simp] theorem State.updCore_clock (f : Core → Core) : (s.updCore f).clock = s.clock := rfl
@[simp] theorem State.updCore_freeCtr (f : Core → Core) : (s.updCore f).freeCtr = s.freeCtr := rfl
@[simp] theorem State.updCore_regs (f : Core → Core) : (s.updCore f).regs = s.regs := rfl
@[simp] theorem State.updCore_latch (f : Core → Core) : (s.updCore f).latch = s.latch := rfl
@[simp] theorem State.updCore_out (f : Core → Core) : (s.updCore f).out = s.out := rfl
@[simp] theorem State.updCore_pcie (f : Core → Core) : (s.updCore f).pcie = s.pcie := rfl
@[simp] theorem State.updCore_rings (f : Core → Core) : (s.updCore f).rings = s.rings := rfl
@[simp] theorem State.updCore_dispatched (f : Core → Core) : (s.updCore f).dispatched = s.dispatched := rfl
@[simp] theorem State.updCore_fenceHeld (f : Core → Core) : (s.updCore f).fenceHeld = s.fenceHeld := rfl
@[simp] theorem State.updCore_evFrames (f : Core → Core) : (s.updCore f).evFrames = s.evFrames := rfl
@[simp] theorem State.updCore_rx (f : Core → Core) : (s.updCore f).rx = s.rx := rfl
@[simp] theorem State.updCore_tx (f : Core → Core) : (s.updCore f).tx = s.tx := rfl
@[simp] theorem State.updCore_segs (f : Core → Core) : (s.updCore f).segs = s.segs := rfl
@[simp] theorem State.updCore_engs (f : Core → Core) : (s.updCore f).engs = s.engs := rfl
@[simp] theorem State.updCore_lts (f : Core → Core) : (s.updCore f).lts = s.lts := rfl
@[simp] theorem State.updCore_ports (f : Core → Core) : (s.updCore f).ports = s.ports := rfl
@[simp] theorem State.updCore_waitq (f : Core → Core) : (s.updCore f).waitq = s.waitq := rfl
@[simp] theorem State.updCore_plls (f : Core → Core) : (s.updCore f).plls = s.plls := rfl
@[simp] theorem State.updCore_calSeq (f : Core → Core) : (s.updCore f).calSeq = s.calSeq := rfl
@[simp] theorem State.updCore_calReqs (f : Core → Core) : (s.updCore f).calReqs = s.calReqs := rfl
@[simp] theorem State.updCore_rejects (f : Core → Core) : (s.updCore f).rejects = s.rejects := rfl
@[simp] theorem State.updCore_dwell (f : Core → Core) : (s.updCore f).dwell = s.dwell := rfl
@[simp] theorem State.updCore_causes (f : Core → Core) : (s.updCore f).causes = s.causes := rfl
@[simp] theorem State.updCore_grace (f : Core → Core) : (s.updCore f).grace = s.grace := rfl
@[simp] theorem State.updCore_isolated (f : Core → Core) : (s.updCore f).isolated = s.isolated := rfl
@[simp] theorem State.updCore_keys (f : Core → Core) : (s.updCore f).keys = s.keys := rfl
@[simp] theorem State.updCore_bist (f : Core → Core) : (s.updCore f).bist = s.bist := rfl
@[simp] theorem State.updCore_bistHeld (f : Core → Core) : (s.updCore f).bistHeld = s.bistHeld := rfl
@[simp] theorem State.updCore_pwr (f : Core → Core) : (s.updCore f).pwr = s.pwr := rfl
@[simp] theorem State.updCore_jtag (f : Core → Core) : (s.updCore f).jtag = s.jtag := rfl
@[simp] theorem State.updCore_core (f : Core → Core) : (s.updCore f).core = f s.core := rfl
@[simp] theorem State.updCore_flash (f : Core → Core) : (s.updCore f).flash = s.flash := rfl
@[simp] theorem State.updCore_flt (f : Core → Core) : (s.updCore f).flt = s.flt := rfl
@[simp] theorem State.updCore_orbit (f : Core → Core) : (s.updCore f).orbit = s.orbit := rfl
@[simp] theorem State.updCore_shot (f : Core → Core) : (s.updCore f).shot = s.shot := rfl
@[simp] theorem State.updCore_banks (f : Core → Core) : (s.updCore f).banks = s.banks := rfl
@[simp] theorem State.updCore_streams (f : Core → Core) : (s.updCore f).streams = s.streams := rfl
@[simp] theorem State.updCore_halves (f : Core → Core) : (s.updCore f).halves = s.halves := rfl
@[simp] theorem State.updCore_teleCq (f : Core → Core) : (s.updCore f).teleCq = s.teleCq := rfl
@[simp] theorem State.updCore_ecliDone (f : Core → Core) : (s.updCore f).ecliDone = s.ecliDone := rfl
@[simp] theorem State.updCore_ringReset (f : Core → Core) : (s.updCore f).ringReset = s.ringReset := rfl
@[simp] theorem State.updCore_pages (f : Core → Core) : (s.updCore f).pages = s.pages := rfl
@[simp] theorem State.updCore_reg (f : Core → Core) (x : Nat) : (s.updCore f).reg x = s.reg x := rfl
@[simp] theorem State.updCore_get (f : Core → Core) (x : Fld) : (s.updCore f).get x = s.get x := rfl
@[simp] theorem State.updCore_on (f : Core → Core) (x : Fld) : (s.updCore f).on x = s.on x := rfl
@[simp] theorem State.updCore_counter (f : Core → Core) (x : Nat) : (s.updCore f).counter x = s.counter x := rfl
@[simp] theorem State.updCore_ring (f : Core → Core) (x0 : Nat) : (s.updCore f).ring x0 = s.ring x0 := rfl
@[simp] theorem State.updCore_rxe (f : Core → Core) (x0 : Nat) : (s.updCore f).rxe x0 = s.rxe x0 := rfl
@[simp] theorem State.updCore_txe (f : Core → Core) (x0 : Nat) : (s.updCore f).txe x0 = s.txe x0 := rfl
@[simp] theorem State.updCore_seg (f : Core → Core) (x0 x1 x2 : Nat) : (s.updCore f).seg x0 x1 x2 = s.seg x0 x1 x2 := rfl
@[simp] theorem State.updCore_eng (f : Core → Core) (x0 x1 : Nat) : (s.updCore f).eng x0 x1 = s.eng x0 x1 := rfl
@[simp] theorem State.updCore_port (f : Core → Core) (x0 : Nat) : (s.updCore f).port x0 = s.port x0 := rfl
@[simp] theorem State.updCore_pll (f : Core → Core) (x0 : Nat) : (s.updCore f).pll x0 = s.pll x0 := rfl
@[simp] theorem State.updCore_strm (f : Core → Core) (x0 : Nat) : (s.updCore f).strm x0 = s.strm x0 := rfl
@[simp] theorem State.updCore_lt (f : Core → Core) (x : Nat) : (s.updCore f).lt x = s.lt x := rfl

@[simp] theorem State.updPwr_pending (f : Pwr → Pwr) : (s.updPwr f).pending = s.pending := rfl
@[simp] theorem State.updPwr_clock (f : Pwr → Pwr) : (s.updPwr f).clock = s.clock := rfl
@[simp] theorem State.updPwr_freeCtr (f : Pwr → Pwr) : (s.updPwr f).freeCtr = s.freeCtr := rfl
@[simp] theorem State.updPwr_regs (f : Pwr → Pwr) : (s.updPwr f).regs = s.regs := rfl
@[simp] theorem State.updPwr_latch (f : Pwr → Pwr) : (s.updPwr f).latch = s.latch := rfl
@[simp] theorem State.updPwr_out (f : Pwr → Pwr) : (s.updPwr f).out = s.out := rfl
@[simp] theorem State.updPwr_pcie (f : Pwr → Pwr) : (s.updPwr f).pcie = s.pcie := rfl
@[simp] theorem State.updPwr_rings (f : Pwr → Pwr) : (s.updPwr f).rings = s.rings := rfl
@[simp] theorem State.updPwr_dispatched (f : Pwr → Pwr) : (s.updPwr f).dispatched = s.dispatched := rfl
@[simp] theorem State.updPwr_fenceHeld (f : Pwr → Pwr) : (s.updPwr f).fenceHeld = s.fenceHeld := rfl
@[simp] theorem State.updPwr_evFrames (f : Pwr → Pwr) : (s.updPwr f).evFrames = s.evFrames := rfl
@[simp] theorem State.updPwr_rx (f : Pwr → Pwr) : (s.updPwr f).rx = s.rx := rfl
@[simp] theorem State.updPwr_tx (f : Pwr → Pwr) : (s.updPwr f).tx = s.tx := rfl
@[simp] theorem State.updPwr_segs (f : Pwr → Pwr) : (s.updPwr f).segs = s.segs := rfl
@[simp] theorem State.updPwr_engs (f : Pwr → Pwr) : (s.updPwr f).engs = s.engs := rfl
@[simp] theorem State.updPwr_lts (f : Pwr → Pwr) : (s.updPwr f).lts = s.lts := rfl
@[simp] theorem State.updPwr_ports (f : Pwr → Pwr) : (s.updPwr f).ports = s.ports := rfl
@[simp] theorem State.updPwr_waitq (f : Pwr → Pwr) : (s.updPwr f).waitq = s.waitq := rfl
@[simp] theorem State.updPwr_plls (f : Pwr → Pwr) : (s.updPwr f).plls = s.plls := rfl
@[simp] theorem State.updPwr_calSeq (f : Pwr → Pwr) : (s.updPwr f).calSeq = s.calSeq := rfl
@[simp] theorem State.updPwr_calReqs (f : Pwr → Pwr) : (s.updPwr f).calReqs = s.calReqs := rfl
@[simp] theorem State.updPwr_rejects (f : Pwr → Pwr) : (s.updPwr f).rejects = s.rejects := rfl
@[simp] theorem State.updPwr_dwell (f : Pwr → Pwr) : (s.updPwr f).dwell = s.dwell := rfl
@[simp] theorem State.updPwr_causes (f : Pwr → Pwr) : (s.updPwr f).causes = s.causes := rfl
@[simp] theorem State.updPwr_grace (f : Pwr → Pwr) : (s.updPwr f).grace = s.grace := rfl
@[simp] theorem State.updPwr_isolated (f : Pwr → Pwr) : (s.updPwr f).isolated = s.isolated := rfl
@[simp] theorem State.updPwr_keys (f : Pwr → Pwr) : (s.updPwr f).keys = s.keys := rfl
@[simp] theorem State.updPwr_bist (f : Pwr → Pwr) : (s.updPwr f).bist = s.bist := rfl
@[simp] theorem State.updPwr_bistHeld (f : Pwr → Pwr) : (s.updPwr f).bistHeld = s.bistHeld := rfl
@[simp] theorem State.updPwr_pwr (f : Pwr → Pwr) : (s.updPwr f).pwr = f s.pwr := rfl
@[simp] theorem State.updPwr_jtag (f : Pwr → Pwr) : (s.updPwr f).jtag = s.jtag := rfl
@[simp] theorem State.updPwr_core (f : Pwr → Pwr) : (s.updPwr f).core = s.core := rfl
@[simp] theorem State.updPwr_flash (f : Pwr → Pwr) : (s.updPwr f).flash = s.flash := rfl
@[simp] theorem State.updPwr_flt (f : Pwr → Pwr) : (s.updPwr f).flt = s.flt := rfl
@[simp] theorem State.updPwr_orbit (f : Pwr → Pwr) : (s.updPwr f).orbit = s.orbit := rfl
@[simp] theorem State.updPwr_shot (f : Pwr → Pwr) : (s.updPwr f).shot = s.shot := rfl
@[simp] theorem State.updPwr_banks (f : Pwr → Pwr) : (s.updPwr f).banks = s.banks := rfl
@[simp] theorem State.updPwr_streams (f : Pwr → Pwr) : (s.updPwr f).streams = s.streams := rfl
@[simp] theorem State.updPwr_halves (f : Pwr → Pwr) : (s.updPwr f).halves = s.halves := rfl
@[simp] theorem State.updPwr_teleCq (f : Pwr → Pwr) : (s.updPwr f).teleCq = s.teleCq := rfl
@[simp] theorem State.updPwr_ecliDone (f : Pwr → Pwr) : (s.updPwr f).ecliDone = s.ecliDone := rfl
@[simp] theorem State.updPwr_ringReset (f : Pwr → Pwr) : (s.updPwr f).ringReset = s.ringReset := rfl
@[simp] theorem State.updPwr_pages (f : Pwr → Pwr) : (s.updPwr f).pages = s.pages := rfl
@[simp] theorem State.updPwr_reg (f : Pwr → Pwr) (x : Nat) : (s.updPwr f).reg x = s.reg x := rfl
@[simp] theorem State.updPwr_get (f : Pwr → Pwr) (x : Fld) : (s.updPwr f).get x = s.get x := rfl
@[simp] theorem State.updPwr_on (f : Pwr → Pwr) (x : Fld) : (s.updPwr f).on x = s.on x := rfl
@[simp] theorem State.updPwr_counter (f : Pwr → Pwr) (x : Nat) : (s.updPwr f).counter x = s.counter x := rfl
@[simp] theorem State.updPwr_ring (f : Pwr → Pwr) (x0 : Nat) : (s.updPwr f).ring x0 = s.ring x0 := rfl
@[simp] theorem State.updPwr_rxe (f : Pwr → Pwr) (x0 : Nat) : (s.updPwr f).rxe x0 = s.rxe x0 := rfl
@[simp] theorem State.updPwr_txe (f : Pwr → Pwr) (x0 : Nat) : (s.updPwr f).txe x0 = s.txe x0 := rfl
@[simp] theorem State.updPwr_seg (f : Pwr → Pwr) (x0 x1 x2 : Nat) : (s.updPwr f).seg x0 x1 x2 = s.seg x0 x1 x2 := rfl
@[simp] theorem State.updPwr_eng (f : Pwr → Pwr) (x0 x1 : Nat) : (s.updPwr f).eng x0 x1 = s.eng x0 x1 := rfl
@[simp] theorem State.updPwr_port (f : Pwr → Pwr) (x0 : Nat) : (s.updPwr f).port x0 = s.port x0 := rfl
@[simp] theorem State.updPwr_pll (f : Pwr → Pwr) (x0 : Nat) : (s.updPwr f).pll x0 = s.pll x0 := rfl
@[simp] theorem State.updPwr_strm (f : Pwr → Pwr) (x0 : Nat) : (s.updPwr f).strm x0 = s.strm x0 := rfl
@[simp] theorem State.updPwr_lt (f : Pwr → Pwr) (x : Nat) : (s.updPwr f).lt x = s.lt x := rfl

@[simp] theorem State.updStrm_pending (n : Nat) (f : Stream → Stream) : (s.updStrm n f).pending = s.pending := rfl
@[simp] theorem State.updStrm_clock (n : Nat) (f : Stream → Stream) : (s.updStrm n f).clock = s.clock := rfl
@[simp] theorem State.updStrm_freeCtr (n : Nat) (f : Stream → Stream) : (s.updStrm n f).freeCtr = s.freeCtr := rfl
@[simp] theorem State.updStrm_regs (n : Nat) (f : Stream → Stream) : (s.updStrm n f).regs = s.regs := rfl
@[simp] theorem State.updStrm_latch (n : Nat) (f : Stream → Stream) : (s.updStrm n f).latch = s.latch := rfl
@[simp] theorem State.updStrm_out (n : Nat) (f : Stream → Stream) : (s.updStrm n f).out = s.out := rfl
@[simp] theorem State.updStrm_pcie (n : Nat) (f : Stream → Stream) : (s.updStrm n f).pcie = s.pcie := rfl
@[simp] theorem State.updStrm_rings (n : Nat) (f : Stream → Stream) : (s.updStrm n f).rings = s.rings := rfl
@[simp] theorem State.updStrm_dispatched (n : Nat) (f : Stream → Stream) : (s.updStrm n f).dispatched = s.dispatched := rfl
@[simp] theorem State.updStrm_fenceHeld (n : Nat) (f : Stream → Stream) : (s.updStrm n f).fenceHeld = s.fenceHeld := rfl
@[simp] theorem State.updStrm_evFrames (n : Nat) (f : Stream → Stream) : (s.updStrm n f).evFrames = s.evFrames := rfl
@[simp] theorem State.updStrm_rx (n : Nat) (f : Stream → Stream) : (s.updStrm n f).rx = s.rx := rfl
@[simp] theorem State.updStrm_tx (n : Nat) (f : Stream → Stream) : (s.updStrm n f).tx = s.tx := rfl
@[simp] theorem State.updStrm_segs (n : Nat) (f : Stream → Stream) : (s.updStrm n f).segs = s.segs := rfl
@[simp] theorem State.updStrm_engs (n : Nat) (f : Stream → Stream) : (s.updStrm n f).engs = s.engs := rfl
@[simp] theorem State.updStrm_lts (n : Nat) (f : Stream → Stream) : (s.updStrm n f).lts = s.lts := rfl
@[simp] theorem State.updStrm_ports (n : Nat) (f : Stream → Stream) : (s.updStrm n f).ports = s.ports := rfl
@[simp] theorem State.updStrm_waitq (n : Nat) (f : Stream → Stream) : (s.updStrm n f).waitq = s.waitq := rfl
@[simp] theorem State.updStrm_plls (n : Nat) (f : Stream → Stream) : (s.updStrm n f).plls = s.plls := rfl
@[simp] theorem State.updStrm_calSeq (n : Nat) (f : Stream → Stream) : (s.updStrm n f).calSeq = s.calSeq := rfl
@[simp] theorem State.updStrm_calReqs (n : Nat) (f : Stream → Stream) : (s.updStrm n f).calReqs = s.calReqs := rfl
@[simp] theorem State.updStrm_rejects (n : Nat) (f : Stream → Stream) : (s.updStrm n f).rejects = s.rejects := rfl
@[simp] theorem State.updStrm_dwell (n : Nat) (f : Stream → Stream) : (s.updStrm n f).dwell = s.dwell := rfl
@[simp] theorem State.updStrm_causes (n : Nat) (f : Stream → Stream) : (s.updStrm n f).causes = s.causes := rfl
@[simp] theorem State.updStrm_grace (n : Nat) (f : Stream → Stream) : (s.updStrm n f).grace = s.grace := rfl
@[simp] theorem State.updStrm_isolated (n : Nat) (f : Stream → Stream) : (s.updStrm n f).isolated = s.isolated := rfl
@[simp] theorem State.updStrm_keys (n : Nat) (f : Stream → Stream) : (s.updStrm n f).keys = s.keys := rfl
@[simp] theorem State.updStrm_bist (n : Nat) (f : Stream → Stream) : (s.updStrm n f).bist = s.bist := rfl
@[simp] theorem State.updStrm_bistHeld (n : Nat) (f : Stream → Stream) : (s.updStrm n f).bistHeld = s.bistHeld := rfl
@[simp] theorem State.updStrm_pwr (n : Nat) (f : Stream → Stream) : (s.updStrm n f).pwr = s.pwr := rfl
@[simp] theorem State.updStrm_jtag (n : Nat) (f : Stream → Stream) : (s.updStrm n f).jtag = s.jtag := rfl
@[simp] theorem State.updStrm_core (n : Nat) (f : Stream → Stream) : (s.updStrm n f).core = s.core := rfl
@[simp] theorem State.updStrm_flash (n : Nat) (f : Stream → Stream) : (s.updStrm n f).flash = s.flash := rfl
@[simp] theorem State.updStrm_flt (n : Nat) (f : Stream → Stream) : (s.updStrm n f).flt = s.flt := rfl
@[simp] theorem State.updStrm_orbit (n : Nat) (f : Stream → Stream) : (s.updStrm n f).orbit = s.orbit := rfl
@[simp] theorem State.updStrm_shot (n : Nat) (f : Stream → Stream) : (s.updStrm n f).shot = s.shot := rfl
@[simp] theorem State.updStrm_banks (n : Nat) (f : Stream → Stream) : (s.updStrm n f).banks = s.banks := rfl
@[simp] theorem State.updStrm_halves (n : Nat) (f : Stream → Stream) : (s.updStrm n f).halves = s.halves := rfl
@[simp] theorem State.updStrm_teleCq (n : Nat) (f : Stream → Stream) : (s.updStrm n f).teleCq = s.teleCq := rfl
@[simp] theorem State.updStrm_ecliDone (n : Nat) (f : Stream → Stream) : (s.updStrm n f).ecliDone = s.ecliDone := rfl
@[simp] theorem State.updStrm_ringReset (n : Nat) (f : Stream → Stream) : (s.updStrm n f).ringReset = s.ringReset := rfl
@[simp] theorem State.updStrm_pages (n : Nat) (f : Stream → Stream) : (s.updStrm n f).pages = s.pages := rfl
@[simp] theorem State.updStrm_reg (n : Nat) (f : Stream → Stream) (x : Nat) : (s.updStrm n f).reg x = s.reg x := rfl
@[simp] theorem State.updStrm_get (n : Nat) (f : Stream → Stream) (x : Fld) : (s.updStrm n f).get x = s.get x := rfl
@[simp] theorem State.updStrm_on (n : Nat) (f : Stream → Stream) (x : Fld) : (s.updStrm n f).on x = s.on x := rfl
@[simp] theorem State.updStrm_counter (n : Nat) (f : Stream → Stream) (x : Nat) : (s.updStrm n f).counter x = s.counter x := rfl
@[simp] theorem State.updStrm_ring (n : Nat) (f : Stream → Stream) (x0 : Nat) : (s.updStrm n f).ring x0 = s.ring x0 := rfl
@[simp] theorem State.updStrm_rxe (n : Nat) (f : Stream → Stream) (x0 : Nat) : (s.updStrm n f).rxe x0 = s.rxe x0 := rfl
@[simp] theorem State.updStrm_txe (n : Nat) (f : Stream → Stream) (x0 : Nat) : (s.updStrm n f).txe x0 = s.txe x0 := rfl
@[simp] theorem State.updStrm_seg (n : Nat) (f : Stream → Stream) (x0 x1 x2 : Nat) : (s.updStrm n f).seg x0 x1 x2 = s.seg x0 x1 x2 := rfl
@[simp] theorem State.updStrm_eng (n : Nat) (f : Stream → Stream) (x0 x1 : Nat) : (s.updStrm n f).eng x0 x1 = s.eng x0 x1 := rfl
@[simp] theorem State.updStrm_port (n : Nat) (f : Stream → Stream) (x0 : Nat) : (s.updStrm n f).port x0 = s.port x0 := rfl
@[simp] theorem State.updStrm_pll (n : Nat) (f : Stream → Stream) (x0 : Nat) : (s.updStrm n f).pll x0 = s.pll x0 := rfl
@[simp] theorem State.updStrm_strm_same (n : Nat) (f : Stream → Stream) : (s.updStrm n f).strm n = f (s.strm n) := Sparse.get_set_same ..
@[simp] theorem State.updStrm_lt (n : Nat) (f : Stream → Stream) (x : Nat) : (s.updStrm n f).lt x = s.lt x := rfl

end Sys2Proof.Machine
end

