-- ==== Sys2Proof/Laws/Frames.lean ====
section
/-! SUPPORT. How the frame of a command is built up from its updates. -/

namespace Sys2Proof.Machine

variable {m : State → State} {l : List Nat} {s t u : State}

theorem Framed.refl (m : State → State) (l : List Nat) (s : State) : Framed m l s s := ⟨rfl, fun _ _ _ => rfl⟩

theorem Framed.trans (h : Framed m l s t) (k : Framed m l t u) : Framed m l s u :=
  ⟨k.1.trans h.1, fun a h3 hl => (k.2 a h3 hl).trans (h.2 a h3 hl)⟩

/-- An update that leaves the registers alone. -/
theorem Framed.step (h : Framed m l s t) (hm : m u.base = m t.base) (hr : u.regs = t.regs) : Framed m l s u :=
  h.trans ⟨hm, fun a _ _ => by unfold State.reg; rw [hr]⟩

theorem Framed.setReg (h : Framed m l s t) {a : Nat} (w : Word) (ha : a / 0x10000 = 3 ∨ a ∈ l) : Framed m l s (t.setReg a w) :=
  h.trans ⟨rfl, fun b h3 hl => State.reg_setReg_ne t w (by rintro rfl; exact ha.elim (fun e => h3 e) hl)⟩

theorem Framed.put (h : Framed m l s t) {f : Fld} (v : Nat) (ha : f.addr / 0x10000 = 3 ∨ f.addr ∈ l) :
    Framed m l s (t.put f v) := h.setReg _ ha

theorem Framed.setCounter (h : Framed m l s t) {a : Nat} (v : Nat) (ha : a / 0x10000 = 3 ∨ a ∈ l)
    (hb : (a + 4) / 0x10000 = 3 ∨ a + 4 ∈ l) : Framed m l s (t.setCounter a v) := (h.setReg _ ha).setReg _ hb

theorem Framed.count (h : Framed m l s t) {a : Nat} (ha : a / 0x10000 = 3 ∨ a ∈ l)
    (hb : (a + 4) / 0x10000 = 3 ∨ a + 4 ∈ l) : Framed m l s (t.count a) := h.setCounter _ ha hb

theorem Framed.satCount (h : Framed m l s t) {a : Nat} (ha : a / 0x10000 = 3 ∨ a ∈ l) : Framed m l s (t.satCount a) :=
  h.setReg _ ha

theorem Framed.emit (h : Framed m l s t) (o : Out) : Framed m l s (t.emit o) := h.trans ⟨rfl, fun _ _ _ => rfl⟩

theorem Framed.updRing (h : Framed m l s t) (q : Nat) (f : Ring → Ring) : Framed m l s (t.updRing q f) :=
  h.trans ⟨rfl, fun _ _ _ => rfl⟩

theorem base_of_same (h : SameButEvents s t) : t.base = s.base := by
  unfold SameButEvents at h; rw [h]; rfl

theorem Framed.raiseBits (h : Framed m l s t) {a : Nat} (b : Nat) (ha : a ∈ l) : Framed m l s (t.raiseBits a b) :=
  h.trans ⟨by rw [base_of_same (t.raiseBits_same a b)],
    fun c h3 hl => State.reg_raiseBits_ne t a b h3 (by rintro rfl; exact hl ha)⟩

theorem Framed.raise (h : Framed m l s t) {a : Nat} (b : Nat) (ha : a ∈ l) : Framed m l s (t.raise a b) :=
  h.raiseBits _ ha

end Sys2Proof.Machine
end

