-- ==== Sys2Proof/Tests/Slice0.lean ====
section
/-! SUPPORT. Small states, witnesses of the hypotheses of the statements, the refusals of ill-formed commands, and
tests of one step each, with results taken from the specification. -/

namespace Sys2Proof.Tests

open Sys2Proof Sys2Proof.Machine

set_option maxRecDepth 8000
set_option exponentiation.threshold 600
set_option Elab.async false
set_option linter.unusedVariables false

/-- The state after reset, in a phase of the power controller. -/
def atPhase (p : Phase) : State := { State.reset with pwr := { Pwr.reset with phase := p, rails := 31 } }

/-- A unit in RUN. -/
abbrev up : State := atPhase .run

/-- A unit in RUN whose register at `a` holds `w`. -/
def upReg (a : Nat) (w : Word) : State := up.setReg a w

/-- The manager of its chain, in RUN. -/
def mgr : State := up.put GLB.strapRole 1

/-- A unit in RUN within a voltage and frequency change. -/
def inDvfs (d : Dvfs) : State := { up with pwr := { up.pwr with dvfs := d } }

/-- Port group 0 enabled as reset configures it: CFL. -/
def cflUp : State := (up.put (GLB.pers 0) 2).put (GLB.en 0) 1

/-- The same, with a signal at position P00 of side A. -/
def oneSignal : State := cflUp.put (LRX.losNow 0) 0

/-- A worker of address 5, in RUN; traffic from the manager arrives on its port U. -/
def wkr : State := (up.put ORB.addr 5).put ORB.addrValid 1

/-- A whole frame from the manager to address 5. -/
def toFive (ftype : Byte) (payload : List Byte) : Frame :=
  sealFrame { dest := 5, src := 0, ftype := ftype, tag := 1, hops := 1, len := BitVec.ofNat 8 payload.length,
              payload := payload, crc := 0, ctl := [] }

/-- A good configuration record of one entry. -/
def oneEntry (e : BitVec 64) : CfgRecord :=
  { magic := 0x47435054, count := 1, crc := BitVec.ofNat 32 (crc32 (bytesOf 8 e.toNat)), entries := [e] }

/-- A unit whose core boots. -/
def booting (trial : Bool) : State := { up with core := { Core.reset with st := .booting, trialRun := trial } }

/-- A unit whose firmware is ready. -/
def ready : State := { up with core := { Core.reset with st := .ready } }

/-- A unit with a WRITE of one byte that is complete. -/
def written : State := { ready with core := { ready.core with loads := [⟨.nobody, false, 1, [7], 0, 0⟩] } }

/-- Port group 0 enabled; the lane-ends of position P00 of side A are ACTIVE, with no signal yet. -/
def act : State := ((cflUp.put (LRX.pwr 0) 2).put (LTX.pwr 0) 2)

/-- The same with a signal, the CDR and the marker machine locked. -/
def live : State :=
  ((((act.put (LRX.losNow 0) 0).put (LRX.cdrLock 0) 1).put (LRX.markerLock 0) 1).put (LRX.frzLos 0) 0).updRx 0
    (fun r => { r with mark := .lock, windowBad := false })

/-- Timing entry 1 of direction AB names position P00, which is healthy; the direction is in holdover. -/
def holding : State := (live.setReg (GLB.tlist 0 0) 0x8000#32).put (GLB.hold 0) 1


/-- Port group 1 configured as one Ethernet port of 8 lanes that relays negotiation, and enabled. -/
def relay : State :=
  ((((up.setReg (GLB.pgcfg 1) 0).put (GLB.proto 1) 1).put (GLB.pers 1) 1).put (GLB.elane 1 0) 4).put (GLB.anMode 1) 1
    |>.put (GLB.en 1) 1

/-- That port's segment A in UP, its first lane with CDR lock. -/
def ethUp : State := ((relay.put (GLB.tsState 1 0 0) 6).put (LRX.pwr 8) 2).put (LRX.cdrLock 8) 1

/-- The same in T mode, with marker lock on the lane and calibration enabled. -/
def ethT : State := ((ethUp.put (GLB.pers 1) 0).put (LRX.markerLock 8) 1).put CAL.en 1

/-- A unit with a scan slice in its test. -/
def scanning : State :=
  { up with bist := [{ owner := .nobody, accepted := true, slices := [⟨3, 0, 0⟩], addr := 0, sq := 0, sqIdx := 0, k := 0,
                       stage := .testing, pass := 0, fail := 0, timeout := 0, verdict := 0, detail := 0, us := 0 }] }

/-- A segment in EQ whose position P00 has asked for its first step. -/
def asking : State :=
  (live.put (GLB.tsState 0 0 0) 3).updRx 0 (fun r => { r with req := some ⟨1, true, false, 1800⟩ })

/-- Port group 0 in F mode with both segments in UP and codeword lock on both. -/
def fUp : State :=
  (((cflUp.put (GLB.tsState 0 0 0) 6).put (GLB.tsState 0 1 0) 6).put (DIR.cwLock 0 0) 1).put (DIR.cwLock 1 0) 1

/-- The same with a move of lane 7 of side A to position P32 in progress. -/
def moving : State :=
  fUp.updPort 0 (fun r => { r with
    change := some ⟨.move, 8, [⟨0, [0, 1, 2, 3, 4, 5, 6, 8], 0, false, false, false, 1⟩], 0, false⟩ })

/-- A port of one lane in side A's map, with codeword lock. -/
def oneLane : State := (live.setReg (GLB.lmap 0 0) 0xFFFFFFF0#32).put (DIR.cwLock 0 0) 1

/-- The same port in G mode. -/
def gUp : State := fUp.put (GLB.pers 0) 1

/-- A flit of a type and a SEQ with its CRC: one transaction of PID 3 with one word. -/
def goodFlit (ty seq : Nat) : Flit := withCrc (setHdr (plainFlit ty 0x100003) 0 12 seq)

/-- An LPWR flit of an OP. -/
def lpwr (op : Nat) : Flit := withCrc (plainFlit 9 op)

/-- Engine AB waits for its replay request, sent `n` times. -/
def nakking (n : Nat) : State :=
  ((fUp.put (DIR.inState 0 0) 1).put (DIR.cSnak 0 0) n).updEng 0 0 (fun x => { x with timer := true })

/-- F mode with PID 3 quenched by entry 0. -/
def quenched : State := ((fUp.setReg (PRT.entryLo 0) 0x00400003#32).put (PRT.quenched 0) 1)

/-- A held DATA flit of PID 3, and the slot of one with SEQ 4094 that has been replayed `n` times. -/
def heldFlit (seq : Nat) : Held := ⟨goodFlit 1 seq, 9, [3], false, false⟩

def heldSlot (n : Nat) (poisoned : Bool) : Slot := ⟨heldFlit 4094, 4094, n, true, false, poisoned⟩

/-- Engine AB with that slot and a range of one flit that waits for its replay. -/
def ranged (s : State) (n : Nat) : State :=
  s.updEng 0 0 (fun x => { x with queue := [(4094, 1)], slots := [heldSlot n false] })

/-- Engine AB in a replay of that slot. -/
def replaying (s : State) (poisoned : Bool) : State :=
  s.updEng 0 0 (fun x => { x with replay := [4094], slots := [heldSlot 1 poisoned] })

/-- Engine AB with a new flit, in segment mode. -/
def tagging : State := fUp.updEng 0 0 (fun x => { x with fresh := some (heldFlit 7), tagMode := 1 })

/-- The live lane-end of `live`, with calibration enabled and in its default roles. -/
def calm : State := live.put CAL.en 1

/-- A manager whose host pages are set and whose rings have 16 entries each. -/
def host : State :=
  { ((mgr.setReg (RNG.shdPage 0) 0x1000#32).setReg (RNG.q 63) 0x10000#32).setReg (RNG.cfg 63) 0x44#32
      |>.setReg (RNG.q 63 + 8) 0x20000#32 with pages := 3 }

/-- A manager with its link up and ring 4 RUNNING with 16 entries. -/
def running : State :=
  { ((((host.put RNG.dlUp 1).put (RNG.state 4) 1).setReg (RNG.cfg 4) 0x44#32).put (RNG.state 0) 0).setReg (RNG.cfg 0) 0x44#32
    with pcie := { Pcie.reset with crs := false, memEnable := true, busMaster := true } }

/-- A descriptor that the engine owns in the first round of a ring. -/
def ownedDesc : Desc := 0x80000000000000000000000000000000000000000000000000000000000000000000000000000000000000000000000000000000000000000000000000000000

/-- The same with one descriptor in flight on ring 4. -/
def flying (f : Flight) : State :=
  (running.updRing 4 (fun r => { r with flights := [f] })).put (RNG.cdone 4) f.idx

/-- A descriptor of a type, a TARGET, and a body from byte 8. -/
def dsc (ty target body : Nat) : Desc := BitVec.ofNat 512 (ty + 2 ^ 16 * target + 2 ^ 64 * body)

/-- A descriptor in flight that has not started, at index 7 of ring 4. -/
def fresh (d : Desc) : Flight := ⟨7, d, 0, .held, 0, 0, 0, 0, 0⟩

/-- The manager with that descriptor in flight. -/
def offered (d : Desc) : State := flying (fresh d)

/-- The same with a worker of address 5 in its chain. -/
def chained (d : Desc) : State := (offered d).put (ORB.mapState 5) 1

/-- The manager in the safe state. -/
def halted (d : Desc) : State := (offered d).put FLT.safe 1

/-- The manager with that descriptor in flight, its firmware ready. -/
def firm (d : Desc) : State := { offered d with core := { (offered d).core with st := .ready } }

/-- A manager whose port group 0 is in F mode with both segments in UP, and that descriptor in flight. -/
def upWith (d : Desc) : State :=
  { (((fUp.put GLB.strapRole 1).put (RNG.state 4) 1).setReg (RNG.cfg 4) 0x44#32).updRing 4 (fun r => { r with flights := [fresh d] })
    with core := { fUp.core with st := .ready } }

/-- The same for a privileged ring: an offered descriptor on ring 0. -/
def onZero (d : Desc) : State :=
  ((running.put (RNG.state 0) 1).updRing 0 (fun r => { r with flights := [fresh d] })).put (RNG.cdone 0) 7

/-- Table entry 4095 names PID 9, valid, in accounting group 3. -/
def tabled (s : State) : State := s.setReg (PRT.entryLo 4095) 0x00430009#32

/-- Valid entries that name PID 1, from an address on. -/
def tableFrom : Nat → Nat → Sparse Word
  | _, 0 => []
  | a, n + 1 => (a, 0x400001#32) :: tableFrom (a + 8) n

/-- A table with no invalid entry: 4,096 entries that name PID 1. -/
def fullTable (s : State) : State := { s with regs := s.regs ++ tableFrom 0xA0000 4096 }

/-- The registers of a state all lie below the table. -/
def belowTable (s : State) : Bool := s.regs.all (fun x => decide (x.1 < 0xA0000))

theorem get_append_table (l : Sparse Word) (d : Word) (h : l.all (fun x => decide (x.1 < 0xA0000)) = true) (m : Sparse Word)
    {k : Nat} (hk : 0xA0000 ≤ k) : Sparse.get d (l ++ m) k = Sparse.get d m k := by
  induction l with
  | nil => rfl
  | cons x l ih =>
    simp only [List.all_cons, Bool.and_eq_true, decide_eq_true_eq] at h
    have : x.1 ≠ k := by omega
    simp [Sparse.get, this, ih h.2]

theorem get_tableFrom (d : Word) (n : Nat) : ∀ a i, i < n → Sparse.get d (tableFrom a n) (a + 8 * i) = 0x400001#32 := by
  induction n with
  | zero => intro a i hi; omega
  | succ n ih =>
    intro a i hi
    cases i with
    | zero => simp [tableFrom, Sparse.get]
    | succ i =>
      have := ih (a + 8) i (by omega)
      simp only [tableFrom, Sparse.get]
      rw [if_neg (by omega), ← this]
      congr 1; omega

theorem fullTable_free (s : State) (h : belowTable s = true) : (fullTable s).freeEntry = none := by
  unfold State.freeEntry
  rw [List.find?_eq_none]
  intro i hi
  have hv : (fullTable s).reg (PRT.entryLo i) = 0x400001#32 := by
    unfold State.reg fullTable
    rw [get_append_table _ _ h _ (by unfold PRT.entryLo; omega)]
    exact get_tableFrom _ _ _ _ (List.mem_range.mp hi)
  simp [State.on, State.get, PRT.valid, hv]
  decide

theorem tableFrom_pid (n : Nat) : ∀ a, ∀ x ∈ tableFrom a n, x.2 = 0x400001#32 := by
  induction n with
  | zero => intro a x hx; simp [tableFrom] at hx
  | succ n ih =>
    intro a x hx
    simp only [tableFrom, List.mem_cons] at hx
    rcases hx with rfl | hx
    · rfl
    · exact ih _ _ hx

theorem fullTable_entry (s : State) (h : belowTable s = true) : (fullTable s).entryOf 9 = none := by
  unfold State.entryOf
  rw [Option.map_eq_none_iff, List.find?_eq_none]
  intro x hx
  simp only [fullTable, List.mem_append] at hx
  rcases hx with hx | hx
  · have := List.all_eq_true.mp h x hx
    simp only [decide_eq_true_eq] at this
    simp; omega
  · have := tableFrom_pid _ _ _ hx
    simp [this]; intros; decide

/-- A manager with a sequence on its way, and a started descriptor at index 7 of ring 4. -/
def sending (d : Desc) (x : PriOut) : State :=
  let s := flying { fresh d with stage := .started }
  { s with orbit := { s.orbit with pris := [x] } }

/-- A broadcast frame of the manager. -/
def toAll (ftype : Byte) (payload : List Byte) : Frame :=
  sealFrame { dest := 0xFF, src := 0, ftype := ftype, tag := 1, hops := 1, len := BitVec.ofNat 8 payload.length,
              payload := payload, crc := 0, ctl := [] }

/-- The worker with a WRITE of 3 bytes that has 1. -/
def loading : State := { wkr with core := { Core.reset with st := .ready, loads := [⟨.orbit 1, false, 3, [9], 0, 0⟩] } }

/-- A manager with a request outstanding at address 5 for the started descriptor at index 7 of ring 4. -/
def asked (d : Desc) (r : OrbReq) : State :=
  let s := flying { fresh d with stage := .started }
  { s with orbit := { s.orbit with reqs := [r] } }

/-- A frame from address 5 to the manager. -/
def fromFive (ftype : Byte) (payload : List Byte) : Frame :=
  sealFrame { dest := 0, src := 5, ftype := ftype, tag := 1, hops := 1, len := BitVec.ofNat 8 payload.length,
              payload := payload, crc := 0, ctl := [] }

/-- A manager whose sequencer is in an activity, with the worker of address 5 in its chain. -/
def busyWith (q : SeqSt) : State :=
  let s := mgr.put (ORB.mapState 5) 1
  { s with orbit := { s.orbit with seq := q } }

/-- A manager that enumerates towards D, with no free address in its map. -/
def fullChain : State :=
  let s := busyWith (.enum false [.D])
  { s with regs := s.regs.filter (fun x => decide (x.1 < ORB.map 1)) ++ (List.range 254).map (fun k => (ORB.map (k + 1), 1#32)) }

/-- A worker without an address. -/
def newcomer : State := up

/-- ASSIGN of an address to the serial of this unit. -/
def assignTo (a : Byte) : Frame := toAll 0x0B (bytesOf 8 Config.serial.toNat ++ [a])

theorem frameGood_sealFrame (f : Frame) :
    frameGood (sealFrame f) = (frameClean f && decide (f.len.toNat = f.payload.length ∧ f.payload.length ≤ 64)) := by
  have h : (sealFrame f).crc = frameCrc (sealFrame f) := rfl
  unfold frameGood
  rw [decide_eq_true h, Bool.and_true]
  rfl

theorem assignTo_good (a : Byte) : frameGood (assignTo a) = true := by
  simp [assignTo, toAll, frameGood_sealFrame, bytesOf, frameClean]

theorem assignTo_serial (a : Byte) : payNat (assignTo a) 0 8 = Config.serial.toNat := by
  have h : ∀ n : Nat, n < 2 ^ 64 → ofBytes (bytesOf 8 n) = n := by
    intro n hn
    simp [ofBytes, bytesOf]
    omega
  have : ((bytesOf 8 Config.serial.toNat ++ [a]).drop 0).take 8 = bytesOf 8 Config.serial.toNat := by
    simp [bytesOf]
  unfold payNat assignTo toAll sealFrame
  rw [this, h _ Config.serial.isLt]

/-- The manager with a serial that ends in 0x0201. -/
def serial201 : State := { mgr with regs := (GLB.serialLo, 0x201#32) :: mgr.regs }

/-- A manager with a capture still to be taken. -/
def shooting : State := { mgr with shot := some ⟨9, false, 0, .D, 0⟩ }

/-- A unit whose self-test has one list of one slice, at a stage. -/
def slicing (x : BistSlice) (st : BistStage) : State :=
  { up with bist := [{ owner := .nobody, accepted := true, slices := [x], addr := 0, sq := 0, sqIdx := 0, k := 0, stage := st,
                       pass := 0, fail := 0, timeout := 0, verdict := 0, detail := 0, us := 0 }] }

/-- Its list. -/
def oneRun (x : BistSlice) (st : BistStage) : BistRun := ⟨.nobody, true, [x], 0, 0, 0, 0, st, 0, 0, 0, 0, 0, 0⟩


/-- QUENCH of PID 9 at the manager itself. -/
def quenchNine : Desc := dsc 0xD 0 (2 ^ 32 * 9)

/-- The manager with that descriptor in flight on ring 0. -/
def asksQuench : State := onZero quenchNine

theorem asksQuench_belowTable : belowTable asksQuench = true := by decide +kernel

theorem fullManager_starts : (fullTable asksQuench).starts 0 (7#16 : BitVec 16).toNat 0x0D (some 0) = some (fresh quenchNine) := by
  decide +kernel

theorem quenchNine_pid : dField (fresh quenchNine).desc 12 2 = 9 := by decide +kernel

theorem fullManager_entry : (fullTable asksQuench).entryOf (dField (fresh quenchNine).desc 12 2) = none := by
  rw [quenchNine_pid]
  exact fullTable_entry _ asksQuench_belowTable

theorem fullManager_free : (fullTable asksQuench).freeEntry = none := fullTable_free _ asksQuench_belowTable

theorem fullWorker_hears : (fullTable wkr).workerHears .U = true := by decide +kernel

theorem fullWorker_named : (fullTable wkr).named (0xFF : Byte).toNat = true := by decide +kernel

theorem wkr_belowTable : belowTable wkr = true := by decide +kernel

theorem fullWorker_entry : (fullTable wkr).entryOf (9#16 : BitVec 16).toNat = none := fullTable_entry _ wkr_belowTable

theorem fullWorker_free : (fullTable wkr).freeEntry = none := fullTable_free _ wkr_belowTable

theorem fullWorker_drives : (fullTable wkr).drives ((fullTable wkr).outPort .U) = true := by decide +kernel

theorem fullWorker_inbound : OrbPort.U = (fullTable wkr).outboundIn := by decide +kernel

/-- A loopback result that names every element of a lane-end without retired ones, with nothing out of its window. -/
def allGood : List FgResult :=
  (List.range 271).map (fun n => .cell n 0 0) ++ [.replica 0 0] ++ (List.range 66).map (fun n => .slice n ⟨4161536, 7849747, 300000, 4161536⟩)

/-- A segment in UP with an erased lane at position P00 of side A, which is isolated and live. -/
def isolatedUp : State := { (fUp.put (FLT.live 0) 1).put (FLT.sev 0) 4 with isolated := 1, causes := 1 }

theorem witness_coldResetsClearTheUnit :
  (∃ (s : State) (c : Instr), (c = .vstbyApplied ∨ c = .powerLoss)) := by
  exact ⟨live, .powerLoss, by decide +kernel⟩

theorem witness_powerUpStagesPass :
  (∃ (s : State) (pgs : BitVec 5), s.pwr.phase = .held) ∧
  (∃ (s : State) (straps : BitVec 4), s.pwr.phase = .stage 1) ∧
  (∃ (s : State), s.pwr.phase = .stage 2) ∧
  (∃ (s : State) (rows : List SramRow), s.pwr.phase = .stage 3) ∧
  (∃ (s : State), s.pwr.phase = .stage 4 ∧ s.pwr.held = false) := by
  exact ⟨⟨atPhase .held, 3#5, by decide +kernel⟩,
    ⟨atPhase (.stage 1), 7#4, by decide +kernel⟩,
    ⟨atPhase (.stage 2), by decide +kernel⟩,
    ⟨atPhase (.stage 3), [], by decide +kernel⟩,
    ⟨atPhase (.stage 4), by decide +kernel⟩⟩

theorem witness_powerUpFailuresRetryAndGiveUp :
  (∃ (s : State), s.pwr.phase = .stage 1 ∧ s.pwr.attempts < 2) ∧
  (∃ (s : State), s.pwr.phase = .stage 1 ∧ 2 ≤ s.pwr.attempts) ∧
  (∃ (s : State), s.pwr.phase = .retry ∧ s.pwr.attempts < 3) ∧
  (∃ (s : State), s.pwr.phase = .retry ∧ 3 ≤ s.pwr.attempts) ∧
  (∃ (s : State), (s.pwr.phase = .failed ∨ s.pwr.phase = .off)) ∧
  (∃ (s : State), (s.pwr.phase = .stage 3 ∨ s.pwr.phase = .stage 4)) := by
  exact ⟨⟨atPhase (.stage 1), by decide +kernel⟩,
    ⟨{ atPhase (.stage 1) with pwr := { (atPhase (.stage 1)).pwr with attempts := 2 } }, by decide +kernel⟩,
    ⟨atPhase .retry, by decide +kernel⟩,
    ⟨{ atPhase .retry with pwr := { (atPhase .retry).pwr with attempts := 3 } }, by decide +kernel⟩,
    ⟨atPhase .failed, by decide +kernel⟩,
    ⟨atPhase (.stage 3), by decide +kernel⟩⟩

theorem witness_idleFollowsTheCore :
  (∃ (s : State), s.pwr.phase = .run) ∧
  (∃ (s : State), s.pwr.phase = .run) := by
  exact ⟨⟨atPhase .run, by decide +kernel⟩,
    ⟨(atPhase .run).put PWR.state 1, by decide +kernel⟩⟩

theorem witness_targetAndEntrySteps :
  (∃ (s : State) (v : BitVec 2), s.pwr.phase = .run ∧ s.safe = false ∧ v ≠ 3#2) ∧
  (∃ (s : State), s.pwr.phase = .run ∧ s.safe = false ∧ s.on PWR.offEn = false) ∧
  (∃ (s : State), s.pwr.phase = .run ∧ (s.get PWR.target = 1 ∨ s.get PWR.target = 2) ∧ s.blockBits (s.get PWR.target)
    = 0 ∧ s.wakeNow = false) ∧
  (∃ (s : State) (k : Nat), s.pwr.phase = .entry k ∧ k < 5 ∧ s.pwr.wake = none ∧ s.pwr.goal ≠ 1) ∧
  (∃ (s : State), s.pwr.phase = .entry 1 ∧ s.pwr.wake = none ∧ s.pwr.goal = 1) ∧
  (∃ (s : State), s.pwr.phase = .entry 3 ∧ s.pwr.wake = none ∧ s.pwr.goal = 1) ∧
  (∃ (s : State) (k : Nat), s.pwr.phase = .entry k ∧ k < 4 ∧ s.pwr.wake.isSome = true) ∧
  (∃ (s : State), s.pwr.phase = .entry 5 ∧ s.pwr.goal ≠ 3 ∧ s.pwr.wake = none) ∧
  (∃ (s : State), s.pwr.phase = .run ∧ s.safe = false ∧ s.on PWR.offEn = true ∧ s.wakeNow = false) ∧
  (∃ (s : State), s.pwr.phase = .run ∧ s.safe = false ∧ s.on PWR.offEn = true ∧ s.wakeNow = true) ∧
  (∃ (s : State), s.pwr.phase = .entry 4 ∧ s.pwr.wake = none ∧ s.pwr.goal ≠ 1) ∧
  (∃ (s : State), s.pwr.phase = .entry 5 ∧ s.pwr.goal = 3 ∧ s.pwr.wake = none) ∧
  (∃ (s : State), s.pwr.phase = .entry 5 ∧ s.pwr.goal = 3 ∧ s.pwr.wake.isSome = true) := by
  exact ⟨⟨atPhase .run, 2#2, by decide +kernel⟩,
    ⟨atPhase .run, by decide +kernel⟩,
    ⟨(atPhase .run).put PWR.target 2, by decide +kernel⟩,
    ⟨atPhase (.entry 4), 4, by decide +kernel⟩,
    ⟨{ atPhase (.entry 1) with pwr := { (atPhase (.entry 1)).pwr with goal := 1 } }, by decide +kernel⟩,
    ⟨{ atPhase (.entry 3) with pwr := { (atPhase (.entry 3)).pwr with goal := 1 } }, by decide +kernel⟩,
    ⟨{ atPhase (.entry 3) with pwr := { (atPhase (.entry 3)).pwr with goal := 2, wake := some (4, 0, 0) } }, 3, by decide +kernel⟩,
    ⟨{ atPhase (.entry 5) with pwr := { (atPhase (.entry 5)).pwr with goal := 2 } }, by decide +kernel⟩,
    ⟨(up.put PWR.offEn 1).put (PWR.lpstat 0) 0, by decide +kernel⟩,
    ⟨{ up.put PWR.offEn 1 with pwr := { up.pwr with wakeAt := some 0 } }, by decide +kernel⟩,
    ⟨{ atPhase (.entry 4) with pwr := { (atPhase (.entry 4)).pwr with goal := 3 } }, by decide +kernel⟩,
    ⟨{ atPhase (.entry 5) with pwr := { (atPhase (.entry 5)).pwr with goal := 3 } }, by decide +kernel⟩,
    ⟨{ atPhase (.entry 5) with pwr := { (atPhase (.entry 5)).pwr with goal := 3, wake := some (4, 0, 0) } }, by decide +kernel⟩⟩

theorem witness_wakeSourcesEndSleepAndDeep :
  (∃ (s : State), s.pwr.phase = .sleep) ∧
  (∃ (s : State), s.pwr.phase = .deep) ∧
  (∃ (s : State), s.pwr.phase = .sleep ∧ s.manager = true) ∧
  (∃ (s : State), s.pwr.phase = .deep ∧ s.manager = true) ∧
  (∃ (s : State), s.pwr.phase = .deep) ∧
  (∃ (s : State), s.pwr.phase = .sleep) ∧
  (∃ (s : State) (sd : Side) (p : Pos) (c : Bool), s.pwr.phase = .sleep ∧ s.pwr.rails.testBit 0 = true ∧ s.laneWakes
    (laneIdx sd p) c = true) ∧
  (∃ (s : State) (sd : Side) (p : Pos) (c : Bool), s.pwr.phase = .deep ∧ s.pwr.rails.testBit 0 = true ∧ s.laneWakes
    (laneIdx sd p) c = true) ∧
  (∃ (s : State) (g : BitVec 4), s.pwr.phase = .sleep ∧ s.writeTakes PWR.ctrl = true ∧ g ≠ 0#4) ∧
  (∃ (s : State) (g : BitVec 4), s.pwr.phase = .deep ∧ s.writeTakes PWR.ctrl = true ∧ g ≠ 0#4) ∧
  (∃ (s : State) (c : Instr), c ∈ [.wakeNLow, .pcieWake, .tempWake, .orbitFrameWake] ∧ (s.pwr.phase = .sleep ∨
    s.pwr.phase = .deep)) ∧
  (∃ (s : State) (sd : Side) (p : Pos) (c : Bool) (g : Port) (n : Nat), s.pwr.rails.testBit 0 = true ∧ s.laneWakes
    (laneIdx sd p) c = true ∧ s.carried (laneIdx sd p / 34) (laneIdx sd p % 34) = some (g.val, n) ∧ s.get
    (PWR.lpstat g) = 2) ∧
  (∃ (s : State) (m : BitVec 4) (g : Port), s.writeTakes PWR.ctrl = true ∧ m.toNat.testBit g = true ∧ s.get
    (PWR.lpstat g) = 2) := by
  exact ⟨⟨atPhase .sleep, by decide +kernel⟩,
    ⟨atPhase .deep, by decide +kernel⟩,
    ⟨(atPhase .sleep).put GLB.strapRole 1, by decide +kernel⟩,
    ⟨(atPhase .deep).put GLB.strapRole 1, by decide +kernel⟩,
    ⟨atPhase .deep, by decide +kernel⟩,
    ⟨atPhase .sleep, by decide +kernel⟩,
    ⟨atPhase .sleep, .B, 33, true, by decide +kernel⟩,
    ⟨atPhase .deep, .A, 0, true, by decide +kernel⟩,
    ⟨atPhase .sleep, 0x8#4, by decide +kernel⟩,
    ⟨atPhase .deep, 0x1#4, by decide +kernel⟩,
    ⟨atPhase .deep, .tempWake, by decide +kernel⟩,
    ⟨(cflUp.put (PWR.lpstat 0) 2), .A, 7, true, 0, 7, by decide +kernel⟩,
    ⟨(cflUp.put (PWR.lpstat 3) 2), 0xA#4, 3, by decide +kernel⟩⟩

theorem witness_lowPowerAgreement :
  (∃ (s : State) (e : Eng) (g : Port) (f : Flit), lpwrGood f = true ∧ lpwrOp f = 0 ∧ s.on (GLB.en g) = true ∧ s.cfl g
    = true ∧ s.pers g ≠ 0 ∧ s.get (PWR.lpstat g) = 0) ∧
  (∃ (s : State) (e : Eng) (g : Port) (f : Flit), lpwrGood f = true ∧ lpwrOp f = 1 ∧ s.on (GLB.en g) = true ∧ s.cfl g
    = true ∧ s.pers g ≠ 0 ∧ s.get (PWR.lpstat g) = 0 ∧ (s.port g).lpReq.testBit (1 - e.idx) = true) ∧
  (∃ (s : State) (e : Eng) (g : Port) (f : Flit), lpwrGood f = true ∧ lpwrOp f = 2 ∧ s.on (GLB.en g) = true ∧ s.cfl g
    = true ∧ s.pers g ≠ 0 ∧ s.get (PWR.lpstat g) = 0 ∧ (s.port g).lpReq.testBit (1 - e.idx) = true) ∧
  (∃ (s : State) (e : Eng) (g : Port) (f : Flit), (lpwrGood f = false ∨ s.on (GLB.en g) = false ∨ s.cfl g = false ∨
    s.pers g = 0 ∨ s.get (PWR.lpstat g) ≠ 0 ∨ lpwrOp f = 3 ∨ (lpwrOp f ≠ 0 ∧ (s.port g).lpReq.testBit (1 - e.idx) =
    false))) ∧
  (∃ (s : State) (g : Port), s.get (PWR.lpstat g) = 1 ∧ (s.lossAll g 0 && s.lossAll g 1) = false) ∧
  (∃ (s : State) (g : Port), s.get (PWR.lpstat g) = 1 ∧ s.lossAll g 0 = true ∧ s.lossAll g 1 = true ∧ (∀ e ∈ [0, 1],
    (s.eng e g).defer = [] ∧ (s.eng e g).queue = [] ∧ (s.eng e g).replay = [])) ∧
  (∃ (s : State) (g : Port), s.get (PWR.lpstat g) = 3 ∧ (s.on (DIR.cwLock 0 g) = true ∨ s.on (DIR.cwLock 1 g) = true ∨
    s.bothUp g = false)) ∧
  (∃ (s : State) (g : Port), s.get (PWR.lpstat g) = 3 ∧ s.on (DIR.cwLock 0 g) = false ∧ s.on (DIR.cwLock 1 g) = false
    ∧ s.bothUp g = true) ∧
  (∃ (s : State) (g : Port), (s.get (PWR.lpstat g) ≠ 1 ∨ (s.lossAll g 0 = true ∧ s.lossAll g 1 = true))) ∧
  (∃ (s : State) (g : Port), (s.get (PWR.lpstat g) ≠ 1 ∨ s.lossAll g 0 = false ∨ s.lossAll g 1 = false ∨ (∃ e ∈ [0,
    1], (s.eng e g).defer ≠ [] ∨ (s.eng e g).queue ≠ [] ∨ (s.eng e g).replay ≠ []))) ∧
  (∃ (s : State) (g : Port), s.get (PWR.lpstat g) ≠ 3) := by
  exact ⟨⟨cflUp, .AB, 0, lpwr 0, by decide +kernel⟩,
    ⟨cflUp.updPort 0 (fun r => { r with lpReq := 2 }), .AB, 0, lpwr 1, by decide +kernel⟩,
    ⟨cflUp.updPort 0 (fun r => { r with lpReq := 3 }), .BA, 0, lpwr 2, by decide +kernel⟩,
    ⟨cflUp, .BA, 0, lpwr 2, by decide +kernel⟩,
    ⟨oneSignal.put (PWR.lpstat 0) 1, 0, by decide +kernel⟩,
    ⟨cflUp.put (PWR.lpstat 0) 1, 0, by decide +kernel⟩,
    ⟨(fUp.put (PWR.lpstat 0) 3).put (DIR.cwLock 1 0) 0, 0, by decide +kernel⟩,
    ⟨((fUp.put (PWR.lpstat 0) 3).put (DIR.cwLock 0 0) 0).put (DIR.cwLock 1 0) 0, 0, by decide +kernel⟩,
    ⟨cflUp, 0, by decide +kernel⟩,
    ⟨oneSignal.put (PWR.lpstat 0) 1, 0, by decide +kernel⟩,
    ⟨cflUp.put (PWR.lpstat 0) 1, 0, by decide +kernel⟩⟩

theorem witness_laneEndsBecomeActive :
  (∃ (s : State) (sd : Side) (p : Pos), s.pwr.phase = .run ∧ s.wantPwr (laneIdx sd p) = 2 ∧ s.rxActive (laneIdx sd p)
    = false ∧ s.startsNext .rx (laneIdx sd p) = true) ∧
  (∃ (s : State) (sd : Side) (p : Pos), s.pwr.phase = .run ∧ s.wantPwr (laneIdx sd p) = 2 ∧ s.txActive (laneIdx sd p)
    = false ∧ s.startsNext .tx (laneIdx sd p) = true) ∧
  (∃ (s : State) (fn : LaneFn) (sd : Side) (p : Pos), s.startsNext fn (laneIdx sd p) = false) ∧
  (∃ (s : State) (sd : Side) (p : Pos), s.wantPwr (laneIdx sd p) = 2 ∧ (s.rxe (laneIdx sd p)).starting = true ∧
    ((s.rxe (laneIdx sd p)).fgDone = false ∨ s.sweepDue (laneIdx sd p) = false) ∧ (s.rxe (laneIdx sd p)).due = false) ∧
  (∃ (s : State) (sd : Side) (p : Pos), s.wantPwr (laneIdx sd p) = 2 ∧ (s.txe (laneIdx sd p)).starting = true ∧
    ((s.txe (laneIdx sd p)).fgDone = false ∨ s.sweepDue (laneIdx sd p) = false) ∧ (s.txe (laneIdx sd p)).dues = []) := by
  exact ⟨⟨cflUp, .A, 0, by decide +kernel⟩,
    ⟨(List.range 8).foldl (fun t p => (((t.put (LRX.pwr p) 2).put (LRX.pwr (34 + p)) 2).put (LTX.pwr p) 2)) cflUp, .B, 0, by decide +kernel⟩,
    ⟨cflUp, .tx, .A, 0, by decide +kernel⟩,
    ⟨cflUp.updRx 0 (fun r => { r with starting := true }), .A, 0, by decide +kernel⟩,
    ⟨cflUp.updTx 0 (fun t => { t with starting := true }), .A, 0, by decide +kernel⟩⟩

theorem witness_voltageAndFrequencyChanges :
  (∃ (s : State) (pt : BitVec 2), s.pwr.phase = .run ∧ s.safe = false ∧ s.pwr.dvfs = .idle ∧ s.get PWR.vid <
    s.vidFor (s.runFloor pt.toNat)) ∧
  (∃ (s : State) (pt : BitVec 2), s.pwr.phase = .run ∧ s.safe = false ∧ s.pwr.dvfs = .idle ∧ s.vidFor (s.runFloor
    pt.toNat) ≤ s.get PWR.vid ∧ (s.vidFor (s.runFloor pt.toNat) ≤ s.pwr.okVid ∨ pt.toNat ≤ s.get PWR.curPt) ∧ (s.get
    PWR.vid ≠ s.vidFor (s.runFloor pt.toNat) ∨ s.get PWR.curPt ≠ pt.toNat)) ∧
  (∃ (s : State) (pt : BitVec 2), s.pwr.phase = .run ∧ s.safe = false ∧ s.pwr.dvfs = .idle ∧ s.pwr.okVid < s.vidFor
    (s.runFloor pt.toNat) ∧ s.get PWR.curPt < pt.toNat) ∧
  (∃ (s : State) (pt : BitVec 2), s.pwr.phase = .run ∧ s.safe = false ∧ s.pwr.dvfs ≠ .idle) ∧
  (∃ (s : State), s.pwr.dvfs = .raising) ∧
  (∃ (s : State), s.pwr.dvfs = .settling ∧ s.pwr.next = false) ∧
  (∃ (s : State), s.pwr.dvfs = .lowering ∧ s.pwr.next = false) ∧
  (∃ (s : State), s.pwr.dvfs = .raising ∧ s.pwr.next = false) := by
  exact ⟨⟨up, 3#2, by decide +kernel⟩,
    ⟨up.put PWR.vid 40, 0#2, by decide +kernel⟩,
    ⟨{ up.put PWR.vid 30 with pwr := { up.pwr with okVid := 20 } }, 3#2, by decide +kernel⟩,
    ⟨inDvfs .raising, 2#2, by decide +kernel⟩,
    ⟨inDvfs .raising, by decide +kernel⟩,
    ⟨inDvfs .settling, by decide +kernel⟩,
    ⟨inDvfs .lowering, by decide +kernel⟩,
    ⟨inDvfs .raising, by decide +kernel⟩⟩

theorem witness_firmwareStartsAndLoads :
  (∃ (s : State) (v : Word), s.core.st = .booting ∧ s.pwr.phase = .run ∧ s.core.loads = []) ∧
  (∃ (s : State) (v : Word), s.core.st = .booting ∧ s.pwr.phase = .run ∧ s.core.loads = [] ∧ s.core.trialRun = true) ∧
  (∃ (s : State), s.core.st = .booting ∧ s.core.trialRun = true ∧ s.on GLB.testMode = false ∧ s.flash.valid.testBit (1
    - s.flash.active) = true) ∧
  (∃ (s : State) (l : FwLoad) (c : ImageCheck), s.core.loads = [l] ∧ l.activate = false ∧ l.image.length = l.length ∧
    c.signature = true ∧ Config.minSecurity ≤ c.security) ∧
  (∃ (s : State) (l : FwLoad) (c : ImageCheck), s.core.loads = [l] ∧ l.activate = false ∧ l.image.length = l.length ∧
    (c.signature = false ∨ c.security < Config.minSecurity)) ∧
  (∃ (s : State) (r : CfgRecord), s.coreReady = true ∧ s.core.cold = true ∧ s.core.record = [] ∧ s.on GLB.strapCfgSkip
    = false ∧ recordFits r = true ∧ recordGood r = false) ∧
  (∃ (s : State) (r : CfgRecord) (e : BitVec 64), s.coreReady = true ∧ s.core.cold = true ∧ s.core.record = [] ∧ s.on
    GLB.strapCfgSkip = false ∧ recordGood r = true ∧ r.entries = [e] ∧ bitsOf e.toNat 24 8 = 0 ∧ bitsOf e.toNat 0 24 %
    4 = 0) ∧
  (∃ (s : State) (r : CfgRecord) (e : BitVec 64), s.coreReady = true ∧ s.core.cold = true ∧ s.core.record = [] ∧ s.on
    GLB.strapCfgSkip = false ∧ recordGood r = true ∧ r.entries = [e] ∧ bitsOf e.toNat 24 8 = 0 ∧ bitsOf e.toNat 0 24 =
    GLB.rstctrl ∧ bitOf (e.toNat / 2 ^ 32) 2 = true ∧ s.writeTakes GLB.rstctrl = true) ∧
  (∃ (s : State) (r : CfgRecord) (e : BitVec 64), s.coreReady = true ∧ s.core.cold = true ∧ s.core.record = [] ∧ s.on
    GLB.strapCfgSkip = false ∧ recordGood r = true ∧ r.entries = [e] ∧ bitsOf e.toNat 24 8 = 1 ∧ BitVec.ofNat 32
    (e.toNat / 2 ^ 32) ≠ 0) ∧
  (∃ (s : State) (e : BitVec 64), s.coreReady = true ∧ s.core.record = [e]) := by
  exact ⟨⟨booting true, 5, by decide +kernel⟩,
    ⟨booting true, 5, by decide +kernel⟩,
    ⟨{ booting true with flash := Flash.of 3 1 true }, by decide +kernel⟩,
    ⟨written, ⟨.nobody, false, 1, [7], 0, 0⟩, ⟨true, Config.minSecurity⟩, by decide +kernel, by decide +kernel, by decide +kernel, rfl, Nat.le_refl _⟩,
    ⟨written, ⟨.nobody, false, 1, [7], 0, 0⟩, ⟨false, 0⟩, by decide +kernel, by decide +kernel, by decide +kernel, .inl rfl⟩,
    ⟨ready, { oneEntry 5 with magic := 0 }, by decide +kernel⟩,
    ⟨ready, oneEntry 0x7000001C8#64, 0x7000001C8#64, by decide +kernel⟩,
    ⟨ready, oneEntry 0x400000204#64, 0x400000204#64, by decide +kernel⟩,
    ⟨ready, oneEntry 0x701000000#64, 0x701000000#64, by decide +kernel⟩,
    ⟨{ ready with core := { ready.core with record := [0] } }, 0, by decide +kernel⟩⟩

theorem witness_managementResetsKeepTheDataPath :
  (∃ (s : State) (mid : Bool), s.supplied = true) ∧
  (∃ (s : State) (mid : Bool), s.writeTakes GLB.rstctrl = true ∧ s.fileUp = true) ∧
  (∃ (s : State) (c : Instr), s.manager = true ∧ s.supplied = true ∧ (c = .pcieHotReset false ∨ c = .perstNAssert)) ∧
  (∃ (s : State), s.manager = true ∧ s.supplied = true) ∧
  (∃ (s : State) (p : OrbPort) (f : Frame) (mid : Bool), s.workerHears p = true ∧ s.toMe p f = true ∧ frameGood f =
    true ∧ s.supplied = true) ∧
  (∃ (s : State) (p : OrbPort) (f : Frame) (mid : Bool), s.workerHears p = true ∧ f.dest = 0xFF ∧ (p = s.outboundIn
    ∨ s.on ORB.addrValid = false) ∧ frameGood f = true ∧ s.supplied = true) ∧
  (∃ (s : State) (b : Bool), s.manager = false) ∧
  (∃ (s : State), s.manager = true ∧ s.fileUp = true) := by
  exact ⟨⟨up, true, by decide +kernel⟩,
    ⟨mgr, false, by decide +kernel⟩,
    ⟨mgr, .perstNAssert, by decide +kernel⟩,
    ⟨running, by decide +kernel⟩,
    ⟨wkr, .U, toFive 0x03 [], true, by decide +kernel⟩,
    ⟨wkr, .U, toAll 0x07 [], false, by decide +kernel⟩,
    ⟨wkr, false, by decide +kernel⟩,
    ⟨running, by decide +kernel⟩⟩

theorem witness_engineAndLaneEndResets :
  (∃ (s : State) (ab ba : Bool), s.writeTakes GLB.rstctrl = true ∧ (ab = true ∨ ba = true)) ∧
  (∃ (s : State) (sd : Side) (p : Pos), s.writeTakes (GLB.lerstReg sd.idx (p / 32)) = true ∧ s.on (GLB.lerst
    (laneIdx sd p / 34) (laneIdx sd p % 34)) = false ∧ s.lerstRefused (laneIdx sd p) = false) ∧
  (∃ (s : State) (sd : Side) (p : Pos), s.writeTakes (GLB.lerstReg sd.idx (p / 32)) = true ∧ s.on (GLB.lerst
    (laneIdx sd p / 34) (laneIdx sd p % 34)) = true ∧ s.lerstRefused (laneIdx sd p) = false) ∧
  (∃ (s : State) (sd : Side) (p : Pos) (c : Instr) (h : Bool), (c, h) ∈ [(.laneEndResetHold sd p, true),
    (.laneEndResetRelease sd p, false)] ∧ s.writeTakes (GLB.lerstReg sd.idx (p / 32)) = true ∧ s.on (GLB.lerst
    (laneIdx sd p / 34) (laneIdx sd p % 34)) = !h ∧ s.lerstRefused (laneIdx sd p) = true) := by
  exact ⟨⟨cflUp, true, false, by decide +kernel⟩,
    ⟨up, .B, 33, by decide +kernel⟩,
    ⟨up.put (GLB.lerst 1 33) 1, .B, 33, by decide +kernel⟩,
    ⟨{ up with isolated := 1 }, .A, 0, .laneEndResetHold .A 0, true, by decide +kernel⟩⟩

theorem witness_squelchCometAndClockRecovery :
  (∃ (s : State) (sd : Side) (p : Pos) (i mv us : Nat), i = laneIdx sd p ∧ s.detectorOn i = true ∧ s.on (LRX.losNow
    i) = false ∧ mv + s.get (LRX.hyst i) < s.squelchAssert i ∧ s.losTime i ≤ us) ∧
  (∃ (s : State) (sd : Side) (p : Pos) (i mv us : Nat), i = laneIdx sd p ∧ s.detectorOn i = true ∧ s.on (LRX.losNow
    i) = true ∧ s.squelchAssert i < mv ∧ 1 ≤ us) ∧
  (∃ (s : State) (sd : Side) (p : Pos) (i : Nat), i = laneIdx sd p ∧ s.detectorOn i = true ∧ s.on (LRX.losNow i) =
    false) ∧
  (∃ (s : State) (sd : Side) (p : Pos) (i mv us : Nat), i = laneIdx sd p ∧ s.detectorOn i = false) ∧
  (∃ (s : State) (sd : Side) (p : Pos) (i mv us : Nat), i = laneIdx sd p ∧ (s.squelchAssert i ≤ mv + s.get (LRX.hyst
    i) ∨ us < s.losTime i)) ∧
  (∃ (s : State) (sd : Side) (p : Pos) (i mv us : Nat), i = laneIdx sd p ∧ (mv ≤ s.squelchAssert i ∨ us = 0)) ∧
  (∃ (s : State) (sd : Side) (p : Pos) (i : Nat) (f : Int), i = laneIdx sd p ∧ s.rxActive i = true ∧ s.on
    (LRX.losNow i) = false ∧ -30000 ≤ f ∧ f ≤ 30000) ∧
  (∃ (s : State) (sd : Side) (p : Pos) (f : Int), (f < -30000 ∨ 30000 < f ∨ s.on (LRX.losNow (laneIdx sd p)) = true
    ∨ s.rxActive (laneIdx sd p) = false)) ∧
  (∃ (s : State) (sd : Side) (p : Pos) (i : Nat) (f : Int), i = laneIdx sd p ∧ s.rxActive i = true ∧ s.on
    (LRX.cdrLock i) = true) := by
  exact ⟨⟨live, .A, 0, 0, 10, 4095, by decide +kernel⟩,
    ⟨act, .A, 0, 0, 200, 1, by decide +kernel⟩,
    ⟨live, .A, 0, 0, by decide +kernel⟩,
    ⟨{ up with pwr := { up.pwr with rails := 0 } }, .A, 0, 0, 10, 4095, by decide +kernel⟩,
    ⟨live, .A, 0, 0, 200, 10, by decide +kernel⟩,
    ⟨act, .A, 0, 0, 10, 1, by decide +kernel⟩,
    ⟨live, .A, 0, 0, -30000, by decide +kernel⟩,
    ⟨live, .A, 0, 30001, by decide +kernel⟩,
    ⟨live, .A, 0, 0, 30005, by decide +kernel⟩⟩

theorem witness_adaptationStarvationAndHistogram :
  (∃ (s : State) (sd : Side) (p : Pos) (u : AdaptUpdate), (s.freeze (laneIdx sd p) ≠ 0 ∨ (s.rxe (laneIdx sd p)).fg =
    true ∨ s.bistHeld.testBit (laneIdx sd p) = true)) ∧
  (∃ (s : State) (sd : Side) (p : Pos) (i : Nat) (n : Fin 32) (g : Int), i = laneIdx sd p ∧ s.freeze i = 0 ∧ (s.rxe
    i).fg = false ∧ s.bistHeld.testBit i = false ∧ s.on (LRX.ffeAdaptEn i) = true) ∧
  (∃ (s : State) (sd : Side) (p : Pos) (i : Nat) (g : Int), i = laneIdx sd p ∧ s.freeze i = 0 ∧ (s.rxe i).fg = false ∧
    s.bistHeld.testBit i = false) ∧
  (∃ (s : State) (sd : Side) (p : Pos) (i : Nat) (v : Int), i = laneIdx sd p ∧ s.freeze i = 0 ∧ (s.rxe i).fg = false ∧
    s.bistHeld.testBit i = false ∧ s.on (LRX.ctleAdapt i) = true) ∧
  (∃ (s : State) (sd : Side) (p : Pos) (i : Nat) (v : Int), i = laneIdx sd p ∧ s.freeze i = 0 ∧ (s.rxe i).fg = false ∧
    s.bistHeld.testBit i = false) ∧
  (∃ (s : State) (sd : Side) (p : Pos) (i : Nat) (m : Fin 64) (v : Int), i = laneIdx sd p ∧ s.freeze i = 0 ∧ (s.rxe
    i).fg = false ∧ s.bistHeld.testBit i = false) ∧
  (∃ (s : State) (sd : Side) (p : Pos) (i : Nat) (n : Fin 32) (v : Word), i = laneIdx sd p ∧ s.writeTakes (LRX.tap i
    n).addr = true ∧ s.on (LRX.adaptFreeze i) = true) ∧
  (∃ (s : State) (sd : Side) (p : Pos) (i : Nat) (v : Word), i = laneIdx sd p ∧ s.writeTakes (LRX.dfe i).addr = true ∧
    s.on (LRX.adaptFreeze i) = true) ∧
  (∃ (s : State) (sd : Side) (p : Pos) (i : Nat) (v : Word), i = laneIdx sd p ∧ s.writeTakes (LRX.afe i) = true ∧ s.on
    (LRX.adaptFreeze i) = true) ∧
  (∃ (s : State) (sd : Side) (p : Pos) (r : CoefReg) (v : Word), s.on (LRX.adaptFreeze (laneIdx sd p)) = false) ∧
  (∃ (s : State) (sd : Side) (p : Pos) (i : Nat), i = laneIdx sd p ∧ (s.rxe i).detPend = true ∧ s.on (LRX.markerLock
    i) = true) ∧
  (∃ (s : State) (sd : Side) (p : Pos) (i m n : Nat), i = laneIdx sd p ∧ s.rxActive i = true ∧ (s.rxe i).windowBad =
    false ∧ s.on (LRX.losNow i) = false ∧ s.on (LRX.cdrLock i) = true ∧ s.on (LRX.detectEn i) = true ∧ (m < 256 ∨ n <
    2 ^ 19) ∧ s.get (LRX.windows i) ≤ (s.rxe i).starved + 1 ∧ s.on (LRX.frzStarved i) = false) ∧
  (∃ (s : State) (sd : Side) (p : Pos) (i : Nat), i = laneIdx sd p ∧ s.rxActive i = true ∧ s.on (GLB.hold (inEngine
    sd.idx)) = true) ∧
  (∃ (s : State) (sd : Side) (p : Pos), (s.rxActive (laneIdx sd p) = false ∨ s.on (GLB.hold (inEngine sd.idx)) =
    false)) ∧
  (∃ (s : State) (sd : Side) (p : Pos) (i : Nat), i = laneIdx sd p ∧ s.writeTakes (LRX.histcfg i) = true) ∧
  (∃ (s : State) (sd : Side) (p : Pos) (i : Nat) (r : HistRun), i = laneIdx sd p ∧ r.bins.length = 128 ∧ s.histEnds i
    r = true ∧ s.on (LRX.src i) = false) ∧
  (∃ (s : State) (sd : Side) (p : Pos) (i : Nat) (r : HistRun), i = laneIdx sd p ∧ r.bins.length = 128 ∧ s.histEnds i
    r = true ∧ s.on (LRX.src i) = true) ∧
  (∃ (s : State) (sd : Side) (p : Pos) (r : HistRun), r.bins.length = 128 ∧ s.histEnds (laneIdx sd p) r = false) ∧
  (∃ (s : State) (sd : Side) (p : Pos) (r : HistRun), r.bins.length ≠ 128) ∧
  (∃ (s : State) (sd : Side) (p : Pos) (a : Addr), a.toNat = LRX.slipCnt (laneIdx sd p) ∧ s.accessStatus a.toNat =
    stOk) := by
  exact ⟨⟨(up.put (LRX.adaptFreeze 0) 1), .A, 0, .dfe 5, by decide +kernel⟩,
    ⟨(live.put (LRX.ffeAdaptEn 0) 1), .A, 0, 0, 5, -3, by decide +kernel⟩,
    ⟨live, .A, 0, 0, 1, by decide +kernel⟩,
    ⟨(live.put (LRX.ctleAdapt 0) 1), .A, 0, 0, 30, by decide +kernel⟩,
    ⟨live, .A, 0, 0, -7, by decide +kernel⟩,
    ⟨live, .A, 0, 0, 63, -7, by decide +kernel⟩,
    ⟨(live.put (LRX.adaptFreeze 0) 1), .A, 0, 0, 31, 0xFFFFF801#32, by decide +kernel⟩,
    ⟨(live.put (LRX.adaptFreeze 0) 1), .A, 0, 0, 0xFFFFFFFF#32, by decide +kernel⟩,
    ⟨(live.put (LRX.adaptFreeze 0) 1), .A, 0, 0, 0xFFFFFFFF#32, by decide +kernel⟩,
    ⟨live, .A, 0, .afe, 5#32, by decide +kernel⟩,
    ⟨live.updRx 0 (fun r => { r with detPend := true }), .A, 0, 0, by decide +kernel⟩,
    ⟨(live.put (LRX.windows 0) 1).put (LRX.detectEn 0) 1, .A, 0, 0, 255, 1000000, by decide +kernel⟩,
    ⟨live.put (GLB.hold 0) 1, .A, 0, 0, by decide +kernel⟩,
    ⟨live, .A, 0, by decide +kernel⟩,
    ⟨live, .A, 0, 0, by decide +kernel⟩,
    ⟨((live.put (LRX.run 0) 1).put (LRX.src 0) 0).put (LRX.samplesLog2 0) 0, .A, 0, 0, ⟨live.histSlot 0, live.get (LRX.decim 0), 65536#32 :: List.replicate 127 0#32⟩, by decide +kernel⟩,
    ⟨((live.put (LRX.run 0) 1).put (LRX.src 0) 1).put (LRX.samplesLog2 0) 0, .A, 0, 0, ⟨live.histSlot 0, live.get (LRX.decim 0), List.replicate 128 512#32⟩, by decide +kernel⟩,
    ⟨live, .A, 0, ⟨0, 0, List.replicate 128 7#32⟩, by decide +kernel⟩,
    ⟨live, .A, 0, ⟨0, 0, []⟩, by decide +kernel⟩,
    ⟨live, .A, 0, 0x100090, by decide +kernel⟩⟩

theorem witness_transmitterSettings :
  (∃ (s : State) (sd : Side) (p : Pos) (i : Nat), i = laneIdx sd p ∧ s.writeTakes (LTX.ctrl i) = true ∧ s.txTraining
    i = false ∧ tapSum (s.stagedTaps i) ≤ 64) ∧
  (∃ (s : State) (sd : Side) (p : Pos) (i : Nat), i = laneIdx sd p ∧ s.writeTakes (LTX.ctrl i) = true ∧
    (s.txTraining i = true ∨ 64 < tapSum (s.stagedTaps i))) ∧
  (∃ (s : State) (sd : Side) (p : Pos) (i : Nat) (taps : List Int) (amp : Nat), i = laneIdx sd p ∧ (s.txe
    i).commitSet = some (taps, amp) ∧ s.txTraining i = false ∧ taps.length = 5 ∧ (∀ x ∈ taps, -64 ≤ x ∧ x ≤ 63) ∧
    tapSum taps ≤ 64 ∧ amp < 256) ∧
  (∃ (s : State) (sd : Side) (p : Pos) (i : Nat), i = laneIdx sd p ∧ (s.txe i).commitSet ≠ none ∧ s.on (LTX.commit
    i) = true ∧ s.txTraining i = true) ∧
  (∃ (s : State) (sd : Side) (p : Pos) (i : Nat), i = laneIdx sd p ∧ (s.txe i).commitSet = none) ∧
  (∃ (s : State) (sd : Side) (p : Pos) (i n r : Nat), i = laneIdx sd p ∧ n < 271 ∧ (s.txe i).cellPend = [n] ∧ (s.txe
    i).pass = none ∧ s.get (LTX.cell i n) = 0 ∧ (s.cellPool i).head? = some r) ∧
  (∃ (s : State) (sd : Side) (p : Pos) (i n : Nat), i = laneIdx sd p ∧ n < 271 ∧ (s.txe i).cellPend = [n] ∧ (s.txe
    i).pass = none ∧ s.get (LTX.cell i n) = 0 ∧ s.cellPool i = []) ∧
  (∃ (s : State) (sd : Side) (p : Pos) (i : Nat) (neg : Bool), i = laneIdx sd p ∧ s.txActive i = true ∧ s.rotOffset
    i = (if neg then -20000 else 20000)) ∧
  (∃ (s : State) (sd : Side) (p : Pos) (i : Nat), i = laneIdx sd p ∧ s.txActive i = true ∧ s.rotStatic i = false) ∧
  (∃ (s : State) (sd : Side) (p : Pos), s.rotStatic (laneIdx sd p) = true) := by
  exact ⟨⟨live, .A, 0, 0, by decide +kernel⟩,
    ⟨(live.put (LTX.stagedTap 0 0) 60).put (LTX.stagedTap 0 1) 5, .A, 0, 0, by decide +kernel⟩,
    ⟨live.updTx 0 (fun x => { x with commitSet := some ([-1, 2, -30, 0, 4], 250) }), .A, 0, 0, [-1, 2, -30, 0, 4], 250, by decide +kernel⟩,
    ⟨((live.updTx 0 (fun x => { x with commitSet := some ([-1, 2, -30, 0, 4], 250) })).put (LTX.commit 0) 1).put (GLB.tsState 0 0 0) 3, .A, 0, 0, by decide +kernel⟩,
    ⟨live, .A, 0, 0, by decide +kernel⟩,
    ⟨live.updTx 0 (fun x => { x with cellPend := [5] }), .A, 0, 0, 5, 255, by decide +kernel⟩,
    ⟨(List.range 16).foldl (fun (s : State) k => s.put (LTX.cell 0 (255 + k)) 2) (live.updTx 0 (fun x => { x with cellPend := [5] })), .A, 0, 0, 5, by decide +kernel⟩,
    ⟨live.updRx 34 (fun r => { r with freq := 25000 }), .A, 0, 0, false, by decide +kernel⟩,
    ⟨live, .A, 0, 0, by decide +kernel⟩,
    ⟨up, .B, 33, by decide +kernel⟩⟩

theorem witness_transmitClockSources :
  (∃ (s : State) (e : Eng) (k : Nat), s.on (GLB.mode e.idx) = false ∧ s.on (GLB.hold e.idx) = true ∧ (s.healthy e.idx
    (s.get (GLB.cur e.idx)) = false ∨ (s.pll e.idx).warned = true) ∧ s.firstHealthy e.idx = some k) ∧
  (∃ (s : State) (e : Eng), s.on (GLB.mode e.idx) = false ∧ s.on (GLB.hold e.idx) = true ∧ s.firstHealthy e.idx =
    none) ∧
  (∃ (s : State) (e : Eng) (i : Nat), s.on (GLB.mode e.idx) = false ∧ (s.pll e.idx).warned = false ∧ s.timingLane
    e.idx (s.get (GLB.cur e.idx)) = some i ∧ s.healthy e.idx (s.get (GLB.cur e.idx)) = true) ∧
  (∃ (s : State) (e : Eng) (k i : Nat), s.on (GLB.mode e.idx) = false ∧ (s.pll e.idx).warned = true ∧ s.firstHealthy
    e.idx = some k ∧ s.timingLane e.idx k = some i) ∧
  (∃ (s : State) (e : Eng), s.on (GLB.mode e.idx) = true ∧ s.on GLB.refclkOk = true) ∧
  (∃ (s : State) (e : Eng) (k : Fin 8), s.on (GLB.revert e.idx) = true ∧ s.on (GLB.mode e.idx) = false ∧ k.val < s.get
    (GLB.cur e.idx) ∧ s.healthy e.idx k.val = true) ∧
  (∃ (s : State) (e : Eng) (half : Fin 2) (v : Word), s.writeTakes (GLB.tlist e.idx half) = true ∧ (s.on (GLB.mode
    e.idx) = true ∨ s.timingLane e.idx (s.get (GLB.cur e.idx)) = none ∨ (s.setReg (GLB.tlist e.idx half) (v &&&
    0xBFBFBFBF#32)).timingLane e.idx (s.get (GLB.cur e.idx)) = s.timingLane e.idx (s.get (GLB.cur e.idx)))) ∧
  (∃ (s : State) (e : Eng) (half : Fin 2) (v : Word) (i : Nat), s.writeTakes (GLB.tlist e.idx half) = true ∧ s.on
    (GLB.mode e.idx) = false ∧ s.timingLane e.idx (s.get (GLB.cur e.idx)) = some i ∧ (s.setReg (GLB.tlist e.idx half)
    (v &&& 0xBFBFBFBF#32)).timingLane e.idx (s.get (GLB.cur e.idx)) ≠ some i) ∧
  (∃ (s : State) (e : Eng) (m : Bool), s.writeTakes GLB.timing = true ∧ s.anyBusy = false) ∧
  (∃ (s : State) (e : Eng) (m : Bool), s.writeTakes GLB.timing = true ∧ s.anyBusy = true ∧ s.on (GLB.mode e.idx) = !m) ∧
  (∃ (s : State), s.on GLB.refclkOk = true) ∧
  (∃ (s : State), s.on GLB.refclkOk = false ∧ s.refclkSought = true) ∧
  (∃ (s : State) (e : Eng) (g : Port), s.on (GLB.mode e.idx) = true ∧ s.pers g = 2 ∧ s.on (GLB.en g) = true) := by
  exact ⟨⟨holding, .AB, 1, by decide +kernel⟩,
    ⟨up.put (GLB.hold 1) 1, .BA, by decide +kernel⟩,
    ⟨holding.put (GLB.cur 0) 1, .AB, 0, by decide +kernel⟩,
    ⟨holding.updPll 0 (fun p => { p with warned := true }), .AB, 1, 0, by decide +kernel⟩,
    ⟨(up.put (GLB.mode 1) 1).put GLB.refclkOk 1, .BA, by decide +kernel⟩,
    ⟨((live.setReg (GLB.tlist 0 0) 0x00008000#32).put (GLB.cur 0) 3).put (GLB.revert 0) 1, .AB, 1, by decide +kernel⟩,
    ⟨up.setReg (GLB.tlist 1 0) 0, .BA, 1, 0xFFFFFFFF#32, by decide +kernel⟩,
    ⟨holding.put (GLB.cur 0) 1, .AB, 0, 0#32, 0, by decide +kernel⟩,
    ⟨up, .BA, true, by decide +kernel⟩,
    ⟨cflUp.put (GLB.tsState 0 0 0) 6, .BA, true, by decide +kernel⟩,
    ⟨(up.put GLB.refclkOk 1), by decide +kernel⟩,
    ⟨(up.put GLB.refclkOk 0).put ⟨GLB.event, 3, 1⟩ 1, by decide +kernel⟩,
    ⟨cflUp.put (GLB.mode 0) 1, .AB, 0, by decide +kernel⟩⟩

theorem witness_portGroupSetup :
  (∃ (s : State) (g : Port), s.writeTakes GLB.pgen = true ∧ s.on (GLB.en g) = false ∧ s.enableOk g = true) ∧
  (∃ (s : State) (g : Port), s.writeTakes GLB.pgen = true ∧ s.on (GLB.en g) = false ∧ s.enableOk g = false) ∧
  (∃ (s : State) (g : Port), s.writeTakes GLB.pgen = true ∧ s.on (GLB.en g) = true) ∧
  (∃ (s : State) (g : Port) (v : Word), s.writeTakes (GLB.pgcfg g) = true ∧ s.on (GLB.en g) = false) ∧
  (∃ (s : State) (g : Port) (v : Word), s.writeTakes (GLB.pgcfg g) = true ∧ s.on (GLB.en g) = true) ∧
  (∃ (s : State) (e : Eng) (v : Word), s.writeTakes (DIR.rplcfg e.idx) = true ∧ banksSum v.toNat ≤ 8 ∧ defqSum
    v.toNat ≤ 4 ∧ s.rplcfgBusy e.idx v.toNat = false) ∧
  (∃ (s : State) (e : Eng) (v : Word), s.writeTakes (DIR.rplcfg e.idx) = true ∧ (8 < banksSum v.toNat ∨ 4 < defqSum
    v.toNat ∨ s.rplcfgBusy e.idx v.toNat = true)) ∧
  (∃ (s : State) (g : Port) (sd : Side) (v : Word), s.writeTakes (GLB.lmap g sd.idx) = true ∧ (∀ k ∈ s.portKeys g,
    s.segState g sd.idx k = 0)) ∧
  (∃ (s : State) (g : Port) (sd : Side) (v : Word) (k : Nat), s.writeTakes (GLB.lmap g sd.idx) = true ∧ k ∈
    s.portKeys g ∧ s.segState g sd.idx k ≠ 0) := by
  exact ⟨⟨up, 1, by decide +kernel⟩,
    ⟨up.put (GLB.pers 1) 3, 1, by decide +kernel⟩,
    ⟨cflUp.put (GLB.tsState 0 1 0) 6, 0, by decide +kernel⟩,
    ⟨up, 3, 0xFFFFFFFF#32, by decide +kernel⟩,
    ⟨cflUp, 0, 5#32, by decide +kernel⟩,
    ⟨up, .AB, 0x8000008#32, by decide +kernel⟩,
    ⟨up, .BA, 0x09#32, by decide +kernel⟩,
    ⟨up, 2, .B, 0x89ABCDEF#32, by decide +kernel⟩,
    ⟨up.put (GLB.tsState 2 1 0) 8, 2, .B, 0#32, 0, by decide +kernel⟩⟩

theorem witness_segmentTraining :
  (∃ (s : State) (g : Port) (k : LaneN) (sd : Side) (p : Pos) (o : TrainObs) (i : Nat), i = laneIdx sd p ∧ s.rxActive
    i = true ∧ s.on (LRX.cdrLock i) = true ∧ (s.rxe i).fg = false ∧ s.bistHeld.testBit i = false ∧ s.ltRunning i =
    false ∧ k.val ∈ s.portKeys g ∧ p.val ∈ s.positions g sd.idx k ∧ s.on (GLB.en g) = true ∧ (s.cfl g && linkLaneTrain
    o.link) = false ∧ ((s.segState g sd.idx k = 2 ∧ s.noTrain g sd.idx k = false) ∨ s.segState g sd.idx k = 3)) ∧
  (∃ (s : State) (g : Port) (k : LaneN) (sd : Side) (p : Pos) (o : TrainObs) (i : Nat), i = laneIdx sd p ∧ s.rxActive
    i = true ∧ s.on (LRX.cdrLock i) = true ∧ (s.rxe i).fg = false ∧ s.bistHeld.testBit i = false ∧ s.ltRunning i =
    false ∧ k.val ∈ s.portKeys g ∧ p.val ∈ s.positions g sd.idx k ∧ s.on (GLB.en g) = true ∧ (s.cfl g && linkLaneTrain
    o.link) = false ∧ s.segState g sd.idx k = 4) ∧
  (∃ (s : State) (g : Port) (k : LaneN) (sd : Side) (p : Pos) (o : TrainObs) (i : Nat), i = laneIdx sd p ∧ s.rxActive
    i = true ∧ s.on (LRX.cdrLock i) = true ∧ (s.rxe i).fg = false ∧ s.bistHeld.testBit i = false ∧ s.ltRunning i =
    false ∧ k.val ∈ s.portKeys g ∧ p.val ∈ s.positions g sd.idx k ∧ s.on (GLB.en g) = true ∧ (s.cfl g && linkLaneTrain
    o.link) = false ∧ s.segState g sd.idx k = 5 ∧ (if s.cfl g then linkRxReady o.link else o.farReady) = true) ∧
  (∃ (s : State) (g : Port) (k : LaneN) (sd : Side) (p : Pos) (o : TrainObs) (i : Nat), i = laneIdx sd p ∧ s.rxActive
    i = true ∧ s.on (LRX.cdrLock i) = true ∧ (s.rxe i).fg = false ∧ s.bistHeld.testBit i = false ∧ s.ltRunning i =
    false ∧ k.val ∈ s.portKeys g ∧ p.val ∈ s.positions g sd.idx k ∧ s.on (GLB.en g) = true ∧ (s.cfl g && linkLaneTrain
    o.link) = false ∧ s.segState g sd.idx k = 6) ∧
  (∃ (s : State) (g : Port) (k : LaneN) (sd : Side) (p : Pos) (o : TrainObs), (s.rxActive (laneIdx sd p) = false ∨
    s.on (LRX.cdrLock (laneIdx sd p)) = false ∨ (s.rxe (laneIdx sd p)).fg = true ∨ s.bistHeld.testBit (laneIdx sd p) =
    true)) ∧
  (∃ (s : State) (g : Port) (sd : Side), s.cfl g = true ∧ s.segState g sd.idx 0 = 2 ∧ 2 + (s.unlocked g sd.idx).length
    ≤ (s.lanes g sd.idx 0).length) ∧
  (∃ (s : State) (g : Port) (k : LaneN) (sd : Side), s.segState g sd.idx k = 3 ∧ (s.cfl g = false ∨ (s.readyLanes g
    sd.idx k).length < 2)) ∧
  (∃ (s : State) (g : Port) (k : LaneN) (sd : Side), s.segState g sd.idx k = 3 ∧ s.cfl g = true ∧ 2 ≤ (s.readyLanes g
    sd.idx k).length) ∧
  (∃ (s : State) (g : Port) (sd : Side), s.segState g sd.idx 0 = 4) ∧
  (∃ (s : State) (g : Port) (k : LaneN) (sd : Side), s.segState g sd.idx k = 7 ∧ s.relayMode g = false) ∧
  (∃ (s : State) (g : Port) (k : LaneN) (sd : Side), s.segState g sd.idx k = 7 ∧ s.relayMode g = true) ∧
  (∃ (s : State) (g : Port) (k : LaneN) (sd : Side), s.segState g sd.idx k = 6 ∧ s.pers g ≠ 0 ∧ s.cwOf g sd.idx k =
    false ∧ s.cwEverOf g sd.idx k = false ∧ s.get (PWR.lpstat g) = 0) ∧
  (∃ (s : State) (g : Port) (k : LaneN) (sd : Side) (page : BitVec 48) (base last : Bool), s.relaying g sd.idx k =
    true ∧ k.val ∈ s.portKeys g ∧ s.segState g sd.idx k = 1) := by
  exact ⟨⟨live.put (GLB.tsState 0 0 0) 2, 0, 0, .A, 0, ⟨true, true, true, 0, 5⟩, 0, by decide +kernel⟩,
    ⟨live.put (GLB.tsState 0 0 0) 4, 0, 0, .A, 0, ⟨true, true, true, 0x1800#64, 700⟩, 0, by decide +kernel⟩,
    ⟨live.put (GLB.tsState 0 0 0) 5, 0, 0, .A, 0, ⟨true, true, true, 0x80000#64, 5⟩, 0, by decide +kernel⟩,
    ⟨live.put (GLB.tsState 0 0 0) 6, 0, 0, .A, 0, ⟨true, true, true, 0, 5⟩, 0, by decide +kernel⟩,
    ⟨act, 0, 0, .A, 0, ⟨true, true, true, 0, 5⟩, by decide +kernel⟩,
    ⟨(cflUp.put (GLB.tsState 0 0 0) 2).updSeg 0 0 0 (fun x => { x with locked := 3 }), 0, .A, by decide +kernel⟩,
    ⟨cflUp.put (GLB.tsState 0 0 0) 3, 0, 0, .A, by decide +kernel⟩,
    ⟨(cflUp.put (GLB.tsState 0 0 0) 3).updSeg 0 0 0 (fun x => { x with ready := 7, farReady := 7 }), 0, 0, .A, by decide +kernel⟩,
    ⟨cflUp.put (GLB.tsState 0 1 0) 4, 0, .B, by decide +kernel⟩,
    ⟨cflUp.put (GLB.tsState 0 1 0) 7, 0, 0, .B, by decide +kernel⟩,
    ⟨(relay.put (GLB.tsState 1 0 0) 7), 1, 0, .A, by decide +kernel⟩,
    ⟨(cflUp.put (GLB.pers 0) 2).put (GLB.tsState 0 0 0) 6, 0, 0, .A, by decide +kernel⟩,
    ⟨relay.startAn 1 0 0 false, 1, 0, .A, 0xFFFFFFFFFFFF#48, true, true, by decide +kernel⟩⟩

theorem witness_segmentLossAndCoefficients :
  (∃ (s : State) (g : Port), s.writeTakes (GLB.trnCtrl g) = true ∧ s.scanRunning = false ∧ s.cfl g = true ∧ s.segState
    g 0 0 = 8) ∧
  (∃ (s : State) (g : Port), s.writeTakes (GLB.trnCtrl g) = true ∧ s.scanRunning = false ∧ s.cfl g = true ∧ s.segState
    g 1 0 = 8) ∧
  (∃ (s : State) (g : Port) (a b : Bool), s.writeTakes (GLB.trnCtrl g) = true ∧ s.scanRunning = false ∧ s.cfl g = true
    ∧ s.segState g 0 0 ≠ 8 ∧ s.segState g 1 0 ≠ 8) ∧
  (∃ (s : State) (g : Port), s.writeTakes (GLB.trnCtrl g) = true ∧ s.scanRunning = true) ∧
  (∃ (s : State) (g : Port) (k : LaneN) (sd : Side), s.positions g sd.idx k ≠ [] ∧ (∀ p ∈ s.positions g sd.idx k, s.on
    (LRX.losNow (34 * sd.idx + p)) = true) ∧ s.inLowPower g = false ∧ s.segState g sd.idx k = 6) ∧
  (∃ (s : State) (g : Port) (k : LaneN) (sd : Side) (p : Nat), s.cfl g = false ∧ p ∈ s.positions g sd.idx k ∧ (s.on
    (LRX.losNow (34 * sd.idx + p)) = true ∨ s.on (LRX.cdrLock (34 * sd.idx + p)) = false) ∧ s.segState g sd.idx k = 6) ∧
  (∃ (s : State) (g : Port) (k : LaneN) (sd : Side), s.pers g ≠ 0 ∧ s.cwOf g sd.idx k = false ∧ s.cwEverOf g sd.idx k
    = true ∧ s.inLowPower g = false ∧ s.segState g sd.idx k = 6) ∧
  (∃ (s : State) (g : Port) (k : LaneN) (sd : Side), s.pers g = 0 ∧ (∀ p ∈ s.positions g sd.idx k, s.on
    (LRX.markerLock (34 * sd.idx + p)) = false) ∧ s.inLowPower g = false ∧ s.segState g sd.idx k = 6) ∧
  (∃ (s : State) (sd : Side) (p : Pos) (i : Nat), i = laneIdx sd p ∧ s.tapsOpen i = true) ∧
  (∃ (s : State) (sd : Side) (p : Pos) (i g cond : Nat), i = laneIdx sd p ∧ s.tapsOpen i = true ∧ cond < 8 ∧
    s.trainGroup i = g) ∧
  (∃ (s : State) (sd : Side) (p : Pos) (i : Nat) (k : Fin 6), i = laneIdx sd p ∧ s.tapsOpen i = true ∧ (k.val < 4 ∨
    (k.val = 4 ∧ s.addressesC2 i = true)) ∧ (s.txe i).taps.length = 5 ∧ -64 ≤ (s.txe i).taps.getD k 0 ∧ (s.txe
    i).taps.getD k 0 < 63 ∧ tapSum (setNth (s.txe i).taps k ((s.txe i).taps.getD k 0 + 1)) ≤ 64) ∧
  (∃ (s : State) (sd : Side) (p : Pos) (i : Nat) (k : Fin 6), i = laneIdx sd p ∧ s.tapsOpen i = true ∧ (k.val < 4 ∨
    (k.val = 4 ∧ s.addressesC2 i = true)) ∧ (s.txe i).taps.length = 5 ∧ -64 < (s.txe i).taps.getD k 0 ∧ (s.txe
    i).taps.getD k 0 ≤ 63 ∧ tapSum (setNth (s.txe i).taps k ((s.txe i).taps.getD k 0 - 1)) ≤ 64) ∧
  (∃ (s : State) (sd : Side) (p : Pos) (i : Nat) (k : Fin 6), i = laneIdx sd p ∧ s.tapsOpen i = true ∧ (k.val = 5 ∨
    (k.val = 4 ∧ s.addressesC2 i = false) ∨ (s.txe i).taps.getD k 0 ≤ -64 ∨ 64 < tapSum (setNth (s.txe i).taps k
    ((s.txe i).taps.getD k 0 - 1)))) ∧
  (∃ (s : State) (sd : Side) (p : Pos) (i : Nat) (k : Fin 6), i = laneIdx sd p ∧ s.tapsOpen i = true ∧ (k.val = 5 ∨
    (k.val = 4 ∧ s.addressesC2 i = false) ∨ 63 ≤ (s.txe i).taps.getD k 0 ∨ 64 < tapSum (setNth (s.txe i).taps k
    ((s.txe i).taps.getD k 0 + 1)))) ∧
  (∃ (s : State) (sd : Side) (p : Pos) (r : CoefReq), coefReqOk r = true ∧ s.tapsOpen (laneIdx sd p) = false) ∧
  (∃ (s : State) (sd : Side) (p : Pos) (i : Nat) (q : Req) (bins : List Word), i = laneIdx sd p ∧ s.requesting i =
    true ∧ bins.length = 128 ∧ binTotal bins = 65536 ∧ (s.rxe i).req = some q ∧ q.step ≠ 0 ∧ q.rev = false ∧ 10 *
    q.best + 16 ≤ 10 * s.snrMean bins) ∧
  (∃ (s : State) (sd : Side) (p : Pos) (i : Nat) (q : Req) (bins : List Word), i = laneIdx sd p ∧ s.requesting i =
    true ∧ bins.length = 128 ∧ binTotal bins = 65536 ∧ (s.rxe i).req = some q ∧ q.step ≠ 0 ∧ q.rev = false ∧ 10 *
    s.snrMean bins < 10 * q.best + 16) := by
  exact ⟨⟨cflUp.put (GLB.tsState 0 0 0) 8, 0, by decide +kernel⟩,
    ⟨cflUp.put (GLB.tsState 0 1 0) 8, 0, by decide +kernel⟩,
    ⟨cflUp, 0, true, true, by decide +kernel⟩,
    ⟨scanning, 0, by decide +kernel⟩,
    ⟨cflUp.put (GLB.tsState 0 0 0) 6, 0, 0, .A, by decide +kernel⟩,
    ⟨relay.put (GLB.tsState 1 0 0) 6, 1, 0, .A, 8, by decide +kernel⟩,
    ⟨(cflUp.put (GLB.tsState 0 0 0) 6).updEng 0 0 (fun x => { x with cwEver := true }), 0, 0, .A, by decide +kernel⟩,
    ⟨(cflUp.put (GLB.pers 0) 0).put (GLB.tsState 0 0 0) 6, 0, 0, .A, by decide +kernel⟩,
    ⟨live.put (GLB.tsState 0 0 0) 3, .A, 0, 0, by decide +kernel⟩,
    ⟨live.put (GLB.tsState 0 0 0) 3, .A, 0, 0, 0, 7, by decide +kernel⟩,
    ⟨(live.put (GLB.tsState 0 0 0) 3).updTx 0 (fun x => { x with taps := [0, 0, 0, 0, 0] }), .A, 0, 0, 4, by decide +kernel⟩,
    ⟨(live.put (GLB.tsState 0 0 0) 3).updTx 0 (fun x => { x with taps := [0, 63, 0, 0, 0] }), .A, 0, 0, 1, by decide +kernel⟩,
    ⟨(live.put (GLB.tsState 0 0 0) 3).updTx 0 (fun x => { x with taps := [-64, 0, 0, 0, 0] }), .A, 0, 0, 0, by decide +kernel⟩,
    ⟨(live.put (GLB.tsState 0 0 0) 3).updTx 0 (fun x => { x with taps := [1, 63, 0, 0, 0] }), .A, 0, 0, 3, by decide +kernel⟩,
    ⟨up, .A, 0, .initial 7, by decide +kernel⟩,
    ⟨(live.put (GLB.tsState 0 0 0) 3).updRx 0 (fun r => { r with req := some ⟨1, true, false, 74⟩ }), .A, 0, 0, ⟨1, true, false, 74⟩, List.replicate 128 512#32, by decide +kernel⟩,
    ⟨(live.put (GLB.tsState 0 0 0) 3).updRx 0 (fun r => { r with req := some ⟨1, true, false, 75⟩ }), .A, 0, 0, ⟨1, true, false, 75⟩, List.replicate 128 512#32, by decide +kernel⟩⟩

theorem witness_laneTrainingAndShadowCopy :
  (∃ (s : State) (g : Port) (k : LaneN) (sd : Side) (p : Pos) (o : TrainObs) (i : Nat) (x : LaneTrain), i = laneIdx sd
    p ∧ s.lt i = some x ∧ x.stage = .training ∧ s.rxActive i = true ∧ s.on (LRX.cdrLock i) = true ∧ (s.rxe i).fg =
    false ∧ s.bistHeld.testBit i = false ∧ (o.inverted != decide ((s.rxe i).pol = 1)) = false ∧ linkLaneTrain o.link =
    true) ∧
  (∃ (s : State) (sd : Side) (p : Pos) (i : Nat) (x : LaneTrain) (w : BitVec 64), i = laneIdx sd p ∧ s.lt i = some x ∧
    x.stage = .training ∧ x.ready = true ∧ x.far = true ∧ x.link = some w ∧ linkRate w = s.get (GLB.rate x.g) ∧
    linkSlack w ≤ 4 ∧ linkSlack w = s.get (GLB.tsSlack x.g sd.idx 0) ∧ linkLane w = x.lane) ∧
  (∃ (s : State) (sd : Side) (p : Pos) (x : LaneTrain), s.lt (laneIdx sd p) = some x ∧ (x.ready = false ∨ x.far =
    false ∨ x.link = none)) ∧
  (∃ (s : State) (sd : Side) (p : Pos) (i : Nat) (x : LaneTrain), i = laneIdx sd p ∧ s.lt i = some x ∧ x.stage =
    .trained) ∧
  (∃ (s : State) (sd : Side) (p : Pos) (i : Nat) (x : LaneTrain), i = laneIdx sd p ∧ s.lt i = some x ∧ x.stage =
    .training ∧ (∀ j ∈ (s.port x.g).jobs, busyMaint j = false ∧ returning j = false)) ∧
  (∃ (s : State) (sd : Side) (p : Pos) (c : Instr), s.lt (laneIdx sd p) = none ∧ c ∈ [.laneTrainingDone sd p,
    .shadowCopyStart sd p, .laneTrainingTimeout sd p]) := by
  exact ⟨⟨live.setLt 0 (some ⟨0, 3, .training, true, false, none, false, false⟩), 0, 0, .A, 0, ⟨false, true, true, 0x90000#64, 5⟩, 0, ⟨0, 3, .training, true, false, none, false, false⟩, by decide +kernel⟩,
    ⟨(live.put (GLB.rate 0) 0).setLt 1 (some ⟨0, 3, .training, true, true, some 0x300#64, false, false⟩), .A, 1, 1, ⟨0, 3, .training, true, true, some 0x300#64, false, false⟩, 0x300#64, by decide +kernel⟩,
    ⟨live.setLt 1 (some ⟨0, 3, .training, true, false, some 0, false, false⟩), .A, 1, ⟨0, 3, .training, true, false, some 0, false, false⟩, by decide +kernel⟩,
    ⟨live.setLt 67 (some ⟨1, 3, .trained, true, true, none, false, false⟩), .B, 33, 67, ⟨1, 3, .trained, true, true, none, false, false⟩, by decide +kernel⟩,
    ⟨live.setLt 66 (some ⟨1, 3, .training, false, false, none, false, false⟩), .B, 32, 66, ⟨1, 3, .training, false, false, none, false, false⟩, by decide +kernel⟩,
    ⟨live, .B, 32, .shadowCopyStart .B 32, by decide +kernel⟩⟩

theorem witness_markersAndCodewords :
  (∃ (s : State) (sd : Side) (p : Pos) (i : Nat) (m : MarkerObs), i = laneIdx sd p ∧ s.rxActive i = true ∧ s.on
    (LRX.cdrLock i) = true ∧ s.cflEnd i = true ∧ (markerNext (s.rxe i).mark (s.rxe i).good (s.rxe i).miss (goodMarker
    m) m.expected).1 ≠ .lock) ∧
  (∃ (s : State) (sd : Side) (p : Pos) (i g n : Nat) (m : MarkerObs), i = laneIdx sd p ∧ s.rxActive i = true ∧ s.on
    (LRX.cdrLock i) = true ∧ s.cflEnd i = true ∧ goodMarker m = true ∧ m.expected = true ∧ ((s.rxe i).mark = .lock ∨
    ((s.rxe i).mark = .confirm ∧ (s.rxe i).good = 2)) ∧ s.carried sd.idx p = some (g, n)) ∧
  (∃ (s : State) (sd : Side) (p : Pos) (i n : Nat) (g : Port) (m : MarkerObs), i = laneIdx sd p ∧ s.rxActive i = true
    ∧ s.on (LRX.cdrLock i) = true ∧ s.cflEnd i = true ∧ goodMarker m = true ∧ m.expected = true ∧ (s.rxe i).mark =
    .lock ∧ s.carried sd.idx p = some (g.val, n) ∧ s.pers g ≠ 0 ∧ (s.port g).change = none ∧ (s.seg g sd.idx 0).agreed
    = [] ∧ s.on (DIR.cwLock (inEngine sd.idx) g) = false) ∧
  (∃ (s : State) (g : Port) (sd : Side), s.get (PWR.lpstat g) = 3 ∧ s.cfl g = true ∧ s.pers g ≠ 0 ∧ s.segState g
    sd.idx 0 = 6 ∧ s.on (DIR.cwLock (inEngine sd.idx) g) = false ∧ (s.lockedEnds g sd.idx).length = (s.rxEnds g
    sd.idx).length ∧ s.infosAgree g sd.idx = true) ∧
  (∃ (s : State) (sd : Side) (p : Pos) (i : Nat) (m : MarkerObs), i = laneIdx sd p ∧ s.rxActive i = true ∧ s.on
    (LRX.cdrLock i) = true ∧ s.cflEnd i = true ∧ goodMarker m = true ∧ m.expected = true ∧ ((s.rxe i).mark = .lock ∨
    ((s.rxe i).mark = .confirm ∧ (s.rxe i).good = 2)) ∧ s.carried sd.idx p = none) ∧
  (∃ (s : State) (sd : Side) (p : Pos) (i : Nat) (m : MarkerObs), i = laneIdx sd p ∧ s.rxActive i = true ∧ s.on
    (LRX.cdrLock i) = true ∧ s.cflEnd i = true ∧ (s.rxe i).mark = .lock ∧ (goodMarker m = false ∨ m.expected = false)
    ∧ (m.expected = true → (s.rxe i).miss ≠ 3)) ∧
  (∃ (s : State) (sd : Side) (p : Pos) (m : MarkerObs), (s.rxActive (laneIdx sd p) = false ∨ s.on (LRX.cdrLock
    (laneIdx sd p)) = false ∨ s.cflEnd (laneIdx sd p) = false)) ∧
  (∃ (s : State) (g : Port) (k : LaneN) (sd : Side) (p : Pos) (locked codeword : Bool) (skew i : Nat), i = laneIdx sd
    p ∧ s.cfl g = false ∧ p.val ∈ s.positions g sd.idx k ∧ s.rxActive i = true ∧ s.on (LRX.cdrLock i) = true ∧ (s.seg
    g sd.idx k).cw = false) ∧
  (∃ (s : State) (g : Port) (k : LaneN) (sd : Side) (p : Pos) (locked codeword : Bool) (skew i : Nat), i = laneIdx sd
    p ∧ s.cfl g = false ∧ p.val ∈ s.positions g sd.idx k ∧ s.rxActive i = true ∧ s.on (LRX.cdrLock i) = true ∧ (s.seg
    g sd.idx k).cw = true ∧ (codeword = false ∨ 40 < skew)) ∧
  (∃ (s : State) (e : Eng) (g : Port) (k : LaneN) (msg : BitVec 5140), s.pers g ≠ 0 ∧ k.val ∈ s.portKeys g ∧ s.cwOf g
    e.inSide.idx k = true ∧ s.portEnds' g e.idx k ≠ [] ∧ (∀ i ∈ s.portEnds' g e.idx k, s.invalid i = false)) ∧
  (∃ (s : State) (e : Eng) (g : Port) (k : LaneN) (errors marked : List Nat) (msg : BitVec 5140), s.pers g ≠ 0 ∧ k.val
    ∈ s.portKeys g ∧ s.cwOf g e.inSide.idx k = true ∧ s.portEnds' g e.idx k ≠ [] ∧ errors ≠ [] ∧ risingBelow 544
    errors = true ∧ risingBelow 544 marked = true ∧ 2 * (errors.filter (fun n => !s.erased (s.portEnds' g e.idx k)
    (544 * (s.eng e.idx g).cwIndex) marked n)).length + s.erasures (s.portEnds' g e.idx k) (544 * (s.eng e.idx
    g).cwIndex) marked ≤ 30) ∧
  (∃ (s : State) (e : Eng) (g : Port) (k : LaneN) (errors marked : List Nat) (msg : BitVec 5140), s.pers g ≠ 0 ∧ k.val
    ∈ s.portKeys g ∧ s.cwOf g e.inSide.idx k = true ∧ s.cfl g = true ∧ s.portEnds' g e.idx k ≠ [] ∧ risingBelow 544
    errors = true ∧ risingBelow 544 marked = true ∧ 30 < 2 * (errors.filter (fun n => !s.erased (s.portEnds' g e.idx
    k) (544 * (s.eng e.idx g).cwIndex) marked n)).length + s.erasures (s.portEnds' g e.idx k) (544 * (s.eng e.idx
    g).cwIndex) marked) ∧
  (∃ (s : State) (e : Eng) (g : Port) (k : LaneN) (errors marked : List Nat) (msg : BitVec 5140), s.pers g ≠ 0 ∧ k.val
    ∈ s.portKeys g ∧ s.cwOf g e.inSide.idx k = true ∧ s.cfl g = false ∧ s.portEnds' g e.idx k ≠ [] ∧ risingBelow 544
    errors = true ∧ risingBelow 544 marked = true ∧ 30 < 2 * (errors.filter (fun n => !s.erased (s.portEnds' g e.idx
    k) (544 * (s.eng e.idx g).cwIndex) marked n)).length + s.erasures (s.portEnds' g e.idx k) (544 * (s.eng e.idx
    g).cwIndex) marked) ∧
  (∃ (s : State) (e : Eng) (g : Port) (k : LaneN) (errors marked : List Nat) (msg : BitVec 5140), risingBelow 544
    errors = true ∧ risingBelow 544 marked = true ∧ (s.pers g = 0 ∨ s.cwOf g e.inSide.idx k = false)) ∧
  (∃ (s : State) (e : Eng) (g : Port) (k : LaneN) (errors marked : List Nat) (msg : BitVec 5140), (risingBelow 544
    errors = false ∨ risingBelow 544 marked = false)) := by
  exact ⟨⟨live.updRx 0 (fun r => { r with miss := 3 }), .A, 0, 0, ⟨false, true, 128, 0, 0, 0⟩, by decide +kernel⟩,
    ⟨(live.put (LRX.markerLock 0) 0).updRx 0 (fun r => { r with mark := .confirm, good := 2 }), .A, 0, 0, 0, 0, ⟨true, true, 8, 5, ~~~5, 0⟩, by decide +kernel⟩,
    ⟨live, .A, 0, 0, 0, 0, ⟨true, true, 8, 5, ~~~5, 0⟩, by decide +kernel⟩,
    ⟨((oneLane.put (DIR.cwLock 0 0) 0).put (GLB.tsState 0 0 0) 6).put (PWR.lpstat 0) 3, 0, .A, by decide +kernel⟩,
    ⟨((live.put (LRX.markerLock 0) 0).updRx 0 (fun r => { r with mark := .confirm, good := 2 })).setReg (GLB.lmap 0 0) 0xFFFFFF10#32 |>.setReg (GLB.lmap 0 0) 0xFFFFFF21#32, .A, 0, 0, ⟨true, true, 8, 5, ~~~5, 0⟩, by decide +kernel⟩,
    ⟨live.updRx 0 (fun r => { r with miss := 2 }), .A, 0, 0, ⟨false, true, 128, 0, 0, 0⟩, by decide +kernel⟩,
    ⟨act, .A, 0, ⟨false, true, 128, 0, 0, 0⟩, by decide +kernel⟩,
    ⟨ethUp, 1, 0, .A, 8, true, true, 40, 8, by decide +kernel⟩,
    ⟨ethUp.updSeg 1 0 0 (fun x => { x with cw := true }), 1, 0, .A, 8, true, true, 41, 8, by decide +kernel⟩,
    ⟨oneLane, .AB, 0, 0, 0, by decide +kernel⟩,
    ⟨oneLane, .AB, 0, 0, [3], [], 0, by decide +kernel⟩,
    ⟨oneLane, .AB, 0, 0, List.range 16, [], 0, by decide +kernel⟩,
    ⟨(ethUp.updSeg 1 0 0 (fun x => { x with cw := true })).put (GLB.tsState 1 1 0) 6, .AB, 1, 0, [], [], 0, by decide +kernel⟩,
    ⟨live, .AB, 0, 0, [], [], 0, by decide +kernel⟩,
    ⟨live, .AB, 0, 0, [544], [], 0, by decide +kernel⟩⟩

theorem witness_lanemapAgreements :
  (∃ (s : State) (g : Port) (sd : Side) (w : BitVec 64) (r : List (BitVec 64)), (s.eng (inEngine sd.idx) g).mapq = w
    :: r ∧ lmOp w = 0 ∧ s.fMode g = true ∧ (s.ownChange g sd.idx = true ∨ lmSeg w ≠ sd.idx ∨ s.askValid g sd.idx
    (widthLanes (lmWidth w)) (lmSrc w) = false)) ∧
  (∃ (s : State) (g : Port) (sd : Side) (w : BitVec 64) (r : List (BitVec 64)), (s.eng (inEngine sd.idx) g).mapq = w
    :: r ∧ lmOp w = 0 ∧ s.fMode g = true ∧ s.ownChange g sd.idx = false ∧ lmSeg w = sd.idx ∧ s.askValid g sd.idx
    (widthLanes (lmWidth w)) (lmSrc w) = true) ∧
  (∃ (s : State) (g : Port) (sd : Side) (w : BitVec 64) (r : List (BitVec 64)) (c : Change) (p : Part), (s.eng
    (inEngine sd.idx) g).mapq = w :: r ∧ lmOp w = 1 ∧ s.fMode g = true ∧ (s.port g).change = some c ∧ s.partOf g
    sd.idx = some p) ∧
  (∃ (s : State) (g : Port) (sd : Side) (w : BitVec 64) (r : List (BitVec 64)) (c : Change) (p : Part), (s.eng
    (inEngine sd.idx) g).mapq = w :: r ∧ lmOp w = 2 ∧ s.fMode g = true ∧ (s.port g).change = some c ∧ s.partOf g
    sd.idx = some p ∧ lmId w = c.id) ∧
  (∃ (s : State) (g : Port) (sd : Side) (w : BitVec 64) (r : List (BitVec 64)) (c : Change) (p : Part), (s.eng
    (inEngine sd.idx) g).mapq = w :: r ∧ lmOp w = 3 ∧ s.pers g = 1 ∧ (s.port g).change = some c ∧ s.partOf g sd.idx
    = some p ∧ c.kind = .move ∧ lmSeg w = sd.idx ∧ lmSrc w = p.src ∧ lmWidth w = widthCode c.width) ∧
  (∃ (s : State) (g : Port) (sd : Side) (c : Change) (p : Part), (s.port g).change = some c ∧ s.partOf g sd.idx =
    some p ∧ p.acc = false ∧ s.fMode g = true ∧ p.sends < 8) ∧
  (∃ (s : State) (g : Port) (sd : Side) (c : Change) (p : Part), (s.port g).change = some c ∧ s.partOf g sd.idx =
    some p ∧ p.acc = false ∧ s.fMode g = true ∧ 8 ≤ p.sends) ∧
  (∃ (s : State) (g : Port) (sd : Side), s.lanemapIn g sd.idx 0 = none) ∧
  (∃ (s : State) (g : Port) (sd : Side), s.lanemapIn g sd.idx 1 = none) ∧
  (∃ (s : State) (g : Port) (sd : Side), s.lanemapIn g sd.idx 2 = none) ∧
  (∃ (s : State) (g : Port) (sd : Side), s.lanemapIn g sd.idx 3 = none) := by
  exact ⟨⟨fUp.updEng 0 0 (fun x => { x with mapq := [4] }), 0, .A, 4, [], by decide +kernel⟩,
    ⟨fUp.updEng 0 0 (fun x => { x with mapq := [0xFF54321010#64] }), 0, .A, 0xFF54321010#64, [], by decide +kernel⟩,
    ⟨moving.updEng 0 0 (fun x => { x with mapq := [0x0000000000000001#64] }), 0, .A, 1, [], ⟨.move, 8, [⟨0, [0, 1, 2, 3, 4, 5, 6, 8], 0, false, false, false, 1⟩], 0, false⟩, ⟨0, [0, 1, 2, 3, 4, 5, 6, 8], 0, false, false, false, 1⟩, by decide +kernel⟩,
    ⟨moving.updEng 0 0 (fun x => { x with mapq := [2] }), 0, .A, 2, [], ⟨.move, 8, [⟨0, [0, 1, 2, 3, 4, 5, 6, 8], 0, false, false, false, 1⟩], 0, false⟩, ⟨0, [0, 1, 2, 3, 4, 5, 6, 8], 0, false, false, false, 1⟩, by decide +kernel⟩,
    ⟨(moving.put (GLB.pers 0) 1).updEng 0 0 (fun x => { x with mapq := [3] }), 0, .A, 3, [], ⟨.move, 8, [⟨0, [0, 1, 2, 3, 4, 5, 6, 8], 0, false, false, false, 1⟩], 0, false⟩, ⟨0, [0, 1, 2, 3, 4, 5, 6, 8], 0, false, false, false, 1⟩, by decide +kernel⟩,
    ⟨moving, 0, .A, ⟨.move, 8, [⟨0, [0, 1, 2, 3, 4, 5, 6, 8], 0, false, false, false, 1⟩], 0, false⟩, ⟨0, [0, 1, 2, 3, 4, 5, 6, 8], 0, false, false, false, 1⟩, by decide +kernel⟩,
    ⟨moving.updPart 0 0 (fun x => { x with sends := 8 }), 0, .A, ⟨.move, 8, [⟨0, [0, 1, 2, 3, 4, 5, 6, 8], 0, false, false, false, 8⟩], 0, false⟩, ⟨0, [0, 1, 2, 3, 4, 5, 6, 8], 0, false, false, false, 8⟩, by decide +kernel⟩,
    ⟨live, 0, .A, by decide +kernel⟩,
    ⟨live, 0, .A, by decide +kernel⟩,
    ⟨live, 0, .A, by decide +kernel⟩,
    ⟨live, 0, .A, by decide +kernel⟩⟩

theorem witness_mapChanges :
  (∃ (s : State) (g : Port) (sd : Side) (p : Part), s.partOf g sd.idx = some p ∧ s.txMaySwitch g sd.idx = true) ∧
  (∃ (s : State) (g : Port) (sd : Side), s.txMaySwitch g sd.idx = false) ∧
  (∃ (s : State) (g : Port) (c : Change), (s.port g).change = some c ∧ s.fMode g = true ∧ c.parts.any (fun p =>
    p.acc) = true) ∧
  (∃ (s : State) (g : Port), (∀ c ∈ (s.port g).change, s.fMode g = false ∨ c.parts.any (fun p => p.acc) = false)) ∧
  (∃ (s : State) (g : Port) (c : Change), (s.port g).change = some c ∧ s.fMode g = false) ∧
  (∃ (s : State) (g : Port), s.fMode g = true) ∧
  (∃ (s : State) (g : Port) (j : Job) (r : List Job), (s.port g).retry = j :: r) ∧
  (∃ (s : State) (g : Port), (s.port g).retry = []) := by
  exact ⟨⟨moving.updPart 0 0 (fun x => { x with acc := true }), 0, .A, ⟨0, [0, 1, 2, 3, 4, 5, 6, 8], 0, true, false, false, 1⟩, by decide +kernel⟩,
    ⟨moving, 0, .A, by decide +kernel⟩,
    ⟨moving.updPart 0 0 (fun x => { x with acc := true }), 0, ⟨.move, 8, [⟨0, [0, 1, 2, 3, 4, 5, 6, 8], 0, true, false, false, 1⟩], 0, false⟩, by decide +kernel⟩,
    ⟨moving, 0, by decide +kernel⟩,
    ⟨moving.put (GLB.pers 0) 1, 0, ⟨.move, 8, [⟨0, [0, 1, 2, 3, 4, 5, 6, 8], 0, false, false, false, 1⟩], 0, false⟩, by decide +kernel⟩,
    ⟨moving, 0, by decide +kernel⟩,
    ⟨moving.updPort 0 (fun x => { x with retry := [Job.blank .move 0 3] }), 0, Job.blank .move 0 3, [], by decide +kernel⟩,
    ⟨live, 0, by decide +kernel⟩⟩

theorem witness_flitsReceived :
  (∃ (s : State) (e : Eng) (g : Port) (f : Flit) (c : Bool) (a : Nat), s.cfl g = true ∧ s.bothUp g = true ∧ s.on
    (DIR.cwLock e.idx g) = true ∧ s.pers g = 1 ∧ flitAccepted f (s.flitWhole e.idx g c) = true ∧ flitType f ≠ 5 ∧
    flitType f ≠ 9 ∧ (s.get (PWR.lpstat g) ≠ 1 ∨ flitType f = 2)) ∧
  (∃ (s : State) (e : Eng) (g : Port) (f : Flit) (c : Bool) (a : Nat), s.cfl g = true ∧ s.bothUp g = true ∧ s.on
    (DIR.cwLock e.idx g) = true ∧ s.pers g = 1 ∧ flitAccepted f (s.flitWhole e.idx g c) = true ∧ flitType f ≠ 5 ∧
    flitType f ≠ 9 ∧ flitType f ≠ 2 ∧ s.get (PWR.lpstat g) = 1) ∧
  (∃ (s : State) (e : Eng) (g : Port) (f : Flit) (c : Bool) (a : Nat), s.cfl g = true ∧ s.bothUp g = true ∧ s.on
    (DIR.cwLock e.idx g) = true ∧ s.pers g = 1 ∧ flitAccepted f (s.flitWhole e.idx g c) = true ∧ flitType f = 9) ∧
  (∃ (s : State) (e : Eng) (g : Port) (f : Flit) (c : Bool) (a : Nat), s.cfl g = true ∧ s.bothUp g = true ∧ s.on
    (DIR.cwLock e.idx g) = true ∧ s.pers g = 1 ∧ flitAccepted f (s.flitWhole e.idx g c) = false) ∧
  (∃ (s : State) (e : Eng) (g : Port) (f : Flit) (c : Bool) (a : Nat), s.cfl g = true ∧ s.bothUp g = true ∧ s.on
    (DIR.cwLock e.idx g) = true ∧ s.pers g = 2 ∧ flitAccepted f (s.flitWhole e.idx g c) = true ∧ (flitType f = 3 ∨
    flitType f = 4) ∧ flitSeq f = s.get (DIR.rxNext e.idx g) ∧ (s.eng e.idx g).tagMode = 0) ∧
  (∃ (s : State) (e : Eng) (g : Port) (f : Flit) (c : Bool) (a : Nat) (p : Parse), s.cfl g = true ∧ s.bothUp g = true
    ∧ s.on (DIR.cwLock e.idx g) = true ∧ s.pers g = 2 ∧ flitAccepted f (s.flitWhole e.idx g c) = true ∧ flitType f = 1
    ∧ flitSeq f = s.get (DIR.rxNext e.idx g) ∧ (s.eng e.idx g).tagMode = 0 ∧ p = parseFlit f (s.eng e.idx g).openTx
    (s.eng e.idx g).lost) ∧
  (∃ (s : State) (e : Eng) (g : Port) (f : Flit) (c : Bool) (a : Nat), s.cfl g = true ∧ s.bothUp g = true ∧ s.on
    (DIR.cwLock e.idx g) = true ∧ s.pers g = 2 ∧ flitAccepted f (s.flitWhole e.idx g c) = false) ∧
  (∃ (s : State) (e : Eng) (g : Port) (f : Flit) (c : Bool) (a : Nat), s.cfl g = true ∧ s.bothUp g = true ∧ s.on
    (DIR.cwLock e.idx g) = true ∧ s.pers g = 2 ∧ flitAccepted f (s.flitWhole e.idx g c) = true ∧ flitType f = 2) ∧
  (∃ (s : State) (e : Eng) (g : Port) (f : Flit) (c : Bool) (a : Nat), s.cfl g = true ∧ s.bothUp g = true ∧ s.on
    (DIR.cwLock e.idx g) = true ∧ s.pers g = 2 ∧ flitAccepted f (s.flitWhole e.idx g c) = true ∧ flitType f = 6) ∧
  (∃ (s : State) (e : Eng) (g : Port) (f : Flit) (c : Bool) (a : Nat), s.cfl g = true ∧ s.bothUp g = true ∧ s.on
    (DIR.cwLock e.idx g) = true ∧ s.pers g = 2 ∧ flitAccepted f (s.flitWhole e.idx g c) = true ∧ sequenced f = true ∧
    flitSeq f ≠ s.get (DIR.rxNext e.idx g) ∧ seqAfter (flitSeq f) (s.get (DIR.rxNext e.idx g)) = false) ∧
  (∃ (s : State) (e : Eng) (g : Port) (f : Flit) (c : Bool) (a : Nat), (s.bothUp g = false ∨ s.on (DIR.cwLock e.idx g)
    = false ∨ s.cfl g = false ∨ (s.pers g ≠ 1 ∧ s.pers g ≠ 2))) := by
  exact ⟨⟨gUp, .AB, 0, goodFlit 3 9, true, 0, by decide +kernel⟩,
    ⟨gUp.put (PWR.lpstat 0) 1, .AB, 0, goodFlit 1 5, true, 0, by decide +kernel⟩,
    ⟨gUp, .AB, 0, lpwr 0, true, 0, by decide +kernel⟩,
    ⟨gUp, .AB, 0, goodFlit 3 9, false, 0, by decide +kernel⟩,
    ⟨fUp.put (DIR.rxNext 0 0) 4095, .AB, 0, goodFlit 3 4095, true, 0, by decide +kernel⟩,
    ⟨fUp, .BA, 0, goodFlit 1 0, true, 0, parseFlit (goodFlit 1 0) none false, by decide +kernel⟩,
    ⟨fUp.put (DIR.inState 1 0) 0, .BA, 0, goodFlit 3 9, false, 0, by decide +kernel⟩,
    ⟨fUp, .BA, 0, slackFlit, true, 0, by decide +kernel⟩,
    ⟨fUp, .BA, 0, withCrc (withSack (plainFlit 6 (snakWord 7 0 true)) (some 5)), true, 0, by decide +kernel⟩,
    ⟨fUp, .AB, 0, goodFlit 3 4095, true, 0, by decide +kernel⟩,
    ⟨up, .AB, 0, slackFlit, true, 0, by decide +kernel⟩⟩

theorem witness_acknowledgementsAndReplayRequests :
  (∃ (s : State) (e : Eng) (g : Port), s.fMode g = true ∧ s.get (DIR.inState e.idx g) = 1 ∧ (s.eng e.idx g).timer =
    true ∧ s.get (DIR.cSnak e.idx g) < 3 ∧ s.on (DIR.cwLock e.idx g) = true) ∧
  (∃ (s : State) (e : Eng) (g : Port), s.fMode g = true ∧ s.get (DIR.inState e.idx g) = 1 ∧ (s.eng e.idx g).timer =
    true ∧ s.get (DIR.cSnak e.idx g) < 3 ∧ s.on (DIR.cwLock e.idx g) = false) ∧
  (∃ (s : State) (e : Eng) (g : Port), s.fMode g = true ∧ s.get (DIR.inState e.idx g) = 1 ∧ (s.eng e.idx g).timer =
    true ∧ s.get (DIR.cSnak e.idx g) = 3) ∧
  (∃ (s : State) (e : Eng) (g : Port), s.fMode g = true ∧ (s.eng e.idx g).accepted = true ∧ orOne (s.get (DIR.sackIdle
    e.idx g)) ≤ (s.eng e.idx g).sackSlots ∧ (s.eng (1 - e.idx) g).ins.contains .pureSack = false) ∧
  (∃ (s : State) (e : Eng) (g : Port), (s.fMode g = false ∨ (s.eng e.idx g).accepted = false ∨ (s.eng e.idx
    g).sackSlots < orOne (s.get (DIR.sackIdle e.idx g)) ∨ (s.eng (1 - e.idx) g).ins.contains .pureSack = true)) ∧
  (∃ (s : State) (e : Eng) (g : Port) (n : Nat) (r : List XMsg), (s.eng e.idx g).xpath = .sack n :: r ∧ n < 4096 ∧
    seqFrom n (s.get (DIR.txNext e.idx g)) = false ∧ seqAfter n (s.get (DIR.sackIn e.idx g)) = true) ∧
  (∃ (s : State) (e : Eng) (g : Port) (n : Nat) (r : List XMsg), (s.eng e.idx g).xpath = .sack n :: r ∧ seqFrom n
    (s.get (DIR.txNext e.idx g)) = true) ∧
  (∃ (s : State) (e : Eng) (g : Port) (n : Nat) (r : List XMsg), (s.eng e.idx g).xpath = .sack n :: r ∧ seqFrom n
    (s.get (DIR.txNext e.idx g)) = false ∧ seqAfter n (s.get (DIR.sackIn e.idx g)) = false) ∧
  (∃ (s : State) (e : Eng) (g : Port) (first count : Nat) (back : Bool) (r : List XMsg) (q : Nat) (l : List Nat),
    (s.eng e.idx g).xpath = .snak first count back :: r ∧ (s.get (DIR.inState e.idx g) = 2 → (match (s.eng e.idx
    g).outAbandon with
    | some a => seqFrom first a | none => false) = false) ∧ (snakRange (s.get (DIR.txNext e.idx g)) first count
    back).filter (fun x => seqAfter x (s.get (DIR.sackIn e.idx g))) = q :: l ∧ (q :: l).any (fun x => seqFrom x (s.get
    (DIR.txNext e.idx g))) = false ∧ (s.eng e.idx g).queue.length < 8) ∧
  (∃ (s : State) (e : Eng) (g : Port) (first count : Nat) (back : Bool) (r : List XMsg), (s.eng e.idx g).xpath = .snak
    first count back :: r ∧ ((snakRange (s.get (DIR.txNext e.idx g)) first count back).filter (fun x => seqAfter x
    (s.get (DIR.sackIn e.idx g))) = [] ∨ (s.get (DIR.inState e.idx g) = 2 ∧ (match (s.eng e.idx g).outAbandon with
    | some a => seqFrom first a | none => false) = true))) ∧
  (∃ (s : State) (e : Eng) (g : Port) (first count : Nat) (back : Bool) (r : List XMsg) (q : Nat) (l : List Nat),
    (s.eng e.idx g).xpath = .snak first count back :: r ∧ (s.get (DIR.inState e.idx g) = 2 → (match (s.eng e.idx
    g).outAbandon with
    | some a => seqFrom first a | none => false) = false) ∧ (snakRange (s.get (DIR.txNext e.idx g)) first count
    back).filter (fun x => seqAfter x (s.get (DIR.sackIn e.idx g))) = q :: l ∧ (q :: l).any (fun x => seqFrom x (s.get
    (DIR.txNext e.idx g))) = true) ∧
  (∃ (s : State) (e : Eng) (g : Port) (first count : Nat) (back : Bool) (r : List XMsg) (q : Nat) (l : List Nat),
    (s.eng e.idx g).xpath = .snak first count back :: r ∧ (s.get (DIR.inState e.idx g) = 2 → (match (s.eng e.idx
    g).outAbandon with
    | some a => seqFrom first a | none => false) = false) ∧ (snakRange (s.get (DIR.txNext e.idx g)) first count
    back).filter (fun x => seqAfter x (s.get (DIR.sackIn e.idx g))) = q :: l ∧ (q :: l).any (fun x => seqFrom x (s.get
    (DIR.txNext e.idx g))) = false ∧ 8 ≤ (s.eng e.idx g).queue.length) ∧
  (∃ (s : State) (e : Eng) (g : Port), (s.fMode g = false ∨ s.get (DIR.inState e.idx g) ≠ 1 ∨ (s.eng e.idx g).timer =
    false)) ∧
  (∃ (s : State) (e : Eng) (g : Port), (s.eng e.idx g).xpath = []) := by
  exact ⟨⟨nakking 2, .AB, 0, by decide +kernel⟩,
    ⟨(nakking 2).put (DIR.cwLock 0 0) 0, .AB, 0, by decide +kernel⟩,
    ⟨nakking 3, .AB, 0, by decide +kernel⟩,
    ⟨fUp.updEng 0 0 (fun x => { x with accepted := true, sackSlots := 255 }), .AB, 0, by decide +kernel⟩,
    ⟨fUp, .AB, 0, by decide +kernel⟩,
    ⟨((fUp.put (DIR.sackIn 0 0) 4095).put (DIR.txNext 0 0) 9).updEng 0 0 (fun x => { x with xpath := [.sack 8] }), .AB, 0, 8, [], by decide +kernel⟩,
    ⟨((fUp.put (DIR.sackIn 0 0) 4095).put (DIR.txNext 0 0) 9).updEng 0 0 (fun x => { x with xpath := [.sack 9] }), .AB, 0, 9, [], by decide +kernel⟩,
    ⟨((fUp.put (DIR.sackIn 0 0) 4095).put (DIR.txNext 0 0) 9).updEng 0 0 (fun x => { x with xpath := [.sack 4095] }), .AB, 0, 4095, [], by decide +kernel⟩,
    ⟨((fUp.put (DIR.sackIn 0 0) 4095).put (DIR.txNext 0 0) 9).updEng 0 0 (fun x => { x with xpath := [.snak 7 0 true] }), .AB, 0, 7, 0, true, [], 7, [8], by decide +kernel⟩,
    ⟨((fUp.put (DIR.sackIn 0 0) 4095).put (DIR.txNext 0 0) 9).updEng 0 0 (fun x => { x with xpath := [.snak 9 0 true] }), .AB, 0, 9, 0, true, [], by decide +kernel⟩,
    ⟨((fUp.put (DIR.sackIn 0 0) 4095).put (DIR.txNext 0 0) 9).updEng 0 0 (fun x => { x with xpath := [.snak 8 2 false] }), .AB, 0, 8, 2, false, [], 8, [9], by decide +kernel⟩,
    ⟨((fUp.put (DIR.sackIn 0 0) 4095).put (DIR.txNext 0 0) 9).updEng 0 0 (fun x => { x with xpath := [.snak 7 0 true], queue := List.replicate 8 (6, 1) }), .AB, 0, 7, 0, true, [], 7, [8], by decide +kernel⟩,
    ⟨fUp, .AB, 0, by decide +kernel⟩,
    ⟨fUp, .AB, 0, by decide +kernel⟩⟩

theorem witness_flitSlots :
  (∃ (s : State) (e : Eng) (g : Port) (ps : Nat) (pe : Bool), s.cfl g = true ∧ s.bothUp g = true ∧ s.pers g ≠ 0 ∧ s.on
    (DIR.cwLock e.idx g) = false ∧ s.inLowPower g = false) ∧
  (∃ (s : State) (e : Eng) (g : Port) (ps : Nat) (pe : Bool), s.cfl g = true ∧ s.bothUp g = true ∧ s.pers g = 2 ∧ s.on
    (DIR.cwLock e.idx g) = true ∧ s.slackOwed e.idx g = false ∧ (s.eng e.idx g).replay = [] ∧ (s.eng e.idx g).ins = []
    ∧ (s.eng e.idx g).queue = [] ∧ (s.eng e.idx g).defer = [] ∧ (s.eng e.idx g).fresh = none) ∧
  (∃ (s : State) (e : Eng) (g : Port) (ps : Nat) (h : Held), s.cfl g = true ∧ s.bothUp g = true ∧ s.pers g = 2 ∧ s.on
    (DIR.cwLock e.idx g) = true ∧ s.slackOwed e.idx g = false ∧ (s.eng e.idx g).replay = [] ∧ (s.eng e.idx g).ins = []
    ∧ (s.eng e.idx g).queue = [] ∧ (s.eng e.idx g).defer = [] ∧ (s.eng e.idx g).fresh = some h ∧ (s.eng e.idx
    g).tagMode = 0 ∧ s.quenchedFlit h = false ∧ h.tagBad = false ∧ flitType h.flit ≠ 9 ∧ s.get (PWR.lpstat g) ≠ 1) ∧
  (∃ (s : State) (e : Eng) (g : Port) (ps : Nat) (h : Held), s.cfl g = true ∧ s.bothUp g = true ∧ s.pers g = 2 ∧ s.on
    (DIR.cwLock e.idx g) = true ∧ s.slackOwed e.idx g = false ∧ (s.eng e.idx g).replay = [] ∧ (s.eng e.idx g).ins = []
    ∧ (s.eng e.idx g).queue = [] ∧ (s.eng e.idx g).defer = [] ∧ (s.eng e.idx g).fresh = some h ∧ (s.eng e.idx
    g).tagMode = 0 ∧ s.quenchedFlit h = true ∧ s.get (PWR.lpstat g) ≠ 1) ∧
  (∃ (s : State) (e : Eng) (g : Port) (ps : Nat) (pe : Bool), s.cfl g = true ∧ s.bothUp g = true ∧ s.pers g = 2 ∧ s.on
    (DIR.cwLock e.idx g) = true ∧ s.slackOwed e.idx g = true ∧ (s.eng e.idx g).fresh = none) ∧
  (∃ (s : State) (e : Eng) (g : Port) (ps : Nat) (r : List Ins), s.cfl g = true ∧ s.bothUp g = true ∧ s.pers g = 2 ∧
    s.on (DIR.cwLock e.idx g) = true ∧ s.slackOwed e.idx g = false ∧ (s.eng e.idx g).replay = [] ∧ (s.eng e.idx g).ins
    = .snak :: r ∧ s.on (DIR.cwLock (1 - e.idx) g) = true ∧ (s.eng e.idx g).fresh = none) ∧
  (∃ (s : State) (e : Eng) (g : Port) (ps : Nat) (pe : Bool), s.cfl g = true ∧ s.bothUp g = true ∧ s.pers g = 2 ∧ s.on
    (DIR.cwLock e.idx g) = true ∧ s.slackOwed e.idx g = false ∧ (s.eng e.idx g).replay = [] ∧ (s.eng e.idx g).ins =
    [.snak] ∧ s.on (DIR.cwLock (1 - e.idx) g) = false ∧ (s.eng e.idx g).queue = [] ∧ (s.eng e.idx g).defer = [] ∧
    (s.eng e.idx g).fresh = none) ∧
  (∃ (s : State) (e : Eng) (g : Port) (ps q : Nat) (l : List Nat) (y : Slot), s.cfl g = true ∧ s.bothUp g = true ∧
    s.pers g = 2 ∧ s.on (DIR.cwLock e.idx g) = true ∧ s.slackOwed e.idx g = false ∧ (s.eng e.idx g).replay = q :: l ∧
    s.replaySlot e.idx g q = some y ∧ (s.eng e.idx g).fresh = none ∧ (s.eng e.idx g).tagMode = 0 ∧ s.quenchedFlit
    y.held = false ∧ y.held.tagBad = false ∧ y.poisoned = false ∧ sequenced y.held.flit = true) ∧
  (∃ (s : State) (e : Eng) (g : Port) (ps : Nat) (pe : Bool) (h : Held) (r : List Held), s.cfl g = true ∧ s.bothUp g =
    true ∧ s.pers g = 2 ∧ s.on (DIR.cwLock e.idx g) = true ∧ s.slackOwed e.idx g = false ∧ (s.eng e.idx g).replay = []
    ∧ (s.eng e.idx g).ins = [] ∧ (s.eng e.idx g).queue = [] ∧ (s.eng e.idx g).defer = h :: r ∧ (s.eng e.idx g).fresh =
    none ∧ s.get (DIR.deferLeft e.idx g) = 0) ∧
  (∃ (s : State) (e : Eng) (g : Port) (ps first len : Nat) (r : List (Nat × Nat)) (y : Slot), s.cfl g = true ∧
    s.bothUp g = true ∧ s.pers g = 2 ∧ s.on (DIR.cwLock e.idx g) = true ∧ s.slackOwed e.idx g = false ∧ (s.eng e.idx
    g).replay = [] ∧ (s.eng e.idx g).ins = [] ∧ (s.eng e.idx g).queue = (first, len) :: r ∧ 0 < len ∧ first < 4096 ∧
    s.replayCheck e.idx g ps first len = 0 ∧ s.replaySlot e.idx g first = some y ∧ (s.eng e.idx g).fresh = none ∧
    (s.eng e.idx g).tagMode = 0 ∧ s.quenchedFlit y.held = false ∧ y.held.tagBad = false ∧ y.poisoned = false ∧
    sequenced y.held.flit = true) ∧
  (∃ (s : State) (e : Eng) (g : Port) (ps first len : Nat) (pe : Bool) (r : List (Nat × Nat)), s.cfl g = true ∧
    s.bothUp g = true ∧ s.pers g = 2 ∧ s.on (DIR.cwLock e.idx g) = true ∧ s.slackOwed e.idx g = false ∧ (s.eng e.idx
    g).replay = [] ∧ (s.eng e.idx g).ins = [] ∧ (s.eng e.idx g).queue = (first, len) :: r ∧ s.replayCheck e.idx g ps
    first len ≠ 0) ∧
  (∃ (s : State) (e : Eng) (g : Port) (leave first len k : Nat), k < len ∧ s.slotFor e.idx g ((first + k) % 4096) =
    none) ∧
  (∃ (s : State) (e : Eng) (g : Port) (leave first len k : Nat) (y : Slot), (∀ j, j < len → (s.slotFor e.idx g ((first
    + j) % 4096)).isSome = true) ∧ k < len ∧ s.slotFor e.idx g ((first + k) % 4096) = some y ∧ 3 ≤ y.count) ∧
  (∃ (s : State) (e : Eng) (g : Port) (leave first len n : Nat) (l : List Slot) (a : List Nat) (f : Nat × Nat), l =
    (List.range len).filterMap (fun j => s.slotFor e.idx g ((first + j) % 4096)) ∧ l.length = len ∧ (∀ y ∈ l, y.count
    < 3) ∧ n = s.slackN g (outSide e.idx) ∧ f = flitTime (s.get (GLB.rate g)) (s.lanes g (outSide e.idx) 0).length ∧ a
    = l.map (fun y => y.held.arrive) ++ (s.eng e.idx g).defer.map (fun h => h.arrive)) ∧
  (∃ (s : State) (e : Eng) (g : Port) (ps q : Nat) (l : List Nat) (y : Slot) (h : Held), s.cfl g = true ∧ s.bothUp g =
    true ∧ s.pers g = 2 ∧ s.on (DIR.cwLock e.idx g) = true ∧ s.slackOwed e.idx g = false ∧ (s.eng e.idx g).replay = q
    :: l ∧ s.replaySlot e.idx g q = some y ∧ (s.eng e.idx g).fresh = some h ∧ (s.eng e.idx g).defer.length <
    s.deferCap e.idx g ∧ (s.eng e.idx g).tagMode = 0 ∧ s.quenchedFlit y.held = false ∧ y.held.tagBad = false ∧
    y.poisoned = false ∧ sequenced y.held.flit = true) ∧
  (∃ (s : State) (e : Eng) (g : Port) (ps : Nat) (i : Ins) (r : List Ins) (h : Held), s.cfl g = true ∧ s.bothUp g =
    true ∧ s.pers g = 2 ∧ s.on (DIR.cwLock e.idx g) = true ∧ s.slackOwed e.idx g = false ∧ (s.eng e.idx g).replay = []
    ∧ (s.eng e.idx g).ins = i :: r ∧ (i ≠ .snak ∨ s.on (DIR.cwLock (1 - e.idx) g) = true) ∧ (s.eng e.idx g).fresh =
    some h ∧ (s.eng e.idx g).defer.length < s.deferCap e.idx g) ∧
  (∃ (s : State) (e : Eng) (g : Port) (ps : Nat) (pe : Bool) (h : Held), s.cfl g = true ∧ s.bothUp g = true ∧ s.pers g
    = 2 ∧ s.on (DIR.cwLock e.idx g) = true ∧ s.slackOwed e.idx g = true ∧ (s.eng e.idx g).fresh = some h ∧ (s.eng
    e.idx g).defer.length < s.deferCap e.idx g) ∧
  (∃ (s : State) (e : Eng) (g : Port) (ps : Nat) (pe : Bool) (h : Held), s.cfl g = true ∧ s.bothUp g = true ∧ s.pers g
    = 2 ∧ s.on (DIR.cwLock e.idx g) = true ∧ s.slackOwed e.idx g = true ∧ (s.eng e.idx g).fresh = some h ∧ s.deferCap
    e.idx g ≤ (s.eng e.idx g).defer.length ∧ sequenced h.flit = true) ∧
  (∃ (s : State) (e : Eng) (g : Port) (ps : Nat) (i : Ins) (r : List Ins) (f : Flit), s.cfl g = true ∧ s.bothUp g =
    true ∧ s.pers g = 2 ∧ s.on (DIR.cwLock e.idx g) = true ∧ s.slackOwed e.idx g = false ∧ (s.eng e.idx g).replay = []
    ∧ (s.eng e.idx g).ins = i :: r ∧ i ≠ .snak ∧ (s.eng e.idx g).fresh = none ∧ f = (match i with
    | .abandon first why origin => s.ownFlit e.idx g 7 (abandonWord first why origin)
    | .lanemap w => s.ownFlit e.idx g 5 w.toNat | _ => s.ownFlit e.idx g 6 (snakWord 0 0 false))) ∧
  (∃ (s : State) (e : Eng) (g : Port) (ps n : Nat) (h : Held) (k : Key) (f : Flit), s.cfl g = true ∧ s.bothUp g = true
    ∧ s.pers g = 2 ∧ s.on (DIR.cwLock e.idx g) = true ∧ s.slackOwed e.idx g = false ∧ (s.eng e.idx g).replay = [] ∧
    (s.eng e.idx g).ins = [] ∧ (s.eng e.idx g).queue = [] ∧ (s.eng e.idx g).defer = [] ∧ (s.eng e.idx g).fresh = some
    h ∧ s.quenchedFlit h = false ∧ h.tagBad = false ∧ sequenced h.flit = true ∧ (s.eng e.idx g).tagMode ≠ 0 ∧ s.get
    (PWR.lpstat g) ≠ 1 ∧ k = s.key (keyIdx (outSide e.idx) (s.get (DIR.txSlot e.idx g)) g) ∧ k.valid = true ∧ f =
    setHdr (setHdr (withSack h.flit (s.segAck e.idx g)) 58 1 1) 59 1 (s.get (DIR.txSlot e.idx g)) ∧ n = (if s.get
    (DIR.txNext e.idx g) < flitSeq h.flit then (s.eng e.idx g).txLaps - 1 else (s.eng e.idx g).txLaps)) ∧
  (∃ (s : State) (e : Eng) (g : Port) (ps : Nat) (h : Held), s.cfl g = true ∧ s.bothUp g = true ∧ s.pers g = 2 ∧ s.on
    (DIR.cwLock e.idx g) = true ∧ s.slackOwed e.idx g = false ∧ (s.eng e.idx g).replay = [] ∧ (s.eng e.idx g).ins = []
    ∧ (s.eng e.idx g).queue = [] ∧ (s.eng e.idx g).defer = [] ∧ (s.eng e.idx g).fresh = some h ∧ s.quenchedFlit h =
    false ∧ h.tagBad = false ∧ sequenced h.flit = true ∧ (s.eng e.idx g).tagMode ≠ 0 ∧ s.get (PWR.lpstat g) ≠ 1 ∧
    (s.key (keyIdx (outSide e.idx) (s.get (DIR.txSlot e.idx g)) g)).valid = false) ∧
  (∃ (s : State) (e : Eng) (g : Port) (ps q : Nat) (l : List Nat) (y : Slot), s.cfl g = true ∧ s.bothUp g = true ∧
    s.pers g = 2 ∧ s.on (DIR.cwLock e.idx g) = true ∧ s.slackOwed e.idx g = false ∧ (s.eng e.idx g).replay = q :: l ∧
    s.replaySlot e.idx g q = some y ∧ (s.eng e.idx g).fresh = none ∧ (s.eng e.idx g).tagMode = 0 ∧ s.quenchedFlit
    y.held = true ∧ y.poisoned = false) ∧
  (∃ (s : State) (e : Eng) (g : Port) (ps q : Nat) (l : List Nat) (y : Slot), s.cfl g = true ∧ s.bothUp g = true ∧
    s.pers g = 2 ∧ s.on (DIR.cwLock e.idx g) = true ∧ s.slackOwed e.idx g = false ∧ (s.eng e.idx g).replay = q :: l ∧
    s.replaySlot e.idx g q = some y ∧ (s.eng e.idx g).fresh = none ∧ (s.eng e.idx g).tagMode = 0 ∧ y.poisoned = true ∧
    s.quenchedFlit y.held = false ∧ sequenced y.held.flit = true) ∧
  (∃ (s : State) (e : Eng) (g : Port) (ps : Nat) (h : Held) (r : List Held), s.cfl g = true ∧ s.bothUp g = true ∧
    s.pers g = 2 ∧ s.on (DIR.cwLock e.idx g) = true ∧ s.slackOwed e.idx g = false ∧ (s.eng e.idx g).replay = [] ∧
    (s.eng e.idx g).ins = [] ∧ (s.eng e.idx g).queue = [] ∧ (s.eng e.idx g).defer = h :: r ∧ (s.eng e.idx g).fresh =
    none ∧ (s.eng e.idx g).tagMode = 0 ∧ s.quenchedFlit h = true) ∧
  (∃ (s : State) (e : Eng) (g : Port) (ps : Nat) (h : Held), s.cfl g = true ∧ s.bothUp g = true ∧ s.pers g = 2 ∧ s.on
    (DIR.cwLock e.idx g) = true ∧ s.slackOwed e.idx g = false ∧ (s.eng e.idx g).replay = [] ∧ (s.eng e.idx g).ins = []
    ∧ (s.eng e.idx g).queue = [] ∧ (s.eng e.idx g).defer = [] ∧ (s.eng e.idx g).fresh = some h ∧ flitType h.flit ≠ 9 ∧
    flitType h.flit ≠ 2 ∧ s.get (PWR.lpstat g) = 1) ∧
  (∃ (s : State) (e : Eng) (g : Port) (ps : Nat) (pe : Bool), (s.bothUp g = false ∨ s.pers g = 0)) ∧
  (∃ (s : State) (e : Eng) (g : Port) (ps : Nat) (pe : Bool), (s.cfl g = false ∨ (s.pers g = 1 ∧ s.on (DIR.cwLock
    e.idx g) = true) ∨ (s.on (DIR.cwLock e.idx g) = false ∧ s.inLowPower g = true))) := by
  exact ⟨⟨fUp.put (DIR.cwLock 0 0) 0, .AB, 0, 0, true, by decide +kernel⟩,
    ⟨fUp, .AB, 0, 0, false, by decide +kernel⟩,
    ⟨fUp.updEng 0 0 (fun x => { x with fresh := some ⟨goodFlit 1 4095, 9, [3], false, false⟩ }), .AB, 0, 0, ⟨goodFlit 1 4095, 9, [3], false, false⟩, by decide +kernel⟩,
    ⟨quenched.updEng 0 0 (fun x => { x with fresh := some ⟨goodFlit 1 7, 9, [3], false, false⟩ }), .AB, 0, 0, ⟨goodFlit 1 7, 9, [3], false, false⟩, by decide +kernel⟩,
    ⟨fUp.updEng 0 0 (fun x => { x with slackRun := 31 }), .AB, 0, 0, true, by decide +kernel⟩,
    ⟨fUp.updEng 0 0 (fun x => { x with ins := [.snak, .pureSack] }), .AB, 0, 0, [.pureSack], by decide +kernel⟩,
    ⟨(fUp.put (DIR.cwLock 1 0) 0).updEng 0 0 (fun x => { x with ins := [.snak] }), .AB, 0, 0, false, by decide +kernel⟩,
    ⟨fUp.updEng 0 0 (fun x => { x with replay := [4094], slots := [⟨⟨goodFlit 1 4094, 9, [3], false, false⟩, 4094, 1, true, false, false⟩] }), .AB, 0, 0, 4094, [], ⟨⟨goodFlit 1 4094, 9, [3], false, false⟩, 4094, 1, true, false, false⟩, by decide +kernel⟩,
    ⟨fUp.updEng 0 0 (fun x => { x with defer := [⟨goodFlit 1 7, 9, [3], false, false⟩] }), .AB, 0, 0, true, ⟨goodFlit 1 7, 9, [3], false, false⟩, [], by decide +kernel⟩,
    ⟨ranged fUp 0, .AB, 0, 1000, 4094, 1, [], heldSlot 0 false, by decide +kernel⟩,
    ⟨ranged fUp 3, .AB, 0, 1000, 4094, 1, true, [], by decide +kernel⟩,
    ⟨ranged fUp 0, .AB, 0, 1000, 4094, 2, 1, by decide +kernel⟩,
    ⟨ranged fUp 3, .AB, 0, 1000, 4094, 1, 0, heldSlot 3 false, by decide +kernel⟩,
    ⟨ranged fUp 0, .AB, 0, 1000, 4094, 1, fUp.slackN 0 1, [heldSlot 0 false], [9], flitTime (fUp.get (GLB.rate 0)) 8, by decide +kernel⟩,
    ⟨(replaying fUp false).updEng 0 0 (fun x => { x with fresh := some (heldFlit 7) }), .AB, 0, 1000, 4094, [], heldSlot 1 false, heldFlit 7, by decide +kernel⟩,
    ⟨(fUp).updEng 0 0 (fun x => { x with fresh := some (heldFlit 7), ins := [.pureSack] }), .AB, 0, 1000, .pureSack, [], heldFlit 7, by decide +kernel⟩,
    ⟨(fUp).updEng 0 0 (fun x => { x with fresh := some (heldFlit 7), slackRun := 31 }), .AB, 0, 1000, true, heldFlit 7, by decide +kernel⟩,
    ⟨(fUp).updEng 0 0 (fun x => { x with fresh := some (heldFlit 7), slackRun := 31, defer := List.replicate 64 (heldFlit 5) }), .AB, 0, 1000, true, heldFlit 7, by decide +kernel⟩,
    ⟨fUp.updEng 0 0 (fun x => { x with ins := [.abandon 7 3 0] }), .AB, 0, 1000, .abandon 7 3 0, [], fUp.ownFlit 0 0 7 (abandonWord 7 3 0), by decide +kernel⟩,
    ⟨{ tagging with keys := [(keyIdx 1 0 0, ⟨5, 1, true⟩)] }, .AB, 0, 1000, 0, heldFlit 7, ⟨5, 1, true⟩, setHdr (setHdr (withSack (heldFlit 7).flit none) 58 1 1) 59 1 0, by decide +kernel⟩,
    ⟨tagging, .AB, 0, 1000, heldFlit 7, by decide +kernel⟩,
    ⟨replaying quenched false, .AB, 0, 1000, 4094, [], heldSlot 1 false, by decide +kernel⟩,
    ⟨replaying fUp true, .AB, 0, 1000, 4094, [], heldSlot 1 true, by decide +kernel⟩,
    ⟨quenched.updEng 0 0 (fun x => { x with defer := [heldFlit 7] }), .AB, 0, 1000, heldFlit 7, [], by decide +kernel⟩,
    ⟨(fUp.put (PWR.lpstat 0) 1).updEng 0 0 (fun x => { x with fresh := some (heldFlit 7) }), .AB, 0, 1000, heldFlit 7, by decide +kernel⟩,
    ⟨up, .AB, 0, 0, false, by decide +kernel⟩,
    ⟨gUp, .AB, 0, 0, false, by decide +kernel⟩⟩

theorem witness_partitionEntriesAndDrains :
  (∃ (s : State) (i : Fin 4096) (v : Word), s.writeTakes (PRT.entryLo i) = true ∧ (v.getLsbD 22 = true → s.entryOf
    (v.toNat % 2 ^ 16) = none ∨ s.entryOf (v.toNat % 2 ^ 16) = some i.val) ∧ (s.on (PRT.quenched i) = true →
    v.getLsbD 22 = true ∧ v.toNat % 2 ^ 16 = s.get (PRT.pid i))) ∧
  (∃ (s : State) (i : Fin 4096) (v : Word) (j : Nat), s.writeTakes (PRT.entryLo i) = true ∧ ((v.getLsbD 22 = true ∧
    s.entryOf (v.toNat % 2 ^ 16) = some j ∧ j ≠ i.val) ∨ (s.on (PRT.quenched i) = true ∧ (v.getLsbD 22 = false ∨
    v.toNat % 2 ^ 16 ≠ s.get (PRT.pid i))))) ∧
  (∃ (s : State) (e : Eng) (g : Port), s.on (DIR.drained e.idx g) = false ∧ s.on PRT.drainForce = true) ∧
  (∃ (s : State) (e : Eng) (g : Port), (s.on (DIR.drained e.idx g) = true ∨ s.on PRT.drainForce = false)) := by
  exact ⟨⟨up, 4095, 0xFFC00007#32, by decide +kernel⟩,
    ⟨quenched, 0, 0x00400004#32, 0, by decide +kernel⟩,
    ⟨(up.put (DIR.drained 0 0) 0).put PRT.drainForce 3, .AB, 0, by decide +kernel⟩,
    ⟨up, .AB, 0, by decide +kernel⟩⟩

theorem witness_measurementCyclesAndSwaps :
  (∃ (s : State) (sd : Side) (p : Pos) (i : Nat), i = laneIdx sd p ∧ s.rxActive i = true ∧ s.calSuspended = false ∧
    s.bistHolds i = false ∧ (s.rxe i).fg = false ∧ (s.rxe i).stopped = false ∧ s.sliceBusy i = false ∧ (s.rxe
    i).verdict = none ∧ (s.crescent i).isSome = true) ∧
  (∃ (s : State) (sd : Side) (p : Pos) (i n : Nat) (c : CycleMeas) (m : SliceMeas), i = laneIdx sd p ∧ cycleOk c =
    true ∧ m = cycleTrims c ∧ (s.rxe i).cycling = true ∧ s.rxActive i = true ∧ s.bistHolds i = false ∧ s.crescent i =
    some n ∧ s.sliceFlags i n m = 0) ∧
  (∃ (s : State) (sd : Side) (p : Pos) (i n : Nat) (c : CycleMeas) (m : SliceMeas), i = laneIdx sd p ∧ cycleOk c =
    true ∧ m = cycleTrims c ∧ (s.rxe i).cycling = true ∧ s.rxActive i = true ∧ s.bistHolds i = false ∧ s.crescent i =
    some n ∧ s.sliceFlags i n m ≠ 0 ∧ s.on CAL.guardEn = false) ∧
  (∃ (s : State) (sd : Side) (p : Pos) (i : Nat) (w : Swap) (sum : Int) (ov : Nat), i = laneIdx sd p ∧ (s.rxe i).swap
    = some w ∧ w.stage = .compare ∧ s.compareStopped i = false ∧ (s.rxe i).cycling = false ∧ -16384 ≤ sum ∧ sum ≤
    16384 ∧ ov ≤ 4) ∧
  (∃ (s : State) (sd : Side) (p : Pos) (i : Nat) (w : Swap) (sum : Int) (ov : Nat), i = laneIdx sd p ∧ (s.rxe i).swap
    = some w ∧ w.stage = .compare ∧ w.slice < 66 ∧ s.compareStopped i = false ∧ (s.rxe i).cycling = false ∧ (16384 <
    sum ∨ sum < -16384 ∨ 4 < ov) ∧ (s.rxe i).blocked = none ∧ s.on CAL.guardEn = false) ∧
  (∃ (s : State) (sd : Side) (p : Pos) (i : Nat) (w : Swap) (ph : Fin 64) (syms : List (Fin 4)), i = laneIdx sd p ∧
    syms.length ≤ 4097 ∧ (s.rxe i).swap = some w ∧ w.stage = .window ∧ w.slice < 66 ∧ w.slot < 64 ∧ s.swapHeld i =
    false ∧ (s.ethPers i ≠ some 0 ∨ slotConstant (s.rxe i).record ph w.slot = true) ∧ (s.rxe i).holdDone = false ∧
    (s.rxe i).sweep = 0) ∧
  (∃ (s : State) (sd : Side) (p : Pos) (i : Nat) (w : Swap) (ph : Fin 64) (syms : List (Fin 4)), i = laneIdx sd p ∧
    syms.length ≤ 4097 ∧ (s.rxe i).swap = some w ∧ w.stage = .window ∧ s.swapHeld i = true) ∧
  (∃ (s : State) (sd : Side) (p : Pos) (i : Nat) (w : Swap), i = laneIdx sd p ∧ (s.rxe i).swap = some w ∧ w.stage =
    .settle ∧ w.slice < 66) ∧
  (∃ (s : State) (sd : Side) (p : Pos) (i : Nat) (w : Swap) (ph : Fin 64) (syms : List (Fin 4)), i = laneIdx sd p ∧
    syms.length ≤ 4097 ∧ (s.rxe i).swap = some w ∧ w.stage = .window ∧ s.swapHeld i = false ∧ s.ethPers i = some 0 ∧
    slotConstant (s.rxe i).record ph w.slot = false ∧ w.periods + 1 < 64) ∧
  (∃ (s : State) (sd : Side) (p : Pos) (i : Nat) (w : Swap) (ph : Fin 64) (syms : List (Fin 4)), i = laneIdx sd p ∧
    syms.length ≤ 4097 ∧ (s.rxe i).swap = some w ∧ w.stage = .window ∧ s.swapHeld i = false ∧ s.ethPers i = some 0 ∧
    slotConstant (s.rxe i).record ph w.slot = false ∧ 64 ≤ w.periods + 1) ∧
  (∃ (s : State) (sd : Side) (p : Pos) (c : CycleMeas) (ph : Fin 64) (syms : List (Fin 4)), cycleOk c = false ∧ 4097 <
    syms.length) ∧
  (∃ (s : State) (sd : Side) (p : Pos) (i : Nat) (c : CycleMeas) (sum : Int) (ov : Nat), i = laneIdx sd p ∧ cycleOk c
    = true ∧ (s.rxe i).cycling = false ∧ (s.rxe i).swap = none) := by
  exact ⟨⟨calm, .A, 0, 0, by decide +kernel⟩,
    ⟨calm.updRx 0 (fun r => { r with cycling := true }), .A, 0, 0, 64, ⟨4161536, 7936409, 386663, 4161536⟩, cycleTrims ⟨4161536, 7936409, 386663, 4161536⟩, by decide +kernel⟩,
    ⟨(calm.put CAL.guardEn 0).updRx 0 (fun r => { r with cycling := true }), .A, 0, 0, 64, ⟨0, 0, 0, 0⟩, cycleTrims ⟨0, 0, 0, 0⟩, by decide +kernel⟩,
    ⟨calm.updRx 0 (fun r => { r with swap := some ⟨5, 64, .compare, false, 0⟩ }), .A, 0, 0, ⟨5, 64, .compare, false, 0⟩, -16384, 4, by decide +kernel⟩,
    ⟨(calm.put CAL.guardEn 0).updRx 0 (fun r => { r with swap := some ⟨5, 64, .compare, false, 0⟩ }), .A, 0, 0, ⟨5, 64, .compare, false, 0⟩, 0, 5, by decide +kernel⟩,
    ⟨calm.updRx 0 (fun r => { r with swap := some ⟨63, 64, .window, false, 0⟩ }), .A, 0, 0, ⟨63, 64, .window, false, 0⟩, 0, [], by decide +kernel⟩,
    ⟨(calm.put (LRX.markerLock 0) 0).updRx 0 (fun r => { r with swap := some ⟨63, 64, .window, false, 0⟩ }), .A, 0, 0, ⟨63, 64, .window, false, 0⟩, 63, [], by decide +kernel⟩,
    ⟨calm.updRx 0 (fun r => { r with swap := some ⟨63, 63, .settle, false, 0⟩ }), .A, 0, 0, ⟨63, 63, .settle, false, 0⟩, by decide +kernel⟩,
    ⟨ethT.updRx 8 (fun r => { r with periods := 16, swap := some ⟨63, 64, .window, false, 62⟩ }), .A, 8, 8, ⟨63, 64, .window, false, 62⟩, 0, [3, 3], by decide +kernel⟩,
    ⟨ethT.updRx 8 (fun r => { r with periods := 16, swap := some ⟨63, 64, .window, false, 63⟩ }), .A, 8, 8, ⟨63, 64, .window, false, 63⟩, 0, [3, 3], by decide +kernel⟩,
    ⟨calm, .A, 0, ⟨0, 0, 0, 127 * 65536 + 1⟩, 0, List.replicate 4098 0, by decide +kernel⟩,
    ⟨calm, .A, 0, 0, ⟨0, 0, 0, 0⟩, 0, 0, by decide +kernel⟩⟩

theorem witness_transmitterPassesAndVerdicts :
  (∃ (s : State) (sd : Side) (p : Pos) (i : Nat), i = laneIdx sd p ∧ s.txActive i = true ∧ s.calSuspended = false ∧
    s.bistHolds i = false ∧ (s.txe i).fg = false ∧ (s.txe i).pass = none ∧ s.replicaSkipped i = false) ∧
  (∃ (s : State) (sd : Side) (p : Pos) (i : Nat) (trim err : Int), i = laneIdx sd p ∧ s.calSuspended = false ∧
    s.bistHolds i = false ∧ (s.txe i).pass = some .replica ∧ s.replicaSkipped i = false ∧ s.replicaPlausible i trim =
    true) ∧
  (∃ (s : State) (sd : Side) (p : Pos) (i n r : Nat), i = laneIdx sd p ∧ s.calSuspended = false ∧ s.bistHolds i =
    false ∧ s.lendHeld i = false ∧ (s.txe i).pass = some .serving ∧ (s.txe i).lent = none ∧ s.passTarget i = some n ∧
    (s.cellPool i).head? = some r) ∧
  (∃ (s : State) (sd : Side) (p : Pos) (i n r : Nat) (trim err : Int), i = laneIdx sd p ∧ n < 271 ∧ (s.txe i).lent =
    some (n, r) ∧ s.calSuspended = false ∧ s.bistHolds i = false ∧ (s.txe i).repDone = false ∧ n ∉ (s.txe i).verdicts
    ∧ s.cellPlausible i n trim = true) ∧
  (∃ (s : State) (sd : Side) (p : Pos) (i : Nat) (trim err : Int), i = laneIdx sd p ∧ (s.calSuspended = true ∨
    s.bistHolds i = true)) ∧
  (∃ (s : State) (sd : Side) (p : Pos) (el : TxElem) (trim err : Int), txElemOk el = true ∧ s.calSuspended = true) ∧
  (∃ (s : State) (sd : Side) (p : Pos) (i n : Nat), i = laneIdx sd p ∧ (s.rxe i).verdict = some n ∧ n < 66 ∧
    s.rxActive i = true ∧ s.get (LRX.slice i n) = 1) ∧
  (∃ (s : State) (sd : Side) (p : Pos) (i n : Nat), i = laneIdx sd p ∧ (s.rxe i).verdict = some n ∧ s.rxActive i =
    false) ∧
  (∃ (s : State) (sd : Side) (p : Pos) (i n : Nat), i = laneIdx sd p ∧ n ∈ (s.txe i).verdicts ∧ n < 271 ∧ s.txActive i
    = true ∧ (s.txe i).lent = none) ∧
  (∃ (s : State) (sd : Side) (p : Pos) (i : Nat) (results : List FgResult), i = laneIdx sd p ∧ (s.rxe i).fg = true ∧
    s.rxActive i = true ∧ s.on CAL.refvBad = false ∧ results.all (fgResultOk .rx) = true ∧ s.maintJob 0 = none ∧
    s.maintJob 1 = none ∧ s.maintJob 2 = none ∧ s.maintJob 3 = none) ∧
  (∃ (s : State) (sd : Side) (p : Pos) (i : Nat) (results : List FgResult), i = laneIdx sd p ∧ (s.txe i).fg = true ∧
    s.txActive i = true ∧ s.on CAL.refvBad = false ∧ results.all (fgResultOk .tx) = true ∧ s.maintJob 0 = none ∧
    s.maintJob 1 = none ∧ s.maintJob 2 = none ∧ s.maintJob 3 = none) ∧
  (∃ (s : State) (fn : LaneFn) (sd : Side) (p : Pos) (i : Nat) (results : List FgResult), i = laneIdx sd p ∧
    results.all (fgResultOk fn) = true ∧ (s.on CAL.refvBad = true ∨ ((s.rxe i).fg = false ∧ (s.txe i).fg = false))) ∧
  (∃ (s : State) (sd : Side) (p : Pos) (n : Nat) (trim err : Int), 271 ≤ n) ∧
  (∃ (s : State) (fn : LaneFn) (sd : Side) (p : Pos) (results : List FgResult), results.all (fgResultOk fn) = false) := by
  exact ⟨⟨calm, .A, 0, 0, by decide +kernel⟩,
    ⟨calm.updTx 0 (fun x => { x with pass := some .replica }), .A, 0, 0, -100, 5, by decide +kernel⟩,
    ⟨(calm.put (GLB.tsState 0 0 0) 6).updTx 0 (fun x => { x with pass := some .serving }), .A, 0, 0, 0, 255, by decide +kernel⟩,
    ⟨calm.updTx 0 (fun x => { x with pass := some .serving, lent := some (270, 255) }), .A, 0, 0, 270, 255, 30, 0, by decide +kernel⟩,
    ⟨(calm.put CAL.hostSuspend 1).updTx 0 (fun x => { x with lent := some (270, 255) }), .A, 0, 0, 3, 0, by decide +kernel⟩,
    ⟨calm.put CAL.hostSuspend 1, .A, 0, .cell 3, 0, 0, by decide +kernel⟩,
    ⟨calm.updRx 0 (fun r => { r with verdict := some 64 }), .A, 0, 0, 64, by decide +kernel⟩,
    ⟨up.updRx 0 (fun r => { r with verdict := some 64 }), .A, 0, 0, 64, by decide +kernel⟩,
    ⟨calm.updTx 0 (fun r => { r with verdicts := [3] }), .A, 0, 0, 3, by decide +kernel⟩,
    ⟨calm.updRx 0 (fun r => { r with fg := true }), .A, 0, 0, [.slice 65 ⟨4161536, 7936409, 386663, 4161536⟩], by decide +kernel⟩,
    ⟨calm.updTx 0 (fun r => { r with fg := true }), .A, 0, 0, [.cell 270 3 0, .replica 1000 0], by decide +kernel⟩,
    ⟨calm, .tx, .A, 0, 0, [.replica 0 0], by decide +kernel⟩,
    ⟨calm, .A, 0, 271, 0, 0, by decide +kernel⟩,
    ⟨calm, .rx, .A, 0, [.slice 66 ⟨0, 0, 0, 0⟩], by decide +kernel⟩⟩

theorem witness_calibrationSuspensionAndTemperature :
  (∃ (s : State), s.writeTakes CAL.ctrl = true ∧ s.on CAL.guard = true ∧ s.on CAL.refvBad = false) ∧
  (∃ (s : State), s.writeTakes CAL.ctrl = true ∧ (s.on CAL.guard = false ∨ s.on CAL.refvBad = true)) ∧
  (∃ (s : State), s.writeTakes CAL.ctrl = false) ∧
  (∃ (s : State), s.on CAL.refvBad = true) ∧
  (∃ (s : State), s.on CAL.refvBad = false) ∧
  (∃ (s : State), s.on CAL.refvBad = false) ∧
  (∃ (s : State), s.sliceAt 1 .testing = none ∧ s.sliceAt 1 .moving = none ∧ s.sliceAt 1 .returning = none) ∧
  (∃ (s : State), s.on CAL.refvBad = false ∧ s.on CAL.refclkLost = false) ∧
  (∃ (s : State), s.on CAL.refvBad = true) ∧
  (∃ (s : State) (sd : Side) (p : Pos) (i : Nat), i = laneIdx sd p ∧ s.on CAL.holdLimit = true ∧ (s.rxe i).accepted
    = true ∧ (s.rxe i).holdDone = false) ∧
  (∃ (s : State) (sd : Side) (p : Pos), s.on CAL.holdLimit = false) ∧
  (∃ (s : State) (n : Fin 8), s.dwell.testBit n = true) ∧
  (∃ (s : State) (n : Fin 8), s.dwell.testBit n = false) := by
  exact ⟨⟨{ calm.put CAL.guard 1 with causes := 2 ^ 169 }, by decide +kernel⟩,
    ⟨(calm.put CAL.guard 1).put CAL.refvBad 1, by decide +kernel⟩,
    ⟨State.reset, by decide +kernel⟩,
    ⟨calm.put CAL.refvBad 1, by decide +kernel⟩,
    ⟨calm, by decide +kernel⟩,
    ⟨calm, by decide +kernel⟩,
    ⟨calm.put CAL.refvBad 1, by decide +kernel⟩,
    ⟨slicing ⟨1, 161, 0⟩ .testing, by decide +kernel⟩,
    ⟨calm.put CAL.refvBad 1, by decide +kernel⟩,
    ⟨(calm.put CAL.holdLimit 9).updRx 0 (fun r => { r with accepted := true, swap := some ⟨63, 64, .window, false, 0⟩ }), .A, 0, 0, by decide +kernel⟩,
    ⟨calm.put CAL.holdLimit 0, .A, 0, by decide +kernel⟩,
    ⟨{ calm with dwell := 1 }, 0, by decide +kernel⟩,
    ⟨calm, 7, by decide +kernel⟩⟩

theorem witness_ringsEventsAndMessages :
  (∃ (s : State) (q : RingN), s.writeTakes (RNG.q q + 0x14) = true ∧ s.get (RNG.state q) = 0 ∧ s.enableRingOk q =
    true) ∧
  (∃ (s : State) (q : RingN), s.writeTakes (RNG.q q + 0x14) = true ∧ s.get (RNG.state q) = 0 ∧ s.enableRingOk q =
    false) ∧
  (∃ (s : State) (q : RingN), s.writeTakes (RNG.q q + 0x14) = true ∧ s.get (RNG.state q) = 1) ∧
  (∃ (s : State) (q : RingN), s.writeTakes (RNG.q q + 0x14) = true ∧ s.get (RNG.state q) = 4) ∧
  (∃ (s : State), s.ringReset = true ∧ (∀ r ∈ s.rings, r.2.flights = [])) ∧
  (∃ (s : State), s.ringReset = true ∧ (∀ r ∈ s.rings, r.2.flights = [])) ∧
  (∃ (s : State) (n : Fin 13) (v : BitVec 6), s.writeTakes (RNG.evgrp n) = true) ∧
  (∃ (s : State) (r : EvReg) (b : Fin 24), b.val < evBits r) ∧
  (∃ (s : State) (r : EvReg) (b : Fin 24), evBits r ≤ b.val) ∧
  (∃ (s : State) (q : RingN), s.writeTakes (RNG.q q + 0x14) = true ∧ s.get (RNG.state q) ≠ 0) ∧
  (∃ (s : State) (q : RingN), s.writeTakes (RNG.q q + 0x14) = true ∧ s.get (RNG.state q) ≠ 1 ∧ s.get (RNG.state q) ≠
    4) ∧
  (∃ (s : State) (q : RingN) (n : Fin 13) (v : BitVec 6), s.writeTakes (RNG.q q + 0x14) = false ∧ s.writeTakes
    (RNG.evgrp n) = false) ∧
  (∃ (s : State), s.ringReset = false) := by
  exact ⟨⟨host, 63, by decide +kernel⟩,
    ⟨mgr, 4, by decide +kernel⟩,
    ⟨host.put (RNG.state 0) 1, 0, by decide +kernel⟩,
    ⟨host.put (RNG.state 0) 4, 0, by decide +kernel⟩,
    ⟨{ mgr with ringReset := true }, by decide +kernel⟩,
    ⟨{ mgr with ringReset := true }, by decide +kernel⟩,
    ⟨mgr, 12, 63, by decide +kernel⟩,
    ⟨State.reset, .lrx .B 33, 3, by decide +kernel⟩,
    ⟨State.reset, .prt, 3, by decide +kernel⟩,
    ⟨running, 4, by decide +kernel⟩,
    ⟨mgr, 63, by decide +kernel⟩,
    ⟨State.reset, 0, 0, 0, by decide +kernel⟩,
    ⟨mgr, by decide +kernel⟩⟩

theorem witness_doorbellsAndCompletions :
  (∃ (s : State) (r : DoorReq), doorSlotsOk r = true ∧ s.manager = false) ∧
  (∃ (s : State) (r : DoorReq), doorSlotsOk r = true ∧ s.manager = true ∧ s.fileUp = false) ∧
  (∃ (s : State) (r : DoorReq), doorSlotsOk r = true ∧ s.manager = true ∧ s.fileUp = true ∧ (s.pcie.memEnable = false
    ∨ s.on RNG.d3hot = true)) ∧
  (∃ (s : State) (r : DoorReq), doorSlotsOk r = true ∧ s.manager = true ∧ s.fileUp = true ∧ s.pcie.memEnable = true ∧
    s.on RNG.d3hot = false ∧ r.write = false) ∧
  (∃ (s : State) (r : DoorReq), doorSlotsOk r = true ∧ s.manager = true ∧ s.fileUp = true ∧ s.pcie.memEnable = true ∧
    s.on RNG.d3hot = false ∧ r.write = true ∧ r.poisoned = true) ∧
  (∃ (s u : State) (k : RingN) (q dws : Nat) (m j : HostImg) (d : Desc), u = s.tlpArrives [] ∧ j = u.seenImg q m ∧
    doorbellRing false k = some q ∧ s.manager = true ∧ s.fileUp = true ∧ u.pcie.memEnable = true ∧ u.on RNG.d3hot =
    false ∧ u.safe = false ∧ u.get (RNG.state q) = 1 ∧ u.fetchUp = true ∧ sub16 j.prod.toNat (u.get (RNG.cons q)) = 1
    ∧ j.prod.toNat = (u.get (RNG.cons q) + 1) % 65536 ∧ u.headBad q j.cqHead.toNat = false ∧ (u.updRing q (fun r => {
    r with cqHead := j.cqHead.toNat, stalled := false })).fetchLimited q = false ∧ (u.ring q).copies = [] ∧
    j.slots.getD 0 0 = d ∧ u.owned q d (u.get (RNG.cons q)) = true) ∧
  (∃ (s v : State) (k : RingN) (q dws : Nat) (m : HostImg), v = s.tlpArrives [] ∧ doorbellRing true k = some q ∧
    s.manager = true ∧ s.fileUp = true ∧ v.pcie.memEnable = true ∧ v.on RNG.d3hot = false ∧ v.get (RNG.state q) = 1 ∧
    v.fetchUp = true ∧ 2 ^ v.get (RNG.sqLog2 q) < sub16 (v.seenImg q m).prod.toNat (v.get (RNG.cons q))) ∧
  (∃ (s : State) (r : DoorReq), doorSlotsOk r = false) ∧
  (∃ (s : State) (q : RingN) (m : HostImg), (s.ring q).stalled = true ∧ s.fetchLimited q = false ∧ s.get (RNG.state q)
    = 1 ∧ s.fetchUp = true ∧ 2 ^ s.get (RNG.sqLog2 q) < sub16 (s.seenImg q m).prod.toNat (s.get (RNG.cons q))) ∧
  (∃ (s : State) (q : RingN) (m j : HostImg) (d : Desc), j = s.seenImg q m ∧ (s.ring q).stalled = true ∧
    s.fetchLimited q = false ∧ s.get (RNG.state q) = 1 ∧ s.fetchUp = true ∧ sub16 j.prod.toNat (s.get (RNG.cons q)) =
    1 ∧ j.prod.toNat = (s.get (RNG.cons q) + 1) % 65536 ∧ s.headBad q j.cqHead.toNat = false ∧ (s.updRing q (fun r =>
    { r with cqHead := j.cqHead.toNat, stalled := false })).fetchLimited q = false ∧ (s.ring q).copies = [] ∧
    j.slots.getD 0 0 = d ∧ s.owned q d (s.get (RNG.cons q)) = true) ∧
  (∃ (s : State) (q : RingN) (m j : HostImg), j = s.seenImg q m ∧ (s.ring q).stalled = true ∧ s.fetchLimited q = false
    ∧ s.get (RNG.state q) = 1 ∧ s.fetchUp = true ∧ j.prod.toNat = s.get (RNG.cons q) ∧ s.headBad q j.cqHead.toNat =
    false) ∧
  (∃ (s : State) (a : Nat) (b : Byte), s.pathWrites = []) ∧
  (∃ (s : State) (a : Nat) (b v : Byte) (l : List (Nat × List Word)) (w : Nat × List Word), s.pathWrites = l ++ [w] ∧
    writtenIn w a = some v) ∧
  (∃ (s : State) (q : RingN) (m : HostImg), ((s.ring q).stalled = false ∨ s.fetchLimited q = true ∨ (s.get (RNG.state
    q) ≠ 1))) ∧
  (∃ (s : State) (q : RingN) (h : BitVec 16), s.cqRoom q = 0 ∧ 1 ≤ s.get (RNG.state q) ∧ s.get (RNG.state q) ≤ 3 ∧
    s.fetchUp = true ∧ s.headBad q (s.seenHead q h) = false) ∧
  (∃ (s : State) (q : RingN) (h : BitVec 16), s.cqRoom q = 0 ∧ s.get (RNG.state q) = 1 ∧ s.fetchUp = true ∧ s.headBad
    q (s.seenHead q h) = true) ∧
  (∃ (s : State) (q : RingN) (h : BitVec 16), (s.cqRoom q ≠ 0 ∨ s.fetchUp = false ∨ s.get (RNG.state q) = 0 ∨ 4 ≤
    s.get (RNG.state q))) ∧
  (∃ (s : State) (q : RingN) (w : ReadFail), s.manager = true ∧ s.fileUp = true) ∧
  (∃ (s : State) (q : RingN) (w : ReadFail), s.manager = true ∧ s.fileUp = true ∧ s.on (FLT.live 165) = true ∧ s.get
    (RNG.state q) = 1) ∧
  (∃ (s : State) (q : RingN) (w : ReadFail) (i : BitVec 16) (f : Flight), s.manager = true ∧ s.fileUp = true ∧
    (s.readFailed w).flight q i.toNat = some f ∧ dType f.desc = 0x0F ∧ f.stage = .started) ∧
  (∃ (s : State) (q : RingN) (w : ReadFail) (i : BitVec 16), s.manager = true ∧ s.fileUp = true ∧ ((s.readFailed
    w).flight q i.toNat).all (fun f => decide (dType f.desc ≠ 0x0F ∨ f.stage ≠ .started)) = true) ∧
  (∃ (s : State) (q : RingN) (e : ReadError), (s.manager = false ∨ s.fileUp = false)) ∧
  (∃ (s : State) (q : RingN) (i : BitVec 16) (f : Flight), s.flight q i.toNat = some f ∧ s.mayComplete q f = true ∧
    s.hostUp = true) ∧
  (∃ (s : State) (q : RingN) (i : BitVec 16) (f : Flight), s.flight q i.toNat = some f ∧ (s.mayComplete q f = false ∨
    (s.hostUp = false ∧ s.ringReset = false))) ∧
  (∃ (s : State) (q : RingN) (i : BitVec 16), s.flight q i.toNat = none) := by
  exact ⟨⟨mgr.put GLB.strapRole 0, ⟨false, true, false, 1, [(3, ⟨0, []⟩)]⟩, by decide +kernel⟩,
    ⟨(atPhase .off).put GLB.strapRole 1, ⟨false, true, false, 1, [(3, ⟨0, []⟩)]⟩, by decide +kernel⟩,
    ⟨running.put RNG.d3hot 1, ⟨false, false, false, 1, []⟩, by decide +kernel⟩,
    ⟨running, ⟨true, false, false, 2, []⟩, by decide +kernel⟩,
    ⟨running, ⟨true, true, true, 1, [(0, ⟨0, []⟩)]⟩, by decide +kernel⟩,
    ⟨running, running.tlpArrives [], 0, 4, 1, ⟨1, [ownedDesc]⟩, ⟨1, [ownedDesc]⟩, ownedDesc, by decide +kernel⟩,
    ⟨running.put (RNG.state 0) 1, (running.put (RNG.state 0) 1).tlpArrives [], 0, 0, 1, ⟨17, []⟩, by decide +kernel⟩,
    ⟨running, ⟨true, true, true, 1, [(3, ⟨0, []⟩), (1, ⟨0, []⟩)]⟩, by decide +kernel⟩,
    ⟨running.updRing 4 (fun r => { r with stalled := true }), 4, ⟨17, []⟩, by decide +kernel⟩,
    ⟨running.updRing 4 (fun r => { r with stalled := true }), 4, ⟨1, [ownedDesc]⟩, ⟨1, [ownedDesc]⟩, ownedDesc, by decide +kernel⟩,
    ⟨running.updRing 4 (fun r => { r with stalled := true }), 4, ⟨0, []⟩, ⟨0, []⟩, by decide +kernel⟩,
    ⟨running, 0, 5, by decide +kernel⟩,
    ⟨running.emit (.hostWrite 64 [0x201#32]), 65, 5, 2, [], (64, [0x201#32]), by decide +kernel⟩,
    ⟨running, 4, ⟨17, []⟩, by decide +kernel⟩,
    ⟨running.put (RNG.cqTail 4) 16, 4, 3#16, by decide +kernel⟩,
    ⟨running.put (RNG.cqTail 4) 16, 4, 17#16, by decide +kernel⟩,
    ⟨running, 4, 0#16, by decide +kernel⟩,
    ⟨running, 4, .unsupported, by decide +kernel⟩,
    ⟨running.put (FLT.live 165) 1, 4, .timeout, by decide +kernel⟩,
    ⟨flying ⟨7, dsc 0x0F 0 0, 0, .started, 0, 0, 0, 0, 0⟩, 4, .poisoned, 7#16, ⟨7, dsc 0x0F 0 0, 0, .started, 0, 0, 0, 0, 0⟩, by decide +kernel⟩,
    ⟨running, 4, .aborted, 7#16, by decide +kernel⟩,
    ⟨up, 4, ⟨.timeout, none⟩, by decide +kernel⟩,
    ⟨flying ⟨7, 0, 0, .answered, 0, 0, 0, 0, 0⟩, 4, 7#16, ⟨7, 0, 0, .answered, 0, 0, 0, 0, 0⟩, by decide +kernel⟩,
    ⟨flying ⟨7, 0, 0, .held, 0, 0, 0, 0, 0⟩, 4, 7#16, ⟨7, 0, 0, .held, 0, 0, 0, 0, 0⟩, by decide +kernel⟩,
    ⟨running, 4, 7#16, by decide +kernel⟩⟩

theorem witness_thePcieFunction :
  (∃ (s : State) (r : CfgReq), s.manager = true ∧ s.fileUp = true ∧ s.crsNow = true ∧ (match r with
    | .link _ => false | _ => true) = true) ∧
  (∃ (s : State), s.manager = true ∧ s.fileUp = true ∧ s.crsNow = true ∧ s.on RNG.dlUp = false ∧ s.jtagPins = false) ∧
  (∃ (s : State) (c : CfgReg), s.manager = true ∧ s.fileUp = true ∧ s.crsNow = false ∧ s.on RNG.dlUp = true) ∧
  (∃ (s : State) (m b : Bool), s.manager = true ∧ s.fileUp = true ∧ s.crsNow = false) ∧
  (∃ (s : State) (n : Fin 6) (v : Word), s.manager = true ∧ s.fileUp = true ∧ s.crsNow = false ∧ s.pcie.bars.length =
    6) ∧
  (∃ (s : State) (e m : Bool), s.manager = true ∧ s.fileUp = true ∧ s.crsNow = false) ∧
  (∃ (s : State) (d : BitVec 4) (x y : Word), s.manager = true ∧ s.fileUp = true ∧ s.crsNow = false) ∧
  (∃ (s : State) (v : BitVec 16) (x y z : Word) (d : BitVec 4) (m : Fin 8), s.manager = true ∧ s.fileUp = true ∧
    s.crsNow = false) ∧
  (∃ (s : State) (v : Word), s.manager = true ∧ s.fileUp = true ∧ s.crsNow = false) ∧
  (∃ (s : State) (pm : Fin 3), s.manager = true ∧ s.on RNG.dlUp = true) ∧
  (∃ (s : State) (pm : Fin 3), s.on RNG.dlUp = false) ∧
  (∃ (s : State), s.manager = true) ∧
  (∃ (s : State) (r : BarReq), barDataOk r = true ∧ s.manager = true ∧ s.fileUp = true ∧ (s.pcie.memEnable = false ∨
    s.on RNG.d3hot = true ∨ (barLength r = false ∧ r.poisoned = false))) ∧
  (∃ (s : State) (r : BarReq), barDataOk r = true ∧ s.manager = true ∧ s.fileUp = true ∧ s.pcie.memEnable = true ∧
    s.on RNG.d3hot = false ∧ r.write = true ∧ r.poisoned = true) ∧
  (∃ (s : State) (r : BarReq), barDataOk r = true ∧ s.manager = true ∧ s.fileUp = true ∧ s.pcie.memEnable = true ∧
    s.on RNG.d3hot = false ∧ barLength r = true ∧ r.poisoned = false ∧ (0x800000 ≤ r.off.toNat ∨ (r.write = true ∧
    r.beAll = false))) ∧
  (∃ (s u : State) (a : Addr) (v : Word), u = s.tlpArrives [] ∧ s.manager = true ∧ s.fileUp = true ∧ s.pcie.memEnable
    = true ∧ s.on RNG.d3hot = false ∧ a.toNat % 4 = 0 ∧ a.toNat < 0x800000) ∧
  (∃ (s u : State) (a : Addr), u = s.tlpArrives [] ∧ s.manager = true ∧ s.fileUp = true ∧ s.pcie.memEnable = true ∧
    s.on RNG.d3hot = false ∧ a.toNat % 4 = 0 ∧ a.toNat < 0x800000) ∧
  (∃ (s : State) (r : BarReq), barDataOk r = true ∧ s.manager = true ∧ s.fileUp = true ∧ s.on RNG.dlUp = true ∧
    s.pcie.memEnable = false ∧ r.write = true ∧ r.corr ≠ []) ∧
  (∃ (s : State) (r : BarReq) (c : CfgReq), barDataOk r = true ∧ s.manager = false) ∧
  (∃ (s : State) (r : BarReq) (c : CfgReq), barDataOk r = true ∧ s.manager = true ∧ s.fileUp = false ∧ (match c with
    | .link _ => false | _ => true) = true) ∧
  (∃ (s : State), s.manager = false) ∧
  (∃ (s : State) (r : BarReq), barDataOk r = false) := by
  exact ⟨⟨{ mgr.put RNG.dlUp 1 with pcie := { Pcie.reset with crs := true } }, .ltr 5, by decide +kernel⟩,
    ⟨{ mgr with pcie := { Pcie.reset with crs := true } }, by decide +kernel⟩,
    ⟨running, .bar 4, by decide +kernel⟩,
    ⟨running, true, false, by decide +kernel⟩,
    ⟨running, 5, 0xFFFFFFFF#32, by decide +kernel⟩,
    ⟨running, true, true, by decide +kernel⟩,
    ⟨running, 15, 1#32, 2#32, by decide +kernel⟩,
    ⟨running, 3#16, 1#32, 2#32, 3#32, 5#4, 6, by decide +kernel⟩,
    ⟨running, 3#32, by decide +kernel⟩,
    ⟨running, 2, by decide +kernel⟩,
    ⟨mgr, 2, by decide +kernel⟩,
    ⟨running, by decide +kernel⟩,
    ⟨running, ⟨false, 4, 2, true, false, [], []⟩, by decide +kernel⟩,
    ⟨running, ⟨true, 5, 1, true, true, [5], []⟩, by decide +kernel⟩,
    ⟨running, ⟨true, 0x800000, 1, true, false, [5], []⟩, by decide +kernel⟩,
    ⟨running, running.tlpArrives [], 0x60004, 0x1234#32, by decide +kernel⟩,
    ⟨running, running.tlpArrives [], 0x60004, by decide +kernel⟩,
    ⟨{ running with pcie := Pcie.reset }, ⟨true, 4, 1, true, false, [5], [3, 3]⟩, by decide +kernel⟩,
    ⟨up, ⟨true, 4, 1, true, false, [5], []⟩, .link 1, by decide +kernel⟩,
    ⟨(atPhase .off).put GLB.strapRole 1, ⟨true, 4, 1, true, false, [5], []⟩, .ltr 5, by decide +kernel⟩,
    ⟨up, by decide +kernel⟩,
    ⟨mgr, ⟨true, 4, 1, true, false, [], []⟩, by decide +kernel⟩⟩

theorem witness_registerDescriptors :
  (∃ (s : State) (q : RingN) (i : BitVec 16) (f : Flight), s.starts q i.toNat 0x00 none = some f) ∧
  (∃ (s : State) (q : RingN) (i : BitVec 16) (f : Flight), s.starts q i.toNat 0x11 none = some f) ∧
  (∃ (s : State) (q : RingN) (i : BitVec 16) (c : Instr), s.flight q i.toNat = none ∧ c ∈ [.nop q i, .regRead q i,
    .regWrite q i, .regRmw q i, .bulkWrite q i, .bulkRead q i, .orbitBcast q i, .eclipse q i, .tstreamStart q i,
    .tstreamStop q i, .calSweep q i, .calTxpass q i, .calFull q i, .bistRun q i, .laneSwapSwap q i, .laneSwapRetrain q
    i, .laneSwapRestore q i, .quench q i, .unquench q i, .rquench q i, .runquench q i, .keyLoad q i, .fwLoadWrite q i
    [], .fwLoadActivate q i, .faultClearSource q i, .faultClearRecord q i, .faultClearSafe q i, .fence q i]) ∧
  (∃ (s : State) (q : RingN) (i : BitVec 16) (f : Flight) (a : Nat), s.starts q i.toNat 0x01 none = some f ∧ dTarget
    f.desc = 0 ∧ dField f.desc 11 1 = 1 ∧ dAddr f.desc = a ∧ s.accessStatus a = 0) ∧
  (∃ (s : State) (q : RingN) (i : BitVec 16) (f : Flight), s.starts q i.toNat 0x01 none = some f ∧ dTarget f.desc = 0
    ∧ (s.safe && safeRefuses f.desc) = false) ∧
  (∃ (s : State) (q : RingN) (i : BitVec 16) (f : Flight) (v : Word), s.starts q i.toNat 0x02 none = some f ∧ dTarget
    f.desc = 0 ∧ dAddr f.desc = 0x34 ∧ dField f.desc 12 4 = v.toNat ∧ s.fileUp = true ∧ s.safe = false) ∧
  (∃ (s : State) (q : RingN) (i : BitVec 16) (f : Flight), s.starts q i.toNat 0x02 none = some f ∧ dTarget f.desc = 0
    ∧ 0x800000 ≤ dAddr f.desc ∧ s.safe = false) ∧
  (∃ (s : State) (q : RingN) (i : BitVec 16) (f : Flight), s.starts q i.toNat 0x02 none = some f ∧ dTarget f.desc = 0
    ∧ (s.safe && safeRefuses f.desc) = false) ∧
  (∃ (s : State) (q : RingN) (i : BitVec 16) (f : Flight) (m v : Word), s.starts q i.toNat 0x03 none = some f ∧
    dTarget f.desc = 0 ∧ dAddr f.desc = 0x34 ∧ dField f.desc 12 4 = m.toNat ∧ dField f.desc 16 4 = v.toNat ∧ s.fileUp
    = true ∧ s.safe = false) ∧
  (∃ (s : State) (q : RingN) (i : BitVec 16) (f : Flight), s.starts q i.toNat 0x03 none = some f ∧ dTarget f.desc = 0
    ∧ (s.safe && safeRefuses f.desc) = false) ∧
  (∃ (s : State) (q : RingN) (i : BitVec 16) (f : Flight) (v w : Word), s.starts q i.toNat 0x04 none = some f ∧
    dTarget f.desc = 0 ∧ dField f.desc 56 3 = 0x10010 ∧ dField f.desc 59 1 = 2 ∧ dField f.desc 8 4 = v.toNat ∧ dField
    f.desc 12 4 = w.toNat ∧ s.fileUp = true) ∧
  (∃ (s : State) (q : RingN) (i : BitVec 16) (f : Flight), s.starts q i.toNat 0x04 none = some f ∧ dTarget f.desc = 0
    ∧ (s.safe && safeRefuses f.desc) = false) ∧
  (∃ (s : State) (q : RingN) (i : BitVec 16) (f : Flight), s.starts q i.toNat 0x05 none = some f ∧ dTarget f.desc = 0
    ∧ dAddr f.desc = 0x10010 ∧ dField f.desc 12 2 = 2 ∧ s.fileUp = true ∧ s.hostUp = true) ∧
  (∃ (s : State) (q : RingN) (i : BitVec 16) (f : Flight), s.starts q i.toNat 0x05 none = some f ∧ dTarget f.desc = 0
    ∧ (s.safe && safeRefuses f.desc) = false) ∧
  (∃ (s : State) (q : RingN) (i : BitVec 16) (f : Flight) (c : Instr) (ty : Nat) (op : Option Nat), (c, ty, op) ∈
    [(.regRead q i, 0x01, none), (.regWrite q i, 0x02, none), (.regRmw q i, 0x03, none), (.bulkWrite q i, 0x04, none),
    (.bulkRead q i, 0x05, none), (.tstreamStart q i, 0x08, none), (.tstreamStop q i, 0x09, none), (.calSweep q i,
    0x0A, some 0), (.calTxpass q i, 0x0A, some 1), (.calFull q i, 0x0A, some 2), (.bistRun q i, 0x0B, none),
    (.laneSwapSwap q i, 0x0C, some 0), (.laneSwapRetrain q i, 0x0C, some 1), (.laneSwapRestore q i, 0x0C, some 2),
    (.fwLoadActivate q i, 0x0F, some 1)] ∧ s.starts q i.toNat ty op = some f ∧ dTarget f.desc = 0 ∧ s.safe = true ∧
    safeRefuses f.desc = true) ∧
  (∃ (s : State) (q : RingN) (i : BitVec 16) (f : Flight) (c : Instr) (ty : Nat) (op : Option Nat) (ft : Nat) (pay :
    List Byte), (c, ty, op, ft, pay) ∈ [(.regRead q i, 0x01, none, 1, regPayload 0 (dAddr f.desc) (dField f.desc 11 1)
    []), (.regWrite q i, 0x02, none, 1, regPayload 1 (dAddr f.desc) 1 (bytesOf 4 (dField f.desc 12 4))), (.regRmw q i,
    0x03, none, 1, regPayload 2 (dAddr f.desc) 1 (bytesOf 8 (dField f.desc 12 8))), (.bulkWrite q i, 0x04, none, 1,
    regPayload 3 (dField f.desc 56 3) (dField f.desc 59 1) (bytesOf (4 * dField f.desc 59 1) (dField f.desc 8 48))),
    (.bulkRead q i, 0x05, none, 1, regPayload 4 (dAddr f.desc) (dField f.desc 12 2) []), (.tstreamStop q i, 0x09,
    none, 4, opPayload f.desc), (.calSweep q i, 0x0A, some 0, 4, opPayload f.desc), (.calTxpass q i, 0x0A, some 1, 4,
    opPayload f.desc), (.calFull q i, 0x0A, some 2, 4, opPayload f.desc), (.bistRun q i, 0x0B, none, 4, opPayload
    f.desc), (.laneSwapSwap q i, 0x0C, some 0, 4, opPayload f.desc), (.laneSwapRetrain q i, 0x0C, some 1, 4, opPayload
    f.desc), (.laneSwapRestore q i, 0x0C, some 2, 4, opPayload f.desc), (.keyLoad q i, 0x0E, none, 4, opPayload
    f.desc), (.fwLoadActivate q i, 0x0F, some 1, 4, opPayload f.desc), (.faultClearSource q i, 0x10, some 0, 4,
    opPayload f.desc), (.faultClearRecord q i, 0x10, some 1, 4, opPayload f.desc), (.faultClearSafe q i, 0x10, some 2,
    4, opPayload f.desc)] ∧ s.starts q i.toNat ty op = some f ∧ dTarget f.desc ≠ 0) := by
  exact ⟨⟨offered 0#512, 4, 7#16, fresh 0#512, by decide +kernel⟩,
    ⟨offered (dsc 0x11 0 0), 4, 7#16, fresh (dsc 0x11 0 0), by decide +kernel⟩,
    ⟨running, 4, 7#16, .runquench 4 7#16, by decide +kernel⟩,
    ⟨(offered (dsc 0x01 0 0x01000034)).setReg 0x34 0x15#32, 4, 7#16, fresh (dsc 0x01 0 0x01000034), 0x34, by decide +kernel⟩,
    ⟨(offered (dsc 0x01 0 0x02040060)), 4, 7#16, fresh (dsc 0x01 0 0x02040060), by decide +kernel⟩,
    ⟨offered (dsc 0x02 0 0xFFFFFFFF00000034), 4, 7#16, fresh (dsc 0x02 0 0xFFFFFFFF00000034), 0xFFFFFFFF#32, by decide +kernel⟩,
    ⟨offered (dsc 0x02 0 0xFFFFFFFF00800000), 4, 7#16, fresh (dsc 0x02 0 0xFFFFFFFF00800000), by decide +kernel⟩,
    ⟨offered (dsc 0x02 0 0xFFFFFFFF00000034), 4, 7#16, fresh (dsc 0x02 0 0xFFFFFFFF00000034), by decide +kernel⟩,
    ⟨(offered (dsc 0x03 0 0x12340000FF0F00000034)).setReg 0x34 0x2AAA#32, 4, 7#16, fresh (dsc 0x03 0 0x12340000FF0F00000034), 0x0000FF0F#32, 0x00001234#32, by decide +kernel⟩,
    ⟨(offered (dsc 0x03 0 0x12340000FF0F00000034)), 4, 7#16, fresh (dsc 0x03 0 0x12340000FF0F00000034), by decide +kernel⟩,
    ⟨halted (dsc 0x04 0 (0x0022446600000055 + 2 ^ 384 * 0x02010010)), 4, 7#16, fresh (dsc 0x04 0 (0x0022446600000055 + 2 ^ 384 * 0x02010010)), 0x55#32, 0x224466#32, by decide +kernel⟩,
    ⟨offered (dsc 0x04 0 (0x0022446600000055 + 2 ^ 384 * 0x02010010)), 4, 7#16, fresh (dsc 0x04 0 (0x0022446600000055 + 2 ^ 384 * 0x02010010)), by decide +kernel⟩,
    ⟨(offered (dsc 0x05 0 (0x0000000200010010 + 2 ^ 64 * 0x5000))).setReg 0x10014 7#32, 4, 7#16, fresh (dsc 0x05 0 (0x0000000200010010 + 2 ^ 64 * 0x5000)), by decide +kernel⟩,
    ⟨(offered (dsc 0x05 0 (0x0000000200010010 + 2 ^ 64 * 0x5000))), 4, 7#16, fresh (dsc 0x05 0 (0x0000000200010010 + 2 ^ 64 * 0x5000)), by decide +kernel⟩,
    ⟨halted (dsc 0x0C 0 2), 4, 7#16, fresh (dsc 0x0C 0 2), .laneSwapRestore 4 7#16, 0x0C, some 2, by decide +kernel⟩,
    ⟨chained (dsc 0x05 5 0x0000000200010010), 4, 7#16, fresh (dsc 0x05 5 0x0000000200010010), .bulkRead 4 7#16, 5, none, 1, regPayload 4 0x10010 2 [], by decide +kernel⟩⟩

theorem witness_dispatchChecks :
  (∃ (s : State) (q : Nat) (d : Desc), 0x12 ≤ dType d) ∧
  (∃ (s : State) (q : Nat) (d : Desc), dType d ∈ [0x0B, 0x0D, 0x0E, 0x0F, 0x10] ∧ 4 ≤ q) ∧
  (∃ (s : State) (q : Nat) (d : Desc), dType d < 0x12 ∧ (dType d ∈ [0x0B, 0x0D, 0x0E, 0x0F, 0x10] → q < 4)) ∧
  (∃ (s : State) (q : RingN) (i : Nat) (d : Desc) (st : Nat), s.descCheck q d = some st ∧ (s.ring q).flights = [] ∧
    i < 65536) ∧
  (∃ (s : State) (q : RingN) (i : Nat) (d : Desc), s.descCheck q d = none ∧ (s.ring q).flights = [] ∧ i < 65536) ∧
  (∃ (s : State) (q : Nat) (n p : Nat) (d : Desc) (l : List Desc), s.get (RNG.cons q) ≠ p ∧ s.fetchLimited q = false
    ∧ s.copyOf q (s.get (RNG.cons q)) = none ∧ s.owned q d (s.get (RNG.cons q)) = true) ∧
  (∃ (s : State) (q : Nat) (n p : Nat) (d : Desc) (l : List Desc), s.get (RNG.cons q) ≠ p ∧ s.fetchLimited q = false
    ∧ s.copyOf q (s.get (RNG.cons q)) = some d ∧ s.owned q d (s.get (RNG.cons q)) = true) ∧
  (∃ (s : State) (q : Nat) (n p : Nat) (l : List Desc), (s.get (RNG.cons q) = p ∨ s.fetchLimited q = true)) := by
  exact ⟨⟨State.reset, 4, dsc 0x12 0 0, by decide +kernel⟩,
    ⟨State.reset, 4, dsc 0x10 0 0, by decide +kernel⟩,
    ⟨State.reset, 3, dsc 0x10 0 0, by decide +kernel⟩,
    ⟨running, 63, 65535, dsc 0x0D 0 0, 2, by decide +kernel⟩,
    ⟨running, 63, 65535, dsc 0x01 0 0x01000034, by decide +kernel⟩,
    ⟨running, 4, 3, 1, BitVec.ofNat 512 (2 ^ 511), [], by decide +kernel⟩,
    ⟨running.updRing 4 (fun r => { r with copies := [(0, BitVec.ofNat 512 (2 ^ 511))] }), 4, 3, 1, BitVec.ofNat 512 (2 ^ 511), [0], by decide +kernel⟩,
    ⟨running, 4, 3, 0, [], by decide +kernel⟩⟩

theorem witness_laneAndStreamDescriptors :
  (∃ (s : State) (q : RingN) (i : BitVec 16) (f : Flight) (n : Fin 16), s.starts q i.toNat 0x08 none = some f ∧
    dTarget f.desc = 0 ∧ (s.safe && safeRefuses f.desc) = false ∧ dField f.desc 8 1 = n.val ∧ selectOk (dField f.desc
    16 8) = true ∧ dField f.desc 9 1 < 64 ∧ dField f.desc 12 4 < 65536) ∧
  (∃ (s : State) (q : RingN) (i : BitVec 16) (f : Flight), s.starts q i.toNat 0x08 none = some f ∧ dTarget f.desc = 0
    ∧ (s.safe && safeRefuses f.desc) = false ∧ selectOk (dField f.desc 16 8) = false) ∧
  (∃ (s : State) (q : RingN) (i : BitVec 16) (f : Flight), s.starts q i.toNat 0x08 none = some f ∧ dTarget f.desc ≠ 0
    ∧ s.on ORB.conflict = false ∧ s.orbPaused = false) ∧
  (∃ (s : State) (q : RingN) (i : BitVec 16) (f : Flight) (n : Fin 16), s.starts q i.toNat 0x09 none = some f ∧
    dTarget f.desc = 0 ∧ (s.safe && safeRefuses f.desc) = false ∧ dField f.desc 8 1 = n.val) ∧
  (∃ (s : State) (q : RingN) (i : BitVec 16) (f : Flight), s.starts q i.toNat 0x0A (some 0) = some f ∧ dTarget f.desc
    = 0 ∧ (s.safe && safeRefuses f.desc) = false ∧ s.calSuspended = true) ∧
  (∃ (s : State) (q : RingN) (i : BitVec 16) (f : Flight), s.starts q i.toNat 0x0A (some 0) = some f ∧ dTarget f.desc
    = 0 ∧ (s.safe && safeRefuses f.desc) = false ∧ s.calSuspended = false ∧ (setBits 68 (dField f.desc 16 9)).filter
    (fun k => s.rxActive k) = []) ∧
  (∃ (s : State) (q : RingN) (i : BitVec 16) (f : Flight) (n : Fin 68), s.starts q i.toNat 0x0A (some 0) = some f ∧
    dTarget f.desc = 0 ∧ (s.safe && safeRefuses f.desc) = false ∧ s.calSuspended = false ∧ setBits 68 (dField f.desc
    16 9) = [n.val] ∧ s.rxActive n = true ∧ (s.rxe n).holdDone = false) ∧
  (∃ (s : State) (q : RingN) (i : BitVec 16) (f : Flight) (n : Fin 68), s.starts q i.toNat 0x0A (some 0) = some f ∧
    dTarget f.desc = 0 ∧ (s.safe && safeRefuses f.desc) = false ∧ s.calSuspended = false ∧ setBits 68 (dField f.desc
    16 9) = [n.val] ∧ s.rxActive n = true ∧ (s.rxe n).holdDone = true) ∧
  (∃ (s : State) (q : RingN) (i : BitVec 16) (f : Flight), s.starts q i.toNat 0x0A (some 1) = some f ∧ dTarget f.desc
    = 0 ∧ (s.safe && safeRefuses f.desc) = false ∧ s.calSuspended = true) ∧
  (∃ (s : State) (q : RingN) (i : BitVec 16) (f : Flight), s.starts q i.toNat 0x0A (some 1) = some f ∧ dTarget f.desc
    = 0 ∧ (s.safe && safeRefuses f.desc) = false ∧ s.calSuspended = false ∧ (setBits 68 (dField f.desc 16 9)).filter
    (fun k => s.txActive k) = []) ∧
  (∃ (s : State) (q : RingN) (i : BitVec 16) (f : Flight) (n : Fin 68), s.starts q i.toNat 0x0A (some 1) = some f ∧
    dTarget f.desc = 0 ∧ (s.safe && safeRefuses f.desc) = false ∧ s.calSuspended = false ∧ setBits 68 (dField f.desc
    16 9) = [n.val] ∧ s.txActive n = true) ∧
  (∃ (s : State) (q : RingN) (i : BitVec 16) (f : Flight) (g : Port) (sd : Fin 2), s.starts q i.toNat 0x0A (some 2) =
    some f ∧ dTarget f.desc = 0 ∧ (s.safe && safeRefuses f.desc) = false ∧ dField f.desc 10 1 = g.val ∧ dField f.desc
    9 1 = sd.val ∧ s.movable g sd = true) ∧
  (∃ (s : State) (q : RingN) (i : BitVec 16) (f : Flight), s.starts q i.toNat 0x0A (some 2) = some f ∧ dTarget f.desc
    = 0 ∧ (s.safe && safeRefuses f.desc) = false ∧ s.movable (dField f.desc 10 1) (dField f.desc 9 1) = false) ∧
  (∃ (s : State) (q : RingN) (i : BitVec 16) (f : Flight) (g : Port) (sd : Fin 2), s.starts q i.toNat 0x0C (some 1) =
    some f ∧ dTarget f.desc = 0 ∧ (s.safe && safeRefuses f.desc) = false ∧ dField f.desc 10 1 = g.val ∧ dField f.desc
    9 1 = sd.val ∧ s.movable g sd = true) ∧
  (∃ (s : State) (q : RingN) (i : BitVec 16) (f : Flight), s.starts q i.toNat 0x0C (some 1) = some f ∧ dTarget f.desc
    = 0 ∧ (s.safe && safeRefuses f.desc) = false ∧ s.movable (dField f.desc 10 1) (dField f.desc 9 1) = false) ∧
  (∃ (s : State) (q : RingN) (i : BitVec 16) (f : Flight) (g : Port) (sd : Fin 2), s.starts q i.toNat 0x0C (some 0) =
    some f ∧ dTarget f.desc = 0 ∧ (s.safe && safeRefuses f.desc) = false ∧ dField f.desc 10 1 = g.val ∧ dField f.desc
    9 1 = sd.val ∧ s.movable g sd = true ∧ (s.lanePos g sd (dField f.desc 11 1)).isSome = true) ∧
  (∃ (s : State) (q : RingN) (i : BitVec 16) (f : Flight), s.starts q i.toNat 0x0C (some 0) = some f ∧ dTarget f.desc
    = 0 ∧ (s.safe && safeRefuses f.desc) = false ∧ ((s.lanePos (dField f.desc 10 1) (dField f.desc 9 1) (dField f.desc
    11 1)).isNone = true ∨ s.on (GLB.en (dField f.desc 10 1)) = false ∨ (s.cfl (dField f.desc 10 1) && !s.movable
    (dField f.desc 10 1) (dField f.desc 9 1)) = true)) ∧
  (∃ (s : State) (q : RingN) (i : BitVec 16) (f : Flight) (g : Port) (sd : Fin 2), s.starts q i.toNat 0x0C (some 2) =
    some f ∧ dTarget f.desc = 0 ∧ (s.safe && safeRefuses f.desc) = false ∧ dField f.desc 10 1 = g.val ∧ dField f.desc
    9 1 = sd.val ∧ s.movable g sd = true) ∧
  (∃ (s : State) (q : RingN) (i : BitVec 16) (f : Flight) (g : Port) (sd : Fin 2), s.starts q i.toNat 0x0C (some 2) =
    some f ∧ dTarget f.desc = 0 ∧ (s.safe && safeRefuses f.desc) = false ∧ dField f.desc 10 1 = g.val ∧ dField f.desc
    9 1 = sd.val ∧ s.movable g sd = false) ∧
  (∃ (s : State) (q : RingN) (i : BitVec 16) (f : Flight) (g : Port) (sd : Fin 2) (n p : Nat), s.starts q i.toNat 0x0C
    (some 0) = some f ∧ dTarget f.desc = 0 ∧ (s.safe && safeRefuses f.desc) = false ∧ dField f.desc 10 1 = g.val ∧
    dField f.desc 9 1 = sd.val ∧ dField f.desc 11 1 = n ∧ s.cfl g = false ∧ s.on (GLB.en g) = true ∧ (s.lanePos g sd
    n).isSome = true ∧ s.moveTarget g { Job.blank .move sd n with toPos := dField f.desc 12 1 } = some p ∧
    isUpOrTraining (s.segState g sd (s.portOfLane g n)) = true) ∧
  (∃ (s : State) (q : RingN) (i : BitVec 16) (f : Flight) (g : Port) (sd : Fin 2) (n : Nat), s.starts q i.toNat 0x0C
    (some 0) = some f ∧ dTarget f.desc = 0 ∧ (s.safe && safeRefuses f.desc) = false ∧ dField f.desc 10 1 = g.val ∧
    dField f.desc 9 1 = sd.val ∧ dField f.desc 11 1 = n ∧ s.cfl g = false ∧ (s.moveTarget g { Job.blank .move sd n
    with toPos := dField f.desc 12 1 } = none ∨ isUpOrTraining (s.segState g sd (s.portOfLane g n)) = false)) := by
  exact ⟨⟨(offered (dsc 8 0 (15 + 2 ^ 8 * 63 + 2 ^ 32 * 60000 + 2 ^ 64 * 0xFFFFFF0000))), 4, 7#16, fresh (dsc 8 0 (15 + 2 ^ 8 * 63 + 2 ^ 32 * 60000 + 2 ^ 64 * 0xFFFFFF0000)), 15, by decide +kernel⟩,
    ⟨offered (dsc 8 0 (2 ^ 64 * 4)), 4, 7#16, fresh (dsc 8 0 (2 ^ 64 * 4)), by decide +kernel⟩,
    ⟨chained (dsc 8 5 0x203), 4, 7#16, fresh (dsc 8 5 0x203), by decide +kernel⟩,
    ⟨(offered (dsc 9 0 3)).put (ECL.sActive 3) 1, 4, 7#16, fresh (dsc 9 0 3), 3, by decide +kernel⟩,
    ⟨(firm (dsc 0xA 0 (2 ^ 64 * 3))).put CAL.refvBad 1, 4, 7#16, fresh (dsc 0xA 0 (2 ^ 64 * 3)), by decide +kernel⟩,
    ⟨(firm (dsc 0xA 0 (2 ^ 64 * (2 ^ 67 + 3)))).put CAL.en 1, 4, 7#16, fresh (dsc 0xA 0 (2 ^ 64 * (2 ^ 67 + 3))), by decide +kernel⟩,
    ⟨((firm (dsc 0xA 0 (2 ^ 64 * 2))).put CAL.en 1).put (LRX.pwr 1) 2, 4, 7#16, fresh (dsc 0xA 0 (2 ^ 64 * 2)), 1, by decide +kernel⟩,
    ⟨(((firm (dsc 0xA 0 (2 ^ 64 * 2))).put CAL.en 1).put (LRX.pwr 1) 2).updRx 1 (fun r => { r with holdDone := true }), 4, 7#16, fresh (dsc 0xA 0 (2 ^ 64 * 2)), 1, by decide +kernel⟩,
    ⟨(firm (dsc 0xA 0 (1 + 2 ^ 64 * 3))).put CAL.refvBad 1, 4, 7#16, fresh (dsc 0xA 0 (1 + 2 ^ 64 * 3)), by decide +kernel⟩,
    ⟨(firm (dsc 0xA 0 (1 + 2 ^ 64 * (2 ^ 67 + 3)))).put CAL.en 1, 4, 7#16, fresh (dsc 0xA 0 (1 + 2 ^ 64 * (2 ^ 67 + 3))), by decide +kernel⟩,
    ⟨((firm (dsc 0xA 0 (1 + 2 ^ 64 * 2))).put CAL.en 1).put (LTX.pwr 1) 2, 4, 7#16, fresh (dsc 0xA 0 (1 + 2 ^ 64 * 2)), 1, by decide +kernel⟩,
    ⟨upWith (dsc 0xA 0 (2 + 2 ^ 24 * 7)), 4, 7#16, fresh (dsc 0xA 0 (2 + 2 ^ 24 * 7)), 0, 0, by decide +kernel⟩,
    ⟨firm (dsc 0xA 0 2), 4, 7#16, fresh (dsc 0xA 0 2), by decide +kernel⟩,
    ⟨upWith (dsc 0xC 0 (1 + 2 ^ 8)), 4, 7#16, fresh (dsc 0xC 0 (1 + 2 ^ 8)), 0, 1, by decide +kernel⟩,
    ⟨upWith (dsc 0xC 0 (1 + 2 ^ 16)), 4, 7#16, fresh (dsc 0xC 0 (1 + 2 ^ 16)), by decide +kernel⟩,
    ⟨upWith (dsc 0xC 0 (2 ^ 24 * 7 + 2 ^ 32 * 2)), 4, 7#16, fresh (dsc 0xC 0 (2 ^ 24 * 7 + 2 ^ 32 * 2)), 0, 0, by decide +kernel⟩,
    ⟨offered (dsc 0xC 0 0), 4, 7#16, fresh (dsc 0xC 0 0), by decide +kernel⟩,
    ⟨upWith (dsc 0xC 0 2), 4, 7#16, fresh (dsc 0xC 0 2), 0, 0, by decide +kernel⟩,
    ⟨(offered (dsc 0xC 0 2)).updPort 0 (fun r => { r with channel := 1 }), 4, 7#16, fresh (dsc 0xC 0 2), 0, 0, by decide +kernel⟩,
    ⟨((((((((offered (dsc 0xC 0 (2 ^ 16 + 2 ^ 24 * 3))).setReg (GLB.pgcfg 1) 0).put (GLB.proto 1) 1).put (GLB.pers 1) 1).put (GLB.elane 1 0) 4).put (GLB.en 1) 1).put (GLB.reach 0 0 1) 1).put (GLB.tsState 1 0 0) 6).put (GLB.spareStat 0 0) 4, 4, 7#16, fresh (dsc 0xC 0 (2 ^ 16 + 2 ^ 24 * 3)), 1, 0, 3, 32, by decide +kernel⟩,
    ⟨((((((offered (dsc 0xC 0 (2 ^ 16 + 2 ^ 24 * 3))).setReg (GLB.pgcfg 1) 0).put (GLB.proto 1) 1).put (GLB.pers 1) 1).put (GLB.elane 1 0) 4).put (GLB.en 1) 1).put (GLB.reach 0 0 1) 1, 4, 7#16, fresh (dsc 0xC 0 (2 ^ 16 + 2 ^ 24 * 3)), 1, 0, 3, by decide +kernel⟩⟩

theorem witness_testKeyFirmwareAndFaultDescriptors :
  (∃ (s : State) (q : RingN) (i : BitVec 16) (f : Flight), s.starts q i.toNat 0x0B none = some f ∧ dTarget f.desc = 0
    ∧ (s.safe && safeRefuses f.desc) = false ∧ s.bist ≠ []) ∧
  (∃ (s : State) (q : RingN) (i : BitVec 16) (f : Flight), s.starts q i.toNat 0x0B none = some f ∧ dTarget f.desc = 0
    ∧ (s.safe && safeRefuses f.desc) = false ∧ s.bist = [] ∧ (dSlices f.desc).all s.slicePre = true ∧ dField f.desc 16
    1 ≠ 0 ∧ (dSlices f.desc).all (fun x => decide (x.kind < 8)) = true) ∧
  (∃ (s : State) (q : RingN) (i : BitVec 16) (f : Flight), s.starts q i.toNat 0x0B none = some f ∧ dTarget f.desc = 0
    ∧ (s.safe && safeRefuses f.desc) = false ∧ s.bist = [] ∧ (dSlices f.desc).all s.slicePre = false) ∧
  (∃ (s : State) (q : RingN) (i : BitVec 16) (f : Flight) (g : Port) (sd slot : Fin 2) (e : Fin 2), s.starts q i.toNat
    0x0E none = some f ∧ dTarget f.desc = 0 ∧ dField f.desc 8 1 = g.val ∧ dField f.desc 9 1 = sd.val ∧ dField f.desc
    10 1 = slot.val ∧ s.keyInUse g sd slot = false) ∧
  (∃ (s : State) (q : RingN) (i : BitVec 16) (f : Flight), s.starts q i.toNat 0x0E none = some f ∧ dTarget f.desc = 0
    ∧ s.keyInUse (dField f.desc 8 1) (dField f.desc 9 1) (dField f.desc 10 1) = true) ∧
  (∃ (s : State) (q : RingN) (i : BitVec 16) (f : Flight) (l : List Byte), s.starts q i.toNat 0x0F (some 0) = some f ∧
    dTarget f.desc = 0 ∧ (s.safe && safeRefuses f.desc) = false ∧ s.core.loads ≠ [] ∧ l.length = dField f.desc 12 4 ∧
    l.length ≤ 524288) ∧
  (∃ (s : State) (q : RingN) (i : BitVec 16) (f : Flight) (l : List Byte), s.starts q i.toNat 0x0F (some 0) = some f ∧
    dTarget f.desc = 0 ∧ (s.safe && safeRefuses f.desc) = false ∧ s.core.loads = [] ∧ s.flash.trial = false ∧
    s.flash.active ≤ 1 ∧ s.flash.valid ≤ 3 ∧ l.length = dField f.desc 12 4 ∧ l.length ≤ 524288) ∧
  (∃ (s : State) (q : RingN) (i : BitVec 16) (f : Flight) (l : List Byte), s.starts q i.toNat 0x0F (some 0) = some f ∧
    dTarget f.desc = 0 ∧ (s.safe && safeRefuses f.desc) = false ∧ s.core.loads = [] ∧ s.flash.trial = true ∧ l.length
    = dField f.desc 12 4 ∧ l.length ≤ 524288) ∧
  (∃ (s : State) (q : RingN) (i : BitVec 16) (f : Flight) (l : List Byte), s.starts q i.toNat 0x0F (some 0) = some f ∧
    dTarget f.desc ≠ 0 ∧ s.on ORB.conflict = false ∧ s.orbPaused = false ∧ (s.freeTag (dTarget f.desc)).isSome = true
    ∧ l.length = dField f.desc 12 4 ∧ l.length ≤ 524288) ∧
  (∃ (s : State) (q : RingN) (i : BitVec 16) (f : Flight) (l : List Byte), s.starts q i.toNat 0x0F (some 0) = some f ∧
    l.length ≠ dField f.desc 12 4) ∧
  (∃ (s : State) (q : RingN) (i : BitVec 16) (f : Flight), s.starts q i.toNat 0x0F (some 1) = some f ∧ dTarget f.desc
    = 0 ∧ (s.safe && safeRefuses f.desc) = false ∧ s.core.loads = [] ∧ s.flash.valid.testBit (1 - s.flash.active) =
    false) ∧
  (∃ (s : State) (q : RingN) (i : BitVec 16) (f : Flight), s.starts q i.toNat 0x0F (some 1) = some f ∧ dTarget f.desc
    = 0 ∧ (s.safe && safeRefuses f.desc) = false ∧ s.core.loads = [] ∧ s.flash.valid.testBit (1 - s.flash.active) =
    true) ∧
  (∃ (s : State) (q : RingN) (i : BitVec 16) (f : Flight) (n : Source), s.starts q i.toNat 0x10 (some 0) = some f ∧
    dTarget f.desc = 0 ∧ dField f.desc 10 2 = n.val ∧ s.on (FLT.live n) = false) ∧
  (∃ (s : State) (q : RingN) (i : BitVec 16) (f : Flight) (n : Source), s.starts q i.toNat 0x10 (some 0) = some f ∧
    dTarget f.desc = 0 ∧ dField f.desc 10 2 = n.val ∧ s.on (FLT.live n) = true) ∧
  (∃ (s : State) (q : RingN) (i : BitVec 16) (f : Flight) (k : Fin 64), s.starts q i.toNat 0x10 (some 1) = some f ∧
    dTarget f.desc = 0) ∧
  (∃ (s : State) (q : RingN) (i : BitVec 16) (f : Flight), s.starts q i.toNat 0x10 (some 2) = some f ∧ dTarget f.desc
    = 0 ∧ (s.safe = false ∨ s.blockers ≠ [])) ∧
  (∃ (s : State) (q : RingN) (i : BitVec 16) (f : Flight), s.starts q i.toNat 0x10 (some 2) = some f ∧ dTarget f.desc
    = 0 ∧ s.safe = true ∧ s.blockers = []) := by
  exact ⟨⟨{ firm (dsc 0xB 0 (2 ^ 64 * (1 + 2 ^ 64 * 3))) with bist := scanning.bist }, 4, 7#16, fresh (dsc 0xB 0 (2 ^ 64 * (1 + 2 ^ 64 * 3))), by decide +kernel⟩,
    ⟨firm (dsc 0xB 0 (2 ^ 64 * (1 + 2 ^ 64 * 3))), 4, 7#16, fresh (dsc 0xB 0 (2 ^ 64 * (1 + 2 ^ 64 * 3))), by decide +kernel⟩,
    ⟨(firm (dsc 0xB 0 (2 ^ 64 * (1 + 2 ^ 64 * 4)))).put (GLB.en 3) 1, 4, 7#16, fresh (dsc 0xB 0 (2 ^ 64 * (1 + 2 ^ 64 * 4))), by decide +kernel⟩,
    ⟨halted (dsc 0xE 0 (3 + 2 ^ 8 + 2 ^ 16 + 2 ^ 64 * 77)), 4, 7#16, fresh (dsc 0xE 0 (3 + 2 ^ 8 + 2 ^ 16 + 2 ^ 64 * 77)), 3, 1, 1, by decide +kernel⟩,
    ⟨upWith (dsc 0xE 0 (2 ^ 64 * 77)), 4, 7#16, fresh (dsc 0xE 0 (2 ^ 64 * 77)), by decide +kernel⟩,
    ⟨{ firm (dsc 0xF 0 (2 ^ 32 * 2)) with core := written.core }, 4, 7#16, fresh (dsc 0xF 0 (2 ^ 32 * 2)), [1, 2], by decide +kernel⟩,
    ⟨{ firm (dsc 0xF 0 (2 ^ 32 * 2)) with flash := Flash.of 3 1 false }, 4, 7#16, fresh (dsc 0xF 0 (2 ^ 32 * 2)), [1, 2], by decide +kernel⟩,
    ⟨{ firm (dsc 0xF 0 (2 ^ 32 * 2)) with flash := Flash.of 3 1 true }, 4, 7#16, fresh (dsc 0xF 0 (2 ^ 32 * 2)), [1, 2], by decide +kernel⟩,
    ⟨chained (dsc 0xF 5 (2 ^ 32 * 2)), 4, 7#16, fresh (dsc 0xF 5 (2 ^ 32 * 2)), [1, 2], by decide +kernel⟩,
    ⟨{ firm (dsc 0xF 0 (2 ^ 32 * 2)) with flash := Flash.of 3 1 false }, 4, 7#16, fresh (dsc 0xF 0 (2 ^ 32 * 2)), [1], by decide +kernel⟩,
    ⟨{ firm (dsc 0xF 0 1) with flash := Flash.of 1 0 false }, 4, 7#16, fresh (dsc 0xF 0 1), by decide +kernel⟩,
    ⟨{ firm (dsc 0xF 0 1) with flash := Flash.of 3 0 false }, 4, 7#16, fresh (dsc 0xF 0 1), by decide +kernel⟩,
    ⟨{ (offered (dsc 0x10 0 (2 ^ 16 * 183))).put (FLT.status 183) 1 with grace := 2 ^ 183 }, 4, 7#16, fresh (dsc 0x10 0 (2 ^ 16 * 183)), 183, by decide +kernel⟩,
    ⟨(offered (dsc 0x10 0 (2 ^ 16 * 183))).put (FLT.live 183) 1, 4, 7#16, fresh (dsc 0x10 0 (2 ^ 16 * 183)), 183, by decide +kernel⟩,
    ⟨(offered (dsc 0x10 0 1)).setReg FLT.first 5#32, 4, 7#16, fresh (dsc 0x10 0 1), 3, by decide +kernel⟩,
    ⟨offered (dsc 0x10 0 2), 4, 7#16, fresh (dsc 0x10 0 2), by decide +kernel⟩,
    ⟨halted (dsc 0x10 0 2), 4, 7#16, fresh (dsc 0x10 0 2), by decide +kernel⟩⟩

theorem witness_quenchCommands :
  (∃ (s : State) (q : RingN) (i : BitVec 16) (f : Flight) (k : Nat), s.starts q i.toNat 0x0D (some 0) = some f ∧
    dTarget f.desc = 0 ∧ s.entryOf (dField f.desc 12 2) = some k) ∧
  (∃ (s : State) (q : RingN) (i : BitVec 16) (f : Flight) (k : Nat), s.starts q i.toNat 0x0D (some 0) = some f ∧
    dTarget f.desc = 0 ∧ s.entryOf (dField f.desc 12 2) = none ∧ s.freeEntry = some k) ∧
  (∃ (s : State) (q : RingN) (i : BitVec 16) (f : Flight), s.starts q i.toNat 0x0D (some 0) = some f ∧ dTarget f.desc
    = 0 ∧ s.entryOf (dField f.desc 12 2) = none ∧ s.freeEntry = none) ∧
  (∃ (s : State) (q : RingN) (i : BitVec 16) (f : Flight) (k : Nat), s.starts q i.toNat 0x0D (some 1) = some f ∧
    dTarget f.desc = 0 ∧ s.entryOf (dField f.desc 12 2) = some k) ∧
  (∃ (s : State) (q : RingN) (i : BitVec 16) (f : Flight), s.starts q i.toNat 0x0D (some 1) = some f ∧ dTarget f.desc
    = 0 ∧ s.entryOf (dField f.desc 12 2) = none) ∧
  (∃ (s : State) (q : RingN) (i : BitVec 16) (f : Flight) (n : Fin 16), s.starts q i.toNat 0x0D (some 2) = some f ∧
    dTarget f.desc = 0 ∧ dField f.desc 9 1 = n.val) ∧
  (∃ (s : State) (q : RingN) (i : BitVec 16) (f : Flight) (n : Fin 16), s.starts q i.toNat 0x0D (some 3) = some f ∧
    dTarget f.desc = 0 ∧ dField f.desc 9 1 = n.val) ∧
  (∃ (s : State) (q : RingN) (i : BitVec 16) (f : Flight) (c : Instr) (op : Nat), (c, op) ∈ [(.quench q i, 0),
    (.unquench q i, 1), (.rquench q i, 2), (.runquench q i, 3)] ∧ s.starts q i.toNat 0x0D (some op) = some f ∧ dTarget
    f.desc = 0xFF) ∧
  (∃ (s : State) (q : RingN) (i : BitVec 16) (f : Flight) (c : Instr) (op : Nat), (c, op) ∈ [(.quench q i, 0),
    (.unquench q i, 1), (.rquench q i, 2), (.runquench q i, 3)] ∧ s.starts q i.toNat 0x0D (some op) = some f ∧ dTarget
    f.desc ≠ 0 ∧ dTarget f.desc ≠ 0xFF ∧ s.on ORB.conflict = false ∧ s.orbUp = true) ∧
  (∃ (s : State) (q : RingN) (i : BitVec 16) (f : Flight) (c : Instr) (op : Nat), (c, op) ∈ [(.quench q i, 0),
    (.unquench q i, 1), (.rquench q i, 2), (.runquench q i, 3)] ∧ s.starts q i.toNat 0x0D (some op) = some f ∧ dTarget
    f.desc ≠ 0 ∧ dTarget f.desc ≠ 0xFF ∧ s.on ORB.conflict = true) ∧
  (∃ (s : State) (p : OrbPort) (sq : PriSeq) (tg ob : Byte) (lo hi : BitVec 16), s.workerHears p = true ∧ p =
    s.outboundIn ∧ priGood 0 sq = true ∧ sq.data = [tg, ob, lo.truncate 8, (lo >>> 8).truncate 8, hi.truncate 8, (hi
    >>> 8).truncate 8] ∧ s.named tg.toNat = true ∧ (s.applyQuench (ob.toNat % 4) lo.toNat (ob.toNat / 16) lo.toNat
    hi.toNat).2 = true ∧ s.drives (s.outPort p) = true) ∧
  (∃ (s : State) (p : OrbPort) (sq : PriSeq) (tg ob : Byte) (lo hi : BitVec 16), s.workerHears p = true ∧ p =
    s.outboundIn ∧ priGood 0 sq = true ∧ sq.data = [tg, ob, lo.truncate 8, (lo >>> 8).truncate 8, hi.truncate 8, (hi
    >>> 8).truncate 8] ∧ s.named tg.toNat = true ∧ ob.toNat % 4 = 0 ∧ s.entryOf lo.toNat = none ∧ s.freeEntry = none ∧
    s.drives (s.outPort p) = true) ∧
  (∃ (s : State) (p : OrbPort) (sq : PriSeq), s.workerHears p = true ∧ sq.intact = true ∧ (priGood 0 sq && decide (p =
    s.outboundIn) && s.named (sq.data.getD 0 0).toNat) = false ∧ s.drives (s.outPort p) = true) := by
  exact ⟨⟨tabled (onZero (dsc 0xD 0 (2 ^ 32 * 9))), 0, 7#16, fresh (dsc 0xD 0 (2 ^ 32 * 9)), 4095, by decide +kernel⟩,
    ⟨(onZero (dsc 0xD 0 (2 ^ 32 * 65535))).put PRT.defaultAg 63, 0, 7#16, fresh (dsc 0xD 0 (2 ^ 32 * 65535)), 0, by decide +kernel⟩,
    ⟨fullTable asksQuench, 0, 7#16, fresh quenchNine, fullManager_starts, by decide +kernel, fullManager_entry, fullManager_free⟩,
    ⟨tabled (onZero (dsc 0xD 0 (1 + 2 ^ 32 * 9))), 0, 7#16, fresh (dsc 0xD 0 (1 + 2 ^ 32 * 9)), 4095, by decide +kernel⟩,
    ⟨onZero (dsc 0xD 0 (1 + 2 ^ 32 * 9)), 0, 7#16, fresh (dsc 0xD 0 (1 + 2 ^ 32 * 9)), by decide +kernel⟩,
    ⟨onZero (dsc 0xD 0 (2 + 2 ^ 8 * 15 + 2 ^ 32 * 0x00090009)), 0, 7#16, fresh (dsc 0xD 0 (2 + 2 ^ 8 * 15 + 2 ^ 32 * 0x00090009)), 15, by decide +kernel⟩,
    ⟨(onZero (dsc 0xD 0 (3 + 2 ^ 8 * 15))).put (PRT.rEn 15) 1, 0, 7#16, fresh (dsc 0xD 0 (3 + 2 ^ 8 * 15)), 15, by decide +kernel⟩,
    ⟨onZero (dsc 0xD 0xFF (2 + 2 ^ 32 * 9)), 0, 7#16, fresh (dsc 0xD 0xFF (2 + 2 ^ 32 * 9)), .rquench 0 7#16, 2, by decide +kernel⟩,
    ⟨onZero (dsc 0xD 5 (1 + 2 ^ 32 * 9)), 0, 7#16, fresh (dsc 0xD 5 (1 + 2 ^ 32 * 9)), .unquench 0 7#16, 1, by decide +kernel⟩,
    ⟨(onZero (dsc 0xD 5 (1 + 2 ^ 32 * 9))).put ORB.conflict 1, 0, 7#16, fresh (dsc 0xD 5 (1 + 2 ^ 32 * 9)), .unquench 0 7#16, 1, by decide +kernel⟩,
    ⟨wkr, .U, priOf [5, 0xF2, 9, 1, 9, 1] none, 5, 0xF2, 0x109#16, 0x109#16, by decide +kernel⟩,
    ⟨fullTable wkr, .U, priOf [0xFF, 0, 9, 0, 0, 0] none, 0xFF, 0, 9#16, 0#16, fullWorker_hears, fullWorker_inbound, by decide +kernel, by decide +kernel, fullWorker_named, rfl, fullWorker_entry, fullWorker_free, fullWorker_drives⟩,
    ⟨wkr, .D, priOf [4, 0, 9, 0, 0, 0] none, by decide +kernel⟩⟩

theorem witness_broadcastsAndSequencesOfTheManager :
  (∃ (s : State) (q : RingN) (i : BitVec 16) (f : Flight), s.starts q i.toNat 0x06 none = some f ∧ (s.orbPaused = true
    ∨ s.castTag = none)) ∧
  (∃ (s : State) (q : RingN) (i : BitVec 16) (f : Flight) (g : Nat), s.starts q i.toNat 0x06 none = some f ∧ s.castTag
    = some g ∧ s.orbPaused = false ∧ s.on ORB.conflict = false ∧ s.orbUp = true ∧ s.safe = true) ∧
  (∃ (s : State) (q : RingN) (i : BitVec 16) (f : Flight) (g : Nat) (v : Word), s.starts q i.toNat 0x06 none = some f
    ∧ s.castTag = some g ∧ s.orbPaused = false ∧ s.on ORB.conflict = false ∧ s.orbUp = true ∧ s.safe = false ∧
    s.fileUp = true ∧ dAddr f.desc = 0x34 ∧ dField f.desc 11 1 = 0 ∧ dField f.desc 12 4 = v.toNat) ∧
  (∃ (s : State) (q : RingN) (i : BitVec 16) (f : Flight), s.starts q i.toNat 0x06 none = some f ∧ s.castTag.isSome =
    true ∧ s.orbPaused = false ∧ s.on ORB.conflict = true ∧ s.safe = true) ∧
  (∃ (s : State) (q : RingN) (i : BitVec 16) (f : Flight), s.starts q i.toNat 0x07 none = some f ∧ s.isMeasuring =
    true) ∧
  (∃ (s : State) (q : RingN) (i : BitVec 16) (f : Flight) (e : Word), s.starts q i.toNat 0x07 none = some f ∧
    s.isMeasuring = false ∧ dField f.desc 8 4 = e.toNat ∧ s.on ORB.conflict = false ∧ s.orbUp = true ∧ e ≠ s.reg
    ECL.epoch ∧ s.shot = none ∧ s.fileUp = true ∧ s.on ECL.copyBusy = false ∧ s.chooseBank.isSome = true) ∧
  (∃ (s : State) (q : RingN) (i : BitVec 16) (f : Flight) (e : Word), s.starts q i.toNat 0x07 none = some f ∧
    s.isMeasuring = false ∧ dField f.desc 8 4 = e.toNat ∧ s.on ORB.conflict = false ∧ e ≠ s.reg ECL.epoch ∧ s.shot.any
    (fun x => decide (x.epoch = e)) = false ∧ s.fileUp = true ∧ (s.on ECL.copyBusy = true ∨ s.shot.isSome = true ∨
    s.chooseBank = none)) ∧
  (∃ (s : State) (q : RingN) (i : BitVec 16) (f : Flight) (e : Word), s.starts q i.toNat 0x07 none = some f ∧
    s.isMeasuring = false ∧ dField f.desc 8 4 = e.toNat ∧ s.on ORB.conflict = true ∧ e = s.reg ECL.epoch) ∧
  (∃ (s : State) (q : RingN) (i : BitVec 16) (f : Flight) (e : Word), s.starts q i.toNat 0x07 none = some f ∧
    s.isMeasuring = false ∧ dField f.desc 8 4 = e.toNat ∧ s.on ORB.conflict = false ∧ e ≠ s.reg ECL.epoch ∧ s.shot.any
    (fun x => decide (x.epoch = e)) = false ∧ s.fileUp = false) ∧
  (∃ (s : State) (q : RingN) (i : BitVec 16) (f : Flight) (e : Word), s.starts q i.toNat 0x07 none = some f ∧
    s.isMeasuring = false ∧ dField f.desc 8 4 = e.toNat ∧ s.on ORB.conflict = false ∧ (e = s.reg ECL.epoch ∨
    s.shot.any (fun x => decide (x.epoch = e)) = true)) ∧
  (∃ (s : State) (tg kind : Byte), (s.writeTakes ORB.wake = false ∨ s.manager = false)) ∧
  (∃ (s : State) (tg kind : Byte), s.writeTakes ORB.wake = true ∧ s.manager = true ∧ s.on ORB.wBusy = true) ∧
  (∃ (s : State) (tg kind : Byte), s.writeTakes ORB.wake = true ∧ s.manager = true ∧ s.on ORB.wBusy = false ∧ s.on
    ORB.conflict = false ∧ s.orbUp = true ∧ tg ≠ 0 ∧ tg ≠ 0xFF) ∧
  (∃ (s : State) (tg kind : Byte), s.writeTakes ORB.wake = true ∧ s.manager = true ∧ s.on ORB.wBusy = false ∧ s.on
    ORB.conflict = false ∧ s.orbUp = true ∧ (tg = 0 ∨ tg = 0xFF) ∧ kind = 1 ∧ s.pwr.phase = .run) ∧
  (∃ (s : State) (tg kind : Byte), s.writeTakes ORB.wake = true ∧ s.manager = true ∧ s.on ORB.wBusy = false ∧ s.on
    ORB.conflict = true ∧ tg ≠ 0 ∧ tg ≠ 0xFF) ∧
  (∃ (s : State) (x : PriOut), s.orbUp = true ∧ s.manager = true ∧ s.orbit.pris = [x] ∧ x.lead = 2 ∧ s.get
    ORB.priRetry ≤ x.tries) ∧
  (∃ (s : State) (p : OrbPort) (sq : PriSeq) (x y : PriOut), s.orbUp = true ∧ s.manager = true ∧ s.orbit.pris = [x, y]
    ∧ x.lead = 2 ∧ y.lead = 2 ∧ s.leftBy p ∈ x.ports ∧ y.ports = [s.leftBy p] ∧ x.data ≠ y.data ∧ y.refused = 0 ∧
    y.applied + sq.applied.toNat < 256 ∧ priGood 2 sq = true ∧ sq.data = y.data) ∧
  (∃ (s : State) (p : OrbPort) (sq : PriSeq) (x : PriOut), s.orbUp = true ∧ s.manager = true ∧ s.orbit.pris = [x] ∧
    x.lead = 2 ∧ x.ports = [s.leftBy p] ∧ x.refused = 0 ∧ x.applied + sq.applied.toNat < 256 ∧ priGood 2 sq = true ∧
    sq.data = x.data) ∧
  (∃ (s : State) (p : OrbPort) (sq : PriSeq) (x : PriOut) (q : RingN) (i : BitVec 16) (f : Flight), s.orbUp = true ∧
    s.manager = true ∧ s.orbit.pris = [x] ∧ x.lead = 0 ∧ x.ports = [s.leftBy p] ∧ x.refused = 0 ∧ x.owner = .ring q
    i.toNat ∧ s.flight q i.toNat = some f ∧ f.stage = .started ∧ dTarget f.desc = 0xFF ∧ priGood 0 sq = true ∧ sq.data
    = x.data ∧ x.applied + sq.applied.toNat < 65536) ∧
  (∃ (s : State) (p : OrbPort) (sq : PriSeq) (x : PriOut) (q i : Nat), s.orbUp = true ∧ s.manager = true ∧
    s.orbit.pris = [x] ∧ x.lead = 1 ∧ x.ports = [s.leftBy p] ∧ x.refused = 0 ∧ x.applied = 0 ∧ x.owner = .ring q i ∧
    priGood 1 sq = true ∧ sq.data = x.data) ∧
  (∃ (s : State) (p : OrbPort) (sq : PriSeq) (x : PriOut), s.orbUp = true ∧ s.manager = true ∧ s.on ORB.conflict =
    false ∧ sq.intact = true ∧ s.orbit.pris = [x] ∧ x.lead ≠ 3 ∧ s.leftBy p ∈ x.ports ∧ (priGood x.lead sq = false ∨
    sq.data ≠ x.data) ∧ x.tries < s.get ORB.priRetry ∧ x.gen = s.orbit.gen) ∧
  (∃ (s : State) (x : PriOut), s.orbUp = true ∧ s.manager = true ∧ s.on ORB.conflict = false ∧ s.orbit.pris = [x] ∧
    x.lead ≠ 3 ∧ x.tries < s.get ORB.priRetry ∧ x.gen = s.orbit.gen) ∧
  (∃ (s : State) (x : PriOut) (q : RingN) (i : BitVec 16) (f : Flight), s.orbUp = true ∧ s.manager = true ∧
    s.orbit.pris = [x] ∧ x.lead = 0 ∧ s.get ORB.priRetry ≤ x.tries ∧ x.owner = .ring q i.toNat ∧ s.flight q i.toNat =
    some f ∧ f.stage = .started ∧ dTarget f.desc = 0xFF) ∧
  (∃ (s : State) (x : PriOut) (q i : Nat), s.orbUp = true ∧ s.manager = true ∧ s.orbit.pris = [x] ∧ x.lead = 1 ∧ s.get
    ORB.priRetry ≤ x.tries ∧ x.owner = .ring q i) ∧
  (∃ (s : State) (p : OrbPort) (sq : PriSeq), (s.orbUp = false ∨ s.manager = false)) ∧
  (∃ (s : State), (s.orbUp = false ∨ s.manager = false)) ∧
  (∃ (s : State) (q : RingN) (i : BitVec 16) (f : Flight) (st res : Nat) (l : List (Nat × Nat × Nat × Nat)), s.shot =
    none ∧ s.on ECL.copyBusy = false ∧ s.ecliDone = (q.val, i.toNat, st, res) :: l ∧ s.flight q i.toNat = some f ∧
    f.stage = .started) ∧
  (∃ (s : State), (s.ecliDone = [] ∨ s.shot.isSome = true ∨ s.on ECL.copyBusy = true)) := by
  exact ⟨⟨{ offered (dsc 6 0xFF 0) with orbit := { Orbit.reset with seq := .healWait } }, 4, 7#16, fresh (dsc 6 0xFF 0), by decide +kernel⟩,
    ⟨(halted (dsc 6 0xFF 0x34)).put ORB.folded 1, 4, 7#16, fresh (dsc 6 0xFF 0x34), 2, by decide +kernel⟩,
    ⟨offered (dsc 6 0xFF (0x34 + 2 ^ 32 * 0x2FFF)), 4, 7#16, fresh (dsc 6 0xFF (0x34 + 2 ^ 32 * 0x2FFF)), 2, 0x2FFF#32, by decide +kernel⟩,
    ⟨(halted (dsc 6 0xFF 0x34)).put ORB.conflict 1, 4, 7#16, fresh (dsc 6 0xFF 0x34), by decide +kernel⟩,
    ⟨{ offered (dsc 7 0xFF 5) with orbit := { Orbit.reset with seq := .measure [(5, false)] } }, 4, 7#16, fresh (dsc 7 0xFF 5), by decide +kernel⟩,
    ⟨offered (dsc 7 0xFF 5), 4, 7#16, fresh (dsc 7 0xFF 5), 5#32, by decide +kernel⟩,
    ⟨(offered (dsc 7 0xFF 5)).put ECL.copyBusy 1, 4, 7#16, fresh (dsc 7 0xFF 5), 5#32, by decide +kernel⟩,
    ⟨((offered (dsc 7 0xFF 5)).put ORB.conflict 1).setReg ECL.epoch 5, 4, 7#16, fresh (dsc 7 0xFF 5), 5#32, by decide +kernel⟩,
    ⟨{ offered (dsc 7 0xFF 5) with pwr := { up.pwr with phase := .deep } }, 4, 7#16, fresh (dsc 7 0xFF 5), 5#32, by decide +kernel⟩,
    ⟨{ offered (dsc 7 0xFF 5) with shot := some ⟨5, false, 0, .D, 20000⟩ }, 4, 7#16, fresh (dsc 7 0xFF 5), 5#32, by decide +kernel⟩,
    ⟨wkr, by decide +kernel⟩,
    ⟨mgr.put ORB.wBusy 1, 5, 0, by decide +kernel⟩,
    ⟨mgr, 5, by decide +kernel⟩,
    ⟨mgr, 0xFF, 1, by decide +kernel⟩,
    ⟨mgr.put ORB.conflict 1, 5, by decide +kernel⟩,
    ⟨(sending 0 ⟨2, 0, [5, 2], [.D, .U], none, 0, 3, 0, 0, 0, .nobody⟩).put ORB.wBusy 1, ⟨2, 0, [5, 2], [.D, .U], none, 0, 3, 0, 0, 0, .nobody⟩, by decide +kernel⟩,
    ⟨{ (sending 0 ⟨2, 0, [5, 2], [.D, .U], none, 0, 0, 0, 0, 0, .nobody⟩) with orbit := { Orbit.reset with pris := [⟨2, 0, [5, 2], [.D, .U], none, 0, 0, 0, 0, 0, .nobody⟩, ⟨2, 0, [6, 0], [.U], none, 0, 1, 3, 0, 0, .nobody⟩] } }, .D, { priOf [6, 0] none with applied := 2 }, ⟨2, 0, [5, 2], [.D, .U], none, 0, 0, 0, 0, 0, .nobody⟩, ⟨2, 0, [6, 0], [.U], none, 0, 1, 3, 0, 0, .nobody⟩, by decide +kernel⟩,
    ⟨(sending 0 ⟨2, 0, [5, 2], [.U], none, 0, 0, 1, 0, 0, .nobody⟩).put ORB.wBusy 1, .D, { priOf [5, 2] none with applied := 1, refused := 255, rstat := 1 }, ⟨2, 0, [5, 2], [.U], none, 0, 0, 1, 0, 0, .nobody⟩, by decide +kernel⟩,
    ⟨sending (dsc 0xD 0xFF 0) ⟨0, 0, [0xFF, 0, 9, 0, 0, 0], [.D], some 0, 0, 0, 0, 0, 0, .ring 4 7⟩, .U, { priOf [0xFF, 0, 9, 0, 0, 0] none with applied := 3, refused := 1 }, ⟨0, 0, [0xFF, 0, 9, 0, 0, 0], [.D], some 0, 0, 0, 0, 0, 0, .ring 4 7⟩, 4, 7#16, { fresh (dsc 0xD 0xFF 0) with stage := .started }, by decide +kernel⟩,
    ⟨sending (dsc 7 0xFF 5) ⟨1, 0, [5, 0, 0, 0], [.D], some 0, 0, 0, 0, 0, 0, .ring 4 7⟩, .U, { priOf [5, 0, 0, 0] none with applied := 3, refused := 1, rstat := 7 }, ⟨1, 0, [5, 0, 0, 0], [.D], some 0, 0, 0, 0, 0, 0, .ring 4 7⟩, 4, 7, by decide +kernel⟩,
    ⟨(sending (dsc 7 0xFF 5) ⟨1, 0, [5, 0, 0, 0], [.D], some 0, 0, 2, 0, 0, 0, .ring 4 7⟩).put ORB.priRetry 3, .U, priOf [5, 0, 0, 1] none, ⟨1, 0, [5, 0, 0, 0], [.D], some 0, 0, 2, 0, 0, 0, .ring 4 7⟩, by decide +kernel⟩,
    ⟨(sending (dsc 7 0xFF 5) ⟨1, 0, [5, 0, 0, 0], [.D], some 0, 0, 2, 0, 0, 0, .ring 4 7⟩).put ORB.priRetry 3, ⟨1, 0, [5, 0, 0, 0], [.D], some 0, 0, 2, 0, 0, 0, .ring 4 7⟩, by decide +kernel⟩,
    ⟨(sending (dsc 7 0xFF 5) ⟨0, 0, [5, 0, 0, 0], [.D], some 0, 0, 3, 2, 0, 0, .ring 4 7⟩).put ORB.priRetry 3, ⟨0, 0, [5, 0, 0, 0], [.D], some 0, 0, 3, 2, 0, 0, .ring 4 7⟩, 4, 7#16, { fresh (dsc 7 0xFF 5) with stage := .started }, by decide +kernel⟩,
    ⟨(sending (dsc 7 0xFF 5) ⟨1, 0, [5, 0, 0, 0], [.D], some 0, 0, 3, 0, 0, 0, .ring 4 7⟩).put ORB.priRetry 3, ⟨1, 0, [5, 0, 0, 0], [.D], some 0, 0, 3, 0, 0, 0, .ring 4 7⟩, 4, 7, by decide +kernel⟩,
    ⟨wkr, .U, priOf [5, 2] none, by decide +kernel⟩,
    ⟨wkr, by decide +kernel⟩,
    ⟨{ flying { fresh (dsc 7 0xFF 5) with stage := .started } with ecliDone := [(4, 7, 7, 65539), (4, 8, 0, 1)] }, 4, 7#16, { fresh (dsc 7 0xFF 5) with stage := .started }, 7, 65539, [(4, 8, 0, 1)], by decide +kernel⟩,
    ⟨mgr, by decide +kernel⟩⟩

theorem witness_framesAtAWorker :
  (∃ (s : State) (p : OrbPort) (f : Frame) (c : Instr), c ∈ [.regFrame p f, .opFrame p f, .imageDataFrame p f,
    .probeFrame p f, .answerFrame p f, .eventFrame p f, .telemFrame p f, .enumAnsFrame p f, .assignAckFrame p f,
    .bcastFrame p f, .assignFrame p f, .ctrlUnwrap p f, .ctrlSetArm p f, .ctrlSetDelay p f] ∧ s.workerHears p = true ∧
    s.toMe p f = false ∧ f.dest ≠ 0xFF ∧ f.hops ≠ 255 ∧ s.drives (s.outPort p) = true) ∧
  (∃ (s : State) (p : OrbPort) (f : Frame) (c : Instr), c ∈ [.regFrame p f, .opFrame p f, .imageDataFrame p f,
    .probeFrame p f, .answerFrame p f, .eventFrame p f, .telemFrame p f, .enumAnsFrame p f, .assignAckFrame p f,
    .bcastFrame p f, .assignFrame p f, .ctrlUnwrap p f, .ctrlSetArm p f, .ctrlSetDelay p f] ∧ s.workerHears p = true ∧
    f.dest ≠ 0xFF ∧ ((s.toMe p f = false ∧ f.hops = 255) ∨ (s.toMe p f = true ∧ frameGood f = false ∧ c ≠ .bcastFrame
    p f))) ∧
  (∃ (s : State) (p : OrbPort) (f : Frame) (c : Instr), c ∈ [.regFrame p f, .opFrame p f, .imageDataFrame p f,
    .probeFrame p f, .answerFrame p f, .eventFrame p f, .telemFrame p f, .enumAnsFrame p f, .assignAckFrame p f,
    .bcastFrame p f, .assignFrame p f, .ctrlUnwrap p f, .ctrlSetArm p f, .ctrlSetDelay p f] ∧ s.workerHears p = false
    ∧ s.manager = false) ∧
  (∃ (s : State) (p : OrbPort) (f : Frame) (v : Word), s.workerHears p = true ∧ s.toMe p f = true ∧ frameGood f = true
    ∧ s.fileUp = true ∧ s.safe = false ∧ payByte f 0 = 1 ∧ payNat f 1 3 = 0x34 ∧ payNat f 6 4 = v.toNat) ∧
  (∃ (s : State) (p : OrbPort) (f : Frame), s.workerHears p = true ∧ s.toMe p f = true ∧ frameGood f = true ∧ s.fileUp
    = true ∧ payByte f 0 = 0 ∧ payNat f 1 3 = 0x10010 ∧ payNat f 4 2 = 2) ∧
  (∃ (s : State) (p : OrbPort) (f : Frame), s.workerHears p = true ∧ s.toMe p f = true ∧ frameGood f = true ∧ s.safe =
    true ∧ payNat f 1 3 / 0x10000 ≠ 1) ∧
  (∃ (s : State) (p : OrbPort) (f : Frame), s.workerHears p = true ∧ s.toMe p f = true ∧ frameGood f = true) ∧
  (∃ (s : State) (p : OrbPort) (f : Frame) (st : Nat), s.workerHears p = true ∧ s.toMe p f = true ∧ frameGood f = true
    ∧ ((s.fileUp = false ∧ st = 5) ∨ (s.fileUp = true ∧ (s.safe && safeRefuses (frameDesc f)) = true ∧ st = 0x0E) ∨
    (s.fileUp = true ∧ (s.safe && safeRefuses (frameDesc f)) = false ∧ (dType (frameDesc f) < 8 ∨ 0x10 < dType
    (frameDesc f) ∨ dType (frameDesc f) = 0x0D ∨ fieldsOk (frameDesc f) = false) ∧ st = 1))) ∧
  (∃ (s : State) (p : OrbPort) (f : Frame), s.workerHears p = true ∧ s.toMe p f = true ∧ frameGood f = true ∧ s.fileUp
    = true ∧ (s.safe && safeRefuses (frameDesc f)) = false ∧ 8 ≤ dType (frameDesc f) ∧ dType (frameDesc f) ≤ 0x10 ∧
    dType (frameDesc f) ≠ 0x0D ∧ fieldsOk (frameDesc f) = true ∧ s.opWaits (frameDesc f) = false) ∧
  (∃ (s : State) (p : OrbPort) (f : Frame), s.workerHears p = true ∧ s.toMe p f = true ∧ frameGood f = true ∧ s.fileUp
    = true ∧ (s.safe && safeRefuses (frameDesc f)) = false ∧ 8 ≤ dType (frameDesc f) ∧ dType (frameDesc f) ≤ 0x10 ∧
    dType (frameDesc f) ≠ 0x0D ∧ fieldsOk (frameDesc f) = true ∧ s.opWaits (frameDesc f) = true ∧ (needsIsland
    (frameDesc f) && !s.running && s.asleep 1) = false) ∧
  (∃ (s : State) (p : OrbPort) (f : Frame), s.workerHears p = true ∧ s.toMe p f = true ∧ frameGood f = true ∧
    s.pwr.phase = .sleep ∧ (s.safe && safeRefuses (frameDesc f)) = false ∧ 8 ≤ dType (frameDesc f) ∧ dType (frameDesc
    f) ≤ 0x10 ∧ dType (frameDesc f) ≠ 0x0D ∧ fieldsOk (frameDesc f) = true ∧ needsIsland (frameDesc f) = true) ∧
  (∃ (s : State) (p : OrbPort) (f : Frame) (l : FwLoad), s.workerHears p = true ∧ s.toMe p f = true ∧ frameGood f =
    true ∧ s.core.loads = [l] ∧ l.owner = .orbit f.tag.toNat ∧ l.activate = false ∧ l.frames < 63 ∧ payByte f 0 = 0x0F
    ∧ payByte f 1 = 2 ∧ payNat f 2 3 = l.image.length ∧ 5 < f.payload.length ∧ f.payload.length ≤ 53 ∧ l.image.length
    + (f.payload.length - 5) ≤ l.length ∧ l.length < 2 ^ 24) ∧
  (∃ (s : State) (p : OrbPort) (f : Frame), s.workerHears p = true ∧ s.toMe p f = true ∧ frameGood f = true ∧
    (s.loadFor f.tag.toNat).all (fun l => decide (payNat f 2 3 ≠ l.image.length)) = true) ∧
  (∃ (s : State) (p : OrbPort) (f : Frame) (v : Word), s.workerHears p = true ∧ p = s.outboundIn ∧ f.dest = 0xFF ∧
    frameGood f = true ∧ f.hops ≠ 255 ∧ s.drives (s.outPort p) = true ∧ s.fileUp = true ∧ s.safe = false ∧ payByte f 0
    = 0 ∧ payNat f 1 3 = 0x34 ∧ payNat f 4 4 = v.toNat) ∧
  (∃ (s : State) (p : OrbPort) (f : Frame), s.workerHears p = true ∧ p = s.outboundIn ∧ f.dest = 0xFF ∧ frameGood f =
    true ∧ f.hops ≠ 255 ∧ s.drives (s.outPort p) = true ∧ s.safe = true) ∧
  (∃ (s : State) (p : OrbPort) (f : Frame), s.workerHears p = true ∧ (p ≠ s.outboundIn ∨ f.dest ≠ 0xFF) ∧ f.hops ≠ 255
    ∧ s.drives (s.outPort p) = true) ∧
  (∃ (s : State) (p : OrbPort) (f : Frame), s.workerHears p = true ∧ p = s.outboundIn ∧ f.dest = 0xFF ∧ frameGood f =
    false ∧ f.hops ≠ 255 ∧ s.drives (s.outPort p) = true) ∧
  (∃ (s : State) (p : OrbPort) (f : Frame), s.workerHears p = true ∧ f.hops = 255 ∧ (p = s.outboundIn → f.dest = 0xFF
    → s.safe = true ∧ frameGood f = true)) ∧
  (∃ (s : State) (p : OrbPort) (f : Frame), s.workerHears p = true ∧ s.toMe p f = true ∧ frameGood f = true) ∧
  (∃ (s : State) (p : OrbPort) (f : Frame), s.workerHears p = true ∧ s.toMe p f = true ∧ f.dest ≠ 0xFF ∧ frameGood f =
    true) ∧
  (∃ (s : State) (p : OrbPort) (f : Frame), s.workerHears p = true ∧ f.dest = 0xFF ∧ (p = s.outboundIn ∨ s.on
    ORB.addrValid = false) ∧ frameGood f = true ∧ f.hops ≠ 255 ∧ s.drives (s.outPort p) = true) ∧
  (∃ (s : State) (p : OrbPort) (f : Frame), s.workerHears p = true ∧ s.toMe p f = true ∧ f.dest ≠ 0xFF ∧ frameGood f =
    true) ∧
  (∃ (s : State) (f : Frame) (l : List Frame), s.telemWaiting true = none ∧ s.waitq = f :: l ∧ s.orbUp = true ∧
    s.manager = false ∧ s.drives (s.outPort s.outboundIn) = true) ∧
  (∃ (s : State) (a : Nat) (x : EvFrame) (l : List (Nat × EvFrame)), s.telemWaiting true = none ∧ s.waitq = [] ∧
    s.evFrames = (a, x) :: l ∧ s.orbUp = true ∧ s.manager = false ∧ s.on ORB.addrValid = true ∧ s.drives (s.outPort
    s.outboundIn) = true) := by
  exact ⟨⟨wkr.put (ORB.wrap 1) 1, .U, { toFive 1 [1] with dest := 6, hops := 254 }, .regFrame .U { toFive 1 [1] with dest := 6, hops := 254 }, by decide +kernel⟩,
    ⟨wkr, .U, { toFive 1 [1] with hops := 255, crc := 3 }, .regFrame .U { toFive 1 [1] with hops := 255, crc := 3 }, by decide +kernel⟩,
    ⟨wkr.put (ORB.wrap 0) 1, .U, toFive 1 [1], .bcastFrame .U (toFive 1 [1]), by decide +kernel⟩,
    ⟨wkr, .U, toFive 1 [1, 0x34, 0, 0, 1, 0, 0xFF, 0xFF, 0, 0], 0xFFFF#32, by decide +kernel⟩,
    ⟨(wkr.put FLT.safe 1).setReg 0x10010 0x55#32, .U, toFive 1 [0, 0x10, 0, 1, 2, 0], by decide +kernel⟩,
    ⟨wkr.put FLT.safe 1, .U, toFive 1 [1, 0x34, 0, 0, 1, 0, 0xFF, 0xFF, 0, 0], by decide +kernel⟩,
    ⟨wkr, .U, toFive 1 [2, 0x34, 0, 0, 1, 0, 0xFF, 0xFF, 0, 0, 1, 2, 3, 4], by decide +kernel⟩,
    ⟨wkr.put FLT.safe 1, .U, toFive 4 [0x0D, 1], 1, by decide +kernel⟩,
    ⟨wkr, .U, toFive 4 [9, 15], by decide +kernel⟩,
    ⟨wkr, .U, toFive 4 [0x0F, 1], by decide +kernel⟩,
    ⟨{ wkr with pwr := { wkr.pwr with phase := .sleep } }, .U, toFive 4 [0x0F, 1], by decide +kernel⟩,
    ⟨loading, .U, toFive 4 [0x0F, 2, 1, 0, 0, 7, 8], ⟨.orbit 1, false, 3, [9], 0, 0⟩, by decide +kernel⟩,
    ⟨loading, .U, toFive 4 [0x0F, 2, 2, 0, 0, 7], by decide +kernel⟩,
    ⟨wkr, .U, toAll 3 [0, 0x34, 0, 0, 5, 0, 0, 0, 0, 0, 0, 0, 2, 1, 6], 5#32, by decide +kernel⟩,
    ⟨wkr.put FLT.safe 1, .U, toAll 3 [0, 0x34, 0, 0, 5, 0, 0, 0, 0, 0, 0, 0, 2, 0, 0], by decide +kernel⟩,
    ⟨wkr, .D, toAll 3 [0, 0x34, 0, 0, 5, 0, 0, 0, 0, 0, 0, 0, 2, 0, 0], by decide +kernel⟩,
    ⟨wkr, .U, { toAll 3 [0, 0x34, 0, 0, 5, 0, 0, 0, 0, 0, 0, 0, 2, 0, 0] with crc := 1 }, by decide +kernel⟩,
    ⟨wkr.put FLT.safe 1, .U, { toAll 3 [0, 0x34, 0, 0, 5, 0, 0, 0, 0, 0, 0, 0, 2, 0, 0] with hops := 255 }, by decide +kernel⟩,
    ⟨wkr, .U, toFive 0x0E [], by decide +kernel⟩,
    ⟨wkr.put (ORB.wrap 1) 1, .U, toFive 0x0F [0], by decide +kernel⟩,
    ⟨wkr.put ORB.arm 2, .D, toAll 0x0F [1], by decide +kernel⟩,
    ⟨wkr, .U, toFive 0x0F [3, 1, 2, 3, 4, 5, 6, 0xFF, 0xFF, 0xFF], by decide +kernel⟩,
    ⟨{ wkr with waitq := [toFive 2 [1], toFive 2 [2]] }, toFive 2 [1], [toFive 2 [2]], by decide +kernel⟩,
    ⟨{ wkr with evFrames := [(GLB.event, ⟨5, 9⟩)] }, GLB.event, ⟨5, 9⟩, [], by decide +kernel⟩⟩

theorem witness_answersAtTheManager :
  (∃ (s : State) (p : OrbPort) (f : Frame) (c : Instr), c ∈ [.answerFrame p f, .eventFrame p f, .telemFrame p f,
    .enumAnsFrame p f, .assignAckFrame p f, .frameReturn p f, .mapReturn p f] ∧ s.orbUp = true ∧ s.manager = true ∧
    frameGood f = false) ∧
  (∃ (s : State) (p : OrbPort) (f : Frame), s.orbUp = true ∧ s.manager = true ∧ frameGood f = true ∧ s.reqOf
    f.src.toNat f.tag.toNat = none ∧ s.lapsedNow f.src.toNat f.tag.toNat = none) ∧
  (∃ (s : State) (p : OrbPort) (f : Frame) (r : OrbReq) (x : Flight) (a b : Word), s.orbUp = true ∧ s.manager = true ∧
    frameGood f = true ∧ s.orbit.reqs = [r] ∧ r.target = f.src.toNat ∧ r.tag = f.tag.toNat ∧ s.flight r.q r.idx = some
    x ∧ x.stage = .started ∧ dType x.desc = 1 ∧ f.ftype = 2 ∧ f.payload = f.payload.take 3 ++ bytesOf 4 a.toNat ++
    bytesOf 4 b.toNat ∧ f.payload.length = 11) ∧
  (∃ (s : State) (p : OrbPort) (f : Frame) (r : OrbReq) (x : Flight) (a : Word), s.orbUp = true ∧ s.manager = true ∧
    frameGood f = true ∧ s.orbit.reqs = [r] ∧ r.target = f.src.toNat ∧ r.tag = f.tag.toNat ∧ s.flight r.q r.idx = some
    x ∧ x.stage = .started ∧ dType x.desc = 3 ∧ f.ftype = 2 ∧ f.payload = f.payload.take 3 ++ bytesOf 4 a.toNat ∧
    f.payload.length = 7) ∧
  (∃ (s : State) (p : OrbPort) (f : Frame) (r : OrbReq) (x : Flight), s.orbUp = true ∧ s.manager = true ∧ frameGood f
    = true ∧ s.orbit.reqs = [r] ∧ r.target = f.src.toNat ∧ r.tag = f.tag.toNat ∧ s.flight r.q r.idx = some x ∧ x.stage
    = .started ∧ (dType x.desc = 2 ∨ dType x.desc = 4) ∧ f.ftype = 2) ∧
  (∃ (s : State) (p : OrbPort) (f : Frame) (r : OrbReq) (x : Flight) (a b : Word), s.orbUp = true ∧ s.manager = true ∧
    s.hostUp = true ∧ frameGood f = true ∧ s.orbit.reqs = [r] ∧ r.target = f.src.toNat ∧ r.tag = f.tag.toNat ∧
    s.flight r.q r.idx = some x ∧ x.stage = .started ∧ dType x.desc = 5 ∧ f.ftype = 2 ∧ payByte f 0 = 0 ∧ f.payload =
    f.payload.take 3 ++ bytesOf 4 a.toNat ++ bytesOf 4 b.toNat ∧ f.payload.length = 11) ∧
  (∃ (s : State) (p : OrbPort) (f : Frame) (r : OrbReq) (x : Flight) (a : Word), s.orbUp = true ∧ s.manager = true ∧
    s.hostUp = false ∧ s.ringReset = false ∧ frameGood f = true ∧ s.orbit.reqs = [r] ∧ r.target = f.src.toNat ∧ r.tag
    = f.tag.toNat ∧ s.flight r.q r.idx = some x ∧ dType x.desc = 5 ∧ f.ftype = 2 ∧ payByte f 0 = 0 ∧ f.payload =
    f.payload.take 3 ++ bytesOf 4 a.toNat ∧ f.payload.length = 7 ∧ r.got + 1 < dField x.desc 12 2) ∧
  (∃ (s : State) (p : OrbPort) (f : Frame) (r : OrbReq) (x : Flight), s.orbUp = true ∧ s.manager = true ∧ s.hostUp =
    true ∧ frameGood f = true ∧ s.orbit.reqs = [r] ∧ r.target = f.src.toNat ∧ r.tag = f.tag.toNat ∧ s.flight r.q r.idx
    = some x ∧ x.stage = .started ∧ f.ftype = 6 ∧ dType x.desc = 0x0B ∧ f.payload.length = 41) ∧
  (∃ (s : State) (p : OrbPort) (f : Frame) (r : OrbReq) (x : Flight), s.orbUp = true ∧ s.manager = true ∧ frameGood f
    = true ∧ s.orbit.reqs = [r] ∧ r.target = f.src.toNat ∧ r.tag = f.tag.toNat ∧ s.flight r.q r.idx = some x ∧ x.stage
    = .started ∧ f.ftype = 5 ∧ payByte f 0 ≠ 0) ∧
  (∃ (s : State) (p : OrbPort) (f : Frame) (r : OrbReq), s.orbUp = true ∧ s.manager = true ∧ frameGood f = true ∧
    s.orbit.reqs = [r] ∧ r.target = f.src.toNat ∧ r.tag = f.tag.toNat ∧ f.ftype = 5 ∧ payByte f 0 = 0 ∧
    f.payload.length < 4 ∧ r.image = []) ∧
  (∃ (s : State) (p : OrbPort) (f : Frame) (r : OrbReq) (x : Flight), s.orbUp = true ∧ s.manager = true ∧ frameGood f
    = true ∧ s.orbit.reqs = [r] ∧ r.target = f.src.toNat ∧ r.tag = f.tag.toNat ∧ s.flight r.q r.idx = some x ∧ x.stage
    = .started ∧ f.ftype = 6 ∧ dType x.desc ≠ 0x0B) ∧
  (∃ (s : State) (p : OrbPort) (f : Frame) (r : OrbReq) (x : Flight), s.orbUp = true ∧ s.manager = true ∧ frameGood f
    = true ∧ s.orbit.reqs = [r] ∧ r.target = f.dest.toNat ∧ r.tag = f.tag.toNat ∧ s.flight r.q r.idx = some x ∧
    x.stage = .started ∧ (f.ftype = 1 ∨ f.ftype = 4)) ∧
  (∃ (s : State) (tg tag : Byte) (r : OrbReq) (x : Flight), s.orbUp = true ∧ s.manager = true ∧ tg ≠ 0xFF ∧
    s.orbit.reqs = [r] ∧ r.target = tg.toNat ∧ r.tag = tag.toNat ∧ s.flight r.q r.idx = some x ∧ x.stage = .started) ∧
  (∃ (s : State) (p : OrbPort) (f : Frame) (r : OrbReq) (x : Flight), s.orbUp = true ∧ s.manager = true ∧ frameGood f
    = true ∧ s.orbit.reqs = [] ∧ s.orbit.lapsed = [(s.clock, r)] ∧ r.target = f.src.toNat ∧ r.tag = f.tag.toNat ∧
    s.flight r.q r.idx = some x ∧ dType x.desc = 2 ∧ f.ftype = 2) ∧
  (∃ (s : State) (tag : Byte) (y : PriOut) (q : RingN) (i : BitVec 16) (x : Flight), s.orbUp = true ∧ s.manager = true
    ∧ 2 ≤ tag.toNat ∧ s.orbit.pris = [y] ∧ y.lead = 3 ∧ y.tag = tag.toNat ∧ y.owner = .ring q i.toNat ∧ s.flight q
    i.toNat = some x ∧ x.stage = .started) ∧
  (∃ (s : State) (p : OrbPort) (f : Frame), s.orbUp = true ∧ s.manager = true ∧ frameGood f = true) ∧
  (∃ (s : State) (p : OrbPort) (f : Frame), s.orbUp = true ∧ s.manager = true ∧ frameGood f = true ∧ payByte f 1 = 0 ∧
    s.halves = []) ∧
  (∃ (s : State) (p : OrbPort) (f : Frame) (h : Half), s.orbUp = true ∧ s.manager = true ∧ frameGood f = true ∧
    payByte f 1 ≠ 0 ∧ s.halves = [h] ∧ h.src = f.src.toNat ∧ h.stream = payByte f 0 % 16 ∧ h.rseq = payNat f 2 2) ∧
  (∃ (s : State) (p : OrbPort) (f : Frame), s.orbUp = true ∧ s.manager = true ∧ frameGood f = true ∧ payByte f 1 ≠ 0 ∧
    (∀ h ∈ s.halves, h.src = f.src.toNat → h.stream = payByte f 0 % 16 → h.rseq ≠ payNat f 2 2)) ∧
  (∃ (s : State) (src : Byte) (n : Fin 16) (h : Half), s.halves = [h] ∧ h.src = src.toNat ∧ h.stream = n.val) ∧
  (∃ (s : State) (src : Byte) (n : Fin 16), s.halves = []) ∧
  (∃ (s : State) (r : OrbReq), s.orbUp = true ∧ s.manager = true ∧ s.orbit.reqs = [r] ∧ r.accepted = true ∧ r.next +
    48 < r.image.length ∧ r.image.length ≤ r.next + 96) ∧
  (∃ (s : State), (s.orbUp = false ∨ s.manager = false ∨ s.orbit.reqs = [])) := by
  exact ⟨⟨mgr, .U, { fromFive 2 [0] with ctl := [(0, some 0x16)] }, .answerFrame .U { fromFive 2 [0] with ctl := [(0, some 0x16)] }, by decide +kernel⟩,
    ⟨mgr, .U, fromFive 2 [0, 0, 0], by decide +kernel⟩,
    ⟨asked (dsc 1 5 0x02010010) ⟨1, 5, 4, 7, false, 0, 0, []⟩, .U, fromFive 2 [0, 0, 0, 1, 2, 3, 4, 5, 6, 7, 8], ⟨1, 5, 4, 7, false, 0, 0, []⟩, { fresh (dsc 1 5 0x02010010) with stage := .started }, 0x04030201#32, 0x08070605#32, by decide +kernel⟩,
    ⟨asked (dsc 3 5 0x34) ⟨1, 5, 4, 7, false, 0, 0, []⟩, .U, fromFive 2 [0, 0, 0, 1, 2, 3, 4], ⟨1, 5, 4, 7, false, 0, 0, []⟩, { fresh (dsc 3 5 0x34) with stage := .started }, 0x04030201#32, by decide +kernel⟩,
    ⟨asked (dsc 4 5 0) ⟨1, 5, 4, 7, false, 0, 0, []⟩, .U, fromFive 2 [6, 2, 0], ⟨1, 5, 4, 7, false, 0, 0, []⟩, { fresh (dsc 4 5 0) with stage := .started }, by decide +kernel⟩,
    ⟨asked (dsc 5 5 (0x0000000300010010 + 2 ^ 64 * 0x5000)) ⟨1, 5, 4, 7, false, 1, 0, []⟩, .U, fromFive 2 [0, 1, 0, 1, 2, 3, 4, 5, 6, 7, 8], ⟨1, 5, 4, 7, false, 1, 0, []⟩, { fresh (dsc 5 5 (0x0000000300010010 + 2 ^ 64 * 0x5000)) with stage := .started }, 0x04030201#32, 0x08070605#32, by decide +kernel⟩,
    ⟨{ asked (dsc 5 5 (0x0000000300010010 + 2 ^ 64 * 0x5000)) ⟨1, 5, 4, 7, false, 1, 0, []⟩ with pcie := up.pcie }, .U, fromFive 2 [0, 1, 0, 1, 2, 3, 4], ⟨1, 5, 4, 7, false, 1, 0, []⟩, { fresh (dsc 5 5 (0x0000000300010010 + 2 ^ 64 * 0x5000)) with stage := .started }, 0x04030201#32, by decide +kernel⟩,
    ⟨asked (dsc 0xB 5 (0x5000 + 2 ^ 64 * 2)) ⟨1, 5, 4, 7, true, 0, 0, []⟩, .U, fromFive 6 (List.replicate 17 3 ++ [1, 2, 3, 1] ++ List.replicate 20 6), ⟨1, 5, 4, 7, true, 0, 0, []⟩, { fresh (dsc 0xB 5 (0x5000 + 2 ^ 64 * 2)) with stage := .started }, by decide +kernel⟩,
    ⟨asked (dsc 9 5 0) ⟨1, 5, 4, 7, false, 0, 0, []⟩, .U, fromFive 5 [7], ⟨1, 5, 4, 7, false, 0, 0, []⟩, { fresh (dsc 9 5 0) with stage := .started }, by decide +kernel⟩,
    ⟨asked (dsc 9 5 0) ⟨1, 5, 4, 7, false, 0, 0, []⟩, .U, fromFive 5 [0], ⟨1, 5, 4, 7, false, 0, 0, []⟩, by decide +kernel⟩,
    ⟨asked (dsc 9 5 0) ⟨1, 5, 4, 7, true, 0, 0, []⟩, .U, fromFive 6 (0 :: List.replicate 16 3), ⟨1, 5, 4, 7, true, 0, 0, []⟩, { fresh (dsc 9 5 0) with stage := .started }, by decide +kernel⟩,
    ⟨asked (dsc 9 5 0) ⟨1, 5, 4, 7, false, 0, 0, []⟩, .U, toFive 4 [9, 0], ⟨1, 5, 4, 7, false, 0, 0, []⟩, { fresh (dsc 9 5 0) with stage := .started }, by decide +kernel⟩,
    ⟨asked (dsc 9 5 0) ⟨1, 5, 4, 7, false, 0, 0, []⟩, 5, 1, ⟨1, 5, 4, 7, false, 0, 0, []⟩, { fresh (dsc 9 5 0) with stage := .started }, by decide +kernel⟩,
    ⟨{ asked (dsc 2 5 0x34) ⟨1, 5, 4, 7, false, 0, 0, []⟩ with orbit := { Orbit.reset with lapsed := [(0, ⟨1, 5, 4, 7, false, 0, 0, []⟩)] } }, .U, fromFive 2 [0, 0, 0], ⟨1, 5, 4, 7, false, 0, 0, []⟩, { fresh (dsc 2 5 0x34) with stage := .started }, by decide +kernel⟩,
    ⟨sending (dsc 6 0xFF 0) ⟨3, 2, [], [.D], some 0, 0, 0, 0, 0, 0, .ring 4 7⟩, 2, ⟨3, 2, [], [.D], some 0, 0, 0, 0, 0, 0, .ring 4 7⟩, 4, 7#16, { fresh (dsc 6 0xFF 0) with stage := .started }, by decide +kernel⟩,
    ⟨running.put RNG.evcqEn 1, .U, fromFive 7 [1, 0, 0, 0, 0x30, 0, 0, 9, 0, 0, 0], by decide +kernel⟩,
    ⟨running, .U, fromFive 8 ([15, 0, 1, 0] ++ List.replicate 24 7), by decide +kernel⟩,
    ⟨{ running with halves := [⟨5, 15, 1, List.replicate 24 6⟩] }, .U, fromFive 8 ([15, 1, 1, 0] ++ List.replicate 24 7), ⟨5, 15, 1, List.replicate 24 6⟩, by decide +kernel⟩,
    ⟨{ running with halves := [⟨5, 15, 2, List.replicate 24 6⟩] }, .U, fromFive 8 ([15, 1, 1, 0] ++ List.replicate 24 7), by decide +kernel⟩,
    ⟨{ running with halves := [⟨5, 15, 2, List.replicate 24 6⟩] }, 5, 15, ⟨5, 15, 2, List.replicate 24 6⟩, by decide +kernel⟩,
    ⟨running, by decide +kernel⟩,
    ⟨asked (dsc 0xF 5 0) ⟨1, 5, 4, 7, true, 0, 48, List.replicate 97 5⟩, ⟨1, 5, 4, 7, true, 0, 48, List.replicate 97 5⟩, by decide +kernel⟩,
    ⟨wkr, by decide +kernel⟩⟩

theorem witness_enumerationAndAddresses :
  (∃ (s : State) (p : OrbPort) (f : Frame), s.workerHears p = true ∧ s.wantsEnum (decide (payByte f 0 = 1)) = true ∧
    frameGood f = true ∧ s.drives (s.outPort p) = true ∧ f.hops.toNat < 255) ∧
  (∃ (s : State) (p : OrbPort) (f : Frame), s.workerHears p = true ∧ s.wantsEnum (decide (payByte f 0 = 1)) = false ∧
    s.receives p f.dest.toNat = true ∧ frameGood f = false ∧ s.drives (s.outPort p) = true ∧ f.hops ≠ 255) ∧
  (∃ (s : State) (p : OrbPort) (f : Frame), s.workerHears p = true ∧ s.wantsEnum (decide (payByte f 0 = 1)) = false ∧
    (s.receives p f.dest.toNat = false ∨ frameGood f = true) ∧ s.drives (s.outPort p) = true ∧ f.hops ≠ 255) ∧
  (∃ (s : State) (p : OrbPort) (f : Frame), s.workerHears p = true ∧ s.wantsEnum (decide (payByte f 0 = 1)) = true ∧
    frameGood f = false) ∧
  (∃ (s : State) (p : OrbPort) (f : Frame) (c : Instr), c ∈ [.enumAnsFrame p f, .assignAckFrame p f] ∧ s.orbUp =
    false) ∧
  (∃ (s : State) (p : OrbPort) (f : Frame), s.workerHears p = true ∧ f.dest = 0xFF ∧ s.on ORB.addrValid = false ∧
    frameGood f = true ∧ f.hops ≠ 255 ∧ s.drives (s.outPort p) = true ∧ payNat f 0 8 = Config.serial.toNat ∧ payByte f
    8 ≠ 0xFF ∧ (∀ a ∈ eventRegs, s.reg a &&& s.reg (a + 4) = 0)) ∧
  (∃ (s : State) (p : OrbPort) (f : Frame), s.workerHears p = true ∧ f.dest = 0xFF ∧ s.on ORB.addrValid = false ∧
    frameGood f = true ∧ f.hops ≠ 255 ∧ s.drives (s.outPort p) = true ∧ payNat f 0 8 = Config.serial.toNat ∧ payByte f
    8 = 0xFF) ∧
  (∃ (s : State) (p : OrbPort) (f : Frame), s.workerHears p = true ∧ f.dest = 0xFF ∧ p = s.outboundIn ∧ s.on
    ORB.addrValid = true ∧ frameGood f = true ∧ f.hops ≠ 255 ∧ s.drives (s.outPort p) = true) ∧
  (∃ (s : State) (p po : OrbPort) (f : Frame) (r : Bool) (l : List OrbPort) (a : Nat), s.orbUp = true ∧ s.manager =
    true ∧ frameGood f = true ∧ s.on ORB.conflict = false ∧ s.orbit.seq = .enum r (po :: l) ∧ s.addrFor (BitVec.ofNat
    64 (payNat f 0 8)) = some a ∧ f.payload.length = 9) ∧
  (∃ (s : State) (p po : OrbPort) (f : Frame) (r : Bool) (l : List OrbPort), s.orbUp = true ∧ s.manager = true ∧
    frameGood f = true ∧ s.on ORB.conflict = false ∧ s.orbit.seq = .enum r (po :: l) ∧ s.addrFor (BitVec.ofNat 64
    (payNat f 0 8)) = none ∧ f.payload.length = 9) ∧
  (∃ (s : State) (p po : OrbPort) (f : Frame) (r : Bool) (a : Nat) (l : List OrbPort), s.orbUp = true ∧ s.manager =
    true ∧ frameGood f = true ∧ s.orbit.seq = .enum r (po :: l) ∧ s.orbit.asked = [a] ∧ Sparse.get 0 s.orbit.serials a
    = BitVec.ofNat 64 (payNat f 0 8)) ∧
  (∃ (s : State) (p : OrbPort) (f : Frame) (r : Bool) (a : Nat), s.orbUp = true ∧ s.manager = true ∧ frameGood f =
    true ∧ s.orbit.seq = .enum r [] ∧ s.orbit.asked = [a] ∧ Sparse.get 0 s.orbit.serials a = BitVec.ofNat 64 (payNat f
    0 8)) ∧
  (∃ (s : State) (p : OrbPort) (f : Frame), s.orbUp = true ∧ s.manager = true ∧ frameGood f = true ∧ s.orbit.asked =
    []) ∧
  (∃ (s : State) (c : Instr), c ∈ [.orbEnum, .orbEnumRetry, .orbRemeasure] ∧ (s.writeTakes ORB.ctrl = false ∨
    s.manager = false)) ∧
  (∃ (s : State) (c : Instr) (b : Bool), (c, b) ∈ [(.orbEnum, false), (.orbEnumRetry, true)] ∧ s.writeTakes ORB.ctrl =
    true ∧ s.manager = true ∧ s.orbit.seq ≠ .idle) ∧
  (∃ (s : State) (c : Instr) (b : Bool), (c, b) ∈ [(.orbEnum, false), (.orbEnumRetry, true)] ∧ s.writeTakes ORB.ctrl =
    true ∧ s.manager = true ∧ s.orbit.seq = .idle ∧ s.on ORB.conflict = false ∧ s.orbUp = true ∧ s.orbit.remeasure =
    false ∧ s.orbit.healOwed = false ∧ s.orbit.enumOwed = []) ∧
  (∃ (s : State) (a : Nat) (l : List Nat), s.writeTakes ORB.ctrl = true ∧ s.manager = true ∧ s.orbit.seq = .idle ∧
    s.on ORB.conflict = false ∧ s.orbUp = true ∧ s.on ORB.folded = false ∧ s.present254 = a :: l) ∧
  (∃ (s : State) (a : Byte), s.writeTakes ORB.release = true ∧ s.manager = true ∧ s.get (ORB.mapState a.toNat) = 2) ∧
  (∃ (s : State) (a : Byte), (s.writeTakes ORB.release = false ∨ s.manager = false ∨ s.get (ORB.mapState a.toNat) ≠
    2)) := by
  exact ⟨⟨newcomer, .U, { toAll 9 [1] with hops := 254 }, by decide +kernel⟩,
    ⟨newcomer.put ORB.chainFull 1, .U, { toAll 9 [0] with crc := 9 }, by decide +kernel⟩,
    ⟨newcomer.put ORB.chainFull 1, .U, toAll 9 [0], by decide +kernel⟩,
    ⟨newcomer, .U, { toAll 9 [1] with crc := 9 }, by decide +kernel⟩,
    ⟨{ up with pwr := { up.pwr with rails := 0 } }, .U, toAll 9 [1], .enumAnsFrame .U (toAll 9 [1]), by decide +kernel⟩,
    ⟨newcomer, .U, assignTo 0xFE, by decide, rfl, by decide, assignTo_good _, by decide, by decide, assignTo_serial _, by decide, by decide⟩,
    ⟨newcomer, .U, assignTo 0xFF, by decide, rfl, by decide, assignTo_good _, by decide, by decide, assignTo_serial _, by decide⟩,
    ⟨wkr, .U, toAll 0x0B [1, 2, 3, 4, 5, 6, 7, 8, 9], by decide +kernel⟩,
    ⟨busyWith (.enum true [.D]), .D, .D, fromFive 0x0A [1, 2, 3, 4, 5, 6, 7, 8, 3], true, [], 1, by decide +kernel⟩,
    ⟨fullChain, .D, .D, fromFive 0x0A [1, 2, 3, 4, 5, 6, 7, 8, 3], false, [], by decide +kernel⟩,
    ⟨{ busyWith (.enum false [.U]) with orbit := { (busyWith (.enum false [.U])).orbit with asked := [254], serials := [(254, 0x0807060504030201#64)] } }, .U, .U, fromFive 0x0C [1, 2, 3, 4, 5, 6, 7, 8], false, 254, [], by decide +kernel⟩,
    ⟨{ busyWith (.enum false []) with orbit := { (busyWith (.enum false [])).orbit with asked := [254], serials := [(254, 0x0807060504030201#64)] } }, .U, fromFive 0x0C [1, 2, 3, 4, 5, 6, 7, 8], false, 254, by decide +kernel⟩,
    ⟨mgr, .U, fromFive 0x0C [1, 2, 3, 4, 5, 6, 7, 8], by decide +kernel⟩,
    ⟨wkr, .orbEnum, by decide +kernel⟩,
    ⟨busyWith .healWait, .orbEnum, false, by decide +kernel⟩,
    ⟨mgr, .orbEnumRetry, true, by decide +kernel⟩,
    ⟨busyWith .idle, 5, [], by decide +kernel⟩,
    ⟨mgr.put (ORB.mapState 254) 2, 254, by decide +kernel⟩,
    ⟨mgr.put (ORB.mapState 254) 1, 254, by decide +kernel⟩⟩

theorem witness_foldsHealsBeaconsAndPorts :
  (∃ (s : State) (p : OrbPort) (f : Frame), s.workerHears p = true ∧ s.on ORB.addrValid = true ∧ s.get ORB.addr < 255
    ∧ bitOf (payNat f 0 32) (s.get ORB.addr) = false ∧ frameGood f = true ∧ f.hops.toNat < 255) ∧
  (∃ (s : State) (p : OrbPort) (f : Frame), s.workerHears p = true ∧ (s.on ORB.addrValid = false ∨ bitOf (payNat f 0
    32) (s.get ORB.addr) = true) ∧ (s.receives p f.dest.toNat = false ∨ frameGood f = true) ∧ s.drives (s.outPort p) =
    true ∧ f.hops ≠ 255) ∧
  (∃ (s : State) (p : OrbPort) (f : Frame), s.workerHears p = true ∧ (s.on ORB.addrValid = false ∨ bitOf (payNat f 0
    32) (s.get ORB.addr) = true) ∧ s.receives p f.dest.toNat = true ∧ frameGood f = false ∧ s.drives (s.outPort p) =
    true ∧ f.hops ≠ 255) ∧
  (∃ (s : State) (p : OrbPort) (f : Frame), s.orbUp = true ∧ s.manager = true ∧ frameGood f = true ∧ s.orbit.seq =
    .fold [.D, .U] ∧ f.tag = 1) ∧
  (∃ (s : State) (p : OrbPort) (f : Frame), s.orbUp = true ∧ s.manager = true ∧ frameGood f = true ∧ s.orbit.seq =
    .fold [.D] ∧ f.tag = 0) ∧
  (∃ (s : State) (p : OrbPort) (f : Frame), s.orbUp = true ∧ s.manager = true ∧ frameGood f = true ∧ s.orbit.seq =
    .healMap) ∧
  (∃ (s : State) (p : OrbPort) (f : Frame), (s.orbUp = false ∨ s.manager = false ∨ (frameGood f = true ∧ s.orbit.seq =
    .idle))) ∧
  (∃ (s : State) (tag : Byte), s.orbUp = true ∧ s.manager = true ∧ s.orbit.seq = .fold [.D, .U] ∧ tag = 0) ∧
  (∃ (s : State) (p : OrbPort) (sq : PriSeq), s.workerHears p = true ∧ sq.intact = true ∧ s.drives (s.outPort p) =
    true ∧ s.orbit.restored = 0) ∧
  (∃ (s : State) (p : OrbPort) (sq : PriSeq), s.orbUp = true ∧ s.manager = true ∧ sq.intact = true ∧ priGood 3 sq =
    false) ∧
  (∃ (s : State) (p : OrbPort) (sq : PriSeq), s.orbUp = true ∧ s.manager = true ∧ priGood 3 sq = true ∧ ofBytes
    (sq.data.take 2) = (s.reg GLB.serialLo).toNat % 2 ^ 16 ∧ (s.on ORB.folded = true ∨ p = (if bitOf (sq.data.getD 2
    0).toNat 7 then .D else .U))) ∧
  (∃ (s : State) (p : OrbPort) (sq : PriSeq), s.orbUp = true ∧ s.manager = true ∧ priGood 3 sq = true ∧ ofBytes
    (sq.data.take 2) = (s.reg GLB.serialLo).toNat % 2 ^ 16 ∧ s.on ORB.folded = false ∧ p = (if bitOf (sq.data.getD 2
    0).toNat 7 then .U else .D) ∧ s.on ORB.conflict = false ∧ s.folding = false) ∧
  (∃ (s : State) (p : OrbPort) (sq : PriSeq), s.orbUp = true ∧ s.manager = true ∧ priGood 3 sq = true ∧ ofBytes
    (sq.data.take 2) ≠ (s.reg GLB.serialLo).toNat % 2 ^ 16 ∧ s.on ORB.conflict = false) ∧
  (∃ (s : State), s.orbUp = true ∧ s.manager = true) ∧
  (∃ (s : State), (s.orbUp = false ∨ s.manager = false)) ∧
  (∃ (s : State) (b : Bool), s.orbUp = true ∧ s.manager = true ∧ s.on ORB.conflict = false ∧ s.folding = false) ∧
  (∃ (s : State) (b : Bool), (s.orbUp = false ∨ s.manager = false ∨ s.on ORB.conflict = true ∨ s.folding = true)) ∧
  (∃ (s : State) (p : OrbPort) (n : Nat), s.workerHears p = true ∧ s.drives (s.outPort p) = true) ∧
  (∃ (s : State) (p : OrbPort) (n a : Nat) (r : Bool) (b : Nat × Bool) (l : List (Nat × Bool)), s.orbUp = true ∧
    s.manager = true ∧ s.orbit.seq = .measure ((a, r) :: b :: l) ∧ p = (if r then .U else .D) ∧ s.on ORB.conflict =
    false ∧ 920 ≤ n) ∧
  (∃ (s : State) (p : OrbPort) (d : Byte), s.workerHears p = true ∧ s.receives p d.toNat = true) ∧
  (∃ (s : State) (p : OrbPort) (d : Byte), s.workerHears p = true ∧ s.receives p d.toNat = false) ∧
  (∃ (s : State) (p : OrbPort) (d : Byte), s.orbUp = true ∧ s.manager = true) ∧
  (∃ (s : State) (p : OrbPort) (d : Byte), (s.orbUp = false ∨ (s.manager = false ∧ s.workerHears p = false))) ∧
  (∃ (s : State) (p : OrbPort), s.orbUp = true ∧ s.on (ORB.loss (portIdx p)) = false) ∧
  (∃ (s : State) (p : OrbPort), (s.orbUp = false ∨ s.on (ORB.loss (portIdx p)) = true)) ∧
  (∃ (s : State) (p : OrbPort), s.orbUp = true ∧ s.on (ORB.loss (portIdx p)) = true) ∧
  (∃ (s : State) (p : OrbPort), (s.orbUp = false ∨ s.on (ORB.loss (portIdx p)) = false)) ∧
  (∃ (s : State) (w : Bool), s.manager = true ∧ s.on ORB.folded = true ∧ s.orbit.seq = .idle ∧ s.on ORB.conflict =
    false ∧ s.orbit.remeasure = false ∧ (s.on ORB.autoHeal = true ∨ s.on (ORB.ctrlBit 2) = true ∨ (w = true ∧
    s.writeTakes ORB.ctrl = true))) ∧
  (∃ (s : State), s.writeTakes ORB.ctrl = true ∧ s.manager = true) ∧
  (∃ (s : State) (w : Bool), s.on ORB.autoHeal = false ∧ s.on (ORB.ctrlBit 2) = false ∧ (w = false ∨ s.writeTakes
    ORB.ctrl = false)) ∧
  (∃ (s : State) (w r : Bool), (s.manager = false ∨ (s.on ORB.folded = false ∧ (w = false ∨ s.writeTakes ORB.ctrl =
    false)))) ∧
  (∃ (s : State) (r : Bool), s.manager = true ∧ s.writeTakes ORB.ctrl = true ∧ s.on ORB.folded = false) ∧
  (∃ (s : State), s.orbit.seq = .healWait ∧ s.on ORB.conflict = false ∧ s.orbUp = true) ∧
  (∃ (s : State), s.orbit.seq = .healWait ∧ (s.on ORB.conflict = true ∨ s.orbUp = false)) ∧
  (∃ (s : State), s.orbit.seq ≠ .healWait) ∧
  (∃ (s : State) (p : OrbPort) (sq : PriSeq) (tg kind : Byte), s.workerHears p = true ∧ p = s.outboundIn ∧ priGood 2
    sq = true ∧ sq.data = [tg, kind] ∧ s.named tg.toNat = true ∧ s.drives (s.outPort p) = true ∧ s.pwr.phase = .run ∧
    (kind = 1 ∨ 3 ≤ kind.toNat)) ∧
  (∃ (s : State) (p : OrbPort) (sq : PriSeq) (tg kind : Byte), s.workerHears p = true ∧ p = s.outboundIn ∧ priGood 2
    sq = true ∧ sq.data = [tg, kind] ∧ s.named tg.toNat = true) ∧
  (∃ (s : State) (p : OrbPort) (sq : PriSeq) (tg : Byte), s.workerHears p = true ∧ p = s.outboundIn ∧ priGood 2 sq =
    true ∧ sq.data = [tg, 0] ∧ s.named tg.toNat = true ∧ s.pwr.phase = .sleep) ∧
  (∃ (s : State) (p : OrbPort) (sq : PriSeq), s.workerHears p = true ∧ sq.intact = true ∧ (priGood 2 sq && decide (p =
    s.outboundIn) && s.named (sq.data.getD 0 0).toNat) = false ∧ s.drives (s.outPort p) = true) := by
  exact ⟨⟨wkr, .D, { toAll 0x0D (List.replicate 32 0) with hops := 254 }, by decide +kernel⟩,
    ⟨newcomer, .D, toAll 0x0D [0], by decide +kernel⟩,
    ⟨newcomer, .D, { toAll 0x0D [0] with crc := 1 }, by decide +kernel⟩,
    ⟨busyWith (.fold [.D, .U]), .D, toAll 0x0D [0x20], by decide +kernel⟩,
    ⟨busyWith (.fold [.D]), .D, sealFrame { toAll 0x0D [0x20] with tag := 0 }, by decide +kernel⟩,
    ⟨busyWith .healMap, .D, toAll 0x0D [0x20], by decide +kernel⟩,
    ⟨mgr, .D, toAll 0x0D [0x20], by decide +kernel⟩,
    ⟨busyWith (.fold [.D, .U]), 0, by decide +kernel⟩,
    ⟨wkr, .U, priOf [1, 2, 3] none, by decide +kernel⟩,
    ⟨serial201, .U, { priOf [1, 2, 0x7F] none with chk := 0 }, by decide +kernel⟩,
    ⟨serial201, .U, priOf [1, 2, 0x7F] none, by decide +kernel⟩,
    ⟨serial201, .D, priOf [1, 2, 0x7F] none, by decide +kernel⟩,
    ⟨serial201, .D, priOf [2, 2, 0x7F] none, by decide +kernel⟩,
    ⟨mgr, by decide +kernel⟩,
    ⟨wkr, by decide +kernel⟩,
    ⟨busyWith (.enum true [.D]), true, by decide +kernel⟩,
    ⟨mgr.put ORB.conflict 1, true, by decide +kernel⟩,
    ⟨{ wkr with orbit := { Orbit.reset with probed := true } }, .U, 7, by decide +kernel⟩,
    ⟨busyWith (.measure [(5, true), (6, false)]), .U, 1000, 5, true, (6, false), [], by decide +kernel⟩,
    ⟨wkr, .U, 5, by decide +kernel⟩,
    ⟨wkr, .U, 6, by decide +kernel⟩,
    ⟨mgr, .D, 9, by decide +kernel⟩,
    ⟨wkr.put (ORB.wrap 0) 1, .U, 5, by decide +kernel⟩,
    ⟨wkr.put (ORB.loss 1) 1, .U, by decide +kernel⟩,
    ⟨wkr.put (ORB.loss 1) 1, .D, by decide +kernel⟩,
    ⟨(wkr.put (ORB.loss 1) 1).put (ORB.loss 0) 1, .D, by decide +kernel⟩,
    ⟨wkr, .D, by decide +kernel⟩,
    ⟨(busyWith .idle).put ORB.folded 1, true, by decide +kernel⟩,
    ⟨(busyWith .healWait).put ORB.folded 1, by decide +kernel⟩,
    ⟨((busyWith .idle).put ORB.folded 1).put ORB.autoHeal 0, false, by decide +kernel⟩,
    ⟨busyWith .idle, false, true, by decide +kernel⟩,
    ⟨mgr, false, by decide +kernel⟩,
    ⟨(((busyWith .healWait).put ORB.folded 1).put (ORB.mapState 9) 1).put (ORB.mapArm 9) 2, by decide +kernel⟩,
    ⟨((busyWith .healWait).put ORB.folded 1).put ORB.conflict 1, by decide +kernel⟩,
    ⟨busyWith .healMap, by decide +kernel⟩,
    ⟨wkr, .U, { priOf [0xFF, 3] none with refused := 0 }, 0xFF, 3, by decide +kernel⟩,
    ⟨wkr, .U, priOf [0xFF, 2] none, 0xFF, 2, by decide +kernel⟩,
    ⟨{ wkr with pwr := { wkr.pwr with phase := .sleep } }, .U, priOf [5, 0] none, 5, by decide +kernel⟩,
    ⟨wkr, .D, priOf [6, 0] none, by decide +kernel⟩⟩

theorem witness_capturesAndTelemetry :
  (∃ (s : State) (p : OrbPort) (sq : PriSeq) (e : Word), s.workerHears p = true ∧ p = s.outboundIn ∧ priGood 1 sq =
    true ∧ ofBytes sq.data = e.toNat ∧ s.drives (s.outPort p) = true ∧ e ≠ s.reg ECL.epoch ∧ s.shot = none ∧
    s.fileUp = true ∧ s.on ECL.copyBusy = false ∧ s.chooseBank.isSome = true) ∧
  (∃ (s : State) (p : OrbPort) (sq : PriSeq) (e : Word), s.workerHears p = true ∧ p = s.outboundIn ∧ priGood 1 sq =
    true ∧ ofBytes sq.data = e.toNat ∧ s.drives (s.outPort p) = true ∧ (e = s.reg ECL.epoch ∨ s.shot.any (fun x =>
    decide (x.epoch = e)) = true)) ∧
  (∃ (s : State) (p : OrbPort) (sq : PriSeq) (e : Word) (st : Nat), s.workerHears p = true ∧ p = s.outboundIn ∧
    priGood 1 sq = true ∧ ofBytes sq.data = e.toNat ∧ s.drives (s.outPort p) = true ∧ e ≠ s.reg ECL.epoch ∧
    s.shot.any (fun x => decide (x.epoch = e)) = false ∧ sq.refused = 0 ∧ ((s.fileUp = false ∧ st = 5) ∨ (s.fileUp =
    true ∧ (s.on ECL.copyBusy = true ∨ s.shot.isSome = true ∨ s.chooseBank = none) ∧ st = 7))) ∧
  (∃ (s : State) (p : OrbPort) (sq : PriSeq), s.workerHears p = true ∧ sq.intact = true ∧ (priGood 1 sq = false ∨ p
    ≠ s.outboundIn) ∧ s.drives (s.outPort p) = true) ∧
  (∃ (s : State) (p : OrbPort) (sq : PriSeq), s.workerHears p = false) ∧
  (∃ (s : State) (x : Shot) (b : Fin 2), s.shot = some x ∧ s.fileUp = true ∧ s.chooseBank = some b.val ∧ s.on
    ECL.hclr = false) ∧
  (∃ (s : State) (x : Shot) (b : Fin 2) (i : Fin 68) (k : Fin 17), s.shot = some x ∧ s.fileUp = true ∧ s.chooseBank
    = some b.val ∧ s.on ECL.hclr = true) ∧
  (∃ (s : State) (x : Shot), s.shot = some x ∧ (s.fileUp = false ∨ s.chooseBank = none)) ∧
  (∃ (s : State), s.shot = none) ∧
  (∃ (s : State) (b : Fin 2), s.get (ECL.bank b) = 1 ∧ (b.val = 1 → s.get (ECL.bank 0) ≠ 1)) ∧
  (∃ (s : State), s.get (ECL.bank 0) ≠ 1 ∧ s.get (ECL.bank 1) ≠ 1) ∧
  (∃ (s : State) (n : Fin 16), s.on (ECL.sActive n) = false) ∧
  (∃ (s : State) (n : Fin 16), s.on (ECL.sActive n) = true ∧ s.sampling = false) ∧
  (∃ (s : State) (n : Fin 16), s.on (ECL.sActive n) = true ∧ s.sampling = true ∧ (s.fileUp = false ∨ (s.strm
    n).wait.isSome = true)) ∧
  (∃ (s : State) (n : Fin 16), s.on (ECL.sActive n) = true ∧ s.sampling = true ∧ s.fileUp = true ∧ s.manager = false
    ∧ (s.strm n).wait = none) ∧
  (∃ (s : State) (n : Fin 16), s.on (ECL.sActive n) = true ∧ s.sampling = true ∧ s.fileUp = true ∧ s.manager = true
    ∧ (s.strm n).wait = none ∧ s.get (RNG.state (s.get (ECL.sCq n))) ≠ 1) ∧
  (∃ (s : State) (n : Fin 16), s.on (ECL.sActive n) = true ∧ s.sampling = true ∧ s.fileUp = true ∧ s.manager = true
    ∧ s.hostUp = true ∧ (s.strm n).wait = none ∧ s.get (RNG.state (s.get (ECL.sCq n))) = 1 ∧ 2 ≤ s.cqRoom (s.get
    (ECL.sCq n))) ∧
  (∃ (s : State) (n : Fin 16) (b : List Byte), s.orbUp = true ∧ s.manager = false ∧ s.on ORB.addrValid = true ∧
    s.telemWaiting true = some n.val ∧ (s.strm n).wait = some ([], b) ∧ s.drives (s.outPort s.outboundIn) = true) ∧
  (∃ (s : State) (n : Fin 16) (h b : List Byte), s.orbUp = true ∧ s.manager = false ∧ s.on ORB.addrValid = true ∧
    s.telemWaiting true = none ∧ s.waitq = [] ∧ s.evFrames = [] ∧ s.telemWaiting false = some n.val ∧ (s.strm
    n).wait = some (h, b) ∧ s.drives (s.outPort s.outboundIn) = true) := by
  exact ⟨⟨wkr.put ORB.hopsFwd 255, .U, priOf [9, 0, 0, 0] none, 9, by decide +kernel⟩,
    ⟨wkr, .U, priOf (bytesOf 4 (wkr.reg ECL.epoch).toNat) none, wkr.reg ECL.epoch, by decide +kernel⟩,
    ⟨{ wkr with pwr := { wkr.pwr with phase := .deep } }, .U, priOf [9, 0, 0, 0] none, 9, 5, by decide +kernel⟩,
    ⟨wkr, .U, priOf [9, 0, 0] none, by decide +kernel⟩,
    ⟨mgr, .U, priOf [9, 0, 0, 0] none, by decide +kernel⟩,
    ⟨(shooting.put (ECL.pin 0) 1).put ECL.hclr 0, ⟨9, false, 0, .D, 0⟩, 1, by decide +kernel⟩,
    ⟨(shooting.put ECL.hclr 1).setReg (LRX.base 67 + 0xE40) 5, ⟨9, false, 0, .D, 0⟩, 0, by decide +kernel⟩,
    ⟨(shooting.put (ECL.pin 0) 1).put (ECL.pin 1) 1, ⟨9, false, 0, .D, 0⟩, by decide +kernel⟩,
    ⟨mgr, by decide +kernel⟩,
    ⟨mgr.put (ECL.bank 1) 1, 1, by decide +kernel⟩,
    ⟨mgr, by decide +kernel⟩,
    ⟨mgr, 15, by decide +kernel⟩,
    ⟨{ mgr.put (ECL.sActive 15) 1 with pwr := { mgr.pwr with phase := .entry 2 } }, 15, by decide +kernel⟩,
    ⟨(wkr.put (ECL.sActive 15) 1).updStrm 15 (fun x => { x with wait := some ([], []) }), 15, by decide +kernel⟩,
    ⟨wkr.put (ECL.sActive 0) 1, 0, by decide +kernel⟩,
    ⟨mgr.put (ECL.sActive 0) 1, 0, by decide +kernel⟩,
    ⟨(running.put (ECL.sActive 0) 1).put (ECL.sCq 0) 4, 0, by decide +kernel⟩,
    ⟨{ wkr with streams := [(3, { Stream.idle with wait := some ([], List.replicate 26 4) })] }, 3, List.replicate 26 4, by decide +kernel⟩,
    ⟨{ wkr with streams := [(3, { Stream.idle with wait := some (List.replicate 24 5, List.replicate 24 4) })] }, 3, List.replicate 24 5, List.replicate 24 4, by decide +kernel⟩⟩

theorem witness_theEclipseEpoch :
  (∃ (s : State) (x : Shot), s.shot = some x ∧ s.fileUp = true ∧ s.chooseBank.isSome = true) ∧
  (∃ (s : State) (q : Nat) (d : Desc), dType d = 0x07 ∧ dField d 8 4 = 0) ∧
  (∃ (s : State) (p : OrbPort) (sq : PriSeq), s.workerHears p = true ∧ p = s.outboundIn ∧ s.drives (s.outPort p) =
    true ∧ priGood 1 sq = true ∧ BitVec.ofNat 32 (ofBytes sq.data) = s.reg ECL.epoch) ∧
  (∃ (s : State) (q : RingN) (i : BitVec 16) (f : Flight), s.starts q i.toNat 0x07 none = some f ∧ s.isMeasuring =
    false ∧ BitVec.ofNat 32 (dField f.desc 8 4) = s.reg ECL.epoch ∧ s.on ORB.conflict = false ∧ s.orbUp = true) := by
  exact ⟨⟨shooting, ⟨9, false, 0, .D, 0⟩, by decide +kernel⟩,
    ⟨running, 63, dsc 7 0xFF 0, by decide +kernel⟩,
    ⟨wkr.setReg ECL.epoch 9, .U, priOf [9, 0, 0, 0] none, by decide +kernel⟩,
    ⟨(offered (dsc 7 0xFF 9)).setReg ECL.epoch 9, 4, 7#16, fresh (dsc 7 0xFF 9), by decide +kernel⟩⟩

theorem witness_faultOnsetsAndGrace :
  (∃ (s : State) (n : Source), ownCause n = false ∧ s.faultCan n 0 = true ∧ (n.val < 136 ∨ 160 ≤ n.val) ∧ s.on
    (FLT.live n) = false ∧ s.get (FLT.sev n) = 0) ∧
  (∃ (s : State) (n : Source), ownCause n = false ∧ s.faultCan n 0 = true ∧ (n.val < 136 ∨ 160 ≤ n.val) ∧ s.on
    (FLT.live n) = false ∧ 1 ≤ s.get (FLT.sev n) ∧ s.get (FLT.sev n) ≤ 3 ∧ s.on FLT.fValid = false) ∧
  (∃ (s : State) (n : Source), ownCause n = false ∧ s.faultCan n 0 = true ∧ (n.val < 136 ∨ 160 ≤ n.val) ∧ s.on
    (FLT.live n) = false ∧ 1 ≤ s.get (FLT.sev n) ∧ s.get (FLT.sev n) ≤ 3 ∧ s.on FLT.fValid = true) ∧
  (∃ (s : State) (n : Source), ownCause n = false ∧ s.faultCan n 0 = true ∧ (n.val < 136 ∨ 160 ≤ n.val) ∧ s.on
    (FLT.live n) = false ∧ 4 ≤ s.get (FLT.sev n)) ∧
  (∃ (s : State) (n : Source), ownCause n = false ∧ s.faultCan n 0 = true ∧ (n.val < 136 ∨ 160 ≤ n.val) ∧ s.on
    (FLT.live n) = true) ∧
  (∃ (s : State) (n : Source) (k : Nat), s.faultCan n k = false) ∧
  (∃ (s : State) (e : Fin 2) (g : Fin 4) (k : Fin 4096) (n : Source), n.val = 137 + 12 * e.val ∧ s.fileUp = true ∧
    s.on (FLT.live n) = true) ∧
  (∃ (s : State) (e : Fin 2) (g : Fin 4) (k : Nat) (n : Source), n.val = 138 + 12 * e.val ∧ k < 4096 ∧ s.fileUp = true
    ∧ s.on (FLT.live n) = true) ∧
  (∃ (s : State) (e sd slot : Fin 2) (g : Fin 4) (n : Source), n.val = 140 + 12 * e.val ∧ s.fileUp = true ∧ s.on
    (FLT.live n) = true) ∧
  (∃ (s : State) (k : Nat), 0 < k ∧ k < 32 ∧ s.fileUp = true ∧ s.on (FLT.live 165) = true) ∧
  (∃ (s : State) (n : Source) (k : Nat), ownCause n = true ∧ s.present n = false ∧ (68 ≤ n.val ∨ s.erasedNow n =
    false)) ∧
  (∃ (s : State) (n : Source), n.val < 68 ∧ s.faultCan n 0 = true ∧ s.erasedNow n = true ∧ s.on (FLT.le n 3) = false ∧
    s.isIsolated n = true ∧ s.on (FLT.live n) = true ∧ 4 ≤ s.get (FLT.sev n)) ∧
  (∃ (s : State) (n : Source), ownCause n = true ∧ n.val ≠ 183) ∧
  (∃ (s : State) (n : Source), ownCause n = false ∧ s.flt.wiring.testBit n = false) ∧
  (∃ (s : State) (n : Source), ownCause n = false ∧ s.flt.wiring.testBit n = true) ∧
  (∃ (s : State) (n : Source), (s.flt.wiring.testBit n = true ∨ s.sourceUp n = false)) ∧
  (∃ (s : State) (n : Source), s.flt.wiring.testBit n = false ∧ s.sourceUp n = true) ∧
  (∃ (s : State) (n : Source) (b : Bool), s.flt.wiring.testBit n = false) ∧
  (∃ (s : State) (n : Source) (b : Bool), s.flt.wiring.testBit n = true) ∧
  (∃ (s : State) (n : Source), (s.grace.testBit n = false ∨ s.fileUp = false)) ∧
  (∃ (s : State) (n : Source), s.grace.testBit n = true ∧ s.fileUp = true) ∧
  (∃ (s : State) (n : Source) (v : Word), s.writeTakes (FLT.srccfg n) = true ∧ s.flt.parity.testBit n = false) ∧
  (∃ (s : State) (n : Source) (v : Word), s.writeTakes (FLT.srccfg n) = false) := by
  exact ⟨⟨up.put (FLT.sev 182) 0, 182, by decide +kernel⟩,
    ⟨up.put (FLT.sev 182) 3, 182, by decide +kernel⟩,
    ⟨(up.put (FLT.sev 182) 1).put FLT.fValid 1, 182, by decide +kernel⟩,
    ⟨up.put (FLT.sev 182) 5, 182, by decide +kernel⟩,
    ⟨up.put (FLT.live 182) 1, 182, by decide +kernel⟩,
    ⟨State.reset, 182, 0, by decide +kernel⟩,
    ⟨(up.put (FLT.live 149) 1).updEng 1 3 (fun x => { x with slots := [⟨⟨goodFlit 1 4095, 9, [3], false, false⟩, 4095, 1, true, false, false⟩] }), 1, 3, 4095, 149, by decide +kernel⟩,
    ⟨up.put (FLT.live 150) 1, 1, 3, 4095, 150, by decide +kernel⟩,
    ⟨(up.put (FLT.live 152) 1).setKey 1 1 3 ⟨5, 0, true⟩, 1, 1, 1, 3, 152, by decide +kernel⟩,
    ⟨up.put (FLT.live 165) 1, 31, by decide +kernel⟩,
    ⟨up, 183, 0, by decide +kernel⟩,
    ⟨isolatedUp, 0, by decide +kernel⟩,
    ⟨up, 0, by decide +kernel⟩,
    ⟨{ up.put (FLT.live 182) 1 with causes := 2 ^ 182 }, 182, by decide +kernel⟩,
    ⟨{ up.put (FLT.live 182) 1 with causes := 2 ^ 182, flt := { Flt.reset with wiring := 2 ^ 182 } }, 182, by decide +kernel⟩,
    ⟨{ up with flt := { Flt.reset with wiring := 2 ^ 182 } }, 182, by decide +kernel⟩,
    ⟨up.put (FLT.live 182) 1, 182, by decide +kernel⟩,
    ⟨up, 0, true, by decide +kernel⟩,
    ⟨{ up.put (FLT.live 182) 1 with flt := { Flt.reset with wiring := 2 ^ 182 } }, 182, true, by decide +kernel⟩,
    ⟨up, 0, by decide +kernel⟩,
    ⟨{ up with grace := 2 ^ 183 }, 183, by decide +kernel⟩,
    ⟨{ up with grace := 2 ^ 183 }, 183, 0xFFFFFFFA#32, by decide +kernel⟩,
    ⟨State.reset, 183, 5#32, by decide +kernel⟩⟩

theorem witness_collectorPinAndSelfFaults :
  (∃ (s : State), s.on FLT.hold = false ∧ s.safe = false) ∧
  (∃ (s : State), (s.on FLT.hold || s.safe) = true ∧ s.flt.low = true) ∧
  (∃ (s : State), s.faultLow = false) ∧
  (∃ (s : State), s.faultLow = true ∧ s.flt.low = true) ∧
  (∃ (s : State) (n : Source), s.on FLT.compat = false ∧ s.on FLT.fValid = true ∧ n.val ≠ 160) ∧
  (∃ (s : State), s.on FLT.compat = false ∧ s.on FLT.fValid = false) ∧
  (∃ (s : State) (n : Source), s.on FLT.compat = true ∧ s.on (FLT.live 160) = true) ∧
  (∃ (s : State) (n : Source), s.on FLT.compat = true ∧ s.on (FLT.live 160) = false) ∧
  (∃ (s : State), s.on FLT.compat = true) := by
  exact ⟨⟨{ up.put FLT.pulseBusy 1 with flt := { Flt.reset with low := true } }, by decide +kernel⟩,
    ⟨{ (up.put FLT.pulseBusy 1).put FLT.hold 1 with flt := { Flt.reset with low := true } }, by decide +kernel⟩,
    ⟨up, by decide +kernel⟩,
    ⟨{ up.put FLT.hold 1 with flt := { Flt.reset with low := true } }, by decide +kernel⟩,
    ⟨(up.put FLT.fValid 1).put (FLT.sev 183) 0, 183, by decide +kernel⟩,
    ⟨(up.put GLB.closed 1).put GLB.strapSafeTx 1, by decide +kernel⟩,
    ⟨(up.put FLT.compat 1).put (FLT.live 160) 1, 183, by decide +kernel⟩,
    ⟨up.put FLT.compat 1, 183, by decide +kernel⟩,
    ⟨up.put FLT.compat 1, by decide +kernel⟩⟩

theorem witness_selfTestSlices :
  (∃ (s : State), s.bist = []) ∧
  (∃ (s : State) (r : BistRun), s.bist = [r] ∧ r.accepted = true ∧ r.stage ≠ .waiting) ∧
  (∃ (s : State) (r : BistRun) (x : BistSlice), s.bist = [r] ∧ r.accepted = true ∧ r.stage = .waiting ∧ r.slices = [x]
    ∧ r.k = 0 ∧ r.owner = .nobody ∧ x.kind ≠ 1 ∧ s.slicePre x = false) ∧
  (∃ (s : State) (r : BistRun) (x : BistSlice), s.bist = [r] ∧ r.accepted = true ∧ r.stage = .waiting ∧ r.slices = [x]
    ∧ r.k = 0 ∧ x.kind = 2 ∧ s.slicePre x = true) ∧
  (∃ (s : State) (r : BistRun) (x : BistSlice) (k : Fin 16), s.bist = [r] ∧ r.accepted = true ∧ r.stage = .waiting ∧
    r.slices = [x] ∧ r.k = 0 ∧ (x.kind = 3 ∨ x.kind = 4) ∧ s.slicePre x = true) ∧
  (∃ (s : State) (r : BistRun) (x : BistSlice), s.bist = [r] ∧ r.stage = .copying ∧ r.slices = [x] ∧ r.k = 0 ∧ x.kind
    = 2 ∧ x.sel / 128 < 2) ∧
  (∃ (s : State), s.sliceAt 2 .copying = none) ∧
  (∃ (s : State) (r : BistRun) (x : BistSlice) (m : MarchResult), s.bist = [r] ∧ r.stage = .testing ∧ r.slices = [x] ∧
    r.k = 0 ∧ r.owner = .nobody ∧ x.kind = 2 ∧ marchOk m = true ∧ m.fails = 0) ∧
  (∃ (s : State) (r : BistRun) (x : BistSlice) (m : MarchResult) (e : Fin 2), s.bist = [r] ∧ r.stage = .testing ∧
    r.slices = [x] ∧ r.k = 0 ∧ r.owner = .nobody ∧ x.kind = 2 ∧ x.sel / 128 = e.val ∧ x.sel % 16 ≤ 8 ∧ marchOk m =
    true ∧ m.fails ≠ 0) ∧
  (∃ (s : State) (m : MarchResult), marchOk m = false) ∧
  (∃ (s : State) (m : MarchResult), s.sliceAt 2 .testing = none ∧ marchOk m = true) ∧
  (∃ (s : State) (r : BistRun) (x : BistSlice) (c : ScanResult) (e : Fin 2), s.bist = [r] ∧ r.stage = .testing ∧
    r.slices = [x] ∧ r.k = 0 ∧ r.owner = .nobody ∧ x.kind = 3 ∧ x.sel / 128 = e.val) ∧
  (∃ (s : State) (r : BistRun) (x : BistSlice) (c : ScanResult), s.bist = [r] ∧ r.stage = .testing ∧ r.slices = [x] ∧
    r.k = 0 ∧ r.owner = .nobody ∧ x.kind = 4) ∧
  (∃ (s : State) (c : ScanResult), s.scanSlice = none) ∧
  (∃ (s : State) (r : BistRun) (x : BistSlice) (l : LoopResult), s.bist = [r] ∧ r.stage = .testing ∧ r.slices = [x] ∧
    r.k = 0 ∧ r.owner = .nobody ∧ x.kind = 1 ∧ loopOk l = true ∧ resultElems l = s.testElems (sliceIdx x) ∧ s.loopJob
    = none ∧ s.rxActive (sliceIdx x) = true ∧ s.txActive (sliceIdx x) = true ∧ (s.rxe (sliceIdx x)).fg = false ∧
    (s.txe (sliceIdx x)).fg = false ∧ s.loopPass (sliceIdx x) l = true ∧ s.isIsolated (sliceIdx x) = false) ∧
  (∃ (s : State) (r : BistRun) (x : BistSlice) (l : LoopResult), s.bist = [r] ∧ r.stage = .testing ∧ r.slices = [x] ∧
    r.k = 0 ∧ r.owner = .nobody ∧ x.kind = 1 ∧ sliceIdx x < 68 ∧ loopOk l = true ∧ resultElems l = s.testElems
    (sliceIdx x) ∧ s.loopJob = none ∧ s.rxActive (sliceIdx x) = true ∧ s.txActive (sliceIdx x) = true ∧ (s.rxe
    (sliceIdx x)).fg = false ∧ (s.txe (sliceIdx x)).fg = false ∧ s.loopPass (sliceIdx x) l = false) ∧
  (∃ (s : State) (l : LoopResult), loopOk l = true ∧ s.sliceAt 1 .testing = none) ∧
  (∃ (s : State) (r : BistRun) (x : BistSlice) (l : LoopResult), s.bist = [r] ∧ r.stage = .testing ∧ r.slices = [x] ∧
    r.k = 0 ∧ x.kind = 1 ∧ loopOk l = true ∧ (resultElems l ≠ s.testElems (sliceIdx x) ∨ (s.isIsolated (sliceIdx x) =
    false ∧ (s.rxActive (sliceIdx x) = false ∨ s.txActive (sliceIdx x) = false ∨ (s.rxe (sliceIdx x)).fg = true ∨
    (s.txe (sliceIdx x)).fg = true)))) ∧
  (∃ (s : State) (r : BistRun) (x : BistSlice), s.bist = [r] ∧ r.accepted = true ∧ r.stage = .waiting ∧ r.slices = [x]
    ∧ r.k = 0 ∧ x.kind = 1 ∧ s.slicePre x = true ∧ s.sliceCarries x = none) ∧
  (∃ (s : State) (r : BistRun) (x : BistSlice) (g : Port) (n : Nat), s.bist = [r] ∧ r.accepted = true ∧ r.stage =
    .waiting ∧ r.slices = [x] ∧ r.k = 0 ∧ x.kind = 1 ∧ s.slicePre x = true ∧ s.sliceCarries x = some (g.val, n)) ∧
  (∃ (s : State) (l : LoopResult), loopOk l = false) ∧
  (∃ (s : State) (r : BistRun) (x : BistSlice) (e : Fin 2), s.bist = [r] ∧ r.stage = .testing ∧ r.slices = [x] ∧ r.k =
    0 ∧ r.owner = .nobody ∧ x.kind = 3 ∧ x.sel / 128 = e.val) ∧
  (∃ (s : State) (r : BistRun) (x : BistSlice), s.bist = [r] ∧ r.stage = .testing ∧ r.slices = [x] ∧ r.k = 0 ∧ x.kind
    = 1 ∧ s.isIsolated (sliceIdx x) = false ∧ (s.rxActive (sliceIdx x) = false ∨ s.txActive (sliceIdx x) = false ∨
    (s.rxe (sliceIdx x)).fg = true ∨ (s.txe (sliceIdx x)).fg = true)) ∧
  (∃ (s : State), s.bist = []) := by
  exact ⟨⟨up, by decide +kernel⟩,
    ⟨slicing ⟨3, 0, 0⟩ .testing, oneRun ⟨3, 0, 0⟩ .testing, by decide +kernel⟩,
    ⟨(slicing ⟨4, 0, 0⟩ .waiting).put (GLB.en 3) 1, oneRun ⟨4, 0, 0⟩ .waiting, ⟨4, 0, 0⟩, by decide +kernel⟩,
    ⟨(slicing ⟨2, 128, 0⟩ .waiting).put (BST.spare 1) 0, oneRun ⟨2, 128, 0⟩ .waiting, ⟨2, 128, 0⟩, by decide +kernel⟩,
    ⟨{ slicing ⟨4, 0, 0⟩ .waiting with keys := [(15, ⟨1, 0, true⟩)] }, oneRun ⟨4, 0, 0⟩ .waiting, ⟨4, 0, 0⟩, by decide +kernel⟩,
    ⟨slicing ⟨2, 136, 0⟩ .copying, oneRun ⟨2, 136, 0⟩ .copying, ⟨2, 136, 0⟩, by decide +kernel⟩,
    ⟨scanning, by decide +kernel⟩,
    ⟨slicing ⟨2, 8, 0⟩ .testing, oneRun ⟨2, 8, 0⟩ .testing, ⟨2, 8, 0⟩, ⟨0, 3071, 3, 13, 10⟩, by decide +kernel⟩,
    ⟨slicing ⟨2, 136, 0⟩ .testing, oneRun ⟨2, 136, 0⟩ .testing, ⟨2, 136, 0⟩, ⟨1, 3071, 3, 13, 10⟩, 1, by decide +kernel⟩,
    ⟨up, ⟨0, 3072, 0, 0, 0⟩, by decide +kernel⟩,
    ⟨scanning, ⟨1, 0, 0, 0, 10⟩, by decide +kernel⟩,
    ⟨slicing ⟨3, 128, 0⟩ .testing, oneRun ⟨3, 128, 0⟩ .testing, ⟨3, 128, 0⟩, ⟨5, 10⟩, 1, by decide +kernel⟩,
    ⟨slicing ⟨4, 0, 0⟩ .testing, oneRun ⟨4, 0, 0⟩ .testing, ⟨4, 0, 0⟩, ⟨5, 10⟩, by decide +kernel⟩,
    ⟨slicing ⟨2, 8, 0⟩ .testing, ⟨5, 10⟩, by decide +kernel⟩,
    ⟨((slicing ⟨1, 161, 0⟩ .testing).put (LRX.pwr 67) 2).put (LTX.pwr 67) 2, oneRun ⟨1, 161, 0⟩ .testing, ⟨1, 161, 0⟩, ⟨0, allGood, 10⟩, by decide +kernel⟩,
    ⟨((slicing ⟨1, 161, 0⟩ .testing).put (LRX.pwr 67) 2).put (LTX.pwr 67) 2, oneRun ⟨1, 161, 0⟩ .testing, ⟨1, 161, 0⟩, ⟨1, allGood, 10⟩, by decide +kernel⟩,
    ⟨up, ⟨0, [], 10⟩, by decide +kernel⟩,
    ⟨slicing ⟨1, 161, 0⟩ .testing, oneRun ⟨1, 161, 0⟩ .testing, ⟨1, 161, 0⟩, ⟨0, [], 10⟩, by decide +kernel⟩,
    ⟨slicing ⟨1, 161, 0⟩ .waiting, oneRun ⟨1, 161, 0⟩ .waiting, ⟨1, 161, 0⟩, by decide +kernel⟩,
    ⟨{ fUp.put (GLB.reach 0 0 0) 1 with bist := [oneRun ⟨1, 0, 0⟩ .waiting] }, oneRun ⟨1, 0, 0⟩ .waiting, ⟨1, 0, 0⟩, 0, 0, by decide +kernel⟩,
    ⟨up, ⟨0, [.slice 66 ⟨0, 0, 0, 0⟩], 10⟩, by decide +kernel⟩,
    ⟨slicing ⟨3, 128, 0⟩ .testing, oneRun ⟨3, 128, 0⟩ .testing, ⟨3, 128, 0⟩, 1, by decide +kernel⟩,
    ⟨slicing ⟨1, 161, 0⟩ .testing, oneRun ⟨1, 161, 0⟩ .testing, ⟨1, 161, 0⟩, by decide +kernel⟩,
    ⟨up, by decide +kernel⟩⟩

theorem witness_registerWritesAndTheLock :
  (∃ (s : State), s.writeTakes GLB.lock = true) ∧
  (∃ (s : State), s.writeTakes GLB.lock = false) ∧
  (∃ (s : State) (v : Word), s.writeTakes GLB.lock = true) ∧
  (∃ (s : State) (a : Addr) (v : Word), (a.toNat % 4 ≠ 0 ∨ s.accessStatus a.toNat ≠ 0)) ∧
  (∃ (s : State) (a : Addr) (v : Word), a ∈ [0#24, 4#24, 8#24]) ∧
  (∃ (s : State) (am : Addr × Word) (a : Addr) (m v : Word), am ∈ [(0x34#24, 0x3FFF#32), (0x10010#24, 0x7F#32),
    (0x20010#24, 0x3FF#32), (0x50000#24, 1#32), (0x50024#24, 7#32), (0x60018#24, 0x1F#32), (0x7000C#24, 0xF#32),
    (0x8000C#24, 0xFFFFFF#32), (0x9000C#24, 0xFFFFFF#32), (0xA8000#24, 0xFF3F#32), (0xA8014#24, 7#32)] ∧ am = (a, m) ∧
    s.writeTakes a.toNat = true) ∧
  (∃ (s : State) (v : Word), s.writeTakes 0x1C8 = true) ∧
  (∃ (s : State) (am : Addr × Word) (a : Addr) (m v : Word), am ∈ [(0x1000C#24, 0x7F#32), (0x2000C#24, 0x3FF#32),
    (0x50020#24, 7#32), (0x60014#24, 0x1F#32), (0x70008#24, 0xF#32), (0x80008#24, 0xFFFFFF#32), (0x90008#24,
    0xFFFFFF#32), (0xA8010#24, 7#32)] ∧ am = (a, m) ∧ s.writeTakes a.toNat = true) ∧
  (∃ (s : State) (a : Addr) (v : Word), (isLockReg a.toNat = false ∨ s.accessStatus a.toNat ≠ 0)) ∧
  (∃ (s : State) (v : Word), s.fileUp = true) ∧
  (∃ (s : State) (v : Word), s.writeTakes GLB.spareReach = true) ∧
  (∃ (s : State) (v : Word), s.writeTakes PWR.cfg = true) ∧
  (∃ (s : State) (i : Fin 68) (a : Addr) (v : Word), a.toNat = LRX.ctrl i ∧ s.writeTakes a.toNat = true) ∧
  (∃ (s : State) (i : Fin 68) (a : Addr) (v : Word), a.toNat = LTX.ctrl i ∧ s.writeTakes a.toNat = true ∧ v.getLsbD 1
    = false) ∧
  (∃ (s : State) (c : JtagInstr), c ∈ [.extest, .extestPulse, .extestTrain, .clamp, .highz] ∧ s.fileUp = true ∧
    (s.manager = false ∨ s.on RNG.dlUp = false ∨ s.jtagPins = true ∨ (List.range 4).any (fun g => s.on (GLB.en g)) =
    true)) ∧
  (∃ (s : State) (c : JtagInstr), c ∈ [.extest, .extestPulse, .extestTrain, .clamp, .highz] ∧ s.fileUp = true ∧
    s.manager = true ∧ s.on RNG.dlUp = true ∧ s.jtagPins = false ∧ (List.range 4).all (fun g => !s.on (GLB.en g)) =
    true) ∧
  (∃ (s : State) (c : JtagInstr), c ∈ [.bypass, .samplePreload] ∧ s.fileUp = true) ∧
  (∃ (s : State), s.fileUp = true) ∧
  (∃ (s : State) (c : JtagInstr), s.fileUp = false) := by
  exact ⟨⟨up, by decide +kernel⟩,
    ⟨up.put FLT.safe 1, by decide +kernel⟩,
    ⟨(up.put GLB.closed 1).put GLB.denied 1, 4#32, by decide +kernel⟩,
    ⟨up, 0x35#24, 5#32, by decide +kernel⟩,
    ⟨up, 8#24, 5#32, by decide +kernel⟩,
    ⟨up, (0xA8000#24, 0xFF3F#32), 0xA8000#24, 0xFF3F#32, 0xFFFFFFFF#32, by decide +kernel⟩,
    ⟨fUp, 1#32, by decide +kernel⟩,
    ⟨up.setReg 0x80008 0x7#32, (0x80008#24, 0xFFFFFF#32), 0x80008#24, 0xFFFFFF#32, 5#32, by decide +kernel⟩,
    ⟨up, 0x34#24, 5#32, by decide +kernel⟩,
    ⟨(up.put GLB.closed 1).put FLT.safe 1, 2#32, by decide +kernel⟩,
    ⟨up, 0xFFFFFF#32, by decide +kernel⟩,
    ⟨up.put GLB.closed 1, 0xE#32, by decide +kernel⟩,
    ⟨up.put GLB.closed 1, 67, 0x1A1000#24, 0x1F#32, by decide +kernel⟩,
    ⟨up.put GLB.closed 1, 67, 0x1E1000#24, 0x5#32, by decide +kernel⟩,
    ⟨up, .highz, by decide +kernel⟩,
    ⟨mgr.put RNG.dlUp 1, .clamp, by decide +kernel⟩,
    ⟨up, .bypass, by decide +kernel⟩,
    ⟨up, by decide +kernel⟩,
    ⟨State.reset, .idcode, by decide +kernel⟩⟩

theorem witness_theHighWordLatch :
  (∃ (s : State) (a : Addr), isLowWord a.toNat = true ∧ s.accessStatus a.toNat = 0) ∧
  (∃ (s : State) (a : Addr), (isLowWord a.toNat = false ∨ s.accessStatus a.toNat ≠ 0)) ∧
  (∃ (s : State) (a : Nat), isLowWord a = true ∧ s.accessStatus a = 0) ∧
  (∃ (s : State) (a : Nat), isHighWord a = true ∧ s.accessStatus a = 0) ∧
  (∃ (s : State) (a : Addr), s.manager = true ∧ s.on RNG.dlUp = true ∧ s.pcie.memEnable = true ∧ s.on RNG.d3hot =
    false ∧ s.get RNG.linkPm = 0 ∧ isLowWord a.toNat = true ∧ s.accessStatus a.toNat = 0 ∧ s.accessStatus (a.toNat +
    4) = 0 ∧ s.pwr.phase = .run ∧ a.toNat % 8 = 0) ∧
  (∃ (s : State) (q : RingN) (i : BitVec 16) (f : Flight) (a : Nat), s.starts q i.toNat 0x01 none = some f ∧ dTarget
    f.desc = 0 ∧ dField f.desc 11 1 = 2 ∧ dAddr f.desc = a ∧ isLowWord a = true ∧ s.accessStatus a = 0 ∧
    s.accessStatus (a + 4) = 0) := by
  exact ⟨⟨upReg 0x100064 5, 0x100060#24, by decide +kernel⟩,
    ⟨upReg 0x100064 5, 0x100064#24, by decide +kernel⟩,
    ⟨running, 0x100060, by decide +kernel⟩,
    ⟨running, 0x100064, by decide +kernel⟩,
    ⟨running.setReg 0x100064 5, 0x100060#24, by decide +kernel⟩,
    ⟨((offered (dsc 0x01 0 0x02100060)).setReg 0x100060 7).setReg 0x100064 5, 4, 7#16, fresh (dsc 0x01 0 0x02100060), 0x100060, by decide +kernel⟩⟩

theorem reset_legal : State.reset.Legal :=
  { canon := ⟨rfl, rfl, rfl, rfl, rfl, rfl, rfl, rfl, rfl, rfl, rfl, rfl, rfl, rfl, rfl, rfl⟩, rails := by decide,
    active := by decide, valid := by decide }

theorem witness_stepRunsTheFrontCommand :
  (∃ (s : State) (c : Instr) (rest : List Instr), s.pending = c :: rest) := by
  exact ⟨{ up with pending := [.lockClose, .idleEntry] }, .lockClose, [.idleEntry], by decide +kernel⟩

theorem witness_emptyQueue :
  (∃ (s : State), s.pending = [] ∧ s.on GLB.refclkOk = true) ∧
  (∃ (s : State), s.pending = [] ∧ s.on GLB.refclkOk = false) := by
  exact ⟨⟨up.put GLB.refclkOk 1, by decide +kernel⟩,
    ⟨up.put GLB.refclkOk 0, by decide +kernel⟩⟩

theorem witness_stepKeepsLegal : (∃ (s t : State), s.Legal ∧ step s = .next t) := ⟨State.reset, _, reset_legal, rfl⟩

theorem witness_laneSide : (∃ (s t : State) (c : Instr), laneSide c = true ∧ exec c s = .next t) :=
  ⟨live, _, .losAssert .A 0 40 5, rfl, rfl⟩

theorem witness_queueAlone : (∃ (s t : State) (c : Instr), exec c s = .next t) := ⟨up, _, .coldReset, rfl⟩

theorem witness_wellFormed :
  (∃ (c : Instr), c.wf = true ∧ ∀ q i b, c ≠ .fwLoadWrite q i b) ∧
  (∃ (s : State) (q : RingN) (i : BitVec 16) (b : List Byte), s.imageOk q i.toNat b = true) ∧
  (∃ (c : Instr), c.wf = false) := by
  exact ⟨⟨.nop 0 0, rfl, by intros; simp⟩,
    ⟨up, 0, 0, [7], by decide +kernel⟩,
    ⟨.histogramRunDone .A 0 ⟨0, 1, []⟩, by decide⟩⟩

theorem witness_writesWithoutEffect :
  (∃ (s : State) (c : Instr) (a : Nat), writesTo c = some a ∧ s.writeTakes a = false) := by
  exact ⟨up.put FLT.safe 1, .lockClose, GLB.lock, by decide +kernel⟩

theorem test_wf_record : (Instr.cfgRecordApply { oneEntry 5 with entries := List.replicate 8191 0 }).wf = false := by
  show decide ((List.replicate 8191 (0 : BitVec 64)).length ≤ 8190) = false
  rw [List.length_replicate]
  decide

theorem test_wf_histogram : (Instr.histogramRunDone .A 0 ⟨0, 1, [1]⟩).wf = false := by decide

theorem test_wf_swap_symbols : (Instr.swapWindow .A 0 0 (List.replicate 4098 0)).wf = false := by
  show decide ((List.replicate 4098 (0 : Fin 4)).length ≤ 4097) = false
  rw [List.length_replicate]
  decide

theorem test_wf_cycle : (Instr.calCycleDone .A 0 ⟨128 * 65536, 0, 0, 0⟩).wf = false := by decide

theorem test_wf_initial_condition : (Instr.coefRequest .A 0 (.initial 8)).wf = false := by decide

theorem test_wf_symbol_errors : (Instr.codewordReceived .AB 0 0 [3, 544] [] 0).wf = false := by decide

theorem test_wf_verdict_cell : (Instr.suspectVerdict (.cell .B 33 271)).wf = false := by decide

theorem test_wf_foreground : (Instr.foregroundCalDone .tx .A 0 [.cell 271 0 0]).wf = false := by decide

theorem test_wf_bar_data : (Instr.bar0Request ⟨true, 0, 2, true, false, [7], []⟩).wf = false := by decide

theorem test_wf_status_bins : (Instr.coefStatus .A 0 .updated [1]).wf = false := by decide

theorem test_wf_doorbell_slots : (Instr.doorbell ⟨false, true, false, 1, [(4, ⟨0, []⟩), (3, ⟨0, []⟩)]⟩).wf = false := by decide

theorem test_wf_image : (Instr.fwLoadWrite 0 0 (List.replicate 524289 0)).wf = false := by
  show decide ((List.replicate 524289 (0 : Byte)).length ≤ 524288) = false
  rw [List.length_replicate]
  decide

theorem test_wf_loopback_slice : (Instr.loopbackDone ⟨0, [.slice 66 ⟨0, 0, 0, 0⟩], 1⟩).wf = false := by decide

theorem test_wf_march_word : (Instr.mbistDone ⟨1, 3072, 0, 0, 1⟩).wf = false := by decide

theorem test_wf_tx_cell : (Instr.txMeasurementDone .A 0 (.cell 271) 0 0).wf = false := by decide

/-- What a completed command leaves, read by `f`. -/
def after {α : Type} (c : Instr) (s : State) (f : State → α) : Option α :=
  match exec c s with
  | .next t => some (f t)
  | _ => none

/-- 00_scope.md, the example of R8 and R9: port 1 L3 lies on position 11. -/
theorem test_default_map_example : up.lanePos 1 0 3 = some 11 := by decide +kernel

/-- 19_register_map.md, the example of GLB_PGCFG: what port group 1 reads, and the fields in it. -/
theorem test_pgcfg_example : after (.pgcfgWrite 1 0xEBAFFB2D#32) up (fun t =>
    (t.view 0x14, t.get (GLB.elane 1 0), t.get (GLB.elane 1 4), t.get (GLB.pers 1))) = some (0xEBAFFB2D#32, 3, 2, 1) := by
  decide +kernel

/-- The ports of the same example begin at lanes 0, 4 and 6. -/
theorem test_pgcfg_ports : (up.setReg 0x14 0xEBAFFB2D#32).portKeys 1 = [0, 4, 6] := by decide +kernel

/-- 20_electrical_and_package.md, the example of R451: F mode, VID_TRIM 2, CORE_PT 1: VID 22. -/
theorem test_vid_floor_example : (fUp.put PWR.vidTrim 2).vidFor ((fUp.put PWR.vidTrim 2).runFloor 1) = 22 := by decide +kernel

/-- The same example: CORE_PT 3 raises VID from 22 to 32, with BUSY set. -/
theorem test_vid_raise_example : after (.dvfsRequest 3#2) (((fUp.put PWR.vidTrim 2).put PWR.corePt 1).put PWR.vid 22) (fun t =>
    (t.get PWR.vid, t.on PWR.dvfsBusy)) = some (32, true) := by decide +kernel

/-- 09_crescent_calibration.md, cycle 1 of the example: +0.28 LSB, +0.56 % and 0.150 ps late, each as 65,536 times the
mean code of its phase: trims of −2, −11 and −15. -/
theorem test_cycle_example : cycleTrims ⟨4179886, 7960003, 368312, 4200858⟩ = ⟨-2, -11, -15⟩ := by decide

/-- R135: the check value of the zero key, by the published known answer of AES-256 (DC 95 ...). -/
theorem test_key_check_value : keyCheck 0 = 0x95DC := by decide +kernel

/-- The nine characters 1 to 9, on which the published check values of the codes below stand. -/
def oneToNine : List Byte := [0x31, 0x32, 0x33, 0x34, 0x35, 0x36, 0x37, 0x38, 0x39]

/-- R129, R310, R316, R430: the published check values of the four cyclic codes. -/
theorem test_crc_check_values : crc64 oneToNine = 0x995DC9BBDF1939FA ∧ crc32 oneToNine = 0xCBF43926 ∧
    crc16 oneToNine = 0x29B1 ∧ crc8 oneToNine = 0xF4 := by decide +kernel

/-- R116: the generator of RS(544,514) has the coefficients that IEEE 802.3 publishes first, and leads with 1. -/
theorem test_rs_generator : rsGen.take 5 = [523, 834, 128, 158, 185] ∧ rsGen.length = 31 ∧ rsGen.getLast? = some 1 := by
  decide +kernel

/-- R439: a cold reset opens the setup lock, and GLB_RSTSTAT names RESET_N. -/
theorem test_cold_reset_opens_the_lock : after .coldReset (up.put GLB.closed 1) (fun t => (t.on GLB.closed, t.get GLB.coldCause)) =
    some (false, 1) := by decide +kernel

end Sys2Proof.Tests
end

section
/-! PROOFS. The lane maps that a cold reset leaves (R8, R420): what it leaves in the registers and the segments, and the
position that each lane-map code names. -/

namespace Sys2Proof.Machine

/-- Every register but the one that names the cause holds its reset value after a cold reset (R419, R432). -/
theorem State.reg_coldOf_ne (s : State) (cause n : Nat) (p : Phase) (keepFail : Bool) {a : Nat}
    (h : a ≠ GLB.coldCause.addr) : (s.coldOf cause n p keepFail).reg a = regReset a :=
  State.reg_put_ne State.reset GLB.coldCause cause h

/-- No segment holds a map of its own after a cold reset. -/
@[simp] theorem State.seg_coldOf (s : State) (cause n : Nat) (p : Phase) (keepFail : Bool) (g sd k : Nat) :
    (s.coldOf cause n p keepFail).seg g sd k = Seg.off := rfl

theorem State.laneCode_of_txMap_nil {s : State} {g sd : Nat} (h : (s.seg g sd 0).txMap = []) (n : Nat) :
    s.laneCode g sd n = s.regCode g sd n := by
  unfold State.laneCode; rw [h]

theorem State.rxCode_of_rxMap_nil {s : State} {g sd : Nat} (h : (s.seg g sd 0).rxMap = []) (n : Nat) :
    s.rxCode g sd n = s.regCode g sd n := by
  unfold State.rxCode; rw [h]

/-- Codes below 8 name the group's own positions (R188). -/
theorem codePos_of_lt {c : Nat} (g : Nat) (h : c < 8) : codePos g c = some (8 * g + c) := if_pos h

/-- GLB_LMAP resets to the identity map. -/
theorem regReset_lmap (g : Port) (sd : Side) : regReset (GLB.lmap g sd.idx) = 0x76543210#32 := by
  revert g; cases sd <;> decide

/-- GLB_LMAP lies below the register that names the cause of a cold reset. -/
theorem GLB.lmap_ne_coldCause (g : Port) (sd : Side) : GLB.lmap g sd.idx ≠ GLB.coldCause.addr := by
  revert g; cases sd <;> decide

/-- Field n of the identity map holds n. -/
theorem bitsOf_identityMap (n : Fin 8) : bitsOf (0x76543210#32).toNat (4 * n) 4 = n := by
  revert n; decide

/-- After a cold reset GLB_LMAP maps each logical lane to the code of its own number. -/
theorem State.regCode_coldOf (s : State) (cause m : Nat) (ph : Phase) (keepFail : Bool) (g : Port) (sd : Side)
    (n : Fin 8) : (s.coldOf cause m ph keepFail).regCode g sd.idx n = n := by
  show bitsOf ((s.coldOf cause m ph keepFail).reg (GLB.lmap g sd.idx)).toNat (4 * n) 4 = n
  rw [State.reg_coldOf_ne s cause m ph keepFail (GLB.lmap_ne_coldCause g sd), regReset_lmap, bitsOf_identityMap]

/-- The transmitters' map after a cold reset (R8). -/
theorem State.lanePos_coldOf (s : State) (cause m : Nat) (ph : Phase) (keepFail : Bool) (g : Port) (sd : Side)
    (n : Fin 8) : (s.coldOf cause m ph keepFail).lanePos g sd.idx n = some (8 * g.val + n.val) := by
  have hseg : ((s.coldOf cause m ph keepFail).seg g sd.idx 0).txMap = [] := by rw [State.seg_coldOf]; rfl
  unfold State.lanePos
  rw [State.laneCode_of_txMap_nil hseg, State.regCode_coldOf, codePos_of_lt g n.isLt]

/-- The map that the receivers show after a cold reset (R8). -/
theorem State.rxPos_coldOf (s : State) (cause m : Nat) (ph : Phase) (keepFail : Bool) (g : Port) (sd : Side)
    (n : Fin 8) : (s.coldOf cause m ph keepFail).rxPos g sd.idx n = some (8 * g.val + n.val) := by
  have hseg : ((s.coldOf cause m ph keepFail).seg g sd.idx 0).rxMap = [] := by rw [State.seg_coldOf]; rfl
  unfold State.rxPos
  rw [State.rxCode_of_rxMap_nil hseg, State.regCode_coldOf, codePos_of_lt g n.isLt]

/-- A position of a port group's own lanes is no spare position. -/
theorem ownPosition_ne_spare (g : Port) (n : Fin 8) {x : Nat} (hx : 32 ≤ x) : some (8 * g.val + n.val) ≠ some x := by
  simp only [ne_eq, Option.some.injEq]
  omega

/-- Settles O51: a cold reset leaves no map in the segments, so both directions read GLB_LMAP, which holds the identity
map and names no spare. -/
theorem theDefaultLaneMap : Obligations.TheDefaultLaneMap := by
  intro s
  refine ⟨s.coldOf 1 s.railCount .held true, rfl, fun p sd n => ?_⟩
  rw [State.lanePos_coldOf, State.rxPos_coldOf]
  exact ⟨rfl, rfl, fun _ hx => ⟨ownPosition_ne_spare p n hx, ownPosition_ne_spare p n hx⟩⟩

end Sys2Proof.Machine
end

section
/-! PROOFS. Descriptors at dispatch (R257, R265): the order of the checks, what a dispatch adds to its ring, and what the
fetch loop dispatches. -/

namespace Sys2Proof.Machine

/-! The checks. -/

theorem isPrivType_eq (t : Nat) : isPrivType t = decide (t ∈ [0x0B, 0x0D, 0x0E, 0x0F, 0x10]) := by
  simp only [isPrivType, List.mem_cons, List.not_mem_nil, or_false, decide_eq_decide]
  omega

/-- The range of TARGET for each type (R263). -/
theorem targetOk_eq (t a : Nat) : targetOk t a = decide (t = 0 ∨ t = 0x11 ∨ t = 0x0D ∨ (t ∈ [0x06, 0x07] ∧ a = 0xFF) ∨
    (t ∉ [0x06, 0x07] ∧ a ≠ 0xFF)) := by
  fun_cases targetOk t a
  case case6 =>
    simp only [decide_eq_decide, List.mem_cons, List.not_mem_nil, or_false]
    tauto
  all_goals simp

/-- The first check of R265. -/
theorem State.descCheck_of_reserved (s : State) (q : Nat) {d : Desc} (h : 0x12 ≤ dType d) :
    s.descCheck q d = some stBadDesc := if_pos h

/-- The second check of R265. -/
theorem State.descCheck_of_unprivileged (s : State) {q : Nat} {d : Desc}
    (ht : dType d ∈ [0x0B, 0x0D, 0x0E, 0x0F, 0x10]) (hq : 4 ≤ q) : s.descCheck q d = some stPrivViolation := by
  have hdef : ¬ 0x12 ≤ dType d := by
    simp only [List.mem_cons, List.not_mem_nil, or_false] at ht
    omega
  simp only [State.descCheck, if_neg hdef, isPrivType_eq, ht, hq, decide_true, Bool.and_self, if_true]

/-- The third to fifth checks of R265, for a descriptor that the first two let through. -/
theorem State.descCheck_of_admitted (s : State) {q : Nat} {d : Desc} (hdef : dType d < 0x12)
    (hpriv : dType d ∈ [0x0B, 0x0D, 0x0E, 0x0F, 0x10] → q < 4) :
    s.descCheck q d =
      if targetOk (dType d) (dTarget d) = false ∨ fieldsOk d = false then some stBadDesc
      else if dType d ≠ 0 ∧ dType d ≠ 0x11 ∧ 1 ≤ dTarget d ∧ dTarget d ≤ 254 ∧ s.unitHeld (dTarget d) = false then
        some stNoUnit
      else if dType d ≠ 0 ∧ dType d ≠ 0x11 ∧ dTarget d = 0 ∧ s.safe = true ∧ safeRefuses d = true then some stSafeState
      else none := by
  have hallowed : (isPrivType (dType d) && decide (4 ≤ q)) = false := by
    rw [isPrivType_eq, Bool.and_eq_false_iff, decide_eq_false_iff_not, decide_eq_false_iff_not]
    exact (em _).symm.imp id fun ht => Nat.not_le.mpr (hpriv ht)
  simp only [State.descCheck, if_neg (Nat.not_le.mpr hdef), hallowed, Bool.false_eq_true, if_false, Bool.or_eq_true,
    Bool.and_eq_true, Bool.not_eq_true', decide_eq_true_eq, decide_eq_false_iff_not, not_or, and_assoc, ne_eq]

/-! What a dispatch adds. -/

/-- The flight of a descriptor that a check of R265 refuses: answered at dispatch. -/
def State.refusedFlight (s : State) (idx : Nat) (d : Desc) (status : Nat) : Flight :=
  ⟨idx, d, s.dispatched, .answered, status, 0, 0, s.orbit.gen, s.nextStamp⟩

/-- The flight of a descriptor that no check refuses. -/
def State.heldFlight (s : State) (idx : Nat) (d : Desc) : Flight := ⟨idx, d, s.dispatched, .held, 0, 0, 0, 0, 0⟩

/-- A flight joins its ring, and SQ_CONS moves past its index (R257). -/
def State.addFlight (s : State) (q idx : Nat) (f : Flight) : State :=
  ((s.updRing q (fun r => { r with flights := r.flights ++ [f] })).noteFlights q).put (RNG.cons q) (idx + 1)

/-- A dispatch takes a place in the order over all rings; a FENCE that is held stops the fetches behind it (R291). -/
def State.countDispatch (s : State) (fence : Bool) : State :=
  { s with dispatched := s.dispatched + 1, fenceHeld := s.fenceHeld || fence }

/-- The flight that a descriptor becomes. -/
def State.newFlight (s : State) (q idx : Nat) (d : Desc) : Flight :=
  match s.descCheck q d with
  | some st => s.refusedFlight idx d st
  | none => s.heldFlight idx d

theorem State.dispatch_eq (s : State) (q idx : Nat) (d : Desc) :
    s.dispatch q idx d =
      (s.countDispatch (decide (dType d = 0x11) && decide ((s.newFlight q idx d).stage = .held))).addFlight q idx
        (s.newFlight q idx d) := rfl

/-- A refused FENCE stops no fetch. -/
theorem State.dispatch_of_refused {s : State} {q : Nat} {d : Desc} {st : Nat} (h : s.descCheck q d = some st)
    (idx : Nat) : s.dispatch q idx d = (s.countDispatch false).addFlight q idx (s.refusedFlight idx d st) := by
  have hflight : s.newFlight q idx d = s.refusedFlight idx d st := by rw [State.newFlight, h]
  rw [State.dispatch_eq, hflight, show (s.refusedFlight idx d st).stage = .answered from rfl]
  simp

theorem State.dispatch_of_passed {s : State} {q : Nat} {d : Desc} (h : s.descCheck q d = none) (idx : Nat) :
    s.dispatch q idx d =
      (s.countDispatch (decide (dType d = 0x11))).addFlight q idx (s.heldFlight idx d) := by
  have hflight : s.newFlight q idx d = s.heldFlight idx d := by rw [State.newFlight, h]
  rw [State.dispatch_eq, hflight, show (s.heldFlight idx d).stage = .held from rfl]
  simp

theorem State.countDispatch_false (s : State) :
    s.countDispatch false = { s with dispatched := s.dispatched + 1 } := by
  rw [State.countDispatch, Bool.or_false]

theorem framed_countDispatch (s : State) (fence : Bool) :
    Framed (fun x => { x with dispatched := 0, fenceHeld := false }) [] s (s.countDispatch fence) :=
  (Framed.refl _ _ s).step rfl rfl

theorem framed_countDispatch_false (s : State) :
    Framed (fun x => { x with dispatched := 0 }) [] s (s.countDispatch false) := by
  rw [State.countDispatch_false]
  exact (Framed.refl _ _ s).step rfl rfl

theorem State.addFlight_flights (s : State) (q idx : Nat) (f : Flight) :
    ((s.addFlight q idx f).ring q).flights = (s.ring q).flights ++ [f] := by
  rw [State.addFlight, State.put_ring, State.noteFlights, State.put_ring, State.updRing_ring_same]

theorem State.addFlight_flight {s : State} {q : Nat} (hnone : (s.ring q).flights = []) (f : Flight) :
    (s.addFlight q f.idx f).flight q f.idx = some f := by
  simp [State.flight, State.addFlight_flights, hnone]

/-- SQ_CONS counts modulo 2^16. -/
theorem State.addFlight_cons (s : State) (q idx : Nat) (f : Flight) :
    (s.addFlight q idx f).get (RNG.cons q) = (idx + 1) % 65536 :=
  State.get_put_same _ (RNG.cons q) (idx + 1) (Nat.le_refl 32)

/-- The registers of each ring lie in block 3 of the map. -/
theorem RNG.cons_block (q : RingN) : (RNG.cons q).addr / 0x10000 = 3 := by
  simp only [RNG.cons, RNG.q]
  omega

theorem Framed.addFlight {m : State → State} {l : List Nat} {s t : State} (h : Framed m l s t) (q : RingN) (idx : Nat)
    (f : Flight) : Framed m l s (t.addFlight q idx f) :=
  ((h.updRing q _).put (f := RNG.inflight q) _ (.inl (RNG.cons_block q))).put _ (.inl (RNG.cons_block q))

/-- The answer of R270 is that of a flight that is answered. -/
theorem State.answerOf_of_answered {s : State} {q idx : Nat} {f : Flight} (hf : s.flight q idx = some f)
    (hst : f.stage = .answered) : s.answerOf q idx = some (f.status, f.result) := by
  simp [State.answerOf, hf, hst]

/-- No row carries out a flight that is answered. -/
theorem State.starts_of_answered {s : State} {q idx : Nat} {f : Flight} (hf : s.flight q idx = some f)
    (hst : f.stage = .answered) (ty : Nat) (op : Option Nat) : s.starts q idx ty op = none := by
  simp [State.starts, hf, State.mayStart, hst]

/-- A refused descriptor is answered at once with the status of the check, and nothing else is done (R265). -/
theorem State.dispatch_refused {s : State} {q : RingN} {d : Desc} {st : Nat} (h : s.descCheck q d = some st)
    (hnone : (s.ring q).flights = []) (i : Nat) :
    (s.dispatch q i d).answerOf q i = some (st, 0) ∧ (s.dispatch q i d).get (RNG.cons q) = (i + 1) % 65536 ∧
      (∀ (ty : Nat) (op : Option Nat), (s.dispatch q i d).starts q i ty op = none) ∧
      Framed (fun x => { x with dispatched := 0 }) [] s (s.dispatch q i d) := by
  rw [State.dispatch_of_refused h]
  have hflight := State.addFlight_flight (s := s.countDispatch false) hnone (s.refusedFlight i d st)
  exact ⟨State.answerOf_of_answered hflight rfl, State.addFlight_cons .., State.starts_of_answered hflight rfl,
    (framed_countDispatch_false s).addFlight q i _⟩

/-- A descriptor that every check passes is held until its row starts it (R257). -/
theorem State.dispatch_passed {s : State} {q : RingN} {d : Desc} (h : s.descCheck q d = none)
    (hnone : (s.ring q).flights = []) (i : Nat) :
    (s.dispatch q i d).flight q i = some (s.heldFlight i d) ∧ (s.dispatch q i d).get (RNG.cons q) = (i + 1) % 65536 ∧
      Framed (fun x => { x with dispatched := 0, fenceHeld := false }) [] s (s.dispatch q i d) := by
  rw [State.dispatch_of_passed h]
  exact ⟨State.addFlight_flight (s := s.countDispatch _) hnone (s.heldFlight i d), State.addFlight_cons ..,
    (framed_countDispatch s _).addFlight q i _⟩

/-! What the fetch loop dispatches. -/

/-- Changes that each leave the register store alone leave it alone together. -/
theorem State.each_regs {α : Type} (l : List α) (f : α → State → State) (hf : ∀ x t, (f x t).regs = t.regs) (s : State) :
    (s.each l f).regs = s.regs := by
  induction l generalizing s with
  | nil => rfl
  | cons x l ih => exact (ih (f x s)).trans (hf x s)

@[simp] theorem State.hostRead_regs (s : State) (addr len : Nat) : (s.hostRead addr len).regs = s.regs := by
  unfold State.hostRead
  split
  · rfl
  · exact State.each_regs _ _ (fun _ t => State.emit_regs t _) s

@[simp] theorem State.hostRead_get (s : State) (addr len : Nat) (f : Fld) : (s.hostRead addr len).get f = s.get f := by
  unfold State.get State.reg
  rw [State.hostRead_regs]

/-- A read of host memory does not change who owns a slot. -/
theorem State.owned_hostRead (s : State) (addr len q : Nat) (d : Desc) (i : Nat) :
    (s.hostRead addr len).owned q d i = s.owned q d i := by
  unfold State.owned
  rw [State.hostRead_get]

theorem State.nextDesc_of_copy {s : State} {q : Nat} {d : Desc} (hcopy : s.copyOf q (s.get (RNG.cons q)) = some d)
    (hown : s.owned q d (s.get (RNG.cons q)) = true) (l : List Desc) : s.nextDesc q l = (s, d) := by
  simp [State.nextDesc, hcopy, Option.filter_some, hown]

theorem State.nextDesc_of_no_copy {s : State} {q : Nat} (hcopy : s.copyOf q (s.get (RNG.cons q)) = none) (d : Desc)
    (l : List Desc) : s.nextDesc q (d :: l) = (s.hostRead (s.slotAddr q (s.get (RNG.cons q))) 64, d) := by
  simp [State.nextDesc, hcopy]

/-- The loop ends at the producer index or at a limit. -/
theorem State.fetchLoop_stops {s : State} {q p : Nat} (h : s.get (RNG.cons q) = p ∨ s.fetchLimited q = true) (n : Nat)
    (l : List Desc) : State.fetchLoop (n + 1) s q p l = (s, l) := if_pos h

/-- Elsewhere the loop dispatches the next descriptor, where the engine owns it, and goes on with the slots behind it. -/
theorem State.fetchLoop_dispatches {s t : State} {q p : Nat} {d : Desc} {l : List Desc} (hprod : s.get (RNG.cons q) ≠ p)
    (hlim : s.fetchLimited q = false) (hnext : s.nextDesc q l = (t, d))
    (hown : t.owned q d (s.get (RNG.cons q)) = true) (n : Nat) : State.fetchLoop (n + 1) s q p l =
      State.fetchLoop n (t.dispatch q (s.get (RNG.cons q)) d) q p (l.drop 1) := by
  simp [State.fetchLoop, hprod, hlim, hnext, hown]

/-- Settles O35: the checks in their order, then the flight that a refused and a passed descriptor leave, then the source
of what the loop dispatches. -/
theorem dispatchChecks : Obligations.DispatchChecks := by
  refine ⟨fun s q _ => s.descCheck_of_reserved q, fun s _ _ => s.descCheck_of_unprivileged,
    fun s _ _ => s.descCheck_of_admitted, fun d => targetOk_eq _ _, ?refused, ?passed, ?fromHost, ?fromCopy, ?stops⟩
  case refused => exact fun s q i d st h hnone _ => State.dispatch_refused h hnone i
  case passed => exact fun s q i d h hnone _ => State.dispatch_passed h hnone i
  case fromHost =>
    intro s q n p d l hprod hlim hcopy hown
    exact State.fetchLoop_dispatches hprod hlim (State.nextDesc_of_no_copy hcopy d l)
      ((s.owned_hostRead ..).trans hown) n
  case fromCopy =>
    intro s q n p d l hprod hlim hcopy hown
    exact State.fetchLoop_dispatches hprod hlim (State.nextDesc_of_copy hcopy hown l) hown n
  case stops => exact fun s q n p l h => State.fetchLoop_stops h n l

end Sys2Proof.Machine
end

section
/-! PROOFS. ECL_EPOCH (R335): a capture sets it, EPOCH 0 is refused at dispatch, and an ECLIPSE with an epoch that the
unit holds is applied and not captured again. -/

namespace Sys2Proof.Machine

/-! A register through a pass over the listed registers. The pass drops an entry that holds its reset value; what the
register reads stays where no such entry stands in front of another one. -/

/-- The store lists no reset value for the register at `a`: read with another default, it never shows one. -/
def State.CanonAt (s : State) (a : Nat) : Prop := ∀ d ≠ regReset a, Sparse.get d s.regs a ≠ regReset a

/-- A write leaves the store canonical at its own address. -/
theorem State.canonAt_setReg_same (s : State) (a : Nat) (w : Word) : (s.setReg a w).CanonAt a := by
  intro d hd
  unfold State.setReg Sparse.set
  split
  · simpa only [Sparse.get_del_same] using hd
  · next hw => simpa only [Sparse.get_ins_same] using hw

/-- A write leaves the store canonical wherever it was. -/
theorem State.CanonAt.setReg {s : State} {a : Nat} (h : s.CanonAt a) (b : Nat) (w : Word) :
    (s.setReg b w).CanonAt a := by
  by_cases hab : a = b
  · exact hab ▸ s.canonAt_setReg_same a w
  · intro d hd
    show Sparse.get d (Sparse.set (regReset b) s.regs b w) a ≠ regReset a
    rw [Sparse.get_set_ne _ _ _ _ hab]
    exact h d hd

theorem State.CanonAt.put {s : State} {a : Nat} (h : s.CanonAt a) (f : Fld) (v : Nat) : (s.put f v).CanonAt a :=
  h.setReg f.addr _

/-- A pass over the listed registers that does not change the register at `a` leaves what it reads. -/
theorem State.reg_mapRegs_of_fixed {s : State} {a : Nat} (h : s.CanonAt a) {f : Nat → Word → Word}
    (hf : ∀ w, f a w = w) : (s.mapRegs f).reg a = s.reg a := by
  unfold State.CanonAt at h
  unfold State.reg State.mapRegs
  generalize s.regs = m at h ⊢
  induction m with
  | nil => rfl
  | cons e m ih =>
    obtain ⟨k, v⟩ := e
    by_cases hk : k = a
    · subst hk
      have hv : v ≠ regReset k := by simpa [Sparse.get] using h (regReset k + 1) (by simp)
      simp [hf, hv, Sparse.get]
    · have hrest := ih (by simpa [Sparse.get, hk] using h)
      by_cases hdrop : f k v = regReset k <;> simpa [hdrop, Sparse.get, hk] using hrest

/-! The capture. -/

/-- The bank that a capture takes is one of the two (R341). -/
theorem State.le_one_of_chooseBank {s : State} {b : Nat} (h : s.chooseBank = some b) : b ≤ 1 := by
  have hmem {P : Nat → Bool} {c : Nat} (hc : c ∈ [0, 1].filter P) : c ≤ 1 := by
    have := (List.mem_filter.mp hc).1
    simp only [List.mem_cons, List.not_mem_nil, or_false] at this
    omega
  unfold State.chooseBank at h
  dsimp only at h
  split at h
  · next hfind => exact Option.some.inj h ▸ hmem (List.mem_of_find?_eq_some hfind)
  · split at h
    · exact Option.some.inj h ▸ Nat.sub_le 1 _
    · exact hmem (List.mem_of_head? h)

/-- The epochs that a capture writes: the unit's and its bank's (R340). -/
def State.takeEpoch (s : State) (x : Shot) (b : Nat) : State :=
  ((({ s with shot := none }).count ECL.captures).setReg ECL.epoch x.epoch).setReg (ECL.bepoch b) x.epoch

/-- A capture that takes bank b, before HCLR clears any histogram (R340). -/
def State.fillBank (s : State) (x : Shot) (b : Nat) : State :=
  let t := s.takeEpoch x b
  let bank : Bank := { head := t.bankHead x, regs := t.image }
  ((({ t with banks := Sparse.set Bank.empty t.banks b bank }).put (ECL.bank b) 1).put ECL.newest b).put ECL.copyBusy 1

/-- A scheduled capture that finds the register file and a bank (R337). -/
theorem State.capture_of_chosen {s : State} {x : Shot} {b : Nat} (hshot : s.shot = some x) (hup : s.fileUp = true)
    (hbank : s.chooseBank = some b) :
    s.capture = if (s.fillBank x b).on ECL.hclr then (s.fillBank x b).clearErrHists else s.fillBank x b := by
  have hup' : ({ s with shot := none } : State).fileUp = true := hup
  have hbank' : ({ s with shot := none } : State).chooseBank = some b := hbank
  unfold State.capture
  rw [hshot]
  simp only [hup', hbank', Bool.not_true, Bool.false_eq_true, if_false]
  rfl

/-- The banks' epochs stand beside ECL_EPOCH. -/
theorem ECL.epoch_ne_bepoch {b : Nat} (hb : b ≤ 1) : ECL.epoch ≠ ECL.bepoch b := by
  simp only [ECL.epoch, ECL.bepoch]
  omega

theorem State.reg_epoch_fillBank (s : State) (x : Shot) {b : Nat} (hb : b ≤ 1) :
    (s.fillBank x b).reg ECL.epoch = x.epoch := by
  have htake : (s.takeEpoch x b).reg ECL.epoch = x.epoch := by
    rw [State.takeEpoch, State.reg_setReg_ne _ _ (ECL.epoch_ne_bepoch hb), State.reg_setReg_same]
  unfold State.fillBank
  rw [State.reg_put_ne _ ECL.copyBusy _ (by decide), State.reg_put_ne _ ECL.newest _ (by decide),
    State.reg_put_ne _ (ECL.bank b) _ (show ECL.epoch ≠ 0x50008 by decide)]
  exact htake

theorem State.canonAt_epoch_fillBank (s : State) (x : Shot) (b : Nat) : (s.fillBank x b).CanonAt ECL.epoch := by
  have htake : (s.takeEpoch x b).CanonAt ECL.epoch := (State.canonAt_setReg_same _ ECL.epoch x.epoch).setReg _ _
  exact ((State.CanonAt.put (s := { s.takeEpoch x b with banks := _ }) htake _ _).put _ _).put _ _

/-- Clearing the histograms keeps ECL_EPOCH, which lies in no receiver block. -/
theorem State.reg_epoch_clearErrHists {s : State} (h : s.CanonAt ECL.epoch) :
    s.clearErrHists.reg ECL.epoch = s.reg ECL.epoch :=
  State.reg_mapRegs_of_fixed h fun w => by rw [show lrxOf ECL.epoch = none by decide]

/-- A capture that takes a bank sets ECL_EPOCH to its epoch, with HCLR and without. -/
theorem State.reg_epoch_capture {s : State} {x : Shot} {b : Nat} (hshot : s.shot = some x) (hup : s.fileUp = true)
    (hbank : s.chooseBank = some b) : s.capture.reg ECL.epoch = x.epoch := by
  have hfill := s.reg_epoch_fillBank x (State.le_one_of_chooseBank hbank)
  rw [State.capture_of_chosen hshot hup hbank]
  split
  · rw [State.reg_epoch_clearErrHists (s.canonAt_epoch_fillBank x b), hfill]
  · exact hfill

/-! The descriptor at dispatch. -/

/-- EPOCH 0 is outside the range of its field (R264). -/
theorem fieldsOk_eclipse {d : Desc} (ht : dType d = 0x07) : fieldsOk d = decide (dField d 8 4 ≠ 0) := by
  simp only [fieldsOk, ht]

theorem State.descCheck_eclipse_epoch_zero (s : State) (q : Nat) {d : Desc} (ht : dType d = 0x07)
    (he : dField d 8 4 = 0) : s.descCheck q d = some stBadDesc := by
  have hfields : fieldsOk d = false := by simp [fieldsOk_eclipse ht, he]
  rw [s.descCheck_of_admitted (by omega) (by simp [ht]), if_pos (.inr hfields)]

/-! An ECLIPSE with the epoch that the unit holds. -/

/-- The unit takes it as applied and schedules nothing (R335). -/
theorem State.eclipseAccept_of_held {s : State} {e : Word} (h : e = s.reg ECL.epoch) (untimed : Bool) (hops : Nat)
    (p : OrbPort) : s.eclipseAccept e untimed hops p = (s, stOk) := if_pos (.inl h)

/-- A sequence that arrived whole has no framing errors to count (R331). -/
theorem State.notePri_of_intact {sq : PriSeq} (h : sq.intact = true) (s : State) : s.notePri sq = s := by
  have hctl : sq.ctl = [] := by
    simp only [PriSeq.intact, Bool.and_eq_true, List.isEmpty_iff] at h
    exact h.1
  simp [State.notePri, hctl]

theorem intact_of_priGood {lead : Nat} {sq : PriSeq} (h : priGood lead sq = true) : sq.intact = true := by
  simp only [priGood, Bool.and_eq_true] at h
  exact h.1.1

/-- A worker that applies a sequence counts itself in APPLIED (R317). -/
theorem State.passPri_applied {s : State} {p : OrbPort} (h : s.drives (s.outPort p) = true) (lead : Nat) (q : PriSeq) :
    s.passPri p lead q (some stOk) = s.emit (.priority (s.outPort p) lead { q with applied := q.applied + 1 }) :=
  if_pos h

/-- A worker that holds the epoch passes the sequence on, applied, and does nothing else. -/
theorem State.eclipseSeq_of_held {s : State} {p : OrbPort} {sq : PriSeq} (hears : s.workerHears p = true)
    (hout : p = s.outboundIn) (hdrives : s.drives (s.outPort p) = true) (hgood : priGood 1 sq = true)
    (he : BitVec.ofNat 32 (ofBytes sq.data) = s.reg ECL.epoch) :
    s.eclipseSeq p sq = s.emit (.priority (s.outPort p) 1
      { sq with flags := if s.on ORB.trimmed then sq.flags else sq.flags ||| 1, applied := sq.applied + 1 }) := by
  have hacts : (priGood 1 sq && decide (p = s.outboundIn)) = true := by simp [hgood, hout]
  rw [State.eclipseSeq, if_pos hears, State.notePri_of_intact (intact_of_priGood hgood)]
  simp only [hacts, if_true, State.eclipseAccept_of_held he, State.passPri_applied hdrives]
  split <;> rfl

/-- Outputs sent in turn add up and change nothing else. -/
theorem State.foldl_emit {α : Type} (g : α → Out) (l : List α) (s : State) :
    l.foldl (fun t x => t.emit (g x)) s = { s with out := s.out ++ l.map g } := by
  induction l generalizing s with
  | nil => simp
  | cons x l ih =>
    rw [List.foldl_cons, ih]
    simp [State.emit]

/-- The manager sends a sequence on the ports of a broadcast (R316, R325). -/
theorem State.priStart_sends {s : State} {lead : Nat} (hlead : lead ≠ 2) (hconf : s.on ORB.conflict = false)
    (hup : s.orbUp = true) (data : List Byte) (mine : Option Nat) (owner : Owner) :
    (s.priStart lead data mine owner).shot = s.shot ∧ (s.priStart lead data mine owner).out =
      s.out ++ s.castPorts.map (fun o => .priority o lead (priOf data (if o = .D then mine else none))) := by
  have hup' (f : Orbit → Orbit) : (s.updOrb f).orbUp = true := hup
  simp [State.priStart, State.priSend, hconf, hup', hlead, State.foldl_emit]

/-- Off a delay measurement the manager takes its own part and sends the sequence. -/
theorem State.eclipseStart_of_not_measuring {s : State} (h : s.isMeasuring = false) (q : Nat) (f : Flight) :
    s.eclipseStart q f =
      let r := (s.started q f.idx).eclipseAccept (BitVec.ofNat 32 (dField f.desc 8 4)) false 0 .D
      r.1.priStart 1 (bytesOf 4 (dField f.desc 8 4)) (some r.2) (.ring q f.idx) := by
  unfold State.isMeasuring at h
  unfold State.eclipseStart
  split
  · next hseq => simp [hseq] at h
  · rfl

/-- A manager that holds the epoch sends the sequence with its own part applied, and schedules no capture. -/
theorem State.eclipseStart_of_held {s : State} {f : Flight} (hmeas : s.isMeasuring = false)
    (he : BitVec.ofNat 32 (dField f.desc 8 4) = s.reg ECL.epoch) (hconf : s.on ORB.conflict = false)
    (hup : s.orbUp = true) (q : Nat) :
    (s.eclipseStart q f).shot = s.shot ∧ (s.eclipseStart q f).out = s.out ++ s.castPorts.map (fun o =>
      .priority o 1 (priOf (bytesOf 4 (dField f.desc 8 4)) (if o = .D then some 0 else none))) := by
  rw [State.eclipseStart_of_not_measuring hmeas,
    State.eclipseAccept_of_held (s := s.started q f.idx) (show _ = s.reg ECL.epoch from he)]
  exact State.priStart_sends (s := s.started q f.idx) (by decide) hconf hup _ _ _

/-- Settles O45: reset, capture and dispatch by their laws above; the last two cases turn on an accepted ECLIPSE that
leaves the unit as it is. -/
theorem theEclipseEpoch : Obligations.TheEclipseEpoch := by
  refine ⟨rfl, ?capture, fun s q _ => s.descCheck_eclipse_epoch_zero q, ?worker, ?manager⟩
  case capture =>
    intro s x hshot hup hbank
    obtain ⟨b, hb⟩ := Option.isSome_iff_exists.mp hbank
    exact ⟨s.capture, rfl, State.reg_epoch_capture hshot hup hb⟩
  case worker =>
    exact fun s p sq hears hout hdrives hgood he =>
      ⟨s.eclipseSeq p sq, rfl, State.eclipseSeq_of_held hears hout hdrives hgood he⟩
  case manager =>
    intro s q i f hstart hmeas he hconf hup
    refine ⟨s.eclipseStart q f, ?_, State.eclipseStart_of_held hmeas he hconf hup q⟩
    show execEclipse q i s = _
    simp only [execEclipse, hstart]

end Sys2Proof.Machine
end

section
/-! PROOFS. The high-word latch (R437): where the words of a 48-bit or 64-bit value lie, what a read of them depends on,
and what a pair of reads returns through BAR0 and through a REG_READ descriptor. -/

namespace Sys2Proof.Machine

/-! Where the words of a value lie. -/

/-- Both words of a value lie in the lane-end block of its low word. -/
theorem lrxOf_add {a k : Nat} (ha : a % 8 = 0) (hk : k < 8) :
    lrxOf (a + k) = (lrxOf a).map (fun x => (x.1, x.2 + k)) := by
  unfold lrxOf
  split_ifs <;> simp <;> omega

theorem ltxOf_add {a k : Nat} (ha : a % 8 = 0) (hk : k < 8) :
    ltxOf (a + k) = (ltxOf a).map (fun x => (x.1, x.2 + k)) := by
  unfold ltxOf
  split_ifs <;> simp <;> omega

theorem lrxOf_offset {a i o : Nat} (h : lrxOf a = some (i, o)) : o = a % 0x1000 := by
  unfold lrxOf at h
  split_ifs at h <;> simp_all

theorem ltxOf_offset {a i o : Nat} (h : ltxOf a = some (i, o)) : o = a % 0x1000 := by
  unfold ltxOf at h
  split_ifs at h <;> simp_all

/-- A low word in a block of the map that holds no lane-ends. -/
theorem isLowWord_of_no_lane {a : Nat} (hrx : lrxOf a = none) (htx : ltxOf a = none) (h : isLowWord a = true) :
    a % 8 = 0 ∧ 0x10000 ≤ a ∧ a ≠ 0x20008 ∧ a ≠ 0x60010 := by
  simp only [isLowWord, hrx, htx] at h
  split at h <;> simp at h <;> omega

/-- Every low word lies at a multiple of 8. -/
theorem mod_eight_of_isLowWord {a : Nat} (h : isLowWord a = true) : a % 8 = 0 := by
  cases hrx : lrxOf a with
  | some x =>
    have ho := lrxOf_offset hrx
    simp only [isLowWord, hrx, decide_eq_true_eq] at h
    omega
  | none =>
    cases htx : ltxOf a with
    | some x =>
      have ho := ltxOf_offset htx
      simp only [isLowWord, hrx, htx, decide_eq_true_eq] at h
      omega
    | none => exact (isLowWord_of_no_lane hrx htx h).1

theorem isHighWord_add_four (a : Nat) : isHighWord (a + 4) = isLowWord a := by
  simp [isHighWord]

/-- A high word lies 4 bytes above a multiple of 8, where no low word is. -/
theorem mod_eight_of_isHighWord {a : Nat} (h : isHighWord a = true) : a % 8 = 4 := by
  simp only [isHighWord, Bool.and_eq_true, decide_eq_true_eq] at h
  have := mod_eight_of_isLowWord h.2
  omega

theorem isLowWord_of_isHighWord {a : Nat} (h : isHighWord a = true) : isLowWord a = false := by
  have hmod := mod_eight_of_isHighWord h
  refine Bool.eq_false_iff.mpr fun hlow => ?_
  have := mod_eight_of_isLowWord hlow
  omega

/-! What an access depends on. -/

/-- The two units hold the same registers and stand alike in their power controllers: what decides whether an access is
answered, and what a word of a value reads as. -/
structure State.AccessAlike (s t : State) : Prop where
  reg : ∀ b, t.reg b = s.reg b
  phase : t.pwr.phase = s.pwr.phase
  origin : t.pwr.origin = s.pwr.origin

namespace State.AccessAlike

variable {s t : State} (h : s.AccessAlike t)
include h

theorem get (f : Fld) : t.get f = s.get f := by unfold State.get; rw [h.reg]

theorem on (f : Fld) : t.on f = s.on f := by unfold State.on; rw [h.get]

theorem manager : t.manager = s.manager := h.on _

theorem fileUp : t.fileUp = s.fileUp := by unfold State.fileUp; rw [h.phase, h.origin]

theorem aonUp : t.aonUp = s.aonUp := by unfold State.aonUp; rw [h.fileUp, h.phase, h.origin]

theorem answered (a : Nat) : t.answered a = s.answered a := by
  unfold State.answered State.rxActive State.txActive
  simp only [h.get, h.fileUp, h.aonUp, h.manager]

theorem accessStatus (a : Nat) : t.accessStatus a = s.accessStatus a := by
  unfold State.accessStatus State.safe
  rw [h.answered, h.on]

/-- Each word of a value reads as its register holds it, or as zero where only the manager has it. -/
theorem view_word {a k : Nat} (ha : isLowWord a = true) (hk : k = 0 ∨ k = 4) : t.view (a + k) = s.view (a + k) := by
  have hmod := mod_eight_of_isLowWord ha
  unfold State.view
  rw [lrxOf_add hmod (by omega), ltxOf_add hmod (by omega)]
  cases hrx : lrxOf a with
  | some x =>
    simp only [isLowWord, hrx, decide_eq_true_eq] at ha
    have h4 : x.2 + k ≠ 4 := by omega
    have hbins : ¬ 0xC00 ≤ x.2 + k := by omega
    simp [h4, hbins, h.reg]
  | none =>
    cases htx : ltxOf a with
    | some x =>
      simp only [isLowWord, hrx, htx, decide_eq_true_eq] at ha
      have h4 : x.2 + k ≠ 4 := by omega
      have h20 : x.2 + k ≠ 0x20 := by omega
      simp [h4, h20, h.reg]
    | none =>
      obtain ⟨-, hglb, hstat, hcal⟩ := isLowWord_of_no_lane hrx htx ha
      have hglb' : ¬ a + k < 0x10000 := by omega
      have hstat' : a + k ≠ PWR.stat := by unfold PWR.stat; omega
      have hcal' : a + k ≠ 0x60010 := by omega
      simp [hglb', hstat', hcal', h.reg, h.manager]

theorem view_low {a : Nat} (ha : isLowWord a = true) : t.view a = s.view a := h.view_word ha (.inl rfl)

theorem view_high {a : Nat} (ha : isLowWord a = true) : t.view (a + 4) = s.view (a + 4) := h.view_word ha (.inr rfl)

end State.AccessAlike

/-! One read. -/

/-- The unit after a read of the low word at `a`. -/
def State.latched (s : State) (a : Nat) : State := { s with latch := s.view (a + 4) }

theorem State.alike_latched (s : State) (a : Nat) : s.AccessAlike (s.latched a) := ⟨fun _ => rfl, rfl, rfl⟩

theorem State.readWord_low (s : State) {a : Nat} (h : isLowWord a = true) :
    s.readWord a = (s.latched a, s.view a) := by
  have hmod := mod_eight_of_isLowWord h
  rw [State.readWord, if_neg (by omega), if_pos h]
  rfl

theorem State.readWord_high (s : State) {a : Nat} (h : isHighWord a = true) : s.readWord a = (s, s.latch) := by
  have hmod := mod_eight_of_isHighWord h
  simp [State.readWord, isLowWord_of_isHighWord h, h, show a % 4 = 0 by omega]

/-- The high word that is read next is that of the low word's instant. -/
theorem State.readWord_latched (s : State) {a : Nat} (h : isLowWord a = true) :
    (s.latched a).readWord (a + 4) = (s.latched a, s.view (a + 4)) :=
  State.readWord_high _ ((isHighWord_add_four a).trans h)

theorem State.swRead_of_ok {s : State} {a : Nat} (h : s.accessStatus a = 0) :
    s.swRead a = ((s.readWord a).1, (s.readWord a).2, 0) := if_pos h

theorem State.swRead_of_refused {s : State} {a : Nat} (h : s.accessStatus a ≠ 0) :
    s.swRead a = (s, 0, s.accessStatus a) := if_neg h

theorem State.swRead_low {s : State} {a : Nat} (h : isLowWord a = true) (hok : s.accessStatus a = 0) :
    s.swRead a = (s.latched a, s.view a, 0) := by
  rw [State.swRead_of_ok hok, State.readWord_low s h]

theorem State.swRead_high {s : State} {a : Nat} (h : isHighWord a = true) (hok : s.accessStatus a = 0) :
    s.swRead a = (s, s.latch, 0) := by
  rw [State.swRead_of_ok hok, State.readWord_high s h]

/-- A read of another register, or one that is not carried out, is none of a low word. -/
theorem execCounterLowRead_idle {s : State} {a : Addr} (h : isLowWord a.toNat = false ∨ s.accessStatus a.toNat ≠ 0) :
    execCounterLowRead a s = .next s := by
  unfold execCounterLowRead
  rcases h with hother | hrefused
  · rw [hother]; rfl
  · rw [State.swRead_of_refused hrefused, ite_self]

/-! A pair of reads that begins at a low word. -/

/-- Two registers read from a low word on (R266). -/
theorem State.swReads_pair {s : State} {a : Nat} (h : isLowWord a = true) (hlo : s.accessStatus a = 0)
    (hhi : s.accessStatus (a + 4) = 0) : State.swReads 2 s a = (s.latched a, [s.view a, s.view (a + 4)], 0) := by
  have hhi' : (s.latched a).swRead (a + 4) = (s.latched a, s.view (a + 4), 0) := by
    rw [State.swRead_of_ok (((s.alike_latched a).accessStatus _).trans hhi), State.readWord_latched s h]
  simp [State.swReads, State.swRead_low h hlo, hhi', stOk]

theorem State.barAnswers_of_ok {s : State} {a : Nat} (h : s.accessStatus a = 0) : s.barAnswers a = true := by
  simp [State.barAnswers, h, stOk]

/-- Two registers read through BAR0 from a low word on (R238). -/
theorem State.barRead_pair {s : State} {a : Nat} (h : isLowWord a = true) (hlo : s.accessStatus a = 0)
    (hhi : s.accessStatus (a + 4) = 0) :
    s.barRead a 2 = (s.latched a).emit (.readData [s.view a, s.view (a + 4)]) := by
  have hhi' : (s.latched a).barAnswers (a + 4) = true :=
    State.barAnswers_of_ok (((s.alike_latched a).accessStatus _).trans hhi)
  simp [State.barRead, List.range_succ, State.barAnswers_of_ok hlo, State.readWord_low s h, hhi',
    State.readWord_latched s h]

/-! A request to BAR0. -/

theorem putBits_bitsOf (w lo len : Nat) : putBits w lo len (bitsOf w lo len) = w := by
  apply Nat.eq_of_testBit_eq
  intro i
  rw [testBit_putBits, testBit_bitsOf]
  split
  · rfl
  · split
    · simp [show i - lo < len by omega, show lo + (i - lo) = i by omega]
    · rfl

/-- A field that takes the value it has leaves every register as it reads. -/
theorem State.reg_put_of_get {s : State} {f : Fld} {v : Nat} (h : s.get f = v) (b : Nat) :
    (s.put f v).reg b = s.reg b := by
  by_cases hb : b = f.addr
  · rw [hb, State.reg_put_same, ← h, State.get, putBits_bitsOf, BitVec.ofNat_toNat, BitVec.setWidth_eq]
  · exact State.reg_put_ne s f v hb

/-- A wake source that acts in RUN is noted, and no more. -/
theorem State.wakeDev_of_run {s : State} (h : s.pwr.phase = .run) (k : Nat × Nat × Nat) :
    s.wakeDev k = s.updPwr (fun w => { w with wakeAt := some s.clock }) := by
  simp [State.wakeDev, h]

/-- A request that finds the link up and the manager in RUN notes its wake, and that the link is in L0. -/
theorem State.tlpArrives_of_run {s : State} (hmgr : s.manager = true) (hup : s.on RNG.dlUp = true)
    (hrun : s.pwr.phase = .run) :
    s.tlpArrives [] = (s.put RNG.linkPm 0).updPwr (fun w => { w with wakeAt := some s.clock }) := by
  have hmgr' : (s.put RNG.linkPm 0).manager = true := by
    unfold State.manager State.on
    rw [State.get_put_ne s RNG.linkPm GLB.strapRole 0 (by decide)]
    exact hmgr
  have hlink : s.linkTrained = s := if_pos (by rw [hup]; rfl)
  simp [State.tlpArrives, hlink, State.pcieWakes, State.when, hmgr', State.wakeDev_of_run, hrun]

theorem State.alike_tlpArrives {s : State} (hmgr : s.manager = true) (hup : s.on RNG.dlUp = true)
    (hpm : s.get RNG.linkPm = 0) (hrun : s.pwr.phase = .run) : s.AccessAlike (s.tlpArrives []) := by
  rw [State.tlpArrives_of_run hmgr hup hrun]
  refine ⟨fun b => ?_, rfl, rfl⟩
  rw [State.updPwr_reg, State.reg_put_of_get hpm]

/-- An address that is answered lies in the map. -/
theorem State.lt_of_accessStatus_ok {s : State} {a : Nat} (h : s.accessStatus a = 0) : a < 0x800000 := by
  by_contra hbeyond
  rw [State.accessStatus, if_pos (Nat.not_lt.mp hbeyond)] at h
  exact absurd h (by decide)

/-- A read of 2 DW that the function takes reads two registers (R238). -/
theorem State.barRequest_read_pair {s : State} {a : Addr} (hmgr : s.manager = true) (hfile : s.fileUp = true)
    (hmem : (s.tlpArrives []).pcie.memEnable = true) (hd3 : (s.tlpArrives []).on RNG.d3hot = false)
    (ha : a.toNat < 0x800000) (hmod : a.toNat % 8 = 0) :
    s.barRequest ⟨false, a, 2, true, false, [], []⟩ = (s.tlpArrives []).barRead a.toNat 2 := by
  have hlength : barLength ⟨false, a, 2, true, false, [], []⟩ = true := by
    simp [barLength, hmod, show a.toNat % 4 = 0 by omega]
  simp [State.barRequest, hmgr, hfile, hmem, hd3, hlength, Nat.not_le.mpr ha]

/-- A BAR0 read of 2 DW that begins at a low word. -/
theorem State.barRequest_low {s : State} {a : Addr} (hmgr : s.manager = true) (hup : s.on RNG.dlUp = true)
    (hmem : s.pcie.memEnable = true) (hd3 : s.on RNG.d3hot = false) (hpm : s.get RNG.linkPm = 0)
    (hlow : isLowWord a.toNat = true) (hlo : s.accessStatus a.toNat = 0) (hhi : s.accessStatus (a.toNat + 4) = 0)
    (hrun : s.pwr.phase = .run) (hmod : a.toNat % 8 = 0) :
    s.barRequest ⟨false, a, 2, true, false, [], []⟩ =
      ((s.tlpArrives []).latched a.toNat).emit (.readData [s.view a.toNat, s.view (a.toNat + 4)]) := by
  have halike := State.alike_tlpArrives hmgr hup hpm hrun
  have hmem' : (s.tlpArrives []).pcie.memEnable = true := by rw [State.tlpArrives_of_run hmgr hup hrun]; exact hmem
  have hfile : s.fileUp = true := by rw [State.fileUp, hrun]
  rw [State.barRequest_read_pair hmgr hfile hmem' ((halike.on _).trans hd3) (State.lt_of_accessStatus_ok hlo) hmod,
    State.barRead_pair hlow ((halike.accessStatus _).trans hlo) ((halike.accessStatus _).trans hhi),
    halike.view_low hlow, halike.view_high hlow]

/-! A REG_READ descriptor. -/

/-- In the safe state only the fault collector's registers are read (R281). -/
theorem State.block_of_accessStatus_ok {s : State} {a : Nat} (h : s.accessStatus a = 0) (hsafe : s.safe = true) :
    a / 0x10000 = 1 := by
  by_contra hblock
  simp only [State.accessStatus, hsafe, hblock, ne_eq, not_false_eq_true, decide_true, Bool.and_self, if_true] at h
  split_ifs at h <;> exact absurd h (by decide)

/-- A read descriptor is refused in the safe state only where a register that it names is. -/
theorem safeRefuses_read_pair {s : State} {d : Desc} (ht : dType d = 1) (hcount : dField d 11 1 = 2)
    (hlo : s.accessStatus (dAddr d) = 0) (hhi : s.accessStatus (dAddr d + 4) = 0) :
    (s.safe && safeRefuses d) = false := by
  rw [Bool.and_eq_false_iff, or_iff_not_imp_left, Bool.not_eq_false]
  intro hsafe
  simp [safeRefuses, ht, isRegType, inFlt, dRegAddr, dCount, hcount, State.block_of_accessStatus_ok hlo hsafe,
    State.block_of_accessStatus_ok hhi hsafe]

/-- A change of a flight that keeps its index. -/
theorem State.flight_updFlight (s : State) {q idx : Nat} {g : Flight → Flight} (hg : ∀ f, (g f).idx = f.idx) :
    (s.updFlight q idx g).flight q idx = (s.flight q idx).map g := by
  have hidx (f : Flight) : (if f.idx = idx then g f else f).idx = f.idx := by split <;> simp [hg]
  have hfind (l : List Flight) :
      (l.map (fun f => if f.idx = idx then g f else f)).find? (fun f => decide (f.idx = idx)) =
        (l.find? (fun f => decide (f.idx = idx))).map g := by
    induction l with
    | nil => rfl
    | cons f l ih => by_cases hf : f.idx = idx <;> simp [hg, hf, ih]
  rw [State.flight, State.updFlight, State.updRing_ring_same]
  exact hfind _

/-- An answer that comes to a descriptor in flight that has none yet. -/
theorem State.answerOf_answerFlight {s : State} {q idx : Nat} {f : Flight} (hf : s.flight q idx = some f)
    (hst : f.stage ≠ .answered) (status result src : Nat) :
    (s.answerFlight q idx status result src).answerOf q idx = some (status, result) := by
  have hflight : (s.answerFlight q idx status result src).flight q idx =
      some { f with stage := .answered, status := status, result := result, src := src, stamp := s.nextStamp } := by
    rw [State.answerFlight, State.flight_updFlight _ (fun x => by split <;> rfl), hf, Option.map_some, if_neg hst]
  exact State.answerOf_of_answered hflight rfl

/-- A descriptor that a row starts is in flight, of the row's type. -/
theorem State.of_starts {s : State} {q idx ty : Nat} {op : Option Nat} {f : Flight} (h : s.starts q idx ty op = some f) :
    s.flight q idx = some f ∧ f.idx = idx ∧ dType f.desc = ty := by
  obtain ⟨hflight, hpass⟩ := Option.filter_eq_some_iff.mp h
  have hidx : f.idx = idx := by simpa using List.find?_some hflight
  simp only [isOp, Bool.and_eq_true, decide_eq_true_eq] at hpass
  exact ⟨hflight, hidx, hpass.1.1⟩

theorem State.flight_started {s : State} {q idx : Nat} {f : Flight} (hf : s.flight q idx = some f) :
    (s.started q idx).flight q idx = some { f with stage := .started, gen := s.orbit.gen } := by
  rw [State.started, State.flight_updFlight _ (by intro; rfl), hf, Option.map_some]

theorem State.alike_started (s : State) (q idx : Nat) : s.AccessAlike (s.started q idx) := ⟨fun _ => rfl, rfl, rfl⟩

/-- A register descriptor that names the manager acts there, unless the safe state refuses it. -/
theorem State.descReg_here {s : State} {q idx ty : Nat} {f : Flight} (h : s.starts q idx ty none = some f)
    (htarget : dTarget f.desc = 0) (hsafe : (s.safe && safeRefuses f.desc) = false) (own : Desc → State → State)
    (payload : Desc → List Byte) : s.descReg q idx ty own payload = own f.desc (s.started q idx) := by
  obtain ⟨-, hidx, -⟩ := State.of_starts h
  simp [State.descReg, h, State.descAt, htarget, hsafe, hidx]

/-- Two registers read by a descriptor from a low word on. -/
theorem State.readHere_pair {s : State} {q idx : Nat} {d : Desc} (hcount : dField d 11 1 = 2)
    (hlow : isLowWord (dAddr d) = true) (hlo : s.accessStatus (dAddr d) = 0) (hhi : s.accessStatus (dAddr d + 4) = 0) :
    s.readHere q idx d = (s.latched (dAddr d)).answerFlight q idx 0
      ((s.view (dAddr d)).toNat + 2 ^ 32 * (s.view (dAddr d + 4)).toNat) 0 := by
  simp [State.readHere, hcount, State.swReads_pair hlow hlo hhi]

/-- A REG_READ descriptor with COUNT = 2 that begins at a low word. -/
theorem execRegRead_pair {s : State} {q : RingN} {i : BitVec 16} {f : Flight}
    (hstart : s.starts q i.toNat 0x01 none = some f) (htarget : dTarget f.desc = 0) (hcount : dField f.desc 11 1 = 2)
    (hlow : isLowWord (dAddr f.desc) = true) (hlo : s.accessStatus (dAddr f.desc) = 0)
    (hhi : s.accessStatus (dAddr f.desc + 4) = 0) :
    execRegRead q i s = .next (((s.started q i.toNat).latched (dAddr f.desc)).answerFlight q i.toNat 0
      ((s.view (dAddr f.desc)).toNat + 2 ^ 32 * (s.view (dAddr f.desc + 4)).toNat) 0) := by
  obtain ⟨-, -, htype⟩ := State.of_starts hstart
  have halike := s.alike_started q i.toNat
  rw [execRegRead, State.descReg_here hstart htarget (safeRefuses_read_pair htype hcount hlo hhi),
    State.readHere_pair hcount hlow ((halike.accessStatus _).trans hlo) ((halike.accessStatus _).trans hhi),
    halike.view_low hlow, halike.view_high hlow]

/-- Settles O50: single reads by the laws of a read above; a pair of reads finds the high word that its first read
latched, through BAR0 and in a descriptor. -/
theorem theHighWordLatch : Obligations.TheHighWordLatch := by
  refine ⟨?lowRead, ?otherRead, fun s a => State.swRead_low, fun s a => State.swRead_high, ?coldReset, rfl, ?bar0,
    ?regRead⟩
  case lowRead =>
    intro s a hlow hok
    refine ⟨s.latched a.toNat, ?_, rfl⟩
    show execCounterLowRead a s = _
    rw [execCounterLowRead, if_pos hlow, State.swRead_low hlow hok]
  case otherRead => exact fun s a h => ⟨s, execCounterLowRead_idle h, rfl⟩
  case coldReset => exact fun s => ⟨s.coldOf 1 s.railCount .held true, rfl, rfl⟩
  case bar0 =>
    intro s a hmgr hup hmem hd3 hpm hlow hlo hhi hrun hmod
    have halike := State.alike_tlpArrives hmgr hup hpm hrun
    refine ⟨_, congrArg Host.Outcome.next (State.barRequest_low hmgr hup hmem hd3 hpm hlow hlo hhi hrun hmod), ?_,
      fun b => ?_⟩
    · rw [State.latched, halike.view_high hlow, State.tlpArrives_of_run hmgr hup hrun]
      rfl
    · rw [State.emit_reg, (State.alike_latched _ _).reg, halike.reg]
  case regRead =>
    intro s q i f a hstart htarget hcount ha hlow hlo hhi
    subst ha
    obtain ⟨hflight, -, -⟩ := State.of_starts hstart
    refine ⟨_, execRegRead_pair hstart htarget hcount hlow hlo hhi, ?_, ?_⟩
    · exact State.answerOf_answerFlight (s := (s.started q i.toNat).latched _) (State.flight_started hflight)
        (by simp) ..
    · rw [State.latched, (s.alike_started q i.toNat).view_high hlow]
      rfl

end Sys2Proof.Machine
end

section
/-! PROOFS. What every command keeps. `Keeps onLane s₀ s` says that the updates that led from `s₀` to `s` left the queue alone
and kept the legal states legal and, where `onLane` is set, that they touched only what the lane side may change. Each
operation of the model has one law: applied to a state that is kept, it answers one that is kept. -/

/- One after the other: elaborated at once, the laws take more threads than the check allows. -/
set_option Elab.async false

namespace Sys2Proof.Machine

/-- What has become of `s₀` in `s`: the same queue, still legal where `s₀` was and, for the lane side, the same management
side. -/
structure Keeps (onLane : Bool) (s₀ s : State) : Prop where
  queue : s.pending = s₀.pending
  legal : s₀.Legal → s.Legal
  side : onLane = true → s.kept = s₀.kept

variable {onLane : Bool} {s₀ s t : State}

theorem Keeps.refl (onLane : Bool) (s : State) : Keeps onLane s s := ⟨rfl, id, fun _ => rfl⟩

/-- A further update of the lane side. -/
theorem Keeps.step (h : Keeps onLane s₀ s) (hl : s.Legal → t.Legal) (hk : t.kept = s.kept) : Keeps onLane s₀ t :=
  ⟨(congrArg State.pending hk).trans h.queue, hl ∘ h.legal, fun e => hk.trans (h.side e)⟩

/-- A further update of the management side. -/
theorem Keeps.stepUnit (h : Keeps false s₀ s) (hl : s.Legal → t.Legal) (hq : t.pending = s.pending) : Keeps false s₀ t :=
  ⟨hq.trans h.queue, hl ∘ h.legal, fun e => absurd e (by decide)⟩

/-- What the lane side keeps, every command keeps. -/
theorem Keeps.unit (h : Keeps onLane s₀ s) : Keeps false s₀ s := ⟨h.queue, h.legal, fun e => absurd e (by decide)⟩

theorem Keeps.ite {c : Prop} [Decidable c] {u : State} (h : Keeps onLane s₀ s) (k : Keeps onLane s₀ u) :
    Keeps onLane s₀ (if c then s else u) := by
  split
  · exact h
  · exact k

theorem Keeps.when {c : Bool} {f : State → State} (h : Keeps onLane s₀ s) (hf : ∀ {t}, Keeps onLane s₀ t → Keeps onLane s₀ (f t)) :
    Keeps onLane s₀ (s.when c f) := by
  unfold State.when
  exact (hf h).ite h

theorem Keeps.foldl {α : Type} {l : List α} {f : State → α → State} (h : Keeps onLane s₀ s)
    (hf : ∀ {t} x, Keeps onLane s₀ t → Keeps onLane s₀ (f t x)) : Keeps onLane s₀ (l.foldl f s) := by
  induction l generalizing s with
  | nil => exact h
  | cons x l ih => exact ih (hf x h)

theorem Keeps.each {α : Type} {l : List α} {f : α → State → State} (h : Keeps onLane s₀ s)
    (hf : ∀ {t} x, Keeps onLane s₀ t → Keeps onLane s₀ (f x t)) : Keeps onLane s₀ (s.each l f) := h.foldl hf

/-! The stores. -/

theorem Sparse.wf_filterMap {α : Type} [DecidableEq α] {d : Nat → α} {m : Sparse α} (f : Nat → α → α)
    (h : Sparse.wf d m = true) :
    Sparse.wf d (m.filterMap fun x => if f x.1 x.2 = d x.1 then none else some (x.1, f x.1 x.2)) = true := by
  simp only [Sparse.wf, Bool.and_eq_true, List.all_eq_true, decide_eq_true_eq] at h ⊢
  refine ⟨Sparse.rises_filterMap _ (fun e e' he => ?_) h.1, fun e he => ?_⟩
  · split at he
    · exact absurd he (by simp)
    · exact (Option.some.inj he) ▸ rfl
  · obtain ⟨x, -, hx⟩ := List.mem_filterMap.mp he
    split at hx
    · exact absurd hx (by simp)
    · obtain rfl := Option.some.inj hx
      assumption

theorem Keeps.setReg {a : Nat} {w : Word} (h : Keeps onLane s₀ s) : Keeps onLane s₀ (s.setReg a w) :=
  h.step (fun l => { l with canon := { l.canon with regs := Sparse.wf_set a w l.canon.regs } }) rfl

theorem Keeps.mapRegs {f : Nat → Word → Word} (h : Keeps onLane s₀ s) : Keeps onLane s₀ (s.mapRegs f) :=
  h.step (fun l => { l with canon := { l.canon with regs := Sparse.wf_filterMap f l.canon.regs } }) rfl

theorem Keeps.updRing {q : Nat} {f : Ring → Ring} (h : Keeps onLane s₀ s) : Keeps onLane s₀ (s.updRing q f) :=
  h.step (fun l => { l with canon := { l.canon with rings := Sparse.wf_set q _ l.canon.rings } }) rfl

theorem Keeps.updRx {i : Nat} {f : RxEnd → RxEnd} (h : Keeps onLane s₀ s) : Keeps onLane s₀ (s.updRx i f) :=
  h.step (fun l => { l with canon := { l.canon with rx := Sparse.wf_set i _ l.canon.rx } }) rfl

theorem Keeps.mapRx {f : RxEnd → RxEnd} (h : Keeps onLane s₀ s) : Keeps onLane s₀ (s.mapRx f) :=
  h.step (fun l => { l with canon := { l.canon with rx := Sparse.wf_filterMap (fun _ => f) l.canon.rx } }) rfl

theorem Keeps.updTx {i : Nat} {f : TxEnd → TxEnd} (h : Keeps onLane s₀ s) : Keeps onLane s₀ (s.updTx i f) :=
  h.step (fun l => { l with canon := { l.canon with tx := Sparse.wf_set i _ l.canon.tx } }) rfl

theorem Keeps.mapTx {f : TxEnd → TxEnd} (h : Keeps onLane s₀ s) : Keeps onLane s₀ (s.mapTx f) :=
  h.step (fun l => { l with canon := { l.canon with tx := Sparse.wf_filterMap (fun _ => f) l.canon.tx } }) rfl

theorem Keeps.updSeg {g sd k : Nat} {f : Seg → Seg} (h : Keeps onLane s₀ s) : Keeps onLane s₀ (s.updSeg g sd k f) :=
  h.step (fun l => { l with canon := { l.canon with segs := Sparse.wf_set _ _ l.canon.segs } }) rfl

theorem Keeps.updEng {e g : Nat} {f : EngPort → EngPort} (h : Keeps onLane s₀ s) : Keeps onLane s₀ (s.updEng e g f) :=
  h.step (fun l => { l with canon := { l.canon with engs := Sparse.wf_set _ _ l.canon.engs } }) rfl

theorem Keeps.setLt {i : Nat} {x : Option LaneTrain} (h : Keeps onLane s₀ s) : Keeps onLane s₀ (s.setLt i x) :=
  h.step (fun l => { l with canon := { l.canon with lts := Sparse.wf_set i x l.canon.lts } }) rfl

theorem Keeps.updPort {g : Nat} {f : PortRec → PortRec} (h : Keeps onLane s₀ s) : Keeps onLane s₀ (s.updPort g f) :=
  h.step (fun l => { l with canon := { l.canon with ports := Sparse.wf_set g _ l.canon.ports } }) rfl

theorem Keeps.updPll {e : Nat} {f : Pll → Pll} (h : Keeps false s₀ s) : Keeps false s₀ (s.updPll e f) :=
  h.stepUnit (fun l => { l with canon := { l.canon with plls := Sparse.wf_set e _ l.canon.plls } }) rfl

theorem Keeps.updStrm {n : Nat} {f : Stream → Stream} (h : Keeps false s₀ s) : Keeps false s₀ (s.updStrm n f) :=
  h.stepUnit (fun l => { l with canon := { l.canon with streams := Sparse.wf_set n _ l.canon.streams } }) rfl

theorem Keeps.setKeys {i : Nat} {k : Key} (h : Keeps onLane s₀ s) :
    Keeps onLane s₀ { s with keys := Sparse.set ⟨0, 0, false⟩ s.keys i k } :=
  h.step (fun l => { l with canon := { l.canon with keys := Sparse.wf_set i k l.canon.keys } }) rfl

theorem Keeps.setBank {b : Nat} {x : Bank} (h : Keeps false s₀ s) :
    Keeps false s₀ { s with banks := Sparse.set Bank.empty s.banks b x } :=
  h.stepUnit (fun l => { l with canon := { l.canon with banks := Sparse.wf_set b x l.canon.banks } }) rfl

theorem Keeps.setTeleCq {i q : Nat} (h : Keeps false s₀ s) : Keeps false s₀ { s with teleCq := Sparse.set 0 s.teleCq i q } :=
  h.stepUnit (fun l => { l with canon := { l.canon with teleCq := Sparse.wf_set i q l.canon.teleCq } }) rfl

theorem Keeps.setEvFrames {a : Nat} {x : EvFrame} (h : Keeps onLane s₀ s) :
    Keeps onLane s₀ { s with evFrames := Sparse.set ⟨0, 0⟩ s.evFrames a x } :=
  h.step (fun l => { l with canon := { l.canon with evFrames := Sparse.wf_set a x l.canon.evFrames } }) rfl

/-! The other records. -/

theorem Keeps.withOut {x} (h : Keeps onLane s₀ s) : Keeps onLane s₀ { s with out := x } :=
  h.step (fun l => { l with canon := { l.canon with } }) rfl

theorem Keeps.withFreeCtr {x} (h : Keeps onLane s₀ s) : Keeps onLane s₀ { s with freeCtr := x } :=
  h.step (fun l => { l with canon := { l.canon with } }) rfl

theorem Keeps.withCauses {x} (h : Keeps onLane s₀ s) : Keeps onLane s₀ { s with causes := x } :=
  h.step (fun l => { l with canon := { l.canon with } }) rfl

theorem Keeps.withGrace {x} (h : Keeps onLane s₀ s) : Keeps onLane s₀ { s with grace := x } :=
  h.step (fun l => { l with canon := { l.canon with } }) rfl


theorem Keeps.withWaitq {x} (h : Keeps onLane s₀ s) : Keeps onLane s₀ { s with waitq := x } :=
  h.step (fun l => { l with canon := { l.canon with } }) rfl

theorem Keeps.withCalReqs {x} (h : Keeps onLane s₀ s) : Keeps onLane s₀ { s with calReqs := x } :=
  h.step (fun l => { l with canon := { l.canon with } }) rfl

theorem Keeps.withBist {x} (h : Keeps onLane s₀ s) : Keeps onLane s₀ { s with bist := x } :=
  h.step (fun l => { l with canon := { l.canon with } }) rfl

theorem Keeps.withBistHeld {x} (h : Keeps onLane s₀ s) : Keeps onLane s₀ { s with bistHeld := x } :=
  h.step (fun l => { l with canon := { l.canon with } }) rfl

theorem Keeps.withIsolated {x} (h : Keeps onLane s₀ s) : Keeps onLane s₀ { s with isolated := x } :=
  h.step (fun l => { l with canon := { l.canon with } }) rfl

theorem Keeps.withFlt {x} (h : Keeps onLane s₀ s) : Keeps onLane s₀ { s with flt := x } :=
  h.step (fun l => { l with canon := { l.canon with } }) rfl

theorem Keeps.withCore {x} (h : Keeps onLane s₀ s) : Keeps onLane s₀ { s with core := x } :=
  h.step (fun l => { l with canon := { l.canon with } }) rfl

theorem Keeps.withClock {x} (h : Keeps false s₀ s) : Keeps false s₀ { s with clock := x } :=
  h.stepUnit (fun l => { l with canon := { l.canon with } }) rfl

theorem Keeps.withLatch {x} (h : Keeps false s₀ s) : Keeps false s₀ { s with latch := x } :=
  h.stepUnit (fun l => { l with canon := { l.canon with } }) rfl

theorem Keeps.withPcie {x} (h : Keeps false s₀ s) : Keeps false s₀ { s with pcie := x } :=
  h.stepUnit (fun l => { l with canon := { l.canon with } }) rfl

theorem Keeps.withDispatched {x} (h : Keeps false s₀ s) : Keeps false s₀ { s with dispatched := x } :=
  h.stepUnit (fun l => { l with canon := { l.canon with } }) rfl

theorem Keeps.withFenceHeld {x} (h : Keeps false s₀ s) : Keeps false s₀ { s with fenceHeld := x } :=
  h.stepUnit (fun l => { l with canon := { l.canon with } }) rfl

theorem Keeps.withCalSeq {x} (h : Keeps false s₀ s) : Keeps false s₀ { s with calSeq := x } :=
  h.stepUnit (fun l => { l with canon := { l.canon with } }) rfl

theorem Keeps.withRejects {x} (h : Keeps false s₀ s) : Keeps false s₀ { s with rejects := x } :=
  h.stepUnit (fun l => { l with canon := { l.canon with } }) rfl

theorem Keeps.withDwell {x} (h : Keeps false s₀ s) : Keeps false s₀ { s with dwell := x } :=
  h.stepUnit (fun l => { l with canon := { l.canon with } }) rfl

theorem Keeps.withJtag {x} (h : Keeps false s₀ s) : Keeps false s₀ { s with jtag := x } :=
  h.stepUnit (fun l => { l with canon := { l.canon with } }) rfl

theorem Keeps.withShot {x} (h : Keeps false s₀ s) : Keeps false s₀ { s with shot := x } :=
  h.stepUnit (fun l => { l with canon := { l.canon with } }) rfl

theorem Keeps.withHalves {x} (h : Keeps false s₀ s) : Keeps false s₀ { s with halves := x } :=
  h.stepUnit (fun l => { l with canon := { l.canon with } }) rfl

theorem Keeps.withEcliDone {x} (h : Keeps false s₀ s) : Keeps false s₀ { s with ecliDone := x } :=
  h.stepUnit (fun l => { l with canon := { l.canon with } }) rfl

theorem Keeps.withRingReset {x} (h : Keeps false s₀ s) : Keeps false s₀ { s with ringReset := x } :=
  h.stepUnit (fun l => { l with canon := { l.canon with } }) rfl

theorem Keeps.withPages {x} (h : Keeps false s₀ s) : Keeps false s₀ { s with pages := x } :=
  h.stepUnit (fun l => { l with canon := { l.canon with } }) rfl

theorem Keeps.withGraceFlt {n f} (h : Keeps onLane s₀ s) : Keeps onLane s₀ { s with grace := n, flt := f } :=
  h.step (fun l => { l with canon := { l.canon with } }) rfl

theorem Keeps.withCalReqsBist {l k} (h : Keeps onLane s₀ s) : Keeps onLane s₀ { s with calReqs := l, bist := k } :=
  h.step (fun l => { l with canon := { l.canon with } }) rfl

theorem Keeps.withDispatchedFenceHeld {n c} (h : Keeps false s₀ s) :
    Keeps false s₀ { s with dispatched := n, fenceHeld := c } :=
  h.stepUnit (fun l => { l with canon := { l.canon with } }) rfl

theorem Keeps.withRingResetPages {c n} (h : Keeps false s₀ s) : Keeps false s₀ { s with ringReset := c, pages := n } :=
  h.stepUnit (fun l => { l with canon := { l.canon with } }) rfl

theorem Keeps.setStream {n : Nat} {x : Stream} (h : Keeps false s₀ s) :
    Keeps false s₀ { s with streams := Sparse.set Stream.idle s.streams n x } :=
  h.stepUnit (fun l => { l with canon := { l.canon with streams := Sparse.wf_set n x l.canon.streams } }) rfl

/-- Rails are asserted and deasserted in their order (R408): `n` of them are a front part of it. -/
theorem front_mem_rails {n : Nat} (hn : n ≤ 5) : 2 ^ n - 1 ∈ [0, 1, 3, 7, 15, 31] := by
  interval_cases n <;> decide

theorem Keeps.withPwr {p : Pwr} (h : Keeps false s₀ s) (hp : p.rails = s.pwr.rails := by rfl) :
    Keeps false s₀ { s with pwr := p } :=
  h.stepUnit (fun l => { l with canon := { l.canon with }, rails := hp ▸ l.rails }) rfl

theorem Keeps.updPwr {f : Pwr → Pwr} (h : Keeps false s₀ s) (hf : ∀ w, (f w).rails = w.rails := by intros; rfl) :
    Keeps false s₀ (s.updPwr f) := h.withPwr (hf s.pwr)

/-- An escalation in an entry owes a wake (R412); the lane side may do that. -/
theorem Keeps.oweWake {w : Option (Nat × Nat × Nat)} {d : Bool} (h : Keeps onLane s₀ s) :
    Keeps onLane s₀ { s with pwr := { s.pwr with wake := w, safeDue := d } } :=
  h.step (fun l => { l with canon := { l.canon with } }) rfl

/-- The slots of the chain and its delays keep their form. -/
theorem Keeps.updOrbStores {f : Orbit → Orbit} (h : Keeps false s₀ s)
    (hs : Sparse.wf (fun _ => 0) s.orbit.slots = true → Sparse.wf (fun _ => 0) (f s.orbit).slots = true)
    (hd : Sparse.wf (fun _ => (0, 0)) s.orbit.delays = true → Sparse.wf (fun _ => (0, 0)) (f s.orbit).delays = true) :
    Keeps false s₀ (s.updOrb f) :=
  h.stepUnit (fun l => { l with canon := { l.canon with slots := hs l.canon.slots, delays := hd l.canon.delays } }) rfl

theorem Keeps.updOrb {f : Orbit → Orbit} (h : Keeps false s₀ s)
    (hf : ∀ o, (f o).slots = o.slots ∧ (f o).delays = o.delays := by intros; exact ⟨rfl, rfl⟩) :
    Keeps false s₀ (s.updOrb f) :=
  h.updOrbStores (fun k => (hf s.orbit).1 ▸ k) (fun k => (hf s.orbit).2 ▸ k)

/-- Writes to host memory wait in the PCIe function, for the lane side too. -/
theorem Keeps.postOwed {l : List (Nat × List Word)} (h : Keeps onLane s₀ s) :
    Keeps onLane s₀ { s with pcie := { s.pcie with posted := l } } :=
  h.step (fun l => { l with canon := { l.canon with } }) rfl

theorem Flash.active_le (f : Flash) : f.active ≤ 1 := by
  unfold Flash.active boolNat
  split <;> decide

theorem Flash.valid_write_le {f : Flash} {a : Nat} {b : Bool} (h : f.valid ≤ 3) : (f.write a b).valid ≤ 3 := by
  unfold Flash.write
  split <;> exact h

/-- A boot control block always names one of the two slots; a change of the flash keeps the third invalid (R427). -/
theorem Keeps.withFlash {f : Flash} (h : Keeps false s₀ s) (hf : s.flash.valid ≤ 3 → f.valid ≤ 3) :
    Keeps false s₀ { s with flash := f } :=
  h.stepUnit (fun l => { l with canon := { l.canon with }, active := f.active_le, valid := hf l.valid }) rfl

/-! The operations of the model, in its order. -/

theorem Keeps.put {f : Fld} {v : Nat} (h : Keeps onLane s₀ s) : Keeps onLane s₀ (s.put f v) := by
  unfold State.put
  exact h.setReg

theorem Keeps.putInt {f : Fld} {v : Int} (h : Keeps onLane s₀ s) : Keeps onLane s₀ (s.putInt f v) := by
  unfold State.putInt
  exact h.put

theorem Keeps.resetReg {a : Nat} (h : Keeps onLane s₀ s) : Keeps onLane s₀ (s.resetReg a) := by
  unfold State.resetReg
  exact h.setReg

theorem Keeps.setCounter {a v : Nat} (h : Keeps onLane s₀ s) : Keeps onLane s₀ (s.setCounter a v) := by
  unfold State.setCounter
  exact h.setReg.setReg

theorem Keeps.countBy {a n : Nat} (h : Keeps onLane s₀ s) : Keeps onLane s₀ (s.countBy a n) := by
  unfold State.countBy
  exact h.setCounter

theorem Keeps.count {a : Nat} (h : Keeps onLane s₀ s) : Keeps onLane s₀ (s.count a) := by
  unfold State.count
  exact h.countBy

theorem Keeps.satCount {a : Nat} (h : Keeps onLane s₀ s) : Keeps onLane s₀ (s.satCount a) := by
  unfold State.satCount
  exact h.setReg

theorem Keeps.emit {o : Out} (h : Keeps onLane s₀ s) : Keeps onLane s₀ (s.emit o) := by
  unfold State.emit
  exact h.withOut

theorem Keeps.drive {o : Out} (h : Keeps onLane s₀ s) : Keeps onLane s₀ (s.drive o) := by
  unfold State.drive
  exact Keeps.ite h h.emit

theorem Keeps.pinLevels (h : Keeps onLane s₀ s) : Keeps onLane s₀ s.pinLevels := by
  unfold State.pinLevels
  exact h.emit.emit.emit

theorem Keeps.pinsBack (h : Keeps false s₀ s) : Keeps false s₀ s.pinsBack := by
  unfold State.pinsBack
  exact Keeps.ite h.withJtag.pinLevels h

theorem Keeps.useFree (h : Keeps onLane s₀ s) : Keeps onLane s₀ s.useFree := by
  unfold State.useFree
  exact h.withFreeCtr

theorem Keeps.causeOn {n : Nat} (h : Keeps onLane s₀ s) : Keeps onLane s₀ (s.causeOn n) := by
  unfold State.causeOn
  exact h.withCauses

theorem Keeps.causeOff {n : Nat} (h : Keeps onLane s₀ s) : Keeps onLane s₀ (s.causeOff n) := by
  unfold State.causeOff
  extract_lets t
  have ht : Keeps onLane s₀ t := h.withCauses
  exact Keeps.ite ht ht.withGraceFlt.put

theorem Keeps.leSet {n b : Nat} (h : Keeps onLane s₀ s) : Keeps onLane s₀ (s.leSet n b) := by
  unfold State.leSet
  exact h.put.when (fun k => k.causeOn)

theorem Keeps.unheld {n : Nat} (h : Keeps onLane s₀ s) : Keeps onLane s₀ (s.unheld n) := by
  unfold State.unheld
  exact h.withFlt

theorem Keeps.leClear {n b : Nat} (h : Keeps onLane s₀ s) : Keeps onLane s₀ (s.leClear n b) := by
  unfold State.leClear
  split
  · extract_lets +onlyGivenNames t
    have ht : Keeps onLane s₀ t := h.put.when (fun k => k.unheld)
    exact Keeps.ite ht ht.causeOff
  · exact h

theorem Keeps.sourceOff {n : Nat} (h : Keeps onLane s₀ s) : Keeps onLane s₀ (s.sourceOff n) := by
  unfold State.sourceOff
  exact h.withFlt.causeOff

theorem Keeps.leDown {n : Nat} (h : Keeps onLane s₀ s) : Keeps onLane s₀ (s.leDown n) := by
  unfold State.leDown
  exact Keeps.ite h.withFlt h.sourceOff

theorem Keeps.leBack {n : Nat} (h : Keeps onLane s₀ s) : Keeps onLane s₀ (s.leBack n) := by
  unfold State.leBack
  exact h.when (fun k => k.causeOn)

theorem Keeps.hostWrite {addr : Nat} {data : List Word} (h : Keeps onLane s₀ s) :
    Keeps onLane s₀ (s.hostWrite addr data) := by
  unfold State.hostWrite
  exact Keeps.ite h.emit h

theorem Keeps.postOne {addr : Nat} {data : List Word} (h : Keeps onLane s₀ s) : Keeps onLane s₀ (s.postOne addr data) := by
  unfold State.postOne
  split
  · exact h.emit
  · exact Keeps.ite h h.postOwed

theorem Keeps.postWrite {addr : Nat} {data : List Word} (h : Keeps onLane s₀ s) :
    Keeps onLane s₀ (s.postWrite addr data) := by
  unfold State.postWrite
  exact Keeps.ite h.postOne (h.each (fun _ k => k.postOne))

theorem Keeps.recordWrite {addr body tag : Nat} (h : Keeps onLane s₀ s) :
    Keeps onLane s₀ (s.recordWrite addr body tag) := by
  unfold State.recordWrite
  exact h.postWrite.postWrite

theorem Keeps.hostRead {addr len : Nat} (h : Keeps onLane s₀ s) : Keeps onLane s₀ (s.hostRead addr len) := by
  unfold State.hostRead
  exact Keeps.ite h.emit (h.each (fun _ k => k.emit))

theorem Keeps.msix {v : Nat} (h : Keeps onLane s₀ s) : Keeps onLane s₀ (s.msix v) := by
  unfold State.msix
  exact Keeps.ite (Keeps.ite h.put h.emit) h

theorem Keeps.msixUnmask (h : Keeps onLane s₀ s) : Keeps onLane s₀ s.msixUnmask := by
  unfold State.msixUnmask
  exact h.each (fun _ k => Keeps.ite k.put.msix k)

theorem Keeps.vectorServed {v : Nat} (h : Keeps onLane s₀ s) : Keeps onLane s₀ (s.vectorServed v) := by
  unfold State.vectorServed
  exact h.when (fun k => k.put)

theorem Keeps.writeShadow {q : Nat} (h : Keeps onLane s₀ s) : Keeps onLane s₀ (s.writeShadow q) := by
  unfold State.writeShadow
  split; exacts [h.emit, Keeps.ite h h.updRing]

theorem Keeps.shadowBack {q : Nat} (h : Keeps onLane s₀ s) : Keeps onLane s₀ (s.shadowBack q) := by
  unfold State.shadowBack
  exact Keeps.ite h.updRing.writeShadow h

theorem Keeps.cqSignal {q : Nat} {atOnce : Bool} (h : Keeps onLane s₀ s) : Keeps onLane s₀ (s.cqSignal q atOnce) := by
  unfold State.cqSignal
  exact Keeps.ite (Keeps.ite h.msix.updRing h.updRing) h

theorem Keeps.cqEntry {q body kind ring : Nat} (h : Keeps onLane s₀ s) :
    Keeps onLane s₀ (s.cqEntry q body kind ring) := by
  unfold State.cqEntry
  exact h.put.updRing.writeShadow.hostWrite.hostWrite

theorem Keeps.cqUnreserved {q : Nat} {bodies : List (Nat × Nat)} (h : Keeps onLane s₀ s) :
    Keeps onLane s₀ (s.cqUnreserved q bodies) := by
  unfold State.cqUnreserved
  split
  · exact h
  · exact Keeps.ite h.satCount.updRing ((h.each (fun _ k => k.cqEntry)).cqSignal)

theorem Keeps.eventEntry {bits addr src epoch : Nat} (h : Keeps onLane s₀ s) :
    Keeps onLane s₀ (s.eventEntry bits addr src epoch) := by
  unfold State.eventEntry
  exact Keeps.ite h.cqUnreserved h

theorem Keeps.evSummary {n : Nat} (h : Keeps onLane s₀ s) : Keeps onLane s₀ (s.evSummary n) := by
  unfold State.evSummary
  exact Keeps.ite h (h.put.when (fun k => k.msix))

theorem Keeps.readyEvent {a bits : Nat} (h : Keeps onLane s₀ s) : Keeps onLane s₀ (s.readyEvent a bits) := by
  unfold State.readyEvent
  exact h.setEvFrames

theorem Keeps.forwardEvents {a bits : Nat} (h : Keeps onLane s₀ s) : Keeps onLane s₀ (s.forwardEvents a bits) := by
  unfold State.forwardEvents
  split
  · exact h
  · split
    · split; exacts [h.evSummary, h.eventEntry]
    · exact Keeps.ite h.readyEvent h

theorem Keeps.raiseBits {a bits : Nat} (h : Keeps onLane s₀ s) : Keeps onLane s₀ (s.raiseBits a bits) := by
  unfold State.raiseBits
  exact h.setReg.forwardEvents

theorem Keeps.raise {a b : Nat} (h : Keeps onLane s₀ s) : Keeps onLane s₀ (s.raise a b) := by
  unfold State.raise
  exact h.raiseBits

theorem Keeps.soft {a : Nat} {f : State → State} (h : Keeps onLane s₀ s)
    (hf : ∀ {t}, Keeps onLane s₀ t → Keeps onLane s₀ (f t)) :
    Keeps onLane s₀ (s.soft a f) := by
  unfold State.soft
  exact Keeps.ite (hf h) h

theorem Keeps.updFlight {q idx : Nat} {g : Flight → Flight} (h : Keeps onLane s₀ s) :
    Keeps onLane s₀ (s.updFlight q idx g) := by
  unfold State.updFlight
  exact h.updRing

theorem Keeps.answerFlight {q idx status result src : Nat} (h : Keeps onLane s₀ s) :
    Keeps onLane s₀ (s.answerFlight q idx status result src) := by
  unfold State.answerFlight
  exact h.updFlight

theorem Keeps.ownFrame {ftype tag : Nat} {payload : List Byte} (h : Keeps onLane s₀ s) :
    Keeps onLane s₀ (s.ownFrame ftype tag payload) := by
  unfold State.ownFrame
  exact h.withWaitq

theorem Keeps.opDoneWith {o : Owner} {status result : Nat} {record : List Byte} (h : Keeps onLane s₀ s) :
    Keeps onLane s₀ (s.opDoneWith o status result record) := by
  unfold State.opDoneWith
  split; exacts [h, h.answerFlight, h.ownFrame]

theorem Keeps.opDone {o : Owner} {status result : Nat} (h : Keeps onLane s₀ s) :
    Keeps onLane s₀ (s.opDone o status result) := by
  unfold State.opDone
  exact h.opDoneWith

theorem Keeps.restartCompare {i : Nat} (h : Keeps onLane s₀ s) : Keeps onLane s₀ (s.restartCompare i) := by
  unfold State.restartCompare
  exact h.updRx

theorem Keeps.losAssert {i mvpp us : Nat} (h : Keeps onLane s₀ s) : Keeps onLane s₀ (s.losAssert i mvpp us) := by
  unfold State.losAssert
  exact Keeps.ite h.put.put.put.updRx.restartCompare.count.raise h

theorem Keeps.losClear {i mvpp us : Nat} (h : Keeps onLane s₀ s) : Keeps onLane s₀ (s.losClear i mvpp us) := by
  unfold State.losClear
  exact Keeps.ite (h.put.put.when (fun k => k.put)) h

theorem Keeps.cometDetect {i : Nat} (h : Keeps onLane s₀ s) : Keeps onLane s₀ (s.cometDetect i) := by
  unfold State.cometDetect
  exact Keeps.ite h.put h

theorem Keeps.cdrLock {i : Nat} {ppm100 : Int} (h : Keeps onLane s₀ s) : Keeps onLane s₀ (s.cdrLock i ppm100) := by
  unfold State.cdrLock
  exact Keeps.ite h.put.put.put.updRx.restartCompare h

theorem Keeps.cdrDrop {i : Nat} (h : Keeps onLane s₀ s) : Keeps onLane s₀ (s.cdrDrop i) := by
  unfold State.cdrDrop
  exact h.put.put.updRx

theorem Keeps.cdrUnlock {i : Nat} {ppm100 : Int} (h : Keeps onLane s₀ s) :
    Keeps onLane s₀ (s.cdrUnlock i ppm100) := by
  unfold State.cdrUnlock
  exact Keeps.ite h.cdrDrop.updRx.restartCompare.count.raise h

theorem Keeps.noteLimit {i b : Nat} {at' : Bool} (h : Keeps onLane s₀ s) : Keeps onLane s₀ (s.noteLimit i b at') := by
  unfold State.noteLimit
  exact h.updRx.put

theorem Keeps.adaptInt {i b : Nat} {f : Fld} {v : Int} (h : Keeps onLane s₀ s) :
    Keeps onLane s₀ (s.adaptInt i b f v) := by
  unfold State.adaptInt
  exact h.putInt.noteLimit

theorem Keeps.adaptNat {i b : Nat} {f : Fld} {hi : Nat} {v : Int} (h : Keeps onLane s₀ s) :
    Keeps onLane s₀ (s.adaptNat i b f hi v) := by
  unfold State.adaptNat
  exact h.put.noteLimit

theorem Keeps.adapt {i : Nat} {u : AdaptUpdate} (h : Keeps onLane s₀ s) : Keeps onLane s₀ (s.adapt i u) := by
  unfold State.adapt
  split
  · exact h
  · split
    · exact Keeps.ite h.adaptInt h
    · exact h.adaptInt
    · exact h.updRx
    · exact Keeps.ite h.adaptNat h
    · exact h.adaptNat

theorem Keeps.keepLimit {i b : Nat} {at' : Bool} (h : Keeps onLane s₀ s) : Keeps onLane s₀ (s.keepLimit i b at') := by
  unfold State.keepLimit
  exact h.noteLimit

theorem Keeps.coefWrite {i : Nat} {r : CoefReg} {v : Word} (h : Keeps onLane s₀ s) :
    Keeps onLane s₀ (s.coefWrite i r v) := by
  unfold State.coefWrite
  split
  · split
    · exact h.put.put.put.keepLimit.keepLimit
    · exact h.put.keepLimit
    · exact h.put.keepLimit
  · exact h

theorem Keeps.detSwitch {i : Nat} (h : Keeps onLane s₀ s) : Keeps onLane s₀ (s.detSwitch i) := by
  unfold State.detSwitch
  exact Keeps.ite h.updRx h

theorem Keeps.starveFreeze {i : Nat} (h : Keeps onLane s₀ s) : Keeps onLane s₀ (s.starveFreeze i) := by
  unfold State.starveFreeze
  exact h.put.count.raise

theorem Keeps.starveWindow {i minCount transitions : Nat} (h : Keeps onLane s₀ s) :
    Keeps onLane s₀ (s.starveWindow i minCount transitions) := by
  unfold State.starveWindow
  extract_lets +onlyGivenNames _ t
  have ht : Keeps onLane s₀ t := h.updRx
  split
  · exact ht.updRx
  · split
    · exact Keeps.ite ht.updRx.starveFreeze ht.updRx
    · exact Keeps.ite ht.updRx.put ht.updRx

theorem Keeps.rxSlip {i : Nat} (h : Keeps onLane s₀ s) : Keeps onLane s₀ (s.rxSlip i) := by
  unfold State.rxSlip
  exact h.updRx.count

theorem Keeps.histStart {i : Nat} (h : Keeps onLane s₀ s) : Keeps onLane s₀ (s.histStart i) := by
  unfold State.histStart
  exact h.put.put.each (fun _ k => k.setReg)

theorem Keeps.putOrFree {f : Fld} {x : Option Nat} (h : Keeps onLane s₀ s) : Keeps onLane s₀ (s.putOrFree f x) := by
  unfold State.putOrFree
  split; exacts [h.put, h.put.useFree]

theorem Keeps.useFree4 (h : Keeps onLane s₀ s) : Keeps onLane s₀ s.useFree4 := by
  unfold State.useFree4
  exact h.withFreeCtr

theorem Keeps.histDone {i : Nat} {bins : List Word} (h : Keeps onLane s₀ s) :
    Keeps onLane s₀ (s.histDone i bins) := by
  unfold State.histDone
  extract_lets +onlyGivenNames _ t u
  have ht : Keeps onLane s₀ t := (h.each (fun _ k => k.setReg)).put
  have hu : Keeps onLane s₀ u := ht.put
  exact Keeps.ite ((hu.each (fun _ k => k.putOrFree)).each (fun _ k => k.putOrFree)) hu

theorem Keeps.applyTaps {i : Nat} {taps : List Int} (h : Keeps onLane s₀ s) :
    Keeps onLane s₀ (s.applyTaps i taps) := by
  unfold State.applyTaps
  exact (h.each (fun _ k => k.putInt)).put

theorem Keeps.commit {i : Nat} (h : Keeps onLane s₀ s) : Keeps onLane s₀ (s.commit i) := by
  unfold State.commit
  exact Keeps.ite h.put h.put.updTx

theorem Keeps.commitDiscard {i : Nat} (h : Keeps onLane s₀ s) : Keeps onLane s₀ (s.commitDiscard i) := by
  unfold State.commitDiscard
  exact Keeps.ite h.put.put.updTx h

theorem Keeps.commitApply {i : Nat} (h : Keeps onLane s₀ s) : Keeps onLane s₀ (s.commitApply i) := by
  unfold State.commitApply
  split
  · exact Keeps.ite h.commitDiscard h.applyTaps.put.put.put.updTx
  · exact h

theorem Keeps.noteCells {i : Nat} (h : Keeps onLane s₀ s) : Keeps onLane s₀ (s.noteCells i) := by
  unfold State.noteCells
  exact h.put

theorem Keeps.cellReplace {i n : Nat} (h : Keeps onLane s₀ s) : Keeps onLane s₀ (s.cellReplace i n) := by
  unfold State.cellReplace
  split
  · exact h.put.noteCells
  · split
    · exact h
    · split; exacts [h.put.put.count.noteCells, h.put.leSet]

theorem Keeps.txBoundary {i : Nat} (h : Keeps onLane s₀ s) : Keeps onLane s₀ (s.txBoundary i) := by
  unfold State.txBoundary
  exact h.updTx

theorem Keeps.cellsReplace {i : Nat} (h : Keeps onLane s₀ s) : Keeps onLane s₀ (s.cellsReplace i) := by
  unfold State.cellsReplace
  exact h.updTx.each (fun _ k => k.cellReplace)

theorem Keeps.rxLog {i kind slice slot flags bytes : Nat} (h : Keeps onLane s₀ s) :
    Keeps onLane s₀ (s.rxLog i kind slice slot flags bytes) := by
  unfold State.rxLog
  exact h.setReg.setReg.setReg.setReg.updRx

theorem Keeps.calLog {kind lane cell bytes sensor : Nat} (h : Keeps false s₀ s) :
    Keeps false s₀ (s.calLog kind lane cell bytes sensor) := by
  unfold State.calLog
  exact h.setReg.setReg.setReg.setReg.withCalSeq

theorem Keeps.beginSwap {i c : Nat} (h : Keeps onLane s₀ s) : Keeps onLane s₀ (s.beginSwap i c) := by
  unfold State.beginSwap
  split <;> exact h.updRx

theorem Keeps.abandonCycles (h : Keeps onLane s₀ s) : Keeps onLane s₀ s.abandonCycles := by
  unfold State.abandonCycles
  exact h.mapRx

theorem Keeps.suspendBegin {was : Bool} (h : Keeps false s₀ s) : Keeps false s₀ (s.suspendBegin was) := by
  unfold State.suspendBegin
  exact Keeps.ite h h.abandonCycles.calLog

theorem Keeps.guardTrip (h : Keeps false s₀ s) : Keeps false s₀ s.guardTrip := by
  unfold State.guardTrip
  exact h.put.mapRegs.mapRx.mapTx.raise.causeOn.suspendBegin

theorem Keeps.noteReject {key : Nat} (h : Keeps false s₀ s) : Keeps false s₀ (s.noteReject key) := by
  unfold State.noteReject
  exact h.withRejects.when (fun k => k.guardTrip)

theorem Keeps.sliceReject {i n kind slot flags : Nat} {m : SliceMeas} (h : Keeps false s₀ s) :
    Keeps false s₀ (s.sliceReject i n kind slot flags m) := by
  unfold State.sliceReject
  extract_lets +onlyGivenNames _ t
  have ht : Keeps false s₀ t := h.put.count.raise.rxLog.updRx.noteReject
  exact Keeps.ite ht.updRx ht

theorem Keeps.loadSlice {i n : Nat} {m : SliceMeas} (h : Keeps onLane s₀ s) :
    Keeps onLane s₀ (s.loadSlice i n m) := by
  unfold State.loadSlice
  exact h.putInt.putInt.putInt.updRx

theorem Keeps.sliceAccept {i n : Nat} {m : SliceMeas} (h : Keeps onLane s₀ s) :
    Keeps onLane s₀ (s.sliceAccept i n m) := by
  unfold State.sliceAccept
  exact Keeps.ite h.loadSlice h.loadSlice.updRx.beginSwap

theorem Keeps.cycleDone {i : Nat} {c : CycleMeas} (h : Keeps false s₀ s) : Keeps false s₀ (s.cycleDone i c) := by
  unfold State.cycleDone
  split
  · exact Keeps.ite h.updRx.sliceAccept h.updRx.sliceReject
  · exact h

theorem Keeps.cycleStart {i : Nat} (h : Keeps onLane s₀ s) : Keeps onLane s₀ (s.cycleStart i) := by
  unfold State.cycleStart
  exact Keeps.ite h.updRx h

theorem Keeps.shadowDone {i : Nat} {sumEighths : Int} {over3 : Nat} (h : Keeps false s₀ s) :
    Keeps false s₀ (s.shadowDone i sumEighths over3) := by
  unfold State.shadowDone
  extract_lets +onlyGivenNames _
  split
  · split
    · exact h
    · split
      · exact h.updRx
      · exact Keeps.ite h.updRx h.updRx.sliceReject
  · exact h

theorem Keeps.calStrike {tx : Bool} {i : Nat} {waiting : Bool} (h : Keeps onLane s₀ s) :
    Keeps onLane s₀ (s.calStrike tx i waiting) := by
  unfold State.calStrike
  exact h.withCalReqs.each (fun _ k => k.opDone)

theorem Keeps.calFinished {tx : Bool} {i : Nat} (h : Keeps onLane s₀ s) : Keeps onLane s₀ (s.calFinished tx i) := by
  unfold State.calFinished
  exact h.calStrike

theorem Keeps.calGone {tx : Bool} {i : Nat} (h : Keeps onLane s₀ s) : Keeps onLane s₀ (s.calGone tx i) := by
  unfold State.calGone
  exact h.calStrike

theorem Keeps.calTimedOut {tx : Bool} {i : Nat} (h : Keeps onLane s₀ s) : Keeps onLane s₀ (s.calTimedOut tx i) := by
  unfold State.calTimedOut
  exact h.withCalReqs.each (fun _ k => k.opDone)

theorem Keeps.sweepStep {i : Nat} (h : Keeps onLane s₀ s) : Keeps onLane s₀ (s.sweepStep i) := by
  unfold State.sweepStep
  exact Keeps.ite h (h.updRx.when (fun k => k.put.calFinished))

theorem Keeps.holdEnd {i : Nat} (h : Keeps onLane s₀ s) : Keeps onLane s₀ (s.holdEnd i) := by
  unfold State.holdEnd
  exact Keeps.ite (Keeps.ite h.updRx h.updRx.causeOff) h

theorem Keeps.swapNow {i : Nat} {w : Swap} (h : Keeps onLane s₀ s) : Keeps onLane s₀ (s.swapNow i w) := by
  unfold State.swapNow
  exact h.put.put.put.updRx.count.rxLog.holdEnd.sweepStep

theorem Keeps.periodEnds {i : Nat} {syms : List (Fin 4)} (h : Keeps onLane s₀ s) :
    Keeps onLane s₀ (s.periodEnds i syms) := by
  unfold State.periodEnds
  exact h.updRx

theorem Keeps.swapWindow {i phase : Nat} {syms : List (Fin 4)} (h : Keeps onLane s₀ s) :
    Keeps onLane s₀ (s.swapWindow i phase syms) := by
  unfold State.swapWindow
  extract_lets +onlyGivenNames t
  have ht : Keeps onLane s₀ t := h.periodEnds
  split
  · split
    · exact ht
    · exact Keeps.ite (Keeps.ite ht.updRx ht.updRx.beginSwap) ht.swapNow
  · exact ht

theorem Keeps.sliceSettled {i : Nat} (h : Keeps onLane s₀ s) : Keeps onLane s₀ (s.sliceSettled i) := by
  unfold State.sliceSettled
  split; exacts [Keeps.ite h.put.updRx h, h]

/-- Where a slice is suspect, the spare that takes its place, or none. -/
def State.spareSteps (s : State) (i : Nat) : Option Nat → State
  | some c => (s.put (LRX.slice i c) 1).put (LRX.sliceSpares i) 1
  | none => ((s.put (LRX.sliceSpares i) 0).updRx i (fun r => { r with stopped := true })).leSet i 0

theorem State.sliceSuspect_eq (s : State) (i n : Nat) : s.sliceSuspect i n =
    (s.put (LRX.slice i n) 3).spareSteps i ((s.put (LRX.slice i n) 3).slicesIn i 2).head? := rfl

theorem Keeps.spareSteps {i : Nat} {c : Option Nat} (h : Keeps onLane s₀ s) : Keeps onLane s₀ (s.spareSteps i c) := by
  cases c with
  | none => exact h.put.updRx.leSet
  | some c => exact h.put.put

theorem Keeps.sliceSuspect {i n : Nat} (h : Keeps onLane s₀ s) : Keeps onLane s₀ (s.sliceSuspect i n) := by
  rw [State.sliceSuspect_eq]
  exact h.put.spareSteps

theorem Keeps.sliceFalls {i n : Nat} (h : Keeps onLane s₀ s) : Keeps onLane s₀ (s.sliceFalls i n) := by
  unfold State.sliceFalls
  exact Keeps.ite h.updRx.sliceSuspect.rxLog.raise.holdEnd h.updRx

theorem Keeps.sweepRxStart {i : Nat} (h : Keeps onLane s₀ s) : Keeps onLane s₀ (s.sweepRxStart i) := by
  unfold State.sweepRxStart
  exact Keeps.ite h.updRx.put.rxLog h

theorem Keeps.passSkip {i : Nat} (h : Keeps onLane s₀ s) : Keeps onLane s₀ (s.passSkip i) := by
  unfold State.passSkip
  extract_lets +onlyGivenNames t
  have ht : Keeps onLane s₀ t := Keeps.ite h.updTx h
  exact Keeps.ite ht.updTx ht

theorem Keeps.passBegin {i : Nat} (h : Keeps onLane s₀ s) : Keeps onLane s₀ (s.passBegin i) := by
  unfold State.passBegin
  exact h.updTx.passSkip

theorem Keeps.passEnd {i : Nat} (h : Keeps onLane s₀ s) : Keeps onLane s₀ (s.passEnd i) := by
  unfold State.passEnd
  exact h.updTx.put.calFinished

theorem Keeps.passSettle {i : Nat} (h : Keeps onLane s₀ s) : Keeps onLane s₀ (s.passSettle i) := by
  unfold State.passSettle
  extract_lets +onlyGivenNames t
  have ht : Keeps onLane s₀ t := h.passSkip
  split
  · split
    · extract_lets +onlyGivenNames t
      have ht : Keeps onLane s₀ t := Keeps.passBegin (Keeps.ite ht ht.put)
      exact Keeps.ite ht.passEnd ht
    · exact ht.passEnd
  · exact ht

theorem Keeps.passStart {i : Nat} (h : Keeps onLane s₀ s) : Keeps onLane s₀ (s.passStart i) := by
  unfold State.passStart
  exact Keeps.ite h.passBegin.passSettle h

theorem Keeps.passAsked {i : Nat} (h : Keeps onLane s₀ s) : Keeps onLane s₀ (s.passAsked i) := by
  unfold State.passAsked
  exact Keeps.ite (Keeps.ite h.updTx h.passStart) h

theorem Keeps.sweepTxStart {i : Nat} (h : Keeps onLane s₀ s) : Keeps onLane s₀ (s.sweepTxStart i) := by
  unfold State.sweepTxStart
  exact Keeps.ite (Keeps.ite h.put.updTx h.put.passStart) h

theorem Keeps.txReject {i n : Nat} {trim err100 : Int} (h : Keeps false s₀ s) :
    Keeps false s₀ (s.txReject i n trim err100) := by
  unfold State.txReject
  extract_lets +onlyGivenNames _ _ t
  have ht : Keeps false s₀ t := h.put.count.calLog.updTx.noteReject
  exact Keeps.ite ht.updTx ht

theorem Keeps.replicaResult {i : Nat} {trim err100 : Int} (h : Keeps false s₀ s) :
    Keeps false s₀ (s.replicaResult i trim err100) := by
  unfold State.replicaResult
  exact Keeps.ite (h.putInt.put.putInt.updTx.when (fun k => k.txBoundary)) h.txReject

theorem Keeps.cellResult {i n : Nat} {trim err100 : Int} (h : Keeps false s₀ s) :
    Keeps false s₀ (s.cellResult i n trim err100) := by
  unfold State.cellResult
  split
  · exact h.putInt.put.updTx
  · exact Keeps.ite h.txReject.updTx h.txReject

theorem Keeps.txMeasured {i : Nat} {el : TxElem} {trim err100 : Int} (h : Keeps false s₀ s) :
    Keeps false s₀ (s.txMeasured i el trim err100) := by
  unfold State.txMeasured
  split
  · exact h
  · split
    · split
      · exact h.passSettle
      · exact Keeps.ite h.replicaResult.updTx.passSettle h.replicaResult
    · exact Keeps.ite h.cellResult.passSettle h
    · exact Keeps.ite h.cellResult.passSettle h
    · exact h

theorem Keeps.cellLend {i : Nat} (h : Keeps onLane s₀ s) : Keeps onLane s₀ (s.cellLend i) := by
  unfold State.cellLend
  split
  · exact h
  · split; exacts [h.updTx, h.passSettle]

theorem Keeps.cellReturn {i : Nat} {trim err100 : Int} (h : Keeps false s₀ s) :
    Keeps false s₀ (s.cellReturn i trim err100) := by
  unfold State.cellReturn
  split
  · exact Keeps.ite h.updTx (Keeps.passSettle (Keeps.ite h.updTx h.updTx.cellResult))
  · exact h

theorem Keeps.cellFalls {i n : Nat} (h : Keeps false s₀ s) : Keeps false s₀ (s.cellFalls i n) := by
  unfold State.cellFalls
  extract_lets +onlyGivenNames t _ u
  have ht : Keeps false s₀ t := h.updTx.calLog
  have hu : Keeps false s₀ u := by
    unfold u
    split
    · exact Keeps.ite ht.updTx.put.put.count.noteCells.passSettle ht.updTx
    · exact ht.updTx
  exact hu.raise

theorem Keeps.replicaFalls {i : Nat} (h : Keeps false s₀ s) : Keeps false s₀ (s.replicaFalls i) := by
  unfold State.replicaFalls
  exact h.updTx.calLog.leSet.raise.when (fun k => k.passSettle)

theorem Keeps.suspectVerdict {x : CalElem} (h : Keeps false s₀ s) : Keeps false s₀ (s.suspectVerdict x) := by
  unfold State.suspectVerdict
  split
  · extract_lets +onlyGivenNames _
    split; exacts [Keeps.ite h.sliceFalls h.updRx, h]
  · extract_lets +onlyGivenNames _
    split; exacts [h, Keeps.ite h.updTx h.cellFalls]
  · extract_lets +onlyGivenNames _
    split; exacts [h, Keeps.ite h.updTx h.replicaFalls]

theorem Keeps.holdSwap {i : Nat} (h : Keeps onLane s₀ s) : Keeps onLane s₀ (s.holdSwap i) := by
  unfold State.holdSwap
  exact Keeps.ite (Keeps.calTimedOut (Keeps.ite h h.updRx.rxLog.raise.causeOn)) h

theorem Keeps.holdLimit {i : Nat} (h : Keeps onLane s₀ s) : Keeps onLane s₀ (s.holdLimit i) := by
  unfold State.holdLimit
  split
  · extract_lets +onlyGivenNames t u
    have ht : Keeps onLane s₀ t := h.holdSwap
    have hu : Keeps onLane s₀ u := Keeps.ite ht.calTimedOut ht
    exact Keeps.ite hu.calTimedOut hu
  · exact h

theorem Keeps.calBegin {c : CalReq} (h : Keeps onLane s₀ s) : Keeps onLane s₀ (s.calBegin c) := by
  unfold State.calBegin
  extract_lets +onlyGivenNames t u v
  have ht : Keeps onLane s₀ t := h.withCalReqs
  have hu : Keeps onLane s₀ u := ht.each (fun _ k => Keeps.ite k.passAsked k.sweepRxStart)
  have hv : Keeps onLane s₀ v := hu.each (fun _ k => k.when (fun j => j.calTimedOut))
  exact Keeps.ite hv.withCalReqs.opDone hv

theorem Keeps.suspendEnd {was : Bool} (h : Keeps false s₀ s) : Keeps false s₀ (s.suspendEnd was) := by
  unfold State.suspendEnd
  exact Keeps.ite (h.withCalReqs.calLog.each (fun _ k => k.calBegin)) h

theorem Keeps.calRequest {o : Owner} {tx : Bool} {lanes : Nat} (h : Keeps onLane s₀ s) :
    Keeps onLane s₀ (s.calRequest o tx lanes) := by
  unfold State.calRequest
  exact Keeps.ite h.withCalReqs h.calBegin

theorem Keeps.guardClear (h : Keeps false s₀ s) : Keeps false s₀ s.guardClear := by
  unfold State.guardClear
  exact Keeps.ite h.put.causeOff.suspendEnd h

theorem Keeps.refvCheck {inWindow : Bool} (h : Keeps false s₀ s) : Keeps false s₀ (s.refvCheck inWindow) := by
  unfold State.refvCheck
  exact Keeps.ite h h.put.raise.causeOn.suspendBegin

theorem Keeps.refvResume (h : Keeps false s₀ s) : Keeps false s₀ s.refvResume := by
  unfold State.refvResume
  exact Keeps.ite h.put.causeOff.suspendEnd h

theorem Keeps.tempReading {n : Nat} {v : BitVec 16} (h : Keeps false s₀ s) : Keeps false s₀ (s.tempReading n v) := by
  unfold State.tempReading
  extract_lets +onlyGivenNames t u v
  have ht : Keeps false s₀ t := h.put
  have hu : Keeps false s₀ u := Keeps.ite ht.causeOn ht.causeOff
  have hv : Keeps false s₀ v := Keeps.ite hu.causeOn hu.causeOff
  split
  · extract_lets +onlyGivenNames _
    split <;> exact Keeps.ite hv.withDwell hv
  · exact hv

theorem Keeps.tempTrigger {n : Nat} (h : Keeps false s₀ s) : Keeps false s₀ (s.tempTrigger n) := by
  unfold State.tempTrigger
  split
  · exact ((h.withDwell.put.each (fun _ k => k.sweepRxStart.sweepTxStart)).calLog).raise
  · exact h

theorem Keeps.sweepCut {i : Nat} (h : Keeps onLane s₀ s) : Keeps onLane s₀ (s.sweepCut i) := by
  unfold State.sweepCut
  exact Keeps.ite h h.updRx.put.calFinished

theorem Keeps.fgSlice {i n : Nat} {c : CycleMeas} (h : Keeps false s₀ s) : Keeps false s₀ (s.fgSlice i n c) := by
  unfold State.fgSlice
  extract_lets +onlyGivenNames _
  split
  · exact h
  · split
    · exact h.loadSlice.put
    · exact Keeps.ite h.sliceReject.updRx.put.rxLog.raise h.sliceReject.updRx

theorem Keeps.fgRxDone {i : Nat} {results : List FgResult} (h : Keeps false s₀ s) :
    Keeps false s₀ (s.fgRxDone i results) := by
  unfold State.fgRxDone
  extract_lets +onlyGivenNames t _ _ u v w x
  have ht : Keeps false s₀ t := h.each (fun _ k => by
    split; exacts [k.fgSlice, k])
  have hu : Keeps false s₀ u := ht.each (fun _ k => k.put.put)
  have hv : Keeps false s₀ v := by
    unfold v
    split; exacts [hu.put.each (fun _ k => k.put), hu]
  have hw : Keeps false s₀ w := hv.put
  have hx : Keeps false s₀ x := Keeps.ite hw.updRx.leSet hw
  exact hx.sweepCut.updRx.holdEnd

theorem Keeps.fgCell {i : Nat} {x : FgResult} (h : Keeps false s₀ s) : Keeps false s₀ (s.fgCell i x) := by
  unfold State.fgCell
  split
  · split
    · exact h
    · exact Keeps.ite h.cellResult.cellFalls.cellsReplace h.cellResult
  · split
    · exact h
    · exact Keeps.ite h.replicaResult.replicaFalls h.replicaResult
  · exact h

theorem Keeps.fgTxDone {i : Nat} {results : List FgResult} (h : Keeps false s₀ s) :
    Keeps false s₀ (s.fgTxDone i results) := by
  unfold State.fgTxDone
  exact ((((h.each (fun _ k => k.fgCell)).updTx).put).txBoundary).calFinished

theorem Keeps.noteEthLock {g sd : Nat} (h : Keeps onLane s₀ s) : Keeps onLane s₀ (s.noteEthLock g sd) := by
  unfold State.noteEthLock
  exact h.put

theorem Keeps.sendLine {i : Nat} {levels : List Nat} (h : Keeps onLane s₀ s) :
    Keeps onLane s₀ (s.sendLine i levels) := by
  unfold State.sendLine
  split; exacts [h, Keeps.ite h.emit h.updTx.emit]

theorem Keeps.sendOver {g sd k : Nat} {cw : List Nat} (h : Keeps onLane s₀ s) :
    Keeps onLane s₀ (s.sendOver g sd k cw) := by
  unfold State.sendOver
  exact h.each (fun _ k => by
    split; exacts [k.sendLine, k])

theorem Keeps.startFill {g sd k : Nat} (h : Keeps onLane s₀ s) : Keeps onLane s₀ (s.startFill g sd k) := by
  unfold State.startFill
  exact Keeps.ite h h.updSeg.sendOver.emit

theorem Keeps.ethDrop {g sd k : Nat} (h : Keeps onLane s₀ s) : Keeps onLane s₀ (s.ethDrop g sd k) := by
  unfold State.ethDrop
  exact Keeps.ite h.updSeg.noteEthLock.raise.startFill h.updSeg.noteEthLock.raise

theorem Keeps.cwDrop {g sd : Nat} (h : Keeps onLane s₀ s) : Keeps onLane s₀ (s.cwDrop g sd) := by
  unfold State.cwDrop
  exact Keeps.ite (Keeps.ite h.put.raise h) (h.each (fun _ k => k.ethDrop))

theorem Keeps.cwDropAll {sd : Nat} (h : Keeps onLane s₀ s) : Keeps onLane s₀ (s.cwDropAll sd) := by
  unfold State.cwDropAll
  exact h.each (fun _ k => k.cwDrop)

theorem Keeps.rxDown {i pwr : Nat} (h : Keeps onLane s₀ s) : Keeps onLane s₀ (s.rxDown i pwr) := by
  unfold State.rxDown
  exact Keeps.ite h.put.leDown.cdrDrop.updRx.cwDropAll.calGone h.put.updRx

theorem Keeps.txDown {i pwr : Nat} (h : Keeps onLane s₀ s) : Keeps onLane s₀ (s.txDown i pwr) := by
  unfold State.txDown
  exact h.put.leDown.updTx.calGone

theorem Keeps.settleEnd {i : Nat} (h : Keeps onLane s₀ s) : Keeps onLane s₀ (s.settleEnd i) := by
  unfold State.settleEnd
  extract_lets +onlyGivenNames _
  split
  · exact h
  · exact Keeps.ite (Keeps.ite h h.rxDown) (Keeps.txDown (Keeps.ite h h.rxDown))

theorem Keeps.settlePower (h : Keeps onLane s₀ s) : Keeps onLane s₀ s.settlePower := by
  unfold State.settlePower
  exact Keeps.ite (h.each (fun _ k => k.settleEnd)) h

theorem Keeps.settleCauses (h : Keeps onLane s₀ s) : Keeps onLane s₀ s.settleCauses := by
  unfold State.settleCauses
  exact h.each (fun _ k => by
    extract_lets +onlyGivenNames t
    have ht : Keeps onLane s₀ t := Keeps.ite k.leClear k
    exact Keeps.ite ht.leClear ht)

theorem Keeps.activate {fn : LaneFn} {i : Nat} (h : Keeps onLane s₀ s) : Keeps onLane s₀ (s.activate fn i) := by
  unfold State.activate
  split
  · split; exacts [Keeps.ite h h.updRx, Keeps.ite h h.updTx]
  · exact h

theorem Keeps.rxUp {i : Nat} (h : Keeps false s₀ s) : Keeps false s₀ (s.rxUp i) := by
  unfold State.rxUp
  extract_lets +onlyGivenNames t u
  have ht : Keeps false s₀ t := h.put.leBack.updRx
  have hu : Keeps false s₀ u := Keeps.ite ht.sweepRxStart ht
  exact Keeps.ite hu.suspectVerdict hu

theorem Keeps.txUp {i : Nat} (h : Keeps false s₀ s) : Keeps false s₀ (s.txUp i) := by
  unfold State.txUp
  extract_lets +onlyGivenNames t u v _ _ _
  have ht : Keeps false s₀ t := h.put.leBack.updTx
  have hu : Keeps false s₀ u := by
    unfold u
    split; exacts [Keeps.ite ht.updTx ht, ht]
  have hv : Keeps false s₀ v := Keeps.ite hu.sweepTxStart hu
  exact hv.updTx.each (fun _ k => k.suspectVerdict)

theorem Keeps.activated {fn : LaneFn} {i : Nat} (h : Keeps false s₀ s) : Keeps false s₀ (s.activated fn i) := by
  unfold State.activated
  split
  · split; exacts [Keeps.ite h.rxUp h, Keeps.ite h.txUp h]
  · exact h

theorem Keeps.noteRetry {e g : Nat} (h : Keeps onLane s₀ s) : Keeps onLane s₀ (s.noteRetry e g) := by
  unfold State.noteRetry
  exact h.put.put.put

theorem Keeps.drainGen (h : Keeps onLane s₀ s) : Keeps onLane s₀ s.drainGen := by
  unfold State.drainGen
  exact Keeps.ite h.put.raise h

theorem Keeps.drainCheck {e g : Nat} (h : Keeps onLane s₀ s) : Keeps onLane s₀ (s.drainCheck e g) := by
  unfold State.drainCheck
  exact Keeps.ite h.put.raise.drainGen h

theorem Keeps.endEngine {e g : Nat} (h : Keeps onLane s₀ s) : Keeps onLane s₀ (s.endEngine e g) := by
  unfold State.endEngine
  exact h.updEng.noteRetry.put.put.put.drainCheck

theorem Keeps.freeNext {e g : Nat} (h : Keeps onLane s₀ s) : Keeps onLane s₀ (s.freeNext e g) := by
  unfold State.freeNext
  exact h.put.useFree.put.useFree

theorem Keeps.endRetry {g : Nat} (h : Keeps onLane s₀ s) : Keeps onLane s₀ (s.endRetry g) := by
  unfold State.endRetry
  exact h.each (fun _ k => Keeps.ite k.endEngine.put.freeNext k.endEngine.put)

theorem Keeps.noteKey {sd slot g : Nat} (h : Keeps onLane s₀ s) : Keeps onLane s₀ (s.noteKey sd slot g) := by
  unfold State.noteKey
  exact h.each (fun _ k => k.put.put)

theorem Keeps.setKey {sd slot g : Nat} {k : Key} (h : Keeps onLane s₀ s) :
    Keeps onLane s₀ (s.setKey sd slot g k) := by
  unfold State.setKey
  exact h.setKeys.noteKey

theorem Keeps.bumpEpochs {g : Nat} (h : Keeps onLane s₀ s) : Keeps onLane s₀ (s.bumpEpochs g) := by
  unfold State.bumpEpochs
  exact h.each (fun _ k => by
    extract_lets +onlyGivenNames _
    split; exacts [k, Keeps.ite k.setKey k.setKey])

theorem Keeps.releaseEngine {e g : Nat} (h : Keeps onLane s₀ s) : Keeps onLane s₀ (s.releaseEngine e g) := by
  unfold State.releaseEngine
  exact h.updEng.put.put.put.put.put.put.noteRetry

theorem Keeps.zeroEngine {e : Nat} (h : Keeps onLane s₀ s) : Keeps onLane s₀ (s.zeroEngine e) := by
  unfold State.zeroEngine
  exact h.each (fun _ k => k.endEngine.put.put.put.put)

theorem Keeps.releaseRetry {g : Nat} (h : Keeps onLane s₀ s) : Keeps onLane s₀ (s.releaseRetry g) := by
  unfold State.releaseRetry
  exact h.releaseEngine.releaseEngine.bumpEpochs

theorem Keeps.abandonAt {e g f reason : Nat} (h : Keeps onLane s₀ s) :
    Keeps onLane s₀ (s.abandonAt e g f reason) := by
  unfold State.abandonAt
  extract_lets +onlyGivenNames _ _ _ _ t u v w x
  have ht : Keeps onLane s₀ t := h.updEng
  have hu : Keeps onLane s₀ u := Keeps.ite ht ht.put
  have hv : Keeps onLane s₀ v := Keeps.ite hu.put hu
  have hw : Keeps onLane s₀ w := hv.put.put.noteRetry.count
  have hx : Keeps onLane s₀ x := hw.put.put.put
  exact hx.raise.drainCheck

theorem Keeps.notePrt (h : Keeps onLane s₀ s) : Keeps onLane s₀ s.notePrt := by
  unfold State.notePrt
  exact h.put.put

theorem Keeps.entryWrite {i v : Nat} (h : Keeps onLane s₀ s) : Keeps onLane s₀ (s.entryWrite i v) := by
  unfold State.entryWrite
  exact Keeps.ite h.raise h.setReg.notePrt

theorem Keeps.markDrain {e g : Nat} (h : Keeps onLane s₀ s) : Keeps onLane s₀ (s.markDrain e g) := by
  unfold State.markDrain
  exact Keeps.ite h.put.put.put h.put

theorem Keeps.quenchEffect (h : Keeps onLane s₀ s) : Keeps onLane s₀ s.quenchEffect := by
  unfold State.quenchEffect
  extract_lets +onlyGivenNames t u v w
  have ht : Keeps onLane s₀ t := h.put
  have hu : Keeps onLane s₀ u := ht.each (fun _ k => k.markDrain)
  have hv : Keeps onLane s₀ v := hu.raise.raise
  have hw : Keeps onLane s₀ w := Keeps.ite hv.raise.raise hv
  exact hw.drainGen

theorem Keeps.quench {pid : Nat} (h : Keeps onLane s₀ s) : Keeps onLane s₀ (s.quench pid).1 := by
  unfold State.quench
  split
  · exact h.put.notePrt.quenchEffect
  · split
    · exact h.setReg.put.put.notePrt.quenchEffect
    · exact h.raise.put.put

theorem Keeps.unquench {pid : Nat} (h : Keeps onLane s₀ s) : Keeps onLane s₀ (s.unquench pid) := by
  unfold State.unquench
  split
  · exact Keeps.notePrt (Keeps.ite h.put.put.put h.put)
  · exact h

theorem Keeps.rquench {n lo hi : Nat} (h : Keeps onLane s₀ s) : Keeps onLane s₀ (s.rquench n lo hi) := by
  unfold State.rquench
  exact h.put.put.put.notePrt.quenchEffect

theorem Keeps.runquench {n : Nat} (h : Keeps onLane s₀ s) : Keeps onLane s₀ (s.runquench n) := by
  unfold State.runquench
  exact h.put.notePrt

theorem Keeps.applyQuench {op pid n lo hi : Nat} (h : Keeps onLane s₀ s) :
    Keeps onLane s₀ (s.applyQuench op pid n lo hi).1 := by
  unfold State.applyQuench
  split
  · exact h.quench
  · split
    · exact h.unquench
    · split; exacts [h.rquench, h.runquench]

theorem Keeps.drainForce {e g : Nat} (h : Keeps onLane s₀ s) : Keeps onLane s₀ (s.drainForce e g) := by
  unfold State.drainForce
  exact Keeps.ite h.updEng.raise.drainCheck h

theorem Keeps.startRequester {i : Nat} {cfg : Word} (h : Keeps onLane s₀ s) :
    Keeps onLane s₀ (s.startRequester i cfg) := by
  unfold State.startRequester
  exact h.put.updRx.emit

theorem Keeps.sendLt {i : Nat} (h : Keeps onLane s₀ s) : Keeps onLane s₀ (s.sendLt i) := by
  unfold State.sendLt
  split; exacts [h.when (fun k => k.emit), h]

theorem Keeps.ltRequester {i : Nat} (h : Keeps onLane s₀ s) : Keeps onLane s₀ (s.ltRequester i) := by
  unfold State.ltRequester
  split; exacts [h.when (fun k => k.startRequester), h]

theorem Keeps.ltFrames {i : Nat} (h : Keeps onLane s₀ s) : Keeps onLane s₀ (s.ltFrames i) := by
  unfold State.ltFrames
  exact h.when (fun k => k.ltRequester.sendLt)

theorem Keeps.trainFrame {g sd k n p : Nat} {release : Bool} (h : Keeps onLane s₀ s) :
    Keeps onLane s₀ (s.trainFrame g sd k n p release) := by
  unfold State.trainFrame
  exact h.when (fun k => k.emit)

theorem Keeps.requesterGo {i : Nat} (h : Keeps onLane s₀ s) : Keeps onLane s₀ (s.requesterGo i) := by
  unfold State.requesterGo
  split
  · exact h.ltRequester
  · split; exacts [h.when (fun k => k.startRequester), h]

theorem Keeps.framesStart {i : Nat} (h : Keeps onLane s₀ s) : Keeps onLane s₀ (s.framesStart i) := by
  unfold State.framesStart
  split
  · exact h.ltFrames
  · split; exacts [h.when (fun k => k.trainFrame), h]

theorem Keeps.bistRecord {r : BistRun} {k status verdict us detail : Nat} {ran : Bool} (h : Keeps onLane s₀ s) :
    Keeps onLane s₀ (s.bistRecord r k status verdict us detail ran) := by
  unfold State.bistRecord
  split
  · split; exacts [h.recordWrite, h.opDoneWith]
  · exact h

theorem Keeps.bistFree {r : BistRun} (h : Keeps onLane s₀ s) : Keeps onLane s₀ (s.bistFree r) := by
  unfold State.bistFree
  split
  · exact h.withBistHeld.when (fun k => k.framesStart.requesterGo)
  · exact h

theorem Keeps.updBist {f : BistRun → BistRun} (h : Keeps onLane s₀ s) : Keeps onLane s₀ (s.updBist f) := by
  unfold State.updBist
  split; exacts [h.withBist, h]

theorem Keeps.noteBist (h : Keeps onLane s₀ s) : Keeps onLane s₀ s.noteBist := by
  unfold State.noteBist
  split <;> exact h.put.put.put

theorem Keeps.bistEnd {status : Nat} {recorded : Bool} (h : Keeps onLane s₀ s) :
    Keeps onLane s₀ (s.bistEnd status recorded) := by
  unfold State.bistEnd
  split
  · extract_lets +onlyGivenNames _ t
    have ht : Keeps onLane s₀ t := h.bistFree.withBist.raise.noteBist
    split; exacts [Keeps.ite ht ht.opDone, ht.opDone]
  · exact h

theorem Keeps.bistCount {verdict : Nat} {ran : Bool} (h : Keeps onLane s₀ s) :
    Keeps onLane s₀ (s.bistCount verdict ran) := by
  unfold State.bistCount
  extract_lets +onlyGivenNames _ t u v w
  have ht : Keeps onLane s₀ t := h.updBist
  have hu : Keeps onLane s₀ u := Keeps.ite ht.count ht
  have hv : Keeps onLane s₀ v := Keeps.ite hu.count hu
  have hw : Keeps onLane s₀ w := Keeps.ite hv.raise hv
  exact Keeps.ite hw.raise hw

theorem Keeps.bistVerdict {verdict us detail : Nat} {ran : Bool} (h : Keeps onLane s₀ s) :
    Keeps onLane s₀ (s.bistVerdict verdict us detail ran) := by
  unfold State.bistVerdict
  extract_lets +onlyGivenNames t
  have ht : Keeps onLane s₀ t := h.bistCount
  split
  · extract_lets +onlyGivenNames t
    have ht : Keeps onLane s₀ t := ht.bistFree.bistRecord.updBist
    exact Keeps.ite ht.bistEnd ht.noteBist
  · exact ht

theorem Keeps.freeDetail {kind : Nat} (h : Keeps onLane s₀ s) : Keeps onLane s₀ (s.freeDetail kind).1 := by
  unfold State.freeDetail
  exact h.useFree.useFree.useFree

theorem Keeps.partialTest {r : BistRun} (h : Keeps onLane s₀ s) : Keeps onLane s₀ (s.partialTest r).1 := by
  unfold State.partialTest
  split
  · split; exacts [h.freeDetail.useFree, h]
  · exact h
  · exact h

theorem Keeps.bistCut {verdict : Nat} (h : Keeps onLane s₀ s) : Keeps onLane s₀ (s.bistCut verdict) := by
  unfold State.bistCut
  split; exacts [h.partialTest.bistVerdict, h]

theorem Keeps.bistAbort {status : Nat} (h : Keeps onLane s₀ s) : Keeps onLane s₀ (s.bistAbort status) := by
  unfold State.bistAbort
  split
  · split
    · exact h.bistEnd
    · exact (((h.partialTest.when (fun k => k.count)).bistRecord).each (fun _ k => k.bistRecord)).bistEnd
  · exact h

theorem Keeps.copyBreaks (h : Keeps onLane s₀ s) : Keeps onLane s₀ s.copyBreaks := by
  unfold State.copyBreaks
  split; exacts [Keeps.ite h.bistAbort h, h]

theorem Keeps.setMap {g sd : Nat} {m : List Nat} (h : Keeps onLane s₀ s) : Keeps onLane s₀ (s.setMap g sd m) := by
  unfold State.setMap
  exact h.setReg

theorem Keeps.markFailed {g sd p : Nat} {channel : Bool} (h : Keeps onLane s₀ s) :
    Keeps onLane s₀ (s.markFailed g sd p channel) := by
  unfold State.markFailed
  extract_lets +onlyGivenNames t
  have ht : Keeps onLane s₀ t := Keeps.ite h.put h.put
  exact Keeps.ite ht.updPort (ht.each (fun _ k => k.updPort))

theorem Keeps.clearChannel {g : Nat} {sides : List Nat} (h : Keeps onLane s₀ s) :
    Keeps onLane s₀ (s.clearChannel g sides) := by
  unfold State.clearChannel
  exact h.each (fun _ k => ((k.each (fun _ j => Keeps.ite j.put j)).each (fun _ j => Keeps.ite j.put j)).updPort)

theorem Keeps.settleSpares (h : Keeps onLane s₀ s) : Keeps onLane s₀ s.settleSpares := by
  unfold State.settleSpares
  exact h.each (fun _ k => by
    extract_lets +onlyGivenNames _
    split
    · exact k
    · split; exacts [k.put, by split <;> exact k.put])

theorem Keeps.trainLane {i rate : Nat} {c2 : Bool} (h : Keeps onLane s₀ s) :
    Keeps onLane s₀ (s.trainLane i rate c2) := by
  unfold State.trainLane
  exact h.put.commitDiscard.updRx.updTx

theorem Keeps.trainedLane {i : Nat} (h : Keeps onLane s₀ s) : Keeps onLane s₀ (s.trainedLane i) := by
  unfold State.trainedLane
  exact h.applyTaps.updRx.updTx

theorem Keeps.updLt {i : Nat} {f : LaneTrain → LaneTrain} (h : Keeps onLane s₀ s) :
    Keeps onLane s₀ (s.updLt i f) := by
  unfold State.updLt
  exact h.setLt

theorem Keeps.startLt {i g lane : Nat} (h : Keeps onLane s₀ s) : Keeps onLane s₀ (s.startLt i g lane) := by
  unfold State.startLt
  exact h.setLt.trainLane.ltFrames

theorem Keeps.endLt {i : Nat} (h : Keeps onLane s₀ s) : Keeps onLane s₀ (s.endLt i) := by
  unfold State.endLt
  exact h.setLt.updRx

theorem Keeps.endLts {g : Nat} (h : Keeps onLane s₀ s) : Keeps onLane s₀ (s.endLts g) := by
  unfold State.endLts
  exact h.each (fun _ k => k.endLt)

theorem Keeps.endJob {j : Job} {status : Nat} (h : Keeps onLane s₀ s) : Keeps onLane s₀ (s.endJob j status) := by
  unfold State.endJob
  exact Keeps.ite h.bistAbort h.opDone

theorem Keeps.endJobs {g status : Nat} (h : Keeps onLane s₀ s) : Keeps onLane s₀ (s.endJobs g status) := by
  unfold State.endJobs
  exact (h.endLts.updPort.each (fun _ k => k.endJob)).settleSpares

theorem Keeps.noteWidth {g : Nat} (h : Keeps onLane s₀ s) : Keeps onLane s₀ (s.noteWidth g) := by
  unfold State.noteWidth
  exact h.put

theorem Keeps.setSeg {g sd k st : Nat} (h : Keeps onLane s₀ s) : Keeps onLane s₀ (s.setSeg g sd k st) := by
  unfold State.setSeg
  exact h.put

theorem Keeps.trainFrames {g sd k : Nat} {release : Bool} (h : Keeps onLane s₀ s) :
    Keeps onLane s₀ (s.trainFrames g sd k release) := by
  unfold State.trainFrames
  exact h.each (fun _ k => k.trainFrame)

theorem Keeps.clearSeg {g sd k : Nat} {cfg : Word} (h : Keeps onLane s₀ s) :
    Keeps onLane s₀ (s.clearSeg g sd k cfg) := by
  unfold State.clearSeg
  exact h.updSeg.when (fun k => k.noteEthLock)

theorem Keeps.untrained {i : Nat} (h : Keeps onLane s₀ s) : Keeps onLane s₀ (s.untrained i) := by
  unfold State.untrained
  exact h.updRx

theorem Keeps.enterWait {g sd k : Nat} {cfg : Word} (h : Keeps onLane s₀ s) :
    Keeps onLane s₀ (s.enterWait g sd k cfg) := by
  unfold State.enterWait
  extract_lets +onlyGivenNames t u v
  have ht : Keeps onLane s₀ t := h.clearSeg
  have hu : Keeps onLane s₀ u := ht.each (fun _ k => Keeps.ite k.untrained k.trainLane)
  have hv : Keeps onLane s₀ v := hu.setSeg
  exact Keeps.ite hv hv.trainFrames

theorem Keeps.startWait {g sd k : Nat} (h : Keeps onLane s₀ s) : Keeps onLane s₀ (s.startWait g sd k) := by
  unfold State.startWait
  exact h.enterWait

theorem Keeps.startAn {g sd k : Nat} {brk : Bool} (h : Keeps onLane s₀ s) :
    Keeps onLane s₀ (s.startAn g sd k brk) := by
  unfold State.startAn
  exact (((h.each (fun _ k => k.commitDiscard)).clearSeg).updSeg).setSeg

theorem Keeps.startAttempt {g sd k : Nat} (h : Keeps onLane s₀ s) : Keeps onLane s₀ (s.startAttempt g sd k) := by
  unfold State.startAttempt
  exact Keeps.ite h.startAn h.startWait

theorem Keeps.enterEq {g sd k : Nat} (h : Keeps onLane s₀ s) : Keeps onLane s₀ (s.enterEq g sd k) := by
  unfold State.enterEq
  exact h.setSeg.each (fun _ k => k.when (fun j => j.startRequester))

theorem Keeps.enterBackoff {g sd k cause : Nat} (h : Keeps onLane s₀ s) :
    Keeps onLane s₀ (s.enterBackoff g sd k cause) := by
  unfold State.enterBackoff
  exact h.setSeg.put.put.raise

theorem Keeps.enterStopped {g sd k : Nat} (h : Keeps onLane s₀ s) : Keeps onLane s₀ (s.enterStopped g sd k) := by
  unfold State.enterStopped
  exact h.setSeg.raise

theorem Keeps.refusePeer {g sd k cause : Nat} (h : Keeps onLane s₀ s) :
    Keeps onLane s₀ (s.refusePeer g sd k cause) := by
  unfold State.refusePeer
  exact h.put.enterStopped

theorem Keeps.completeLanes {g sd k : Nat} (h : Keeps onLane s₀ s) : Keeps onLane s₀ (s.completeLanes g sd k) := by
  unfold State.completeLanes
  exact h.each (fun _ k => Keeps.ite k.trainedLane k.updRx)

theorem Keeps.movesDone {g sd k : Nat} (h : Keeps onLane s₀ s) : Keeps onLane s₀ (s.movesDone g sd k) := by
  unfold State.movesDone
  exact h.updPort.each (fun _ k => k.put.raise)

theorem Keeps.enterUp {g sd k : Nat} (h : Keeps onLane s₀ s) : Keeps onLane s₀ (s.enterUp g sd k) := by
  unfold State.enterUp
  exact h.setSeg.put.raise.movesDone

theorem Keeps.ethernetUp {g sd k : Nat} (h : Keeps onLane s₀ s) : Keeps onLane s₀ (s.ethernetUp g sd k) := by
  unfold State.ethernetUp
  exact h.completeLanes.enterUp.when (fun k => k.startFill)

theorem Keeps.release {g : Nat} (h : Keeps onLane s₀ s) : Keeps onLane s₀ (s.release g) := by
  unfold State.release
  exact h.completeLanes.completeLanes.trainFrames.trainFrames.enterUp.enterUp.releaseRetry

theorem Keeps.enterAlign {g sd : Nat} (h : Keeps onLane s₀ s) : Keeps onLane s₀ (s.enterAlign g sd) := by
  unfold State.enterAlign
  exact h.updSeg.setSeg.trainFrames

theorem Keeps.setWidth {g sd : Nat} {lanes : List Nat} (h : Keeps onLane s₀ s) :
    Keeps onLane s₀ (s.setWidth g sd lanes) := by
  unfold State.setWidth
  exact Keeps.ite h h.setMap.setMap.put.settleSpares

theorem Keeps.settleWidth {g sd : Nat} {lanes : List Nat} (h : Keeps onLane s₀ s) :
    Keeps onLane s₀ (s.settleWidth g sd lanes) := by
  unfold State.settleWidth
  exact Keeps.ite h.enterBackoff h.setWidth.enterAlign

theorem Keeps.enterHold {g sd : Nat} (h : Keeps onLane s₀ s) : Keeps onLane s₀ (s.enterHold g sd) := by
  unfold State.enterHold
  exact ((h.each (fun _ k => k.commitDiscard)).setSeg).trainFrames

/-! A row of the training state machine that holds is taken; where none holds, nothing changes. -/

theorem Keeps.ofSome {u : State} (h : Keeps onLane s₀ u) : ∀ t ∈ some u, Keeps onLane s₀ t := fun _ e => Option.some.inj e ▸ h

theorem Keeps.ofNone : ∀ t ∈ (none : Option State), Keeps onLane s₀ t := fun _ e => absurd e (by simp)

theorem Keeps.alignNext {g sd : Nat} (h : Keeps onLane s₀ s) : ∀ t ∈ s.alignNext g sd, Keeps onLane s₀ t := by
  unfold State.alignNext
  extract_lets l
  split
  · exact h.refusePeer.ofSome
  · split
    · exact h.refusePeer.ofSome
    · split
      · exact h.enterBackoff.ofSome
      · split
        · exact h.enterBackoff.ofSome
        · split
          · exact h.enterHold.ofSome
          · exact Keeps.ofNone

theorem Keeps.eqNext {g sd k : Nat} (h : Keeps onLane s₀ s) : ∀ t ∈ s.eqNext g sd k, Keeps onLane s₀ t := by
  unfold State.eqNext
  extract_lets ps
  split
  · exact h.enterBackoff.ofSome
  · split
    · exact (Keeps.ite h.settleWidth h.ethernetUp).ofSome
    · exact Keeps.ofNone

theorem Keeps.waitNext {g sd k : Nat} (h : Keeps onLane s₀ s) : ∀ t ∈ s.waitNext g sd k, Keeps onLane s₀ t := by
  unfold State.waitNext
  extract_lets ps
  split
  · exact Keeps.ofNone
  · split
    · split
      · exact h.ethernetUp.ofSome
      · exact Keeps.ofNone
    · split
      · exact h.enterEq.ofSome
      · exact Keeps.ofNone

theorem Keeps.anNext {g k : Nat} (h : Keeps onLane s₀ s) : ∀ t ∈ s.anNext g k, Keeps onLane s₀ t := by
  unfold State.anNext
  split
  · exact h.enterWait.enterWait.ofSome
  · exact Keeps.ofNone

theorem Keeps.segNext {g sd k : Nat} (h : Keeps onLane s₀ s) : ∀ t ∈ s.segNext g sd k, Keeps onLane s₀ t := by
  unfold State.segNext
  split
  · split
    · exact h.startAttempt.ofSome
    · exact Keeps.ofNone
  · exact h.anNext
  · exact h.waitNext
  · exact h.eqNext
  · exact h.alignNext
  · split
    · exact h.release.ofSome
    · exact Keeps.ofNone
  · split
    · exact h.enterStopped.ofSome
    · exact Keeps.ofNone
  · exact Keeps.ofNone

theorem Keeps.segRun {n g sd k : Nat} (h : Keeps onLane s₀ s) : Keeps onLane s₀ (State.segRun n s g sd k) := by
  induction n generalizing s with
  | zero => exact h
  | succ n ih =>
    unfold State.segRun
    split
    · rename_i t he
      exact ih (h.segNext t he)
    · exact h

theorem Keeps.segEval {g sd k : Nat} (h : Keeps onLane s₀ s) : Keeps onLane s₀ (s.segEval g sd k) := by
  unfold State.segEval
  exact h.segRun.settlePower.settleCauses

theorem Keeps.lpClear {g : Nat} (h : Keeps onLane s₀ s) : Keeps onLane s₀ (s.lpClear g) := by
  unfold State.lpClear
  exact h.put.updPort.each (fun _ k => k.updTx)

theorem Keeps.lossOther {g sd k : Nat} (h : Keeps onLane s₀ s) : Keeps onLane s₀ (s.lossOther g sd k) := by
  unfold State.lossOther
  extract_lets +onlyGivenNames _
  split
  · exact Keeps.ite h.enterHold h
  · split
    · exact Keeps.ite h.startAn h
    · exact Keeps.ite h.startFill h

theorem Keeps.dropMaps {g : Nat} (h : Keeps onLane s₀ s) : Keeps onLane s₀ (s.dropMaps g) := by
  unfold State.dropMaps
  exact h.each (fun _ k => k.updSeg)

theorem Keeps.segEnds {g sd : Nat} (h : Keeps onLane s₀ s) : Keeps onLane s₀ (s.segEnds g sd) := by
  unfold State.segEnds
  split
  · exact (((((h.when (fun k => k.bistAbort)).endRetry).endJobs).dropMaps).settleSpares).lpClear
  · exact h

theorem Keeps.segLost {g sd k cause : Nat} (h : Keeps onLane s₀ s) : Keeps onLane s₀ (s.segLost g sd k cause) := by
  unfold State.segLost
  exact Keeps.ite h.put.raise.segEnds.startAttempt.lossOther.segEval h

theorem Keeps.segFinal {g sd k : Nat} (h : Keeps onLane s₀ s) : Keeps onLane s₀ (s.segFinal g sd k) := by
  unfold State.segFinal
  exact h.put.raise.setSeg.lossOther.settlePower.settleCauses

theorem Keeps.fecTimeout {g sd k : Nat} (h : Keeps onLane s₀ s) : Keeps onLane s₀ (s.fecTimeout g sd k) := by
  unfold State.fecTimeout
  split
  · extract_lets +onlyGivenNames t u
    have ht : Keeps onLane s₀ t := h.segEnds.enterBackoff
    have hu : Keeps onLane s₀ u := Keeps.ite (Keeps.ite ht.enterHold ht) ht.lossOther
    exact hu.segEval
  · exact h

theorem Keeps.portDisable {g : Nat} (h : Keeps onLane s₀ s) : Keeps onLane s₀ (s.portDisable g) := by
  unfold State.portDisable
  split
  · extract_lets +onlyGivenNames t u v w x y
    have ht : Keeps onLane s₀ t := h.when (fun k => k.bistAbort)
    have hu : Keeps onLane s₀ u := ht.each (fun _ k => k.setSeg.setSeg.updSeg.updSeg)
    have hv : Keeps onLane s₀ v := hu.endEngine.endEngine.endJobs
    have hw : Keeps onLane s₀ w := hv.put.put.lpClear.updPort
    have hx : Keeps onLane s₀ x := hw.clearChannel.put
    have hy : Keeps onLane s₀ y := hx.put.put
    exact hy.settleSpares.settlePower.settleCauses
  · exact h

theorem Keeps.portStart {g : Nat} (h : Keeps onLane s₀ s) : Keeps onLane s₀ (s.portStart g) := by
  unfold State.portStart
  exact h.foldl (fun _ k => k.segEval.segEval)

theorem Keeps.dropUnreached {g : Nat} (h : Keeps onLane s₀ s) : Keeps onLane s₀ (s.dropUnreached g) := by
  unfold State.dropUnreached
  exact h.each (fun _ k => Keeps.ite k k.setMap)

theorem Keeps.portEnable {g : Nat} (h : Keeps false s₀ s) : Keeps false s₀ (s.portEnable g) := by
  unfold State.portEnable
  split
  · exact h
  · split
    · exact h.pinsBack.dropUnreached.put.noteWidth.settleSpares.portStart.settlePower
    · exact h.raise

theorem Keeps.restart {g sd : Nat} (h : Keeps onLane s₀ s) : Keeps onLane s₀ (s.restart g sd) := by
  unfold State.restart
  exact Keeps.ite h.raise (h.each (fun _ k => Keeps.ite k.setSeg.put.segEval k))

theorem Keeps.updHead {g : Nat} {f : Job → Job} (h : Keeps onLane s₀ s) : Keeps onLane s₀ (s.updHead g f) := by
  unfold State.updHead
  exact h.updPort

theorem Keeps.dropHead {g : Nat} (h : Keeps onLane s₀ s) : Keeps onLane s₀ (s.dropHead g) := by
  unfold State.dropHead
  exact h.updPort

theorem Keeps.finishHead {g status : Nat} (h : Keeps onLane s₀ s) : Keeps onLane s₀ (s.finishHead g status) := by
  unfold State.finishHead
  split; exacts [h.dropHead.endJob.settleSpares, h]

theorem Keeps.pushJob {g : Nat} {j : Job} (h : Keeps onLane s₀ s) : Keeps onLane s₀ (s.pushJob g j) := by
  unfold State.pushJob
  exact h.updPort

theorem Keeps.pushFront {g : Nat} {j : Job} (h : Keeps onLane s₀ s) : Keeps onLane s₀ (s.pushFront g j) := by
  unfold State.pushFront
  exact h.updPort

theorem Keeps.bring {g : Nat} {p : Job → Bool} (h : Keeps onLane s₀ s) : Keeps onLane s₀ (s.bring g p) := by
  unfold State.bring
  exact h.updPort

theorem Keeps.rank {g : Nat} (h : Keeps onLane s₀ s) : Keeps onLane s₀ (s.rank g) := by
  unfold State.rank
  exact h.updPort

theorem Keeps.queueLanemap {g sd word : Nat} (h : Keeps onLane s₀ s) :
    Keeps onLane s₀ (s.queueLanemap g sd word) := by
  unfold State.queueLanemap
  exact h.updEng

theorem Keeps.sendPropose {g : Nat} {c : Change} {p : Part} (h : Keeps onLane s₀ s) :
    Keeps onLane s₀ (s.sendPropose g c p) := by
  unfold State.sendPropose
  exact h.queueLanemap

theorem Keeps.beginChange {g : Nat} {kind : ChangeKind} {w : Nat} {maps : List (Nat × List Nat)}
    (h : Keeps onLane s₀ s) :
    Keeps onLane s₀ (s.beginChange g kind w maps) := by
  unfold State.beginChange
  extract_lets +onlyGivenNames _ _ t u
  have ht : Keeps onLane s₀ t := h.updPort
  have hu : Keeps onLane s₀ u := ht.each (fun _ k => k.updSeg)
  exact Keeps.ite (hu.each (fun _ k => k.sendPropose)) hu

theorem Keeps.stopLanes {g sd : Nat} {ex : List Nat} (h : Keeps onLane s₀ s) :
    Keeps onLane s₀ (s.stopLanes g sd ex) := by
  unfold State.stopLanes
  exact h.updSeg.updPort

theorem Keeps.retire {g sd p : Nat} {soft : Bool} (h : Keeps onLane s₀ s) :
    Keeps onLane s₀ (s.retire g sd p soft) := by
  unfold State.retire
  exact Keeps.ite h.markFailed h.markFailed.withIsolated

theorem Keeps.portEnds {g sd : Nat} (h : Keeps onLane s₀ s) : Keeps onLane s₀ (s.portEnds g sd) := by
  unfold State.portEnds
  exact h.segLost

theorem Keeps.maintFails {sd p : Nat} (h : Keeps onLane s₀ s) : Keeps onLane s₀ (s.maintFails sd p) := by
  unfold State.maintFails
  exact h.each (fun _ k => by
    extract_lets +onlyGivenNames _
    split
    · extract_lets +onlyGivenNames t u
      have ht : Keeps onLane s₀ t := k.bring.endLt.endLt
      have hu : Keeps onLane s₀ u := ht.withBistHeld
      exact Keeps.ite hu.dropHead.settleSpares.bistCut hu.finishHead
    · exact k)

theorem Keeps.leftAlready {g : Nat} {j : Job} (h : Keeps onLane s₀ s) : Keeps onLane s₀ (s.leftAlready g j) := by
  unfold State.leftAlready
  exact h.retire.finishHead.maintFails

theorem Keeps.startNarrow {g : Nat} {j : Job} (h : Keeps onLane s₀ s) : Keeps onLane s₀ (s.startNarrow g j) := by
  unfold State.startNarrow
  extract_lets +onlyGivenNames _ _ _ _ _
  split
  · exact h.leftAlready
  · split
    · exact h
    · split
      · exact Keeps.portEnds (Keeps.ite h.retire h)
      · split
        · exact h.updHead.beginChange
        · exact Keeps.stopLanes (Keeps.updHead (Keeps.ite h.retire h))

theorem Keeps.unhold {j : Job} (h : Keeps onLane s₀ s) : Keeps onLane s₀ (s.unhold j) := by
  unfold State.unhold
  exact h.withBistHeld.updRx.updTx

theorem Keeps.giveLane {g : Nat} {j : Job} (h : Keeps onLane s₀ s) : Keeps onLane s₀ (s.giveLane g j) := by
  unfold State.giveLane
  extract_lets +onlyGivenNames _ t
  have ht : Keeps onLane s₀ t := h.unhold
  split
  · exact ht.endLt.dropHead.settleSpares
  · exact Keeps.ite ht.updHead.startLt ht.updHead

theorem Keeps.leaveLane {g : Nat} {j : Job} (h : Keeps onLane s₀ s) : Keeps onLane s₀ (s.leaveLane g j) := by
  unfold State.leaveLane
  exact Keeps.ite h.unhold.updHead h.unhold.endLt.endLt.dropHead.settleSpares

theorem Keeps.yieldWith {g status : Nat} (h : Keeps onLane s₀ s) : Keeps onLane s₀ (s.yieldWith g status) := by
  unfold State.yieldWith
  split; exacts [h.bring.endJob.giveLane.rank, h]

theorem Keeps.leaveWith {g status : Nat} (h : Keeps onLane s₀ s) : Keeps onLane s₀ (s.leaveWith g status) := by
  unfold State.leaveWith
  split; exacts [h.bring.endJob.leaveLane.rank, h]

theorem Keeps.preempt {g : Nat} (h : Keeps onLane s₀ s) : Keeps onLane s₀ (s.preempt g) := by
  unfold State.preempt
  exact h.yieldWith

theorem Keeps.moveMap {g sd k lane p : Nat} (h : Keeps onLane s₀ s) : Keeps onLane s₀ (s.moveMap g sd k lane p) := by
  unfold State.moveMap
  exact h.setMap.settleSpares.updPort

theorem Keeps.moveRetrain {g sd k lane p : Nat} (h : Keeps onLane s₀ s) :
    Keeps onLane s₀ (s.moveRetrain g sd k lane p) := by
  unfold State.moveRetrain
  exact h.moveMap.segLost

theorem Keeps.moveTo {g home p : Nat} {j : Job} (h : Keeps onLane s₀ s) : Keeps onLane s₀ (s.moveTo g home p j) := by
  unfold State.moveTo
  split
  · exact h.retire.finishHead.moveRetrain
  · exact h.updHead.startLt.settleSpares.settlePower

theorem Keeps.moveNowhere {g home : Nat} {j : Job} (h : Keeps onLane s₀ s) :
    Keeps onLane s₀ (s.moveNowhere g home j) := by
  unfold State.moveNowhere
  exact Keeps.ite h.updHead h.retire.finishHead.segFinal

theorem Keeps.beginMove {g sd lane p : Nat} (h : Keeps onLane s₀ s) : Keeps onLane s₀ (s.beginMove g sd lane p) := by
  unfold State.beginMove
  exact h.beginChange

theorem Keeps.yieldSpare {g : Nat} {sides : List Nat} {d : State} (h : Keeps onLane s₀ s) (hd : Keeps onLane s₀ d) :
    Keeps onLane s₀ ((s.yieldSpare g sides).getD d) := by
  unfold State.yieldSpare
  split
  · exact h
  · split
    · exact h.preempt
    · split
      · exact h.bistAbort.settleSpares
      · exact hd

theorem Keeps.startMove {g : Nat} {j : Job} (h : Keeps onLane s₀ s) : Keeps onLane s₀ (s.startMove g j) := by
  unfold State.startMove
  split
  · exact h.finishHead
  · split
    · exact Keeps.ite h.leftAlready h.updHead.beginMove
    · split
      · exact (h.when fun k => k.retire).finishHead
      · split
        · exact h.moveTo
        · exact Keeps.ite (h.yieldSpare h.moveNowhere) h.finishHead

theorem Keeps.trainAdded {g sd lane : Nat} (h : Keeps onLane s₀ s) : Keeps onLane s₀ (s.trainAdded g sd lane) := by
  unfold State.trainAdded
  split; exacts [h, h.startLt.settleSpares, h]

theorem Keeps.endLtsFrom {g low : Nat} (h : Keeps onLane s₀ s) : Keeps onLane s₀ (s.endLtsFrom g low) := by
  unfold State.endLtsFrom
  exact h.each (fun _ k => Keeps.ite k k.endLt)

theorem Keeps.endSpareLts {g : Nat} (h : Keeps onLane s₀ s) : Keeps onLane s₀ (s.endSpareLts g) := by
  unfold State.endSpareLts
  exact h.endLtsFrom

theorem Keeps.widenEnds {g : Nat} (h : Keeps onLane s₀ s) : Keeps onLane s₀ (s.widenEnds g) := by
  unfold State.widenEnds
  exact h.put.endSpareLts.finishHead

theorem Keeps.startWiden {g : Nat} {j : Job} (h : Keeps onLane s₀ s) : Keeps onLane s₀ (s.startWiden g j) := by
  unfold State.startWiden
  extract_lets w t u
  have ht : Keeps onLane s₀ t := h.updHead.endLtsFrom.settleSpares
  have hu : Keeps onLane s₀ u := ht.each fun _ k => k.trainAdded
  split
  · exact Keeps.ite hu.widenEnds hu.settlePower
  · exact Keeps.ite (h.yieldSpare h.widenEnds) h.widenEnds

theorem Keeps.startMaintenance {g : Nat} {j : Job} (h : Keeps onLane s₀ s) :
    Keeps onLane s₀ (s.startMaintenance g j) := by
  unfold State.startMaintenance
  extract_lets +onlyGivenNames t
  have ht : Keeps onLane s₀ t := Keeps.ite h.dropHead.bistVerdict h.finishHead
  split
  · split
    · exact ht
    · exact Keeps.ite h h.updHead.startLt.settleSpares.settlePower
  · exact ht

theorem Keeps.startReturn {g : Nat} {j : Job} (h : Keeps onLane s₀ s) : Keeps onLane s₀ (s.startReturn g j) := by
  unfold State.startReturn
  exact h.updHead.startLt.settlePower

theorem Keeps.trainRestored {g i : Nat} {lane : Option Nat} (h : Keeps onLane s₀ s) :
    Keeps onLane s₀ (s.trainRestored g i lane) := by
  unfold State.trainRestored
  split; exacts [h.startLt, h.startLt.updLt]

theorem Keeps.startRestore {g : Nat} {j : Job} (h : Keeps onLane s₀ s) : Keeps onLane s₀ (s.startRestore g j) := by
  unfold State.startRestore
  extract_lets +onlyGivenNames _ _ t _
  have ht : Keeps onLane s₀ t := h.clearChannel.settleSpares.updHead
  exact (ht.each (fun _ k => Keeps.ite k.trainRestored.settleSpares k)).settlePower

theorem Keeps.trainAsked {g : Nat} {j : Job} (h : Keeps onLane s₀ s) : Keeps onLane s₀ (s.trainAsked g j) := by
  unfold State.trainAsked
  extract_lets +onlyGivenNames t
  have ht : Keeps onLane s₀ t := h.each (fun _ k => k.trainAdded)
  exact Keeps.ite ht.finishHead.endSpareLts ht.settlePower

theorem Keeps.startAsked {g : Nat} {j : Job} (h : Keeps onLane s₀ s) : Keeps onLane s₀ (s.startAsked g j) := by
  unfold State.startAsked
  exact Keeps.ite h.updHead.trainAsked h.finishHead

theorem Keeps.startTask {g : Nat} {j : Job} (h : Keeps onLane s₀ s) : Keeps onLane s₀ (s.startTask g j) := by
  unfold State.startTask
  split
  · exact h.startMove
  · exact h.startNarrow
  · exact h.startWiden
  · exact h.startMaintenance
  · exact h.startMaintenance
  · exact h.startMaintenance
  · exact h.startReturn
  · exact h.startRestore
  · exact h.startAsked

theorem Keeps.beginAsked {g : Nat} {j : Job} (h : Keeps onLane s₀ s) : Keeps onLane s₀ (s.beginAsked g j) := by
  unfold State.beginAsked
  extract_lets +onlyGivenNames _ _ _ t
  have ht : Keeps onLane s₀ t := h.updHead
  split
  · exact ht.beginChange
  · exact Keeps.ite ht.beginChange ht.beginChange

theorem Keeps.jobTrained {g : Nat} {j : Job} (h : Keeps onLane s₀ s) : ∀ t ∈ s.jobTrained g j, Keeps onLane s₀ t := by
  unfold State.jobTrained
  split
  · split
    · exact h.widenEnds.ofSome
    · split
      · exact h.startWiden.ofSome
      · split
        · exact h.updHead.beginChange.ofSome
        · exact Keeps.ofNone
  · split
    · exact h.updHead.ofSome
    · exact Keeps.ofNone
  · split
    · exact h.trainAsked.ofSome
    · split
      · exact h.beginAsked.ofSome
      · exact Keeps.ofNone
  · split
    · exact h.updHead.beginMove.ofSome
    · split
      · exact h.updHead.ofSome
      · exact Keeps.ofNone

theorem Keeps.jobNext {g : Nat} (h : Keeps onLane s₀ s) : ∀ t ∈ s.jobNext g, Keeps onLane s₀ t := by
  unfold State.jobNext
  split
  · exact Keeps.ofNone
  · split
    · exact Keeps.ofNone
    · split
      · extract_lets u
        split
        · split
          · exact Keeps.ofNone
          · exact h.startTask.ofSome
        · exact h.startTask.ofSome
      · split
        · exact h.jobTrained
        · split
          · exact h.updHead.beginMove.ofSome
          · exact Keeps.ofNone

theorem Keeps.jobRun {n g : Nat} (h : Keeps onLane s₀ s) : Keeps onLane s₀ (State.jobRun n s g) := by
  induction n generalizing s with
  | zero => exact h
  | succ n ih =>
    unfold State.jobRun
    split
    · rename_i t he
      exact ih (h.jobNext t he)
    · exact h

theorem Keeps.erasedMoves {g : Nat} (h : Keeps onLane s₀ s) : Keeps onLane s₀ (s.erasedMoves g) := by
  unfold State.erasedMoves
  exact h.each (fun _ k => k.pushFront)

theorem Keeps.oweLater {g : Nat} (h : Keeps onLane s₀ s) : Keeps onLane s₀ (s.oweLater g) := by
  unfold State.oweLater
  split
  · exact Keeps.ite h h.updPort
  · exact Keeps.ite ((h.when (fun k => k.put)).pushJob) h

theorem Keeps.jobsRun (h : Keeps onLane s₀ s) : Keeps onLane s₀ s.jobsRun := by
  unfold State.jobsRun
  exact (h.settleSpares.each (fun _ k => k.oweLater.erasedMoves.rank.jobRun)).settlePower

theorem Keeps.retireHome {g : Nat} {j : Job} (h : Keeps onLane s₀ s) : Keeps onLane s₀ (s.retireHome g j) := by
  unfold State.retireHome
  exact Keeps.ite h.retire h

theorem Keeps.dropMoves {g : Nat} (h : Keeps onLane s₀ s) : Keeps onLane s₀ (s.dropMoves g) := by
  unfold State.dropMoves
  exact ((h.each (fun _ k => k.updLt)).updPort).each (fun _ k => k.endJob)

theorem Keeps.oweWiden {g : Nat} {j : Job} (h : Keeps onLane s₀ s) : Keeps onLane s₀ (s.oweWiden g j) := by
  unfold State.oweWiden
  split
  · exact h
  · exact Keeps.ite h.updPort.put.pushFront h.updPort

theorem Keeps.endCycles {i : Nat} (h : Keeps onLane s₀ s) : Keeps onLane s₀ (s.endCycles i) := by
  unfold State.endCycles
  exact h.updRx.updTx

theorem Keeps.onSpare {g : Nat} {j : Job} (h : Keeps onLane s₀ s) : Keeps onLane s₀ (s.onSpare g j) := by
  unfold State.onSpare
  extract_lets +onlyGivenNames _
  split
  · exact h.startReturn
  · exact h.startReturn
  · exact h.withBistHeld.updHead.updRx.updTx
  · exact h.withBistHeld.endCycles.updHead.updBist
  · exact h

theorem Keeps.headChanged {g : Nat} (h : Keeps onLane s₀ s) : Keeps onLane s₀ (s.headChanged g) := by
  unfold State.headChanged
  split
  · exact h
  · split
    · exact h.retireHome.finishHead
    · extract_lets +onlyGivenNames t
      have ht : Keeps onLane s₀ t := h.retireHome.finishHead.dropMoves.oweWiden
      exact Keeps.ite ht ht.endSpareLts.settleSpares
    · exact h.put.endSpareLts.finishHead
    · exact h.finishHead.endSpareLts
    · split
      · exact h.onSpare
      · exact Keeps.ite h.dropHead.settleSpares.bistVerdict h.finishHead

theorem Keeps.jobChanged {g : Nat} (h : Keeps onLane s₀ s) : Keeps onLane s₀ (s.jobChanged g) := by
  unfold State.jobChanged
  exact Keeps.ite h.bring.headChanged h

theorem Keeps.noteFormer {g sd : Nat} {old new : List Nat} (h : Keeps onLane s₀ s) :
    Keeps onLane s₀ (s.noteFormer g sd old new) := by
  unfold State.noteFormer
  exact h.updPort

theorem Keeps.endTaken {g : Nat} (h : Keeps onLane s₀ s) : Keeps onLane s₀ (s.endTaken g) := by
  unfold State.endTaken
  exact h.each (fun _ k => Keeps.ite k.endLt.updSeg k)

theorem Keeps.changeDone {g : Nat} {c : Change} (h : Keeps onLane s₀ s) : Keeps onLane s₀ (s.changeDone g c) := by
  unfold State.changeDone
  extract_lets +onlyGivenNames t u v
  have ht : Keeps onLane s₀ t := h.each (fun _ k => k.setMap.updSeg)
  have hu : Keeps onLane s₀ u := ht.put.updPort
  have hv : Keeps onLane s₀ v := by
    unfold v
    split; exacts [hu.raise, hu.noteWidth.raise]
  exact hv.endTaken.settleSpares.jobChanged.jobsRun.settleCauses

theorem Keeps.changeCheck {g : Nat} (h : Keeps onLane s₀ s) : Keeps onLane s₀ (s.changeCheck g) := by
  unfold State.changeCheck
  split; exacts [Keeps.ite h.changeDone h, h]

theorem Keeps.endJobLts {g : Nat} {j : Job} (h : Keeps onLane s₀ s) : Keeps onLane s₀ (s.endJobLts g j) := by
  unfold State.endJobLts
  split; exacts [h, Keeps.ite h.endLt.endLt h.endSpareLts]

theorem Keeps.jobMapFailed {g width : Nat} (h : Keeps onLane s₀ s) : Keeps onLane s₀ (s.jobMapFailed g width) := by
  unfold State.jobMapFailed
  split
  · exact h
  · extract_lets +onlyGivenNames t u
    have ht : Keeps onLane s₀ t := h.bring
    have hu : Keeps onLane s₀ u := by
      unfold u
      split
      · exact ht.dropHead.settleSpares.bistCut
      · exact Keeps.ite ht.dropHead.updPort ht.finishHead
    exact hu.endJobLts.settleSpares

theorem Keeps.partFails {g : Nat} {p : Part} (h : Keeps onLane s₀ s) : Keeps onLane s₀ (s.partFails g p) := by
  unfold State.partFails
  exact Keeps.updSeg (Keeps.ite h.setMap.updSeg h)

theorem Keeps.changeFail {g : Nat} (h : Keeps onLane s₀ s) : Keeps onLane s₀ (s.changeFail g) := by
  unfold State.changeFail
  split
  · extract_lets +onlyGivenNames t u v
    have ht : Keeps onLane s₀ t := h.each (fun _ k => k.partFails)
    have hu : Keeps onLane s₀ u := ht.updPort.raise
    have hv : Keeps onLane s₀ v := Keeps.ite hu.noteWidth hu
    exact hv.jobMapFailed.endTaken.jobsRun.settlePower.settleCauses
  · exact h

theorem Keeps.updPart {g sd : Nat} {f : Part → Part} (h : Keeps onLane s₀ s) :
    Keeps onLane s₀ (s.updPart g sd f) := by
  unfold State.updPart
  exact h.updPort

theorem Keeps.switchTx {g sd : Nat} (h : Keeps onLane s₀ s) : Keeps onLane s₀ (s.switchTx g sd) := by
  unfold State.switchTx
  split
  · exact h.noteFormer.updSeg.updEng.updPart.settleSpares.changeCheck.settlePower
  · exact h

theorem Keeps.deskew {g sd i : Nat} {own : Bool} (h : Keeps onLane s₀ s) : Keeps onLane s₀ (s.deskew g sd i own) := by
  unfold State.deskew
  exact Keeps.ite (h.updRx.when (fun k => k.leSet)) h.updRx.put

theorem Keeps.skewTaken {g sd : Nat} {m : List Nat} (h : Keeps onLane s₀ s) :
    Keeps onLane s₀ (s.skewTaken g sd m) := by
  unfold State.skewTaken
  exact h.each (fun _ k => k.deskew)

theorem Keeps.takeRx {g sd : Nat} {m : List Nat} (h : Keeps onLane s₀ s) : Keeps onLane s₀ (s.takeRx g sd m) := by
  unfold State.takeRx
  exact h.skewTaken.updSeg

theorem Keeps.switchRx {g sd : Nat} (h : Keeps onLane s₀ s) : Keeps onLane s₀ (s.switchRx g sd) := by
  unfold State.switchRx
  split
  · exact h.takeRx.updPart.changeCheck.settlePower
  · exact h

theorem Keeps.rxObserve {g sd : Nat} (h : Keeps onLane s₀ s) : Keeps onLane s₀ (s.rxObserve g sd) := by
  unfold State.rxObserve
  extract_lets +onlyGivenNames _
  split
  · exact Keeps.ite h.switchRx h
  · exact Keeps.ite h.takeRx.settlePower h

theorem Keeps.followWidth {g sd w : Nat} {m : List Nat} (h : Keeps onLane s₀ s) :
    Keeps onLane s₀ (s.followWidth g sd w m) := by
  unfold State.followWidth
  exact h.noteFormer.updSeg.updPort.settleSpares.changeCheck

theorem Keeps.noteMove {g : Nat} (h : Keeps onLane s₀ s) : Keeps onLane s₀ (s.noteMove g) := by
  unfold State.noteMove
  exact h.updPort.put.raise

theorem Keeps.followMarkers {g sd : Nat} (h : Keeps onLane s₀ s) : Keeps onLane s₀ (s.followMarkers g sd) := by
  unfold State.followMarkers
  extract_lets +onlyGivenNames ps
  clear_value ps
  split
  · exact h
  · extract_lets +onlyGivenNames _ _
    split
    · extract_lets +onlyGivenNames _
      split
      · exact h
      · exact Keeps.ite h.noteFormer.setMap.updSeg.settleSpares.noteMove h.followWidth
    · exact h

theorem Keeps.spareFails {g sd p : Nat} (h : Keeps onLane s₀ s) : Keeps onLane s₀ (s.spareFails g sd p) := by
  unfold State.spareFails
  split
  · exact Keeps.ite (Keeps.ite h.bring.bistCut.giveLane h.bring.endJob.giveLane) h
  · exact h

theorem Keeps.escalateCarried {g sd lane p : Nat} {soft : Bool} (h : Keeps onLane s₀ s) :
    Keeps onLane s₀ (s.escalateCarried g sd lane p soft) := by
  unfold State.escalateCarried
  extract_lets +onlyGivenNames _ _ _ _ _
  split
  · exact h.updPort.jobsRun
  · exact Keeps.ite h.spareFails.pushJob.jobsRun h.spareFails.pushJob.jobsRun

theorem Keeps.moveFailed {g : Nat} {j : Job} (h : Keeps onLane s₀ s) : Keeps onLane s₀ (s.moveFailed g j) := by
  unfold State.moveFailed
  exact Keeps.ite h.finishHead h.updHead

theorem Keeps.ltTaskFails {g i : Nat} (h : Keeps onLane s₀ s) : Keeps onLane s₀ (s.ltTaskFails g i) := by
  unfold State.ltTaskFails
  extract_lets +onlyGivenNames _
  split; exacts [h.bring.moveFailed, h]

theorem Keeps.ltAbandoned {i : Nat} (h : Keeps onLane s₀ s) : Keeps onLane s₀ (s.ltAbandoned i) := by
  unfold State.ltAbandoned
  split; exacts [h.endLt.settleSpares.ltTaskFails, h]

theorem Keeps.escalateLane {i : Nat} {soft : Bool} (h : Keeps onLane s₀ s) :
    Keeps onLane s₀ (s.escalateLane i soft) := by
  unfold State.escalateLane
  extract_lets +onlyGivenNames _ _
  split
  · exact Keeps.ite h.escalateCarried ((h.retire.when (fun k => k.updSeg)).settlePower)
  · exact h.retire.maintFails.ltAbandoned.jobsRun

theorem Keeps.updCore {f : Core → Core} (h : Keeps onLane s₀ s) : Keeps onLane s₀ (s.updCore f) := by
  unfold State.updCore
  exact h.withCore

theorem Keeps.noteFlash (h : Keeps onLane s₀ s) : Keeps onLane s₀ s.noteFlash := by
  unfold State.noteFlash
  exact h.put.put.put

theorem Keeps.bootSlot {slot : Nat} {trial : Bool} (h : Keeps onLane s₀ s) :
    Keeps onLane s₀ (s.bootSlot slot trial) := by
  unfold State.bootSlot
  exact h.updCore.put.put

theorem Keeps.fallBackSlot {clearTrial : Bool} (h : Keeps false s₀ s) :
    Keeps false s₀ (s.fallBackSlot clearTrial) := by
  unfold State.fallBackSlot
  exact (h.withFlash Flash.valid_write_le).raise

theorem Keeps.boot (h : Keeps false s₀ s) : Keeps false s₀ s.boot := by
  unfold State.boot
  split
  · exact h.updCore.put
  · split
    · exact h.bootSlot.noteFlash
    · exact Keeps.ite h.fallBackSlot.bootSlot.noteFlash h.updCore.put.causeOn.noteFlash

theorem Keeps.trialFailed (h : Keeps false s₀ s) : Keeps false s₀ s.trialFailed := by
  unfold State.trialFailed
  exact Keeps.ite h.fallBackSlot.boot h

theorem Keeps.endCalReqs {status : Nat} (h : Keeps onLane s₀ s) : Keeps onLane s₀ (s.endCalReqs status) := by
  unfold State.endCalReqs
  exact h.withCalReqs.each (fun _ k => k.opDone)

theorem Keeps.endMaintenance {g status : Nat} (h : Keeps onLane s₀ s) :
    Keeps onLane s₀ (s.endMaintenance g status) := by
  unfold State.endMaintenance
  exact Keeps.ite h.yieldWith h.leaveWith

theorem Keeps.endFull {g status : Nat} (h : Keeps onLane s₀ s) : Keeps onLane s₀ (s.endFull g status) := by
  unfold State.endFull
  extract_lets +onlyGivenNames _ t _
  have ht : Keeps onLane s₀ t := by
    unfold t
    split; exacts [Keeps.ite h.endMaintenance h, h]
  exact ht.updPort.each (fun _ k => k.opDone)

theorem Keeps.scanAbort (h : Keeps onLane s₀ s) : Keeps onLane s₀ s.scanAbort := by
  unfold State.scanAbort
  split
  · exact Keeps.ite (h.each (fun _ k => k.zeroEngine)) h
  · exact h

theorem Keeps.endBist {status : Nat} (h : Keeps onLane s₀ s) : Keeps onLane s₀ (s.endBist status) := by
  unfold State.endBist
  extract_lets +onlyGivenNames _ _ t u v
  have ht : Keeps onLane s₀ t := h.scanAbort.withBist
  have hu : Keeps onLane s₀ u := ht.each (fun _ k => by
    extract_lets +onlyGivenNames t
    have ht : Keeps onLane s₀ t := by
      unfold t
      split; exacts [Keeps.ite k.endMaintenance k, k]
    exact ht.updPort)
  have hv : Keeps onLane s₀ v := Keeps.ite hu hu.bistAbort
  exact hv.each (fun _ k => k.opDone)

theorem Keeps.refuseWaiting {status : Nat} (h : Keeps onLane s₀ s) : Keeps onLane s₀ (s.refuseWaiting status) := by
  unfold State.refuseWaiting
  exact Keeps.ite (h.updCore.each (fun _ k => k.opDone)) h

theorem Keeps.endCoreOps {status : Nat} (h : Keeps onLane s₀ s) : Keeps onLane s₀ (s.endCoreOps status) := by
  unfold State.endCoreOps
  extract_lets +onlyGivenNames t u v _
  have ht : Keeps onLane s₀ t := h.refuseWaiting
  have hu : Keeps onLane s₀ u := ht.endCalReqs.each (fun _ k => k.endFull)
  have hv : Keeps onLane s₀ v := hu.endBist
  exact ((hv.updCore.each (fun _ k => k.opDone)).jobsRun).settlePower

theorem Keeps.coreLost (h : Keeps onLane s₀ s) : Keeps onLane s₀ s.coreLost := by
  unfold State.coreLost
  exact ((h.when (fun k => k.put)).updCore).put

theorem Keeps.coreHalt {status : Nat} (h : Keeps onLane s₀ s) : Keeps onLane s₀ (s.coreHalt status) := by
  unfold State.coreHalt
  exact h.endCoreOps.coreLost

theorem Keeps.coreReset {status : Nat} (h : Keeps false s₀ s) : Keeps false s₀ (s.coreReset status) := by
  unfold State.coreReset
  exact h.coreHalt.updCore.boot

theorem Keeps.loadEnds {status result : Nat} (h : Keeps onLane s₀ s) :
    Keeps onLane s₀ (s.loadEnds status result) := by
  unfold State.loadEnds
  split; exacts [h.updCore.opDone, h]

theorem Keeps.activateStart {l : FwLoad} (h : Keeps false s₀ s) : Keeps false s₀ (s.activateStart l) := by
  unfold State.activateStart
  exact (((h.updCore.each (fun _ k => k.opDone)).withFlash Flash.valid_write_le).coreReset).updCore

theorem Keeps.writeStart (h : Keeps false s₀ s) : Keeps false s₀ s.writeStart := by
  unfold State.writeStart
  exact (h.withFlash fun k => Nat.and_le_left.trans k).noteFlash

theorem Keeps.loadRun {n : Nat} (h : Keeps false s₀ s) : Keeps false s₀ (State.loadRun n s) := by
  induction n generalizing s with
  | zero => exact h
  | succ n ih =>
    unfold State.loadRun
    split
    · exact h
    · split
      · exact Keeps.ite h.activateStart (ih h.loadEnds)
      · exact Keeps.ite (ih h.loadEnds) h.writeStart

theorem Keeps.markDone {q idx : Nat} (h : Keeps onLane s₀ s) : Keeps onLane s₀ (s.markDone q idx) := by
  unfold State.markDone
  extract_lets +onlyGivenNames c d
  clear_value c d
  split
  exact h.put.setReg

theorem Keeps.noteFlights {q : Nat} (h : Keeps onLane s₀ s) : Keeps onLane s₀ (s.noteFlights q) := by
  unfold State.noteFlights
  exact h.put

theorem Keeps.ringSettle {q : Nat} (h : Keeps onLane s₀ s) : Keeps onLane s₀ (s.ringSettle q) := by
  unfold State.ringSettle
  split
  · split
    · exact Keeps.ite h h.put.cqEntry.cqSignal
    · exact Keeps.ite h.put.put.writeShadow h
  · exact h

theorem Keeps.ringDrain {q : Nat} (h : Keeps onLane s₀ s) : Keeps onLane s₀ (s.ringDrain q) := by
  unfold State.ringDrain
  exact Keeps.ite h.put.ringSettle h

theorem Keeps.ringHalt {q cause : Nat} (h : Keeps onLane s₀ s) : Keeps onLane s₀ (s.ringHalt q cause) := by
  unfold State.ringHalt
  exact Keeps.ite h.put.put.ringSettle h

theorem Keeps.finishFlight {q : Nat} {f : Flight} (h : Keeps false s₀ s) : Keeps false s₀ (s.finishFlight q f) := by
  unfold State.finishFlight
  extract_lets +onlyGivenNames t u v w
  have ht : Keeps false s₀ t := h.updRing
  have hu : Keeps false s₀ u := ht.markDone.noteFlights
  have hv : Keeps false s₀ v := Keeps.ite hu.withFenceHeld hu
  have hw : Keeps false s₀ w := Keeps.ite hv hv.cqEntry.cqSignal
  exact hw.writeShadow.ringSettle

theorem Keeps.descriptorComplete {q idx : Nat} (h : Keeps false s₀ s) :
    Keeps false s₀ (s.descriptorComplete q idx) := by
  unfold State.descriptorComplete
  split; exacts [Keeps.ite h.finishFlight h, h]

theorem Keeps.dispatch {q idx : Nat} {d : Desc} (h : Keeps false s₀ s) : Keeps false s₀ (s.dispatch q idx d) := by
  unfold State.dispatch
  exact h.withDispatchedFenceHeld.updRing.noteFlights.put

theorem Keeps.nextDesc {q : Nat} {l : List Desc} (h : Keeps onLane s₀ s) : Keeps onLane s₀ (s.nextDesc q l).1 := by
  unfold State.nextDesc
  dsimp only
  split; exacts [h, h.hostRead]

theorem Keeps.fetchLoop {n q prod : Nat} {l : List Desc} (h : Keeps false s₀ s) :
    Keeps false s₀ (State.fetchLoop n s q prod l).1 := by
  induction n generalizing s l with
  | zero => exact h
  | succ n ih =>
    unfold State.fetchLoop
    dsimp only
    split
    · exact h
    · split
      · exact ih h.nextDesc.dispatch
      · exact h.nextDesc

theorem Keeps.speculate {q : Nat} {l : List Desc} (h : Keeps onLane s₀ s) : Keeps onLane s₀ (s.speculate q l) := by
  unfold State.speculate
  exact (h.each (fun _ k => k.hostRead)).updRing

theorem Keeps.readIndex {q : Nat} (h : Keeps onLane s₀ s) : Keeps onLane s₀ (s.readIndex q) := by
  unfold State.readIndex
  exact h.hostRead

theorem Keeps.takeHead {q cqHead : Nat} (h : Keeps onLane s₀ s) : Keeps onLane s₀ (s.takeHead q cqHead) := by
  unfold State.takeHead
  exact Keeps.ite h h.updRing.vectorServed

theorem Keeps.fetchImg {q : Nat} {img : HostImg} (h : Keeps false s₀ s) : Keeps false s₀ (s.fetchImg q img) := by
  unfold State.fetchImg
  split
  · extract_lets t
    have ht : Keeps false s₀ t := h.readIndex.takeHead.updRing
    clear_value t
    split
    · exact ht.ringHalt
    · split
      · exact ht.ringHalt
      · have hu := ht.fetchLoop (n := 33) (q := q) (prod := img.prod.toNat) (l := img.slots)
        generalize State.fetchLoop 33 t q img.prod.toNat img.slots = x at hu ⊢
        exact (Keeps.ite hu.updRing.speculate hu.updRing).writeShadow
  · exact Keeps.ite h.updRing h

theorem Keeps.fetch {q : Nat} {img : HostImg} (h : Keeps false s₀ s) : Keeps false s₀ (s.fetch q img) := by
  unfold State.fetch
  exact h.fetchImg

theorem Keeps.headPollAt {q cqHead : Nat} (h : Keeps onLane s₀ s) : Keeps onLane s₀ (s.headPollAt q cqHead) := by
  unfold State.headPollAt
  split
  · exact Keeps.ite h.readIndex.takeHead.ringHalt h.readIndex.takeHead.ringSettle
  · exact h

theorem Keeps.headPoll {q : Nat} {v : BitVec 16} (h : Keeps onLane s₀ s) : Keeps onLane s₀ (s.headPoll q v) := by
  unfold State.headPoll
  exact h.headPollAt

theorem Keeps.hostBack (h : Keeps false s₀ s) : Keeps false s₀ s.hostBack := by
  unfold State.hostBack
  split
  · exact (((h.each (fun _ k => k.emit)).withPcie).each (fun _ k => k.shadowBack.ringSettle)).msixUnmask
  · exact h

theorem Keeps.sendMarkers {e g : Nat} (h : Keeps onLane s₀ s) : Keeps onLane s₀ (s.sendMarkers e g) := by
  unfold State.sendMarkers
  exact h.each (fun _ k => k.sendLine)

theorem Keeps.sendCodeword {e g index msg : Nat} (h : Keeps onLane s₀ s) :
    Keeps onLane s₀ (s.sendCodeword e g index msg) := by
  unfold State.sendCodeword
  exact h.each (fun _ k => k.sendLine)

theorem Keeps.sendPair {e g : Nat} {l : List Flit} (h : Keeps onLane s₀ s) : Keeps onLane s₀ (s.sendPair e g l) := by
  unfold State.sendPair
  exact Keeps.updEng (Keeps.sendCodeword (Keeps.sendCodeword (Keeps.ite h.sendMarkers h)))

theorem Keeps.flitOut {e g : Nat} {f : Flit} (h : Keeps onLane s₀ s) : Keeps onLane s₀ (s.flitOut e g f) := by
  unfold State.flitOut
  exact Keeps.ite h.emit.updEng h.emit.sendPair

theorem Keeps.fillPair {e g : Nat} (h : Keeps onLane s₀ s) : Keeps onLane s₀ (s.fillPair e g) := by
  unfold State.fillPair
  exact h.each (fun _ k => k.flitOut.count)

theorem Keeps.fallbackEngine {e g : Nat} (h : Keeps onLane s₀ s) : Keeps onLane s₀ (s.fallbackEngine e g) := by
  unfold State.fallbackEngine
  exact h.abandonAt.flitOut

theorem Keeps.fallbackEnds {e g : Nat} (h : Keeps onLane s₀ s) : Keeps onLane s₀ (s.fallbackEnds e g) := by
  unfold State.fallbackEnds
  exact h.updEng.noteRetry.put.drainCheck

theorem Keeps.fallbackPort {g : Nat} (h : Keeps onLane s₀ s) : Keeps onLane s₀ (s.fallbackPort g) := by
  unfold State.fallbackPort
  extract_lets +onlyGivenNames t u v
  have ht : Keeps onLane s₀ t := by
    unfold t
    split
    · exact h.fallbackEngine.fallbackEngine.fallbackEnds.fallbackEnds.fillPair.fillPair
    · exact h
  have hu : Keeps onLane s₀ u := ht.put
  have hv : Keeps onLane s₀ v := hu.raise.raise
  exact Keeps.ite hv.raise.raise hv

theorem Keeps.ethOut {e g : Nat} {k : LaneN} {msg : BitVec 5140} {ok : Bool} (h : Keeps onLane s₀ s) :
    Keeps onLane s₀ (s.ethOut e g k msg ok) := by
  unfold State.ethOut
  exact Keeps.ite h.sendOver.emit h

theorem Keeps.faultHist {src kind info : Nat} (h : Keeps onLane s₀ s) :
    Keeps onLane s₀ (s.faultHist src kind info) := by
  unfold State.faultHist
  exact h.setReg.setReg.setReg.setReg.setReg

theorem Keeps.fillFirst {n sev : Nat} {wire : Bool} (h : Keeps onLane s₀ s) :
    Keeps onLane s₀ (s.fillFirst n sev wire) := by
  unfold State.fillFirst
  exact h.setReg.setReg.setReg.setReg

theorem Keeps.noteFirst {n sev : Nat} {wire : Bool} (h : Keeps onLane s₀ s) :
    Keeps onLane s₀ (s.noteFirst n sev wire) := by
  unfold State.noteFirst
  exact Keeps.ite h.put h.fillFirst

theorem Keeps.notePin (h : Keeps onLane s₀ s) : Keeps onLane s₀ s.notePin := by
  unfold State.notePin
  extract_lets +onlyGivenNames _ _ t u
  have ht : Keeps onLane s₀ t := Keeps.ite h h.withFlt.drive
  have hu : Keeps onLane s₀ u := Keeps.ite ht ht.causeOff
  exact hu.put

theorem Keeps.faultPulse (h : Keeps onLane s₀ s) : Keeps onLane s₀ s.faultPulse := by
  unfold State.faultPulse
  exact Keeps.ite h.put.put.notePin h

theorem Keeps.squelch (h : Keeps onLane s₀ s) : Keeps onLane s₀ s.squelch := by
  unfold State.squelch
  exact h.each (fun _ k => k.each (fun _ j => j.segLost.segLost))

theorem Keeps.enterSafe {n : Nat} (h : Keeps onLane s₀ s) : Keeps onLane s₀ (s.enterSafe n) := by
  unfold State.enterSafe
  extract_lets +onlyGivenNames _ t
  have ht : Keeps onLane s₀ t := h.withFlt
  split
  · exact ht
  · extract_lets +onlyGivenNames t u v
    have ht : Keeps onLane s₀ t := ht.put.put.faultHist.raise.notePin
    have hu : Keeps onLane s₀ u := ht.coreHalt
    have hv : Keeps onLane s₀ v := Keeps.ite (hu.each (fun _ k => Keeps.ite k.ringDrain k)) hu
    exact Keeps.ite hv.squelch hv

theorem Keeps.escalateEngine (h : Keeps onLane s₀ s) : Keeps onLane s₀ s.escalateEngine := by
  unfold State.escalateEngine
  exact h.each (fun _ k => Keeps.ite k.fallbackPort k)

theorem Keeps.escalateAct {n : Nat} {safe : Bool} (h : Keeps onLane s₀ s) :
    Keeps onLane s₀ (s.escalateAct n safe) := by
  unfold State.escalateAct
  extract_lets +onlyGivenNames t
  have ht : Keeps onLane s₀ t := h.faultHist.raise.faultPulse
  split
  · exact ht.enterSafe
  · split
    · exact ht.escalateLane.settlePower.settleCauses
    · exact Keeps.ite ht.escalateEngine ht.enterSafe

theorem Keeps.escalate {n : Nat} {safe : Bool} (h : Keeps onLane s₀ s) : Keeps onLane s₀ (s.escalate n safe) := by
  unfold State.escalate
  split
  · extract_lets _ t
    have ht : Keeps onLane s₀ t := h.withFlt
    split
    · exact ht.oweWake
    · exact ht
  · exact Keeps.ite h.withFlt.faultHist h.escalateAct

theorem Keeps.heldCheck (h : Keeps onLane s₀ s) : Keeps onLane s₀ s.heldCheck := by
  unfold State.heldCheck
  exact h.each (fun _ k => Keeps.ite k.unheld.escalate k)

theorem Keeps.goOn (h : Keeps onLane s₀ s) : Keeps onLane s₀ s.goOn := by
  unfold State.goOn
  exact h.jobsRun.settlePower.settleCauses.heldCheck

theorem Keeps.takeDue (h : Keeps onLane s₀ s) : Keeps onLane s₀ s.takeDue := by
  unfold State.takeDue
  extract_lets must safe all
  have ht : Keeps onLane s₀ { s with flt := { s.flt with due := [] } } := h.withFlt
  exact (ht.oweWake (w := s.pwr.wake)).each fun _ k => Keeps.ite k.escalate k

theorem Keeps.onset {n sev : Nat} {wire : Bool} (h : Keeps onLane s₀ s) : Keeps onLane s₀ (s.onset n sev wire) := by
  unfold State.onset
  extract_lets +onlyGivenNames t
  have ht : Keeps onLane s₀ t := h.put
  split
  · exact ht
  · extract_lets +onlyGivenNames t u
    have ht : Keeps onLane s₀ t := ht.put.faultHist.noteFirst
    have hu : Keeps onLane s₀ u := Keeps.ite ht.raise ht
    split; exacts [hu.withGrace, Keeps.ite hu.escalate hu]

theorem Keeps.onsetIfNew {n : Nat} {wire : Bool} (h : Keeps onLane s₀ s) : Keeps onLane s₀ (s.onsetIfNew n wire) := by
  unfold State.onsetIfNew
  exact Keeps.ite h.onset h

theorem Keeps.report {n : Nat} (h : Keeps onLane s₀ s) : Keeps onLane s₀ (s.report n) := by
  unfold State.report
  exact h.causeOn.onsetIfNew

theorem Keeps.noteError {bit : Nat} {dev : BitVec 4} (h : Keeps false s₀ s) :
    Keeps false s₀ (s.noteError bit dev) := by
  unfold State.noteError
  exact h.withPcie.when (fun k => k.emit)

theorem Keeps.pcieError {bit : Nat} (h : Keeps false s₀ s) : Keeps false s₀ (s.pcieError bit) := by
  unfold State.pcieError
  exact h.noteError.report

theorem Keeps.requestError (h : Keeps false s₀ s) : Keeps false s₀ s.requestError := by
  unfold State.requestError
  exact h.noteError.report

theorem Keeps.faultAt {n place : Nat} (h : Keeps false s₀ s) : Keeps false s₀ (s.faultAt n place) := by
  unfold State.faultAt
  extract_lets +onlyGivenNames _ _ _
  split
  · split
    · exact h.updEng.noteRetry.drainCheck
    · exact Keeps.ite h.updEng.noteRetry.put.drainCheck h.updEng.noteRetry
    · exact h.setKey
    · exact h
  · split
    · exact h.noteError.count
    · exact Keeps.ite h.withPwr.put.raise h

theorem Keeps.sourcesDown (h : Keeps onLane s₀ s) : Keeps onLane s₀ s.sourcesDown := by
  unfold State.sourcesDown
  exact (h.each (fun _ k => k.sourceOff)).withGrace

theorem Keeps.sourcesBack (h : Keeps onLane s₀ s) : Keeps onLane s₀ s.sourcesBack := by
  unfold State.sourcesBack
  exact h.each (fun _ k => k.causeOn.onsetIfNew)

theorem Keeps.erasedAgain {n : Nat} (h : Keeps onLane s₀ s) : Keeps onLane s₀ (s.erasedAgain n) := by
  unfold State.erasedAgain
  extract_lets +onlyGivenNames _
  split; exacts [h.withGrace, Keeps.ite h.escalate h]

theorem Keeps.faultOnset {n place : Nat} (h : Keeps false s₀ s) : Keeps false s₀ (s.faultOnset n place) := by
  unfold State.faultOnset
  split
  · exact h
  · split
    · extract_lets +onlyGivenNames _ t
      have ht : Keeps false s₀ t := Keeps.ite h.leSet h
      exact Keeps.ite ht.erasedAgain ht.onsetIfNew
    · exact h.faultAt.causeOn.onsetIfNew

theorem Keeps.faultExpire {n : Nat} (h : Keeps onLane s₀ s) : Keeps onLane s₀ (s.faultExpire n) := by
  unfold State.faultExpire
  split
  · exact h.causeOff.notePin
  · exact Keeps.ite h h.causeOff

theorem Keeps.wiringFault {n : Nat} (h : Keeps onLane s₀ s) : Keeps onLane s₀ (s.wiringFault n) := by
  unfold State.wiringFault
  exact Keeps.ite h h.withFlt.put.raise.faultHist.onsetIfNew

theorem Keeps.wiringRecovery {n : Nat} {faulty : Bool} (h : Keeps onLane s₀ s) :
    Keeps onLane s₀ (s.wiringRecovery n faulty) := by
  unfold State.wiringRecovery
  split
  · extract_lets +onlyGivenNames _ t
    have ht : Keeps onLane s₀ t := h.withFlt
    split; exacts [ht.causeOn, Keeps.ite ht ht.causeOff]
  · exact h

theorem Keeps.graceExpiry {n : Nat} (h : Keeps onLane s₀ s) : Keeps onLane s₀ (s.graceExpiry n) := by
  unfold State.graceExpiry
  exact Keeps.ite (Keeps.ite h.withGrace.escalate h.withGrace) h

theorem Keeps.sevChanged {n : Nat} (h : Keeps onLane s₀ s) : Keeps onLane s₀ (s.sevChanged n) := by
  unfold State.sevChanged
  exact Keeps.ite h.withGrace h

theorem Keeps.parityGood {n : Nat} (h : Keeps onLane s₀ s) : Keeps onLane s₀ (s.parityGood n) := by
  unfold State.parityGood
  exact Keeps.ite h.withFlt.causeOff h.withFlt

theorem Keeps.srccfgWrite {n : Nat} {v : Word} (h : Keeps onLane s₀ s) : Keeps onLane s₀ (s.srccfgWrite n v) := by
  unfold State.srccfgWrite
  exact Keeps.ite h.setReg.sevChanged.parityGood h.setReg.sevChanged

theorem Keeps.reloadCfg (h : Keeps onLane s₀ s) : Keeps onLane s₀ s.reloadCfg := by
  unfold State.reloadCfg
  exact h.put.put

theorem Keeps.selfFaultNative {w : Option Nat} (h : Keeps onLane s₀ s) : Keeps onLane s₀ (s.selfFaultNative w) := by
  unfold State.selfFaultNative
  extract_lets +onlyGivenNames t u v
  have ht : Keeps onLane s₀ t := by
    unfold t
    split
    · exact h.resetReg.sevChanged.parityGood
    · exact h.reloadCfg
  have hu : Keeps onLane s₀ u := ht.faultHist.put
  have hv : Keeps onLane s₀ v := Keeps.ite hu.put hu.fillFirst
  exact hv.raise

theorem Keeps.selfFaultCompat {w : Option Nat} (h : Keeps onLane s₀ s) : Keeps onLane s₀ (s.selfFaultCompat w) := by
  unfold State.selfFaultCompat
  extract_lets +onlyGivenNames t
  have ht : Keeps onLane s₀ t := h.faultHist
  split
  · extract_lets +onlyGivenNames _ t u
    have ht : Keeps onLane s₀ t := ht.withFlt.causeOn
    have hu : Keeps onLane s₀ u := ht.setReg.useFree.sevChanged
    exact Keeps.ite hu hu.onset
  · exact Keeps.ite ht.reloadCfg ht.reloadCfg.onset.put

theorem Keeps.selfFault {w : Option Nat} (h : Keeps onLane s₀ s) : Keeps onLane s₀ (s.selfFault w) := by
  unfold State.selfFault
  exact Keeps.ite h.selfFaultCompat h.selfFaultNative

theorem Keeps.safeExit (h : Keeps false s₀ s) : Keeps false s₀ s.safeExit := by
  unfold State.safeExit
  exact h.withFlt.put.faultHist.raise.notePin.coreReset.jobsRun.settlePower.settleCauses

theorem Keeps.clearRefused {src : Nat} (h : Keeps onLane s₀ s) : Keeps onLane s₀ (s.clearRefused src).1 := by
  unfold State.clearRefused
  exact h.faultHist.raise

theorem Keeps.clearSource {n : Nat} (h : Keeps onLane s₀ s) : Keeps onLane s₀ (s.clearSource n).1 := by
  unfold State.clearSource
  split; exacts [h.clearRefused, h.withGrace.put.put]

theorem Keeps.clearRecord (h : Keeps onLane s₀ s) : Keeps onLane s₀ (s.clearRecord).1 := by
  unfold State.clearRecord
  exact ((h.each (fun _ k => k.setReg)).each (fun _ k => k.setReg)).put

theorem Keeps.clearSafe (h : Keeps false s₀ s) : Keeps false s₀ (s.clearSafe).1 := by
  unfold State.clearSafe
  split
  · exact h.clearRefused
  · split; exacts [h.clearRefused, h.safeExit]

theorem Keeps.setVid {v : Nat} (h : Keeps false s₀ s) : Keeps false s₀ (s.setVid v) := by
  unfold State.setVid
  exact Keeps.updPwr (Keeps.ite h h.put.drive)

theorem Keeps.vidCut {v : Nat} (h : Keeps false s₀ s) : Keeps false s₀ (s.vidCut v) := by
  unfold State.vidCut
  exact Keeps.ite h h.put.put.updPwr.setVid.raise

theorem Keeps.vidGated {v : Nat} (h : Keeps false s₀ s) : Keeps false s₀ (s.vidGated v) := by
  unfold State.vidGated
  exact Keeps.ite h.updPwr h.vidCut

theorem Keeps.dvfsGo (h : Keeps false s₀ s) : Keeps false s₀ s.dvfsGo := by
  unfold State.dvfsGo
  extract_lets +onlyGivenNames _ _
  split
  · exact h.updPwr
  · split
    · exact h.setVid.put.updPwr
    · exact Keeps.ite h h.put.updPwr

theorem Keeps.dvfsStart (h : Keeps false s₀ s) : Keeps false s₀ s.dvfsStart := by
  unfold State.dvfsStart
  split; exacts [h.dvfsGo, h.vidGated, h.vidGated]

theorem Keeps.vidReady (h : Keeps false s₀ s) : Keeps false s₀ s.vidReady := by
  unfold State.vidReady
  exact h.updPwr

theorem Keeps.dvfsEnd (h : Keeps false s₀ s) : Keeps false s₀ s.dvfsEnd := by
  unfold State.dvfsEnd
  exact Keeps.ite h.updPwr.put.raise.dvfsStart h.updPwr.put.raise

theorem Keeps.pgcfgWrite {g v : Nat} (h : Keeps onLane s₀ s) : Keeps onLane s₀ (s.pgcfgWrite g v) := by
  unfold State.pgcfgWrite
  exact Keeps.ite h.raise h.setReg

theorem Keeps.rplcfgWrite {e v : Nat} (h : Keeps onLane s₀ s) : Keeps onLane s₀ (s.rplcfgWrite e v) := by
  unfold State.rplcfgWrite
  exact Keeps.ite h.raise h.setReg

theorem Keeps.lmapWrite {g sd : Nat} {v : Word} (h : Keeps onLane s₀ s) : Keeps onLane s₀ (s.lmapWrite g sd v) := by
  unfold State.lmapWrite
  exact Keeps.ite h.raise h.setReg

theorem Keeps.groupOff {g : Nat} (h : Keeps onLane s₀ s) : Keeps onLane s₀ (s.groupOff g) := by
  unfold State.groupOff
  exact Keeps.ite h.portDisable.copyBreaks h

theorem Keeps.pgenWrite {v : Nat} (h : Keeps false s₀ s) : Keeps false s₀ (s.pgenWrite v) := by
  unfold State.pgenWrite
  exact ((h.each (fun _ k => Keeps.ite k.portEnable k.groupOff)).goOn).dvfsStart

theorem Keeps.anPage {g k sd : Nat} {page : BitVec 48} {base last : Bool} (h : Keeps onLane s₀ s) :
    Keeps onLane s₀ (s.anPage g k sd page base last) := by
  unfold State.anPage
  exact Keeps.ite (Keeps.goOn (Keeps.segEval (Keeps.updSeg (Keeps.ite h h.emit)))) h

theorem Keeps.frameSeen {g k sd p : Nat} {o : TrainObs} (h : Keeps onLane s₀ s) :
    Keeps onLane s₀ (s.frameSeen g k sd p o) := by
  unfold State.frameSeen
  exact h.updSeg.updTx

theorem Keeps.linkSeen {g sd p : Nat} {o : TrainObs} (h : Keeps onLane s₀ s) :
    Keeps onLane s₀ (s.linkSeen g sd p o) := by
  unfold State.linkSeen
  exact h.updSeg.put.put

theorem Keeps.holdRestart {g sd : Nat} (h : Keeps onLane s₀ s) : Keeps onLane s₀ (s.holdRestart g sd) := by
  unfold State.holdRestart
  exact h.startWait.put

theorem Keeps.homeFailed {g : Nat} {j : Job} (h : Keeps onLane s₀ s) : Keeps onLane s₀ (s.homeFailed g j) := by
  unfold State.homeFailed
  extract_lets +onlyGivenNames _ t u
  have ht : Keeps onLane s₀ t := h.withIsolated
  have hu : Keeps onLane s₀ u := ht.leSet.leSet
  exact Keeps.ite hu.dropHead.settleSpares.bistVerdict hu.finishHead

theorem Keeps.ltFailed {i : Nat} (h : Keeps onLane s₀ s) : Keeps onLane s₀ (s.ltFailed i) := by
  unfold State.ltFailed
  split
  · exact h
  · split
    · exact h
    · extract_lets g t upkeep u v
      have ht : Keeps onLane s₀ t := h.endLt.settleSpares
      have hu : Keeps onLane s₀ u := ht.bring
      have hv : Keeps onLane s₀ v := by
        unfold v
        split
        · exact ht.markFailed.ltTaskFails
        · split
          · exact hu.markFailed.finishHead
          · split
            · exact Keeps.ite hu.dropHead.settleSpares.bistVerdict hu.finishHead
            · exact hu.homeFailed
      exact hv.goOn

theorem Keeps.ltFrame {i : Nat} {o : TrainObs} (h : Keeps onLane s₀ s) : Keeps onLane s₀ (s.ltFrame i o) := by
  unfold State.ltFrame
  split; exacts [h.ltFailed, Keeps.ite h.updTx.updLt h]

theorem Keeps.trainingFrame {g k sd p : Nat} {o : TrainObs} (h : Keeps onLane s₀ s) :
    Keeps onLane s₀ (s.trainingFrame g k sd p o) := by
  unfold State.trainingFrame
  extract_lets +onlyGivenNames _
  split
  · exact h
  · split
    · exact h.ltFrame
    · split
      · exact h
      · split
        · exact h
        · extract_lets +onlyGivenNames _
          split
          · exact Keeps.ite h h.frameSeen.segEval.goOn
          · split
            · exact h.frameSeen.segEval.goOn
            · split
              · exact h.frameSeen.linkSeen.segEval.goOn
              · split
                · exact Keeps.ite h h.holdRestart.frameSeen.segEval.goOn
                · exact Keeps.ite h.segLost.goOn h

theorem Keeps.replaceLane {g sd n : Nat} (h : Keeps onLane s₀ s) : Keeps onLane s₀ (s.replaceLane g sd n) := by
  unfold State.replaceLane
  split
  · exact h.setMap.settleSpares.trainLane.trainFrame
  · exact h

theorem Keeps.replaceLanes {g sd : Nat} (h : Keeps onLane s₀ s) : Keeps onLane s₀ (s.replaceLanes g sd) := by
  unfold State.replaceLanes
  exact (h.each (fun _ k => k.replaceLane)).setWidth

theorem Keeps.widthWait {g sd : Nat} (h : Keeps onLane s₀ s) : Keeps onLane s₀ (s.widthWait g sd) := by
  unfold State.widthWait
  exact Keeps.ite h.replaceLanes.enterEq.trainFrames.segEval.goOn h

theorem Keeps.moveTap {i k : Nat} {d : Int} (h : Keeps onLane s₀ s) : Keeps onLane s₀ (s.moveTap i k d) := by
  unfold State.moveTap
  exact Keeps.ite h.updTx.emit h.emit

theorem Keeps.coefRequest {i : Nat} {r : CoefReq} (h : Keeps onLane s₀ s) : Keeps onLane s₀ (s.coefRequest i r) := by
  unfold State.coefRequest
  split
  · exact h.emit
  · exact h.moveTap
  · exact h.moveTap
  · exact h.updTx.emit

theorem Keeps.receiverReady {i : Nat} (h : Keeps onLane s₀ s) : Keeps onLane s₀ (s.receiverReady i) := by
  unfold State.receiverReady
  extract_lets +onlyGivenNames _ t
  have ht : Keeps onLane s₀ t := h.updRx
  split
  · exact ht.updLt.sendLt
  · split; exacts [ht.updSeg.trainFrame.segEval.goOn, ht]

theorem Keeps.requesterNext {i : Nat} {q : Req} (h : Keeps onLane s₀ s) : Keeps onLane s₀ (s.requesterNext i q) := by
  unfold State.requesterNext
  extract_lets +onlyGivenNames _ _
  split; exacts [h.updRx.emit, h.receiverReady]

theorem Keeps.coefStatus {i : Nat} {st : CoefStat} {snr : Nat} (h : Keeps onLane s₀ s) :
    Keeps onLane s₀ (s.coefStatus i st snr) := by
  unfold State.coefStatus
  split
  · exact h
  · split
    · exact h.requesterNext
    · split
      · exact h.requesterNext
      · extract_lets +onlyGivenNames _
        split
        · exact h.requesterNext
        · exact Keeps.ite h.updRx.emit h.updRx.emit

theorem Keeps.eqTimeout {g sd k : Nat} (h : Keeps onLane s₀ s) : Keeps onLane s₀ (s.eqTimeout g sd k) := by
  unfold State.eqTimeout
  exact Keeps.ite (Keeps.goOn (Keeps.segEval (Keeps.ite h.settleWidth h.enterBackoff))) h

theorem Keeps.alignTimeout {g sd : Nat} (h : Keeps onLane s₀ s) : Keeps onLane s₀ (s.alignTimeout g sd) := by
  unfold State.alignTimeout
  exact Keeps.ite h.enterBackoff.segEval.goOn h

theorem Keeps.backoffEnds {g sd k : Nat} (h : Keeps onLane s₀ s) : Keeps onLane s₀ (s.backoffEnds g sd k) := by
  unfold State.backoffEnds
  exact Keeps.ite h.startAttempt.segEval.goOn h

theorem Keeps.losTimeout {g sd k : Nat} (h : Keeps onLane s₀ s) : Keeps onLane s₀ (s.losTimeout g sd k) := by
  unfold State.losTimeout
  exact Keeps.ite h.segLost.goOn h

theorem Keeps.ethLoss {g sd k : Nat} (h : Keeps onLane s₀ s) : Keeps onLane s₀ (s.ethLoss g sd k) := by
  unfold State.ethLoss
  exact Keeps.ite h.segLost.goOn h

theorem Keeps.markerLoss {g sd k : Nat} (h : Keeps onLane s₀ s) : Keeps onLane s₀ (s.markerLoss g sd k) := by
  unfold State.markerLoss
  exact Keeps.ite h.segLost.goOn h

theorem Keeps.fillEnds {g sd k : Nat} (h : Keeps onLane s₀ s) : Keeps onLane s₀ (s.fillEnds g sd k) := by
  unfold State.fillEnds
  exact Keeps.ite h.updSeg h

theorem Keeps.ltDone {i : Nat} (h : Keeps onLane s₀ s) : Keeps onLane s₀ (s.ltDone i) := by
  unfold State.ltDone
  split; exacts [Keeps.ite h.trainedLane.setLt h, h]

theorem Keeps.shadowStart {i : Nat} (h : Keeps onLane s₀ s) : Keeps onLane s₀ (s.shadowStart i) := by
  unfold State.shadowStart
  split; exacts [Keeps.ite h.setLt.updEng.goOn h, h]

theorem Keeps.popLanemap {g sd : Nat} (h : Keeps onLane s₀ s) : Keeps onLane s₀ (s.popLanemap g sd) := by
  unfold State.popLanemap
  exact h.updEng

theorem Keeps.proposed {g sd : Nat} {w : BitVec 64} (h : Keeps onLane s₀ s) :
    Keeps onLane s₀ (s.proposed g sd w) := by
  unfold State.proposed
  exact Keeps.ite h.queueLanemap h.queueLanemap.pushJob.goOn

theorem Keeps.answered' {g sd : Nat} {w : BitVec 64} {accept : Bool} (h : Keeps onLane s₀ s) :
    Keeps onLane s₀ (s.answered' g sd w accept) := by
  unfold State.answered'
  split
  · split; exacts [h, Keeps.ite h.updPart h.changeFail.goOn]
  · exact h

theorem Keeps.noticed {g sd : Nat} {w : BitVec 64} (h : Keeps onLane s₀ s) : Keeps onLane s₀ (s.noticed g sd w) := by
  unfold State.noticed
  split; exacts [Keeps.ite h.updPort h, h]

theorem Keeps.endToEndEnds {g : Nat} (h : Keeps onLane s₀ s) : Keeps onLane s₀ (s.endToEndEnds g) := by
  unfold State.endToEndEnds
  split; exacts [Keeps.ite h.changeFail h, h]

theorem Keeps.endToEnd {g : Nat} {w : BitVec 64} (h : Keeps onLane s₀ s) : Keeps onLane s₀ (s.endToEnd g w) := by
  unfold State.endToEnd
  exact Keeps.ite h.endToEndEnds.updPort h

theorem Keeps.proposeAgain {g sd : Nat} (h : Keeps onLane s₀ s) : Keeps onLane s₀ (s.proposeAgain g sd) := by
  unfold State.proposeAgain
  split
  · split
    · exact h
    · exact Keeps.ite h.updPart.sendPropose h.changeFail.goOn
  · exact h

theorem Keeps.changeTimeout {g : Nat} (h : Keeps onLane s₀ s) : Keeps onLane s₀ (s.changeTimeout g) := by
  unfold State.changeTimeout
  split; exacts [Keeps.ite h.changeFail.goOn h, h]

theorem Keeps.changeTimeoutTg {g : Nat} (h : Keeps onLane s₀ s) : Keeps onLane s₀ (s.changeTimeoutTg g) := by
  unfold State.changeTimeoutTg
  exact Keeps.ite h h.changeFail.goOn

theorem Keeps.retryEscalation {g : Nat} (h : Keeps onLane s₀ s) : Keeps onLane s₀ (s.retryEscalation g) := by
  unfold State.retryEscalation
  split; exacts [h.updPort.pushFront.goOn, h]

theorem Keeps.fgDone {fn : LaneFn} {i : Nat} {results : List FgResult} (h : Keeps false s₀ s) :
    Keeps false s₀ (s.fgDone fn i results) := by
  unfold State.fgDone
  extract_lets +onlyGivenNames _
  split
  · extract_lets +onlyGivenNames t u
    have ht : Keeps false s₀ t := by
      unfold t
      split
      · exact h.fgRxDone.requesterGo
      · exact h.fgTxDone.framesStart.requesterGo
    have hu : Keeps false s₀ u := ht.put
    split
    · exact Keeps.ite hu hu.withBistHeld.bring.startReturn.goOn
    · exact hu
  · exact h

theorem Keeps.warnHoldover {e : Nat} (h : Keeps false s₀ s) : Keeps false s₀ (s.warnHoldover e) := by
  unfold State.warnHoldover
  exact Keeps.ite h h.updPll.raise

theorem Keeps.enterHoldover {e : Nat} (h : Keeps onLane s₀ s) : Keeps onLane s₀ (s.enterHoldover e) := by
  unfold State.enterHoldover
  exact h.put.put

theorem Keeps.failover {e : Nat} (h : Keeps false s₀ s) : Keeps false s₀ (s.failover e) := by
  unfold State.failover
  split
  · exact h.enterHoldover.put.updPll.raise
  · exact h.enterHoldover.warnHoldover

theorem Keeps.pllTakes {e : Nat} {f : Int} (h : Keeps false s₀ s) : Keeps false s₀ (s.pllTakes e f) := by
  unfold State.pllTakes
  exact h.put.put.updPll

theorem Keeps.pllLocked {e : Nat} (h : Keeps false s₀ s) : Keeps false s₀ (s.pllLocked e) := by
  unfold State.pllLocked
  split
  · exact Keeps.ite h.pllTakes h
  · extract_lets +onlyGivenNames t
    have ht : Keeps false s₀ t := Keeps.ite h.failover h
    split; exacts [Keeps.ite ht.pllTakes ht, ht]

theorem Keeps.timingListWrite {e half : Nat} {v : Word} (h : Keeps false s₀ s) :
    Keeps false s₀ (s.timingListWrite e half v) := by
  unfold State.timingListWrite
  exact Keeps.ite h.setReg.failover h.setReg

theorem Keeps.timingMode {e v : Nat} (h : Keeps onLane s₀ s) : Keeps onLane s₀ (s.timingMode e v) := by
  unfold State.timingMode
  split; exacts [h, Keeps.ite h.raise h.put.put]

theorem Keeps.refclkLoss (h : Keeps false s₀ s) : Keeps false s₀ s.refclkLoss := by
  unfold State.refclkLoss
  split
  · extract_lets +onlyGivenNames _ t u
    have ht : Keeps false s₀ t := h.setCounter
    have hu : Keeps false s₀ u := ht.put.raise.causeOn.put.put
    exact (hu.each (fun _ k => Keeps.ite k.enterHoldover.warnHoldover k)).suspendBegin
  · exact h

theorem Keeps.timeOn {n : Nat} (h : Keeps onLane s₀ s) : Keeps onLane s₀ (s.timeOn n) := by
  unfold State.timeOn
  exact h.setCounter

theorem Keeps.refclkReturn (h : Keeps false s₀ s) : Keeps false s₀ s.refclkReturn := by
  unfold State.refclkReturn
  exact Keeps.ite h h.timeOn.put.put.causeOff.put.put.suspendEnd

theorem Keeps.bistAccept (h : Keeps onLane s₀ s) : Keeps onLane s₀ s.bistAccept := by
  unfold State.bistAccept
  split
  · split
    · exact h
    · exact Keeps.ite h.withBist.noteBist h.withBist.opDone
  · exact h

theorem Keeps.bistAdd {r : BistRun} (h : Keeps onLane s₀ s) : Keeps onLane s₀ (s.bistAdd r) := by
  unfold State.bistAdd
  exact Keeps.ite h.withBist.bistAccept h.withBist

theorem Keeps.bistStage {st : BistStage} (h : Keeps onLane s₀ s) : Keeps onLane s₀ (s.bistStage st) := by
  unfold State.bistStage
  exact h.updBist

theorem Keeps.loopbackDirect {x : BistSlice} (h : Keeps onLane s₀ s) : Keeps onLane s₀ (s.loopbackDirect x) := by
  unfold State.loopbackDirect
  exact h.withBistHeld.bistStage.endCycles.goOn

theorem Keeps.scanStart {x : BistSlice} (h : Keeps onLane s₀ s) : Keeps onLane s₀ (s.scanStart x) := by
  unfold State.scanStart
  exact ((h.each (fun _ k => k.setKey)).each (fun _ k => k.zeroEngine)).bistStage

theorem Keeps.sliceGo (h : Keeps onLane s₀ s) : Keeps onLane s₀ s.sliceGo := by
  unfold State.sliceGo
  split
  · split
    · exact h
    · split
      · exact h
      · split
        · exact h.bistVerdict
        · split
          · split
            · exact h.bistStage.pushJob.goOn
            · exact h.loopbackDirect
          · exact Keeps.ite h.bistStage h.scanStart
  · exact h

theorem Keeps.sliceStart (h : Keeps onLane s₀ s) : Keeps onLane s₀ s.sliceStart := by
  unfold State.sliceStart
  exact h.bistAccept.sliceGo

theorem Keeps.sliceEnds {verdict us detail : Nat} {ran : Bool} (h : Keeps onLane s₀ s) :
    Keeps onLane s₀ (s.sliceEnds verdict us detail ran) := by
  unfold State.sliceEnds
  exact h.bistVerdict.goOn

theorem Keeps.loopPassed {x : BistSlice} {us detail : Nat} (h : Keeps onLane s₀ s) :
    Keeps onLane s₀ (s.loopPassed x us detail) := by
  unfold State.loopPassed
  split
  · split
    · exact h.unhold.bring.dropHead.settleSpares.sliceEnds
    · exact h.withBistHeld.updBist.bring.startReturn.goOn
  · exact h.sliceEnds

theorem Keeps.loopFailed {x : BistSlice} {verdict us detail : Nat} (h : Keeps onLane s₀ s) :
    Keeps onLane s₀ (s.loopFailed x verdict us detail) := by
  unfold State.loopFailed
  extract_lets +onlyGivenNames _ t u
  have ht : Keeps onLane s₀ t := h.withIsolated.leSet.leSet
  have hu : Keeps onLane s₀ u := by
    unfold u
    split
    · exact ht.unhold.bring.dropHead.settleSpares
    · exact ht
  exact hu.sliceEnds

theorem Keeps.loopbackDone {r : LoopResult} (h : Keeps onLane s₀ s) : Keeps onLane s₀ (s.loopbackDone r) := by
  unfold State.loopbackDone
  split
  · exact Keeps.ite (Keeps.ite h.loopPassed h.loopFailed) h
  · exact h

theorem Keeps.bistRef (h : Keeps onLane s₀ s) : Keeps onLane s₀ s.bistRef := by
  unfold State.bistRef
  split
  · split
    · extract_lets +onlyGivenNames t
      have ht : Keeps onLane s₀ t := by
        unfold t
        split; exacts [h.bring.giveLane, h]
      exact ht.bistCut.goOn
    · extract_lets +onlyGivenNames t
      have ht : Keeps onLane s₀ t := by
        unfold t
        split
        · exact h.bring.giveLane
        · exact h.each (fun _ k => k.updPort)
      exact ht.bistCut.goOn
    · split; exacts [h.bring.giveLane.bistCut.goOn, h]
  · exact h

theorem Keeps.rotateDone (h : Keeps onLane s₀ s) : Keeps onLane s₀ s.rotateDone := by
  unfold State.rotateDone
  split; exacts [h.put.bistStage, h]

theorem Keeps.bankRetire {x : BistSlice} (h : Keeps onLane s₀ s) : Keeps onLane s₀ (s.bankRetire x) := by
  unfold State.bankRetire
  exact h.put.put.causeOn.raise

theorem Keeps.marchDone {r : MarchResult} (h : Keeps onLane s₀ s) : Keeps onLane s₀ (s.marchDone r) := by
  unfold State.marchDone
  split
  · exact Keeps.ite h.sliceEnds h.bankRetire.sliceEnds
  · exact h

theorem Keeps.scanVerdict {x : BistSlice} {pass : Bool} (h : Keeps onLane s₀ s) :
    Keeps onLane s₀ (s.scanVerdict x pass) := by
  unfold State.scanVerdict
  extract_lets +onlyGivenNames t
  have ht : Keeps onLane s₀ t := h.each (fun _ k => k.zeroEngine)
  split; exacts [ht.put, Keeps.ite ht.put.put ht.causeOn]

theorem Keeps.scanDone {r : ScanResult} (h : Keeps onLane s₀ s) : Keeps onLane s₀ (s.scanDone r) := by
  unfold State.scanDone
  split; exacts [h.scanVerdict.sliceEnds, h]

theorem Keeps.budgetExpiry (h : Keeps onLane s₀ s) : Keeps onLane s₀ s.budgetExpiry := by
  unfold State.budgetExpiry
  split
  · exact Keeps.ite h.freeDetail.loopFailed h
  · exact h.freeDetail.bankRetire.sliceEnds
  · exact h.freeDetail.scanVerdict.sliceEnds
  · exact h

theorem Keeps.discardFrame (h : Keeps onLane s₀ s) : Keeps onLane s₀ s.discardFrame := by
  unfold State.discardFrame
  exact h.count.raise

theorem Keeps.framing {f : Frame} (h : Keeps onLane s₀ s) : Keeps onLane s₀ (s.framing f) := by
  unfold State.framing
  exact Keeps.ite h h.countBy

theorem Keeps.badFrame {f : Frame} (h : Keeps onLane s₀ s) : Keeps onLane s₀ (s.badFrame f) := by
  unfold State.badFrame
  exact h.framing.discardFrame

theorem Keeps.sendFrame {p : OrbPort} {f : Frame} (h : Keeps onLane s₀ s) : Keeps onLane s₀ (s.sendFrame p f) := by
  unfold State.sendFrame
  exact Keeps.ite h.emit h

theorem Keeps.relayFrame {p : OrbPort} {f : Frame} (h : Keeps onLane s₀ s) : Keeps onLane s₀ (s.relayFrame p f) := by
  unfold State.relayFrame
  exact Keeps.ite h.framing.discardFrame h.framing.sendFrame

theorem Keeps.takeFrame {p : OrbPort} (h : Keeps onLane s₀ s) : Keeps onLane s₀ (s.takeFrame p) := by
  unfold State.takeFrame
  exact Keeps.ite h.emit h

theorem Keeps.consume {p : OrbPort} {f : Frame} {own : State → State} (h : Keeps onLane s₀ s)
    (hown : ∀ {t}, Keeps onLane s₀ t → Keeps onLane s₀ (own t)) :
    Keeps onLane s₀ (s.consume p f own) := by
  unfold State.consume
  exact Keeps.ite (hown h.takeFrame) h.takeFrame.badFrame

theorem Keeps.atWorker {p : OrbPort} {f : Frame} {own : State → State} (h : Keeps onLane s₀ s)
    (hown : ∀ {t}, Keeps onLane s₀ t → Keeps onLane s₀ (own t)) :
    Keeps onLane s₀ (s.atWorker p f own) := by
  unfold State.atWorker
  exact Keeps.ite (Keeps.ite (h.consume hown) h.relayFrame) h

theorem Keeps.relayPri {p : OrbPort} {lead : Nat} {q : PriSeq} (h : Keeps onLane s₀ s) :
    Keeps onLane s₀ (s.relayPri p lead q) := by
  unfold State.relayPri
  exact Keeps.ite h.emit h

theorem Keeps.notePri {q : PriSeq} (h : Keeps onLane s₀ s) : Keeps onLane s₀ (s.notePri q) := by
  unfold State.notePri
  exact Keeps.ite h h.countBy

theorem Keeps.workerSend (h : Keeps onLane s₀ s) : Keeps onLane s₀ s.workerSend := by
  unfold State.workerSend
  split; exacts [Keeps.ite h.withWaitq.sendFrame h, h]

theorem Keeps.noteUnits (h : Keeps onLane s₀ s) : Keeps onLane s₀ s.noteUnits := by
  unfold State.noteUnits
  exact h.put

theorem Keeps.leaveEmpty {p : OrbPort} (h : Keeps false s₀ s) : Keeps false s₀ (s.leaveEmpty p) := by
  unfold State.leaveEmpty
  extract_lets n
  exact Keeps.when (h.updOrbStores (fun k => Sparse.wf_set _ _ k) id) fun k => k.emit

theorem Keeps.mgrFrame {p : OrbPort} {dest ftype tag : Nat} {payload : List Byte} (h : Keeps false s₀ s) :
    Keeps false s₀ (s.mgrFrame p dest ftype tag payload) := by
  unfold State.mgrFrame
  exact Keeps.ite h h.leaveEmpty.emit

theorem Keeps.sendReq {q idx target ftype : Nat} {payload image : List Byte} (h : Keeps false s₀ s) :
    Keeps false s₀ (s.sendReq q idx target ftype payload image) := by
  unfold State.sendReq
  split; exacts [h.updOrb.mgrFrame.updFlight, h]

theorem Keeps.updReq {target tag : Nat} {f : OrbReq → OrbReq} (h : Keeps false s₀ s) :
    Keeps false s₀ (s.updReq target tag f) := by
  unfold State.updReq
  exact h.updOrb

theorem Keeps.endReq {r : OrbReq} {status result : Nat} (h : Keeps false s₀ s) :
    Keeps false s₀ (s.endReq r status result) := by
  unfold State.endReq
  exact h.updOrb.answerFlight

theorem Keeps.priSend {p : PriOut} (h : Keeps onLane s₀ s) : Keeps onLane s₀ (s.priSend p) := by
  unfold State.priSend
  exact Keeps.ite h (h.foldl (fun _ k => k.emit))

theorem Keeps.priOutcome {p : PriOut} {answered : Bool} (h : Keeps false s₀ s) :
    Keeps false s₀ (s.priOutcome p answered) := by
  unfold State.priOutcome
  extract_lets +onlyGivenNames _ _
  split
  · split; exacts [h.opDone, h]
  · split; exacts [h.withEcliDone, h]
  · exact Keeps.ite h.put.put.put.put h.put.put
  · exact h.opDone

theorem Keeps.priStart {lead : Nat} {data : List Byte} {mine : Option Nat} {owner : Owner} (h : Keeps false s₀ s) :
    Keeps false s₀ (s.priStart lead data mine owner) := by
  unfold State.priStart
  exact Keeps.ite h.priOutcome h.updOrb.priSend

theorem Keeps.priBack {p : PriOut} {left : OrbPort} {applied refused rstat : Nat} (h : Keeps false s₀ s) :
    Keeps false s₀ (s.priBack p left applied refused rstat) := by
  unfold State.priBack
  exact Keeps.ite h.updOrb.priOutcome h.updOrb

theorem Keeps.priAgain {p : PriOut} (h : Keeps false s₀ s) : Keeps false s₀ (s.priAgain p) := by
  unfold State.priAgain
  exact Keeps.ite h.updOrb.priOutcome h.updOrb.updOrb.priSend

theorem Keeps.priReturn {p : OrbPort} {q : PriSeq} (h : Keeps false s₀ s) : Keeps false s₀ (s.priReturn p q) := by
  unfold State.priReturn
  split
  · extract_lets +onlyGivenNames t
    have ht : Keeps false s₀ t := h.notePri
    split
    · exact ht.priBack
    · split; exacts [ht.priAgain, ht]
  · exact h

theorem Keeps.priTimeout (h : Keeps false s₀ s) : Keeps false s₀ s.priTimeout := by
  unfold State.priTimeout
  split
  · split; exacts [h.priAgain, h]
  · exact h

theorem Keeps.sendDelays (h : Keeps false s₀ s) : Keeps false s₀ s.sendDelays := by
  unfold State.sendDelays
  exact (h.each (fun _ k => k.mgrFrame)).put

theorem Keeps.probe {a : Nat} {reverse : Bool} (h : Keeps false s₀ s) : Keeps false s₀ (s.probe a reverse) := by
  unfold State.probe
  exact h.mgrFrame.when (fun k => k.emit)

theorem Keeps.sendEnum {p : OrbPort} {retry : Bool} (h : Keeps false s₀ s) : Keeps false s₀ (s.sendEnum p retry) := by
  unfold State.sendEnum
  exact h.mgrFrame

theorem Keeps.setSeq {q : SeqSt} (h : Keeps false s₀ s) : Keeps false s₀ (s.setSeq q) := by
  unfold State.setSeq
  exact h.updOrb.put

theorem Keeps.forgetAsked (h : Keeps false s₀ s) : Keeps false s₀ s.forgetAsked := by
  unfold State.forgetAsked
  exact h.updOrb

theorem Keeps.sendMap {p : OrbPort} (h : Keeps false s₀ s) : Keeps false s₀ (s.sendMap p) := by
  unfold State.sendMap
  exact h.mgrFrame

theorem Keeps.foldStart (h : Keeps false s₀ s) : Keeps false s₀ s.foldStart := by
  unfold State.foldStart
  exact h.updOrb.setSeq.sendMap.sendMap

theorem Keeps.seqNext (h : Keeps false s₀ s) : Keeps false s₀ s.seqNext := by
  unfold State.seqNext
  split
  · exact h.setSeq
  · split
    · extract_lets +onlyGivenNames t
      have ht : Keeps false s₀ t := h.updOrbStores id fun _ => rfl
      split
      · exact ht.sendDelays.put.setSeq
      · exact ht.setSeq.probe
    · split
      · exact h.updOrb.setSeq
      · split
        · exact h.updOrb.forgetAsked.setSeq.sendEnum
        · exact h.setSeq

theorem Keeps.seqGo (h : Keeps false s₀ s) : Keeps false s₀ s.seqGo := by
  unfold State.seqGo
  exact Keeps.ite h.seqNext h

theorem Keeps.measureStep (h : Keeps false s₀ s) : Keeps false s₀ s.measureStep := by
  unfold State.measureStep
  split
  · exact h.setSeq.probe
  · exact h.sendDelays.put.setSeq.seqNext
  · exact h

theorem Keeps.enumEnd {retry : Bool} (h : Keeps false s₀ s) : Keeps false s₀ (s.enumEnd retry) := by
  unfold State.enumEnd
  extract_lets +onlyGivenNames t u
  have ht : Keeps false s₀ t := h.noteUnits
  have hu : Keeps false s₀ u := Keeps.ite ht (ht.each (fun _ k => k.put))
  exact hu.updOrb.put.setSeq.seqNext

theorem Keeps.enumBack {f : Frame} (h : Keeps false s₀ s) : Keeps false s₀ (s.enumBack f) := by
  unfold State.enumBack
  extract_lets +onlyGivenNames t
  have ht : Keeps false s₀ t := Keeps.ite h h.updOrb
  split
  · exact ht.setSeq.sendEnum
  · exact Keeps.ite ht.enumEnd ht.setSeq
  · exact ht

theorem Keeps.unitGone {a : Nat} (h : Keeps false s₀ s) : Keeps false s₀ (s.unitGone a) := by
  unfold State.unitGone
  exact h.put.raise.each (fun _ k => k.endReq)

theorem Keeps.foldEnd (h : Keeps false s₀ s) : Keeps false s₀ s.foldEnd := by
  unfold State.foldEnd
  extract_lets +onlyGivenNames _ t u
  have ht : Keeps false s₀ t := h.each (fun _ k => by
    split; exacts [k.put, Keeps.ite k.put k.unitGone])
  have hu : Keeps false s₀ u := ht.noteUnits.put.raise.count.updOrb
  exact hu.setSeq.seqNext

theorem Keeps.foldTrain {left : OrbPort} (h : Keeps false s₀ s) : Keeps false s₀ (s.foldTrain left) := by
  unfold State.foldTrain
  split; exacts [Keeps.ite h.foldEnd h.setSeq, h]

theorem Keeps.joinArms (h : Keeps onLane s₀ s) : Keeps onLane s₀ s.joinArms := by
  unfold State.joinArms
  exact h.each (fun _ k => Keeps.ite k.put k.put)

theorem Keeps.healed (h : Keeps false s₀ s) : Keeps false s₀ s.healed := by
  unfold State.healed
  exact ((((((h.mgrFrame.joinArms.each (fun _ k => k.put)).put).put).raise).updOrb).setSeq).seqNext

theorem Keeps.mapReturn {f : Frame} (h : Keeps false s₀ s) : Keeps false s₀ (s.mapReturn f) := by
  unfold State.mapReturn
  split
  · exact h
  · split
    · exact h.badFrame
    · split
      · exact h.updOrb.foldTrain
      · exact Keeps.ite h.updOrb.healed h.foldStart
      · exact h

theorem Keeps.healResume (h : Keeps false s₀ s) : Keeps false s₀ s.healResume := by
  unfold State.healResume
  exact Keeps.ite (((h.each (fun _ k => k.mgrFrame)).setSeq).sendMap) h

theorem Keeps.ringBroken (h : Keeps false s₀ s) : Keeps false s₀ s.ringBroken := by
  unfold State.ringBroken
  split; exacts [h, Keeps.ite h h.raise.foldStart]

theorem Keeps.foreign (h : Keeps false s₀ s) : Keeps false s₀ s.foreign := by
  unfold State.foreign
  exact Keeps.ite h (h.put.setSeq.raise.causeOn.onsetIfNew.each (fun _ k => k.endReq))

theorem Keeps.beaconHome (h : Keeps onLane s₀ s) : Keeps onLane s₀ s.beaconHome := by
  unfold State.beaconHome
  exact h.when (fun k => k.put)

theorem Keeps.beacon {p : OrbPort} {q : PriSeq} (h : Keeps false s₀ s) : Keeps false s₀ (s.beacon p q) := by
  unfold State.beacon
  split
  · exact Keeps.ite h.notePri.relayPri.emit h.notePri.relayPri
  · split
    · extract_lets +onlyGivenNames t
      have ht : Keeps false s₀ t := h.notePri
      split
      · exact ht
      · split
        · exact ht.foreign
        · exact Keeps.ite ht.ringBroken ht.beaconHome
    · exact h

theorem Keeps.beaconPeriod (h : Keeps false s₀ s) : Keeps false s₀ s.beaconPeriod := by
  unfold State.beaconPeriod
  exact Keeps.ite h.emit.emit.updOrb h

theorem Keeps.mark {p : OrbPort} {tenths : Nat} (h : Keeps false s₀ s) : Keeps false s₀ (s.mark p tenths) := by
  unfold State.mark
  split
  · extract_lets t
    have ht : Keeps false s₀ t := Keeps.ite h.updOrb.emit h
    exact Keeps.ite ht.emit ht
  · split
    · split
      · refine Keeps.ite (Keeps.measureStep ?_) h
        exact h.updOrbStores id (by exact Sparse.wf_set (d := fun _ => (0, 0)) _ _)
      · exact h
    · exact h

theorem Keeps.portLoss {p : OrbPort} (h : Keeps false s₀ s) : Keeps false s₀ (s.portLoss p) := by
  unfold State.portLoss
  split
  · exact h
  · extract_lets +onlyGivenNames t u
    have ht : Keeps false s₀ t := h.put.raise
    have hu : Keeps false s₀ u := ht.updOrb
    split
    · exact hu
    · exact Keeps.ite hu.put.put hu.put.put.updOrb

theorem Keeps.portRestored {p : OrbPort} (h : Keeps false s₀ s) : Keeps false s₀ (s.portRestored p) := by
  unfold State.portRestored
  split
  · exact h
  · extract_lets +onlyGivenNames t
    have ht : Keeps false s₀ t := h.put.raise
    split
    · exact ht
    · split; exacts [ht.updOrb, Keeps.ite ht.put ht]

theorem Keeps.frameReturn {p : OrbPort} {f : Frame} (h : Keeps false s₀ s) : Keeps false s₀ (s.frameReturn p f) := by
  unfold State.frameReturn
  split
  · exact h
  · split
    · exact h.badFrame
    · split
      · split; exacts [Keeps.ite h h.endReq, h]
      · split; exacts [Keeps.ite h h.endReq, h]
      · split; exacts [h.priBack, h]
      · exact h.enumBack
      · exact h.mapReturn
      · exact h.measureStep
      · exact h

theorem Keeps.lapse {r : OrbReq} (h : Keeps false s₀ s) : Keeps false s₀ (s.lapse r) := by
  unfold State.lapse
  exact h.updOrb.endReq

theorem Keeps.respTimeout {target tag : Nat} (h : Keeps false s₀ s) : Keeps false s₀ (s.respTimeout target tag) := by
  unfold State.respTimeout
  split
  · exact h
  · split
    · split
      · exact h.foldTrain
      · exact Keeps.ite h.foldStart h
      · exact Keeps.ite h.forgetAsked.enumEnd h
      · exact h
    · split
      · split; exacts [h.updOrb.priOutcome, h]
      · split; exacts [Keeps.ite h h.lapse, h]

theorem Keeps.askEnum {retry : Bool} (h : Keeps false s₀ s) : Keeps false s₀ (s.askEnum retry) := by
  unfold State.askEnum
  exact Keeps.ite h.put.updOrb.seqGo h

theorem Keeps.askMeasure (h : Keeps false s₀ s) : Keeps false s₀ s.askMeasure := by
  unfold State.askMeasure
  exact Keeps.ite h.put.updOrb.seqGo h

theorem Keeps.askHeal (h : Keeps false s₀ s) : Keeps false s₀ s.askHeal := by
  unfold State.askHeal
  exact Keeps.ite h.updOrb.seqGo h

theorem Keeps.releaseAddr {a : Nat} (h : Keeps false s₀ s) : Keeps false s₀ (s.releaseAddr a) := by
  unfold State.releaseAddr
  exact Keeps.ite h.setReg.updOrb h

theorem Keeps.passFrame {p : OrbPort} {f : Frame} (h : Keeps onLane s₀ s) : Keeps onLane s₀ (s.passFrame p f) := by
  unfold State.passFrame
  exact (h.when (fun k => k.discardFrame)).relayFrame

theorem Keeps.enumFrame {p : OrbPort} {f : Frame} (h : Keeps false s₀ s) : Keeps false s₀ (s.enumFrame p f) := by
  unfold State.enumFrame
  split
  · exact h
  · split
    · exact h.passFrame
    · exact Keeps.ite h.badFrame h.updOrb.put.sendFrame

theorem Keeps.mapPresent {a x arm : Nat} {p : OrbPort} (h : Keeps onLane s₀ s) :
    Keeps onLane s₀ (s.mapPresent a x arm p) := by
  unfold State.mapPresent
  exact h.put.put.put.noteUnits

theorem Keeps.enumAns {f : Frame} (h : Keeps false s₀ s) : Keeps false s₀ (s.enumAns f) := by
  unfold State.enumAns
  split
  · extract_lets serial send
    have hsend : ∀ {t : State} {a : Nat}, Keeps false s₀ t → Keeps false s₀ (send t a) := fun k => k.mgrFrame.sendEnum
    split
    · split
      · exact hsend h
      · exact hsend h.updOrb.mapPresent
    · exact hsend h.raise
  · exact h

theorem Keeps.ackSeen (h : Keeps false s₀ s) : Keeps false s₀ s.ackSeen := by
  unfold State.ackSeen
  split; exacts [Keeps.ite h.enumEnd h, h]

theorem Keeps.assignAck {f : Frame} (h : Keeps false s₀ s) : Keeps false s₀ (s.assignAck f) := by
  unfold State.assignAck
  split; exacts [h.updOrb.raise.ackSeen, h]

theorem Keeps.atManager {f : Frame} {own : State → State} (h : Keeps onLane s₀ s)
    (hown : ∀ {t}, Keeps onLane s₀ t → Keeps onLane s₀ (own t)) :
    Keeps onLane s₀ (s.atManager f own) := by
  unfold State.atManager
  exact Keeps.ite (Keeps.ite (hown h) h.badFrame) h

theorem Keeps.assign {f : Frame} (h : Keeps false s₀ s) : Keeps false s₀ (s.assign f) := by
  unfold State.assign
  split
  · exact h
  · extract_lets +onlyGivenNames t
    have ht : Keeps false s₀ t := h.updOrb
    split
    · exact ht.put
    · exact ht.put.put.put.ownFrame.each (fun _ k => Keeps.ite k k.readyEvent)

theorem Keeps.castFrame {p : OrbPort} {f : Frame} {own : State → State} (h : Keeps onLane s₀ s)
    (hown : ∀ {t}, Keeps onLane s₀ t → Keeps onLane s₀ (own t)) :
    Keeps onLane s₀ (s.castFrame p f own) := by
  unfold State.castFrame
  split
  · split
    · exact Keeps.relayFrame (Keeps.ite (hown h) h.discardFrame)
    · exact Keeps.ite (h.consume hown) h.relayFrame
  · exact h

theorem Keeps.mapFrame {p : OrbPort} {f : Frame} (h : Keeps onLane s₀ s) : Keeps onLane s₀ (s.mapFrame p f) := by
  unfold State.mapFrame
  split
  · exact h
  · exact Keeps.ite h.passFrame (Keeps.relayFrame (Keeps.ite h.put.put h.discardFrame))

theorem Keeps.setDelay {f : Frame} (h : Keeps onLane s₀ s) : Keeps onLane s₀ (s.setDelay f) := by
  unfold State.setDelay
  exact h.put.put.put

theorem Keeps.writeHeal (h : Keeps onLane s₀ s) : Keeps onLane s₀ s.writeHeal := by
  unfold State.writeHeal
  exact Keeps.ite h.put h

theorem Keeps.unwrap (h : Keeps false s₀ s) : Keeps false s₀ s.unwrap := by
  unfold State.unwrap
  exact h.put.put.updOrb

theorem Keeps.abortFrame {p : OrbPort} {dest : Nat} (h : Keeps onLane s₀ s) :
    Keeps onLane s₀ (s.abortFrame p dest) := by
  unfold State.abortFrame
  split
  · extract_lets +onlyGivenNames t
    have ht : Keeps onLane s₀ t := h.count.when (fun k => k.discardFrame)
    exact Keeps.ite ht.emit ht
  · exact h

theorem Keeps.streamAgain {g sd : Nat} (h : Keeps onLane s₀ s) : Keeps onLane s₀ (s.streamAgain g sd) := by
  unfold State.streamAgain
  exact h.each (fun _ k => Keeps.ite k.updTx k)

theorem Keeps.wakeDone {g : Nat} (h : Keeps onLane s₀ s) : Keeps onLane s₀ (s.wakeDone g) := by
  unfold State.wakeDone
  exact Keeps.ite h.put.updPort.raise.streamAgain.streamAgain h

theorem Keeps.cwGain {g sd : Nat} (h : Keeps onLane s₀ s) : Keeps onLane s₀ (s.cwGain g sd) := by
  unfold State.cwGain
  extract_lets +onlyGivenNames _ _
  split
  · extract_lets +onlyGivenNames _ t u v
    have ht : Keeps onLane s₀ t := h.each (fun _ k => Keeps.ite k.updRx k.updRx.leSet)
    have hu : Keeps onLane s₀ u := ht.put.put.updEng
    have hv : Keeps onLane s₀ v := hu.when (fun k => k.fillPair)
    exact hv.streamAgain.wakeDone
  · exact h

theorem Keeps.regain {g sd i : Nat} (h : Keeps onLane s₀ s) : Keeps onLane s₀ (s.regain g sd i) := by
  unfold State.regain
  exact Keeps.ite (h.deskew.when (fun k => k.updRx)) h

theorem Keeps.nameCheck {g sd i : Nat} (h : Keeps onLane s₀ s) : Keeps onLane s₀ (s.nameCheck g sd i) := by
  unfold State.nameCheck
  exact Keeps.ite h.updRx h

theorem Keeps.markerPort {g sd i : Nat} {gained : Bool} (h : Keeps onLane s₀ s) :
    Keeps onLane s₀ (s.markerPort g sd i gained) := by
  unfold State.markerPort
  extract_lets +onlyGivenNames t u
  have ht : Keeps onLane s₀ t := Keeps.ite h.regain h
  have hu : Keeps onLane s₀ u := Keeps.ite ht.followMarkers ht.rxObserve.nameCheck
  exact hu.cwGain.cwDropAll

theorem Keeps.markerCheck {sd p : Nat} {m : MarkerObs} (h : Keeps onLane s₀ s) :
    Keeps onLane s₀ (s.markerCheck sd p m) := by
  unfold State.markerCheck
  extract_lets +onlyGivenNames _
  split
  · extract_lets +onlyGivenNames _ _ _ _ _ t u
    have ht : Keeps onLane s₀ t := h.updRx.put
    have hu : Keeps onLane s₀ u := by
      unfold u
      split
      · split
        · exact ht.markerPort
        · exact ht.foldl (fun _ k => Keeps.ite k.markerPort k)
      · exact ht.cwDropAll
    exact hu.goOn
  · exact h

theorem Keeps.histCount {i k : Nat} (h : Keeps onLane s₀ s) : Keeps onLane s₀ (s.histCount i k) := by
  unfold State.histCount
  exact h.satCount

theorem Keeps.countEnd {i changed : Nat} {ok : Bool} (h : Keeps onLane s₀ s) :
    Keeps onLane s₀ (s.countEnd i changed ok) := by
  unfold State.countEnd
  exact Keeps.ite (Keeps.histCount (Keeps.ite h h.countBy.count)) h.count.histCount

theorem Keeps.codeword {e g : Nat} {k : LaneN} {errors marked : List Nat} {msg : BitVec 5140}
    (h : Keeps onLane s₀ s) :
    Keeps onLane s₀ (s.codeword e g k errors marked msg) := by
  unfold State.codeword
  extract_lets +onlyGivenNames _ _
  split
  · exact h
  · extract_lets +onlyGivenNames _ _ _ _ _ t u v w x
    have ht : Keeps onLane s₀ t := h.count
    have hu : Keeps onLane s₀ u := Keeps.ite (Keeps.ite ht ht.count) ht.count.raise
    have hv : Keeps onLane s₀ v := Keeps.ite hu.count hu
    have hw : Keeps onLane s₀ w := hv.each (fun _ k => k.countEnd.updRx)
    have hx : Keeps onLane s₀ x := Keeps.ite hw hw.ethOut
    exact hx.updEng

theorem Keeps.ethLock {g k sd p : Nat} {locked codeword : Bool} {skew : Nat} (h : Keeps onLane s₀ s) :
    Keeps onLane s₀ (s.ethLock g k sd p locked codeword skew) := by
  unfold State.ethLock
  extract_lets +onlyGivenNames _
  split
  · extract_lets +onlyGivenNames _ _ t u
    have ht : Keeps onLane s₀ t := h.put.updRx
    have hu : Keeps onLane s₀ u := by
      unfold u
      split
      · exact ht.updSeg.noteEthLock.when (fun k => k.put)
      · exact Keeps.ite ht.ethDrop ht.noteEthLock
    exact hu.segEval.goOn
  · exact h

theorem Keeps.account {e : Nat} {l : List Words} (h : Keeps onLane s₀ s) : Keeps onLane s₀ (s.account e l) := by
  unfold State.account
  exact ((h.each (fun _ k => k.count)).each (fun _ k => k.count)).each (fun _ k => k.countBy)

theorem Keeps.parseData {e g : Nat} {f : Flit} {arrive : Nat} (h : Keeps onLane s₀ s) :
    Keeps onLane s₀ (s.parseData e g f arrive).1 := by
  unfold State.parseData
  exact Keeps.account (Keeps.ite h.updEng.count.raise h.updEng)

theorem Keeps.tagCheck {e g : Nat} {f : Flit} (h : Keeps onLane s₀ s) : Keeps onLane s₀ (s.tagCheck e g f).1 := by
  unfold State.tagCheck
  split
  · exact h
  · exact Keeps.ite h.count.raise.raise h.count.raise

theorem Keeps.pushDefer {e g : Nat} {x : Held} (h : Keeps onLane s₀ s) : Keeps onLane s₀ (s.pushDefer e g x) := by
  unfold State.pushDefer
  extract_lets +onlyGivenNames _
  split
  · exact Keeps.ite h.updEng.noteRetry.raise h.updEng.noteRetry
  · extract_lets +onlyGivenNames t
    have ht : Keeps onLane s₀ t := h.abandonAt
    exact Keeps.ite (Keeps.ite ht.updEng.noteRetry.raise ht.updEng.noteRetry) ht.count

theorem Keeps.deferFresh {e g : Nat} (h : Keeps onLane s₀ s) : Keeps onLane s₀ (s.deferFresh e g) := by
  unfold State.deferFresh
  split; exacts [h.updEng.pushDefer, h]

theorem Keeps.forward {e g : Nat} {x : Held} (h : Keeps onLane s₀ s) : Keeps onLane s₀ (s.forward e g x) := by
  unfold State.forward
  exact Keeps.ite h.deferFresh.updEng h.deferFresh.pushDefer

theorem Keeps.sendSnak {e g c : Nat} (h : Keeps onLane s₀ s) : Keeps onLane s₀ (s.sendSnak e g c) := by
  unfold State.sendSnak
  exact h.put.put.updEng.updEng.count.raise

theorem Keeps.seqDrop {e g : Nat} (h : Keeps onLane s₀ s) : Keeps onLane s₀ (s.seqDrop e g) := by
  unfold State.seqDrop
  exact h.count

theorem Keeps.flitFails {e g : Nat} (h : Keeps onLane s₀ s) : Keeps onLane s₀ (s.flitFails e g) := by
  unfold State.flitFails
  exact Keeps.ite h.seqDrop.sendSnak h.seqDrop

theorem Keeps.advanceRx {e g : Nat} (h : Keeps onLane s₀ s) : Keeps onLane s₀ (s.advanceRx e g) := by
  unfold State.advanceRx
  exact h.updEng.put.put.put

theorem Keeps.acceptSeq {e g : Nat} {f : Flit} {arrive : Nat} (h : Keeps onLane s₀ s) :
    Keeps onLane s₀ (s.acceptSeq e g f arrive) := by
  unfold State.acceptSeq
  extract_lets t r
  have hr : Keeps onLane s₀ r.1 := by
    unfold r
    split
    · exact h.tagCheck.parseData
    · exact h.tagCheck
  exact hr.advanceRx.forward

theorem Keeps.seqFlit {e g : Nat} {f : Flit} {arrive : Nat} (h : Keeps onLane s₀ s) :
    Keeps onLane s₀ (s.seqFlit e g f arrive) := by
  unfold State.seqFlit
  extract_lets +onlyGivenNames _
  split
  · exact h.acceptSeq
  · exact Keeps.ite h.flitFails h.seqDrop

theorem Keeps.crossSack {e g : Nat} {f : Flit} (h : Keeps onLane s₀ s) : Keeps onLane s₀ (s.crossSack e g f) := by
  unfold State.crossSack
  exact Keeps.ite h.updEng h

theorem Keeps.crossSnak {e g : Nat} {f : Flit} (h : Keeps onLane s₀ s) : Keeps onLane s₀ (s.crossSnak e g f) := by
  unfold State.crossSnak
  exact h.updEng

theorem Keeps.lanemapFlit {e g : Nat} {f : Flit} (h : Keeps onLane s₀ s) : Keeps onLane s₀ (s.lanemapFlit e g f) := by
  unfold State.lanemapFlit
  exact Keeps.ite h.raise h.updEng

theorem Keeps.lpCancel {g : Nat} (h : Keeps onLane s₀ s) : Keeps onLane s₀ (s.lpCancel g) := by
  unfold State.lpCancel
  exact h.lpClear.raise

theorem Keeps.lpObserve {e g : Nat} {f : Flit} (h : Keeps onLane s₀ s) : Keeps onLane s₀ (s.lpObserve e g f) := by
  unfold State.lpObserve
  split
  · extract_lets +onlyGivenNames _
    split
    · exact h.updPort
    · exact Keeps.ite h.put.updPort h
    · exact Keeps.ite h.updPort h
    · exact h
  · exact h

theorem Keeps.lpForward {e g : Nat} {f : Flit} (h : Keeps onLane s₀ s) : Keeps onLane s₀ (s.lpForward e g f) := by
  unfold State.lpForward
  split; exacts [h.lpObserve, Keeps.ite h.lpCancel h]

theorem Keeps.plainIn {e g : Nat} {f : Flit} {arrive : Nat} (h : Keeps onLane s₀ s) :
    Keeps onLane s₀ (s.plainIn e g f arrive) := by
  unfold State.plainIn
  extract_lets +onlyGivenNames _
  split
  · exact h.count
  · split
    · exact h.lanemapFlit
    · split
      · exact h.crossSnak
      · extract_lets +onlyGivenNames t
        have ht : Keeps onLane s₀ t := by
          unfold t
          split
          · exact h.raise
          · split; exacts [h.raise, Keeps.ite h.count.raise h]
        exact ht.forward

theorem Keeps.slackWatch {e g : Nat} {isSlack : Bool} (h : Keeps onLane s₀ s) :
    Keeps onLane s₀ (s.slackWatch e g isSlack) := by
  unfold State.slackWatch
  exact h.updEng.when (fun k => k.raise)

theorem Keeps.flitF {e g : Nat} {f : Flit} {correctable : Bool} {arrive : Nat} (h : Keeps onLane s₀ s) :
    Keeps onLane s₀ (s.flitF e g f correctable arrive) := by
  unfold State.flitF
  extract_lets +onlyGivenNames _ t
  have ht : Keeps onLane s₀ t := h.slackWatch
  split
  · exact Keeps.ite ht.crossSack.count.seqFlit ht.crossSack.plainIn
  · exact ht.count.raise.flitFails

theorem Keeps.lanemapG {e g : Nat} {f : Flit} (h : Keeps onLane s₀ s) : Keeps onLane s₀ (s.lanemapG e g f) := by
  unfold State.lanemapG
  extract_lets +onlyGivenNames _
  split; exacts [h.endToEnd, Keeps.ite h.updEng h]

theorem Keeps.flitG {e g : Nat} {f : Flit} {correctable : Bool} (h : Keeps onLane s₀ s) :
    Keeps onLane s₀ (s.flitG e g f correctable) := by
  unfold State.flitG
  split
  · extract_lets +onlyGivenNames t u
    have ht : Keeps onLane s₀ t := Keeps.ite h.count h
    have hu : Keeps onLane s₀ u := ht.flitOut.lpForward
    exact Keeps.ite hu.lanemapG hu
  · exact h.count.raise.count.flitOut

theorem Keeps.flitReceived {e g : Nat} {f : Flit} {correctable : Bool} {arrive : Nat} (h : Keeps onLane s₀ s) :
    Keeps onLane s₀ (s.flitReceived e g f correctable arrive) := by
  unfold State.flitReceived
  split
  · extract_lets +onlyGivenNames _ t
    have ht : Keeps onLane s₀ t := h.updEng
    split; exacts [ht.flitF, Keeps.ite ht.flitG h]
  · exact h

theorem Keeps.nakExpiry {e g : Nat} (h : Keeps onLane s₀ s) : Keeps onLane s₀ (s.nakExpiry e g) := by
  unfold State.nakExpiry
  exact Keeps.ite (Keeps.ite (Keeps.ite h.raise.sendSnak h.raise) h.raise.abandonAt) h

theorem Keeps.pureSack {e g : Nat} (h : Keeps onLane s₀ s) : Keeps onLane s₀ (s.pureSack e g) := by
  unfold State.pureSack
  exact Keeps.ite h.updEng h

theorem Keeps.setPhase {p : Phase} (h : Keeps false s₀ s) : Keeps false s₀ (s.setPhase p) := by
  unfold State.setPhase
  exact h.updPwr.put

theorem Keeps.setRails {n : Nat} (h : Keeps false s₀ s) (hn : n ≤ 5) : Keeps false s₀ (s.setRails n) := by
  unfold State.setRails
  have ht := h.foldl (l := railSteps s.railCount n) (f := fun t m => t.drive (.pwrEn m)) fun _ k => k.drive
  exact ht.stepUnit (fun l => { l with canon := { l.canon with }, rails := front_mem_rails hn }) rfl

theorem Keeps.railsUp {n : Nat} (h : Keeps false s₀ s) (hn : n ≤ 5) : Keeps false s₀ (s.railsUp n) := by
  unfold State.railsUp
  exact (h.setRails hn).emit.setPhase

theorem popCount_le (n w : Nat) : popCount n w ≤ n := by
  induction n generalizing w with
  | zero => exact le_rfl
  | succ n ih =>
    have := ih (w / 2)
    simp only [popCount]
    omega

theorem State.railCount_le (s : State) : s.railCount ≤ 5 := popCount_le 5 _

theorem State.railCount_add_le (s : State) : s.railCount + s.free.toNat % (6 - s.railCount) ≤ 5 := by
  have h := s.railCount_le
  have := Nat.mod_lt s.free.toNat (y := 6 - s.railCount) (by omega)
  omega

theorem State.reset_legal : State.reset.Legal where
  canon := by constructor <;> rfl
  rails := by decide
  active := by decide
  valid := by decide

/-- A cold reset leaves the stores as after reset, and of the state before it the queue and the flash. -/
theorem Keeps.coldOf {cause n : Nat} {p : Phase} {keepFail : Bool} (h : Keeps false s₀ s) (hn : n ≤ 5) :
    Keeps false s₀ (s.coldOf cause n p keepFail) := by
  have ht := ((h.pinsBack.when (c := s.pinsBack.flt.low) fun k => k.emit (o := .faultN false)).setRails hn).when
    (c := s.pinsBack.supplied) fun k => k.emit (o := .vidFloat)
  have hreg : (State.reset.put GLB.coldCause cause).Legal := (Keeps.refl false State.reset).put.legal State.reset_legal
  exact ht.stepUnit (fun l =>
    { canon := { State.reset_legal.canon with regs := hreg.canon.regs }
      rails := l.rails, active := l.active, valid := l.valid }) rfl

theorem Keeps.lpWake {g sides : Nat} (h : Keeps onLane s₀ s) : Keeps onLane s₀ (s.lpWake g sides) := by
  unfold State.lpWake
  extract_lets +onlyGivenNames _
  split; exacts [h.put.updPort.settlePower, h.updPort, h]

theorem Keeps.wakeSource {k : Nat × Nat × Nat} (h : Keeps onLane s₀ s) : Keeps onLane s₀ (s.wakeSource k) := by
  unfold State.wakeSource
  exact h.put.put.put

theorem Keeps.noteWake {k : Nat × Nat × Nat} (h : Keeps onLane s₀ s) : Keeps onLane s₀ (s.noteWake k) := by
  unfold State.noteWake
  exact h.wakeSource.count.raise

theorem Keeps.upFromDeep (h : Keeps false s₀ s) : Keeps false s₀ s.upFromDeep := by
  unfold State.upFromDeep
  exact ((h.setVid.setRails (by decide)).updPwr).setPhase

theorem Keeps.wakePulse {k : Nat × Nat × Nat} (h : Keeps onLane s₀ s) : Keeps onLane s₀ (s.wakePulse k) := by
  unfold State.wakePulse
  exact h.when (fun k => k.drive.drive)

theorem Keeps.entryLost (h : Keeps onLane s₀ s) : Keeps onLane s₀ s.entryLost := by
  unfold State.entryLost
  exact h.put.raise

theorem Keeps.entryUndone {k : Nat × Nat × Nat} (h : Keeps false s₀ s) : Keeps false s₀ (s.entryUndone k) := by
  unfold State.entryUndone
  extract_lets +onlyGivenNames t
  have ht : Keeps false s₀ t := h.entryLost.updPwr
  exact Keeps.ite ht.noteWake.updPwr.setPhase ht.setPhase

theorem Keeps.wakeDev {k : Nat × Nat × Nat} (h : Keeps false s₀ s) : Keeps false s₀ (s.wakeDev k) := by
  unfold State.wakeDev
  extract_lets +onlyGivenNames t
  have ht : Keeps false s₀ t := h.updPwr
  split
  · exact ht
  · exact ht.noteWake.updPwr.setPhase
  · exact ht.wakePulse.noteWake.upFromDeep
  · split
    · exact ht.entryUndone
    · split; exacts [Keeps.ite ht.updPwr h, ht.updPwr]
  · exact Keeps.ite h.wakeSource h
  · exact h

theorem Keeps.laneWake {i : Nat} {comet : Bool} (h : Keeps false s₀ s) : Keeps false s₀ (s.laneWake i comet) := by
  unfold State.laneWake
  split
  · extract_lets +onlyGivenNames t
    have ht : Keeps false s₀ t := h.wakeDev
    split; exacts [ht.lpWake, ht]
  · exact h

theorem Keeps.linkWake {groups : Nat} (h : Keeps false s₀ s) : Keeps false s₀ (s.linkWake groups) := by
  unfold State.linkWake
  exact Keeps.ite h (h.wakeDev.each (fun _ k => k.lpWake))

theorem Keeps.retarget {t : Nat} (h : Keeps false s₀ s) : Keeps false s₀ (s.retarget t) := by
  unfold State.retarget
  exact h.put.updPwr

theorem Keeps.wakeRun {kind : Nat} (h : Keeps false s₀ s) : Keeps false s₀ (s.wakeRun kind) := by
  unfold State.wakeRun
  exact (h.retarget.when (fun k => k.put)).wakeDev

theorem Keeps.applyWake {kind : Nat} (h : Keeps false s₀ s) : Keeps false s₀ (s.applyWake kind).1 := by
  unfold State.applyWake
  split
  · exact h.wakeRun
  · split
    · exact Keeps.updPwr (f := fun w => { w with goal := 1, held := true }) h.wakeDev
    · exact h
  · exact h.wakeRun.each fun _ k => k.lpWake
  · exact h

theorem Keeps.wakeSend {target kind : Nat} (h : Keeps false s₀ s) : Keeps false s₀ (s.wakeSend target kind) := by
  unfold State.wakeSend
  extract_lets +onlyGivenNames t
  have ht : Keeps false s₀ t := h.setReg
  split
  · exact ht
  · exact Keeps.ite ht.setReg.put.applyWake.priStart ht.setReg.put.priStart

theorem Keeps.passPri {p : OrbPort} {lead : Nat} {q : PriSeq} {done : Option Nat} (h : Keeps onLane s₀ s) :
    Keeps onLane s₀ (s.passPri p lead q done) := by
  unfold State.passPri
  exact h.relayPri

theorem Keeps.wakeSeq {p : OrbPort} {q : PriSeq} (h : Keeps false s₀ s) : Keeps false s₀ (s.wakeSeq p q) := by
  unfold State.wakeSeq
  exact Keeps.ite (Keeps.ite h.notePri.applyWake.passPri h.notePri.passPri) h

theorem Keeps.entryStep {k : Nat} (h : Keeps false s₀ s) : Keeps false s₀ (s.entryStep k) := by
  unfold State.entryStep
  extract_lets +onlyGivenNames t
  have ht : Keeps false s₀ t := h.setPhase
  split
  · exact ht.put.put.vidGated
  · exact ht.vidCut.setRails (by split <;> decide)
  · exact ht

theorem Keeps.entryStart {goal k : Nat} (h : Keeps false s₀ s) : Keeps false s₀ (s.entryStart goal k) := by
  unfold State.entryStart
  exact h.updPwr.entryStep

theorem Keeps.entered {p : Phase} {code : Nat} (h : Keeps false s₀ s) : Keeps false s₀ (s.entered p code) := by
  unfold State.entered
  exact h.setPhase.put.count.raise

theorem Keeps.entryAbort {k : Nat} (h : Keeps false s₀ s) : Keeps false s₀ (s.entryAbort k) := by
  unfold State.entryAbort
  exact h.put.count.raise.put.updPwr.setPhase

theorem Keeps.entryNext (h : Keeps false s₀ s) : Keeps false s₀ s.entryNext := by
  unfold State.entryNext
  split
  · split
    · exact h
    · split
      · exact h.entryAbort
      · exact Keeps.ite (Keeps.ite h.entryStep h.entered) h.entryStep
  · exact h

theorem Keeps.railsDone (h : Keeps false s₀ s) : Keeps false s₀ s.railsDone := by
  unfold State.railsDone
  split
  · extract_lets +onlyGivenNames wake
    clear_value wake
    split
    · exact Keeps.ite ((h.coldOf (by decide)).railsUp (by decide)) (h.coldOf (by decide))
    · extract_lets +onlyGivenNames _ t
      have ht : Keeps false s₀ t := h.pinsBack.withJtag.updPwr.entered.put.coreLost.sourcesDown
      split; exacts [ht.wakeDev, ht]
  · exact h

theorem Keeps.dwellEnds (h : Keeps false s₀ s) : Keeps false s₀ s.dwellEnds := by
  unfold State.dwellEnds
  exact Keeps.ite (Keeps.ite h.entryLost h.entryStart) h

theorem Keeps.offStart (h : Keeps false s₀ s) : Keeps false s₀ s.offStart := by
  unfold State.offStart
  extract_lets +onlyGivenNames _ t
  have ht : Keeps false s₀ t := h.put.each (fun _ k => k.groupOff)
  split
  · exact Keeps.ite ht.entryLost ht.entryStart
  · exact ht.entryStart
  · exact Keeps.ite ht.entryLost ht.updPwr
  · exact ht.wakeDev.updPwr
  · exact ht.updPwr
  · exact ht.updPwr

theorem Keeps.targetWrite {t : Nat} (h : Keeps false s₀ s) : Keeps false s₀ (s.targetWrite t) := by
  unfold State.targetWrite
  extract_lets +onlyGivenNames _
  split
  · exact Keeps.ite h.offStart (h.raise.when (fun k => k.wakeDev))
  · exact h.retarget.when (fun k => k.wakeDev)

theorem Keeps.repair {r : SramRow} (h : Keeps onLane s₀ s) : Keeps onLane s₀ (s.repair r) := by
  unfold State.repair
  split
  · exact h.updCore
  · split; exacts [h.report, h]

theorem Keeps.afterDeep (h : Keeps false s₀ s) : Keeps false s₀ s.afterDeep := by
  unfold State.afterDeep
  extract_lets +onlyGivenNames t u
  have ht : Keeps false s₀ t := h.each (fun _ k => k.updEng)
  have hu : Keeps false s₀ u := ht.mapRegs
  exact hu.each (fun _ k => Keeps.ite k.setStream.put.satCount.raise k)

theorem Keeps.coldStart {pgs : Nat} (h : Keeps false s₀ s) : Keeps false s₀ (s.coldStart pgs) := by
  unfold State.coldStart
  exact Keeps.ite (h.railsUp (max_le s.railCount_le (min_le_left _ _))) h

theorem Keeps.latchStraps {v : Nat} (h : Keeps onLane s₀ s) : Keeps onLane s₀ (s.latchStraps v) := by
  unfold State.latchStraps
  exact Keeps.ite h.setReg.put.put.put.put h.setReg.put.put

theorem Keeps.regulatorReady {straps : Nat} (h : Keeps false s₀ s) : Keeps false s₀ (s.regulatorReady straps) := by
  unfold State.regulatorReady
  split
  · exact Keeps.setPhase (Keeps.ite ((h.setRails (by decide)).latchStraps) (h.setRails (by decide)))
  · exact h

theorem Keeps.oscReady (h : Keeps false s₀ s) : Keeps false s₀ s.oscReady := by
  unfold State.oscReady
  split
  · extract_lets +onlyGivenNames t u
    have ht : Keeps false s₀ t := Keeps.ite h h.refclkReturn.timeOn.useFree
    have hu : Keeps false s₀ u := ht.put.each (fun _ k => k.put.put.updPll)
    exact hu.dvfsGo.setPhase
  · exact h

theorem Keeps.memoryDone {rows : List SramRow} (h : Keeps false s₀ s) : Keeps false s₀ (s.memoryDone rows) := by
  unfold State.memoryDone
  split
  · extract_lets +onlyGivenNames t
    have ht : Keeps false s₀ t := h.each (fun _ k => k.repair)
    exact Keeps.setPhase (Keeps.ite ht.afterDeep ht)
  · exact h

theorem Keeps.logicDone (h : Keeps false s₀ s) : Keeps false s₀ s.logicDone := by
  unfold State.logicDone
  split
  · extract_lets +onlyGivenNames _ t u v w x
    have ht : Keeps false s₀ t := h.setPhase.put.put.updPwr
    have hu : Keeps false s₀ u := Keeps.ite ht.updCore.boot ht
    have hv : Keeps false s₀ v := (hu.onsetIfNew.when (fun k => k.sourcesBack)).takeDue
    have hw : Keeps false s₀ w := Keeps.ite hv.updOrb.seqGo hv
    have hx : Keeps false s₀ x := hw.goOn.when (fun k => k.dvfsStart)
    exact Keeps.ite hx.entryStart hx
  · exact h

theorem Keeps.upFails (h : Keeps false s₀ s) : Keeps false s₀ s.upFails := by
  unfold State.upFails
  exact (h.coldOf (by decide)).updPwr

theorem Keeps.pgTimeout (h : Keeps false s₀ s) : Keeps false s₀ s.pgTimeout := by
  unfold State.pgTimeout
  split
  · extract_lets +onlyGivenNames t u
    have ht : Keeps false s₀ t := h.useFree.setRails s.railCount_add_le
    have hu : Keeps false s₀ u := ht.updPwr
    split
    · exact hu.upFails
    · split
      · exact ((hu.setRails (by decide)).emit).setPhase
      · exact (((hu.setRails (by decide)).put).updPwr).setPhase
  · exact h

theorem Keeps.upRetry (h : Keeps false s₀ s) : Keeps false s₀ s.upRetry := by
  unfold State.upRetry
  split
  · split
    · exact h.upFails
    · exact Keeps.ite (h.railsUp (by decide)) ((h.setRails (by decide)).setPhase)
  · exact h

theorem Keeps.wakeNLow (h : Keeps false s₀ s) : Keeps false s₀ s.wakeNLow := by
  unfold State.wakeNLow
  split
  · exact h.railsUp (by decide)
  · exact h.railsUp (by decide)
  · exact h.wakeDev

theorem Keeps.lpTimeout {g : Nat} (h : Keeps onLane s₀ s) : Keeps onLane s₀ (s.lpTimeout g) := by
  unfold State.lpTimeout
  exact Keeps.ite h.lpCancel h

theorem Keeps.lpQuiet {g : Nat} (h : Keeps onLane s₀ s) : Keeps onLane s₀ (s.lpQuiet g) := by
  unfold State.lpQuiet
  extract_lets +onlyGivenNames _
  split
  · exact ((((h.each (fun _ k => k.updEng.drainCheck)).put).raise).settlePower).settleCauses
  · exact h

theorem Keeps.bothLost {g cause : Nat} (h : Keeps onLane s₀ s) : Keeps onLane s₀ (s.bothLost g cause) := by
  unfold State.bothLost
  exact ((((h.each (fun _ k => k.put.raise.segEnds)).startAttempt).startAttempt).segEval).segEval

theorem Keeps.lpWakeFail {g : Nat} (h : Keeps onLane s₀ s) : Keeps onLane s₀ (s.lpWakeFail g) := by
  unfold State.lpWakeFail
  split
  · extract_lets +onlyGivenNames _ t
    have ht : Keeps onLane s₀ t := h.raise.lpClear
    exact Keeps.goOn (Keeps.ite ht.bothLost (ht.each (fun _ k => Keeps.ite k k.segLost)))
  · exact h

theorem Keeps.captureRefused (h : Keeps onLane s₀ s) : Keeps onLane s₀ s.captureRefused := by
  unfold State.captureRefused
  exact h.count.raise

theorem Keeps.eclipseAccept {epoch : Word} {untimed : Bool} {hops : Nat} {p : OrbPort} (h : Keeps false s₀ s) :
    Keeps false s₀ (s.eclipseAccept epoch untimed hops p).1 := by
  unfold State.eclipseAccept
  split
  · exact h
  · split
    · exact h.captureRefused
    · split; exacts [h.captureRefused, h.withShot]

theorem Keeps.eclipseSeq {p : OrbPort} {q : PriSeq} (h : Keeps false s₀ s) : Keeps false s₀ (s.eclipseSeq p q) := by
  unfold State.eclipseSeq
  exact Keeps.ite (Keeps.ite h.notePri.eclipseAccept.passPri h.notePri.passPri) h

theorem Keeps.clearErrHists (h : Keeps onLane s₀ s) : Keeps onLane s₀ s.clearErrHists := by
  unfold State.clearErrHists
  exact h.mapRegs

theorem Keeps.capture (h : Keeps false s₀ s) : Keeps false s₀ s.capture := by
  unfold State.capture
  split
  · exact h
  · extract_lets +onlyGivenNames t
    have ht : Keeps false s₀ t := h.withShot
    split
    · exact ht.captureRefused
    · split
      · exact ht.captureRefused
      · extract_lets +onlyGivenNames t _ u v
        have ht : Keeps false s₀ t := ht.count.setReg.setReg
        have hu : Keeps false s₀ u := ht.setBank
        have hv : Keeps false s₀ v := hu.put.put.put
        exact Keeps.ite hv.clearErrHists hv

theorem Keeps.bankReady (h : Keeps onLane s₀ s) : Keeps onLane s₀ s.bankReady := by
  unfold State.bankReady
  split; exacts [h.put.put.raise, h]

theorem Keeps.eclipseDone (h : Keeps false s₀ s) : Keeps false s₀ s.eclipseDone := by
  unfold State.eclipseDone
  split
  · exact h
  · split; exacts [h.withEcliDone.answerFlight, h]

theorem Keeps.streamStart {n cq interval sel : Nat} (h : Keeps false s₀ s) :
    Keeps false s₀ (s.streamStart n cq interval sel).1 := by
  unfold State.streamStart
  split
  · extract_lets t u
    dsimp only
    have hu : Keeps false s₀ u := h.put.put.put.setReg.setReg.setReg
    exact Keeps.updStrm hu
  · exact h

theorem Keeps.streamStop {n : Nat} (h : Keeps onLane s₀ s) : Keeps onLane s₀ (s.streamStop n).1 := by
  unfold State.streamStop
  exact h.put

theorem Keeps.telemEntry {cq : Nat} {head tail : List Byte} (h : Keeps onLane s₀ s) :
    Keeps onLane s₀ (s.telemEntry cq head tail) := by
  unfold State.telemEntry
  exact Keeps.ite h.cqUnreserved h.count

theorem Keeps.telemSample {n : Nat} (h : Keeps false s₀ s) : Keeps false s₀ (s.telemSample n) := by
  unfold State.telemSample
  split
  · exact h
  · extract_lets +onlyGivenNames _
    split
    · exact h.setReg
    · split
      · exact h.satCount.raise.updStrm.setReg
      · exact Keeps.ite h.updStrm.telemEntry.setReg h.updStrm.updStrm.put.setReg

theorem Keeps.ownOut {f : Frame} (h : Keeps onLane s₀ s) : Keeps onLane s₀ (s.ownOut f) := by
  unfold State.ownOut
  exact h.sendFrame

theorem Keeps.sendTail {n : Nat} (h : Keeps false s₀ s) : Keeps false s₀ (s.sendTail n) := by
  unfold State.sendTail
  exact h.updStrm.put.ownOut

theorem Keeps.sendHead {n : Nat} (h : Keeps false s₀ s) : Keeps false s₀ (s.sendHead n) := by
  unfold State.sendHead
  exact h.updStrm.ownOut

theorem Sparse.wf_tail {α : Type} [DecidableEq α] {d : Nat → α} {e : Nat × α} {m : Sparse α}
    (h : Sparse.wf d (e :: m) = true) : Sparse.wf d m = true := by
  simp only [Sparse.wf, Bool.and_eq_true, List.all_cons] at h ⊢
  exact ⟨Sparse.rises_of_risesFrom h.1, h.2.2⟩

theorem Keeps.dropEvFrame {e : Nat × EvFrame} {rest : Sparse EvFrame} (h : Keeps onLane s₀ s) (he : s.evFrames = e :: rest) :
    Keeps onLane s₀ { s with evFrames := rest } :=
  h.step (fun l => { l with canon := { l.canon with evFrames := Sparse.wf_tail (he ▸ l.canon.evFrames) } }) rfl

theorem Keeps.workerFrames (h : Keeps false s₀ s) : Keeps false s₀ s.workerFrames := by
  unfold State.workerFrames
  extract_lets live
  split
  · exact h.sendTail
  · split
    · exact h.workerSend
    · split
      · exact h
      · split
        · rename_i he
          exact (h.dropEvFrame he).ownOut
        · split
          · exact h.sendHead
          · exact h

theorem Keeps.telemHalf {f : Frame} (h : Keeps false s₀ s) : Keeps false s₀ (s.telemHalf f) := by
  unfold State.telemHalf
  extract_lets +onlyGivenNames _ _ _ _ _
  split
  · exact Keeps.withHalves (Keeps.ite h.count h)
  · split
    · exact Keeps.ite h.withHalves.telemEntry h.count
    · exact h.count

theorem Keeps.halfTimeout {src n : Nat} (h : Keeps false s₀ s) : Keeps false s₀ (s.halfTimeout src n) := by
  unfold State.halfTimeout
  exact Keeps.ite h.withHalves.count h

theorem Keeps.ringEnable {q : Nat} (h : Keeps onLane s₀ s) : Keeps onLane s₀ (s.ringEnable q) := by
  unfold State.ringEnable
  split
  · exact h.put
  · split
    · exact h.put.put.put.put.put.put.put.setReg.setReg.updRing.writeShadow
    · exact h.put.put

theorem Keeps.ringDisable {q : Nat} (h : Keeps onLane s₀ s) : Keeps onLane s₀ (s.ringDisable q) := by
  unfold State.ringDisable
  extract_lets +onlyGivenNames t
  have ht : Keeps onLane s₀ t := h.put
  split; exacts [ht.ringDrain, ht.put, ht]

theorem Keeps.ringCtrl {q v : Nat} (h : Keeps onLane s₀ s) : Keeps onLane s₀ (s.ringCtrl q v) := by
  unfold State.ringCtrl
  exact Keeps.ite h.ringEnable h.ringDisable

theorem Keeps.pendingSummaries (h : Keeps onLane s₀ s) : Keeps onLane s₀ s.pendingSummaries := by
  unfold State.pendingSummaries
  exact h.each (fun _ k => by
    split; exacts [Keeps.ite k k.evSummary, k])

theorem Keeps.resetSettle (h : Keeps false s₀ s) : Keeps false s₀ s.resetSettle := by
  unfold State.resetSettle
  split
  · exact (((h.each (fun _ k => k.put.put)).each (fun _ k => k.setReg)).withRingResetPages).pendingSummaries
  · exact h

theorem Keeps.resetRings {f : Ring → Ring} (h : Keeps false s₀ s) : Keeps false s₀ { s with
    ringReset := true, rings := s.rings.filterMap (fun x => if f x.2 = Ring.idle then none else some (x.1, f x.2)) } :=
  h.stepUnit (fun l => { l with canon := { l.canon with rings := Sparse.wf_filterMap (fun _ => f) l.canon.rings } }) rfl

theorem Keeps.engineReset (h : Keeps false s₀ s) : Keeps false s₀ s.engineReset := by
  unfold State.engineReset
  exact (h.resetRings (f := fun x =>
    { x with copies := [], stalled := false, shdDue := false, msgRecent := false, msgPend := false })).resetSettle

theorem Keeps.functionReset (h : Keeps false s₀ s) : Keeps false s₀ s.functionReset := by
  unfold State.functionReset
  extract_lets +onlyGivenNames _ t u
  have ht : Keeps false s₀ t := h.withPcie
  have hu : Keeps false s₀ u := ht.each (fun _ k => k.put.setReg.each (fun _ j => j.setReg))
  exact ((hu.each (fun _ k => k.setReg)).setReg).put

theorem Keeps.flr (h : Keeps false s₀ s) : Keeps false s₀ s.flr := by
  unfold State.flr
  exact Keeps.ite h.functionReset.engineReset h

theorem Keeps.endOperation {o : Owner} (h : Keeps false s₀ s) : Keeps false s₀ (s.endOperation o) := by
  unfold State.endOperation
  extract_lets +onlyGivenNames t u v _ w
  have ht : Keeps false s₀ t := h.each (fun _ k => by
    extract_lets +onlyGivenNames t
    have ht : Keeps false s₀ t := by
      unfold t
      split; exacts [Keeps.ite k.yieldWith k, k]
    exact ht.updPort)
  have hu : Keeps false s₀ u := by
    unfold u
    split
    · split
      · split
        · exact ht.yieldWith
        · exact ((ht.each (fun _ k => k.updPort)).scanAbort).bistAbort
      · exact ht
    · exact ht
  have hv : Keeps false s₀ v := hu.withCalReqsBist
  have hw : Keeps false s₀ w := hv.updCore
  exact Keeps.ite hw hw.loadRun

theorem Keeps.forgetOut {q idx : Nat} (h : Keeps false s₀ s) : Keeps false s₀ (s.forgetOut q idx) := by
  unfold State.forgetOut
  exact h.stepUnit (fun l => { l with canon := { l.canon with } }) rfl

theorem Keeps.resetFlight {q : Nat} {f : Flight} (h : Keeps false s₀ s) : Keeps false s₀ (s.resetFlight q f) := by
  unfold State.resetFlight
  split
  · exact h
  · exact Keeps.ite h.updFlight h.endOperation.forgetOut.answerFlight

theorem Keeps.resetTimeout (h : Keeps false s₀ s) : Keeps false s₀ s.resetTimeout := by
  unfold State.resetTimeout
  split
  · extract_lets +onlyGivenNames t u
    have ht : Keeps false s₀ t := h.each (fun _ k => k.each (fun _ j => j.resetFlight))
    have hu : Keeps false s₀ u := ht.each (fun _ k => k.each (fun _ j => Keeps.ite j.finishFlight j))
    exact hu.jobsRun.settlePower.resetSettle
  · exact h

theorem Keeps.readFailed {why : ReadFail} (h : Keeps false s₀ s) : Keeps false s₀ (s.readFailed why) := by
  unfold State.readFailed
  extract_lets +onlyGivenNames _
  split
  · exact h.pcieError
  · exact h.withPcie.report
  · exact h.withPcie.report
  · exact h.withPcie.pcieError

theorem Keeps.hostReadError {q : Nat} {why : ReadFail} {idx : Option Nat} (h : Keeps false s₀ s) :
    Keeps false s₀ (s.hostReadError q why idx) := by
  unfold State.hostReadError
  split
  · extract_lets +onlyGivenNames t u
    have ht : Keeps false s₀ t := h.readFailed
    have hu : Keeps false s₀ u := by
      unfold u
      split
      · split
        · exact Keeps.ite ht.endOperation.forgetOut.answerFlight ht
        · exact ht
      · exact ht
    exact hu.ringHalt
  · exact h

theorem Keeps.recheck {q : Nat} {img : HostImg} (h : Keeps false s₀ s) : Keeps false s₀ (s.recheck q img) := by
  unfold State.recheck
  exact Keeps.ite h.fetch h

theorem Keeps.coalesceEnd {q : Nat} (h : Keeps onLane s₀ s) : Keeps onLane s₀ (s.coalesceEnd q) := by
  unfold State.coalesceEnd
  exact Keeps.ite h.msix.updRing h.updRing

theorem Keeps.evgrpWrite {n : Nat} {v : Word} (h : Keeps onLane s₀ s) : Keeps onLane s₀ (s.evgrpWrite n v) := by
  unfold State.evgrpWrite
  exact h.setReg.when (fun k => k.msix)

theorem Keeps.linkTrained (h : Keeps onLane s₀ s) : Keeps onLane s₀ s.linkTrained := by
  unfold State.linkTrained
  exact Keeps.ite h h.put.useFree.put.useFree.put

theorem Keeps.pcieWakes (h : Keeps false s₀ s) : Keeps false s₀ s.pcieWakes := by
  unfold State.pcieWakes
  exact h.when (fun k => k.wakeDev)

theorem Keeps.tlpArrives {corr : List (Fin 16)} (h : Keeps false s₀ s) : Keeps false s₀ (s.tlpArrives corr) := by
  unfold State.tlpArrives
  extract_lets +onlyGivenNames t
  have ht : Keeps false s₀ t := h.linkTrained.put.pcieWakes
  exact Keeps.ite ht (ht.withPcie.countBy.when (fun k => k.emit))

theorem Keeps.unsupportedReq {write : Bool} (h : Keeps false s₀ s) : Keeps false s₀ (s.unsupportedReq write) := by
  unfold State.unsupportedReq
  exact h.requestError.when (fun k => k.emit)

theorem Keeps.ringBell {bar4 : Bool} {slot : Nat} {img : HostImg} (h : Keeps false s₀ s) :
    Keeps false s₀ (s.ringBell bar4 slot img) := by
  unfold State.ringBell
  split; exacts [Keeps.ite h h.fetch, h]

theorem Keeps.doorbell {r : DoorReq} (h : Keeps false s₀ s) : Keeps false s₀ (s.doorbell r) := by
  unfold State.doorbell
  split
  · exact h.pcieWakes
  · extract_lets +onlyGivenNames t
    have ht : Keeps false s₀ t := h.tlpArrives
    split
    · exact ht.unsupportedReq
    · split
      · exact ht.emit
      · exact Keeps.ite ht.pcieError (ht.each (fun _ k => k.ringBell))

theorem Keeps.configDone {r : CfgReq} (h : Keeps false s₀ s) : Keeps false s₀ (s.configDone r) := by
  unfold State.configDone
  split
  · exact h.emit
  · exact h.withPcie.hostBack
  · exact h.withPcie
  · exact h.withPcie.msixUnmask
  · exact h.withPcie
  · exact h.withPcie
  · exact h.withPcie
  · exact h.withPcie
  · exact h.withPcie
  · exact h.withPcie
  · exact h

theorem Keeps.linkMoves {pm : Nat} (h : Keeps false s₀ s) : Keeps false s₀ (s.linkMoves pm) := by
  unfold State.linkMoves
  exact Keeps.ite (h.put.when (fun k => k.pcieWakes)) h

theorem Keeps.configRequest {r : CfgReq} (h : Keeps false s₀ s) : Keeps false s₀ (s.configRequest r) := by
  unfold State.configRequest
  split
  · exact h.linkMoves
  · exact Keeps.ite (Keeps.ite h.tlpArrives.emit h.tlpArrives.configDone) h.pcieWakes

theorem Keeps.loadDone {status result : Nat} (h : Keeps false s₀ s) : Keeps false s₀ (s.loadDone status result) := by
  unfold State.loadDone
  exact h.loadEnds.loadRun

theorem Keeps.loadAdd {l : FwLoad} (h : Keeps false s₀ s) : Keeps false s₀ (s.loadAdd l) := by
  unfold State.loadAdd
  exact Keeps.ite h.updCore.loadRun h.updCore

theorem Flash.or_active_le {f : Flash} (h : f.valid ≤ 3) : f.valid ||| 2 ^ (1 - f.active) ≤ 3 :=
  Nat.le_of_lt_succ (Nat.or_lt_two_pow (n := 2) (by omega) (Nat.pow_lt_pow_right (by decide) (by omega)))

theorem Keeps.writeDone {check : ImageCheck} (h : Keeps false s₀ s) : Keeps false s₀ (s.writeDone check) := by
  unfold State.writeDone
  split
  · split
    · exact Keeps.ite (h.withFlash Flash.or_active_le).noteFlash.loadDone h.loadDone
    · exact h
  · exact h

theorem Keeps.firmwareReady {version : Word} (h : Keeps false s₀ s) : Keeps false s₀ (s.firmwareReady version) := by
  unfold State.firmwareReady
  split
  · extract_lets +onlyGivenNames t u _ v w
    have ht : Keeps false s₀ t := Keeps.ite ((h.withFlash Flash.valid_write_le).noteFlash) h
    have hu : Keeps false s₀ u := ht.updCore.put.setReg
    have hv : Keeps false s₀ v := hu.withPcie
    have hw : Keeps false s₀ w := Keeps.ite hv.updCore.put hv
    split; exacts [Keeps.ite hw.loadDone hw, hw]
  · exact h

theorem Keeps.mgmtReset {cause : Nat} (h : Keeps false s₀ s) : Keeps false s₀ (s.mgmtReset cause) := by
  unfold State.mgmtReset
  split
  · extract_lets +onlyGivenNames t _ _ u
    have ht : Keeps false s₀ t := Keeps.ite h.coreReset h.coreHalt
    have hu : Keeps false s₀ u := Keeps.ite ht.functionReset.put.put.put.put.withPcie.engineReset ht
    exact hu.put
  · exact h

theorem Keeps.cutFrame {mid : Bool} (h : Keeps onLane s₀ s) : Keeps onLane s₀ (s.cutFrame mid) := by
  unfold State.cutFrame
  exact Keeps.ite h.emit h

theorem Keeps.resetSegment {g sd k : Nat} (h : Keeps onLane s₀ s) : Keeps onLane s₀ (s.resetSegment g sd k) := by
  unfold State.resetSegment
  extract_lets +onlyGivenNames _
  split
  · exact h.segLost
  · exact Keeps.ite h.put.startAttempt.segEval h

theorem Keeps.holdEngine {e : Nat} (h : Keeps onLane s₀ s) : Keeps onLane s₀ (s.holdEngine e) := by
  unfold State.holdEngine
  exact h.put.zeroEngine

theorem Keeps.engReset {ab ba : Bool} (h : Keeps onLane s₀ s) : Keeps onLane s₀ (s.engReset ab ba) := by
  unfold State.engReset
  split
  · extract_lets +onlyGivenNames t u
    have ht : Keeps onLane s₀ t := (h.when (fun k => k.put)).when (fun k => k.put)
    have hu : Keeps onLane s₀ u := ht.copyBreaks.each (fun _ k => Keeps.ite (k.each (fun _ j =>
        j.resetSegment.resetSegment)) k)
    exact ((hu.when (fun k => k.holdEngine)).when (fun k => k.holdEngine)).goOn
  · exact h

theorem Keeps.engRelease (h : Keeps onLane s₀ s) : Keeps onLane s₀ s.engRelease := by
  unfold State.engRelease
  exact (h.put.put.each (fun _ k => Keeps.ite (k.each (fun _ j => j.segEval.segEval)) k)).goOn

theorem Keeps.rstctrlWrite {v : Nat} (h : Keeps false s₀ s) : Keeps false s₀ (s.rstctrlWrite v) := by
  unfold State.rstctrlWrite
  exact h.engReset.when (fun k => k.mgmtReset)

theorem Keeps.laneReset {i : Nat} (h : Keeps onLane s₀ s) : Keeps onLane s₀ (s.laneReset i) := by
  unfold State.laneReset
  exact ((((((h.put.put.put.put.each (fun _ k => k.resetReg)).resetReg).put).put).updRx).put).updTx

theorem Keeps.lerst {i : Nat} {hold : Bool} (h : Keeps onLane s₀ s) : Keeps onLane s₀ (s.lerst i hold) := by
  unfold State.lerst
  split
  · exact h
  · split
    · exact h.raise
    · exact Keeps.ite h.put.settlePower.goOn h.put.laneReset.goOn

theorem Keeps.lerstWrite {sd hi v : Nat} (h : Keeps onLane s₀ s) : Keeps onLane s₀ (s.lerstWrite sd hi v) := by
  unfold State.lerstWrite
  exact h.each (fun _ k => k.lerst)

theorem Keeps.readWord {a : Nat} (h : Keeps false s₀ s) : Keeps false s₀ (s.readWord a).1 := by
  unfold State.readWord
  split
  · exact h
  · split
    · exact h.withLatch
    · split
      · exact h
      · split
        · exact h
        · split <;> exact h

theorem Keeps.swRead {a : Nat} (h : Keeps false s₀ s) : Keeps false s₀ (s.swRead a).1 := by
  unfold State.swRead
  split; exacts [h.readWord, h]

theorem Keeps.rw {a mask : Nat} {v : Word} (h : Keeps onLane s₀ s) : Keeps onLane s₀ (s.rw a mask v) := by
  unfold State.rw
  exact h.setReg

theorem Keeps.w1c {a mask : Nat} {v : Word} (h : Keeps onLane s₀ s) : Keeps onLane s₀ (s.w1c a mask v) := by
  unfold State.w1c
  exact h.setReg

theorem Keeps.rwl {a mask lock : Nat} {v : Word} (h : Keeps onLane s₀ s) : Keeps onLane s₀ (s.rwl a mask lock v) := by
  unfold State.rwl
  exact Keeps.ite (Keeps.ite h.rw h.rw.put) h.rw

theorem Keeps.lockWrite {v : Nat} (h : Keeps onLane s₀ s) : Keeps onLane s₀ (s.lockWrite v) := by
  unfold State.lockWrite
  exact (h.when (fun k => k.put)).when (fun k => k.put)

theorem Keeps.writeLrx {i o : Nat} {v : Word} (h : Keeps onLane s₀ s) : Keeps onLane s₀ (s.writeLrx i o v) := by
  unfold State.writeLrx
  extract_lets a t u
  split
  · exact Keeps.ite h.rwl h.rwl.updRx
  · split
    · exact h.w1c
    · split
      · exact h.rw
      · split
        · exact h.rw
        · split
          · exact h.coefWrite
          · split
            · exact h.rw
            · split
              · exact Keeps.ite h.rw h.rw.put
              · split
                · exact h.rw.when fun k => k.histStart
                · split
                  · exact h.coefWrite
                  · exact Keeps.ite h.coefWrite h

theorem Keeps.writeLtx {i o : Nat} {v : Word} (h : Keeps onLane s₀ s) : Keeps onLane s₀ (s.writeLtx i o v) := by
  unfold State.writeLtx
  extract_lets +onlyGivenNames _
  split
  · exact h.rwl.when (fun k => k.commit)
  · split
    · exact h.w1c
    · split
      · exact h.rw
      · split
        · exact h.rw
        · split; exacts [h.rw, Keeps.ite h.rw h]

theorem Keeps.writeGlb {a : Nat} {v : Word} (h : Keeps false s₀ s) : Keeps false s₀ (s.writeGlb a v) := by
  unfold State.writeGlb
  exact Keeps.ite h.lockWrite <| Keeps.ite h.pgcfgWrite <| Keeps.ite h.pgenWrite <| Keeps.ite h.w1c <|
    Keeps.ite h.rw <| Keeps.ite h.timingMode.timingMode.rw <| Keeps.ite h.timingListWrite <|
    Keeps.ite (Keeps.ite h.rw (Keeps.ite ((h.when fun k => k.restart).when fun k => k.restart).goOn h)) <|
    Keeps.ite (Keeps.ite h.lmapWrite h) <| Keeps.ite h.rwl.goOn <| Keeps.ite h.rw.goOn <|
    Keeps.ite h.rstctrlWrite (Keeps.ite h.lerstWrite h)

theorem Keeps.writeFlt {a : Nat} {v : Word} (h : Keeps onLane s₀ s) : Keeps onLane s₀ (s.writeFlt a v) := by
  unfold State.writeFlt
  split
  · exact h.rwl
  · split
    · exact h.put.notePin
    · split
      · exact h.w1c
      · split
        · exact h.rw
        · split; exacts [h.rw, Keeps.ite h.srccfgWrite h]

theorem Keeps.pwrCtrlWrite {v : Nat} (h : Keeps false s₀ s) : Keeps false s₀ (s.pwrCtrlWrite v) := by
  unfold State.pwrCtrlWrite
  exact h.targetWrite.linkWake

theorem Keeps.dvfsWrite {v : Word} (h : Keeps false s₀ s) : Keeps false s₀ (s.dvfsWrite v) := by
  unfold State.dvfsWrite
  exact h.rw.dvfsStart

theorem Keeps.writePwr {a : Nat} {v : Word} (h : Keeps false s₀ s) : Keeps false s₀ (s.writePwr a v) := by
  unfold State.writePwr
  split
  · exact h.pwrCtrlWrite
  · split
    · exact h.rwl.settlePower
    · split
      · exact h.w1c
      · split; exacts [h.rw, Keeps.ite h.dvfsWrite h]

theorem Keeps.pageWrite {a mask bit : Nat} {v : Word} (h : Keeps false s₀ s) :
    Keeps false s₀ (s.pageWrite a mask bit v) := by
  unfold State.pageWrite
  exact Keeps.ite h.rw.withPages h

theorem Keeps.ringWrite {q o : Nat} {v : Word} (h : Keeps onLane s₀ s) : Keeps onLane s₀ (s.ringWrite q o v) := by
  unfold State.ringWrite
  extract_lets +onlyGivenNames _ _
  split
  · exact Keeps.ite h.rw h
  · exact Keeps.ite h.rw h
  · exact Keeps.ite h.rw h
  · exact Keeps.ite h.rw h
  · exact Keeps.ite h.rw h
  · exact h.ringCtrl
  · exact Keeps.ite h.rw h
  · exact h

theorem Keeps.msixWrite {a : Nat} {v : Word} (h : Keeps onLane s₀ s) : Keeps onLane s₀ (s.msixWrite a v) := by
  unfold State.msixWrite
  exact h.rw.msixUnmask

theorem Keeps.writeRng {a : Nat} {v : Word} (h : Keeps false s₀ s) : Keeps false s₀ (s.writeRng a v) := by
  unfold State.writeRng
  split
  · exact h.pageWrite
  · split
    · exact h.pageWrite
    · split
      · exact h.pageWrite
      · split
        · exact h.pageWrite
        · split
          · exact h.rw
          · split
            · exact h.evgrpWrite
            · split
              · exact h.w1c.each (fun _ k => k.vectorServed)
              · split
                · exact h.w1c
                · split; exacts [h.ringWrite, Keeps.ite h.msixWrite h]

theorem Keeps.orbCtrlWrite {v : Nat} (h : Keeps false s₀ s) : Keeps false s₀ (s.orbCtrlWrite v) := by
  unfold State.orbCtrlWrite
  extract_lets +onlyGivenNames t u v
  have ht : Keeps false s₀ t := h.when (fun k => k.askEnum)
  have hu : Keeps false s₀ u := ht.when (fun k => k.askEnum)
  have hv : Keeps false s₀ v := hu.when (fun k => k.writeHeal)
  exact hv.when (fun k => k.askMeasure)

theorem Keeps.orbWakeWrite {v : Word} (h : Keeps false s₀ s) : Keeps false s₀ (s.orbWakeWrite v) := by
  unfold State.orbWakeWrite
  exact h.rw.when (fun k => k.wakeSend)

theorem Keeps.writeOrb {a : Nat} {v : Word} (h : Keeps false s₀ s) : Keeps false s₀ (s.writeOrb a v) := by
  unfold State.writeOrb
  split
  · exact h
  · split
    · exact h.rw
    · split
      · exact h.rw
      · split
        · exact h.w1c
        · split
          · exact h.rw
          · split
            · exact h.orbCtrlWrite
            · split
              · exact h.rw
              · split
                · exact h.releaseAddr
                · exact Keeps.ite h.orbWakeWrite h

theorem Keeps.calCtrlWrite {v : Word} (h : Keeps false s₀ s) : Keeps false s₀ (s.calCtrlWrite v) := by
  unfold State.calCtrlWrite
  exact (((h.rw.when (fun k => k.suspendBegin)).suspendEnd).when (fun k => k.guardClear)).goOn

theorem Keeps.writeCal {a : Nat} {v : Word} (h : Keeps false s₀ s) : Keeps false s₀ (s.writeCal a v) := by
  unfold State.writeCal
  split
  · exact h.calCtrlWrite
  · split
    · exact h.rw
    · split
      · exact h.rw
      · split
        · exact h.rw
        · split; exacts [h.w1c, Keeps.ite h.rw h]

theorem Keeps.writeDir {e a : Nat} {v : Word} (h : Keeps onLane s₀ s) : Keeps onLane s₀ (s.writeDir e a v) := by
  unfold State.writeDir
  extract_lets +onlyGivenNames _
  split
  · exact h.w1c
  · split
    · exact h.rw
    · split
      · exact h.rplcfgWrite
      · split
        · split; exacts [h.rw, Keeps.ite h.rw h]
        · exact h

theorem Keeps.writePrt {a : Nat} {v : Word} (h : Keeps onLane s₀ s) : Keeps onLane s₀ (s.writePrt a v) := by
  unfold State.writePrt
  split
  · exact Keeps.ite h.entryWrite h
  · split
    · exact h.rw
    · split; exacts [h.w1c, Keeps.ite h.rw h]

theorem Keeps.writeEcl {a : Nat} {v : Word} (h : Keeps onLane s₀ s) : Keeps onLane s₀ (s.writeEcl a v) := by
  unfold State.writeEcl
  split
  · exact h.rw
  · split
    · exact h.rw
    · split; exacts [h.w1c, Keeps.ite h.rw h]

theorem Keeps.writeBst {a : Nat} {v : Word} (h : Keeps onLane s₀ s) : Keeps onLane s₀ (s.writeBst a v) := by
  unfold State.writeBst
  split; exacts [h.w1c, Keeps.ite h.rw h]

theorem Keeps.writeWord {a : Nat} {v : Word} (h : Keeps false s₀ s) : Keeps false s₀ (s.writeWord a v) := by
  unfold State.writeWord
  split
  · exact h
  · split
    · exact h.writeLrx
    · split
      · exact h.writeLtx
      · split
        · exact h.writeGlb
        · exact h.writeFlt
        · exact h.writePwr
        · exact h.writeRng
        · exact h.writeOrb
        · exact h.writeEcl
        · exact h.writeCal
        · exact h.writeBst
        · exact h.writeDir
        · exact h.writeDir
        · exact h.writePrt
        · exact h

theorem Keeps.swWrite {a : Nat} {v : Word} (h : Keeps false s₀ s) : Keeps false s₀ (s.swWrite a v).1 := by
  unfold State.swWrite
  split; exacts [h.writeWord, h]

theorem Keeps.swRmw {a : Nat} {mask value : Word} (h : Keeps false s₀ s) : Keeps false s₀ (s.swRmw a mask value).1 := by
  unfold State.swRmw
  split
  · exact h.readWord.writeWord
  · exact h

theorem Keeps.swReads {n a : Nat} (h : Keeps false s₀ s) : Keeps false s₀ (State.swReads n s a).1 := by
  induction n generalizing s a with
  | zero => exact h
  | succ n ih =>
    unfold State.swReads
    dsimp only
    split
    · exact ih h.swRead
    · exact h.swRead

theorem Keeps.swWrites {vs : List Word} {a : Nat} (h : Keeps false s₀ s) : Keeps false s₀ (State.swWrites vs s a).1 := by
  induction vs generalizing s a with
  | nil => exact h
  | cons v vs ih =>
    unfold State.swWrites
    dsimp only
    split
    · exact ih h.swWrite
    · exact h.swWrite

theorem Keeps.swSet {a : Nat} {v : Word} (h : Keeps false s₀ s) : Keeps false s₀ (s.swSet a v) := by
  unfold State.swSet
  exact h.swWrite

theorem Keeps.winErr (h : Keeps onLane s₀ s) : Keeps onLane s₀ s.winErr := by
  unfold State.winErr
  exact h.put

theorem Keeps.barRead {a n : Nat} (h : Keeps false s₀ s) : Keeps false s₀ (s.barRead a n) := by
  unfold State.barRead
  refine Keeps.emit ?_
  refine List.foldlRecOn (motive := fun x : State × List Word => Keeps false s₀ x.1) _ _ h fun x hx k _ => ?_
  dsimp only
  split
  · exact hx.readWord
  · exact hx

theorem Keeps.barWrite {a : Nat} {v : Word} (h : Keeps false s₀ s) : Keeps false s₀ (s.barWrite a v) := by
  unfold State.barWrite
  exact Keeps.ite h.writeWord h

theorem Keeps.barRequest {r : BarReq} (h : Keeps false s₀ s) : Keeps false s₀ (s.barRequest r) := by
  unfold State.barRequest
  split
  · exact h.pcieWakes
  · extract_lets +onlyGivenNames t
    have ht : Keeps false s₀ t := h.tlpArrives
    split
    · exact ht.unsupportedReq
    · split
      · exact ht.pcieError
      · split
        · exact ht.unsupportedReq
        · split
          · exact ht.winErr.when (fun k => k.emit)
          · split
            · exact ht.winErr
            · exact Keeps.ite (ht.foldl (fun _ k => k.barWrite)) ht.barRead

theorem Keeps.recordRun {l : List (BitVec 64)} (h : Keeps false s₀ s) : Keeps false s₀ (State.recordRun l s) := by
  induction l generalizing s with
  | nil => exact h.updCore.put
  | cons e l ih =>
    unfold State.recordRun
    extract_lets a data
    split
    · split
      · exact Keeps.ite h.updCore.swSet (ih h.updCore.swSet)
      · exact ih h
    · exact Keeps.ite (ih h) h.updCore
    · exact ih h

theorem Keeps.recordApply {r : CfgRecord} (h : Keeps false s₀ s) : Keeps false s₀ (s.recordApply r) := by
  unfold State.recordApply
  exact Keeps.ite (Keeps.ite h.recordRun h.updCore.put.raise) h

theorem Keeps.recordWait (h : Keeps false s₀ s) : Keeps false s₀ s.recordWait := by
  unfold State.recordWait
  split; exacts [Keeps.ite h.recordRun h, h]

theorem Keeps.startStream {o : Owner} {d : Desc} (h : Keeps false s₀ s) : Keeps false s₀ (s.startStream o d) := by
  unfold State.startStream
  exact h.streamStart.opDone

theorem Keeps.stopStream {o : Owner} {d : Desc} (h : Keeps onLane s₀ s) : Keeps onLane s₀ (s.stopStream o d) := by
  unfold State.stopStream
  exact h.streamStop.opDone

theorem Keeps.laneTask {o : Owner} {g sd : Nat} {j : Job} (h : Keeps onLane s₀ s) :
    Keeps onLane s₀ (s.laneTask o g sd j) := by
  unfold State.laneTask
  exact Keeps.ite h.pushJob.goOn h.opDone

theorem Keeps.swapEthernet {o : Owner} {g sd lane p : Nat} (h : Keeps onLane s₀ s) :
    Keeps onLane s₀ (s.swapEthernet o g sd lane p) := by
  unfold State.swapEthernet
  extract_lets +onlyGivenNames _ _
  split
  · exact h.moveRetrain.goOn.opDone
  · exact Keeps.opDone (Keeps.goOn (Keeps.ite h.moveMap.startAttempt.lossOther.segEval h.moveMap))

theorem Keeps.laneSwap {o : Owner} {d : Desc} (h : Keeps onLane s₀ s) : Keeps onLane s₀ (s.laneSwap o d) := by
  unfold State.laneSwap
  extract_lets +onlyGivenNames _ _ _ _ _
  split
  · exact h.opDone
  · split
    · exact h.laneTask
    · split
      · exact Keeps.ite h.swapEthernet h.opDone
      · exact h.opDone

theorem Keeps.laneRetrain {o : Owner} {d : Desc} (h : Keeps onLane s₀ s) : Keeps onLane s₀ (s.laneRetrain o d) := by
  unfold State.laneRetrain
  exact h.laneTask

theorem Keeps.laneRestore {o : Owner} {d : Desc} (h : Keeps onLane s₀ s) : Keeps onLane s₀ (s.laneRestore o d) := by
  unfold State.laneRestore
  exact Keeps.ite h.pushJob.goOn h.clearChannel.settleSpares.goOn.opDone

theorem Keeps.calFull {o : Owner} {d : Desc} (h : Keeps onLane s₀ s) : Keeps onLane s₀ (s.calFull o d) := by
  unfold State.calFull
  exact h.laneTask

theorem Keeps.calLanes {o : Owner} {d : Desc} {tx : Bool} (h : Keeps onLane s₀ s) :
    Keeps onLane s₀ (s.calLanes o d tx) := by
  unfold State.calLanes
  exact h.calRequest

theorem Keeps.bistRun {o : Owner} {d : Desc} {q idx : Nat} (h : Keeps onLane s₀ s) :
    Keeps onLane s₀ (s.bistRun o d q idx) := by
  unfold State.bistRun
  exact h.bistAdd

theorem Keeps.keyLoad {o : Owner} {d : Desc} (h : Keeps onLane s₀ s) : Keeps onLane s₀ (s.keyLoad o d) := by
  unfold State.keyLoad
  exact Keeps.ite h.opDone h.setKey.opDone

theorem Keeps.fwWrite {o : Owner} {d : Desc} {image : List Byte} (h : Keeps false s₀ s) :
    Keeps false s₀ (s.fwWrite o d image) := by
  unfold State.fwWrite
  exact h.loadAdd

theorem Keeps.fwActivate {o : Owner} (h : Keeps false s₀ s) : Keeps false s₀ (s.fwActivate o) := by
  unfold State.fwActivate
  exact h.loadAdd

theorem Keeps.faultClear {o : Owner} {d : Desc} (h : Keeps false s₀ s) : Keeps false s₀ (s.faultClear o d) := by
  unfold State.faultClear
  extract_lets r
  have hr : Keeps false s₀ r.1 := by
    unfold r
    split
    · exact h.clearSource
    · exact h.clearRecord
    · exact h.clearSafe
  exact hr.opDone

theorem Keeps.opStart {o : Owner} {d : Desc} {q idx : Nat} {image : List Byte} (h : Keeps false s₀ s) :
    Keeps false s₀ (s.opStart o d q idx image) := by
  unfold State.opStart
  split
  · exact h.startStream
  · exact h.stopStream
  · split; exacts [h.calLanes, h.calLanes, h.calFull]
  · exact h.bistRun
  · split; exacts [h.laneSwap, h.laneRetrain, h.laneRestore]
  · exact h.keyLoad
  · exact Keeps.ite h.fwWrite h.fwActivate
  · exact h.faultClear
  · exact h.opDone

theorem Keeps.waitingGo (h : Keeps false s₀ s) : Keeps false s₀ s.waitingGo := by
  unfold State.waitingGo
  exact h.updCore.each (fun _ k => k.opStart)

theorem Keeps.opFrame {tag : Nat} {d : Desc} (h : Keeps false s₀ s) : Keeps false s₀ (s.opFrame tag d) := by
  unfold State.opFrame
  extract_lets +onlyGivenNames _ t
  have ht : Keeps false s₀ t := h.ownFrame
  split
  · exact ht
  · exact Keeps.ite (ht.updCore.when (fun k => k.wakeDev)) ht.opStart

theorem Keeps.started {q idx : Nat} (h : Keeps onLane s₀ s) : Keeps onLane s₀ (s.started q idx) := by
  unfold State.started
  exact h.updFlight

theorem Keeps.descAt {q : Nat} {f : Flight} {own : State → State} {ftype : Nat} {payload image : List Byte}
    (h : Keeps false s₀ s)
    (hown : ∀ {t}, Keeps false s₀ t → Keeps false s₀ (own t)) :
    Keeps false s₀ (s.descAt q f own ftype payload image) := by
  unfold State.descAt
  split
  · exact Keeps.ite h.answerFlight (hown h.started)
  · split; exacts [h.answerFlight, Keeps.ite h h.sendReq]

theorem Keeps.descOp {q idx t : Nat} {op : Option Nat} {image : List Byte} (h : Keeps false s₀ s) :
    Keeps false s₀ (s.descOp q idx t op image) := by
  unfold State.descOp
  split; exacts [h.descAt (fun k => k.opStart), h]

theorem Keeps.readHere {q idx : Nat} {d : Desc} (h : Keeps false s₀ s) : Keeps false s₀ (s.readHere q idx d) := by
  unfold State.readHere
  exact h.swReads.answerFlight

theorem Keeps.writeHere {q idx : Nat} {d : Desc} (h : Keeps false s₀ s) : Keeps false s₀ (s.writeHere q idx d) := by
  unfold State.writeHere
  exact h.swWrite.answerFlight

theorem Keeps.rmwHere {q idx : Nat} {d : Desc} (h : Keeps false s₀ s) : Keeps false s₀ (s.rmwHere q idx d) := by
  unfold State.rmwHere
  exact h.swRmw.answerFlight

theorem Keeps.bulkWriteHere {q idx : Nat} {d : Desc} (h : Keeps false s₀ s) :
    Keeps false s₀ (s.bulkWriteHere q idx d) := by
  unfold State.bulkWriteHere
  exact h.swWrites.answerFlight

theorem Keeps.bulkReadHere {q idx : Nat} {d : Desc} (h : Keeps false s₀ s) :
    Keeps false s₀ (s.bulkReadHere q idx d) := by
  unfold State.bulkReadHere
  exact Keeps.answerFlight (Keeps.ite h.swReads h.swReads.postWrite)

theorem Keeps.castHere {op addr : Nat} {data mask : Word} (h : Keeps false s₀ s) :
    Keeps false s₀ (s.castHere op addr data mask).1 := by
  unfold State.castHere
  split
  · exact h
  · split; exacts [h.swWrite, h.swRmw]

theorem Keeps.castOn {p : OrbPort} {tag : Nat} {payload : List Byte} {mine : Nat} (h : Keeps false s₀ s) :
    Keeps false s₀ (s.castOn p tag payload mine) := by
  unfold State.castOn
  exact h.mgrFrame

theorem Keeps.castStart {q : Nat} {f : Flight} (h : Keeps false s₀ s) : Keeps false s₀ (s.castStart q f) := by
  unfold State.castStart
  split
  · exact h
  · split
    · exact h
    · extract_lets +onlyGivenNames _ t _
      have ht : Keeps false s₀ t := h.started.castHere
      exact Keeps.ite ht.priOutcome (ht.updOrb.each (fun _ k => k.castOn))

theorem Keeps.eclipseStart {q : Nat} {f : Flight} (h : Keeps false s₀ s) : Keeps false s₀ (s.eclipseStart q f) := by
  unfold State.eclipseStart
  split; exacts [h, h.started.eclipseAccept.priStart]

theorem Keeps.quenchHere {d : Desc} (h : Keeps onLane s₀ s) : Keeps onLane s₀ (s.quenchHere d).1 := by
  unfold State.quenchHere
  exact h.applyQuench

theorem Keeps.quenchStart {q : Nat} {f : Flight} (h : Keeps false s₀ s) : Keeps false s₀ (s.quenchStart q f) := by
  unfold State.quenchStart
  extract_lets +onlyGivenNames t _
  have ht : Keeps false s₀ t := h.started
  split
  · exact ht.quenchHere.opDone
  · split
    · exact ht.quenchHere.priStart
    · exact Keeps.ite ht.answerFlight ht.priStart

theorem Keeps.descQuench {q idx op : Nat} (h : Keeps false s₀ s) : Keeps false s₀ (s.descQuench q idx op) := by
  unfold State.descQuench
  split; exacts [h.quenchStart, h]

theorem Keeps.descPlain {q idx t : Nat} (h : Keeps onLane s₀ s) : Keeps onLane s₀ (s.descPlain q idx t) := by
  unfold State.descPlain
  split; exacts [h.answerFlight, h]

theorem Keeps.noteTeleCq {q idx : Nat} (h : Keeps false s₀ s) : Keeps false s₀ (s.noteTeleCq q idx) := by
  unfold State.noteTeleCq
  split; exacts [Keeps.ite h h.setTeleCq, h]

theorem Keeps.descReg {q idx t : Nat} {own : Desc → State → State} {payload : Desc → List Byte} (h : Keeps false s₀ s)
    (hown : ∀ {t} x, Keeps false s₀ t → Keeps false s₀ (own x t)) :
    Keeps false s₀ (s.descReg q idx t own payload) := by
  unfold State.descReg
  split; exacts [h.descAt (fun k => hown _ k), h]

theorem Keeps.readImage {q idx : Nat} (h : Keeps onLane s₀ s) : Keeps onLane s₀ (s.readImage q idx) := by
  unfold State.readImage
  split; exacts [Keeps.ite h h.hostRead, h]

theorem Keeps.regAgent {f : Frame} (h : Keeps false s₀ s) : Keeps false s₀ (s.regAgent f).1 := by
  unfold State.regAgent
  extract_lets addr count
  split
  · exact h
  · split
    · exact h.swWrite
    · exact h.swRmw
    · exact h.swWrites
    · exact h.swReads

theorem Keeps.regAnswers {n tag status first : Nat} {ws : List Word} (h : Keeps false s₀ s) :
    Keeps false s₀ (State.regAnswers n s tag status first ws) := by
  induction n generalizing s first ws with
  | zero => exact h
  | succ n ih =>
    unfold State.regAnswers
    exact Keeps.ite h.ownFrame (ih h.ownFrame)

theorem Keeps.regFrame {f : Frame} (h : Keeps false s₀ s) : Keeps false s₀ (s.regFrame f) := by
  unfold State.regFrame
  exact h.regAgent.regAnswers

theorem Keeps.castWorker {p : OrbPort} {f : Frame} (h : Keeps false s₀ s) : Keeps false s₀ (s.castWorker p f) := by
  unfold State.castWorker
  split
  · exact h
  · exact Keeps.ite (Keeps.ite h.castHere.relayFrame h.discardFrame.relayFrame) h.relayFrame

theorem Keeps.updLoad {tag : Nat} {l : FwLoad} (h : Keeps onLane s₀ s) : Keeps onLane s₀ (s.updLoad tag l) := by
  unfold State.updLoad
  exact h.updCore

theorem Keeps.imageData {f : Frame} (h : Keeps onLane s₀ s) : Keeps onLane s₀ (s.imageData f) := by
  unfold State.imageData
  extract_lets +onlyGivenNames _ _
  split
  · exact Keeps.ite (Keeps.ite h.updLoad.ownFrame h.updLoad) h
  · exact h

theorem Keeps.sendImage {r : OrbReq} (h : Keeps false s₀ s) : Keeps false s₀ (s.sendImage r) := by
  unfold State.sendImage
  exact h.each (fun _ k => k.mgrFrame)

theorem Keeps.resendImage (h : Keeps false s₀ s) : Keeps false s₀ s.resendImage := by
  unfold State.resendImage
  exact Keeps.ite (h.each (fun _ k => k.sendImage)) h

theorem Keeps.regAns {r : OrbReq} {f : Frame} (h : Keeps false s₀ s) : Keeps false s₀ (s.regAns r f) := by
  unfold State.regAns
  extract_lets +onlyGivenNames _ _ _
  split
  · exact h
  · split
    · exact h.endReq
    · exact h.endReq
    · exact h.endReq
    · extract_lets +onlyGivenNames t _
      have ht : Keeps false s₀ t := Keeps.ite h h.postWrite
      exact Keeps.ite ht.endReq ht.updReq
    · exact h.endReq

theorem Keeps.opAccept {r : OrbReq} {f : Frame} (h : Keeps false s₀ s) : Keeps false s₀ (s.opAccept r f) := by
  unfold State.opAccept
  exact Keeps.ite h.endReq h.updReq.sendImage

theorem Keeps.opDoneAns {r : OrbReq} {f : Frame} (h : Keeps false s₀ s) : Keeps false s₀ (s.opDoneAns r f) := by
  unfold State.opDoneAns
  extract_lets +onlyGivenNames _ _
  split
  · exact h
  · exact Keeps.ite (Keeps.ite h.recordWrite.endReq h.recordWrite) h.endReq

theorem Keeps.answerTo {r : OrbReq} {f : Frame} (h : Keeps false s₀ s) : Keeps false s₀ (s.answerTo r f) := by
  unfold State.answerTo
  split; exacts [h.regAns, h.opAccept, h.opDoneAns, h]

theorem Keeps.revive {r : OrbReq} (h : Keeps false s₀ s) : Keeps false s₀ (s.revive r) := by
  unfold State.revive
  exact h.updOrb.updFlight

theorem Keeps.answerFrame {f : Frame} (h : Keeps false s₀ s) : Keeps false s₀ (s.answerFrame f) := by
  unfold State.answerFrame
  split; exacts [h.answerTo, h.revive.answerTo, h.count]

theorem Keeps.quenchSeq {p : OrbPort} {q : PriSeq} (h : Keeps onLane s₀ s) : Keeps onLane s₀ (s.quenchSeq p q) := by
  unfold State.quenchSeq
  exact Keeps.ite (Keeps.ite h.notePri.applyQuench.relayPri h.notePri.relayPri) h

theorem Keeps.jtagLoad {i : JtagInstr} (h : Keeps false s₀ s) : Keeps false s₀ (s.jtagLoad i) := by
  unfold State.jtagLoad
  split
  · exact h
  · extract_lets +onlyGivenNames t u
    have ht : Keeps false s₀ t := h.withJtag
    have hu : Keeps false s₀ u := (ht.when (fun k => k.emit)).when (fun k => k.pinLevels)
    exact hu.when (fun k => k.pcieError.mgmtReset)

theorem Keeps.takeSack {e g n : Nat} (h : Keeps onLane s₀ s) : Keeps onLane s₀ (s.takeSack e g n) := by
  unfold State.takeSack
  split
  · exact h.raise
  · exact Keeps.ite h.updEng.put.drainCheck h

theorem Keeps.takeSnak {e g first count : Nat} {goBack : Bool} (h : Keeps onLane s₀ s) :
    Keeps onLane s₀ (s.takeSnak e g first count goBack) := by
  unfold State.takeSnak
  extract_lets +onlyGivenNames tx range overtaken
  clear_value range
  split
  · exact h
  · split
    · exact h
    · split
      · exact h.count.raise
      · exact Keeps.ite h.abandonAt h.updEng.noteRetry.count

theorem Keeps.popX {e g : Nat} (h : Keeps onLane s₀ s) : Keeps onLane s₀ (s.popX e g) := by
  unfold State.popX
  exact h.updEng

theorem Keeps.sendFlit {e g : Nat} {f : Flit} {parityError : Bool} (h : Keeps onLane s₀ s) :
    Keeps onLane s₀ (s.sendFlit e g f parityError) := by
  unfold State.sendFlit
  exact Keeps.ite h.flitOut.count.causeOn h.flitOut

theorem Keeps.countSlot {e g : Nat} {carriesSack : Bool} (h : Keeps onLane s₀ s) :
    Keeps onLane s₀ (s.countSlot e g carriesSack) := by
  unfold State.countSlot
  exact Keeps.ite h.updEng h

theorem Keeps.sendSlack {e g : Nat} (h : Keeps onLane s₀ s) : Keeps onLane s₀ (s.sendSlack e g) := by
  unfold State.sendSlack
  exact h.flitOut.count.updEng.countSlot

theorem Keeps.noSlack {e g : Nat} (h : Keeps onLane s₀ s) : Keeps onLane s₀ (s.noSlack e g) := by
  unfold State.noSlack
  exact h.updEng.countSlot

theorem Keeps.sendIns {e g : Nat} {i : Ins} {parityError : Bool} (h : Keeps onLane s₀ s) :
    Keeps onLane s₀ (s.sendIns e g i parityError) := by
  unfold State.sendIns
  exact h.updEng.sendFlit.noSlack

theorem Keeps.writeSlot {e g : Nat} {x : Slot} (h : Keeps onLane s₀ s) : Keeps onLane s₀ (s.writeSlot e g x) := by
  unfold State.writeSlot
  exact Keeps.ite h.updEng.count.raise.drainCheck h.updEng

theorem Keeps.advanceTx {e g seq : Nat} (h : Keeps onLane s₀ s) : Keeps onLane s₀ (s.advanceTx e g seq) := by
  unfold State.advanceTx
  exact h.put.updEng

theorem Keeps.sendNew {e g : Nat} {x : Held} {parityError : Bool} (h : Keeps onLane s₀ s) :
    Keeps onLane s₀ (s.sendNew e g x parityError) := by
  unfold State.sendNew
  extract_lets +onlyGivenNames _ t u v
  have ht : Keeps onLane s₀ t := Keeps.ite h.raise h
  have hu : Keeps onLane s₀ u := Keeps.ite ht.count.countBy ht
  have hv : Keeps onLane s₀ v := Keeps.ite hu.advanceTx.writeSlot hu
  exact hv.sendFlit.noSlack.lpForward

theorem Keeps.sendCopy {e g : Nat} {x : Slot} {parityError : Bool} (h : Keeps onLane s₀ s) :
    Keeps onLane s₀ (s.sendCopy e g x parityError) := by
  unfold State.sendCopy
  extract_lets +onlyGivenNames _ t _ u v w
  have ht : Keeps onLane s₀ t := Keeps.ite h.raise h
  have hu : Keeps onLane s₀ u := Keeps.ite ht.count.countBy ht
  have hv : Keeps onLane s₀ v := Keeps.ite hu.count hu
  have hw : Keeps onLane s₀ w := hv.updEng
  exact hw.noteRetry.sendFlit.noSlack

theorem Keeps.takeRange {e g leave : Nat} (h : Keeps onLane s₀ s) : Keeps onLane s₀ (s.takeRange e g leave) := by
  unfold State.takeRange
  split
  · exact Keeps.ite h.updEng.abandonAt h.updEng.updEng.noteRetry.countBy.count.raise
  · exact h

theorem Keeps.sendDeferred {e g : Nat} {parityError : Bool} (h : Keeps onLane s₀ s) :
    Keeps onLane s₀ (s.sendDeferred e g parityError) := by
  unfold State.sendDeferred
  split
  · extract_lets +onlyGivenNames t u
    have ht : Keeps onLane s₀ t := h.updEng.noteRetry
    have hu : Keeps onLane s₀ u := ht.deferFresh.sendNew
    exact Keeps.ite hu.put.drainCheck hu
  · exact h

theorem Keeps.slotRest {e g : Nat} {parityError : Bool} (h : Keeps onLane s₀ s) :
    Keeps onLane s₀ (s.slotRest e g parityError) := by
  unfold State.slotRest
  extract_lets +onlyGivenNames _
  split
  · exact h.sendDeferred
  · split; exacts [h.updEng.sendNew, h.sendSlack]

theorem Keeps.slotGo {e g : Nat} {parityError : Bool} (h : Keeps onLane s₀ s) :
    Keeps onLane s₀ (s.slotGo e g parityError) := by
  unfold State.slotGo
  split
  · split
    · exact h.sendCopy.deferFresh
    · exact h.updEng.noteRetry.slotRest
  · exact h.sendIns.deferFresh
  · exact h.slotRest

theorem Keeps.slotF {e g leave : Nat} {parityError : Bool} (h : Keeps onLane s₀ s) :
    Keeps onLane s₀ (s.slotF e g leave parityError) := by
  unfold State.slotF
  exact Keeps.slotGo (Keeps.ite h.takeRange h)

theorem Keeps.flitSlot {e g leave : Nat} {parityError : Bool} (h : Keeps onLane s₀ s) :
    Keeps onLane s₀ (s.flitSlot e g leave parityError) := by
  unfold State.flitSlot
  split
  · split
    · exact Keeps.ite h h.sendSlack
    · exact Keeps.ite (Keeps.ite h.sendSlack.deferFresh h.slotF) h
  · exact h

theorem Keeps.tick (h : Keeps false s₀ s) : Keeps false s₀ s.tick := by
  unfold State.tick
  exact Keeps.ite h.withClock.setCounter h.withClock

theorem Keeps.ofNext {u : State} {lane : Bool} (e : (Host.Outcome.next u : Host.Outcome State Fault Refusal) = .next t)
    (h : Keeps lane s₀ u) : Keeps lane s₀ t := by
  cases e
  exact h

theorem Keeps.ofIf {u : State} {lane : Bool} {c : Prop} [Decidable c]
    (e : (if c then .next u else .fault .illFormed : Host.Outcome State Fault Refusal) = .next t)
    (h : Keeps lane s₀ u) : Keeps lane s₀ t := by
  split at e
  · exact .ofNext e h
  · cases e

theorem Keeps.ofElse {u : State} {lane : Bool} {c : Prop} [Decidable c]
    (e : (if c then .fault .illFormed else .next u : Host.Outcome State Fault Refusal) = .next t)
    (h : Keeps lane s₀ u) : Keeps lane s₀ t := by
  split at e
  · cases e
  · exact .ofNext e h

/-- Every command that completes keeps the queue and the legal states, and one of the lane side keeps the management
side. -/
theorem exec_keeps {c : Instr} (e : exec c s = .next t) : Keeps (laneSide c) s t := by
  have h : ∀ {lane}, Keeps lane s s := fun {lane} => .refl lane s
  cases c with
  | coldReset => exact .ofNext e (h.coldOf s.railCount_le)
  | vstbyApplied => exact .ofNext e (h.coldOf (by decide))
  | resetNRise => exact .ofNext e h.coldStart
  | powerLoss => exact .ofNext e (h.coldOf (by decide))
  | regulatorStageReady => exact .ofNext e h.regulatorReady
  | oscillatorStageReady => exact .ofNext e h.oscReady
  | memoryStageDone => exact .ofNext e h.memoryDone
  | logicStageDone => exact .ofNext e h.logicDone.waitingGo
  | powerupPgTimeout => exact .ofNext e h.pgTimeout
  | powerupRetry => exact .ofNext e h.upRetry
  | stageWaitExceeded => exact .ofNext e (h.when (fun k => k.report))
  | firmwareReady => exact .ofNext e h.firmwareReady.waitingGo
  | fwTrialTimeout => exact .ofNext e h.trialFailed
  | cfgRecordApply => exact .ofIf e h.recordApply
  | cfgRecordWaitExpiry => exact .ofNext e h.recordWait
  | mresetNAssert => exact .ofNext e h.cutFrame.mgmtReset
  | glbMreset => exact .ofNext e (h.soft (fun k => k.cutFrame.mgmtReset))
  | engReset => exact .ofNext e (h.soft (fun k => k.engReset))
  | engineRelease => exact .ofNext e h.engRelease
  | laneEndResetHold => exact .ofNext e (h.soft (fun k => k.lerst))
  | laneEndResetRelease => exact .ofNext e (h.soft (fun k => k.lerst))
  | idleEntry => exact .ofNext e (h.when (fun k => k.put))
  | idleExit => exact .ofNext e (h.when (fun k => k.put))
  | targetWrite => exact .ofNext e (h.soft (fun k => k.targetWrite))
  | entryDwellExpiry => exact .ofNext e h.dwellEnds
  | entryStepDone => exact .ofNext e h.entryNext
  | entryRailsDone => exact .ofNext e h.railsDone
  | linkWake => exact .ofNext e (h.soft (fun k => k.linkWake))
  | laneWake => exact .ofNext e h.laneWake
  | wakeNLow => exact .ofNext e h.wakeNLow
  | pcieWake => exact .ofNext e (h.when (fun k => k.wakeDev))
  | tempWake => exact .ofNext e (h.when (fun k => k.wakeDev))
  | orbitFrameWake => exact .ofNext e (h.when (fun k => k.wakeDev))
  | lpwrFlit => exact .ofNext e h.lpObserve
  | lpAgreeTimeout => exact .ofNext e h.lpTimeout
  | lpQuiet => exact .ofNext e h.lpQuiet
  | lpWakeTimeout => exact .ofNext e h.lpWakeFail
  | laneEndActivate => exact .ofNext e h.activate
  | laneEndActive => exact .ofNext e (h.activated.when fun k => (k.when fun j => j.framesStart).requesterGo)
  | dvfsRequest => exact .ofNext e (h.soft (fun k => k.put.dvfsStart))
  | vreadySample => exact .ofNext e (h.when (fun k => k.vidReady))
  | dvfsClockRaise => exact .ofNext e (h.when (fun k => k.put.dvfsEnd))
  | vidTimeout => exact .ofNext e (h.when (fun k => k.report.dvfsEnd))
  | losAssert => exact .ofNext e h.losAssert
  | losClear => exact .ofNext e h.losClear
  | cometDetect => exact .ofNext e h.cometDetect
  | cdrLock => exact .ofNext e h.cdrLock.settleCauses.heldCheck
  | cdrUnlock => exact .ofNext e h.cdrUnlock.cwDropAll.settleCauses.goOn
  | adaptUpdate => exact .ofNext e h.adapt
  | coefWrite => exact .ofNext e (h.soft (fun k => k.coefWrite))
  | detModeSwitch => exact .ofNext e h.detSwitch
  | starveWindowEnd => exact .ofNext e (h.when (fun k => k.starveWindow))
  | rxFifoSlip => exact .ofNext e (h.when (fun k => k.rxSlip))
  | histogramRunStart => exact .ofNext e (h.soft (fun k => k.histStart))
  | histogramRunDone => exact .ofIf e (h.when (fun k => k.histDone))
  | counterLowRead => exact .ofNext e (Keeps.ite h.swRead h)
  | shadowCompareDone => exact .ofNext e h.shadowDone
  | swapWindow => exact .ofIf e h.swapWindow
  | sliceSettled => exact .ofNext e h.sliceSettled
  | commit => exact .ofNext e (h.soft (fun k => k.commit))
  | commitApply => exact .ofNext e h.commitApply.txBoundary
  | cellReplace => exact .ofNext e h.cellsReplace.txBoundary.passSettle
  | rotatorLimit => exact .ofNext e (h.when (fun k => k.put.raise))
  | txFifoSlip => exact .ofNext e (h.when (fun k => k.updTx.count))
  | pllHoldoverEntry => exact .ofNext e (h.enterHoldover.when (fun k => k.warnHoldover))
  | timingFailover => exact .ofNext e (h.when (fun k => k.failover))
  | pllLockDone => exact .ofNext e h.pllLocked
  | timingRevert => exact .ofNext e (h.when (fun k => k.put.put))
  | timingListWrite => exact .ofNext e (h.soft (fun k => k.timingListWrite))
  | timingModeWrite => exact .ofNext e (h.soft (fun k => k.timingMode))
  | refclkLoss => exact .ofNext e h.refclkLoss.bistRef
  | refclkReturn => exact .ofNext e h.refclkReturn.goOn
  | freqRange => exact .ofNext e (h.when (fun k => k.raise))
  | portGroupEnable => exact .ofNext e (h.soft (fun k => k.portEnable.goOn.dvfsStart))
  | portGroupDisable => exact .ofNext e (h.soft (fun k => k.groupOff.goOn.dvfsStart))
  | pgcfgWrite => exact .ofNext e (h.soft (fun k => k.pgcfgWrite))
  | rplcfgWrite => exact .ofNext e (h.soft (fun k => k.rplcfgWrite))
  | lmapWrite => exact .ofNext e (h.soft (fun k => k.lmapWrite))
  | anPage => exact .ofNext e h.anPage
  | anBreakLinkExpiry => exact .ofNext e h.updSeg
  | trainingFrame => exact .ofNext e h.trainingFrame
  | widthWaitExpiry => exact .ofNext e h.widthWait
  | coefRequest => exact .ofIf e (h.when (fun k => k.coefRequest))
  | coefStatus => exact .ofIf e (h.when (fun k => k.coefStatus.useFree4))
  | eqTimeout => exact .ofNext e h.eqTimeout
  | alignTimeout => exact .ofNext e h.alignTimeout
  | backoffExpiry => exact .ofNext e h.backoffEnds
  | fecLockTimeout => exact .ofNext e h.fecTimeout.goOn
  | segmentRestart => exact .ofNext e (h.soft (fun k => ((k.when (fun j => j.restart)).when (fun j => j.restart)).goOn))
  | segmentLosTimeout => exact .ofNext e h.losTimeout
  | ethLaneLossTimeout => exact .ofNext e h.ethLoss
  | markerLossTimeout => exact .ofNext e h.markerLoss
  | fillToDataSwitch => exact .ofNext e h.fillEnds
  | laneTrainingDone => exact .ofNext e h.ltDone
  | laneTrainingTimeout => exact .ofNext e h.ltFailed
  | shadowCopyStart => exact .ofNext e h.shadowStart
  | markerCheck => exact .ofNext e h.markerCheck
  | codewordReceived => exact .ofIf e (h.when (fun k => k.codeword))
  | flitReceived => exact .ofNext e h.flitReceived.goOn
  | nakTimerExpiry => exact .ofNext e h.nakExpiry
  | pureSackDue => exact .ofNext e h.pureSack
  | crossEngineSack =>
    change execCrossEngineSack _ _ s = .next t at e
    unfold execCrossEngineSack at e
    split at e
    · exact .ofNext e h.popX.takeSack
    · exact .ofNext e h
  | crossEngineSnak =>
    change execCrossEngineSnak _ _ s = .next t at e
    unfold execCrossEngineSnak at e
    split at e
    · exact .ofNext e h.popX.takeSnak
    · exact .ofNext e h
  | flitSlot => exact .ofNext e h.flitSlot
  | lanemapPropose =>
    change execLanemapPropose _ _ s = .next t at e
    unfold execLanemapPropose at e
    split at e
    · exact .ofNext e (h.popLanemap.when fun k => k.proposed)
    · exact .ofNext e h
  | lanemapAccept =>
    change execLanemapAccept _ _ s = .next t at e
    unfold execLanemapAccept at e
    split at e
    · exact .ofNext e (h.popLanemap.when fun k => k.answered')
    · exact .ofNext e h
  | lanemapRefuse =>
    change execLanemapRefuse _ _ s = .next t at e
    unfold execLanemapRefuse at e
    split at e
    · exact .ofNext e (h.popLanemap.when fun k => k.answered')
    · exact .ofNext e h
  | lanemapNotice =>
    change execLanemapNotice _ _ s = .next t at e
    unfold execLanemapNotice at e
    split at e
    · exact .ofNext e (h.popLanemap.when fun k => k.noticed)
    · exact .ofNext e h
  | proposeResend => exact .ofNext e h.proposeAgain
  | mapSwitchTx => exact .ofNext e (h.when (fun k => k.switchTx.goOn))
  | mapChangeTimeout => exact .ofNext e h.changeTimeout
  | mapChangeTimeoutTg => exact .ofNext e h.changeTimeoutTg
  | escalationRetry => exact .ofNext e h.retryEscalation
  | partitionEntryWrite => exact .ofNext e (h.soft (fun k => k.entryWrite))
  | drainForceExpiry => exact .ofNext e h.drainForce
  | calCycleStart => exact .ofNext e h.cycleStart
  | calCycleDone => exact .ofElse e (h.when (fun k => k.cycleDone))
  | guardClr => exact .ofNext e (h.soft (fun k => k.guardClear.goOn))
  | suspectVerdict => exact .ofIf e h.suspectVerdict
  | holdLimit => exact .ofNext e h.holdLimit
  | refvCheck => exact .ofNext e h.refvCheck.bistRef
  | refvResume => exact .ofNext e h.refvResume.goOn
  | txPassStart => exact .ofNext e h.passStart
  | cellLend => exact .ofNext e h.txBoundary.cellLend
  | cellReturn => exact .ofNext e h.txBoundary.cellReturn
  | tempReading => exact .ofNext e h.tempReading
  | tempDwellExpiry => exact .ofNext e h.tempTrigger
  | foregroundCalDone => exact .ofIf e h.fgDone
  | bar0Request => exact .ofIf e h.barRequest
  | doorbell => exact .ofIf e h.doorbell
  | ringRecheck => exact .ofNext e h.recheck
  | cqHeadPoll => exact .ofNext e (h.when (fun k => k.headPoll))
  | hostReadError => exact .ofNext e h.hostReadError
  | descriptorComplete => exact .ofNext e h.descriptorComplete.resetSettle
  | coalesceExpiry => exact .ofNext e h.coalesceEnd
  | ringEnable => exact .ofNext e (h.soft (fun k => k.ringEnable))
  | ringDisable => exact .ofNext e (h.soft (fun k => k.ringDisable))
  | ringEngineResetTimeout => exact .ofNext e h.resetTimeout
  | evgrpEnable => exact .ofNext e (h.soft (fun k => k.evgrpWrite))
  | eventOnset => exact .ofNext e (h.when (fun k => k.raise))
  | flr => exact .ofNext e h.flr
  | pcieHotReset => exact .ofNext e (h.when (fun k => (k.when (fun j => j.pcieError)).mgmtReset))
  | perstNAssert => exact .ofNext e (h.when (fun k => k.mgmtReset.pcieWakes))
  | d3hotEntry => exact .ofNext e (h.when (fun k => k.put))
  | d3hotExit => exact .ofNext e h.put.hostBack
  | nop => exact .ofNext e h.descPlain
  | regRead => exact .ofNext e (h.descReg (fun _ k => k.readHere))
  | regWrite => exact .ofNext e (h.descReg (fun _ k => k.writeHere))
  | regRmw => exact .ofNext e (h.descReg (fun _ k => k.rmwHere))
  | bulkWrite => exact .ofNext e (h.descReg (fun _ k => k.bulkWriteHere))
  | bulkRead => exact .ofNext e (h.descReg (fun _ k => k.bulkReadHere))
  | orbitBcast => exact .ofNext e (by split; exacts [h.castStart, h])
  | eclipse => exact .ofNext e (by split; exacts [h.eclipseStart, h])
  | tstreamStart => exact .ofNext e h.noteTeleCq.descOp
  | tstreamStop => exact .ofNext e h.descOp
  | calSweep => exact .ofNext e h.descOp
  | calTxpass => exact .ofNext e h.descOp
  | calFull => exact .ofNext e h.descOp
  | bistRun => exact .ofNext e h.descOp
  | laneSwapSwap => exact .ofNext e h.descOp
  | laneSwapRetrain => exact .ofNext e h.descOp
  | laneSwapRestore => exact .ofNext e h.descOp
  | quench => exact .ofNext e h.descQuench
  | unquench => exact .ofNext e h.descQuench
  | rquench => exact .ofNext e h.descQuench
  | runquench => exact .ofNext e h.descQuench
  | keyLoad => exact .ofNext e h.descOp
  | fwLoadWrite => exact .ofIf e h.readImage.descOp
  | fwLoadActivate => exact .ofNext e h.descOp
  | faultClearSource => exact .ofNext e h.descOp
  | faultClearRecord => exact .ofNext e h.descOp
  | faultClearSafe => exact .ofNext e h.descOp
  | fence => exact .ofNext e h.descPlain
  | regFrame => exact .ofNext e (h.atWorker (fun k => k.regFrame))
  | bcastFrame => exact .ofNext e h.castWorker
  | opFrame => exact .ofNext e (h.atWorker (fun k => k.opFrame))
  | imageDataFrame => exact .ofNext e (h.atWorker (fun k => k.imageData))
  | fwDataResend => exact .ofNext e h.resendImage
  | answerFrame => exact .ofNext e (Keeps.ite (h.atManager (fun k => k.answerFrame)) (h.atWorker (fun k => k)))
  | eventFrame => exact .ofNext e (Keeps.ite (h.atManager (fun k => k.eventEntry)) (h.atWorker (fun k => k)))
  | telemFrame => exact .ofNext e (Keeps.ite (h.atManager (fun k => k.telemHalf)) (h.atWorker (fun k => k)))
  | telemHalfTimeout => exact .ofNext e h.halfTimeout
  | workerFrameSend => exact .ofNext e h.workerFrames
  | enumFrame => exact .ofNext e h.enumFrame
  | enumAnsFrame => exact .ofNext e (Keeps.ite (h.atManager (fun k => k.enumAns)) (h.atWorker (fun k => k)))
  | assignFrame => exact .ofNext e (h.castFrame (fun k => k.assign))
  | assignAckFrame => exact .ofNext e (Keeps.ite (h.atManager (fun k => k.assignAck)) (h.atWorker (fun k => k)))
  | claimTimeout => exact .ofNext e h.updOrb
  | mapFrame => exact .ofNext e h.mapFrame
  | mapReturn => exact .ofNext e h.mapReturn
  | probeFrame => exact .ofNext e (h.atWorker (fun k => k.updOrb))
  | ctrlUnwrap => exact .ofNext e (h.castFrame (fun k => k.unwrap))
  | ctrlSetArm => exact .ofNext e (h.castFrame (fun k => k.put))
  | ctrlMreset => exact .ofNext e (h.castFrame (fun k => k.cutFrame.mgmtReset))
  | ctrlSetDelay => exact .ofNext e (h.castFrame (fun k => k.setDelay))
  | quenchSeqReceived => exact .ofNext e h.quenchSeq
  | eclipseSeqReceived => exact .ofNext e h.eclipseSeq
  | wakeSeqReceived => exact .ofNext e h.wakeSeq
  | beaconReceived => exact .ofNext e h.beacon
  | beaconPeriod => exact .ofNext e h.beaconPeriod
  | beaconTimeout => exact .ofNext e (h.when (fun k => k.ringBroken))
  | markReceived => exact .ofNext e h.mark
  | abortReceived => exact .ofNext e h.abortFrame
  | prioritySeqReturn => exact .ofNext e h.priReturn
  | prioritySeqTimeout => exact .ofNext e h.priTimeout
  | responseTimeout => exact .ofNext e h.respTimeout
  | portLoss => exact .ofNext e h.portLoss
  | portRestored => exact .ofNext e h.portRestored
  | healRequest => exact .ofNext e (Keeps.when (h.when fun k => k.soft fun j => j.writeHeal) fun k => k.askHeal)
  | healResume => exact .ofNext e h.healResume
  | orbEnum => exact .ofNext e (h.soft (fun k => k.askEnum))
  | orbEnumRetry => exact .ofNext e (h.soft (fun k => k.askEnum))
  | orbRemeasure => exact .ofNext e (h.soft (fun k => k.askMeasure))
  | orbRelease => exact .ofNext e (h.soft (fun k => k.releaseAddr))
  | orbWakeSend => exact .ofNext e (h.soft (fun k => k.when (fun j => j.wakeSend)))
  | capture => exact .ofNext e h.capture
  | bankReady => exact .ofNext e h.bankReady
  | eclipseCompletion => exact .ofNext e h.eclipseDone
  | telemSample => exact .ofNext e h.telemSample
  | faultOnset => exact .ofNext e h.faultOnset
  | faultEventExpire => exact .ofNext e h.faultExpire
  | wiringFault => exact .ofNext e h.wiringFault
  | wiringRecovery => exact .ofNext e h.wiringRecovery
  | graceExpiry => exact .ofNext e h.graceExpiry
  | srccfgWrite => exact .ofNext e (h.soft (fun k => k.srccfgWrite))
  | collSelfFault => exact .ofNext e h.selfFault
  | faultnPulseEnd => exact .ofNext e h.put.notePin
  | faultnReadback => exact .ofNext e (h.when (fun k => k.causeOn.notePin.onsetIfNew))
  | sliceStart => exact .ofNext e h.sliceStart
  | loopbackDone => exact .ofIf e h.loopbackDone
  | mbistRotateDone => exact .ofNext e h.rotateDone
  | mbistDone => exact .ofIf e h.marchDone
  | lbistDone => exact .ofNext e h.scanDone
  | bistBudgetExpiry => exact .ofNext e h.budgetExpiry
  | lockClose => exact .ofNext e (h.soft (fun k => k.put))
  | rwlWrite => exact .ofNext e (Keeps.ite h.swSet h)
  | jtagInstruction => exact .ofNext e h.jtagLoad
  | registerWrite => exact .ofNext e (Keeps.ite h.swSet h)
  | frameReturn => exact .ofNext e h.frameReturn
  | configRequest => exact .ofNext e h.configRequest
  | ethernetMarkerLock => exact .ofNext e h.ethLock
  | txMeasurementDone => exact .ofIf e h.txMeasured
  | cometEnd => exact .ofNext e h.updTx
  | voltageReady => exact .ofNext e (h.when (fun k => k.vidReady))
  | clockSwitchDone => exact .ofNext e (h.when (fun k => k.put.setVid.dvfsEnd))
  | fwWriteDone => exact .ofNext e h.writeDone

/-! Settled by what every command keeps. -/

theorem State.Legal.withPending (h : s.Legal) (l : List Instr) : ({ s with pending := l } : State).Legal :=
  { h with canon := { h.canon with } }

/-- Settles O55: a step is a tick or the front command, and either keeps the legal states. -/
theorem everyStepKeepsTheStateLegal : Obligations.EveryStepKeepsTheStateLegal := by
  intro s t hs e
  unfold step at e
  split at e
  · exact (Keeps.ofNext e (Keeps.refl false s).tick).legal hs
  · exact (exec_keeps e).legal (hs.withPending _)

/-- Settles O56. -/
theorem theLaneSideLeavesTheRestAlone : Obligations.TheLaneSideLeavesTheRestAlone :=
  fun _ _ _ hc e => (exec_keeps e).side hc

/-- Settles O57. -/
theorem commandsLeaveTheQueueAlone : Obligations.CommandsLeaveTheQueueAlone :=
  fun _ _ _ e => (exec_keeps e).queue

/-- Settles O54: the empty stores are canonical and the first flash names slot A. -/
theorem theResetStateIsLegal : Obligations.TheResetStateIsLegal :=
  ⟨State.reset_legal, rfl, rfl, rfl, by decide, rfl⟩

end Sys2Proof.Machine
end

section
/-! PROOFS. The step and the queue (O52, O53), completion (O58), and register writes that do not take effect (O59). -/

namespace Sys2Proof.Machine

/-- Settles O52. -/
theorem aStepRunsTheFrontCommand : Obligations.AStepRunsTheFrontCommand := by
  intro s c rest h
  simp only [step, h]

theorem step_of_empty {s : State} (h : s.pending = []) : step s = .next s.tick := by
  simp only [step, h]

/-- Settles O53: the tick with and without REFCLK. -/
theorem anEmptyQueueLetsATickPass : Obligations.AnEmptyQueueLetsATickPass := by
  constructor
  · intro s hq href
    have htick : s.tick = ({ s with clock := s.clock + 1 } : State).setCounter ECL.time ((s.counter ECL.time + 1) % 2 ^ 64) := by
      simp [State.tick, href]
    refine ⟨s.tick, step_of_empty hq, ?_, ?_, ?_⟩ <;> rw [htick]
    · exact State.counter_setCounter _ _ _ (Nat.mod_lt _ (by decide))
    · exact fun a ha hb => State.reg_setCounter_ne _ _ _ ha hb
    · rfl
  · intro s hq href
    exact ⟨s.tick, step_of_empty hq, by simp [State.tick, href]⟩

/-! Completion. -/

theorem ite_not_bool {α : Type} (b : Bool) (x y : α) : (if (!b) = true then x else y) = if b = true then y else x := by
  cases b <;> rfl

/-- A well-formed command completes. -/
theorem exec_completes (s : State) {c : Instr} (hwf : c.wf = true) (hc : ∀ q i b, c ≠ .fwLoadWrite q i b) :
    ∃ t, exec c s = .next t := by
  cases c with
  | fwLoadWrite q i b => exact absurd rfl (hc q i b)
  | calCycleDone => exact ⟨_, (ite_not_bool ..).trans (if_pos hwf)⟩
  | crossEngineSack =>
    show ∃ u, execCrossEngineSack _ _ s = .next u
    unfold execCrossEngineSack
    split <;> exact ⟨_, rfl⟩
  | crossEngineSnak =>
    show ∃ u, execCrossEngineSnak _ _ s = .next u
    unfold execCrossEngineSnak
    split <;> exact ⟨_, rfl⟩
  | lanemapPropose =>
    show ∃ u, execLanemapPropose _ _ s = .next u
    unfold execLanemapPropose
    split <;> exact ⟨_, rfl⟩
  | lanemapAccept =>
    show ∃ u, execLanemapAccept _ _ s = .next u
    unfold execLanemapAccept
    split <;> exact ⟨_, rfl⟩
  | lanemapRefuse =>
    show ∃ u, execLanemapRefuse _ _ s = .next u
    unfold execLanemapRefuse
    split <;> exact ⟨_, rfl⟩
  | lanemapNotice =>
    show ∃ u, execLanemapNotice _ _ s = .next u
    unfold execLanemapNotice
    split <;> exact ⟨_, rfl⟩
  | cfgRecordApply | histogramRunDone | coefStatus | swapWindow | coefRequest | codewordReceived
  | suspectVerdict | foregroundCalDone | bar0Request | doorbell | loopbackDone | mbistDone | txMeasurementDone =>
    exact ⟨_, if_pos hwf⟩
  | coldReset | vstbyApplied | resetNRise | powerLoss | regulatorStageReady | oscillatorStageReady
  | memoryStageDone | logicStageDone | powerupPgTimeout | powerupRetry | stageWaitExceeded | firmwareReady
  | fwTrialTimeout | cfgRecordWaitExpiry | mresetNAssert | glbMreset | engReset | engineRelease
  | laneEndResetHold | laneEndResetRelease | idleEntry | idleExit | targetWrite | entryDwellExpiry
  | entryStepDone | entryRailsDone | linkWake | laneWake | wakeNLow | pcieWake | tempWake | orbitFrameWake
  | lpwrFlit | lpAgreeTimeout | lpQuiet | lpWakeTimeout | laneEndActivate | laneEndActive | dvfsRequest
  | vreadySample | dvfsClockRaise | vidTimeout | losAssert | losClear | cometDetect | cdrLock | cdrUnlock
  | adaptUpdate | coefWrite | detModeSwitch | starveWindowEnd | rxFifoSlip | histogramRunStart | counterLowRead
  | shadowCompareDone | sliceSettled | commit | commitApply | cellReplace | rotatorLimit | txFifoSlip
  | pllHoldoverEntry | timingFailover | pllLockDone | timingRevert | timingListWrite | timingModeWrite
  | refclkLoss | refclkReturn | freqRange | portGroupEnable | portGroupDisable | pgcfgWrite | rplcfgWrite
  | lmapWrite | anPage | anBreakLinkExpiry | trainingFrame | widthWaitExpiry | eqTimeout | alignTimeout
  | backoffExpiry | fecLockTimeout | segmentRestart | segmentLosTimeout | ethLaneLossTimeout
  | markerLossTimeout | fillToDataSwitch | laneTrainingDone | laneTrainingTimeout | shadowCopyStart
  | markerCheck | flitReceived | nakTimerExpiry | pureSackDue | flitSlot | proposeResend | mapSwitchTx
  | mapChangeTimeout | mapChangeTimeoutTg | escalationRetry | partitionEntryWrite | drainForceExpiry
  | calCycleStart | guardClr | holdLimit | refvCheck | refvResume | txPassStart | cellLend | cellReturn
  | tempReading | tempDwellExpiry | ringRecheck | cqHeadPoll | hostReadError | descriptorComplete
  | coalesceExpiry | ringEnable | ringDisable | ringEngineResetTimeout | evgrpEnable | eventOnset | flr
  | pcieHotReset | perstNAssert | d3hotEntry | d3hotExit | nop | regRead | regWrite | regRmw | bulkWrite
  | bulkRead | orbitBcast | eclipse | tstreamStart | tstreamStop | calSweep | calTxpass | calFull | bistRun
  | laneSwapSwap | laneSwapRetrain | laneSwapRestore | quench | unquench | rquench | runquench | keyLoad
  | fwLoadActivate | faultClearSource | faultClearRecord | faultClearSafe | fence | regFrame | bcastFrame
  | opFrame | imageDataFrame | fwDataResend | answerFrame | eventFrame | telemFrame | telemHalfTimeout
  | workerFrameSend | enumFrame | enumAnsFrame | assignFrame | assignAckFrame | claimTimeout | mapFrame
  | mapReturn | probeFrame | ctrlUnwrap | ctrlSetArm | ctrlMreset | ctrlSetDelay | quenchSeqReceived
  | eclipseSeqReceived | wakeSeqReceived | beaconReceived | beaconPeriod | beaconTimeout | markReceived
  | abortReceived | prioritySeqReturn | prioritySeqTimeout | responseTimeout | portLoss | portRestored
  | healRequest | healResume | orbEnum | orbEnumRetry | orbRemeasure | orbRelease | orbWakeSend | capture
  | bankReady | eclipseCompletion | telemSample | faultOnset | faultEventExpire | wiringFault | wiringRecovery
  | graceExpiry | srccfgWrite | collSelfFault | faultnPulseEnd | faultnReadback | sliceStart | mbistRotateDone
  | lbistDone | bistBudgetExpiry | lockClose | rwlWrite | jtagInstruction | registerWrite | frameReturn
  | configRequest | ethernetMarkerLock | cometEnd | voltageReady | clockSwitchDone | fwWriteDone =>
    exact ⟨_, rfl⟩

theorem exec_fwLoadWrite (s : State) (q : RingN) (i : BitVec 16) (b : List Byte) :
    ∃ u, exec (.fwLoadWrite q i b) s = if s.imageOk q i.toNat b then .next u else .fault .illFormed := ⟨_, rfl⟩

theorem imageOk_of_not_fits {s : State} {q idx : Nat} {b : List Byte} (h : imageFits b = false) :
    s.imageOk q idx b = false := by
  rw [State.imageOk, h, Bool.false_and]

/-- An ill-formed command ends in illFormed. -/
theorem exec_illFormed (s : State) {c : Instr} (hwf : c.wf = false) : exec c s = .fault .illFormed := by
  cases c with
  | fwLoadWrite q i b =>
    obtain ⟨u, hu⟩ := exec_fwLoadWrite s q i b
    rw [hu, imageOk_of_not_fits hwf]
    rfl
  | calCycleDone => exact (ite_not_bool ..).trans (if_neg (Bool.eq_false_iff.mp hwf))
  | cfgRecordApply | histogramRunDone | coefStatus | swapWindow | coefRequest | codewordReceived
  | suspectVerdict | foregroundCalDone | bar0Request | doorbell | loopbackDone | mbistDone | txMeasurementDone =>
    exact if_neg (Bool.eq_false_iff.mp hwf)
  | coldReset | vstbyApplied | resetNRise | powerLoss | regulatorStageReady | oscillatorStageReady
  | memoryStageDone | logicStageDone | powerupPgTimeout | powerupRetry | stageWaitExceeded | firmwareReady
  | fwTrialTimeout | cfgRecordWaitExpiry | mresetNAssert | glbMreset | engReset | engineRelease
  | laneEndResetHold | laneEndResetRelease | idleEntry | idleExit | targetWrite | entryDwellExpiry
  | entryStepDone | entryRailsDone | linkWake | laneWake | wakeNLow | pcieWake | tempWake | orbitFrameWake
  | lpwrFlit | lpAgreeTimeout | lpQuiet | lpWakeTimeout | laneEndActivate | laneEndActive | dvfsRequest
  | vreadySample | dvfsClockRaise | vidTimeout | losAssert | losClear | cometDetect | cdrLock | cdrUnlock
  | adaptUpdate | coefWrite | detModeSwitch | starveWindowEnd | rxFifoSlip | histogramRunStart | counterLowRead
  | shadowCompareDone | sliceSettled | commit | commitApply | cellReplace | rotatorLimit | txFifoSlip
  | pllHoldoverEntry | timingFailover | pllLockDone | timingRevert | timingListWrite | timingModeWrite
  | refclkLoss | refclkReturn | freqRange | portGroupEnable | portGroupDisable | pgcfgWrite | rplcfgWrite
  | lmapWrite | anPage | anBreakLinkExpiry | trainingFrame | widthWaitExpiry | eqTimeout | alignTimeout
  | backoffExpiry | fecLockTimeout | segmentRestart | segmentLosTimeout | ethLaneLossTimeout
  | markerLossTimeout | fillToDataSwitch | laneTrainingDone | laneTrainingTimeout | shadowCopyStart
  | markerCheck | flitReceived | nakTimerExpiry | pureSackDue | flitSlot | proposeResend | mapSwitchTx
  | mapChangeTimeout | mapChangeTimeoutTg | escalationRetry | partitionEntryWrite | drainForceExpiry
  | calCycleStart | guardClr | holdLimit | refvCheck | refvResume | txPassStart | cellLend | cellReturn
  | tempReading | tempDwellExpiry | ringRecheck | cqHeadPoll | hostReadError | descriptorComplete
  | coalesceExpiry | ringEnable | ringDisable | ringEngineResetTimeout | evgrpEnable | eventOnset | flr
  | pcieHotReset | perstNAssert | d3hotEntry | d3hotExit | nop | regRead | regWrite | regRmw | bulkWrite
  | bulkRead | orbitBcast | eclipse | tstreamStart | tstreamStop | calSweep | calTxpass | calFull | bistRun
  | laneSwapSwap | laneSwapRetrain | laneSwapRestore | quench | unquench | rquench | runquench | keyLoad
  | fwLoadActivate | faultClearSource | faultClearRecord | faultClearSafe | fence | regFrame | bcastFrame
  | opFrame | imageDataFrame | fwDataResend | answerFrame | eventFrame | telemFrame | telemHalfTimeout
  | workerFrameSend | enumFrame | enumAnsFrame | assignFrame | assignAckFrame | claimTimeout | mapFrame
  | mapReturn | probeFrame | ctrlUnwrap | ctrlSetArm | ctrlMreset | ctrlSetDelay | quenchSeqReceived
  | eclipseSeqReceived | wakeSeqReceived | beaconReceived | beaconPeriod | beaconTimeout | markReceived
  | abortReceived | prioritySeqReturn | prioritySeqTimeout | responseTimeout | portLoss | portRestored
  | healRequest | healResume | orbEnum | orbEnumRetry | orbRemeasure | orbRelease | orbWakeSend | capture
  | bankReady | eclipseCompletion | telemSample | faultOnset | faultEventExpire | wiringFault | wiringRecovery
  | graceExpiry | srccfgWrite | collSelfFault | faultnPulseEnd | faultnReadback | sliceStart | mbistRotateDone
  | lbistDone | bistBudgetExpiry | lockClose | rwlWrite | jtagInstruction | registerWrite | frameReturn
  | configRequest | ethernetMarkerLock | cometEnd | voltageReady | clockSwitchDone | fwWriteDone
  | crossEngineSack | crossEngineSnak | lanemapPropose | lanemapAccept | lanemapRefuse | lanemapNotice =>
    exact Bool.noConfusion hwf

/-- Settles O58: FW_LOAD_WRITE by its image, any other command by its operands. -/
theorem wellFormedCommandsComplete : Obligations.WellFormedCommandsComplete := by
  have image (s : State) (q : RingN) (i : BitVec 16) (b : List Byte) :
      (∃ t, exec (.fwLoadWrite q i b) s = .next t) ↔ s.imageOk q i.toNat b = true := by
    obtain ⟨u, hu⟩ := exec_fwLoadWrite s q i b
    rw [hu]
    cases s.imageOk q i.toNat b with
    | true => exact ⟨fun _ => rfl, fun _ => ⟨u, if_pos rfl⟩⟩
    | false => exact ⟨fun ⟨_, ht⟩ => absurd ((if_neg (by decide)).symm.trans ht) nofun, nofun⟩
  refine ⟨fun s c => exec_completes s, image, fun s c => exec_illFormed s, fun s c r => ?_⟩
  by_cases hc : ∃ q i b, c = .fwLoadWrite q i b
  · obtain ⟨q, i, b, rfl⟩ := hc
    obtain ⟨u, hu⟩ := exec_fwLoadWrite s q i b
    rw [hu]
    cases s.imageOk q i.toNat b with
    | true => exact nofun
    | false => exact nofun
  · cases hwf : c.wf with
    | false => rw [exec_illFormed s hwf]; exact nofun
    | true =>
      obtain ⟨t, ht⟩ := exec_completes s hwf fun q i b e => hc ⟨q, i, b, e⟩
      rw [ht]
      exact nofun

/-! Register writes that do not take effect. -/

/-- A write that does not take effect changes nothing (R15, R24). -/
theorem State.soft_off {s : State} {a : Nat} (h : s.writeTakes a = false) (f : State → State) : s.soft a f = s := by
  rw [State.soft, h]
  rfl

theorem State.soft_on {s : State} {a : Nat} (h : s.writeTakes a = true) (f : State → State) : s.soft a f = f s := by
  rw [State.soft, h]
  rfl

/-- Settles O59: a command that writes a register is that write, and does nothing besides. -/
theorem writesWithoutEffectChangeNothing : Obligations.WritesWithoutEffectChangeNothing := by
  intro s c a hc ha
  cases c with
  | coefWrite sd p r v =>
    cases r <;> cases hc <;> exact congrArg Host.Outcome.next (State.soft_off ha _)
  | guardClr | srccfgWrite | lockClose | orbEnum | orbEnumRetry | orbRemeasure | orbRelease | orbWakeSend
  | partitionEntryWrite | targetWrite | linkWake | dvfsRequest | histogramRunStart | glbMreset | engReset
  | laneEndResetHold | laneEndResetRelease | ringEnable | ringDisable | evgrpEnable | portGroupEnable
  | portGroupDisable | pgcfgWrite | rplcfgWrite | lmapWrite | segmentRestart | timingListWrite
  | timingModeWrite | commit =>
    cases hc
    exact congrArg Host.Outcome.next (State.soft_off ha _)
  | coldReset | vstbyApplied | resetNRise | powerLoss | regulatorStageReady | oscillatorStageReady
  | memoryStageDone | logicStageDone | powerupPgTimeout | powerupRetry | stageWaitExceeded | firmwareReady
  | fwTrialTimeout | cfgRecordApply | cfgRecordWaitExpiry | mresetNAssert | engineRelease | idleEntry
  | idleExit | entryDwellExpiry | entryStepDone | entryRailsDone | laneWake | wakeNLow | pcieWake | tempWake
  | orbitFrameWake | lpwrFlit | lpAgreeTimeout | lpQuiet | lpWakeTimeout | laneEndActivate | laneEndActive
  | vreadySample | dvfsClockRaise | vidTimeout | losAssert | losClear | cometDetect | cdrLock | cdrUnlock
  | adaptUpdate | detModeSwitch | starveWindowEnd | rxFifoSlip | histogramRunDone | counterLowRead
  | shadowCompareDone | swapWindow | sliceSettled | commitApply | cellReplace | rotatorLimit | txFifoSlip
  | pllHoldoverEntry | timingFailover | pllLockDone | timingRevert | refclkLoss | refclkReturn | freqRange
  | anPage | anBreakLinkExpiry | trainingFrame | widthWaitExpiry | coefRequest | coefStatus | eqTimeout
  | alignTimeout | backoffExpiry | fecLockTimeout | segmentLosTimeout | ethLaneLossTimeout | markerLossTimeout
  | fillToDataSwitch | laneTrainingDone | laneTrainingTimeout | shadowCopyStart | markerCheck
  | codewordReceived | flitReceived | nakTimerExpiry | pureSackDue | crossEngineSack | crossEngineSnak
  | flitSlot | lanemapPropose | lanemapAccept | lanemapRefuse | lanemapNotice | proposeResend | mapSwitchTx
  | mapChangeTimeout | mapChangeTimeoutTg | escalationRetry | drainForceExpiry | calCycleStart | calCycleDone
  | suspectVerdict | holdLimit | refvCheck | refvResume | txPassStart | cellLend | cellReturn | tempReading
  | tempDwellExpiry | foregroundCalDone | bar0Request | doorbell | ringRecheck | cqHeadPoll | hostReadError
  | descriptorComplete | coalesceExpiry | ringEngineResetTimeout | eventOnset | flr | pcieHotReset
  | perstNAssert | d3hotEntry | d3hotExit | nop | regRead | regWrite | regRmw | bulkWrite | bulkRead
  | orbitBcast | eclipse | tstreamStart | tstreamStop | calSweep | calTxpass | calFull | bistRun | laneSwapSwap
  | laneSwapRetrain | laneSwapRestore | quench | unquench | rquench | runquench | keyLoad | fwLoadWrite
  | fwLoadActivate | faultClearSource | faultClearRecord | faultClearSafe | fence | regFrame | bcastFrame
  | opFrame | imageDataFrame | fwDataResend | answerFrame | eventFrame | telemFrame | telemHalfTimeout
  | workerFrameSend | enumFrame | enumAnsFrame | assignFrame | assignAckFrame | claimTimeout | mapFrame
  | mapReturn | probeFrame | ctrlUnwrap | ctrlSetArm | ctrlMreset | ctrlSetDelay | quenchSeqReceived
  | eclipseSeqReceived | wakeSeqReceived | beaconReceived | beaconPeriod | beaconTimeout | markReceived
  | abortReceived | prioritySeqReturn | prioritySeqTimeout | responseTimeout | portLoss | portRestored
  | healRequest | healResume | capture | bankReady | eclipseCompletion | telemSample | faultOnset
  | faultEventExpire | wiringFault | wiringRecovery | graceExpiry | collSelfFault | faultnPulseEnd
  | faultnReadback | sliceStart | loopbackDone | mbistRotateDone | mbistDone | lbistDone | bistBudgetExpiry
  | rwlWrite | jtagInstruction | registerWrite | frameReturn | configRequest | ethernetMarkerLock
  | txMeasurementDone | cometEnd | voltageReady | clockSwitchDone | fwWriteDone =>
    cases hc

end Sys2Proof.Machine
end

section
/-! PROOFS. What fields, counters and records read as after the writes of a command, and how its frame is built up from
them. -/

namespace Sys2Proof.Machine

variable {s t u : State} {m : State → State} {l : List Nat}

/-- A field write leaves alone what does not share bits with it. -/
@[simp] theorem State.get_put_apart (s : State) {f g : Fld} (v : Nat) (hg : g.lo + g.len ≤ 32)
    (h : g.addr ≠ f.addr ∨ g.lo + g.len ≤ f.lo ∨ f.lo + f.len ≤ g.lo) : (s.put f v).get g = s.get g := by
  rcases h with h | h
  · exact s.get_put_ne f g v h
  · exact s.get_put_disjoint f g v hg h

/-! Beside the onset of an event. -/

@[simp] theorem State.get_raise (s : State) (a b : Nat) {f : Fld} (h3 : f.addr / 0x10000 ≠ 3) (h : f.addr ≠ a) :
    (s.raise a b).get f = s.get f := by
  unfold State.get
  rw [State.reg_raise_ne s a b h3 h]

@[simp] theorem State.counter_raise (s : State) (a b : Nat) {c : Nat} (h3 : c / 0x10000 ≠ 3) (h : c ≠ a)
    (h3' : (c + 4) / 0x10000 ≠ 3) (h' : c + 4 ≠ a) : (s.raise a b).counter c = s.counter c := by
  unfold State.counter
  rw [State.reg_raise_ne s a b h3 h, State.reg_raise_ne s a b h3' h']

@[simp] theorem State.get_count (s : State) {a : Nat} {f : Fld} (h : f.addr ≠ a) (h4 : f.addr ≠ a + 4) :
    (s.count a).get f = s.get f := by
  unfold State.get
  rw [State.reg_count_ne s a h h4]

@[simp] theorem State.counter_put (s : State) (f : Fld) (v : Nat) {c : Nat} (h : c ≠ f.addr) (h4 : c + 4 ≠ f.addr) :
    (s.put f v).counter c = s.counter c := by
  unfold State.counter
  rw [State.reg_put_ne s f v h, State.reg_put_ne s f v h4]

@[simp] theorem State.raise_rxe (s : State) (a b i : Nat) : (s.raise a b).rxe i = s.rxe i := by
  rw [s.raise_same a b]
  rfl

@[simp] theorem State.updRx_rxe_ne (s : State) {i j : Nat} (f : RxEnd → RxEnd) (h : j ≠ i) : (s.updRx i f).rxe j = s.rxe j :=
  Sparse.get_set_ne _ _ _ _ h

@[simp] theorem State.updTx_txe_ne (s : State) {i j : Nat} (f : TxEnd → TxEnd) (h : j ≠ i) : (s.updTx i f).txe j = s.txe j :=
  Sparse.get_set_ne _ _ _ _ h

theorem State.on_iff (s : State) (f : Fld) : s.on f = true ↔ s.get f ≠ 0 := decide_eq_true_iff

theorem State.on_eq_false_iff (s : State) (f : Fld) : s.on f = false ↔ s.get f = 0 := by simp [State.on]

theorem State.when_true (f : State → State) {c : Bool} (h : c = true) : s.when c f = f s := if_pos h
theorem State.when_false (f : State → State) {c : Bool} (h : c = false) : s.when c f = s :=
  if_neg (by simp [h])
@[simp] theorem LRX.base_block (i k : Nat) : (LRX.base i + k) / 0x10000 ≠ 3 := by
  unfold LRX.base
  omega

@[simp] theorem LTX.base_block (i k : Nat) : (LTX.base i + k) / 0x10000 ≠ 3 := by
  unfold LTX.base
  omega

@[simp] theorem State.counter_raise_lrx (s : State) (i a b c : Nat) (h : c ≠ a) (h4 : c + 4 ≠ a) :
    (s.raise (LRX.base i + a) b).counter (LRX.base i + c) = s.counter (LRX.base i + c) :=
  s.counter_raise _ _ (LRX.base_block i c) (by omega) (LRX.base_block i (c + 4)) (by omega)

theorem Framed.each {α : Type} {k : List α} {f : α → State → State} (h : Framed m l s t)
    (hf : ∀ x ∈ k, ∀ u, Framed m l s u → Framed m l s (f x u)) : Framed m l s (t.each k f) := by
  induction k generalizing t with
  | nil => exact h
  | cons x k ih => exact ih (hf x List.mem_cons_self t h) fun y hy => hf y (List.mem_cons_of_mem _ hy)

theorem Framed.get (h : Framed m l s t) {f : Fld} (h3 : f.addr / 0x10000 ≠ 3) (hl : f.addr ∉ l) : t.get f = s.get f := by
  unfold State.get
  rw [h.2 _ h3 hl]

theorem Framed.getInt (h : Framed m l s t) {f : Fld} (h3 : f.addr / 0x10000 ≠ 3) (hl : f.addr ∉ l) : t.getInt f = s.getInt f :=
  congrArg (signedOf f.len) (h.get h3 hl)

theorem Framed.updRx (h : Framed m l s t) (i : Nat) (f : RxEnd → RxEnd) (hm : ∀ x : State, m (x.updRx i f).base = m x.base) :
    Framed m l s (t.updRx i f) := h.step (hm t) rfl

theorem Framed.updTx (h : Framed m l s t) (i : Nat) (f : TxEnd → TxEnd) (hm : ∀ x : State, m (x.updTx i f).base = m x.base) :
    Framed m l s (t.updTx i f) := h.step (hm t) rfl

theorem Framed.putInt (h : Framed m l s t) {f : Fld} (v : Int) (ha : f.addr / 0x10000 = 3 ∨ f.addr ∈ l) :
    Framed m l s (t.putInt f v) := h.put _ ha

theorem clampInt_eq {lo hi : Int} (v : Int) (h : lo ≤ hi) : clampInt lo hi v = max lo (min hi v) := by
  unfold clampInt
  omega

theorem State.soft_of_same {a : Nat} {f : State → State} (h : f s = s) : s.soft a f = s := by
  unfold State.soft
  split
  · exact h
  · rfl

theorem State.running_iff : s.running = true ↔ s.pwr.phase = .run := decide_eq_true_iff

/-! Updates repeated over a list, and updates of registers alone. -/

theorem State.apply_each {α β : Type} (π : State → β) {l : List α} {f : α → State → State}
    (hf : ∀ x ∈ l, ∀ t, π (f x t) = π t) (s : State) : π (s.each l f) = π s := by
  induction l generalizing s with
  | nil => rfl
  | cons x l ih =>
    exact (ih (fun y hy => hf y (List.mem_cons_of_mem _ hy)) (f x s)).trans (hf x List.mem_cons_self s)

/-- What the writes of a list leave in a register: the value that they give it, or what it held where that is the same. -/
theorem State.reg_each_setReg_const {α : Type} {l : List α} {a : α → Nat} {w : α → Word} {b : Nat} {v : Word}
    (hw : ∀ y ∈ l, a y = b → w y = v) (hs : s.reg b = v) : (s.each l fun y t => t.setReg (a y) (w y)).reg b = v := by
  induction l generalizing s with
  | nil => exact hs
  | cons y l ih =>
    refine ih (fun z hz => hw z (List.mem_cons_of_mem _ hz)) ?_
    rw [State.reg_setReg]
    split
    · exact hw y List.mem_cons_self ‹b = a y›.symm
    · exact hs

/-- A register that a list of writes names holds their value, where they agree on it. -/
theorem State.reg_each_setReg {α : Type} {l : List α} {a : α → Nat} {w : α → Word} {x : α} (hx : x ∈ l)
    (hw : ∀ y ∈ l, a y = a x → w y = w x) (s : State) : (s.each l fun y t => t.setReg (a y) (w y)).reg (a x) = w x := by
  induction l generalizing s with
  | nil => cases hx
  | cons y l ih =>
    have hl : ∀ z ∈ l, a z = a x → w z = w x := fun z hz => hw z (List.mem_cons_of_mem _ hz)
    rcases List.mem_cons.mp hx with rfl | hx
    · exact State.reg_each_setReg_const (l := l) hl (State.reg_setReg_same ..)
    · exact ih hx hl _

/-- Apart from the registers the two states agree. -/
def SameButRegs (s t : State) : Prop := t = { s with regs := t.regs }

theorem SameButRegs.refl (s : State) : SameButRegs s s := rfl

theorem SameButRegs.trans (h : SameButRegs s t) (k : SameButRegs t u) : SameButRegs s u := by
  unfold SameButRegs at *
  rw [k, h]

theorem SameButRegs.each {α : Type} {l : List α} {f : α → State → State} (h : SameButRegs s t)
    (hf : ∀ x ∈ l, ∀ t, SameButRegs t (f x t)) : SameButRegs s (t.each l f) := by
  induction l generalizing t with
  | nil => exact h
  | cons x l ih => exact ih (h.trans (hf x List.mem_cons_self t)) fun y hy => hf y (List.mem_cons_of_mem _ hy)

theorem SameButRegs.put (h : SameButRegs s t) (f : Fld) (v : Nat) : SameButRegs s (t.put f v) := h.trans rfl
theorem SameButRegs.setReg (h : SameButRegs s t) (a : Nat) (w : Word) : SameButRegs s (t.setReg a w) := h.trans rfl

/-! Signed fields. -/

theorem signedOf_of_lt {n w : Nat} (h : w < 2 ^ (n + 1)) :
    signedOf (n + 1) w = if w < 2 ^ n then (w : Int) else w - 2 ^ (n + 1) := by
  have hi : (w : Int) % 2 ^ (n + 1) = w := Int.emod_eq_of_lt (by omega) (by exact_mod_cast h)
  unfold signedOf
  rw [Nat.mod_eq_of_lt h, hi, Nat.add_sub_cancel]

theorem signedOf_ofSigned {n : Nat} {v : Int} (h : -(2 ^ n) ≤ v) (h' : v ≤ 2 ^ n - 1) :
    signedOf (n + 1) (ofSigned (n + 1) v % 2 ^ (n + 1)) = v := by
  have hN : ((2 ^ (n + 1) : Nat) : Int) = 2 ^ n * 2 := by push_cast; rw [pow_succ]
  have hv : v % 2 ^ (n + 1) = if v < 0 then v + 2 ^ n * 2 else v := by
    rw [pow_succ]
    split
    · rw [← Int.add_mul_emod_self_left v _ 1, mul_one, Int.emod_eq_of_lt (by omega) (by omega)]
    · exact Int.emod_eq_of_lt (by omega) (by omega)
  have hlt : ofSigned (n + 1) v < 2 ^ (n + 1) := by unfold ofSigned; split at hv <;> omega
  rw [Nat.mod_eq_of_lt hlt, signedOf_of_lt hlt]
  unfold ofSigned
  rw [hv, pow_succ]
  split <;> split <;> omega

theorem State.getInt_putInt (s : State) (f : Fld) (v : Int) (h : f.lo + f.len ≤ 32) (hl : 0 < f.len) :
    (s.putInt f v).getInt f = max (-(2 ^ (f.len - 1))) (min (2 ^ (f.len - 1) - 1) v) := by
  obtain ⟨n, hn⟩ : ∃ n, f.len = n + 1 := ⟨f.len - 1, by omega⟩
  have hpos : (0 : Int) < 2 ^ n := by positivity
  unfold State.getInt State.putInt
  rw [s.get_put_same f _ h, hn, Nat.add_sub_cancel, clampInt_eq v (by omega),
    signedOf_ofSigned (le_max_left _ _) (max_le (by omega) (min_le_left _ _))]

theorem State.get_putInt_apart (s : State) {f g : Fld} (v : Int) (hg : g.lo + g.len ≤ 32)
    (h : g.addr ≠ f.addr ∨ g.lo + g.len ≤ f.lo ∨ f.lo + f.len ≤ g.lo) : (s.putInt f v).get g = s.get g :=
  State.get_put_apart s _ hg h

@[simp] theorem State.updRx_getInt (s : State) (i : Nat) (g : RxEnd → RxEnd) (f : Fld) :
    (s.updRx i g).getInt f = s.getInt f := rfl

@[simp] theorem State.updTx_getInt (s : State) (i : Nat) (g : TxEnd → TxEnd) (f : Fld) :
    (s.updTx i g).getInt f = s.getInt f := rfl

theorem State.getInt_put_apart (s : State) {f g : Fld} (v : Nat) (hg : g.lo + g.len ≤ 32)
    (h : g.addr ≠ f.addr ∨ g.lo + g.len ≤ f.lo ∨ f.lo + f.len ≤ g.lo) : (s.put f v).getInt g = s.getInt g :=
  congrArg (signedOf g.len) (State.get_put_apart s v hg h)

theorem State.getInt_putInt_apart (s : State) {f g : Fld} (v : Int) (hg : g.lo + g.len ≤ 32)
    (h : g.addr ≠ f.addr ∨ g.lo + g.len ≤ f.lo ∨ f.lo + f.len ≤ g.lo) : (s.putInt f v).getInt g = s.getInt g :=
  s.getInt_put_apart _ hg h

/-! The lane-end blocks of the register map. -/

theorem laneIdx_lt (sd : Side) (p : Pos) : laneIdx sd p < 68 := by
  have hp := p.isLt
  cases sd <;> simp only [laneIdx, Side.idx] <;> omega

theorem lrxOf_base {i o : Nat} (hi : i < 68) (ho : o < 0x1000) : lrxOf (LRX.base i + o) = some (i, o) := by
  unfold lrxOf LRX.base
  have hq : i / 34 = 0 ∨ i / 34 = 1 := by omega
  rcases hq with hq | hq
  · rw [if_pos (by omega)]
    simp only [Option.some.injEq, Prod.mk.injEq]
    omega
  · rw [if_neg (by omega), if_pos (by omega)]
    simp only [Option.some.injEq, Prod.mk.injEq]
    omega

end Sys2Proof.Machine
end

section
/-! PROOFS. What the onset of an event leaves of the records, and frames through the records of segments, engines and
ports. -/

namespace Sys2Proof.Machine

variable {s t : State} {m : State → State} {l : List Nat}

/-- What depends on neither the registers nor the records that forwarding uses stays through the onset of an event. -/
theorem State.apply_raise {α : Type} (π : State → α)
    (hπ : ∀ (s : State) r q o e, π { s with regs := r, rings := q, out := o, evFrames := e } = π s) (s : State) (a b : Nat) :
    π (s.raise a b) = π s := by
  rw [s.raise_same a b]
  exact hπ ..

@[simp] theorem State.raise_txe (s : State) (a b i : Nat) : (s.raise a b).txe i = s.txe i :=
  s.apply_raise (fun t => t.txe i) (fun _ _ _ _ _ => rfl) a b

@[simp] theorem State.raise_eng (s : State) (a b e g : Nat) : (s.raise a b).eng e g = s.eng e g :=
  s.apply_raise (fun t => t.eng e g) (fun _ _ _ _ _ => rfl) a b

@[simp] theorem State.raise_seg (s : State) (a b g sd k : Nat) : (s.raise a b).seg g sd k = s.seg g sd k :=
  s.apply_raise (fun t => t.seg g sd k) (fun _ _ _ _ _ => rfl) a b

@[simp] theorem State.raise_port (s : State) (a b g : Nat) : (s.raise a b).port g = s.port g :=
  s.apply_raise (fun t => t.port g) (fun _ _ _ _ _ => rfl) a b

@[simp] theorem State.raise_lt (s : State) (a b i : Nat) : (s.raise a b).lt i = s.lt i :=
  s.apply_raise (fun t => t.lt i) (fun _ _ _ _ _ => rfl) a b

@[simp] theorem State.raise_pll (s : State) (a b d : Nat) : (s.raise a b).pll d = s.pll d :=
  s.apply_raise (fun t => t.pll d) (fun _ _ _ _ _ => rfl) a b

@[simp] theorem State.raise_causes (s : State) (a b : Nat) : (s.raise a b).causes = s.causes :=
  s.apply_raise (fun t => t.causes) (fun _ _ _ _ _ => rfl) a b

@[simp] theorem State.raise_pwr (s : State) (a b : Nat) : (s.raise a b).pwr = s.pwr :=
  s.apply_raise (fun t => t.pwr) (fun _ _ _ _ _ => rfl) a b

@[simp] theorem State.raise_flt (s : State) (a b : Nat) : (s.raise a b).flt = s.flt :=
  s.apply_raise (fun t => t.flt) (fun _ _ _ _ _ => rfl) a b

@[simp] theorem State.raise_core (s : State) (a b : Nat) : (s.raise a b).core = s.core :=
  s.apply_raise (fun t => t.core) (fun _ _ _ _ _ => rfl) a b

@[simp] theorem State.raise_orbit (s : State) (a b : Nat) : (s.raise a b).orbit = s.orbit :=
  s.apply_raise (fun t => t.orbit) (fun _ _ _ _ _ => rfl) a b

theorem State.on_raise (s : State) (a b : Nat) {f : Fld} (h3 : f.addr / 0x10000 ≠ 3) (h : f.addr ≠ a) :
    (s.raise a b).on f = s.on f := by
  unfold State.on
  rw [State.get_raise s a b h3 h]

/-- A further event leaves a bit of an event register set. -/
theorem State.raise_bit_of {a b a' b' : Nat} (h : (s.reg a).getLsbD b = true) (ha : a / 0x10000 ≠ 3) :
    ((s.raise a' b').reg a).getLsbD b = true := by
  by_cases e : a = a'
  · subst e
    rw [State.reg_raise_same _ _ _ ha, BitVec.getLsbD_or, h, Bool.true_or]
  · rwa [State.reg_raise_ne _ _ _ ha e]

/-- Bit `b` of the register at `a` is set. -/
def BitSet (a b : Nat) (s : State) : Prop := (s.reg a).getLsbD b = true

theorem BitSet.raise {a b : Nat} (h : BitSet a b s) (ha : a / 0x10000 ≠ 3) (c d : Nat) : BitSet a b (s.raise c d) :=
  State.raise_bit_of h ha

theorem BitSet.of_reg {a b : Nat} (h : BitSet a b s) (ht : t.reg a = s.reg a) : BitSet a b t := by
  unfold BitSet
  rwa [ht]

theorem BitSet.put {a b : Nat} (h : BitSet a b s) {f : Fld} (v : Nat) (hf : a ≠ f.addr) : BitSet a b (s.put f v) :=
  h.of_reg (State.reg_put_ne _ _ _ hf)

theorem BitSet.count {a b c : Nat} (h : BitSet a b s) (hc : a ≠ c) (hc4 : a ≠ c + 4) : BitSet a b (s.count c) :=
  h.of_reg (State.reg_count_ne _ _ hc hc4)

theorem Framed.updEng (h : Framed m l s t) (e g : Nat) (f : EngPort → EngPort)
    (hm : ∀ x : State, m (x.updEng e g f).base = m x.base) : Framed m l s (t.updEng e g f) := h.step (hm t) rfl

theorem Framed.updPort (h : Framed m l s t) (g : Nat) (f : PortRec → PortRec)
    (hm : ∀ x : State, m (x.updPort g f).base = m x.base) : Framed m l s (t.updPort g f) := h.step (hm t) rfl

theorem Framed.updSeg (h : Framed m l s t) (g sd k : Nat) (f : Seg → Seg)
    (hm : ∀ x : State, m (x.updSeg g sd k f).base = m x.base) : Framed m l s (t.updSeg g sd k f) := h.step (hm t) rfl

/-! The blocks of the two engines in the register map. -/

@[simp] theorem DIR.base_block (e k : Nat) : (DIR.base e + k) / 0x10000 ≠ 3 := by
  unfold DIR.base
  omega

@[simp] theorem DIR.event_block (e : Nat) : DIR.event e / 0x10000 ≠ 3 := DIR.base_block e 8

@[simp] theorem DIR.g_block (e g k : Nat) : (DIR.g e g + k) / 0x10000 ≠ 3 := by
  unfold DIR.g DIR.base
  omega

theorem boolNat_ne_zero (b : Bool) : decide (boolNat b % 2 ^ 1 ≠ 0) = b := by cases b <;> rfl

theorem Eng.idx_lt (e : Eng) : e.idx < 2 := by cases e <;> decide

theorem Side.idx_lt (sd : Side) : sd.idx < 2 := by cases sd <;> decide

end Sys2Proof.Machine
end

section
/-! PROOFS. IDLE, and the resets of the whole unit (R28, R393, R419, R420). -/

namespace Sys2Proof.Machine

/-- Settles O4. -/
theorem idleFollowsTheCore : Obligations.IdleFollowsTheCore := by
  refine ⟨fun s hrun => ?_, fun s hrun => ⟨_, rfl, ?_⟩⟩
  · refine ⟨_, rfl, ?_⟩
    rw [State.running_iff.mpr hrun]
    cases s.coreBusy with
    | true => exact ⟨rfl, fun _ _ => rfl, rfl⟩
    | false => exact ⟨s.get_put_same PWR.state 1 (by decide), fun _ ha => s.reg_put_ne PWR.state 1 ha, rfl⟩
  · rw [State.when_true _ (State.running_iff.mpr hrun)]
    exact ⟨s.get_put_same PWR.state 0 (by decide), fun _ ha => s.reg_put_ne PWR.state 0 ha, rfl⟩

/-- Apart from the pins, what they carry and the instruction that holds them, the two states agree. -/
def SameButPins (s t : State) : Prop := t = { s with out := t.out, jtag := t.jtag }

theorem SameButPins.trans {s t u : State} (h : SameButPins s t) (k : SameButPins t u) : SameButPins s u := by
  unfold SameButPins at *
  rw [k, h]

theorem SameButPins.when {s t : State} {f : State → State} (h : SameButPins s t) (hf : SameButPins t (f t)) (c : Bool) :
    SameButPins s (t.when c f) := by
  cases c with
  | true => exact h.trans hf
  | false => exact h

theorem State.emit_same (s : State) (o : Out) : SameButPins s (s.emit o) := rfl

theorem State.pinsBack_same (s : State) : SameButPins s s.pinsBack := by
  unfold State.pinsBack
  split <;> exact rfl

theorem State.drive_same (s : State) (o : Out) : SameButPins s (s.drive o) := by
  unfold State.drive
  split <;> exact rfl

theorem State.foldl_drive_same (l : List Nat) (s : State) : SameButPins s (l.foldl (fun t m => t.drive (.pwrEn m)) s) := by
  induction l generalizing s with
  | nil => exact rfl
  | cons m l ih => exact (s.drive_same _).trans (ih _)

theorem SameButPins.updPwr {s t : State} (h : SameButPins s t) (f : Pwr → Pwr) : SameButPins (s.updPwr f) (t.updPwr f) := by
  unfold SameButPins at *
  rw [h]
  rfl

/-- The rails are those asked for, and nothing else changes but what PWR_EN carries. -/
theorem State.setRails_same (s : State) (n : Nat) :
    SameButPins (s.updPwr fun w => { w with rails := 2 ^ n - 1 }) (s.setRails n) := (State.foldl_drive_same _ s).updPwr _

theorem SameButPins.setRails {s t : State} (h : SameButPins s t) (n : Nat) :
    SameButPins (s.updPwr fun w => { w with rails := 2 ^ n - 1 }) (t.setRails n) := (h.updPwr _).trans (t.setRails_same n)

/-- What a cold reset leaves of the state before it (R28, R419). -/
theorem State.coldOf_eq (s : State) (cause n : Nat) (p : Phase) (keepFail : Bool) :
    s.coldOf cause n p keepFail = { State.reset with
      pending := s.pending, freeCtr := s.freeCtr, flash := s.flash, out := (s.coldOf cause n p keepFail).out
      regs := (State.reset.put GLB.coldCause cause).regs
      pwr := { Pwr.reset with phase := p, rails := 2 ^ n - 1, upFail := s.pwr.upFail && keepFail } } := by
  obtain ⟨u, hcold, hu⟩ : ∃ u : State, s.coldOf cause n p keepFail = { State.reset with
      pending := u.pending, freeCtr := u.freeCtr, out := u.out, flash := u.flash
      regs := (State.reset.put GLB.coldCause cause).regs
      pwr := { Pwr.reset with phase := p, rails := u.pwr.rails, upFail := u.pwr.upFail && keepFail } } ∧
      SameButPins (s.updPwr fun w => { w with rails := 2 ^ n - 1 }) u :=
    ⟨_, rfl, ((s.pinsBack_same.when (State.emit_same _ _) _).setRails n).when (State.emit_same _ _) _⟩
  rw [hcold, hu]
  rfl

theorem State.coldOf_coldCause (s : State) (cause n : Nat) (p : Phase) (keepFail : Bool) :
    (s.coldOf cause n p keepFail).get GLB.coldCause = cause % 4 := State.reset.get_put_same GLB.coldCause cause (by decide)

theorem State.coldOf_pwr (s : State) (cause n : Nat) (p : Phase) (keepFail : Bool) : (s.coldOf cause n p keepFail).pwr =
    { Pwr.reset with phase := p, rails := 2 ^ n - 1, upFail := s.pwr.upFail && keepFail } := by rw [State.coldOf_eq]

/-- What the statements say of a reset of the whole unit. -/
theorem State.coldOf_reset (s : State) (cause n : Nat) (p : Phase) (keepFail : Bool) :
    s.coldOf cause n p keepFail = { State.reset with
      pending := s.pending, freeCtr := s.freeCtr, flash := s.flash, out := (s.coldOf cause n p keepFail).out
      regs := (s.coldOf cause n p keepFail).regs, pwr := (s.coldOf cause n p keepFail).pwr } := by
  rw [State.coldOf_eq]
  
/-- Settles O1: the three causes are one reset of the unit (R28, R419, R420). -/
theorem coldResetsClearTheUnit : Obligations.ColdResetsClearTheUnit := by
  refine ⟨fun s => ⟨_, rfl, s.coldOf_reset .., ?_, fun _ ha => s.reg_coldOf_ne _ _ _ _ ha, s.coldOf_coldCause ..⟩, ?_, fun s => ⟨⟨_, rfl⟩, _, rfl⟩⟩
  · rw [State.coldOf_pwr, Bool.and_true]
    rfl
  · rintro s c (rfl | rfl)
    all_goals
      refine ⟨_, rfl, s.coldOf_reset .., ?_, fun _ ha => s.reg_coldOf_ne _ _ _ _ ha, s.coldOf_coldCause ..⟩
      rw [State.coldOf_pwr, Bool.and_false]
      rfl

end Sys2Proof.Machine
end

section
/-! PROOFS. The receiver's signal detector, Comet and the clock recovery (R43, R52, R53). -/

namespace Sys2Proof.Machine

variable {s : State}

theorem State.losAssert_of {i mv us : Nat} (hd : s.detectorOn i = true) (hl : s.on (LRX.losNow i) = false)
    (hm : mv + s.get (LRX.hyst i) < s.squelchAssert i) (ht : s.losTime i ≤ us) : s.losAssert i mv us =
      ((((((s.put (LRX.losNow i) 1).put (LRX.frzLos i) 1).put (LRX.cometNow i) 0).updRx i
        (fun r => { r with windowBad := true })).restartCompare i).count (LRX.losCnt i)).raise (LRX.event i) 0 :=
  if_pos (by simp [hd, hl, ht, State.signalAbsent, hm])

theorem State.losAssert_off {i mv us : Nat} (h : s.detectorOn i = false ∨ s.squelchAssert i ≤ mv + s.get (LRX.hyst i) ∨ us < s.losTime i) :
    s.losAssert i mv us = s :=
  if_neg (by
    rcases h with h | h | h
    · simp [h]
    · simp [State.signalAbsent, Nat.not_lt.mpr h]
    · simp [Nat.not_le.mpr h])

theorem State.losClear_off {i mv us : Nat} (h : s.detectorOn i = false ∨ mv ≤ s.squelchAssert i ∨ us = 0) :
    s.losClear i mv us = s :=
  if_neg (by
    rcases h with h | h | h
    · simp [h]
    · simp [State.signalPresent, Nat.not_lt.mpr h]
    · simp [h])

theorem State.cdrLock_off {i : Nat} {f : Int} (h : f < -30000 ∨ 30000 < f ∨ s.on (LRX.losNow i) = true ∨ s.rxActive i = false) :
    s.cdrLock i f = s :=
  if_neg (by
    rcases h with h | h | h | h
    · simp [Int.not_le.mpr h]
    · simp [Int.not_le.mpr h]
    · simp [h]
    · simp [h])

theorem orOne_eq (n : Nat) : orOne n = if n = 0 then 1 else n := rfl

/-- Settles O13. -/
theorem squelchCometAndClockRecovery : Obligations.SquelchCometAndClockRecovery := by
  refine ⟨?_, ?_, ?_, ?_, ?_, ?_, ?_, ?_, ?_, ?_⟩
  · rintro s sd p i mv us rfl hd hl hm ht
    refine ⟨_, congrArg Host.Outcome.next (State.losAssert_of hd hl hm ht), ?_, ?_, ?_, ?_, State.raise_bit _ _ ?_ (by decide), ?_, ?_⟩
    · simp -implicitDefEqProofs [State.on, State.get_put_same, LRX.losNow, LRX.frzLos, LRX.cometNow, LRX.losCnt, LRX.event, State.restartCompare]
    · simp -implicitDefEqProofs [State.on, State.get_put_same, LRX.losNow, LRX.frzLos, LRX.cometNow, LRX.losCnt, LRX.event, State.restartCompare]
    · simp -implicitDefEqProofs [State.on, State.get_put_same, LRX.losNow, LRX.frzLos, LRX.cometNow, LRX.losCnt, LRX.event, State.restartCompare]
    · simp -implicitDefEqProofs [LRX.losNow, LRX.frzLos, LRX.cometNow, LRX.losCnt, LRX.event, State.restartCompare, State.counter_count]
    · exact LRX.base_block _ 8
    · intro j hj
      simp -implicitDefEqProofs [State.restartCompare, hj]
    · refine .raise (.count (.updRx (.updRx (.put (.put (.put (.refl ..) _ ?_) _ ?_) _ ?_) _ _ fun _ => rfl) _ _ fun _ => rfl) ?_ ?_) _ ?_ <;>
        simp [LRX.losNow, LRX.frzLos, LRX.cometNow, LRX.status]
  · rintro s sd p i mv us rfl hd hl hm ht
    refine ⟨_, congrArg Host.Outcome.next (if_pos (by simp [hd, hl, State.signalPresent, hm, ht])), ?_⟩
    cases hc : s.on (LRX.cdrLock (laneIdx sd p)) with
    | true =>
      rw [State.when_true _ rfl]
      refine ⟨?_, ?_, fun _ => ?_, fun e => absurd e (by decide), .put (.put (.put (.refl ..) _ ?_) _ ?_) _ ?_⟩
      all_goals simp -implicitDefEqProofs [State.on, State.get_put_same, LRX.losNow, LRX.cometNow, LRX.frzLos, LRX.status]
    | false =>
      rw [State.when_false _ rfl]
      refine ⟨?_, ?_, fun e => absurd e (by decide), fun _ => ?_, .put (.put (.refl ..) _ ?_) _ ?_⟩
      all_goals simp -implicitDefEqProofs [State.on, State.get_put_same, LRX.losNow, LRX.cometNow, LRX.frzLos, LRX.status]
  · rintro s sd p i rfl hd hl
    refine ⟨_, congrArg Host.Outcome.next (if_pos (by simp [hd, hl])), ?_, ?_⟩
    · simp -implicitDefEqProofs [State.on, State.get_put_same, LRX.cometNow]
    · exact (Framed.refl _ _ _).put _ (.inr (.head _))
  · rintro s sd p i mv us rfl hd
    exact ⟨congrArg _ (State.losAssert_off (.inl hd)), congrArg _ (State.losClear_off (.inl hd)),
      congrArg Host.Outcome.next (if_neg (by simp [hd]))⟩
  · rintro s sd p i mv us rfl h
    exact congrArg _ (State.losAssert_off (.inr h))
  · rintro s sd p i mv us rfl h
    exact congrArg _ (State.losClear_off (.inr h))
  · exact fun s i => ⟨rfl, orOne_eq _⟩
  · rintro s sd p i f rfl hr hl h1 h2
    refine ⟨_, congrArg (fun u : State => Host.Outcome.next (u.settleCauses.heldCheck)) (if_pos (by simp [hr, hl, h1, h2])), ?_, ?_, ?_, ?_, ?_, ?_, ?_⟩
    · simp -implicitDefEqProofs [State.on, State.get_put_same, State.restartCompare, LRX.cdrLock, LRX.frzLos, LRX.cometNow]
    · simp -implicitDefEqProofs [State.on, State.get_put_same, State.restartCompare, LRX.cdrLock, LRX.frzLos, LRX.cometNow]
    · simp -implicitDefEqProofs [State.on, State.get_put_same, State.restartCompare, LRX.cdrLock, LRX.frzLos, LRX.cometNow]
    · simp -implicitDefEqProofs [State.restartCompare]
    · simp -implicitDefEqProofs [State.restartCompare]
      cases (s.rxe (laneIdx sd p)).slotRef <;> rfl
    · intro j hj
      simp -implicitDefEqProofs [State.restartCompare, hj]
    · refine .updRx (.updRx (.put (.put (.put (.refl ..) _ ?_) _ ?_) _ ?_) _ _ fun _ => rfl) _ _ fun _ => rfl <;>
        simp [LRX.cdrLock, LRX.frzLos, LRX.cometNow, LRX.status]
  · rintro s sd p f h
    exact congrArg (fun u : State => Host.Outcome.next (u.settleCauses.heldCheck)) (State.cdrLock_off h)
  · rintro s sd p i f rfl hr hl
    refine ⟨_, congrArg (fun u : State => Host.Outcome.next (((u.cwDropAll sd.idx).settleCauses).goOn)) (if_pos (by simp [hr, hl])), ?_, ?_, ?_, ?_, ?_, ?_, ?_, ?_⟩
    · simp -implicitDefEqProofs [State.on, State.get_put_same, State.restartCompare, State.cdrDrop, LRX.cdrLock, LRX.markerLock, LRX.unlockCnt, LRX.event]
    · simp -implicitDefEqProofs [State.on, State.get_put_same, State.restartCompare, State.cdrDrop, LRX.cdrLock, LRX.markerLock, LRX.unlockCnt, LRX.event]
    · simp -implicitDefEqProofs [State.restartCompare, State.cdrDrop]
    · simp -implicitDefEqProofs [State.restartCompare, State.cdrDrop, cdrHeld, clampInt_eq]
    · simp -implicitDefEqProofs [State.restartCompare, State.cdrDrop, State.counter_count, LRX.cdrLock, LRX.markerLock, LRX.unlockCnt, LRX.event]
    · exact State.raise_bit _ _ (LRX.base_block _ 8) (by decide)
    · intro j hj
      simp -implicitDefEqProofs [State.restartCompare, State.cdrDrop, hj]
    · refine .raise (.count (.updRx (.updRx (.updRx (.put (.put (.refl ..) _ ?_) _ ?_) _ _ fun _ => rfl) _ _ fun _ => rfl) _ _
        fun _ => rfl) ?_ ?_) _ ?_ <;> simp [LRX.cdrLock, LRX.markerLock, LRX.status]

end Sys2Proof.Machine
end

section
/-! PROOFS. Adaptation, starvation, the elastic FIFO and the level histogram of a receiver (R41 to R59). -/

namespace Sys2Proof.Machine

variable {s t : State} {m : State → State} {l : List Nat}

/-! Noting a limit. -/

theorem State.get_noteLimit (s : State) (i b : Nat) (at' : Bool) {f : Fld} (h : f.addr ≠ LRX.base i + 4) :
    (s.noteLimit i b at').get f = s.get f :=
  State.get_put_ne _ _ _ _ h

theorem Framed.noteLimit (h : Framed m l s t) (i b : Nat) (at' : Bool)
    (hm : ∀ (x : State) f, m (x.updRx i f).base = m x.base) (ha : LRX.status i ∈ l) : Framed m l s (t.noteLimit i b at') :=
  .put (.updRx h _ _ fun x => hm x _) _ (.inr ha)

/-! Adaptation. -/

theorem State.adapt_off {i : Nat} {u : AdaptUpdate} (h : s.freeze i ≠ 0 ∨ (s.rxe i).fg = true ∨ s.bistHeld.testBit i = true) :
    s.adapt i u = s := by
  refine if_pos ?_
  rcases h with h | h | h <;> simp [h]

theorem State.adaptInt_getInt (s : State) (i b : Nat) {f : Fld} (v : Int) (hf : f.lo + f.len ≤ 32) (hl : 0 < f.len)
    (h : f.addr ≠ LRX.base i + 4) :
    (s.adaptInt i b f v).getInt f = max (-(2 ^ (f.len - 1))) (min (2 ^ (f.len - 1) - 1) v) := by
  rw [← s.getInt_putInt f v hf hl]
  exact congrArg (signedOf f.len) (State.get_noteLimit _ _ _ _ h)

theorem State.adaptNat_get (s : State) (i b : Nat) {f : Fld} {hi : Nat} (v : Int) (hf : f.lo + f.len ≤ 32) (hhi : hi < 2 ^ f.len)
    (h : f.addr ≠ LRX.base i + 4) : ((s.adaptNat i b f hi v).get f : Int) = max 0 (min (hi : Int) v) := by
  unfold State.adaptNat
  rw [State.get_noteLimit _ _ _ _ h, State.get_put_same _ _ _ hf, clampInt_eq v (by omega), Nat.mod_eq_of_lt (by omega)]
  omega

theorem State.coefWrite_off {i : Nat} (h : s.on (LRX.adaptFreeze i) = false) (r : CoefReg) (v : Word) : s.coefWrite i r v = s :=
  if_neg (by simp [h])

theorem decide_bitsOf_one (w k : Nat) : decide (bitsOf w k 1 % 2 = 1) = w.testBit k := by
  rw [bitsOf, Nat.testBit_eq_decide_div_mod_eq, Nat.shiftRight_eq_div_pow]
  exact decide_eq_decide.mpr (by omega)

/-! Starvation. -/

theorem State.starveWindow_freezes {i k n : Nat} (hb : (s.rxe i).windowBad = false) (hl : s.on (LRX.losNow i) = false)
    (hc : s.on (LRX.cdrLock i) = true) (hd : s.on (LRX.detectEn i) = true) (hs : k < 256 ∨ n < 2 ^ 19)
    (hw : s.get (LRX.windows i) ≤ (s.rxe i).starved + 1) (hz : s.on (LRX.frzStarved i) = false) :
    ∃ f g, s.starveWindow i k n = ((s.updRx i f).updRx i g).starveFreeze i := by
  refine ⟨_, _, (if_neg (by simp [hb, hl, hc])).trans ((if_pos ?_).trans (if_pos ?_))⟩
  · simpa [hd, starvedWindow] using hs
  · simp [hw, hz]

/-! The level histogram. -/

theorem LRX.hist_inj {i n k : Nat} (h : LRX.hist i n = LRX.hist i k) : n = k := by
  unfold LRX.hist at h
  omega

/-- The bins are cleared as a run starts, and written as it ends. -/
theorem State.reg_each_hist (s : State) (i : Nat) {l : List Nat} (w : Nat → Word) {n : Nat} (hn : n ∈ l) :
    (s.each l fun k t => t.setReg (LRX.hist i k) (w k)).reg (LRX.hist i n) = w n :=
  State.reg_each_setReg (a := LRX.hist i) hn (fun _ _ e => congrArg w (LRX.hist_inj e)) s

theorem LRX.ne_hist {i n o : Nat} (h : o < 0xC00) : LRX.base i + o ≠ LRX.hist i n := by
  unfold LRX.hist
  omega

/-- The state with the bins stored and the run done (R59). -/
def State.histStored (s : State) (i : Nat) (bins : List Word) : State :=
  ((s.each ((List.range 128).zip (bins.map fun b => b.toNat)) fun x t =>
    t.setReg (LRX.hist i x.1) (BitVec.ofNat 32 x.2)).put (LRX.run i) 0).put (LRX.done i) 1

theorem State.histStored_same (s : State) (i : Nat) (bins : List Word) : SameButRegs s (s.histStored i bins) :=
  (((SameButRegs.refl s).each fun _ _ t => (SameButRegs.refl t).setReg _ _).put _ _).put _ _

theorem State.histStored_run (s : State) (i : Nat) (bins : List Word) : (s.histStored i bins).on (LRX.run i) = false := by
  simp -implicitDefEqProofs [State.histStored, State.on, State.get_put_same, LRX.run, LRX.done]

theorem State.histStored_done (s : State) (i : Nat) (bins : List Word) : (s.histStored i bins).on (LRX.done i) = true := by
  simp -implicitDefEqProofs [State.histStored, State.on, State.get_put_same, LRX.run, LRX.done]

theorem zip_range_mem {α : Type} {k : Nat} {l : List α} {x : Nat × α} (h : x ∈ (List.range k).zip l) : l[x.1]? = some x.2 := by
  obtain ⟨j, hj⟩ := List.mem_iff_getElem?.mp h
  obtain ⟨hk, hl⟩ := List.getElem?_zip_eq_some.mp hj
  obtain ⟨hlt, e⟩ := List.getElem?_eq_some_iff.mp hk
  rw [List.getElem_range] at e
  exact e ▸ hl

theorem State.histStored_hist (s : State) (i : Nat) {bins : List Word} (hb : bins.length = 128) {n : Nat} (hn : n < 128) :
    (s.histStored i bins).reg (LRX.hist i n) = bins.getD n 0 := by
  have hmem : (n, (bins.getD n 0).toNat) ∈ (List.range 128).zip (bins.map fun b => b.toNat) := by
    refine List.mem_iff_getElem?.mpr ⟨n, List.getElem?_zip_eq_some.mpr ⟨List.getElem?_range hn, ?_⟩⟩
    simp [List.getD, hb ▸ hn]
  unfold State.histStored
  rw [State.reg_put_ne _ _ _ (by simp [LRX.hist, LRX.done]; omega), State.reg_put_ne _ _ _ (by simp [LRX.hist, LRX.run]; omega)]
  refine (State.reg_each_setReg hmem (fun y hy e => ?_) s).trans (BitVec.ofNat_toNat ..)
  have h1 := zip_range_mem hy
  have h2 := zip_range_mem hmem
  rw [LRX.hist_inj e, h2] at h1
  rw [Option.some.inj h1]

theorem State.histStored_src (s : State) (i : Nat) (bins : List Word) :
    (s.histStored i bins).on (LRX.src i) = s.on (LRX.src i) := by
  unfold State.histStored State.on
  rw [State.get_put_apart _ _ (by simp [LRX.src]) (by simp [LRX.src, LRX.done]), State.get_put_apart _ _ (by simp [LRX.src])
    (by simp [LRX.src, LRX.run]), State.apply_each (·.get (LRX.src i))]
  exact fun x _ t => State.get_setReg_ne _ _ _ (LRX.ne_hist (by decide))

theorem State.histDone_levels {i : Nat} (h : s.on (LRX.src i) = false) (bins : List Word) :
    s.histDone i bins = s.histStored i bins :=
  if_neg fun h' => absurd (((s.histStored_src i bins).trans h).symm.trans h') (by decide)

theorem State.reg_putOrFree_ne (s : State) {f : Fld} (o : Option Nat) {b : Nat} (h : b ≠ f.addr) :
    (s.putOrFree f o).reg b = s.reg b := by
  cases o with
  | some v => exact s.reg_put_ne f v h
  | none => exact s.reg_put_ne f _ h

/-- With SRC = 1 levels and margins are computed, and every other register holds what it did (R59). -/
theorem State.histDone_decisions {i : Nat} (h : s.on (LRX.src i) = true) (bins : List Word) {b : Nat}
    (hsnr : b ≠ LRX.base i + 0x40) (hmargin : b ≠ LRX.base i + 0x44) :
    (s.histDone i bins).reg b = (s.histStored i bins).reg b := by
  have e : s.histDone i bins = _ := if_pos ((s.histStored_src i bins).trans h)
  rw [e, State.apply_each (·.reg b) fun j _ t => t.reg_putOrFree_ne _ hmargin,
    State.apply_each (·.reg b) fun k _ t => t.reg_putOrFree_ne _ hsnr]
  rfl

/-- Settles O14. -/
theorem adaptationStarvationAndHistogram : Obligations.AdaptationStarvationAndHistogram := by
  refine ⟨?_, ?_, ?_, ?_, ?_, ?_, ?_, ?_, ?_, ?_, ?_, ?_, ?_, ?_, ?_, ?_, ?_, ?_, ?_, ?_⟩
  · exact fun s sd p u h => congrArg _ (State.adapt_off h)
  · rintro s sd p i n g rfl hz hfg hb hen
    refine ⟨_, congrArg Host.Outcome.next ((if_neg (by simp [hz, hfg, hb])).trans (if_pos hen)), ?_, ?_⟩
    · exact State.adaptInt_getInt _ _ _ _ (by simp [LRX.tap]) (by simp [LRX.tap]) (by simp [LRX.tap]; omega)
    · exact .noteLimit (.put (.refl ..) _ (.inr (by simp))) _ _ _ (fun _ _ => rfl) (by simp)
  · rintro s sd p i g rfl hz hfg hb
    refine ⟨_, congrArg Host.Outcome.next (if_neg (by simp [hz, hfg, hb])), ?_, ?_⟩
    · exact State.adaptInt_getInt _ _ _ _ (by simp [LRX.dfe]) (by simp [LRX.dfe]) (by simp [LRX.dfe])
    · exact .noteLimit (.put (.refl ..) _ (.inr (by simp))) _ _ _ (fun _ _ => rfl) (by simp)
  · rintro s sd p i v rfl hz hfg hb hen
    refine ⟨_, congrArg Host.Outcome.next ((if_neg (by simp [hz, hfg, hb])).trans (if_pos hen)), ?_, ?_⟩
    · exact State.adaptNat_get _ _ _ _ (by simp [LRX.ctlePeak]) (by simp [LRX.ctlePeak]) (by simp [LRX.ctlePeak])
    · exact .noteLimit (.put (.refl ..) _ (.inr (by simp [LRX.afe, LRX.ctlePeak]))) _ _ _ (fun _ _ => rfl) (by simp)
  · rintro s sd p i v rfl hz hfg hb
    refine ⟨_, congrArg Host.Outcome.next (if_neg (by simp [hz, hfg, hb])), ?_, ?_⟩
    · exact State.adaptNat_get _ _ _ _ (by simp [LRX.vga]) (by simp [LRX.vga]) (by simp [LRX.vga])
    · exact .noteLimit (.put (.refl ..) _ (.inr (by simp [LRX.afe, LRX.vga]))) _ _ _ (fun _ _ => rfl) (by simp)
  · rintro s sd p i n v rfl hz hfg hb
    refine ⟨_, congrArg Host.Outcome.next (if_neg (by simp [hz, hfg, hb])), ?_, rfl⟩
    simp
  · rintro s sd p i n v rfl hw hz
    refine ⟨_, congrArg Host.Outcome.next ((State.soft_on hw _).trans (if_pos hz)), ?_, ?_⟩
    · exact (State.get_noteLimit _ _ _ _ (by simp [LRX.tap]; omega)).trans (State.get_put_same _ _ _ (by simp [LRX.tap]))
    · exact .noteLimit (.put (.refl ..) _ (.inr (by simp))) _ _ _ (fun _ _ => rfl) (by simp)
  · rintro s sd p i v rfl hw hz
    refine ⟨_, congrArg Host.Outcome.next ((State.soft_on hw _).trans (if_pos hz)), ?_, ?_⟩
    · exact (State.get_noteLimit _ _ _ _ (by simp [LRX.dfe])).trans (State.get_put_same _ _ _ (by simp [LRX.dfe]))
    · exact .noteLimit (.put (.refl ..) _ (.inr (by simp))) _ _ _ (fun _ _ => rfl) (by simp)
  · rintro s sd p i v rfl hw hz
    refine ⟨_, congrArg Host.Outcome.next ((State.soft_on hw _).trans (if_pos hz)), ?_, ?_, ?_, ?_⟩
    · simp -implicitDefEqProofs [State.keepLimit, State.get_noteLimit, State.get_put_same, LRX.ctlePeak, LRX.ctleAdapt, LRX.vga, bitsOf]
    · simp -implicitDefEqProofs [State.on, State.keepLimit, State.get_noteLimit, State.get_put_same, LRX.ctlePeak, LRX.ctleAdapt, LRX.vga]
      exact decide_bitsOf_one v.toNat 5
    · simp -implicitDefEqProofs [State.keepLimit, State.get_noteLimit, State.get_put_same, LRX.ctlePeak, LRX.ctleAdapt, LRX.vga, bitsOf, Nat.shiftRight_eq_div_pow]
    · exact .noteLimit (.noteLimit (.put (.put (.put (.refl ..) _ (.inr (by simp [LRX.afe, LRX.ctlePeak]))) _
        (.inr (by simp [LRX.afe, LRX.ctleAdapt]))) _ (.inr (by simp [LRX.afe, LRX.vga]))) _ _ _ (fun _ _ => rfl) (by simp)) _ _ _
        (fun _ _ => rfl) (by simp)
  · exact fun s sd p r v hz => congrArg Host.Outcome.next (State.soft_of_same (State.coefWrite_off hz r v))
  · rintro s sd p i rfl hp hm
    refine ⟨_, congrArg Host.Outcome.next (if_pos (by simp [hp, hm])), ?_, ?_, rfl⟩
    · simp
    · simp [detOf]
  · rintro s sd p i k n rfl hr hb hl hc hd hs hw hz
    obtain ⟨f, g, e⟩ := State.starveWindow_freezes hb hl hc hd hs hw hz
    refine ⟨_, congrArg Host.Outcome.next ((State.when_true _ hr).trans e), ?_, ?_, ?_, ?_⟩
    · simp -implicitDefEqProofs [State.starveFreeze, State.on, State.get_put_same, LRX.frzStarved, LRX.starveCnt, LRX.event]
    · simp -implicitDefEqProofs [State.starveFreeze, State.counter_count, LRX.frzStarved, LRX.starveCnt, LRX.event]
    · exact State.raise_bit _ _ (LRX.base_block _ 8) (by decide)
    · refine .raise (.count (.put (.updRx (.updRx (.refl ..) _ _ fun _ => rfl) _ _ fun _ => rfl) _ ?_) ?_ ?_) _ ?_ <;>
        simp [LRX.frzStarved, LRX.status]
  · rintro s sd p i rfl hr hh
    refine ⟨_, congrArg Host.Outcome.next (State.when_true _ (by simp [hr, hh])), ?_, ?_, ?_, ?_⟩
    · simp -implicitDefEqProofs [State.rxSlip]
    · simp -implicitDefEqProofs [State.rxSlip]
    · exact State.counter_count _ _
    · exact .count (.updRx (.refl ..) _ _ fun _ => rfl) (.inr (by simp)) (.inr (by simp))
  · rintro s sd p h
    exact congrArg Host.Outcome.next (State.when_false _ (by rcases h with h | h <;> simp [h]))
  · rintro s sd p i rfl hw
    refine ⟨_, congrArg Host.Outcome.next (State.soft_on hw _), ?_, ?_, fun n hn => ?_, ?_⟩
    · unfold State.histStart State.on
      rw [State.apply_each (·.get (LRX.run (laneIdx sd p)))]
      · simp -implicitDefEqProofs [State.get_put_same, LRX.run, LRX.done]
      · exact fun x _ t => State.get_setReg_ne _ _ _ (LRX.ne_hist (by decide))
    · unfold State.histStart State.on
      rw [State.apply_each (·.get (LRX.done (laneIdx sd p)))]
      · simp -implicitDefEqProofs [State.get_put_same, LRX.done]
      · exact fun x _ t => State.get_setReg_ne _ _ _ (LRX.ne_hist (by decide))
    · exact State.reg_each_hist _ _ (fun _ => 0) (List.mem_range.mpr hn)
    · exact ((SameButRegs.refl s).put _ _ |>.put _ _).each fun _ _ t => (SameButRegs.refl t).setReg _ _
  · rintro s sd p i r rfl hb he hsrc
    refine ⟨_, (if_pos (decide_eq_true hb)).trans (congrArg Host.Outcome.next ((State.when_true _ he).trans
      (State.histDone_levels hsrc _))), s.histStored_run .., s.histStored_done .., fun n hn => s.histStored_hist _ hb hn,
      s.histStored_same ..⟩
  · rintro s sd p i r rfl hb he hsrc
    have keeps {f : Fld} (hf : f.addr = LRX.base (laneIdx sd p) + 0x30) :
        (s.histDone (laneIdx sd p) r.bins).on f = (s.histStored (laneIdx sd p) r.bins).on f := by
      unfold State.on State.get
      rw [State.histDone_decisions hsrc _ (by omega) (by omega)]
    refine ⟨_, (if_pos (decide_eq_true hb)).trans (congrArg Host.Outcome.next (State.when_true _ he)),
      (keeps rfl).trans (s.histStored_run ..), (keeps rfl).trans (s.histStored_done ..), fun n hn => ?_⟩
    rw [State.histDone_decisions hsrc _ (LRX.ne_hist (by decide)).symm (LRX.ne_hist (by decide)).symm]
    exact s.histStored_hist _ hb hn
  · rintro s sd p r hb he
    exact (if_pos (decide_eq_true hb)).trans (congrArg Host.Outcome.next (State.when_false _ he))
  · rintro s sd p r hb
    exact if_neg (by simp [binsOk, hb])
  · rintro s sd p a ha hok
    have hlow : isLowWord a.toNat = true := by
      rw [ha, isLowWord, LRX.slipCnt, lrxOf_base (laneIdx_lt sd p) (by decide)]
      rfl
    refine ⟨_, congrArg Host.Outcome.next ((if_pos hlow).trans (congrArg Prod.fst (State.swRead_low hlow hok))), rfl, rfl⟩

end Sys2Proof.Machine
end

section
/-! PROOFS. The settings of a transmitter: COMMIT, its application, the cells, the rotator and the FIFO (R66 to R78). -/

namespace Sys2Proof.Machine

variable {s t : State}

theorem ampOf_eq (a : Nat) : ampOf a = max 100 (min 250 a) := by
  unfold ampOf
  split
  · omega
  · split <;> omega

/-- The taps that are staged with a COMMIT come into effect where no training owns them (R72). -/
theorem State.commitApply_of {i amp : Nat} {taps : List Int} (hc : (s.txe i).commitSet = some (taps, amp))
    (htr : s.txTraining i = false) : s.commitApply i =
      ((((s.applyTaps i taps).put (LTX.liveAmp i) amp).put (LTX.commit i) 0).put (LTX.commitRej i) 0).updTx i
        (fun t => { t with commitSet := none }) := by
  rw [State.commitApply, hc]
  exact if_neg (by simp [htr])

theorem State.applyTaps_five (s : State) (i : Nat) (a b c d e : Int) : s.applyTaps i [a, b, c, d, e] =
    (((((s.putInt (LTX.liveTap i 0) a).putInt (LTX.liveTap i 1) b).putInt (LTX.liveTap i 2) c).putInt (LTX.liveTap i 3) d).putInt
      (LTX.liveTap i 4) e).put (LTX.liveMain i) (128 - tapSum [a, b, c, d, e]) := rfl

/-- The applied taps read as the ones that were staged (R69). -/
theorem State.map_liveTap_applyTaps (s : State) (i : Nat) {taps : List Int} (hlen : taps.length = 5)
    (hrange : ∀ x ∈ taps, -64 ≤ x ∧ x ≤ 63) :
    (List.range 5).map (fun k => (s.applyTaps i taps).getInt (LTX.liveTap i k)) = taps := by
  match taps, hlen, hrange with
  | [a, b, c, d, e], _, hrange =>
    have hclamp : ∀ x ∈ [a, b, c, d, e], max (-64) (min 63 x) = x := fun x hx => by
      have := hrange x hx
      omega
    simp only [List.mem_cons, List.not_mem_nil, or_false, forall_eq_or_imp, forall_eq] at hclamp
    obtain ⟨ha, hb, hc, hd, he⟩ := hclamp
    rw [State.applyTaps_five]
    simp -implicitDefEqProofs [List.range_succ, LTX.liveTap, LTX.liveMain, State.getInt_put_apart, State.getInt_putInt_apart,
      State.getInt_putInt, ha, hb, hc, hd, he]

/-- Fields beside the applied taps leave them alone. -/
theorem State.getInt_liveTap_put (s : State) {i k : Nat} {f : Fld} (v : Nat) (hk : k < 5) (hf : f.addr ≠ LTX.base i + 0x24)
    (hf' : f.addr ≠ LTX.base i + 0x1C ∨ 7 ≤ f.lo) : (s.put f v).getInt (LTX.liveTap i k) = s.getInt (LTX.liveTap i k) := by
  unfold LTX.liveTap
  split
  · exact s.getInt_put_apart v (show 0 + 7 ≤ 32 by decide) (hf'.imp Ne.symm .inl)
  · exact s.getInt_put_apart v (show 8 * k + 7 ≤ 32 by omega) (.inl hf.symm)

theorem CAL.repBias_ne (sd : Side) (p : Pos) (k : Nat) : (CAL.repBias (laneIdx sd p)).addr ≠ LTX.base (laneIdx sd p) + k := by
  have := laneIdx_lt sd p
  simp only [CAL.repBias, LTX.base]
  omega

theorem Framed.applyTaps {m : State → State} {l : List Nat} (h : Framed m l s t) (i : Nat) (taps : List Int)
    (h1 : LTX.base i + 0x1C ∈ l) (h2 : LTX.base i + 0x24 ∈ l) : Framed m l s (t.applyTaps i taps) := by
  refine .put (.each h fun x _ u hu => .putInt hu _ (.inr ?_)) _ (.inr h1)
  unfold LTX.liveTap
  split
  · exact h1
  · exact h2

theorem CAL.repBias_block (i : Nat) (h : i < 68) : (CAL.repBias i).addr / 0x10000 ≠ 3 := by
  simp only [CAL.repBias]
  omega

/-- A marker boundary takes the bias that stands (R224). -/
theorem State.txBoundary_bias (s : State) (i : Nat) : ((s.txBoundary i).txe i).bias = s.getInt (CAL.repBias i) := by
  simp [State.txBoundary]

/-- Without a pass there is nothing for it to go on with. -/
theorem State.passSettle_none {i : Nat} (h : (s.txe i).pass = none) : s.passSettle i = s := by
  have hskip : s.passSkip i = s := by simp [State.passSkip, h]
  simp [State.passSettle, hskip, State.passOver, h]

theorem State.cellPool_mem {i r : Nat} (h : (s.cellPool i).head? = some r) : r < 271 ∧ s.get (LTX.cell i r) = 1 := by
  have hr := List.mem_of_mem_filter (List.mem_of_mem_head? h)
  simpa [State.cellsIn] using hr

theorem LTX.cell_apart (i : Nat) {n r : Nat} (h : r ≠ n) : (LTX.cell i r).addr ≠ (LTX.cell i n).addr ∨
    (LTX.cell i r).lo + (LTX.cell i r).len ≤ (LTX.cell i n).lo ∨
    (LTX.cell i n).lo + (LTX.cell i n).len ≤ (LTX.cell i r).lo := by
  simp only [LTX.cell]
  omega

theorem LTX.cell_width (i n : Nat) : (LTX.cell i n).lo + (LTX.cell i n).len ≤ 32 := by
  simp only [LTX.cell]
  omega

theorem LTX.cell_ne (i n : Nat) {k : Nat} (h : k < 0x200) : (LTX.cell i n).addr ≠ LTX.base i + k := by
  simp only [LTX.cell]
  omega

theorem LTX.cell_fault (i n m : Nat) (h : m < 136) : (LTX.cell i n).addr ≠ FLT.lecause m := by
  simp only [LTX.cell, LTX.base, FLT.lecause]
  omega

/-- Apart from the status of its source the onset at a lane-end changes no register. -/
theorem State.get_leSet (s : State) (n b : Nat) (f : Fld) : (s.leSet n b).get f = (s.put (FLT.le n b) 1).get f := by
  have hwhen : ∀ (c : Bool) (t : State), (t.when c fun t => t.causeOn n).get f = t.get f := fun c t => by cases c <;> rfl
  exact hwhen ..

theorem State.txe_leSet (s : State) (n b i : Nat) : (s.leSet n b).txe i = s.txe i := by
  have hwhen : ∀ (c : Bool) (t : State), (t.when c fun t => t.causeOn n).txe i = t.txe i := fun c t => by cases c <;> rfl
  exact (hwhen ..).trans (State.put_txe ..)

theorem State.on_leSet (s : State) (n : Nat) {b : Nat} (hb : b < 32) : (s.leSet n b).on (FLT.le n b) = true := by
  rw [State.on_iff, State.get_leSet, State.get_put_same _ _ _ (show b + 1 ≤ 32 from hb)]
  exact Nat.one_ne_zero

theorem State.causes_leSet {n b : Nat} (h : s.leUp n = true) : (s.leSet n b).causes.testBit n = true := by
  rw [State.leSet, State.when_true _ (by simp [h])]
  simp

/-- A suspect cell that serves is retired; the lowest redundant cell takes its place (R227). -/
theorem State.cellReplace_swap {i n r : Nat} (h0 : s.get (LTX.cell i n) = 0) (hr : (s.cellPool i).head? = some r) :
    s.cellReplace i n =
      (((s.put (LTX.cell i r) 0).put (LTX.cell i n) 2).count (LTX.cellswapCnt i)).noteCells i := by
  rw [State.cellReplace, if_neg (by simp [h0]), if_neg (by simp [h0]), hr]

/-- With no redundant cell the suspect is retired and the lane-end's source set (R227). -/
theorem State.cellReplace_none {i n : Nat} (h0 : s.get (LTX.cell i n) = 0) (hr : s.cellPool i = []) :
    s.cellReplace i n = (s.put (LTX.cell i n) 2).leSet (68 + i) 1 := by
  rw [State.cellReplace, if_neg (by simp [h0]), if_neg (by simp [h0]), hr]
  rfl

theorem State.cellsReplace_one {i n : Nat} (hp : (s.txe i).cellPend = [n]) :
    s.cellsReplace i = (s.updTx i fun t => { t with cellPend := [] }).cellReplace i n := by
  rw [State.cellsReplace, hp]
  rfl

theorem State.cellPool_updTx (s : State) (i : Nat) (f : TxEnd → TxEnd) (h : (f (s.txe i)).lent = (s.txe i).lent) :
    (s.updTx i f).cellPool i = s.cellPool i := by
  simp only [State.cellPool, State.cellsIn, State.updTx_get, State.updTx_txe_same, h]
  rfl

/-- Settles O15. -/
theorem transmitterSettings : Obligations.TransmitterSettings := by
  refine ⟨?_, ?_, ?_, ?_, ?_, ?_, ?_, ?_, ?_, ?_⟩
  · rintro s sd p i rfl hw htr hsum
    refine ⟨_, congrArg Host.Outcome.next ((State.soft_on hw _).trans (if_neg (by simp [htr, hsum]))), ?_, ?_, ?_, ?_⟩
    · simp -implicitDefEqProofs [State.on, State.get_put_same, LTX.commit]
    · simp -implicitDefEqProofs [ampOf_eq]
    · intro j hj
      simp -implicitDefEqProofs [hj]
    · exact .updTx (.put (.refl ..) _ (.inr (by simp [LTX.commit, LTX.ctrl]))) _ _ fun _ => rfl
  · rintro s sd p i rfl hw h
    refine ⟨_, congrArg Host.Outcome.next ((State.soft_on hw _).trans (if_pos ?_)), ?_, ?_⟩
    · rcases h with h | h <;> simp [h]
    · simp -implicitDefEqProofs [State.on, State.get_put_same, LTX.commitRej]
    · exact .put (.refl ..) _ (.inr (by simp [LTX.commitRej, LTX.status]))
  · rintro s sd p i taps amp rfl hc htr hlen hrange hsum hamp
    have hframe : Framed (fun x => { x with tx := [] }) [LTX.ctrl (laneIdx sd p), LTX.status (laneIdx sd p),
        LTX.base (laneIdx sd p) + 0x1C, LTX.base (laneIdx sd p) + 0x24] s (s.commitApply (laneIdx sd p)) := by
      rw [State.commitApply_of hc htr]
      refine .updTx (.put (.put (.put (.applyTaps (.refl ..) _ _ ?_ ?_) _ ?_) _ ?_) _ ?_) _ _ fun _ => rfl <;>
        simp -implicitDefEqProofs [LTX.liveAmp, LTX.commit, LTX.commitRej, LTX.ctrl, LTX.status]
    refine ⟨_, rfl, ?_, ?_, ?_, ?_, ?_, ?_, ?_, .updTx hframe _ _ fun _ => rfl⟩
    rotate_right
    · refine (State.txBoundary_bias ..).trans (hframe.getInt (CAL.repBias_block _ (laneIdx_lt sd p)) ?_)
      have h0 : (CAL.repBias (laneIdx sd p)).addr ≠ LTX.base (laneIdx sd p) := CAL.repBias_ne sd p 0
      simp -implicitDefEqProofs [CAL.repBias_ne, h0, LTX.ctrl, LTX.status]
    all_goals rw [State.commitApply_of hc htr]
    · refine (List.map_congr_left fun k hk => ?_).trans (s.map_liveTap_applyTaps (laneIdx sd p) hlen hrange)
      have hk5 := List.mem_range.mp hk
      rw [State.txBoundary, State.updTx_getInt, State.updTx_getInt, State.getInt_liveTap_put _ 0 hk5,
        State.getInt_liveTap_put _ 0 hk5, State.getInt_liveTap_put _ amp hk5] <;> simp [LTX.liveAmp, LTX.commit, LTX.commitRej]
    · simp -implicitDefEqProofs [State.txBoundary, State.get_put_same, LTX.liveAmp, LTX.commit, LTX.commitRej]
      omega
    · simp -implicitDefEqProofs [State.txBoundary, State.get_put_same, State.applyTaps, LTX.liveAmp, LTX.commit, LTX.commitRej, LTX.liveMain]
      omega
    · simp -implicitDefEqProofs [State.txBoundary, State.on, State.get_put_same, LTX.commit, LTX.commitRej]
    · simp -implicitDefEqProofs [State.txBoundary, State.on, State.get_put_same, LTX.commit, LTX.commitRej]
    · simp -implicitDefEqProofs [State.txBoundary]
  · rintro s sd p i rfl hc hon htr
    have happ : s.commitApply (laneIdx sd p) = s.commitDiscard (laneIdx sd p) := by
      obtain ⟨⟨taps, amp⟩, hc⟩ := Option.ne_none_iff_exists'.mp hc
      rw [State.commitApply, hc]
      exact if_pos htr
    refine ⟨_, congrArg (fun u : State => Host.Outcome.next (u.txBoundary (laneIdx sd p))) (happ.trans (if_pos ?_)), ?_, ?_, ?_, ?_, ?_, ?_⟩
    · exact Option.isSome_iff_ne_none.mpr hc
    · simp -implicitDefEqProofs [State.txBoundary, State.on, State.get_put_same, LTX.commit, LTX.commitRej]
    · simp -implicitDefEqProofs [State.txBoundary, State.on, State.get_put_same, LTX.commitRej]
    · simp -implicitDefEqProofs [State.txBoundary]
    · intro k
      unfold LTX.liveTap
      rw [State.txBoundary, State.updTx_get, State.updTx_get, State.get_put_ne, State.get_put_ne] <;>
        split <;> simp [LTX.commit, LTX.commitRej]
    · simp -implicitDefEqProofs [State.txBoundary, LTX.liveAmp, LTX.commit, LTX.commitRej]
    · refine .updTx (.updTx (.put (.put (.refl ..) _ ?_) _ ?_) _ _ fun _ => rfl) _ _ fun _ => rfl <;>
        simp -implicitDefEqProofs [LTX.commit, LTX.commitRej, LTX.ctrl, LTX.status]
  · rintro s sd p i rfl hc
    have happ : s.commitApply (laneIdx sd p) = s := by rw [State.commitApply, hc]
    refine ⟨_, congrArg (fun u : State => Host.Outcome.next (u.txBoundary (laneIdx sd p))) happ, ?_, rfl⟩
    simp [State.txBoundary]
  · rintro s sd p i n r rfl hn hp hnone h0 hr
    obtain ⟨hr271, hr1⟩ := State.cellPool_mem hr
    have hne : r ≠ n := fun e => absurd ((e ▸ hr1).symm.trans h0) (by decide)
    have hcells : s.cellsReplace (laneIdx sd p) =
        ((((s.updTx (laneIdx sd p) fun t => { t with cellPend := [] }).put (LTX.cell (laneIdx sd p) r) 0).put
          (LTX.cell (laneIdx sd p) n) 2).count (LTX.cellswapCnt (laneIdx sd p))).noteCells (laneIdx sd p) :=
      (State.cellsReplace_one hp).trans (State.cellReplace_swap h0 ((congrArg List.head? (s.cellPool_updTx _ _ rfl)).trans hr))
    have hcell : ∀ m, (((s.cellsReplace (laneIdx sd p)).txBoundary (laneIdx sd p)).get (LTX.cell (laneIdx sd p) m)) =
        ((((s.updTx (laneIdx sd p) fun t => { t with cellPend := [] }).put (LTX.cell (laneIdx sd p) r) 0).put
          (LTX.cell (laneIdx sd p) n) 2).get (LTX.cell (laneIdx sd p) m)) := fun m => by
      rw [hcells, State.txBoundary, State.updTx_get, State.noteCells,
        State.get_put_ne _ _ _ _ (LTX.cell_ne (laneIdx sd p) m (show 4 < 0x200 by decide)),
        State.get_count _ (a := LTX.cellswapCnt (laneIdx sd p)) (LTX.cell_ne (laneIdx sd p) m (show 0x68 < 0x200 by decide))
          (LTX.cell_ne (laneIdx sd p) m (show 0x6C < 0x200 by decide))]
    refine ⟨_, congrArg Host.Outcome.next (State.passSettle_none ?_), ?_, ?_, ?_, ?_, ?_⟩
    · rw [hcells]
      simp -implicitDefEqProofs [State.txBoundary, State.noteCells, hnone]
    · rw [hcell, State.get_put_apart _ _ (LTX.cell_width ..) (LTX.cell_apart _ hne), State.get_put_same _ _ _ (LTX.cell_width ..)]
      rfl
    · rw [hcell, State.get_put_same _ _ _ (LTX.cell_width ..)]
      rfl
    · rw [hcells]
      simp -implicitDefEqProofs [State.txBoundary, State.noteCells]
    · rw [hcells]
      unfold LTX.cellswapCnt
      rw [State.txBoundary, State.updTx_counter, State.noteCells,
        State.counter_put _ _ _ (by simp [LTX.cellSpares]) (by simp [LTX.cellSpares]), State.counter_count,
        State.counter_put _ _ _ (LTX.cell_ne _ _ (show 0x68 < 0x200 by decide)).symm
          (LTX.cell_ne _ _ (show 0x6C < 0x200 by decide)).symm,
        State.counter_put _ _ _ (LTX.cell_ne _ _ (show 0x68 < 0x200 by decide)).symm
          (LTX.cell_ne _ _ (show 0x6C < 0x200 by decide)).symm, State.updTx_counter]
    · rw [hcells]
      refine .updTx (.put (.count (.put (.put (.updTx (.refl ..) _ _ fun _ => rfl) _ ?_) _ ?_) ?_ ?_) _ ?_) _ _ fun _ => rfl <;>
        simp -implicitDefEqProofs [LTX.cellSpares, LTX.status]
  · rintro s sd p i n rfl hn hp hnone h0 hr
    have hcells : s.cellsReplace (laneIdx sd p) =
        ((s.updTx (laneIdx sd p) fun t => { t with cellPend := [] }).put (LTX.cell (laneIdx sd p) n) 2).leSet
          (68 + laneIdx sd p) 1 :=
      (State.cellsReplace_one hp).trans (State.cellReplace_none h0 ((s.cellPool_updTx _ _ rfl).trans hr))
    have hlane := laneIdx_lt sd p
    refine ⟨_, congrArg Host.Outcome.next (State.passSettle_none ?_), ?_, ?_, ?_, fun hact => ?_⟩
    · rw [hcells]
      simp -implicitDefEqProofs [State.txBoundary, State.txe_leSet, hnone]
    · rw [hcells, State.txBoundary, State.updTx_get, State.get_leSet, State.get_put_ne _ _ _ _ (LTX.cell_fault _ _ _ (by omega)),
        State.get_put_same _ _ _ (LTX.cell_width ..)]
      rfl
    · rw [hcells]
      simp -implicitDefEqProofs [State.txBoundary, State.txe_leSet]
    · rw [hcells, State.txBoundary, State.updTx_on]
      exact State.on_leSet _ _ (by decide)
    · rw [hcells, State.txBoundary, State.updTx_causes]
      refine State.causes_leSet (decide_eq_true ?_)
      rw [if_neg (by omega), Nat.add_sub_cancel_left, State.get_put_ne _ _ _ _ (LTX.cell_ne _ _ (show 4 < 0x200 by decide)).symm]
      exact of_decide_eq_true hact
  · rintro s sd p i neg rfl hr ho
    refine ⟨_, congrArg Host.Outcome.next (State.when_true _ (by simp [hr, ho])), ?_, State.raise_bit _ _ (LTX.base_block _ 8) (by decide), ?_⟩
    · simp -implicitDefEqProofs [State.on, State.get_put_same, LTX.rotAtLimit, LTX.event]
    · refine .raise (.put (.refl ..) _ ?_) _ ?_ <;> simp [LTX.rotAtLimit]
  · rintro s sd p i rfl hr ho
    refine ⟨_, congrArg Host.Outcome.next (State.when_true _ (by simp [hr, ho])), ?_, State.counter_count .., ?_⟩
    · simp -implicitDefEqProofs
    · refine .count (.updTx (.refl ..) _ _ fun _ => rfl) ?_ ?_ <;> simp
  · rintro s sd p ho
    exact congrArg Host.Outcome.next (State.when_false _ (by simp [ho]))

end Sys2Proof.Machine
end

section
/-! PROOFS. The partition table: a write to an entry, its refusals, and a drain that is forced (R192, R208). -/

namespace Sys2Proof.Machine

variable {s : State}

/-! An update of a store at a key that a test passes over does not change whether any entry passes it. -/

theorem Sparse.any_del {α : Type} {P : Nat × α → Bool} {k : Nat} (h : ∀ v, P (k, v) = false) (m : Sparse α) :
    (Sparse.del m k).any P = m.any P := by
  induction m with
  | nil => rfl
  | cons x m ih =>
    obtain ⟨j, v⟩ := x
    rw [Sparse.del]
    split
    · rw [ih, List.any_cons, ‹j = k›, h v, Bool.false_or]
    · rw [List.any_cons, List.any_cons, ih]

theorem Sparse.any_ins {α : Type} {P : Nat × α → Bool} {k : Nat} (h : ∀ v, P (k, v) = false) (m : Sparse α) (w : α) :
    (Sparse.ins m k w).any P = m.any P := by
  induction m with
  | nil => simp [Sparse.ins, h]
  | cons x m ih =>
    obtain ⟨j, v⟩ := x
    rw [Sparse.ins]
    split
    · rw [List.any_cons, h w, Bool.false_or]
    · split
      · rw [List.any_cons, List.any_cons, h w, ← ‹k = j›, h v]
      · rw [List.any_cons, List.any_cons, ih]

theorem Sparse.any_set {α : Type} [DecidableEq α] {P : Nat × α → Bool} {k : Nat} (h : ∀ v, P (k, v) = false) (d : α)
    (m : Sparse α) (w : α) : (Sparse.set d m k w).any P = m.any P := by
  unfold Sparse.set
  split
  · exact Sparse.any_del h m
  · exact Sparse.any_ins h m w

/-- The status word of the partition table is no part of what it reports on. -/
theorem State.anyQuench_put (s : State) {f : Fld} (v : Nat) (hf : f.addr = 0xA8004) : (s.put f v).anyQuench = s.anyQuench := by
  have hregs : ∀ P : Nat × Word → Bool, (∀ w, P (f.addr, w) = false) → (s.put f v).regs.any P = s.regs.any P := fun P hP =>
    Sparse.any_set hP _ _ _
  have hne : ∀ n k, PRT.rangeLo n + k ≠ f.addr := fun n k => by
    simp only [PRT.rangeLo, hf]
    omega
  unfold State.anyQuench
  rw [hregs _ (fun w => by rw [hf, show decide (0xA0000 ≤ 0xA8004 ∧ 0xA8004 < 0xA8000 ∧ 0xA8004 % 8 = 4) = false by decide, Bool.false_and])]
  refine congrArg _ (List.any_congr rfl fun n => ?_)
  have hen : (s.put f v).on (PRT.rEn n) = s.on (PRT.rEn n) := by rw [State.on, State.get_put_ne _ _ _ _ (hne n 4), State.on]
  rw [hen, State.get_put_ne s f (PRT.rLo n) v (hne n 0), State.get_put_ne s f (PRT.rHi n) v (hne n 0)]


/-- QACTIVE shows whether anything is quenched (R204). -/
theorem State.notePrt_qactive (s : State) : s.notePrt.on PRT.qactive = s.notePrt.anyQuench := by
  unfold State.notePrt
  rw [State.anyQuench_put _ _ rfl, State.anyQuench_put _ _ rfl, State.on, State.get_put_same _ _ _ (by decide)]
  exact boolNat_ne_zero _

theorem Framed.notePrt {m : State → State} {l : List Nat} {t : State} (h : Framed m l s t) (hl : 0xA8004 ∈ l) :
    Framed m l s t.notePrt := .put (.put h _ (.inr hl)) _ (.inr hl)

theorem ofNat_bitsOf_23 (v : Word) : BitVec.ofNat 32 (bitsOf v.toNat 0 23) = v &&& 0x7FFFFF#32 := by
  apply BitVec.eq_of_toNat_eq
  have hand : v.toNat &&& 8388607 = v.toNat % 8388608 := Nat.and_two_pow_sub_one_eq_mod v.toNat 23
  simp only [bitsOf, Nat.shiftRight_zero, BitVec.toNat_ofNat, BitVec.toNat_and]
  rw [show 8388607 % 2 ^ 32 = 8388607 by decide, hand]
  omega

theorem bitsOf_zero (w n : Nat) : bitsOf w 0 n = w % 2 ^ n := rfl

/-- Settles O27. -/
theorem partitionEntriesAndDrains : Obligations.PartitionEntriesAndDrains := by
  refine ⟨?_, ?_, ?_, ?_⟩
  · intro s i v hw htwin hheld
    have hi := i.isLt
    refine ⟨_, congrArg Host.Outcome.next ((State.soft_on hw _).trans (if_neg ?_)), ?_, State.notePrt_qactive _, ?_⟩
    · have htwin' : (v.toNat.testBit 22 && match s.entryOf (bitsOf v.toNat 0 16) with
          | some j => decide (j ≠ i.val) | none => false) = false := by
        cases hv : v.toNat.testBit 22 with
        | false => rfl
        | true =>
          rcases htwin hv with h | h <;> rw [bitsOf_zero, h] <;> simp
      have hheld' : (s.on (PRT.quenched i) && (decide (bitsOf v.toNat 0 16 ≠ s.get (PRT.pid i)) || !v.toNat.testBit 22)) = false := by
        cases hq : s.on (PRT.quenched i) with
        | false => rfl
        | true =>
          obtain ⟨hv, hpid⟩ := hheld hq
          rw [bitsOf_zero, hpid, show v.toNat.testBit 22 = true from hv]
          simp
      exact Bool.eq_false_iff.mp (Bool.or_eq_false_iff.mpr ⟨htwin', hheld'⟩)
    · rw [State.notePrt, State.reg_put_ne _ _ _ (by simp only [PRT.entryLo, PRT.qactive]; omega),
        State.reg_put_ne _ _ _ (by simp only [PRT.entryLo, PRT.used]; omega), State.reg_setReg_same]
      exact ofNat_bitsOf_23 v
    · exact .notePrt (.setReg (.refl ..) _ (.inr (by simp))) (by simp)
  · intro s i v j hw h
    refine ⟨_, congrArg Host.Outcome.next ((State.soft_on hw _).trans (if_pos ?_)), State.raise_bit _ _ (by decide) (by decide),
      .raise (.refl ..) _ (by simp)⟩
    refine Bool.or_eq_true_iff.mpr (h.imp (fun ⟨hv, he, hne⟩ => ?_) fun ⟨hq, hv⟩ => ?_)
    · refine Bool.and_eq_true_iff.mpr ⟨hv, ?_⟩
      rw [bitsOf_zero, he]
      exact decide_eq_true hne
    · refine Bool.and_eq_true_iff.mpr ⟨hq, Bool.or_eq_true_iff.mpr (hv.symm.imp decide_eq_true fun hv => ?_)⟩
      rw [bitOf, show v.toNat.testBit 22 = false from hv]
      rfl
  · intro s e g hd hf
    refine ⟨_, congrArg Host.Outcome.next (if_pos (by simp [hd, hf])), ?_, State.raise_bit _ _ (by simp) (by decide), ?_⟩
    · simp
    · exact .raise (.updEng (.refl ..) _ _ _ fun _ => rfl) _ (by simp)
  · intro s e g h
    exact ⟨_, congrArg Host.Outcome.next (if_neg (by rcases h with h | h <;> simp [h])), rfl⟩

end Sys2Proof.Machine
end

section
/-! PROOFS. The registers of an engine, and what a SNAK that is sent, an abandon and the check of a drain do (R152 to R162,
R208). -/

namespace Sys2Proof.Machine

variable {s t : State} {m : State → State} {l : List Nat} {e g : Nat}

/-! Where the words of a port lie in an engine's block. -/

@[simp] theorem DIR.g_ne_event (e e' g : Nat) {k : Nat} (h : k % 0x100 ≠ 8) : DIR.g e g + k ≠ DIR.event e' := by
  unfold DIR.g DIR.event DIR.base
  omega

theorem DIR.g_lt (e : Eng) (g : Port) {k : Nat} (h : k < 0x100) : DIR.g e.idx g + k < 0xA0000 := by
  have he := Eng.idx_lt e
  have hg := g.isLt
  unfold DIR.g DIR.base
  omega

theorem State.updEng_eng_ne (s : State) {e e' g g' : Nat} (f : EngPort → EngPort) (h : 4 * e' + g' ≠ 4 * e + g) :
    (s.updEng e g f).eng e' g' = s.eng e' g' := Sparse.get_set_ne _ _ _ _ h

/-- An update of the other engine leaves an engine alone. -/
@[simp] theorem State.updEng_eng_other (s : State) (e : Eng) (g : Nat) (f : EngPort → EngPort) :
    (s.updEng (1 - e.idx) g f).eng e.idx g = s.eng e.idx g := by
  have := Eng.idx_lt e
  exact s.updEng_eng_ne f (by omega)

@[simp] theorem State.updEng_other_eng (s : State) (e : Eng) (g : Nat) (f : EngPort → EngPort) :
    (s.updEng e.idx g f).eng (1 - e.idx) g = s.eng (1 - e.idx) g := by
  have := Eng.idx_lt e
  exact s.updEng_eng_ne f (by omega)

@[simp] theorem State.counter_raise_dir (s : State) (e e' g b : Nat) {c : Nat} (h : c % 0x100 ≠ 8) (h4 : (c + 4) % 0x100 ≠ 8) :
    (s.raise (DIR.event e') b).counter (DIR.g e g + c) = s.counter (DIR.g e g + c) :=
  s.counter_raise _ _ (DIR.g_block e g c) (DIR.g_ne_event e e' g h) (DIR.g_block e g (c + 4)) (DIR.g_ne_event e e' g (k := c + 4) h4)

/-! A SNAK that is sent (R153, R154). -/

theorem State.sendSnak_inState (s : State) (e g c : Nat) : (s.sendSnak e g c).get (DIR.inState e g) = 1 := by
  simp -implicitDefEqProofs [State.sendSnak, DIR.inState, DIR.cSnak, DIR.snakOut, State.get_put_same, inWait]

theorem State.sendSnak_cSnak (s : State) (e g c : Nat) : (s.sendSnak e g c).get (DIR.cSnak e g) = c % 4 := by
  simp -implicitDefEqProofs [State.sendSnak, DIR.cSnak, DIR.snakOut, State.get_put_same]

theorem State.sendSnak_snakOut (s : State) (e g c : Nat) :
    (s.sendSnak e g c).counter (DIR.snakOut e g) = (s.counter (DIR.snakOut e g) + 1) % 2 ^ 48 := by
  simp -implicitDefEqProofs [State.sendSnak, DIR.snakOut, DIR.inState, DIR.cSnak, State.counter_count]

theorem State.sendSnak_ins (s : State) (e : Eng) (g c : Nat) :
    ((s.sendSnak e.idx g c).eng (1 - e.idx) g).ins = (s.eng (1 - e.idx) g).ins ++ [.snak] := by
  simp -implicitDefEqProofs [State.sendSnak]

theorem State.sendSnak_timer (s : State) (e : Eng) (g c : Nat) : ((s.sendSnak e.idx g c).eng e.idx g).timer = true := by
  simp -implicitDefEqProofs [State.sendSnak]

theorem State.sendSnak_event (s : State) (e g c : Nat) : ((s.sendSnak e g c).reg (DIR.event e)).getLsbD 8 = true :=
  State.raise_bit _ _ (DIR.event_block e) (by decide)

theorem State.sendSnak_event_of {e b : Nat} (h : (s.reg (DIR.event e)).getLsbD b = true) (g c : Nat) :
    ((s.sendSnak e g c).reg (DIR.event e)).getLsbD b = true := by
  refine State.raise_bit_of ?_ (DIR.event_block e)
  rw [State.reg_count_ne _ (DIR.snakOut e g) (DIR.g_ne_event e e g (k := 0xA0) (by decide)).symm (DIR.g_ne_event e e g (k := 0xA0 + 4) (by decide)).symm,
    State.updEng_reg, State.updEng_reg, State.reg_put_ne _ _ _ (DIR.g_ne_event _ _ _ (by decide)).symm,
    State.reg_put_ne _ _ _ (DIR.g_ne_event _ _ _ (by decide)).symm]
  exact h

theorem Framed.sendSnak (h : Framed m l s t) (e g c : Nat) (hm : ∀ (x : State) e f, m (x.updEng e g f).base = m x.base)
    (h1 : DIR.g e g + 0x18 ∈ l) (h2 : DIR.g e g + 0xA0 ∈ l) (h3 : DIR.g e g + 0xA4 ∈ l) (h4 : DIR.event e ∈ l) :
    Framed m l s (t.sendSnak e g c) :=
  .raise (.count (.updEng (.updEng (.put (.put h _ (.inr h1)) _ (.inr h1)) _ _ _ fun _ => hm ..) _ _ _ fun _ => hm ..)
    (.inr h2) (.inr h3)) _ h4

/-! The check of a drain (R208). -/

theorem Framed.drainGen (h : Framed m l s t) (h1 : 0xA800C ∈ l) (h2 : PRT.event ∈ l) : Framed m l s t.drainGen := by
  unfold State.drainGen
  split
  · exact .raise (.put h _ (.inr h1)) _ h2
  · exact h

theorem Framed.drainCheck (h : Framed m l s t) (e g : Nat) (h1 : DIR.g e g + 0x24 ∈ l) (h2 : DIR.event e ∈ l)
    (h3 : 0xA800C ∈ l) (h4 : PRT.event ∈ l) : Framed m l s (t.drainCheck e g) := by
  unfold State.drainCheck
  split
  · exact .drainGen (.raise (.put h _ (.inr h1)) _ h2) h3 h4
  · exact h

theorem State.drainGen_eng (s : State) (e g : Nat) : s.drainGen.eng e g = s.eng e g := by
  unfold State.drainGen
  split
  · rw [State.raise_eng, State.put_eng]
  · rfl

@[simp] theorem State.drainCheck_eng (s : State) (e g e' g' : Nat) : (s.drainCheck e g).eng e' g' = s.eng e' g' := by
  unfold State.drainCheck
  split
  · rw [State.drainGen_eng, State.raise_eng, State.put_eng]
  · rfl

theorem State.raise_event_of {a b c d : Nat} (h : (s.reg a).getLsbD b = true) (ha : a / 0x10000 ≠ 3) (f : Fld) (v : Nat)
    (hf : a ≠ f.addr) : (((s.put f v).raise c d).reg a).getLsbD b = true :=
  State.raise_bit_of (by rwa [State.reg_put_ne _ _ _ hf]) ha

/-- The check of a drain leaves a bit of an event register set. -/
theorem State.drainCheck_event_of {a b : Nat} (h : (s.reg a).getLsbD b = true) (ha : a / 0x10000 ≠ 3) (e g : Nat)
    (h1 : a ≠ DIR.g e g + 0x24) (h2 : a ≠ 0xA800C) : ((s.drainCheck e g).reg a).getLsbD b = true := by
  unfold State.drainCheck
  split
  · unfold State.drainGen
    split
    · exact State.raise_event_of (State.raise_event_of h ha _ _ h1) ha _ _ h2
    · exact State.raise_event_of h ha _ _ h1
  · exact h

/-- Beside the words of the drain the check leaves the registers alone. -/
theorem State.drainCheck_reg (s : State) (e g : Nat) {a : Nat} (ha : a / 0x10000 ≠ 3) (h1 : a ≠ DIR.g e g + 0x24)
    (h2 : a ≠ DIR.event e) (h3 : a ≠ 0xA800C) (h4 : a ≠ PRT.event) : (s.drainCheck e g).reg a = s.reg a :=
  (Framed.drainCheck (m := fun _ => s) (l := [DIR.g e g + 0x24, DIR.event e, 0xA800C, PRT.event]) (.refl ..) e g
    (by simp) (by simp) (by simp) (by simp)).2 a ha (by simp [h1, h2, h3, h4])

theorem State.drainCheck_get (s : State) (e : Eng) (g : Port) {k lo len : Nat} (hk : k < 0x100) (h1 : k ≠ 0x24)
    (h2 : k % 0x100 ≠ 8) : (s.drainCheck e.idx g).get ⟨DIR.g e.idx g + k, lo, len⟩ = s.get ⟨DIR.g e.idx g + k, lo, len⟩ := by
  have hlt := DIR.g_lt e g hk
  unfold State.get
  rw [State.drainCheck_reg _ _ _ (DIR.g_block _ _ _) (by omega) (DIR.g_ne_event _ _ _ h2) (by omega) (by unfold PRT.event; omega)]

theorem State.drainCheck_counter (s : State) (e : Eng) (g : Port) {k : Nat} (hk : k + 4 < 0x100) (h1 : k ≠ 0x24)
    (h2 : k % 0x100 ≠ 8) (h3 : k + 4 ≠ 0x24) (h4 : (k + 4) % 0x100 ≠ 8) :
    (s.drainCheck e.idx g).counter (DIR.g e.idx g + k) = s.counter (DIR.g e.idx g + k) := by
  have hlt := DIR.g_lt e g hk
  unfold State.counter
  rw [Nat.add_assoc, State.drainCheck_reg _ _ _ (DIR.g_block _ _ _) (by omega) (DIR.g_ne_event _ _ _ h2) (by omega) (by unfold PRT.event; omega),
    State.drainCheck_reg _ _ _ (DIR.g_block e.idx g (k + 4)) (by omega) (DIR.g_ne_event e.idx e.idx g (k := k + 4) h4) (by omega)
      (by unfold PRT.event; omega)]

end Sys2Proof.Machine
end

section
/-! PROOFS. Acknowledgements, replay requests and abandons at an engine (R152 to R162). -/

namespace Sys2Proof.Machine

variable {s t : State} {m : State → State} {l : List Nat}

/-- An abandon before its registers tell of it: what the engine holds from `f` on is dropped (R158, R159). -/
def State.cutFrom (s : State) (e g f reason : Nat) : State :=
  let left := (((s.eng e g).defer.take (s.get (DIR.deferLeft e g))).filter (keepBefore f)).length
  let t := s.updEng e g (fun x => { abandonPort f reason (decide (reason = 6)) x with
    rxLaps := lapsBack x.rxLaps (s.get (DIR.rxNext e g)) f,
    txLaps := if seqAfter (s.get (DIR.txNext e g)) f then lapsBack x.txLaps (s.get (DIR.txNext e g)) f else x.txLaps })
  let t := if t.get (DIR.deferLeft e g) = left then t else t.put (DIR.deferLeft e g) left
  if seqAfter (s.get (DIR.txNext e g)) f then t.put (DIR.txNext e g) f else t

/-- What an abandon leaves in the registers before the drain is checked (R158). -/
def State.noteAbandon (s : State) (e g f reason : Nat) : State :=
  ((((((((s.put (DIR.rxNext e g) f).put (DIR.inState e g) inAbandoned).noteRetry e g).count (DIR.abandon e g)).put
    (DIR.abnFirst e g) f).put (DIR.abnReason e g) reason).put (DIR.abnOrigin e g) (boolNat (decide (reason = 6)))).raise
    (DIR.event e) 6)

theorem State.abandonAt_eq (s : State) (e g f reason : Nat) :
    s.abandonAt e g f reason = ((s.cutFrom e g f reason).noteAbandon e g f reason).drainCheck e g := rfl

theorem Framed.noteRetry (h : Framed m l s t) (e g : Nat) (h1 : DIR.g e g + 0x18 ∈ l) (h2 : DIR.g e g + 0x1C ∈ l) :
    Framed m l s (t.noteRetry e g) := .put (.put (.put h _ (.inr h2)) _ (.inr h2)) _ (.inr h1)

theorem Framed.cutFrom (h : Framed m l s t) (e g f reason : Nat) (hm : ∀ (x : State) e f, m (x.updEng e g f).base = m x.base)
    (h1 : DIR.g e g + 0x18 ∈ l) (h2 : DIR.g e g + 0x24 ∈ l) : Framed m l s (t.cutFrom e g f reason) := by
  unfold State.cutFrom
  extract_lets left u v
  have hu : Framed m l s u := h.updEng _ _ _ fun _ => hm ..
  have hv : Framed m l s v := by
    unfold v
    split
    · exact hu
    · exact hu.put _ (.inr h2)
  split
  · exact hv.put _ (.inr h1)
  · exact hv

theorem Framed.noteAbandon (h : Framed m l s t) (e g f reason : Nat) (h1 : DIR.g e g + 0x18 ∈ l) (h2 : DIR.g e g + 0x1C ∈ l)
    (h3 : DIR.g e g + 0x98 ∈ l) (h4 : DIR.g e g + 0x9C ∈ l) (h5 : DIR.g e g + 0x20 ∈ l) (h6 : DIR.event e ∈ l) :
    Framed m l s (t.noteAbandon e g f reason) :=
  .raise (.put (.put (.put (.count (.noteRetry (.put (.put h _ (.inr h1)) _ (.inr h1)) _ _ h1 h2) (.inr h3) (.inr h4)) _ (.inr h5)) _
    (.inr h5)) _ (.inr h5)) _ h6

theorem Framed.abandonAt (h : Framed m l s t) (e g f reason : Nat) (hm : ∀ (x : State) e f, m (x.updEng e g f).base = m x.base)
    (hg : ∀ a ∈ [0x18, 0x1C, 0x20, 0x24, 0x98, 0x9C], DIR.g e g + a ∈ l) (h1 : DIR.event e ∈ l) (h2 : 0xA800C ∈ l)
    (h3 : PRT.event ∈ l) : Framed m l s (t.abandonAt e g f reason) := by
  simp only [List.forall_mem_cons] at hg
  obtain ⟨h18, h1c, h20, h24, h98, h9c, -⟩ := hg
  rw [State.abandonAt_eq]
  exact .drainCheck (.noteAbandon (.cutFrom h _ _ _ _ hm h18 h24) _ _ _ _ h18 h1c h98 h9c h20 h1) _ _ h24 h1 h2 h3

/-- Beside the words of SEQ and of the drain the cut leaves the registers alone. -/
theorem State.cutFrom_reg (s : State) (e g f reason : Nat) {a : Nat} (h3 : a / 0x10000 ≠ 3) (h1 : a ≠ DIR.g e g + 0x18)
    (h2 : a ≠ DIR.g e g + 0x24) : (s.cutFrom e g f reason).reg a = s.reg a :=
  (Framed.cutFrom (m := fun _ => s) (l := [DIR.g e g + 0x18, DIR.g e g + 0x24]) (.refl ..) e g f reason (fun _ _ _ => rfl)
    (by simp) (by simp)).2 a h3 (by simp [h1, h2])

theorem State.noteAbandon_eng (s : State) (e g f reason e' g' : Nat) : (s.noteAbandon e g f reason).eng e' g' = s.eng e' g' := by
  simp -implicitDefEqProofs only [State.noteAbandon, State.noteRetry, State.raise_eng, State.put_eng, State.count_eng]

theorem State.cutFrom_timer (s : State) (e g f reason : Nat) : ((s.cutFrom e g f reason).eng e g).timer = false := by
  unfold State.cutFrom
  extract_lets left u v
  have hu : (u.eng e g).timer = false := by rw [State.updEng_eng_same]; rfl
  have hv : (v.eng e g).timer = false := by
    unfold v
    split
    · exact hu
    · rwa [State.put_eng]
  split
  · rwa [State.put_eng]
  · exact hv

/-- What the registers read after an abandon at `f` (R158). -/
theorem State.abandonAt_regs (s : State) (e : Eng) (g : Port) {f reason : Nat} (hf : f < 4096) (hr : reason < 16) :
    let t := s.abandonAt e.idx g f reason
    t.get (DIR.inState e.idx g) = 2 ∧ t.get (DIR.rxNext e.idx g) = f ∧ t.get (DIR.abnFirst e.idx g) = f ∧
      t.get (DIR.abnReason e.idx g) = reason ∧ t.on (DIR.abnOrigin e.idx g) = decide (reason = 6) ∧
      t.counter (DIR.abandon e.idx g) = (s.counter (DIR.abandon e.idx g) + 1) % 2 ^ 48 := by
  rw [State.abandonAt_eq]
  generalize hu : s.cutFrom e.idx g f reason = u
  have hget : ∀ k lo len, k < 0x100 → k ≠ 0x24 → k % 0x100 ≠ 8 →
      ((u.noteAbandon e.idx g f reason).drainCheck e.idx g).get ⟨DIR.g e.idx g + k, lo, len⟩ =
      (u.noteAbandon e.idx g f reason).get ⟨DIR.g e.idx g + k, lo, len⟩ := fun k lo len => State.drainCheck_get _ e g
  refine ⟨(hget 0x18 24 2 (by decide) (by decide) (by decide)).trans ?_, (hget 0x18 0 12 (by decide) (by decide) (by decide)).trans ?_,
    (hget 0x20 0 12 (by decide) (by decide) (by decide)).trans ?_, (hget 0x20 12 4 (by decide) (by decide) (by decide)).trans ?_, ?_, ?_⟩
  · simp -implicitDefEqProofs [State.noteAbandon, State.noteRetry, DIR.inState, DIR.rxNext, DIR.abandon, DIR.abnFirst, DIR.abnReason,
      DIR.abnOrigin, DIR.replaying, DIR.rplq, DIR.backlog, State.get_put_same, inAbandoned]
  · simp -implicitDefEqProofs [State.noteAbandon, State.noteRetry, DIR.inState, DIR.rxNext, DIR.abandon, DIR.abnFirst, DIR.abnReason,
      DIR.abnOrigin, DIR.replaying, DIR.rplq, DIR.backlog, State.get_put_same]
    omega
  · simp -implicitDefEqProofs [State.noteAbandon, DIR.abnFirst, DIR.abnReason, DIR.abnOrigin, State.get_put_same]
    omega
  · simp -implicitDefEqProofs [State.noteAbandon, DIR.abnFirst, DIR.abnReason, DIR.abnOrigin, State.get_put_same]
    omega
  · rw [State.on, show DIR.abnOrigin e.idx g = ⟨DIR.g e.idx g + 0x20, 16, 1⟩ from rfl, hget 0x20 16 1 (by decide) (by decide) (by decide)]
    simp -implicitDefEqProofs [State.noteAbandon, DIR.abnOrigin, State.get_put_same]
    by_cases h : reason = 6 <;> simp [boolNat, h]
  · have hcnt : ∀ k, k = 0x98 ∨ k = 0x9C → u.reg (DIR.g e.idx g + k) = s.reg (DIR.g e.idx g + k) := fun k hk => by
      rw [← hu, State.cutFrom_reg _ _ _ _ _ (DIR.g_block _ _ _) (by omega) (by omega)]
    have hcu : u.counter (DIR.g e.idx g + 0x98) = s.counter (DIR.g e.idx g + 0x98) := by
      unfold State.counter
      rw [Nat.add_assoc, hcnt 0x98 (.inl rfl), hcnt 0x9C (.inr rfl)]
    unfold DIR.abandon
    rw [State.drainCheck_counter _ e g (by decide) (by decide) (by decide) (by decide) (by decide), ← hcu]
    simp -implicitDefEqProofs [State.noteAbandon, State.noteRetry, DIR.inState, DIR.rxNext, DIR.abandon, DIR.abnFirst, DIR.abnReason,
      DIR.abnOrigin, DIR.replaying, DIR.rplq, DIR.backlog, State.counter_count]

/-- Of the events an abandon adds to those that are set. -/
theorem State.abandonAt_event_of {e g b : Nat} (h : (s.reg (DIR.event e)).getLsbD b = true) (he : DIR.event e ≠ 0xA800C)
    (f reason : Nat) : ((s.abandonAt e g f reason).reg (DIR.event e)).getLsbD b = true := by
  rw [State.abandonAt_eq]
  have hcut : BitSet (DIR.event e) b (s.cutFrom e g f reason) := BitSet.of_reg h (State.cutFrom_reg _ _ _ _ _ (DIR.event_block e)
    (DIR.g_ne_event e e g (by decide)).symm (DIR.g_ne_event e e g (by decide)).symm)
  refine State.drainCheck_event_of (BitSet.raise (.put (.put (.put (.count (.put (.put (.put (.put (.put hcut _ ?_) _ ?_) _ ?_) _ ?_) _ ?_)
    (DIR.g_ne_event e e g (k := 0x98) (by decide)).symm (DIR.g_ne_event e e g (k := 0x9C) (by decide)).symm) _ ?_) _ ?_) _ ?_)
    (DIR.event_block e) _ _) (DIR.event_block e) _ _ (DIR.g_ne_event e e g (k := 0x24) (by decide)).symm he
  all_goals
    refine Ne.symm (DIR.g_ne_event e e g ?_)
    decide

theorem DIR.event_lt (e : Eng) : DIR.event e.idx < 0xA0000 := by
  have := Eng.idx_lt e
  unfold DIR.event DIR.base
  omega

theorem State.popX_eng (s : State) (e g : Nat) :
    (s.popX e g).eng e g = { s.eng e g with xpath := (s.eng e g).xpath.drop 1 } := by
  rw [State.popX, State.updEng_eng_same]

@[simp] theorem State.popX_get (s : State) (e g : Nat) (f : Fld) : (s.popX e g).get f = s.get f := rfl

/-- Taking the message that stands first leaves the others. -/
theorem State.popX_of {e g : Nat} {x : XMsg} {r : List XMsg} (h : (s.eng e g).xpath = x :: r) :
    s.popX e g = s.updEng e g (fun y => { y with xpath := r }) := by
  unfold State.popX State.updEng
  simp only [h, List.drop_succ_cons, List.drop_zero]

theorem execCrossEngineSack_of {e : Eng} {g : Port} {n : Nat} {r : List XMsg} (h : (s.eng e.idx g).xpath = .sack n :: r) :
    exec (.crossEngineSack e g) s = .next ((s.popX e.idx g).takeSack e.idx g n) := by
  change execCrossEngineSack e g s = _
  simp only [execCrossEngineSack, h]

theorem execCrossEngineSnak_of {e : Eng} {g : Port} {first count : Nat} {back : Bool} {r : List XMsg}
    (h : (s.eng e.idx g).xpath = .snak first count back :: r) :
    exec (.crossEngineSnak e g) s = .next ((s.popX e.idx g).takeSnak e.idx g first count back) := by
  change execCrossEngineSnak e g s = _
  simp only [execCrossEngineSnak, h]

/-- A replay request comes behind an abandon that overtakes it (R157). -/
def EngPort.overtaken (x : EngPort) (first : Nat) : Bool := match x.outAbandon with
  | some a => seqFrom first a
  | none => false

theorem State.popX_overtaken (s : State) (e g first : Nat) :
    ((s.popX e g).eng e g).overtaken first = (s.eng e g).overtaken first := by
  rw [State.popX_eng]
  rfl

/-! What a SNAK does where some SEQ is left to replay: it is only taken, refused, or queued (R157). -/

section
variable {e g first count : Nat} {back : Bool} {q : Nat} {w : List Nat}

theorem State.takeSnak_of (hrange : (snakRange (s.get (DIR.txNext e g)) first count back).filter
      (fun x => seqAfter x (s.get (DIR.sackIn e g))) = q :: w)
    (hov : s.get (DIR.inState e g) = 2 → (s.eng e g).overtaken first = false) :
    s.takeSnak e g first count back =
      if (q :: w).any (fun x => seqFrom x (s.get (DIR.txNext e g))) then (s.count (DIR.snakBad e g)).raise (DIR.event e) 7
      else if 8 ≤ (s.eng e g).queue.length then
        s.abandonAt e g (lowestSeq q ((s.eng e g).queue.map (fun x => x.1))) 5
      else ((s.updEng e g (fun x => { x with queue := x.queue ++ [(q, w.length + 1)] })).noteRetry e g).count (DIR.snakIn e g) := by
  have hnot : ¬ ((decide (s.get (DIR.inState e g) = inAbandoned) && (s.eng e g).overtaken first) = true) := fun h => by
    rw [Bool.and_eq_true, decide_eq_true_iff] at h
    exact absurd h.2 (by rw [hov h.1]; decide)
  unfold State.takeSnak
  simp only [hrange]
  exact if_neg hnot

theorem State.takeSnak_idle (h : (snakRange (s.get (DIR.txNext e g)) first count back).filter
      (fun x => seqAfter x (s.get (DIR.sackIn e g))) = [] ∨
      (s.get (DIR.inState e g) = 2 ∧ (s.eng e g).overtaken first = true)) : s.takeSnak e g first count back = s := by
  cases hrange : (snakRange (s.get (DIR.txNext e g)) first count back).filter (fun x => seqAfter x (s.get (DIR.sackIn e g))) with
  | nil =>
    unfold State.takeSnak
    simp only [hrange]
  | cons q w =>
    obtain ⟨hst, hov⟩ := h.resolve_left (by simp [hrange])
    unfold State.takeSnak
    simp only [hrange]
    exact if_pos (Bool.and_eq_true_iff.mpr ⟨decide_eq_true hst, hov⟩)

end

/-- Settles O25. -/
theorem acknowledgementsAndReplayRequests : Obligations.AcknowledgementsAndReplayRequests := by
  refine ⟨?_, ?_, ?_, ?_, ?_, ?_, ?_, ?_, ?_, ?_, ?_, ?_, ?_, ?_⟩
  · intro s e g hf hst htm hc hl
    have hr : ∀ k lo len, k % 0x100 ≠ 8 → (s.raise (DIR.event e.idx) 15).get ⟨DIR.g e.idx g + k, lo, len⟩ =
        s.get ⟨DIR.g e.idx g + k, lo, len⟩ := fun k lo len hk => State.get_raise _ _ _ (DIR.g_block _ _ _) (DIR.g_ne_event _ _ _ hk)
    have hcs := hr 0x18 26 2 (by decide)
    refine ⟨_, congrArg Host.Outcome.next ((if_pos (by simp [hf, hst, htm, inWait])).trans ((if_pos (hcs.trans_lt hc)).trans
      (if_pos ((congrArg (decide <| · ≠ 0) (hr 4 0 1 (by decide))).trans hl)))), State.sendSnak_inState .., ?_, ?_, ?_, State.sendSnak_timer .., ?_, ?_⟩
    · rw [State.sendSnak_cSnak, show (s.raise (DIR.event e.idx) 15).get (DIR.cSnak e.idx g) = s.get (DIR.cSnak e.idx g) from hcs]
      omega
    · exact State.sendSnak_event_of (State.raise_bit _ _ (DIR.event_block _) (by decide)) _ _
    · rw [State.sendSnak_ins, State.raise_eng]
    · rw [State.sendSnak_snakOut]
      simp -implicitDefEqProofs [DIR.snakOut]
    · exact .sendSnak (.raise (.refl ..) _ (by simp)) _ _ _ (fun _ _ _ => rfl) (by simp [DIR.inState]) (by simp [DIR.snakOut])
        (by simp [DIR.snakOut]) (by simp)
  · intro s e g hf hst htm hc hl
    have hr : ∀ k lo len, k % 0x100 ≠ 8 → (s.raise (DIR.event e.idx) 15).get ⟨DIR.g e.idx g + k, lo, len⟩ =
        s.get ⟨DIR.g e.idx g + k, lo, len⟩ := fun k lo len hk => State.get_raise _ _ _ (DIR.g_block _ _ _) (DIR.g_ne_event _ _ _ hk)
    refine ⟨_, congrArg Host.Outcome.next ((if_pos (by simp [hf, hst, htm, inWait])).trans ((if_pos ((hr 0x18 26 2 (by decide)).trans_lt hc)).trans
      (if_neg fun h => Bool.eq_false_iff.mp hl (((congrArg (decide <| · ≠ 0) (hr 4 0 1 (by decide))).symm.trans h))))),
      State.raise_bit _ _ (DIR.event_block _) (by decide), .raise (.refl ..) _ (by simp)⟩
  · intro s e g hf hst htm hc
    have hr : ∀ k lo len, k % 0x100 ≠ 8 → (s.raise (DIR.event e.idx) 15).get ⟨DIR.g e.idx g + k, lo, len⟩ =
        s.get ⟨DIR.g e.idx g + k, lo, len⟩ := fun k lo len hk => State.get_raise _ _ _ (DIR.g_block _ _ _) (DIR.g_ne_event _ _ _ hk)
    have hrx := hr 0x18 0 12 (by decide)
    have hlt : (s.raise (DIR.event e.idx) 15).get (DIR.rxNext e.idx g) < 4096 := State.get_lt ..
    obtain ⟨h1, h2, h3, h4, h5, h6⟩ := (s.raise (DIR.event e.idx) 15).abandonAt_regs e g hlt (show 6 < 16 by decide)
    refine ⟨_, congrArg Host.Outcome.next ((if_pos (by simp [hf, hst, htm, inWait])).trans (if_neg (by
      rw [show (s.raise (DIR.event e.idx) 15).get (DIR.cSnak e.idx g) = _ from hr 0x18 26 2 (by decide)]; exact Nat.not_lt.mpr hc.ge))),
      h1, h2.trans hrx, h3.trans hrx, h4, h5, ?_, h6.trans ?_, ?_, ?_, ?_⟩
    · rw [State.abandonAt_eq, State.drainCheck_eng, State.noteAbandon_eng, State.cutFrom_timer]
    · simp -implicitDefEqProofs [DIR.abandon]
    · rw [State.abandonAt_eq]
      exact State.drainCheck_event_of (State.raise_bit _ _ (DIR.event_block _) (by decide)) (DIR.event_block _) _ _
        (DIR.g_ne_event e.idx e.idx g (k := 0x24) (by decide)).symm (by have := DIR.event_lt e; omega)
    · exact State.abandonAt_event_of (State.raise_bit _ _ (DIR.event_block _) (by decide)) (by have := DIR.event_lt e; omega) _ _
    · exact .abandonAt (.raise (.refl ..) _ (by simp)) _ _ _ _ (fun _ _ _ => rfl)
        (by simp [DIR.inState, DIR.backlog, DIR.abnFirst, DIR.deferLeft, DIR.abandon]) (by simp) (by simp) (by simp)
  · intro s e g hf hacc hidle hins
    refine ⟨_, congrArg Host.Outcome.next (if_pos (by simp [hf, hacc, hidle]; simpa using hins)), ?_, rfl⟩
    rw [State.updEng_eng_same]
  · intro s e g h
    refine congrArg Host.Outcome.next (if_neg ?_)
    rcases h with h | h | h | h
    · simp [h]
    · simp [h]
    · simp [h]
    · rw [h]; simp
  · intro s e g n r hx hn hft hsa
    refine ⟨_, (execCrossEngineSack_of hx).trans (congrArg Host.Outcome.next ((if_neg (by simpa using hft)).trans
      (if_pos (by simpa using hsa)))), ?_, ?_, ?_, ?_⟩
    · rw [State.get_put_same _ _ _ (show 16 + 12 ≤ 32 by decide)]
      exact Nat.mod_eq_of_lt hn
    · rw [State.put_eng, State.updEng_eng_same, State.popX_eng, hx]
      rfl
    · rw [State.put_eng, State.updEng_eng_same, State.popX_eng]
    · exact .put (.updEng (.updEng (.refl ..) _ _ _ fun _ => rfl) _ _ _ fun _ => rfl) _ (.inr (by simp))
  · intro s e g n r hx hft
    refine ⟨_, (execCrossEngineSack_of hx).trans (congrArg Host.Outcome.next (if_pos (by simpa using hft))), ?_,
      State.raise_bit _ _ (DIR.event_block _) (by decide), .raise (.updEng (.refl ..) _ _ _ fun _ => rfl) _ (by simp)⟩
    rw [State.raise_eng, State.popX_eng, hx]
    rfl
  · intro s e g n r hx hft hsa
    refine (execCrossEngineSack_of hx).trans (congrArg Host.Outcome.next ((if_neg (by simp [hft])).trans
      ((if_neg (by simp [hsa])).trans ?_)))
    rw [State.popX_of hx]
  · intro s e g first count back r q l hx hov hrange hall hlen
    have hqueue : ((s.popX e.idx g).eng e.idx g).queue = (s.eng e.idx g).queue := by rw [State.popX_eng]
    have hstep := (State.takeSnak_of (s := s.popX e.idx g) hrange (State.popX_overtaken s e.idx g first ▸ hov)).trans
      ((if_neg (by simpa using hall)).trans (if_neg (by rw [hqueue]; exact Nat.not_le.mpr hlen)))
    refine ⟨_, (execCrossEngineSnak_of hx).trans (congrArg Host.Outcome.next hstep), ?_, ?_, ?_, ?_, ?_⟩
    · simp -implicitDefEqProofs [State.noteRetry, hqueue]
    · simp -implicitDefEqProofs [State.noteRetry, State.popX_eng, hx]
    · simp -implicitDefEqProofs [State.noteRetry, DIR.rplq, DIR.snakIn, DIR.replaying, State.get_put_same, hqueue]
      omega
    · simp -implicitDefEqProofs [State.noteRetry, DIR.rplq, DIR.snakIn, DIR.replaying, DIR.backlog, State.counter_count, State.popX]
    · refine .count (.noteRetry (.updEng (.updEng (.refl ..) _ _ _ fun _ => rfl) _ _ _ fun _ => rfl) _ _ ?_ ?_) ?_ ?_ <;>
        simp [DIR.replaying, DIR.rplq]
  · intro s e g first count back r hx h
    refine (execCrossEngineSnak_of hx).trans (congrArg Host.Outcome.next ((State.takeSnak_idle ?_).trans (State.popX_of hx)))
    exact h.imp id fun ⟨hst, hov⟩ => ⟨hst, (State.popX_overtaken s e.idx g first).trans hov⟩
  · intro s e g first count back r q l hx hov hrange hbad
    have hstep := (State.takeSnak_of (s := s.popX e.idx g) hrange (State.popX_overtaken s e.idx g first ▸ hov)).trans
      (if_pos (by simpa using hbad))
    refine ⟨_, (execCrossEngineSnak_of hx).trans (congrArg Host.Outcome.next hstep), ?_, ?_, State.raise_bit _ _ (DIR.event_block _) (by decide), ?_⟩
    · simp -implicitDefEqProofs [State.popX_eng, hx]
    · simp -implicitDefEqProofs [DIR.snakBad, State.counter_count, State.popX]
    · refine .raise (.count (.updEng (.refl ..) _ _ _ fun _ => rfl) ?_ ?_) _ ?_ <;> simp
  · intro s e g first count back r q l hx hov hrange hall hlen
    have hqueue : ((s.popX e.idx g).eng e.idx g).queue = (s.eng e.idx g).queue := by rw [State.popX_eng]
    have hstep := (State.takeSnak_of (s := s.popX e.idx g) hrange (State.popX_overtaken s e.idx g first ▸ hov)).trans
      ((if_neg (by simpa using hall)).trans (if_pos (by rw [hqueue]; exact hlen)))
    rw [hqueue, State.popX_of hx] at hstep
    rw [execCrossEngineSnak_of hx, State.popX_of hx, hstep]
  · intro s e g h
    exact congrArg Host.Outcome.next (if_neg (by rcases h with h | h | h <;> simp [h, inWait]))
  · intro s e g h
    change execCrossEngineSack e g s = _ ∧ execCrossEngineSnak e g s = _
    constructor
    · rw [execCrossEngineSack, h]
    · rw [execCrossEngineSnak, h]

end Sys2Proof.Machine
end

section
/-! PROOFS. Agreements about lane maps: their flits, and the end of a change that fails (R175 to R179). -/

namespace Sys2Proof.Machine

variable {s t : State} {m : State → State} {l : List Nat} {g sd : Nat}

/-! The parts of a change. -/

theorem State.partOf_of_change {c : Change} (h : (s.port g).change = some c) :
    s.partOf g sd = c.parts.find? (fun p => decide (p.side = sd)) := by
  simp only [State.partOf, h]

theorem State.partOf_side {p : Part} (h : s.partOf g sd = some p) : p.side = sd := by
  unfold State.partOf at h
  split at h
  · simpa using List.find?_some h
  · cases h

theorem find?_map_side {f : Part → Part} (hf : ∀ x, (f x).side = x.side) (l : List Part) :
    (l.map (fun p => if p.side = sd then f p else p)).find? (fun p => decide (p.side = sd)) =
      (l.find? (fun p => decide (p.side = sd))).map f := by
  induction l with
  | nil => rfl
  | cons p l ih =>
    by_cases h : p.side = sd
    · simp [h, hf]
    · simp [h, ih]

/-- An update of one side's part shows in that part. -/
theorem State.updPart_partOf {c : Change} (h : (s.port g).change = some c) {f : Part → Part} (hf : ∀ x, (f x).side = x.side) :
    (s.updPart g sd f).partOf g sd = (s.partOf g sd).map f := by
  have hport : ((s.updPart g sd f).port g).change = some { c with parts := c.parts.map (fun p => if p.side = sd then f p else p) } := by
    rw [State.updPart, State.updPort_port_same, h]
    rfl
  rw [State.partOf_of_change hport, State.partOf_of_change h]
  exact find?_map_side hf _

/-! The failure of a change (R178). -/

/-- A change that has failed, before the task that it served goes on. -/
def State.changeDropped (s : State) (g : Nat) (c : Change) : State :=
  ((s.each c.parts (fun p t => t.partFails g p)).updPort g (fun r => { r with change := none })).raise GLB.event 11

theorem State.changeFail_of {c : Change} (h : (s.port g).change = some c) :
    s.changeFail g = ((((if c.parts.any (fun p => p.tx) then (s.changeDropped g c).noteWidth g else s.changeDropped g c).jobMapFailed g
      c.width).endTaken g).jobsRun).settlePower.settleCauses := by
  unfold State.changeFail
  simp only [h]
  rfl

theorem Framed.partFails (h : Framed m l s t) (g : Nat) (p : Part) (hm : ∀ (x : State) sd f, m (x.updSeg g sd 0 f).base = m x.base)
    (hl : GLB.lmap g p.side ∈ l) : Framed m l s (t.partFails g p) := by
  unfold State.partFails
  extract_lets rx u
  have hu : Framed m l s u := by
    unfold u
    split
    · exact .updSeg (.setReg h _ (.inr hl)) _ _ _ _ fun _ => hm ..
    · exact h
  exact hu.updSeg _ _ _ _ fun _ => hm ..

theorem Framed.changeDropped (h : Framed m l s t) (g : Nat) (c : Change) (hm : ∀ (x : State) sd f, m (x.updSeg g sd 0 f).base = m x.base)
    (hm' : ∀ (x : State) f, m (x.updPort g f).base = m x.base) (hl : ∀ p ∈ c.parts, GLB.lmap g p.side ∈ l) (he : GLB.event ∈ l) :
    Framed m l s (t.changeDropped g c) :=
  .raise (.updPort (.each h fun p hp _ hu => hu.partFails g p hm (hl p hp)) _ _ fun _ => hm' ..) _ he

theorem State.changeDropped_change (s : State) (g : Nat) (c : Change) : ((s.changeDropped g c).port g).change = none := by
  rw [State.changeDropped, State.raise_port, State.updPort_port_same]

theorem State.changeDropped_event (s : State) (g : Nat) (c : Change) : ((s.changeDropped g c).reg GLB.event).getLsbD 11 = true :=
  State.raise_bit _ _ (by decide) (by decide)

/-! The flits of an agreement. -/

theorem outEngine_ne_inEngine (sd g : Nat) : 4 * inEngine sd + g ≠ 4 * outEngine sd + g := by
  unfold inEngine outEngine
  split <;> omega

/-- The LANEMAP flit that stands first is taken by the command of its operation. -/
theorem State.lanemapIn_of {w : BitVec 64} {r : List (BitVec 64)} {op : Nat} (h : (s.eng (inEngine sd) g).mapq = w :: r)
    (hop : lmOp w = op) : s.lanemapIn g sd op = some w := by
  simp only [State.lanemapIn, h]
  exact if_pos hop

theorem State.popLanemap_mapq {w : BitVec 64} {r : List (BitVec 64)} (h : (s.eng (inEngine sd) g).mapq = w :: r) :
    ((s.popLanemap g sd).eng (inEngine sd) g).mapq = r := by
  rw [State.popLanemap, State.updEng_eng_same, h]
  rfl

theorem State.popLanemap_other (s : State) (g sd : Nat) : (s.popLanemap g sd).eng (outEngine sd) g = s.eng (outEngine sd) g :=
  s.updEng_eng_ne _ (outEngine_ne_inEngine sd g).symm

theorem State.queueLanemap_ins (s : State) (g sd w : Nat) :
    ((s.queueLanemap g sd w).eng (outEngine sd) g).ins = (s.eng (outEngine sd) g).ins ++ [.lanemap (BitVec.ofNat 64 w)] := by
  rw [State.queueLanemap, State.updEng_eng_same]

theorem State.queueLanemap_other (s : State) (g sd w : Nat) :
    (s.queueLanemap g sd w).eng (inEngine sd) g = s.eng (inEngine sd) g := s.updEng_eng_ne _ (outEngine_ne_inEngine sd g)

theorem State.queueLanemap_partOf (s : State) (g sd w g' sd' : Nat) : (s.queueLanemap g sd w).partOf g' sd' = s.partOf g' sd' := rfl

/-- The REFUSE that answers a PROPOSE (R176). -/
def refuseOf (w : BitVec 64) : Nat := lanemapWord 2 (lmSeg w) (lmWidth w) (lmSrc w) 0 (lmId w)

theorem State.proposed_eq (s : State) (g sd : Nat) (w : BitVec 64) : s.proposed g sd w =
    if s.ownChange g sd || decide (lmSeg w ≠ sd) || !s.askValid g sd (widthLanes (lmWidth w)) (lmSrc w) then
      s.queueLanemap g sd (refuseOf w)
    else ((s.queueLanemap g sd (refuseOf w)).pushJob g { Job.blank .asked sd 0 with
      src := lmSrc w, width := widthLanes (lmWidth w) }).goOn := rfl

/-! What an answer, a notice and the timer of a proposal do, with a change in progress that includes the segment. -/

section
variable {c : Change} {p : Part} (hc : (s.port g).change = some c) (hp : s.partOf g sd = some p)
include hc hp

theorem State.answered'_of (w : BitVec 64) (accept : Bool) : s.answered' g sd w accept =
    if lmId w ≠ c.id then s
    else if accept = true ∧ lmSrc w = p.src ∧ lmWidth w = widthCode c.width then s.updPart g sd (fun x => { x with acc := true })
    else (s.changeFail g).goOn := by
  simp only [State.answered', hc, hp]

theorem State.noticed_of (w : BitVec 64) : s.noticed g sd w =
    if c.kind = .move ∧ lmSeg w = sd ∧ lmSrc w = p.src ∧ lmWidth w = widthCode c.width then
      s.updPort g (fun r => { r with change := some { c with told := true } })
    else s := by
  simp only [State.noticed, hc, hp]

theorem State.proposeAgain_of : s.proposeAgain g sd =
    if p.acc ∨ s.fMode g = false then s
    else if p.sends < 8 then (s.updPart g sd (fun x => { x with sends := x.sends + 1 })).sendPropose g c p
    else (s.changeFail g).goOn := by
  simp only [State.proposeAgain, hc, hp]

end

theorem State.changeDropped_eng (s : State) (g : Nat) (c : Change) (e g' : Nat) : (s.changeDropped g c).eng e g' = s.eng e g' := by
  rw [State.changeDropped, State.raise_eng, State.updPort_eng]
  refine State.apply_each (fun t => t.eng e g') (fun p _ t => ?_) s
  unfold State.partFails
  split <;> rfl

theorem execLanemapPropose_of {g : Port} {sd : Side} {w : BitVec 64} {r : List (BitVec 64)}
    (h : (s.eng (inEngine sd.idx) g).mapq = w :: r) (hop : lmOp w = 0) (hf : s.fMode g = true) :
    exec (.lanemapPropose g sd) s = .next ((s.popLanemap g sd.idx).proposed g sd.idx w) := by
  change execLanemapPropose g sd s = _
  simp only [execLanemapPropose, State.lanemapIn_of h hop, hf, State.when_true]

theorem execLanemapAccept_of {g : Port} {sd : Side} {w : BitVec 64} {r : List (BitVec 64)} {c : Change} {p : Part}
    (h : (s.eng (inEngine sd.idx) g).mapq = w :: r) (hop : lmOp w = 1) (hf : s.fMode g = true)
    (hc : (s.port g).change = some c) (hp : s.partOf g sd.idx = some p) :
    exec (.lanemapAccept g sd) s = .next (if lmId w ≠ c.id then s.popLanemap g sd.idx
      else if true = true ∧ lmSrc w = p.src ∧ lmWidth w = widthCode c.width then
        (s.popLanemap g sd.idx).updPart g sd.idx (fun x => { x with acc := true })
      else ((s.popLanemap g sd.idx).changeFail g).goOn) := by
  have hpop := State.answered'_of (s := s.popLanemap g sd.idx) hc hp w true
  change execLanemapAccept g sd s = _
  rw [execLanemapAccept, State.lanemapIn_of h hop]
  exact congrArg Host.Outcome.next ((State.when_true _ hf).trans hpop)

theorem execLanemapRefuse_of {g : Port} {sd : Side} {w : BitVec 64} {r : List (BitVec 64)} {c : Change} {p : Part}
    (h : (s.eng (inEngine sd.idx) g).mapq = w :: r) (hop : lmOp w = 2) (hf : s.fMode g = true)
    (hc : (s.port g).change = some c) (hp : s.partOf g sd.idx = some p) (hid : lmId w = c.id) :
    exec (.lanemapRefuse g sd) s = .next ((s.popLanemap g sd.idx).changeFail g).goOn := by
  have hpop := (State.answered'_of (s := s.popLanemap g sd.idx) hc hp w false).trans
    ((if_neg (not_not.mpr hid)).trans (if_neg fun h => absurd h.1 (by decide)))
  change execLanemapRefuse g sd s = _
  rw [execLanemapRefuse, State.lanemapIn_of h hop]
  exact congrArg Host.Outcome.next ((State.when_true _ hf).trans hpop)

theorem execLanemapNotice_of {g : Port} {sd : Side} {w : BitVec 64} {r : List (BitVec 64)} {c : Change} {p : Part}
    (h : (s.eng (inEngine sd.idx) g).mapq = w :: r) (hop : lmOp w = 3) (hpers : s.pers g = 1)
    (hc : (s.port g).change = some c) (hp : s.partOf g sd.idx = some p) :
    exec (.lanemapNotice g sd) s = .next (if c.kind = .move ∧ lmSeg w = sd.idx ∧ lmSrc w = p.src ∧ lmWidth w = widthCode c.width then
        (s.popLanemap g sd.idx).updPort g (fun r => { r with change := some { c with told := true } })
      else s.popLanemap g sd.idx) := by
  have hpop := State.noticed_of (s := s.popLanemap g sd.idx) hc hp w
  change execLanemapNotice g sd s = _
  rw [execLanemapNotice, State.lanemapIn_of h hop]
  exact congrArg Host.Outcome.next ((State.when_true _ (decide_eq_true hpers)).trans hpop)

/-- Settles O22. -/
theorem lanemapAgreements : Obligations.LanemapAgreements := by
  refine ⟨?_, ?_, ?_, ?_, ?_, ?_, ?_, ?_, ?_, ?_, ?_⟩
  · intro s g sd w r hq hop hf h
    refine ⟨_, (execLanemapPropose_of hq hop hf).trans (congrArg Host.Outcome.next ((State.proposed_eq ..).trans (if_pos ?_))), ?_, ?_, rfl⟩
    · rw [show (s.popLanemap g sd.idx).ownChange g sd.idx = s.ownChange g sd.idx from rfl,
        show (s.popLanemap g sd.idx).askValid g sd.idx (widthLanes (lmWidth w)) (lmSrc w) =
          s.askValid g sd.idx (widthLanes (lmWidth w)) (lmSrc w) from rfl]
      rcases h with h | h | h <;> simp [h]
    · rw [State.queueLanemap_other, State.popLanemap_mapq hq]
    · rw [State.queueLanemap_ins, State.popLanemap_other]
      rfl
  · intro s g sd w r hq hop hf hown hseg hask
    refine ⟨_, (execLanemapPropose_of hq hop hf).trans (congrArg Host.Outcome.next ((State.proposed_eq ..).trans (if_neg ?_))), ?_, ?_, ?_, rfl⟩
    · rw [show (s.popLanemap g sd.idx).ownChange g sd.idx = s.ownChange g sd.idx from rfl,
        show (s.popLanemap g sd.idx).askValid g sd.idx (widthLanes (lmWidth w)) (lmSrc w) =
          s.askValid g sd.idx (widthLanes (lmWidth w)) (lmSrc w) from rfl]
      simp [hown, hseg, hask]
    · rw [State.pushJob, State.updPort_eng, State.queueLanemap_other, State.popLanemap_mapq hq]
    · rw [State.pushJob, State.updPort_eng, State.queueLanemap_ins, State.popLanemap_other]
      rfl
    · rw [State.pushJob, State.updPort_port_same]
      rfl
  · intro s g sd w r c p hq hop hf hc hp
    have hexec := execLanemapAccept_of hq hop hf hc hp
    have hmapq := State.popLanemap_mapq hq
    by_cases hid : lmId w = c.id
    · by_cases hmap : lmSrc w = p.src ∧ lmWidth w = widthCode c.width
      · refine ⟨_, hexec.trans (congrArg Host.Outcome.next ((if_neg (not_not.mpr hid)).trans ((if_pos ⟨rfl, hmap⟩).trans
          (if_neg fun h => h.2 hmap).symm))), hmapq, fun _ _ _ => ?_, fun h => absurd hid h, rfl⟩
        refine (State.updPart_partOf (s := s.popLanemap g sd.idx) hc ?_).trans (congrArg (Option.map _) hp)
        exact fun _ => rfl
      · exact ⟨_, hexec.trans (congrArg Host.Outcome.next ((if_neg (not_not.mpr hid)).trans ((if_neg fun h => hmap h.2).trans
          (if_pos ⟨hid, hmap⟩).symm))), hmapq, fun _ h1 h2 => absurd ⟨h1, h2⟩ hmap, fun h => absurd hid h, rfl⟩
    · exact ⟨_, hexec.trans (congrArg Host.Outcome.next ((if_pos hid).trans (if_neg fun h => hid h.1).symm)), hmapq,
        fun h => absurd h hid, fun _ => rfl, rfl⟩
  · intro s g sd w r c p hq hop hf hc hp hid
    refine ⟨(s.popLanemap g sd.idx).changeDropped g c, (execLanemapRefuse_of hq hop hf hc hp hid).trans ?_, ?_,
      State.changeDropped_change .., State.changeDropped_event .., ?_⟩
    · rw [State.changeFail_of (s := s.popLanemap g sd.idx) hc]
    · rw [State.changeDropped_eng, State.popLanemap_mapq hq]
    · exact .changeDropped (.updEng (.refl ..) _ _ _ fun _ => rfl) _ _ (fun _ _ _ => rfl) (fun _ _ => rfl)
        (fun q hq => by simpa using .inr ⟨q, hq, rfl⟩) (by simp)
  · intro s g sd w r c p hq hop hpers hc hp hk hseg hsrc hw
    refine ⟨_, (execLanemapNotice_of hq hop hpers hc hp).trans (congrArg Host.Outcome.next (if_pos ⟨hk, hseg, hsrc, hw⟩)),
      State.popLanemap_mapq hq, ?_, rfl⟩
    rw [State.updPort_port_same]
  · intro s g sd c p hc hp hacc hf hs
    have hside := State.partOf_side hp
    refine ⟨_, congrArg Host.Outcome.next ((State.proposeAgain_of hc hp).trans ((if_neg (by simp [hacc, hf])).trans (if_pos hs))), ?_, ?_, rfl⟩
    · refine (State.queueLanemap_partOf ..).trans ((State.updPart_partOf hc ?_).trans (congrArg (Option.map _) hp))
      exact fun _ => rfl
    · exact State.queueLanemap_ins ..
  · intro s g sd c p hc hp hacc hf hs
    refine ⟨s.changeDropped g c, (congrArg Host.Outcome.next ((State.proposeAgain_of hc hp).trans ((if_neg (by simp [hacc, hf])).trans
      (if_neg (Nat.not_lt.mpr hs))))).trans ?_, State.changeDropped_change .., State.changeDropped_event .., ?_⟩
    · rw [State.changeFail_of hc]
    · exact .changeDropped (.refl ..) _ _ (fun _ _ _ => rfl) (fun _ _ => rfl) (fun q hq => by simpa using .inr ⟨q, hq, rfl⟩) (by simp)
  · intro s g sd h
    change execLanemapPropose g sd s = _
    simp only [execLanemapPropose, h]
  · intro s g sd h
    change execLanemapAccept g sd s = _
    simp only [execLanemapAccept, h]
  · intro s g sd h
    change execLanemapRefuse g sd s = _
    simp only [execLanemapRefuse, h]
  · intro s g sd h
    change execLanemapNotice g sd s = _
    simp only [execLanemapNotice, h]

end Sys2Proof.Machine
end

section
/-! PROOFS. The switch of the transmitters to an agreed map, the timers of map changes, and an escalation that is tried again
(R175 to R179, R186). -/

namespace Sys2Proof.Machine

variable {s t : State} {m : State → State} {l : List Nat} {g sd : Nat}

theorem Framed.settleSpares (h : Framed m l s t) (hl : 0x1C4 ∈ l) : Framed m l s t.settleSpares := by
  refine .each h fun x _ u hu => ?_
  have hput : ∀ v, Framed m l s (u.put (GLB.spareStat x.1 x.2) v) := fun v => hu.put v (.inr hl)
  unfold State.spareComing
  extract_lets f
  split
  · exact hu
  · split
    · exact hput 5
    · split <;> exact hput _

/-- Beside GLB_SPARE the settling of the spares leaves the state alone. -/
theorem State.settleSpares_sameRegs (s : State) : SameButRegs s s.settleSpares := by
  refine .each (.refl s) fun x _ u => ?_
  extract_lets f
  split
  · exact .refl u
  · split
    · exact .put (.refl u) _ _
    · split <;> exact .put (.refl u) _ _

/-- What a part's transmitters do at the switch, before the spares settle (R175). -/
def State.switchPart (s : State) (g sd : Nat) (p : Part) : State :=
  (((s.noteFormer g sd (s.mapOf g sd) p.map).updSeg g sd 0 (fun x => { x with
    txMap := if s.regMapOf g sd = p.map then [] else p.map })).updEng (outEngine sd) g newPeriod).updPart g sd
      (fun x => { x with tx := true })

theorem State.switchTx_of {p : Part} (h : s.partOf g sd = some p) :
    s.switchTx g sd = ((s.switchPart g sd p).settleSpares.changeCheck g).settlePower := by
  simp only [State.switchTx, h]
  rfl

theorem State.settleSpares_partOf (s : State) (g sd : Nat) : s.settleSpares.partOf g sd = s.partOf g sd := by
  rw [s.settleSpares_sameRegs]
  rfl

theorem State.settleSpares_eng (s : State) (e g : Nat) : s.settleSpares.eng e g = s.eng e g := by
  rw [s.settleSpares_sameRegs]
  rfl

theorem State.settleSpares_seg (s : State) (g sd k : Nat) : s.settleSpares.seg g sd k = s.seg g sd k := by
  rw [s.settleSpares_sameRegs]
  rfl

theorem State.settleSpares_laneCode (s : State) (g : Port) (sd : Side) (n : Nat) :
    s.settleSpares.laneCode g sd.idx n = s.laneCode g sd.idx n := by
  have hg := g.isLt
  have hsd := Side.idx_lt sd
  have hreg : s.settleSpares.regCode g sd.idx n = s.regCode g sd.idx n :=
    Framed.get (m := fun _ => s) (l := [0x1C4]) (.settleSpares (.refl ..) (by simp)) (by simp only [GLB.lane, GLB.lmap]; omega)
      (by simp only [GLB.lane, GLB.lmap, List.mem_singleton]; omega)
  unfold State.laneCode
  rw [State.settleSpares_seg, hreg]

theorem State.switchPart_partOf {p : Part} (h : s.partOf g sd = some p) :
    (s.switchPart g sd p).partOf g sd = some { p with tx := true } := by
  obtain ⟨c, hc⟩ : ∃ c, (s.port g).change = some c := by
    cases hc : (s.port g).change with
    | none => simp [State.partOf, hc] at h
    | some c => exact ⟨c, rfl⟩
  unfold State.switchPart
  generalize hu : ((s.noteFormer g sd (s.mapOf g sd) p.map).updSeg g sd 0 _).updEng (outEngine sd) g newPeriod = u
  have hport : u.port g = (s.noteFormer g sd (s.mapOf g sd) p.map).port g := by rw [← hu]; rfl
  have hchange : (u.port g).change = (s.port g).change := by rw [hport, State.noteFormer, State.updPort_port_same]
  have hpart : u.partOf g sd = s.partOf g sd := by unfold State.partOf; rw [hchange]
  rw [State.updPart_partOf (hchange.trans hc), hpart, h]
  · rfl
  · exact fun _ => rfl

theorem Framed.switchPart (h : Framed m l s t) (g sd : Nat) (p : Part) (hp : ∀ (x : State) f, m (x.updPort g f).base = m x.base)
    (hs : ∀ (x : State) f, m (x.updSeg g sd 0 f).base = m x.base) (he : ∀ (x : State) e f, m (x.updEng e g f).base = m x.base) :
    Framed m l s (t.switchPart g sd p) :=
  .updPort (.updEng (.updSeg (.updPort h _ _ fun _ => hp ..) _ _ _ _ fun _ => hs ..) _ _ _ fun _ => he ..) _ _ fun _ => hp ..

theorem State.map_ne_nil_of_txMaySwitch {p : Part} (h : s.partOf g sd = some p) (hmay : s.txMaySwitch g sd = true) : p.map ≠ [] := by
  unfold State.txMaySwitch at hmay
  rw [h] at hmay
  rintro hnil
  cases hc : (s.port g).change <;> simp [hc, hnil] at hmay

/-- After the switch the lanes follow the part's map: the one that GLB_LMAP holds, or one of the segment's own. -/
theorem State.switchPart_laneCode {p : Part} (hmap : p.map ≠ []) {n : Nat} (hn : n < 8) :
    (s.switchPart g sd p).laneCode g sd n = p.map.getD n 15 := by
  have htx : ((s.switchPart g sd p).seg g sd 0).txMap = if s.regMapOf g sd = p.map then [] else p.map := by
    rw [State.switchPart, State.updPart, State.updPort_seg, State.updEng_seg, State.updSeg_seg_same]
  have hreg : (s.switchPart g sd p).regCode g sd n = s.regCode g sd n := rfl
  unfold State.laneCode
  by_cases h : s.regMapOf g sd = p.map
  · rw [htx, hreg, if_pos h, ← h, State.regMapOf, List.getD_eq_getElem _ _ (by simpa using hn)]
    simp
  · rw [htx, if_neg h]
    split
    · exact absurd ‹_› hmap
    · rfl

theorem execMapChangeTimeout_of {g : Port} {c : Change} (h : (s.port g).change = some c) :
    exec (.mapChangeTimeout g) s = .next (if s.fMode g && c.parts.any (fun p => p.acc) then (s.changeFail g).goOn else s) := by
  change execMapChangeTimeout g s = _
  simp only [execMapChangeTimeout, State.changeTimeout, h]

/-- Settles O23. -/
theorem mapChanges : Obligations.MapChanges := by
  refine ⟨?_, ?_, ?_, ?_, ?_, ?_, ?_, ?_⟩
  · intro s g sd p hp hmay
    refine ⟨(s.switchPart g sd.idx p).settleSpares, congrArg Host.Outcome.next ((State.when_true _ hmay).trans ?_), ?_, ?_, ?_, ?_⟩
    · rw [State.switchTx_of hp]
    · rw [State.settleSpares_partOf]
      exact State.switchPart_partOf hp
    · intro n hn
      rw [State.settleSpares_laneCode]
      exact State.switchPart_laneCode (State.map_ne_nil_of_txMaySwitch hp hmay) hn
    · rw [State.settleSpares_eng, State.switchPart, State.updPart, State.updPort_eng, State.updEng_eng_same]
      rfl
    · exact .settleSpares (.switchPart (.refl ..) _ _ _ (fun _ _ => rfl) (fun _ _ => rfl) fun _ _ _ => rfl) (by simp)
  · intro s g sd h
    exact congrArg Host.Outcome.next (State.when_false _ h)
  · intro s g c hc hf hacc
    refine ⟨s.changeDropped g c, (execMapChangeTimeout_of hc).trans ((congrArg Host.Outcome.next (if_pos (by simp [hf, hacc]))).trans ?_),
      State.changeDropped_change .., State.changeDropped_event .., ?_⟩
    · rw [State.changeFail_of hc]
    · exact .changeDropped (.refl ..) _ _ (fun _ _ _ => rfl) (fun _ _ => rfl) (fun q hq => by simpa using .inr ⟨q, hq, rfl⟩) (by simp)
  · intro s g h
    cases hc : (s.port g).change with
    | none =>
      change execMapChangeTimeout g s = _
      simp only [execMapChangeTimeout, State.changeTimeout, hc]
    | some c =>
      exact (execMapChangeTimeout_of hc).trans (congrArg Host.Outcome.next (if_neg (by rcases h c hc with h | h <;> simp [h])))
  · intro s g c hc hf
    refine ⟨s.changeDropped g c, (congrArg Host.Outcome.next (if_neg (by simp [hf]))).trans ?_,
      State.changeDropped_change .., State.changeDropped_event .., ?_⟩
    · rw [State.changeFail_of hc]
    · exact .changeDropped (.refl ..) _ _ (fun _ _ _ => rfl) (fun _ _ => rfl) (fun q hq => by simpa using .inr ⟨q, hq, rfl⟩) (by simp)
  · intro s g hf
    exact congrArg Host.Outcome.next (if_pos hf)
  · intro s g j r h
    refine ⟨(s.updPort g (fun x => { x with retry := r })).pushFront g j, ?_, ?_, ?_, rfl⟩
    · change execEscalationRetry g s = _
      simp only [execEscalationRetry, State.retryEscalation, h]
    · rw [State.pushFront, State.updPort_port_same, State.updPort_port_same]
    · rw [State.pushFront, State.updPort_port_same, State.updPort_port_same]
  · intro s g h
    change execEscalationRetry g s = _
    simp only [execEscalationRetry, State.retryEscalation, h]

end Sys2Proof.Machine
end

section
/-! PROOFS. How a descriptor of one unit starts: at the manager, refused in the safe state, and as one request to a
worker (R257, R281, R314). -/

namespace Sys2Proof.Machine

variable {s : State} {q idx ty : Nat} {op : Option Nat} {f : Flight}

/-! Nothing in flight there. -/

theorem State.starts_of_no_flight (h : s.flight q idx = none) : s.starts q idx ty op = none := by
  rw [State.starts, h, Option.filter_none]

theorem State.descOp_idle (h : s.starts q idx ty op = none) (image : List Byte) : s.descOp q idx ty op image = s := by
  rw [State.descOp, h]

theorem State.descReg_idle (h : s.starts q idx ty none = none) (own : Desc → State → State) (payload : Desc → List Byte) :
    s.descReg q idx ty own payload = s := by
  rw [State.descReg, h]

theorem State.descPlain_idle (h : s.starts q idx ty none = none) : s.descPlain q idx ty = s := by
  rw [State.descPlain, h]

theorem State.descQuench_idle {n : Nat} (h : s.starts q idx 0x0D (some n) = none) : s.descQuench q idx n = s := by
  rw [State.descQuench, h]

theorem State.noteTeleCq_idle (h : s.starts q idx 0x08 none = none) : s.noteTeleCq q idx = s := by
  rw [State.noteTeleCq, h]

theorem State.noteTeleCq_here (h : s.starts q idx 0x08 none = some f) (ht : dTarget f.desc = 0) : s.noteTeleCq q idx = s := by
  rw [State.noteTeleCq, h]
  exact if_pos (.inl ht)

/-! A descriptor that starts. -/

theorem State.stage_of_starts (h : s.starts q idx ty op = some f) : f.stage ≠ .answered := by
  obtain ⟨-, hpass⟩ := Option.filter_eq_some_iff.mp h
  have hstage : f.stage = .held := by
    simp only [State.mayStart, Bool.and_eq_true, decide_eq_true_eq] at hpass
    exact hpass.2.1.1.1.1.1
  simp [hstage]

theorem State.answerOf_of_starts (h : s.starts q idx ty op = some f) (status result src : Nat) :
    (s.answerFlight q f.idx status result src).answerOf q idx = some (status, result) := by
  obtain ⟨hf, hidx, -⟩ := State.of_starts h
  rw [hidx]
  exact State.answerOf_answerFlight hf (State.stage_of_starts h) ..

/-- The answer of a descriptor that has started, given by a state that keeps what is in flight. -/
theorem State.answerOf_of_started {t : State} (h : s.starts q idx ty op = some f)
    (ht : t.flight q idx = (s.started q idx).flight q idx) (status result src : Nat) :
    (t.answerFlight q idx status result src).answerOf q idx = some (status, result) := by
  obtain ⟨hf, -, -⟩ := State.of_starts h
  exact State.answerOf_answerFlight (ht.trans (State.flight_started hf)) (by simp) ..

theorem State.descPlain_of (h : s.starts q idx ty none = some f) :
    s.descPlain q idx ty = s.answerFlight q f.idx 0 0 0 := by
  rw [State.descPlain, h]
  rfl

theorem State.descReg_of (h : s.starts q idx ty none = some f) (own : Desc → State → State) (payload : Desc → List Byte) :
    s.descReg q idx ty own payload = s.descAt q f (own f.desc) 0x01 (payload f.desc) [] := by
  rw [State.descReg, h]

theorem State.descOp_of (h : s.starts q idx ty op = some f) (image : List Byte) :
    s.descOp q idx ty op image =
      s.descAt q f (fun u => u.opStart (.ring q f.idx) f.desc q f.idx image) 0x04 (opPayload f.desc) image := by
  rw [State.descOp, h]

section
variable {own : State → State} {ft : Nat} {pay image : List Byte}

theorem State.descAt_here (ht : dTarget f.desc = 0) (hs : (s.safe && safeRefuses f.desc) = false) :
    s.descAt q f own ft pay image = own (s.started q f.idx) := by
  rw [State.descAt, if_pos ht, hs]
  rfl

theorem State.descAt_safe (ht : dTarget f.desc = 0) (hs : s.safe = true) (hr : safeRefuses f.desc = true) :
    s.descAt q f own ft pay image = s.answerFlight q f.idx 0x0E 0 0 := by
  rw [State.descAt, if_pos ht, hs, hr]
  rfl

theorem State.descAt_away (ht : dTarget f.desc ≠ 0) :
    s.descAt q f own ft pay image = if s.on ORB.conflict then s.answerFlight q f.idx 3 0 0
      else if s.orbPaused then s else s.sendReq q f.idx (dTarget f.desc) ft pay image := if_neg ht

end

/-- An operation that starts at the manager. -/
theorem State.descOp_here (h : s.starts q idx ty op = some f) (ht : dTarget f.desc = 0)
    (hs : (s.safe && safeRefuses f.desc) = false) (image : List Byte) :
    s.descOp q idx ty op image = (s.started q idx).opStart (.ring q idx) f.desc q idx image := by
  obtain ⟨-, hidx, -⟩ := State.of_starts h
  rw [State.descOp_of h, State.descAt_here ht hs, hidx]

/-! A request that goes out (R314). -/

theorem State.sendReq_no_tag {target : Nat} (h : s.freeTag target = none) (ft : Nat) (pay image : List Byte) :
    s.sendReq q idx target ft pay image = s := by
  rw [State.sendReq, h]

theorem State.sendReq_of {target tag : Nat} (h : s.freeTag target = some tag) (ft : Nat) (pay image : List Byte) :
    s.sendReq q idx target ft pay image =
      (((s.updOrb (fun o => { o with reqs := o.reqs ++ [⟨tag, target, q, idx, false, 0, 0, image⟩] })).mgrFrame
        (s.portTo target) target ft tag pay).updFlight q idx fun f => { f with stage := .started, gen := s.orbit.gen }) := by
  rw [State.sendReq, h]
  rfl

/-- The last output of a frame that the manager sends. -/
theorem State.mgrFrame_out {p : OrbPort} {dest ft tag : Nat} {pay : List Byte} (hc : s.on ORB.conflict = false)
    (hup : s.orbUp = true) :
    (s.mgrFrame p dest ft tag pay).out.getLast? = some (.frame p (sealFrame ⟨BitVec.ofNat 8 dest, 0, BitVec.ofNat 8 ft,
      BitVec.ofNat 8 tag, 0, BitVec.ofNat 8 pay.length, pay, 0, []⟩)) := by
  rw [State.mgrFrame, hc, hup]
  exact List.getLast?_concat

theorem State.updFlight_out (s : State) (q idx : Nat) (g : Flight → Flight) : (s.updFlight q idx g).out = s.out := rfl

theorem State.sendReq_out {target : Nat} {ft : Nat} {pay : List Byte} (htag : (s.freeTag target).isSome = true)
    (hc : s.on ORB.conflict = false) (hup : s.orbUp = true) :
    (s.sendReq q idx target ft pay []).out.getLast? = some (.frame (s.portTo target) (sealFrame ⟨BitVec.ofNat 8 target, 0,
      BitVec.ofNat 8 ft, BitVec.ofNat 8 (s.newTag target), 0, BitVec.ofNat 8 pay.length, pay, 0, []⟩)) := by
  obtain ⟨tag, htag⟩ := Option.isSome_iff_exists.mp htag
  rw [State.sendReq_of htag, State.updFlight_out, State.newTag, htag]
  exact State.mgrFrame_out hc hup

end Sys2Proof.Machine
end

section
/-! PROOFS. NOP, FENCE and the register descriptors (R259, R262, R281), and what every descriptor of one unit does that
names a worker or meets the safe state. -/

namespace Sys2Proof.Machine

variable {s t : State} {q idx ty : Nat} {op : Option Nat} {f : Flight}

/-! Accesses of the two registers that need no island of a lane-end. -/

theorem State.accessStatus_glbMask (hup : s.fileUp = true) (hs : s.safe = false) : s.accessStatus 0x34 = 0 := by
  have ha : s.answered 0x34 = true := hup
  rw [State.accessStatus, ha, hs]
  rfl

theorem State.accessStatus_flt {a : Nat} (hup : s.fileUp = true) (hlo : 0x10000 ≤ a) (hhi : a < 0x20000) :
    s.accessStatus a = 0 := by
  have hb : a / 0x10000 = 1 := by omega
  have hrx : lrxOf a = none := by rw [lrxOf, if_neg (by omega), if_neg (by omega)]
  have htx : ltxOf a = none := by rw [ltxOf, if_neg (by omega), if_neg (by omega)]
  have ha : s.answered a = true := by rw [State.answered, hrx, htx]; simp [hb, hup]
  rw [State.accessStatus, if_neg (by omega), ha, hb]
  simp [stOk]

theorem State.writeWord_glbMask (s : State) (v : Word) : s.writeWord 0x34 v = s.rw 0x34 0x3FFF v := rfl

theorem State.writeWord_fltMask (s : State) (v : Word) : s.writeWord 0x10010 v = s.rw 0x10010 0x7F v := rfl

theorem State.writeWord_fltGrace (s : State) (v : Word) : s.writeWord 0x10014 v = s.rw 0x10014 0xFFFFFF v := rfl

theorem State.view_fltMask (s : State) : s.view 0x10010 = s.reg 0x10010 := rfl

theorem State.view_fltGrace (s : State) : s.view 0x10014 = s.reg 0x10014 := rfl

theorem State.view_glbMask (s : State) : s.view 0x34 = s.reg 0x34 := rfl

theorem State.swWrite_of_ok {a : Nat} (h : s.accessStatus a = 0) (v : Word) : s.swWrite a v = (s.writeWord a v, 0) :=
  if_pos h

theorem State.swWrite_of_refused {a : Nat} (h : s.accessStatus a ≠ 0) (v : Word) : s.swWrite a v = (s, s.accessStatus a) :=
  if_neg h

theorem State.swRmw_of_ok {a : Nat} (h : s.accessStatus a = 0) (m v : Word) : s.swRmw a m v =
    ((s.readWord a).1.writeWord a (((s.readWord a).2 &&& ~~~m) ||| (v &&& m)), (s.readWord a).2, 0) := if_pos h

theorem State.swReads_one {a : Nat} (h : s.accessStatus a = 0) : s.swReads 1 a = ((s.readWord a).1, [(s.readWord a).2], 0) := by
  rw [State.swReads, State.swRead_of_ok h]
  rfl

/-- A read leaves a word of another kind in no latch. -/
theorem State.readWord_latch (s : State) (a : Nat) :
    (s.readWord a).1 = { s with latch := (s.readWord a).1.latch } ∧
      (isLowWord a = false → (s.readWord a).1.latch = s.latch) ∧
      (isLowWord a = true → (s.readWord a).1.latch = s.view (a + 4)) := by
  unfold State.readWord
  by_cases hmod : a % 4 ≠ 0
  · rw [if_pos hmod]
    exact ⟨rfl, fun _ => rfl, fun h => absurd (mod_eight_of_isLowWord h) (by omega)⟩
  · rw [if_neg hmod]
    cases hl : isLowWord a with
    | true => exact ⟨rfl, fun h => absurd h (by decide), fun _ => rfl⟩
    | false =>
      rw [if_neg Bool.false_ne_true]
      refine ⟨?_, fun _ => ?_, fun h => absurd h (by decide)⟩ <;> split_ifs <;> rfl

theorem State.flight_of_rings (h : t.rings = s.rings) (q idx : Nat) : t.flight q idx = s.flight q idx := by
  rw [State.flight, State.flight, State.ring, State.ring, h]

theorem State.answerFlight_rings (s : State) (q idx status result src : Nat) :
    s.answerFlight q idx status result src = { s with rings := (s.answerFlight q idx status result src).rings } := rfl

/-! A register reads the same whatever the rings hold, as long as a descriptor stays in flight where one was (R402). -/

theorem State.blockBits_withRings (s : State) {r : Sparse Ring}
    (h : r.any (fun x => !x.2.flights.isEmpty) = s.rings.any (fun x => !x.2.flights.isEmpty)) (n : Nat) :
    ({ s with rings := r }).blockBits n = s.blockBits n := by
  unfold State.blockBits
  dsimp only
  rw [h]
  rfl

theorem State.view_withRings (s : State) {r : Sparse Ring}
    (h : r.any (fun x => !x.2.flights.isEmpty) = s.rings.any (fun x => !x.2.flights.isEmpty)) (a : Nat) :
    ({ s with rings := r }).view a = s.view a := by
  unfold State.view
  cases lrxOf a with
  | some x => rfl
  | none =>
    cases ltxOf a with
    | some x => rfl
    | none =>
      dsimp only
      rw [State.blockBits_withRings s h]
      rfl

theorem State.bankWord_withRings (s : State) (r : Sparse Ring) (b o : Nat) :
    ({ s with rings := r }).bankWord b o = s.bankWord b o := by
  unfold State.bankWord
  rfl

theorem State.readWord_withRings (s : State) {r : Sparse Ring}
    (h : r.any (fun x => !x.2.flights.isEmpty) = s.rings.any (fun x => !x.2.flights.isEmpty)) (a : Nat) :
    (({ s with rings := r }).readWord a).2 = (s.readWord a).2 := by
  unfold State.readWord
  simp -implicitDefEqProofs only [State.view_withRings s h, State.bankWord_withRings]
  split_ifs <;> rfl

theorem Sparse.any_of_get {α : Type} {d : α} {P : α → Bool} (hd : P d = false) {m : Sparse α} {k : Nat}
    (h : P (Sparse.get d m k) = true) : m.any (fun x => P x.2) = true := by
  induction m with
  | nil => exact absurd (hd.symm.trans h) (by decide)
  | cons x m ih =>
    rw [List.any_cons, Bool.or_eq_true]
    by_cases hk : x.1 = k
    · exact .inl (by rwa [Sparse.get, if_pos hk] at h)
    · exact .inr (ih (by rwa [Sparse.get, if_neg hk] at h))

theorem State.rings_any_of_flight (h : s.flight q idx = some f) : s.rings.any (fun x => !x.2.flights.isEmpty) = true := by
  refine Sparse.any_of_get (P := fun x : Ring => !x.flights.isEmpty) (d := Ring.idle) rfl (k := q) ?_
  unfold State.flight State.ring at h
  cases hl : (Sparse.get Ring.idle s.rings q).flights with
  | nil => rw [hl] at h; exact absurd h (by simp)
  | cons x l => rfl

theorem State.any_started (h : s.flight q idx = some f) :
    (s.started q idx).rings.any (fun x => !x.2.flights.isEmpty) = s.rings.any (fun x => !x.2.flights.isEmpty) :=
  (State.rings_any_of_flight (State.flight_started h)).trans (State.rings_any_of_flight h).symm

theorem State.started_eq (s : State) (q idx : Nat) : s.started q idx = { s with rings := (s.started q idx).rings } := rfl

theorem State.readWord_started (h : s.flight q idx = some f) (a : Nat) :
    ((s.started q idx).readWord a).2 = (s.readWord a).2 := by
  rw [State.started_eq]
  exact State.readWord_withRings s (State.any_started h) a

theorem State.view_started (h : s.flight q idx = some f) (a : Nat) : (s.started q idx).view a = s.view a := by
  rw [State.started_eq]
  exact State.view_withRings s (State.any_started h) a

theorem State.readHere_one {d : Desc} (hcount : dField d 11 1 = 1) (hok : s.accessStatus (dAddr d) = 0) :
    s.readHere q idx d = (s.readWord (dAddr d)).1.answerFlight q idx 0 (s.readWord (dAddr d)).2.toNat 0 := by
  rw [State.readHere, hcount, State.swReads_one hok]
  simp -implicitDefEqProofs

theorem State.writeHere_of {d : Desc} {a : Nat} {v : Word} (ha : dAddr d = a) (hv : dField d 12 4 = v.toNat)
    (hok : s.accessStatus a = 0) : s.writeHere q idx d = (s.writeWord a v).answerFlight q idx 0 0 0 := by
  rw [State.writeHere, ha, hv, State.swWrite_of_ok hok, BitVec.ofNat_toNat, BitVec.setWidth_eq]

theorem State.rmwHere_of {d : Desc} {a : Nat} {m v : Word} (ha : dAddr d = a) (hm : dField d 12 4 = m.toNat)
    (hv : dField d 16 4 = v.toNat) (hok : s.accessStatus a = 0) : s.rmwHere q idx d =
      ((s.readWord a).1.writeWord a (((s.readWord a).2 &&& ~~~m) ||| (v &&& m))).answerFlight q idx 0 (s.readWord a).2.toNat 0 := by
  rw [State.rmwHere, ha, hm, hv, State.swRmw_of_ok hok, BitVec.ofNat_toNat, BitVec.setWidth_eq, BitVec.ofNat_toNat,
    BitVec.setWidth_eq]

theorem State.readWord_glbMask (s : State) : s.readWord 0x34 = (s, s.reg 0x34) := rfl

/-! The masks and the grace time of the fault collector, two neighbours (R373). -/

theorem State.swWrites_masks (hup : s.fileUp = true) (v w : Word) :
    s.swWrites [v, w] 0x10010 = ((s.rw 0x10010 0x7F v).rw 0x10014 0xFFFFFF w, 2, 0) := by
  have hup' : (s.rw 0x10010 0x7F v).fileUp = true := hup
  rw [State.swWrites, State.swWrite_of_ok (State.accessStatus_flt hup (by decide) (by decide)), State.writeWord_fltMask]
  simp -implicitDefEqProofs only [stOk, if_true]
  rw [State.swWrites, State.swWrite_of_ok (State.accessStatus_flt hup' (by decide) (by decide))]
  rfl

theorem State.swReads_masks (hup : s.fileUp = true) : s.swReads 2 0x10010 = (s, [s.reg 0x10010, s.reg 0x10014], 0) := by
  rw [State.swReads, State.swRead_of_ok (State.accessStatus_flt hup (by decide) (by decide))]
  have hread : s.readWord 0x10010 = (s, s.reg 0x10010) := rfl
  rw [hread]
  simp -implicitDefEqProofs only [stOk, if_true]
  rw [State.swReads_one (State.accessStatus_flt hup (by decide) (by decide))]
  rfl

theorem State.safe_and_flt {d : Desc} (hr : safeRefuses d = false) : (s.safe && safeRefuses d) = false := by
  rw [hr, Bool.and_false]

theorem State.reg_rw_same (s : State) (a mask : Nat) (v : Word) :
    (s.rw a mask v).reg a = (s.reg a &&& ~~~BitVec.ofNat 32 mask) ||| (v &&& BitVec.ofNat 32 mask) := State.reg_setReg_same ..

theorem State.reg_rw_ne (s : State) {a b : Nat} (mask : Nat) (v : Word) (h : b ≠ a) : (s.rw a mask v).reg b = s.reg b :=
  State.reg_setReg_ne _ _ h

theorem State.answerFlight_reg (s : State) (q idx st r src a : Nat) : (s.answerFlight q idx st r src).reg a = s.reg a := rfl

theorem State.started_reg (s : State) (q idx a : Nat) : (s.started q idx).reg a = s.reg a := rfl

/-- A descriptor of one unit starts as its type says: at the manager, or as one request to a worker. -/
def State.StartsAs (s : State) (q : Nat) (f : Flight) (ft : Nat) (pay : List Byte) (c : Instr) : Prop :=
  ∃ own, exec c s = .next (s.descAt q f own ft pay [])

theorem State.StartsAs.safe {ft : Nat} {pay : List Byte} {c : Instr} (h : s.StartsAs q f ft pay c) (hf : s.starts q idx ty op = some f)
    (ht : dTarget f.desc = 0) (hs : s.safe = true) (hr : safeRefuses f.desc = true) :
    ∃ t, exec c s = .next t ∧ t.answerOf q idx = some (0x0E, 0) ∧ t = { s with rings := t.rings } := by
  obtain ⟨own, h⟩ := h
  exact ⟨_, h.trans (congrArg _ (State.descAt_safe ht hs hr)), State.answerOf_of_starts hf .., rfl⟩

theorem State.StartsAs.away {ft : Nat} {pay : List Byte} {c : Instr} (h : s.StartsAs q f ft pay c) (hf : s.starts q idx ty op = some f)
    (ht : dTarget f.desc ≠ 0) :
    ∃ t, exec c s = .next t ∧ (s.on ORB.conflict = true → t.answerOf q idx = some (3, 0) ∧ t = { s with rings := t.rings }) ∧
      (s.on ORB.conflict = false → s.orbPaused = true → t = s) ∧
      (s.on ORB.conflict = false → s.orbPaused = false → s.freeTag (dTarget f.desc) = none → t = s) ∧
      (s.on ORB.conflict = false → s.orbPaused = false → (s.freeTag (dTarget f.desc)).isSome = true →
        t = s.sendReq q idx (dTarget f.desc) ft pay [] ∧ (s.orbUp = true → t.out.getLast? =
          some (.frame (s.portTo (dTarget f.desc)) (sealFrame ⟨BitVec.ofNat 8 (dTarget f.desc), 0, BitVec.ofNat 8 ft,
            BitVec.ofNat 8 (s.newTag (dTarget f.desc)), 0, BitVec.ofNat 8 pay.length, pay, 0, []⟩)))) := by
  obtain ⟨own, h⟩ := h
  obtain ⟨-, hidx, -⟩ := State.of_starts hf
  refine ⟨_, h.trans (congrArg _ (State.descAt_away ht)), fun hc => ?_, fun hc hp => ?_, fun hc hp htag => ?_,
    fun hc hp htag => ?_⟩
  · rw [if_pos hc]
    exact ⟨State.answerOf_of_starts hf .., rfl⟩
  · rw [if_neg (by simp [hc]), if_pos hp]
  · rw [if_neg (by simp [hc]), if_neg (by simp [hp]), State.sendReq_no_tag htag]
  · rw [if_neg (by simp [hc]), if_neg (by simp [hp]), hidx]
    exact ⟨rfl, State.sendReq_out htag hc⟩

theorem State.startsAs_reg {own : Desc → State → State} {payload : Desc → List Byte} (hf : s.starts q idx ty none = some f) {c : Instr}
    {pay : List Byte} (hc : exec c s = .next (s.descReg q idx ty own payload)) (hp : payload f.desc = pay) :
    s.StartsAs q f 1 pay c :=
  hp ▸ ⟨_, hc.trans (congrArg _ (State.descReg_of hf ..))⟩

theorem State.startsAs_op (hf : s.starts q idx ty op = some f) {c : Instr} (hc : exec c s = .next (s.descOp q idx ty op [])) :
    s.StartsAs q f 4 (opPayload f.desc) c :=
  ⟨_, hc.trans (congrArg _ (State.descOp_of hf _))⟩

/-- A register descriptor that acts at the manager. -/
theorem State.descReg_acts {own : Desc → State → State} {payload : Desc → List Byte} (hf : s.starts q idx ty none = some f)
    (ht : dTarget f.desc = 0) (hs : (s.safe && safeRefuses f.desc) = false) {c : Instr}
    (hc : exec c s = .next (s.descReg q idx ty own payload)) : exec c s = .next (own f.desc (s.started q idx)) :=
  hc.trans (congrArg _ (State.descReg_here hf ht hs ..))

theorem safe_and_false (hs : s.safe = false) (d : Desc) : (s.safe && safeRefuses d) = false := by rw [hs, Bool.false_and]

theorem dField_word {d : Desc} {b : Nat} {v : Word} (h : dField d b 4 = v.toNat) : BitVec.ofNat 32 (dField d b 4) = v := by
  rw [h, BitVec.ofNat_toNat, BitVec.setWidth_eq]

/-- The two words at the front of the data of a BULK_WRITE. -/
theorem wordsOf_two_dField (d : Desc) :
    wordsOf 2 (dField d 8 48) = [BitVec.ofNat 32 (dField d 8 4), BitVec.ofNat 32 (dField d 12 4)] := by
  have h1 : BitVec.ofNat 32 (dField d 8 48) = BitVec.ofNat 32 (dField d 8 4) := by
    apply BitVec.eq_of_toNat_eq
    simp only [dField, bitsOf, BitVec.toNat_ofNat]
    rw [Nat.mod_mod_of_dvd _ (by decide), Nat.mod_mod_of_dvd _ (by decide)]
  have h2 : BitVec.ofNat 32 (dField d 8 48 / 2 ^ 32) = BitVec.ofNat 32 (dField d 12 4) := by
    apply BitVec.eq_of_toNat_eq
    simp only [dField, bitsOf, BitVec.toNat_ofNat, Nat.shiftRight_eq_div_pow]
    norm_num
    omega
  rw [wordsOf, wordsOf, wordsOf, h1, h2]

theorem rmw_masked (r m v k : Word) :
    (r &&& ~~~k) ||| (((r &&& ~~~m) ||| (v &&& m)) &&& k) = (r &&& ~~~(m &&& k)) ||| (v &&& m &&& k) := by
  ext i
  simp only [BitVec.getElem_or, BitVec.getElem_and, BitVec.getElem_not]
  cases r[i] <;> cases m[i] <;> cases v[i] <;> cases k[i] <;> rfl

/-- Settles O34: the access rules of a register, of two and of a refused address, and how a descriptor starts by its
target. -/
theorem registerDescriptors : Obligations.RegisterDescriptors := by
  refine ⟨?_, ?_, ?_, ?_, ?_, ?_, ?_, ?_, ?_, ?_, ?_, ?_, ?_, ?_, ?_, ?_⟩
  · intro s q i f hf
    exact ⟨_, congrArg Host.Outcome.next (State.descPlain_of hf), State.answerOf_of_starts hf .., rfl⟩
  · intro s q i f hf
    exact ⟨_, congrArg Host.Outcome.next (State.descPlain_of hf), State.answerOf_of_starts hf .., rfl⟩
  · intro s q i c hf hc
    have hno : ∀ ty op, s.starts q i.toNat ty op = none := fun ty op => State.starts_of_no_flight hf
    have hreg : ∀ ty own pay, s.descReg q i.toNat ty own pay = s := fun ty => State.descReg_idle (hno ty none)
    have hop : ∀ ty op image, s.descOp q i.toNat ty op image = s := fun ty op => State.descOp_idle (hno ty op)
    have hquench : ∀ n, s.descQuench q i.toNat n = s := fun n => State.descQuench_idle (hno ..)
    have hplain : ∀ ty, s.descPlain q i.toNat ty = s := fun ty => State.descPlain_idle (hno ty none)
    refine ⟨s, ?_, rfl⟩
    simp only [List.mem_cons, List.not_mem_nil, or_false] at hc
    rcases hc with rfl | rfl | rfl | rfl | rfl | rfl | rfl | rfl | rfl | rfl | rfl | rfl | rfl | rfl | rfl | rfl | rfl | rfl |
      rfl | rfl | rfl | rfl | rfl | rfl | rfl | rfl | rfl | rfl
    · exact congrArg Host.Outcome.next (hplain _)
    iterate 5 exact congrArg Host.Outcome.next (hreg ..)
    · exact congrArg Host.Outcome.next (by rw [hno])
    · exact congrArg Host.Outcome.next (by rw [hno])
    · exact congrArg Host.Outcome.next ((congrArg (State.descOp · ..) (State.noteTeleCq_idle (hno ..))).trans (hop ..))
    iterate 8 exact congrArg Host.Outcome.next (hop ..)
    iterate 4 exact congrArg Host.Outcome.next (hquench _)
    · exact congrArg Host.Outcome.next (hop ..)
    · refine (if_pos ?_).trans (congrArg Host.Outcome.next ?_)
      · rw [State.imageOk, hno]
        rfl
      · rw [State.readImage, hno, hop]
    iterate 4 exact congrArg Host.Outcome.next (hop ..)
    · exact congrArg Host.Outcome.next (hplain _)
  · intro s q i f a hf ht hcount ha hok
    have hsafe : (s.safe && safeRefuses f.desc) = false := by
      obtain ⟨-, -, htype⟩ := State.of_starts hf
      rw [Bool.and_eq_false_iff, or_iff_not_imp_left, Bool.not_eq_false]
      intro hs
      have hb := State.block_of_accessStatus_ok hok hs
      simp [safeRefuses, htype, isRegType, inFlt, dRegAddr, dCount, hcount, ha, hb]
    have halike := s.alike_started q i.toNat
    obtain ⟨hkeep, hother, hlow⟩ := (s.started q i.toNat).readWord_latch a
    have hflight := State.flight_of_rings (q := q) (idx := i.toNat) (congrArg State.rings hkeep)
    obtain ⟨hf', -, -⟩ := State.of_starts hf
    refine ⟨_, (State.descReg_acts hf ht hsafe rfl).trans (congrArg Host.Outcome.next (State.readHere_one hcount (ha ▸ (halike.accessStatus _).trans hok))), ?_, ?_, ?_, ?_⟩
    · rw [ha, State.readWord_started hf']
      exact State.answerOf_of_started hf hflight ..
    · rw [ha, hkeep]
      rfl
    · rw [ha]
      exact hother
    · intro hl
      rw [ha, ← State.view_started hf' (a + 4)]
      exact hlow hl
  · intro s q i f hf ht hs
    refine ⟨_, State.descReg_acts hf ht hs rfl, rfl⟩
  · intro s q i f v hf ht ha hv hup hs
    have hok : (s.started q i.toNat).accessStatus 0x34 = 0 := State.accessStatus_glbMask hup hs
    refine ⟨_, (State.descReg_acts hf ht (safe_and_false hs _) rfl).trans (congrArg Host.Outcome.next (State.writeHere_of ha hv hok)), ?_, ?_, rfl, fun a ha => ?_⟩
    · exact State.answerOf_of_started hf rfl ..
    · rw [State.writeWord_glbMask, State.answerFlight_reg, State.reg_rw_same, State.started_reg]
      rfl
    · rw [State.writeWord_glbMask, State.answerFlight_reg, State.reg_rw_ne _ _ _ ha, State.started_reg]
  · intro s q i f hf ht ha hs
    have hbad : (s.started q i.toNat).accessStatus (dAddr f.desc) = 6 := if_pos ha
    have hstep : (s.started q i.toNat).writeHere q i.toNat f.desc = (s.started q i.toNat).answerFlight q i.toNat 6 0 0 := by
      rw [State.writeHere, State.swWrite_of_refused (by simp [hbad]), hbad]
    exact ⟨_, (State.descReg_acts hf ht (safe_and_false hs _) rfl).trans (congrArg Host.Outcome.next hstep),
      State.answerOf_of_started hf rfl .., rfl⟩
  · intro s q i f hf ht hs
    exact ⟨_, State.descReg_acts hf ht hs rfl, rfl⟩
  · intro s q i f m v hf ht ha hm hv hup hs
    have hok : (s.started q i.toNat).accessStatus 0x34 = 0 := State.accessStatus_glbMask hup hs
    refine ⟨_, (State.descReg_acts hf ht (safe_and_false hs _) rfl).trans (congrArg Host.Outcome.next (State.rmwHere_of ha hm hv hok)),
      ?_, ?_, rfl, fun a ha => ?_⟩
    · exact State.answerOf_of_started hf rfl ..
    · rw [State.answerFlight_reg, State.readWord_glbMask, State.writeWord_glbMask, State.reg_rw_same, State.started_reg]
      exact rmw_masked ..
    · rw [State.answerFlight_reg, State.readWord_glbMask, State.writeWord_glbMask, State.reg_rw_ne _ _ _ ha, State.started_reg]
  · intro s q i f hf ht hs
    exact ⟨_, State.descReg_acts hf ht hs rfl, rfl⟩
  · intro s q i f v w hf ht ha hn hv hw hup
    obtain ⟨-, -, htype⟩ := State.of_starts hf
    have hsafe : safeRefuses f.desc = false := by simp [safeRefuses, htype, isRegType, inFlt, dRegAddr, dCount, ha, hn]
    have hstep : (s.started q i.toNat).bulkWriteHere q i.toNat f.desc =
        (((s.started q i.toNat).rw 0x10010 0x7F v).rw 0x10014 0xFFFFFF w).answerFlight q i.toNat 0 2 0 := by
      rw [State.bulkWriteHere, hn, ha, wordsOf_two_dField, dField_word hv, dField_word hw,
        State.swWrites_masks (s := s.started q i.toNat) hup]
    refine ⟨_, (State.descReg_acts hf ht (State.safe_and_flt hsafe) rfl).trans (congrArg Host.Outcome.next hstep),
      ?_, ?_, ?_, rfl, fun a ha => ?_⟩
    · exact State.answerOf_of_started hf rfl ..
    · rw [State.answerFlight_reg, State.reg_rw_ne _ _ _ (by decide), State.reg_rw_same, State.started_reg]
      rfl
    · rw [State.answerFlight_reg, State.reg_rw_same, State.reg_rw_ne _ _ _ (by decide), State.started_reg]
      rfl
    · simp only [List.mem_cons, List.not_mem_nil, or_false, not_or] at ha
      rw [State.answerFlight_reg, State.reg_rw_ne _ _ _ ha.2, State.reg_rw_ne _ _ _ ha.1, State.started_reg]
  · intro s q i f hf ht hs
    exact ⟨_, State.descReg_acts hf ht hs rfl, rfl⟩
  · intro s q i f hf ht ha hn hup hhost
    obtain ⟨-, -, htype⟩ := State.of_starts hf
    have hsafe : safeRefuses f.desc = false := by simp [safeRefuses, htype, isRegType, inFlt, dRegAddr, dCount, ha, hn]
    have hhost' : (s.started q i.toNat).hostUp = true := hhost
    have hstep : (s.started q i.toNat).bulkReadHere q i.toNat f.desc =
        ((s.started q i.toNat).emit (.hostWrite (dField f.desc 16 8) [s.reg 0x10010, s.reg 0x10014])).answerFlight q i.toNat 0 2 0 := by
      rw [State.bulkReadHere, hn, ha, State.swReads_masks (s := s.started q i.toNat) hup]
      simp -implicitDefEqProofs only [List.isEmpty_cons, Bool.false_eq_true, if_false]
      rw [State.postWrite, if_pos (by simp), State.postOne, if_pos hhost']
      rfl
    refine ⟨_, (State.descReg_acts hf ht (State.safe_and_flt hsafe) rfl).trans (congrArg Host.Outcome.next hstep), ?_, rfl, rfl⟩
    exact State.answerOf_of_started hf rfl ..
  · intro s q i f hf ht hs
    refine ⟨_, State.descReg_acts hf ht hs rfl, ?_⟩
    rw [State.bulkReadHere]
    simp -implicitDefEqProofs only [List.isEmpty_iff]
  · intro s q i f c ty op hc hf ht hs hr
    suffices h : ∃ ft pay, s.StartsAs q f ft pay c by
      obtain ⟨ft, pay, h⟩ := h
      exact h.safe hf ht hs hr
    simp only [List.mem_cons, Prod.mk.injEq, List.not_mem_nil, or_false] at hc
    rcases hc with h | h | h | h | h | h | h | h | h | h | h | h | h | h | h <;> obtain ⟨rfl, rfl, rfl⟩ := h
    iterate 5 exact ⟨1, _, State.startsAs_reg hf rfl rfl⟩
    · exact ⟨4, _, State.startsAs_op hf (congrArg (fun u : State => Host.Outcome.next (u.descOp ..)) (State.noteTeleCq_here hf ht))⟩
    all_goals exact ⟨4, _, State.startsAs_op hf rfl⟩
  · intro s q i f c ty op ft pay hc hf ht
    refine State.StartsAs.away ?_ hf ht
    simp only [List.mem_cons, Prod.mk.injEq, List.not_mem_nil, or_false] at hc
    rcases hc with h | h | h | h | h | h | h | h | h | h | h | h | h | h | h | h | h | h <;>
      obtain ⟨rfl, rfl, rfl, rfl, rfl⟩ := h
    iterate 5 exact State.startsAs_reg hf rfl rfl
    all_goals exact State.startsAs_op hf rfl

end Sys2Proof.Machine
end

section
/-! PROOFS. The refutation of O36: a LANE_SWAP SWAP of an Ethernet group's lane that no port of the group carries. -/

namespace Sys2Proof.Machine

open Tests

/-- LANE_SWAP SWAP of lane 3 of group 1 on side A, to a position of the unit's choice. -/
def swapOfLane3 : Desc := dsc 0xC 0 (2 ^ 16 + 2 ^ 24 * 3)

/-- The manager with that descriptor offered, its power controller as after a reset. Group 1 is enabled and Ethernet, and
none of its lanes begins a port, but the state machine of its port 0 on side A stands in BACKOFF. -/
def portlessGroup : State :=
  { ((((((((offered swapOfLane3).setReg (GLB.pgcfg 1) 0).put (GLB.proto 1) 1).put (GLB.pers 1) 1).put (GLB.en 1) 1).put
    (GLB.reach 0 0 1) 1).put (GLB.tsState 1 0 0) 7).put (GLB.spareStat 0 0) 4) with pwr := Pwr.reset }

/-- The unit answers PRECONDITION, since no port carries the lane. -/
theorem portlessGroup_answer :
    (portlessGroup.descOp 4 (7#16 : BitVec 16).toNat 0x0C (some 0) []).answerOf 4 7 = some (7, 0) := by decide +kernel

/-- What the statement asks for instead answers OK. -/
theorem portlessGroup_swapped :
    ((portlessGroup.started 4 7).swapEthernet (.ring 4 7) 1 0 3 8).answerOf 4 7 = some (0, 0) := by decide +kernel

/-- The hypotheses of the clause on a lane of an Ethernet port that moves. -/
theorem portlessGroup_movable :
    portlessGroup.starts 4 (7#16 : BitVec 16).toNat 0x0C (some 0) = some (fresh swapOfLane3) ∧
      dTarget (fresh swapOfLane3).desc = 0 ∧ (portlessGroup.safe && safeRefuses (fresh swapOfLane3).desc) = false ∧
      dField (fresh swapOfLane3).desc 10 1 = 1 ∧ dField (fresh swapOfLane3).desc 9 1 = 0 ∧
      dField (fresh swapOfLane3).desc 11 1 = 3 ∧ portlessGroup.cfl 1 = false ∧ portlessGroup.on (GLB.en 1) = true ∧
      (portlessGroup.lanePos 1 0 3).isSome = true ∧
      portlessGroup.moveTarget 1 { Job.blank .move 0 3 with toPos := dField (fresh swapOfLane3).desc 12 1 } = some 8 ∧
      isUpOrTraining (portlessGroup.segState 1 0 (portlessGroup.portOfLane 1 3)) = true := by decide +kernel

/-- Refutes O36: a lane of an enabled Ethernet group that has a position, but belongs to no port of the group, is answered
PRECONDITION where the clause on Ethernet ports asks for the swap and its OK. -/
theorem not_laneAndStreamDescriptors : ¬ Obligations.LaneAndStreamDescriptors := by
  intro h
  obtain ⟨-, -, -, -, -, -, -, -, -, -, -, -, -, -, -, -, -, -, -, hswap, -⟩ := h
  obtain ⟨hstart, htarget, hsafe, hgroup, hside, hlane, hcfl, hen, hpos, hmove, hup⟩ := portlessGroup_movable
  have hexec := hswap portlessGroup 4 7#16 (fresh swapOfLane3) 1 0 3 8 hstart htarget hsafe hgroup hside hlane hcfl hen hpos
    hmove hup
  have hsame : portlessGroup.descOp 4 (7#16 : BitVec 16).toNat 0x0C (some 0) [] =
      (portlessGroup.started 4 7).swapEthernet (.ring 4 7) 1 0 3 8 := Host.Outcome.next.inj hexec
  exact absurd ((congrArg (State.answerOf · 4 7) hsame).symm.trans portlessGroup_answer)
    (portlessGroup_swapped ▸ by decide)

end Sys2Proof.Machine
end

section
/-! PROOFS. The refutation of O37: an image longer than the largest read request goes out in several reads. -/

namespace Sys2Proof.Machine

open Tests

/-- FW_LOAD WRITE of 513 bytes from host address 0. -/
def loadOf513 : Desc := dsc 0xF 0 (2 ^ 32 * 513)

/-- The manager with that descriptor offered while an image is on trial. -/
def onTrial : State := { firm loadOf513 with flash := Flash.of 3 1 true }

/-- The 513 bytes. -/
def image513 : List Byte := List.replicate 513 0

theorem execFwLoadWrite_of {s : State} {q : RingN} {i : BitVec 16} {l : List Byte} (h : s.imageOk q i.toNat l = true) :
    exec (.fwLoadWrite q i l) s =
      .next ((s.readImage q i.toNat).descOp q i.toNat 0x0F (some 0) (s.seenImage q i.toNat l)) := if_pos h

theorem onTrial_loads :
    onTrial.starts 4 (7#16 : BitVec 16).toNat 0x0F (some 0) = some (fresh loadOf513) ∧ dTarget (fresh loadOf513).desc = 0 ∧
      (onTrial.safe && safeRefuses (fresh loadOf513).desc) = false ∧ onTrial.core.loads = [] ∧
      onTrial.flash.trial = true ∧ dField (fresh loadOf513).desc 12 4 = 513 := by decide +kernel

/-- Two reads go out, of 512 bytes and of the last one, and none of 513 (R239). -/
theorem onTrial_reads :
    ((onTrial.readImage (4 : RingN) (7#16 : BitVec 16).toNat).descOp (4 : RingN) (7#16 : BitVec 16).toNat 0x0F (some 0)
      (onTrial.seenImage (4 : RingN) (7#16 : BitVec 16).toNat image513)).out = [.hostRead 0 512, .hostRead 512 1] := by decide +kernel

theorem onTrial_imageOk : onTrial.imageOk 4 (7#16 : BitVec 16).toNat image513 = true := by decide +kernel

/-- Refutes O37: the image is longer than the 512 bytes that one read asks for, so no output reads all of it at once. -/
theorem not_testKeyFirmwareAndFaultDescriptors : ¬ Obligations.TestKeyFirmwareAndFaultDescriptors := by
  intro h
  obtain ⟨-, -, -, -, -, -, -, htrial, -⟩ := h
  obtain ⟨hstart, htarget, hsafe, hloads, hflash, hlength⟩ := onTrial_loads
  obtain ⟨t, hexec, hread, -, -⟩ := htrial onTrial 4 7#16 (fresh loadOf513) image513 hstart htarget hsafe hloads hflash
    (by rw [hlength, image513, List.length_replicate]) (by rw [image513, List.length_replicate]; decide)
  have ht := Host.Outcome.next.inj (hexec.symm.trans (execFwLoadWrite_of onTrial_imageOk))
  rw [ht, onTrial_reads, hlength] at hread
  exact absurd hread (by decide +kernel)

end Sys2Proof.Machine
end

section
/-! PROOFS. The refutation of O38: a store that holds the word of a table entry twice. -/

namespace Sys2Proof.Machine

open Tests

/-- UNQUENCH of PID 9. -/
def unquenchNine : Desc := dsc 0xD 0 (1 + 2 ^ 32 * 9)

/-- The manager with that descriptor offered, and a register store, not canonical, that holds the word of table entry 0
twice: first as not valid, which is what the register reads as, and behind that as valid for PID 9. -/
def twiceEntered : State :=
  { onZero unquenchNine with regs := (PRT.entryLo 0, 0#32) :: (PRT.entryLo 0, 0x400009#32) :: (onZero unquenchNine).regs }

theorem twiceEntered_unquenches :
    twiceEntered.starts (0 : RingN) (7#16 : BitVec 16).toNat 0x0D (some 1) = some (fresh unquenchNine) ∧
      dTarget (fresh unquenchNine).desc = 0 ∧ twiceEntered.entryOf (dField (fresh unquenchNine).desc 12 2) = some 0 ∧
      twiceEntered.on (PRT.auto 0) = false := by decide +kernel

/-- The entry that UNQUENCH finds reads as not valid, before and after. -/
theorem twiceEntered_valid :
    (twiceEntered.descQuench (0 : RingN) (7#16 : BitVec 16).toNat 1).on (PRT.valid 0) = false := by decide +kernel

/-- Refutes O38: the statement asks that an entry without AUTO, which UNQUENCH finds, is valid afterwards. The search for
a PID looks at every word of the store, a register read at the first one of its address only, so where the store holds
two the entry that is found may read as not valid, and UNQUENCH leaves that as it is. -/
theorem not_quenchCommands : ¬ Obligations.QuenchCommands := by
  intro h
  obtain ⟨-, -, -, hunquench, -⟩ := h
  obtain ⟨hstart, htarget, hentry, hauto⟩ := twiceEntered_unquenches
  obtain ⟨t, hexec, -, -, hvalid, -⟩ := hunquench twiceEntered 0 7#16 (fresh unquenchNine) 0 hstart htarget hentry
  have ht : twiceEntered.descQuench (0 : RingN) (7#16 : BitVec 16).toNat 1 = t := Host.Outcome.next.inj hexec
  rw [← ht, twiceEntered_valid, hauto] at hvalid
  exact absurd hvalid (by decide)

end Sys2Proof.Machine
end

section
/-! PROOFS. The refutation of O32: a CQ_HEAD that is taken clears the pending bit of its vector. -/

namespace Sys2Proof.Machine

open Tests

/-- The running manager with the CQ of ring 4 full, and the pending bit of its vector still set. -/
def pendingServed : State := (running.put (RNG.cqTail 4) 16).put (RNG.pba (running.get (RNG.vector 4))) 1

theorem pendingServed_full :
    pendingServed.cqRoom (4 : RingN) = 0 ∧ pendingServed.get (RNG.state (4 : RingN)) = 1 ∧ pendingServed.fetchUp = true ∧
      pendingServed.headBad (4 : RingN) (pendingServed.seenHead (4 : RingN) 3#16) = false := by decide +kernel

theorem pendingServed_pending : pendingServed.on (RNG.pba (running.get (RNG.vector 4))) = true := by decide +kernel

/-- The poll takes the head, with which the vector has no cause any more. -/
theorem pendingServed_polled :
    (pendingServed.headPoll (4 : RingN) 3#16).on (RNG.pba (running.get (RNG.vector 4))) = false := by decide +kernel

/-- A RUNNING ring has no row of R277 that waits. -/
theorem State.ringSettle_running (s : State) (q : Nat) (h : s.get (RNG.state q) = 1) : s.ringSettle q = s := by
  unfold State.ringSettle
  rw [h]
  simp

/-- With no room CQ_HEAD_POLL reads CQ_HEAD again. -/
theorem execCqHeadPoll_of_full (s : State) (q : RingN) (h : BitVec 16) (hroom : s.cqRoom q = 0) :
    execCqHeadPoll q h s = .next (s.headPoll q h) :=
  congrArg Host.Outcome.next (State.when_true _ (decide_eq_true hroom))

/-- Refutes O32: the statement asks that CQ_HEAD_POLL, before the ring settles, changes the ring engine's records and the
outputs alone. A head that is taken may leave the vector of the ring without a cause, and then its pending bit, which is
in a register, is cleared too. -/
theorem not_doorbellsAndCompletions : ¬ Obligations.DoorbellsAndCompletions := by
  intro h
  obtain ⟨-, -, -, -, -, -, -, -, -, -, -, -, -, -, hpoll, -⟩ := h
  obtain ⟨hroom, hstate, hup, hgood⟩ := pendingServed_full
  obtain ⟨u, hexec, -, hu⟩ := hpoll pendingServed 4 3#16 hroom (by rw [hstate]) (by rw [hstate]; decide) hup hgood
  have hregs : u.regs = pendingServed.regs := by rw [hu]
  have hsame (f : Fld) : u.get f = pendingServed.get f := by simp only [State.get, State.reg, hregs]
  have hpolled : pendingServed.headPoll (4 : RingN) 3#16 = u.ringSettle (4 : RingN) :=
    Host.Outcome.next.inj ((execCqHeadPoll_of_full _ _ _ hroom).symm.trans hexec)
  rw [State.ringSettle_running u _ ((hsame _).trans hstate)] at hpolled
  have hclear := pendingServed_polled
  rw [hpolled, State.on, hsame] at hclear
  exact Bool.noConfusion (hclear.symm.trans pendingServed_pending)

end Sys2Proof.Machine
end

section
/-! PROOFS. The refutation of O40: a count that stands beyond its 48 bits. -/

namespace Sys2Proof.Machine

/-- A state whose ORB_CHAR_ERR_CNT stands at 2^48: bit 16 of its high word, which has 16 bits, is set. -/
def charErrBeyond : State := State.reset.setReg (ORB.charErr + 4) 0x10000#32

theorem charErrBeyond_counter : charErrBeyond.counter ORB.charErr = 2 ^ 48 := by decide +kernel

/-- A frame without a framing error. -/
def emptyFrame : Frame := ⟨0, 0, 0, 0, 0, 0, [], 0, []⟩

/-- Refutes O40: the statement asks that the framing errors of a frame are added modulo 2^48 in every state. Those of a
frame without one leave the count as it stands, which is not below 2^48 where the high word holds more than its 16
bits. -/
theorem not_framesAtAWorker : ¬ Obligations.FramesAtAWorker := by
  intro h
  obtain ⟨-, -, -, -, -, -, -, -, -, -, -, -, -, -, -, -, hframing, -⟩ := h
  obtain ⟨hcount, -⟩ := hframing charErrBeyond emptyFrame
  have hnone : charErrBeyond.framing emptyFrame = charErrBeyond := rfl
  rw [hnone, charErrBeyond_counter] at hcount
  exact absurd hcount (by decide)

end Sys2Proof.Machine
end

section
/-! PROOFS. The refutation of O48: a task of another slice ends the list in the same step in which its test starts. -/

namespace Sys2Proof.Machine
open Tests

/-- A LOOPBACK slice on position P32 of side A, a spare that carries no lane. -/
def spareSlice : BistSlice := ⟨1, 32, 0⟩

/-- A list of that slice waits, while a LOOPBACK task for another position stands in front of port 0. -/
def staleTask : State :=
  { State.reset with bist := [oneRun spareSlice .waiting] }.updPort 0 (fun r => { r with jobs := [Job.blank .loopback 0 0] })

theorem staleTask_pre : staleTask.slicePre spareSlice = true := by decide +kernel

theorem staleTask_carries : staleTask.sliceCarries spareSlice = none := by decide +kernel

/-- The task finds no spare, so that its slice, which it takes to be the head of the list, ends with PRECONDITION. -/
theorem staleTask_direct : (staleTask.loopbackDirect spareSlice).bist = [] := by decide +kernel

/-- Refutes O48: the statement asks of every state that the list's slice is in test after SLICE_START. Where a LOOPBACK task
without a spare stands in front of a port's tasks, what goes on with the start ends that slice and with it the list. -/
theorem not_selfTestSlices : ¬ Obligations.SelfTestSlices := by
  intro h
  obtain ⟨-, -, -, -, -, -, -, -, -, -, -, -, -, -, -, -, -, -, hdirect, -⟩ := h
  obtain ⟨t, -, ht, hstage⟩ := hdirect staleTask (oneRun spareSlice .waiting) spareSlice rfl rfl rfl rfl rfl rfl
    staleTask_pre staleTask_carries
  rw [ht, staleTask_direct] at hstage
  cases hstage

end Sys2Proof.Machine
end

section
/-! PROOFS. The refutation of O7: a low-power agreement that ends while a transmitter of the port sends Comet. -/

namespace Sys2Proof.Machine

/-- Port group 0 is AGREED, there is a signal at position P00 of side A, and its transmitter sends Comet. -/
def agreedInComet : State :=
  ((State.reset.put (PWR.lpstat 0) 1).put (LRX.losNow 0) 0).updTx 0 (fun x => { x with comet := true })

theorem agreedInComet_agreed : agreedInComet.get (PWR.lpstat 0) = 1 := by decide +kernel

theorem agreedInComet_signal : (agreedInComet.lossAll 0 0 && agreedInComet.lossAll 0 1) = false := by decide +kernel

/-- The end of the agreement ends the Comet too. -/
theorem agreedInComet_ends : ((agreedInComet.lpTimeout 0).txe 0).comet = false := by decide +kernel

theorem agreedInComet_comet : (agreedInComet.txe 0).comet = true := by decide +kernel

/-- Refutes O7: the statement asks that LP_AGREE_TIMEOUT changes no more than the ports and two registers. Where a transmitter of
the port sends Comet, the end of the agreement ends that as well. -/
theorem not_lowPowerAgreement : ¬ Obligations.LowPowerAgreement := by
  intro h
  obtain ⟨-, -, -, -, -, htimeout, -⟩ := h
  obtain ⟨t, hexec, -, -, hbase, -⟩ := htimeout agreedInComet 0 agreedInComet_agreed agreedInComet_signal
  have ht : agreedInComet.lpTimeout 0 = t := Host.Outcome.next.inj hexec
  have hkept := congrArg (fun x : State => x.txe 0) hbase
  have htx : t.txe 0 = agreedInComet.txe 0 := hkept
  rw [← ht] at htx
  have hends := agreedInComet_ends
  rw [htx, agreedInComet_comet] at hends
  cases hends

end Sys2Proof.Machine
end

section
/-! PROOFS. What a lane's position, its port and its segment's state follow from: the registers outside the lane-ends' blocks and
the maps of the segments. -/

namespace Sys2Proof.Machine

/-- The two states agree in the registers outside the lane-ends' blocks, and in the segments. -/
structure MapAlike (s t : State) : Prop where
  reg : ∀ a, a < 0x100000 ∨ 0x1000000 ≤ a → t.reg a = s.reg a
  segs : t.segs = s.segs

variable {s t : State}

/-- A state that differs in a register of a lane-end's block agrees so. -/
theorem MapAlike.of_ne {b : Nat} (hb : 0x100000 ≤ b) (hb' : b < 0x1000000) (hr : ∀ a, a ≠ b → t.reg a = s.reg a)
    (hs : t.segs = s.segs) : MapAlike s t := ⟨fun a ha => hr a (by omega), hs⟩

theorem MapAlike.trans {u : State} (h : MapAlike s t) (k : MapAlike t u) : MapAlike s u :=
  ⟨fun a ha => (k.reg a ha).trans (h.reg a ha), k.segs.trans h.segs⟩

theorem MapAlike.get (h : MapAlike s t) {f : Fld} (hf : f.addr < 0x100000 ∨ 0x1000000 ≤ f.addr) : t.get f = s.get f := by
  unfold State.get
  rw [h.reg _ hf]

theorem MapAlike.on (h : MapAlike s t) {f : Fld} (hf : f.addr < 0x100000 ∨ 0x1000000 ≤ f.addr) : t.on f = s.on f := by
  unfold State.on
  rw [h.get hf]

theorem MapAlike.seg (h : MapAlike s t) (g sd k : Nat) : t.seg g sd k = s.seg g sd k := by
  unfold State.seg
  rw [h.segs]

theorem MapAlike.cfl (h : MapAlike s t) {g : Nat} (hg : g < 4) : t.cfl g = s.cfl g := by
  unfold State.cfl
  rw [h.on (.inl (by simp only [GLB.proto, GLB.pgcfg]; omega))]

theorem MapAlike.ethLanes (h : MapAlike s t) {g : Nat} (hg : g < 4) (k : Nat) : t.ethLanes g k = s.ethLanes g k := by
  unfold State.ethLanes
  rw [h.get (.inl (by simp only [GLB.elane, GLB.pgcfg]; omega))]

theorem MapAlike.portKeys (h : MapAlike s t) {g : Nat} (hg : g < 4) : t.portKeys g = s.portKeys g := by
  unfold State.portKeys
  rw [h.cfl hg]
  simp only [h.ethLanes hg]

theorem MapAlike.portOfLane (h : MapAlike s t) {g : Nat} (hg : g < 4) (n : Nat) : t.portOfLane g n = s.portOfLane g n := by
  unfold State.portOfLane
  rw [h.cfl hg, h.portKeys hg]
  simp only [h.ethLanes hg]

theorem MapAlike.laneCode (h : MapAlike s t) {g sd : Nat} (hg : g < 4) (hsd : sd < 2) (n : Nat) :
    t.laneCode g sd n = s.laneCode g sd n := by
  unfold State.laneCode State.regCode
  rw [h.seg, h.get (.inl (by simp only [GLB.lane, GLB.lmap]; omega))]

theorem MapAlike.lanes (h : MapAlike s t) {g sd : Nat} (hg : g < 4) (hsd : sd < 2) (k : Nat) : t.lanes g sd k = s.lanes g sd k := by
  unfold State.lanes
  rw [h.cfl hg, h.ethLanes hg]
  simp only [h.laneCode hg hsd]

theorem MapAlike.segState (h : MapAlike s t) {g sd : Nat} (hg : g < 4) (hsd : sd < 2) (k : Nat) :
    t.segState g sd k = s.segState g sd k := by
  refine h.get ?_
  simp only [GLB.tsState, GLB.trnStat, GLB.trnBase]
  split <;> omega

theorem MapAlike.carried (h : MapAlike s t) {sd p : Nat} (hsd : sd < 2) : t.carried sd p = s.carried sd p := by
  unfold State.carried
  extract_lets gs
  have hgs : ∀ g ∈ gs, g < 4 := by
    intro g
    unfold gs
    split
    · simp only [List.mem_singleton]
      omega
    · simp only [List.mem_cons, List.not_mem_nil, or_false]
      omega
  refine List.find?_congr fun x hx => ?_
  obtain ⟨g, hg, hx⟩ := List.mem_flatMap.mp hx
  obtain ⟨n, -, rfl⟩ := List.mem_map.mp hx
  have hg4 := hgs g hg
  simp only [State.lanePos, h.laneCode hg4 hsd, h.lanes hg4 hsd, h.portOfLane hg4, h.on (f := GLB.en g) (.inl (by decide : 0x20 < 0x100000))]
  rfl

/-- What carries a position is a lane of one of the four port groups. -/
theorem State.carried_lt {sd p g n : Nat} (h : s.carried sd p = some (g, n)) (hp : p < 34) : g < 4 := by
  unfold State.carried at h
  have hx := List.mem_of_find?_eq_some h
  obtain ⟨g', hg, hx⟩ := List.mem_flatMap.mp hx
  obtain ⟨_, -, hx⟩ := List.mem_map.mp hx
  obtain ⟨rfl, -⟩ := Prod.mk.injEq .. ▸ hx
  split at hg
  · simp only [List.mem_singleton] at hg
    omega
  · simp only [List.mem_cons, List.not_mem_nil, or_false] at hg
    omega

theorem MapAlike.posState (h : MapAlike s t) {sd p : Nat} (hsd : sd < 2) (hp : p < 34) : t.posState sd p = s.posState sd p := by
  unfold State.posState
  rw [h.carried hsd]
  cases hc : s.carried sd p with
  | none => rfl
  | some x =>
    obtain ⟨g, n⟩ := x
    have hg := State.carried_lt hc hp
    simp only [h.segState hg hsd, h.portOfLane hg]

theorem sensorOf_lt {i : Nat} (hi : i < 68) : sensorOf i < 8 := by
  unfold sensorOf
  extract_lets p
  split
  · omega
  · split
    · omega
    · split <;> omega

theorem MapAlike.sweepDue (h : MapAlike s t) {i : Nat} (hi : i < 68) : t.sweepDue i = s.sweepDue i := by
  have hn := sensorOf_lt hi
  unfold State.sweepDue State.tempDiff State.getInt
  rw [h.get (.inl (by decide : CAL.thresh.addr < 0x100000)), h.get (f := CAL.temp _) (.inl (by simp only [CAL.temp]; omega)),
    h.get (f := CAL.tref _) (.inl (by simp only [CAL.tref]; omega))]

end Sys2Proof.Machine
end

section
/-! PROOFS. The start of a requester procedure and of training frames (R228), and what a lane-end's return to its causes
changes. -/

namespace Sys2Proof.Machine

variable {s t u : State} {m : State → State} {l : List Nat}

/-- From `s` to `t` no more happens than that the receiver of `i` may start its requester procedure and that training frames go
out. -/
structure Requested (i : Nat) (s t : State) : Prop where
  same : t = { s with regs := t.regs, rx := t.rx, out := t.out }
  reg : ∀ a, a ≠ (LRX.precode i).addr → t.reg a = s.reg a
  rxe : t.rxe i = { s.rxe i with req := (t.rxe i).req }
  others : ∀ j, j ≠ i → t.rxe j = s.rxe j

theorem Requested.refl (i : Nat) (s : State) : Requested i s s := ⟨rfl, fun _ _ => rfl, rfl, fun _ _ => rfl⟩

theorem Requested.trans {i : Nat} (h : Requested i s t) (k : Requested i t u) : Requested i s u := by
  obtain ⟨hs, hr, hx, ho⟩ := h
  obtain ⟨ks, kr, kx, ko⟩ := k
  refine ⟨?_, fun a ha => (kr a ha).trans (hr a ha), ?_, fun j hj => (ko j hj).trans (ho j hj)⟩
  · rw [ks, hs]
  · rw [kx, hx]

theorem Requested.when {i : Nat} {f : State → State} (c : Bool) (h : Requested i s (f s)) : Requested i s (s.when c f) := by
  cases c with
  | true => exact h
  | false => exact .refl i s

theorem State.emit_requested (i : Nat) (o : Out) (s : State) : Requested i s (s.emit o) :=
  ⟨rfl, fun _ _ => rfl, rfl, fun _ _ => rfl⟩

theorem State.put_requested (s : State) (i : Nat) {f : Fld} (hf : f.addr = (LRX.precode i).addr) (v : Nat) :
    Requested i s (s.put f v) := by
  refine ⟨rfl, fun _ ha => s.reg_put_ne _ _ (hf ▸ ha), ?_, fun j _ => s.put_rxe _ _ j⟩
  rw [State.put_rxe]

theorem State.updRx_requested (s : State) (i : Nat) {f : RxEnd → RxEnd} (hf : ∀ x, f x = { x with req := (f x).req }) :
    Requested i s (s.updRx i f) := by
  refine ⟨rfl, fun _ _ => rfl, ?_, fun j hj => State.updRx_rxe_ne _ _ hj⟩
  rw [State.updRx_rxe_same]
  exact hf _

theorem State.startRequester_requested (s : State) (i : Nat) (cfg : Word) : Requested i s (s.startRequester i cfg) := by
  unfold State.startRequester
  extract_lets pc
  exact .trans (.trans (s.put_requested i rfl _) (State.updRx_requested _ i fun _ => rfl)) (State.emit_requested i _ _)

theorem State.trainFrame_requested (s : State) (i g sd k n p : Nat) (release : Bool) :
    Requested i s (s.trainFrame g sd k n p release) := by
  unfold State.trainFrame
  extract_lets ready
  exact .when _ (State.emit_requested i _ s)

theorem State.ltRequester_requested (s : State) (i : Nat) : Requested i s (s.ltRequester i) := by
  unfold State.ltRequester
  split
  · exact .when _ (s.startRequester_requested i _)
  · exact .refl i s

theorem State.sendLt_requested (s : State) (i : Nat) : Requested i s (s.sendLt i) := by
  unfold State.sendLt
  split
  · exact .when _ (State.emit_requested i _ s)
  · exact .refl i s

theorem State.ltFrames_requested (s : State) (i : Nat) : Requested i s (s.ltFrames i) :=
  .when _ ((s.ltRequester_requested i).trans (State.sendLt_requested _ i))

theorem State.requesterGo_requested (s : State) (i : Nat) : Requested i s (s.requesterGo i) := by
  unfold State.requesterGo
  split
  · exact s.ltRequester_requested i
  · split
    · exact .when _ (s.startRequester_requested i _)
    · exact .refl i s

theorem State.framesStart_requested (s : State) (i : Nat) : Requested i s (s.framesStart i) := by
  unfold State.framesStart
  split
  · exact s.ltFrames_requested i
  · split
    · exact .when _ (s.trainFrame_requested i ..)
    · exact .refl i s

/-- What does not read the registers, the receivers and the outputs stays. -/
theorem Requested.apply {α : Type} {i : Nat} (h : Requested i s t) (π : State → α)
    (hπ : ∀ (x : State) r q o, π { x with regs := r, rx := q, out := o } = π x) : π t = π s := by
  rw [h.same]
  exact hπ ..

theorem Requested.get {i : Nat} (h : Requested i s t) {f : Fld} (hf : f.addr ≠ (LRX.precode i).addr) : t.get f = s.get f := by
  unfold State.get
  rw [h.reg _ hf]

/-- A requester procedure stays within its lane-end's receiver and PRECODE. -/
theorem Requested.framed {i : Nat} (h : Requested i s t) (hl : (LRX.precode i).addr ∈ l)
    (hm : ∀ (x : State) r, m { x.base with rx := r } = m x.base) : Framed m l s t := by
  refine ⟨?_, fun a _ ha => h.reg a fun e => ha (e ▸ hl)⟩
  have hb : t.base = { s.base with rx := t.rx } := by
    rw [h.same]
    rfl
  rw [hb, hm]

theorem Framed.requested {i : Nat} (h : Framed m l s t) (k : Requested i t u) (hl : (LRX.precode i).addr ∈ l)
    (hm : ∀ (x : State) r, m { x.base with rx := r } = m x.base) : Framed m l s u := h.trans (k.framed hl hm)

/-! A lane-end is back: its cause is present again where the collector sees one. -/

theorem State.leBack_eq (s : State) (n : Nat) : s.leBack n = { s with causes := (s.leBack n).causes } := by
  unfold State.leBack
  cases s.leSeen n with
  | true => rfl
  | false => rfl

@[simp] theorem State.leBack_rxe (s : State) (n : Nat) (i : Nat) : (s.leBack n).rxe i = s.rxe i := by
  rw [s.leBack_eq n]
  rfl

@[simp] theorem State.leBack_txe (s : State) (n : Nat) (i : Nat) : (s.leBack n).txe i = s.txe i := by
  rw [s.leBack_eq n]
  rfl

@[simp] theorem State.leBack_reg (s : State) (n : Nat) (a : Nat) : (s.leBack n).reg a = s.reg a := by
  rw [s.leBack_eq n]
  rfl

@[simp] theorem State.leBack_get (s : State) (n : Nat) (f : Fld) : (s.leBack n).get f = s.get f := by
  rw [s.leBack_eq n]
  rfl

@[simp] theorem State.leBack_segs (s : State) (n : Nat) : (s.leBack n).segs = s.segs := by
  rw [s.leBack_eq n]

@[simp] theorem State.leBack_rx (s : State) (n : Nat) : (s.leBack n).rx = s.rx := by
  rw [s.leBack_eq n]

theorem State.leBack_causes (s : State) {n k : Nat} (h : k ≠ n) : (s.leBack n).causes.testBit k = s.causes.testBit k := by
  unfold State.leBack
  cases s.leSeen n with
  | false => rfl
  | true =>
    change (s.causes ||| 2 ^ n).testBit k = _
    rw [Nat.testBit_or, Nat.testBit_two_pow_of_ne h.symm, Bool.or_false]

theorem Framed.leBack (h : Framed m l s t) (n : Nat) (hm : ∀ (x : State) c, m { x.base with causes := c } = m x.base) :
    Framed m l s (t.leBack n) := by
  refine h.trans ⟨?_, fun _ _ _ => ?_⟩
  · have hb : (t.leBack n).base = { t.base with causes := (t.leBack n).causes } := by
      rw [t.leBack_eq n]
      rfl
    rw [hb, hm]
  · rw [t.leBack_eq n]
    rfl

end Sys2Proof.Machine
end

section
/-! PROOFS. Lane-ends that become ACTIVE (R398, R410). -/

namespace Sys2Proof.Machine

variable {s t u : State} {m : State → State} {l : List Nat}

/-- The receiver's island is up, before what falls due on its return. -/
def State.rxIslandUp (s : State) (i : Nat) : State :=
  ((s.put (LRX.pwr i) 2).leBack i).updRx i (fun r => { r with starting := false, windowBad := true, fg := !r.fgDone })

/-- The transmitter's island is up, before what falls due on its return. -/
def State.txIslandUp (s : State) (i : Nat) : State :=
  ((s.put (LTX.pwr i) 2).leBack (68 + i)).updTx i (fun t => { t with starting := false, fg := !t.fgDone })

/-- What a transmitter sends in WAKING until its direction has codeword lock. -/
def State.wakingSends (s : State) (i : Nat) : State :=
  match s.groupOf i with
  | some g =>
    if s.get (PWR.lpstat g) = 3 then
      s.updTx i (fun t => { t with
        comet := !(s.port g).wake.testBit (i / 34), idleHold := !s.on (DIR.cwLock (inEngine (1 - i / 34)) g) })
    else s
  | none => s

theorem State.rxIslandUp_rxe (s : State) (i : Nat) :
    (s.rxIslandUp i).rxe i = { s.rxe i with starting := false, windowBad := true, fg := !(s.rxe i).fgDone } := by
  rw [State.rxIslandUp, State.updRx_rxe_same, State.leBack_rxe, State.put_rxe]

theorem State.rxIslandUp_others (s : State) {i j : Nat} (h : j ≠ i) : (s.rxIslandUp i).rxe j = s.rxe j := by
  rw [State.rxIslandUp, State.updRx_rxe_ne _ _ h, State.leBack_rxe, State.put_rxe]

theorem Framed.rxIslandUp (h : Framed m l s t) (i : Nat) (hl : (LRX.pwr i).addr ∈ l)
    (hm : ∀ (x : State) r, m { x.base with rx := r } = m x.base)
    (hm' : ∀ (x : State) c, m { x.base with causes := c } = m x.base) : Framed m l s (t.rxIslandUp i) :=
  .updRx (.leBack (.put h _ (.inr hl)) _ hm') _ _ fun x => hm x _

theorem State.rxIslandUp_causes (s : State) {i n : Nat} (h : n ≠ i) :
    (s.rxIslandUp i).causes.testBit n = s.causes.testBit n := by
  rw [State.rxIslandUp, State.updRx_causes, State.leBack_causes _ h, State.put_causes]

theorem State.rxIslandUp_active (s : State) (i : Nat) : (s.rxIslandUp i).get (LRX.pwr i) = 2 := by
  rw [State.rxIslandUp, State.updRx_get, State.leBack_get]
  exact s.get_put_same (LRX.pwr i) 2 (show 13 + 2 ≤ 32 by decide)

theorem State.rxIslandUp_mapAlike (s : State) (i : Nat) (hi : i < 68) : MapAlike s (s.rxIslandUp i) := by
  refine .of_ne (b := (LRX.pwr i).addr) ?_ ?_ (fun a ha => ?_) ?_
  · simp only [LRX.pwr, LRX.base]
    omega
  · simp only [LRX.pwr, LRX.base]
    omega
  · rw [State.rxIslandUp, State.updRx_reg, State.leBack_reg]
    exact s.reg_put_ne _ _ ha
  · rw [State.rxIslandUp, State.updRx_segs, State.leBack_segs, State.put_segs]

/-- Where no sweep and no verdict is owed, no more than the island comes up. -/
theorem State.rxUp_of (s : State) {i : Nat} (hi : i < 68) (hsweep : (s.rxe i).fgDone = false ∨ s.sweepDue i = false)
    (hdue : (s.rxe i).due = false) : s.rxUp i = s.rxIslandUp i := by
  unfold State.rxUp
  rw [← State.rxIslandUp]
  have hx := s.rxIslandUp_rxe i
  have hno : (((s.rxIslandUp i).rxe i).fgDone && (s.rxIslandUp i).sweepDue i) = false := by
    rw [hx, (s.rxIslandUp_mapAlike i hi).sweepDue hi]
    rcases hsweep with h | h <;> simp [h]
  have hnodue : ((s.rxIslandUp i).rxe i).due = false := by
    rw [hx]
    exact hdue
  extract_lets u v
  have hv : v = u := if_neg (by simpa using hno)
  rw [hv]
  exact if_neg (by simpa using hnodue)

theorem State.wakingSends_cases (s : State) (i : Nat) :
    s.wakingSends i = s ∨ ∃ c h, s.wakingSends i = s.updTx i (fun t => { t with comet := c, idleHold := h }) := by
  unfold State.wakingSends
  split
  · split
    · exact .inr ⟨_, _, rfl⟩
    · exact .inl rfl
  · exact .inl rfl

theorem State.txIslandUp_txe (s : State) (i : Nat) :
    (s.txIslandUp i).txe i = { s.txe i with starting := false, fg := !(s.txe i).fgDone } := by
  rw [State.txIslandUp, State.updTx_txe_same, State.leBack_txe, State.put_txe]

theorem State.txIslandUp_others (s : State) {i j : Nat} (h : j ≠ i) : (s.txIslandUp i).txe j = s.txe j := by
  rw [State.txIslandUp, State.updTx_txe_ne _ _ h, State.leBack_txe, State.put_txe]

theorem State.txIslandUp_causes (s : State) {i n : Nat} (h : n ≠ 68 + i) :
    (s.txIslandUp i).causes.testBit n = s.causes.testBit n := by
  rw [State.txIslandUp, State.updTx_causes, State.leBack_causes _ h, State.put_causes]

theorem State.txIslandUp_active (s : State) (i : Nat) : (s.txIslandUp i).get (LTX.pwr i) = 2 := by
  rw [State.txIslandUp, State.updTx_get, State.leBack_get]
  exact s.get_put_same (LTX.pwr i) 2 (show 9 + 2 ≤ 32 by decide)

theorem State.txIslandUp_rx (s : State) (i : Nat) : (s.txIslandUp i).rx = s.rx := by
  rw [State.txIslandUp, State.updTx_rx, State.leBack_rx, State.put_rx]

theorem State.txIslandUp_reg (s : State) (i : Nat) {a : Nat} (h : a ≠ (LTX.pwr i).addr) : (s.txIslandUp i).reg a = s.reg a := by
  rw [State.txIslandUp, State.updTx_reg, State.leBack_reg]
  exact s.reg_put_ne _ _ h

theorem State.txIslandUp_mapAlike (s : State) (i : Nat) (hi : i < 68) : MapAlike s (s.txIslandUp i) := by
  refine .of_ne (b := (LTX.pwr i).addr) ?_ ?_ (fun a ha => s.txIslandUp_reg i ha) ?_
  · simp only [LTX.pwr, LTX.base]
    omega
  · simp only [LTX.pwr, LTX.base]
    omega
  · rw [State.txIslandUp, State.updTx_segs, State.leBack_segs, State.put_segs]

/-- The two states agree but for the registers, the transmitters and the causes. -/
def SameButTx (s t : State) : Prop := t = { s with regs := t.regs, tx := t.tx, causes := t.causes }

/-- What a transmitter that is up has become of the state before, but for what it sends in WAKING. -/
structure TxCameUp (i : Nat) (s t : State) : Prop where
  same : SameButTx s t
  reg : ∀ a, a ≠ (LTX.pwr i).addr → t.reg a = s.reg a
  active : t.get (LTX.pwr i) = 2
  fg : (t.txe i).fg = !(s.txe i).fgDone
  starting : (t.txe i).starting = false
  fgDone : (t.txe i).fgDone = (s.txe i).fgDone
  dues : (t.txe i).dues = (s.txe i).dues
  others : ∀ j, j ≠ i → t.txe j = s.txe j
  causes : ∀ n, n ≠ 68 + i → t.causes.testBit n = s.causes.testBit n

theorem SameButRegs.leBack_updTx (h : SameButRegs s u) (n i : Nat) (f : TxEnd → TxEnd) :
    SameButTx s ((u.leBack n).updTx i f) := by
  unfold SameButTx
  rw [u.leBack_eq n, h]
  rfl

theorem State.txIslandUp_cameUp (s : State) (i : Nat) : TxCameUp i s (s.txIslandUp i) where
  same := SameButRegs.leBack_updTx (.put (.refl s) _ _) _ _ _
  reg := fun _ ha => s.txIslandUp_reg i ha
  active := s.txIslandUp_active i
  fg := by rw [State.txIslandUp_txe]
  starting := by rw [State.txIslandUp_txe]
  fgDone := by rw [State.txIslandUp_txe]
  dues := by rw [State.txIslandUp_txe]
  others := fun _ hj => s.txIslandUp_others hj
  causes := fun _ hn => s.txIslandUp_causes hn

theorem TxCameUp.updTx {i : Nat} (h : TxCameUp i s t) {f : TxEnd → TxEnd} (hfg : ∀ x, (f x).fg = x.fg)
    (hst : ∀ x, (f x).starting = x.starting) (hdone : ∀ x, (f x).fgDone = x.fgDone) (hdues : (f (t.txe i)).dues = (s.txe i).dues) :
    TxCameUp i s (t.updTx i f) := by
  obtain ⟨hs, hr, ha, hf, hst', hd, hdu, ho, hc⟩ := h
  refine ⟨?_, fun a ha => hr a ha, ha, ?_, ?_, ?_, ?_, fun j hj => ?_, hc⟩
  · rw [hs]
    rfl
  · rw [State.updTx_txe_same, hfg, hf]
  · rw [State.updTx_txe_same, hst, hst']
  · rw [State.updTx_txe_same, hdone, hd]
  · rw [State.updTx_txe_same, hdues]
  · rw [State.updTx_txe_ne _ _ hj, ho j hj]

theorem TxCameUp.mapAlike {i : Nat} (h : TxCameUp i s t) (hi : i < 68) : MapAlike s t := by
  refine .of_ne (b := (LTX.pwr i).addr) ?_ ?_ h.reg ?_
  · simp only [LTX.pwr, LTX.base]
    omega
  · simp only [LTX.pwr, LTX.base]
    omega
  · rw [h.same]

theorem TxCameUp.ltRunning {i : Nat} (h : TxCameUp i s t) (j : Nat) : t.ltRunning j = s.ltRunning j := by
  rw [h.same]
  rfl

theorem TxCameUp.framed {i : Nat} (h : TxCameUp i s t) (hl : (LTX.pwr i).addr ∈ l)
    (hm : ∀ (x : State) q c, m { x.base with tx := q, causes := c } = m x.base) : Framed m l s t := by
  refine ⟨?_, fun a _ ha => h.reg a fun e => ha (e ▸ hl)⟩
  have hb : t.base = { s.base with tx := t.tx, causes := t.causes } := by
    rw [h.same]
    rfl
  rw [hb, hm]

theorem State.wakingSends_cameUp {i : Nat} (h : TxCameUp i s t) : TxCameUp i s (t.wakingSends i) := by
  obtain he | ⟨c, k, he⟩ := t.wakingSends_cases i
  · rwa [he]
  · rw [he]
    exact h.updTx (fun _ => rfl) (fun _ => rfl) (fun _ => rfl) h.dues

/-- Where no sweep and no verdict is owed, no more than the island comes up. -/
theorem State.txUp_of (s : State) {i : Nat} (hi : i < 68) (hsweep : (s.txe i).fgDone = false ∨ s.sweepDue i = false)
    (hdues : (s.txe i).dues = []) : TxCameUp i s (s.txUp i) := by
  have hup : TxCameUp i s ((s.txIslandUp i).wakingSends i) := State.wakingSends_cameUp (s.txIslandUp_cameUp i)
  have hno : ((((s.txIslandUp i).wakingSends i).txe i).fgDone && ((s.txIslandUp i).wakingSends i).sweepDue i) = false := by
    rw [hup.fgDone, (hup.mapAlike hi).sweepDue hi]
    rcases hsweep with h | h <;> simp [h]
  unfold State.txUp
  extract_lets a b c dues sd p
  have hb : b = (s.txIslandUp i).wakingSends i := rfl
  have hc : c = (s.txIslandUp i).wakingSends i := by
    rw [← hb]
    exact if_neg (by rw [hb]; simpa using hno)
  have hd : dues = [] := by
    unfold dues
    rw [hc, hup.dues, hdues]
  rw [hd, hc]
  exact hup.updTx (f := fun t => { t with dues := [] }) (fun _ => rfl) (fun _ => rfl) (fun _ => rfl) hdues.symm

/-! The commands. -/

/-- What follows a lane-end that comes up: its frames and its requester procedure. -/
def State.cameUpGo (s : State) (c d : Bool) (i : Nat) : State :=
  s.when c fun u => (u.when d fun v => v.framesStart i).requesterGo i

theorem State.cameUpGo_requested (s : State) (c d : Bool) (i : Nat) : Requested i s (s.cameUpGo c d i) :=
  .when _ (.trans (.when _ (State.framesStart_requested _ _)) (State.requesterGo_requested _ _))

theorem execLaneEndActive_of (fn : LaneFn) (sd : Side) (p : Pos) (s : State) :
    ∃ c d, exec (.laneEndActive fn sd p) s = .next ((s.activated fn (laneIdx sd p)).cameUpGo c d (laneIdx sd p)) := ⟨_, _, rfl⟩

theorem State.framesGo_of_fg {i : Nat} (h : (s.txe i).fg = true) : s.framesGo i = false := by
  simp [State.framesGo, h]

theorem State.calibrated_of_fg {i : Nat} (h : (s.txe i).fg = true) : s.calibrated i = false := by
  simp [State.calibrated, State.framesGo_of_fg h]

/-- A lane-end that takes no part in training, or trains nothing, asks for nothing. -/
theorem State.requesterGo_idle {i : Nat} (h : (s.txe i).fg = true ∨ s.ltRunning i = false ∧ s.posState (i / 34) (i % 34) ≠ 3) :
    s.requesterGo i = s := by
  unfold State.requesterGo
  rcases h with h | ⟨hlt, hpos⟩
  · have hcal := State.calibrated_of_fg h
    split
    · unfold State.ltRequester
      split
      · exact State.when_false _ (by simp [hcal])
      · rfl
    · split
      · exact State.when_false _ (by simp [hcal])
      · rfl
  · rw [if_neg (by simp [hlt])]
    split
    · next g n hc =>
      have hst : s.segState g (i / 34) (s.portOfLane g n) ≠ 3 := by
        simpa only [State.posState, hc] using hpos
      exact State.when_false _ (by simp [stEq, hst])
    · rfl

/-- The two states agree but for the outputs. -/
def SameButOut (s t : State) : Prop := t = { s with out := t.out }

theorem SameButOut.when {f : State → State} (c : Bool) (h : SameButOut s (f s)) : SameButOut s (s.when c f) := by
  cases c with
  | true => exact h
  | false => exact rfl

theorem State.trainFrame_out (s : State) (g sd k n p : Nat) (release : Bool) : SameButOut s (s.trainFrame g sd k n p release) := by
  unfold State.trainFrame
  extract_lets ready
  exact .when _ rfl

theorem State.framesStart_out {i : Nat} (h : (s.txe i).fg = true ∨ s.ltRunning i = false ∧ s.posState (i / 34) (i % 34) ≠ 3) :
    SameButOut s (s.framesStart i) := by
  unfold State.framesStart
  split
  · next hlt =>
    rcases h with h | ⟨hno, -⟩
    · rw [State.ltFrames, State.when_false _ (State.framesGo_of_fg h)]
      exact rfl
    · rw [hno] at hlt
      cases hlt
  · split
    · extract_lets k
      exact .when _ (s.trainFrame_out ..)
    · exact rfl

/-- Then the follow-up of a lane-end that comes up leaves the receivers alone. -/
theorem State.cameUpGo_rx {i : Nat} (h : (s.txe i).fg = true ∨ s.ltRunning i = false ∧ s.posState (i / 34) (i % 34) ≠ 3)
    (c d : Bool) : (s.cameUpGo c d i).rx = s.rx := by
  have hf : SameButOut s (s.when d fun v => v.framesStart i) := .when _ (State.framesStart_out h)
  cases c with
  | false => rfl
  | true =>
    change ((s.when d fun v => v.framesStart i).requesterGo i).rx = s.rx
    rw [State.requesterGo_idle (by rw [hf]; exact h), hf]

/-- Settles O8: an island that comes up takes its lane-end to ACTIVE, and only a requester procedure may follow. -/
theorem laneEndsBecomeActive : Obligations.LaneEndsBecomeActive := by
  refine ⟨?_, ?_, ?_, ?_, ?_, ?_⟩
  · intro s sd p hrun hwant hact hnext
    refine ⟨s.updRx (laneIdx sd p) (fun r => { r with starting := true }), congrArg Host.Outcome.next ?_, ?_, rfl,
      fun i hi => State.updRx_rxe_ne _ _ hi⟩
    · refine (if_pos ?_).trans (if_neg ?_)
      · simp [State.running_iff.mpr hrun, hwant, hnext]
      · simp [hact]
    · rw [State.updRx_rxe_same]
  · intro s sd p hrun hwant hact hnext
    refine ⟨s.updTx (laneIdx sd p) (fun r => { r with starting := true }), congrArg Host.Outcome.next ?_, ?_, rfl,
      fun i hi => State.updTx_txe_ne _ _ hi⟩
    · refine (if_pos ?_).trans (if_neg ?_)
      · simp [State.running_iff.mpr hrun, hwant, hnext]
      · simp [hact]
    · rw [State.updTx_txe_same]
  · intro s fn sd p hnext
    exact congrArg Host.Outcome.next (if_neg (by simp [hnext]))
  · intro s sd p hwant hst hsweep hdue
    have hi := laneIdx_lt sd p
    obtain ⟨c, d, hexec⟩ := execLaneEndActive_of .rx sd p s
    have hup : s.activated .rx (laneIdx sd p) = s.rxIslandUp (laneIdx sd p) :=
      (if_pos (decide_eq_true hwant)).trans ((if_pos hst).trans (s.rxUp_of hi hsweep hdue))
    rw [hup] at hexec
    have hreq := (s.rxIslandUp (laneIdx sd p)).cameUpGo_requested c d (laneIdx sd p)
    refine ⟨_, hexec, ?_, ?_, ?_, fun i hne => ?_, fun n hn => ?_, ?_⟩
    · refine decide_eq_true ((hreq.get ?_).trans (s.rxIslandUp_active _))
      simp [LRX.pwr, LRX.precode]
    · rw [hreq.rxe, s.rxIslandUp_rxe]
    · rw [hreq.rxe, s.rxIslandUp_rxe]
    · rw [hreq.others i hne, s.rxIslandUp_others hne]
    · rw [hreq.apply (fun x => x.causes) (fun _ _ _ _ => rfl), s.rxIslandUp_causes hn]
    · exact .requested (.rxIslandUp (.refl ..) _ (by simp) (fun _ _ => rfl) (fun _ _ => rfl)) hreq (by simp) (fun _ _ => rfl)
  · intro s sd p hwant hst hsweep hdues
    have hi := laneIdx_lt sd p
    obtain ⟨c, d, hexec⟩ := execLaneEndActive_of .tx sd p s
    have hup : s.activated .tx (laneIdx sd p) = s.txUp (laneIdx sd p) := (if_pos (decide_eq_true hwant)).trans (if_pos hst)
    have hcame := s.txUp_of hi hsweep hdues
    rw [hup] at hexec
    have hreq := (s.txUp (laneIdx sd p)).cameUpGo_requested c d (laneIdx sd p)
    have htxe (j : Nat) := hreq.apply (fun x => x.txe j) fun _ _ _ _ => rfl
    refine ⟨_, hexec, ?_, ?_, ?_, fun hidle => ?_, fun i hne => ⟨?_, ?_⟩, fun n hn => ?_, ?_⟩
    · refine decide_eq_true ((hreq.get ?_).trans hcame.active)
      simp only [LTX.pwr, LTX.base, LRX.precode, LRX.base]
      omega
    · rw [htxe, hcame.fg]
    · rw [htxe, hcame.starting]
    · rw [State.cameUpGo_rx, hcame.same]
      rw [hcame.fg, hcame.ltRunning, (hcame.mapAlike hi).posState (by omega) (by omega)]
      exact hidle.imp_left fun h => by rw [h]; rfl
    · rw [htxe, hcame.others i hne]
    · rw [hreq.others i hne, hcame.same]
      rfl
    · rw [hreq.apply (fun x => x.causes) (fun _ _ _ _ => rfl), hcame.causes n hn]
    · exact .requested (hcame.framed (by simp) fun _ _ _ => rfl) hreq (by simp) fun _ _ => rfl
  · intro s sd p
    exact ⟨_, rfl, by rw [State.updTx_txe_same], rfl, fun i hi => State.updTx_txe_ne _ _ hi⟩

end Sys2Proof.Machine
end

section
/-! PROOFS. Restart and loss of a segment, and the coefficient protocol (R99, R109, R110). -/

namespace Sys2Proof.Machine

variable {s t u : State} {m : State → State} {l : List Nat}

theorem tapSum_append (l : List Int) (v : Int) : tapSum (l ++ [v]) = tapSum l + v.natAbs := by
  simp [tapSum, List.foldl_append]

/-- The taps of an initial condition: each is held to what those before it have left of the sum of 64. -/
theorem tapSum_initTaps_le (rate medium : Nat) (cfl : Bool) (cond : Nat) : tapSum (initTaps rate medium cfl cond) ≤ 64 := by
  have hstep (field : Nat → Int) (ks : List Nat) (acc : List Int × Int) (hpos : 0 ≤ acc.2) (hacc : tapSum acc.1 + acc.2 = 64) :
      tapSum (ks.foldl (fun (acc : List Int × Int) k => (acc.1 ++ [clampInt (-acc.2) acc.2 (field k)],
        acc.2 - (clampInt (-acc.2) acc.2 (field k)).natAbs)) acc).1 ≤ 64 := by
    induction ks generalizing acc with
    | nil =>
      change tapSum acc.1 ≤ 64
      omega
    | cons k ks ih =>
      have hc : (clampInt (-acc.2) acc.2 (field k)).natAbs ≤ acc.2 := by
        rw [clampInt_eq _ (by omega)]
        omega
      refine ih _ (by change 0 ≤ acc.2 - _; omega) ?_
      change ((tapSum (acc.1 ++ [_]) : Nat) : Int) + (acc.2 - _) = 64
      rw [tapSum_append]
      omega
  unfold initTaps
  extract_lets field
  exact hstep field _ ([], 64) (by decide) rfl

theorem getD_setNth {α : Type} {l : List α} {k : Nat} (h : k < l.length) (v d : α) : (setNth l k v).getD k d = v := by
  induction l generalizing k with
  | nil => cases h
  | cons x l ih =>
    cases k with
    | zero => rfl
    | succ k => exact ih (Nat.lt_of_succ_lt_succ h)

/-- A tap that a request may move, moved. -/
theorem State.moveTap_of {i k : Nat} {d : Int} (hk : k < 4 ∨ k = 4 ∧ s.addressesC2 i = true)
    (hlo : -64 ≤ (s.txe i).taps.getD k 0 + d) (hhi : (s.txe i).taps.getD k 0 + d ≤ 63)
    (hsum : tapSum (setNth (s.txe i).taps k ((s.txe i).taps.getD k 0 + d)) ≤ 64) :
    s.moveTap i k d = (s.updTx i (fun t => { t with
      taps := setNth (s.txe i).taps k ((s.txe i).taps.getD k 0 + d) })).emit (.coefStatus i k 1) := by
  refine if_pos ⟨by omega, ?_, hlo, hhi, hsum⟩
  rcases hk with hk | ⟨-, hc⟩
  · exact .inl hk
  · exact .inr hc

/-- A tap at a limit stays. -/
theorem State.moveTap_limit {i k : Nat} {d : Int} (h : k = 5 ∨ k = 4 ∧ s.addressesC2 i = false ∨
    (s.txe i).taps.getD k 0 + d < -64 ∨ 63 < (s.txe i).taps.getD k 0 + d ∨
    64 < tapSum (setNth (s.txe i).taps k ((s.txe i).taps.getD k 0 + d))) :
    s.moveTap i k d = s.emit (.coefStatus i k 2) := by
  refine if_neg ?_
  rintro ⟨h5, hc, hlo, hhi, hsum⟩
  rcases h with h | ⟨h, hno⟩ | h | h | h
  · omega
  · rcases hc with hc | hc
    · omega
    · rw [hno] at hc
      cases hc
  · omega
  · omega
  · omega

/-- A segment in UP is lost: cause and event, before its attempts begin again. -/
def State.lossNoted (s : State) (g sd k cause : Nat) : State := (s.put (GLB.tsCause g sd k) cause).raise GLB.event 8

theorem State.segLost_of {g sd k : Nat} (h : s.segState g sd k = 6) (cause : Nat) :
    s.segLost g sd k cause = (((((s.lossNoted g sd k cause).segEnds g sd).startAttempt g sd k).lossOther g sd k).segEval g sd k) :=
  if_pos h

theorem GLB.trnStat_block (g : Port) {sd : Nat} (hsd : sd < 2) (k : Nat) : GLB.trnStat g sd k / 0x10000 ≠ 3 ∧
    GLB.trnStat g sd k ≠ GLB.event := by
  have hg := g.isLt
  unfold GLB.trnStat GLB.trnBase GLB.event
  split <;> omega

theorem State.lossNoted_spec (s : State) (g : Port) (sd : Side) (k : Nat) {cause : Nat} (hc : cause < 16) :
    (s.lossNoted g sd.idx k cause).get (GLB.tsCause g sd.idx k) = cause ∧
    ((s.lossNoted g sd.idx k cause).reg GLB.event).getLsbD 8 = true ∧
    Framed id [GLB.trnStat g sd.idx k, GLB.event] s (s.lossNoted g sd.idx k cause) := by
  obtain ⟨h3, hne⟩ := GLB.trnStat_block g (Side.idx_lt sd) k
  refine ⟨?_, State.raise_bit _ _ (by decide) (by decide), .raise (.put (.refl ..) _ (.inr (by simp [GLB.tsCause]))) _ (by simp)⟩
  rw [State.lossNoted, State.get_raise _ _ _ h3 hne, State.get_put_same _ (GLB.tsCause ..) _ (show 4 + 4 ≤ 32 by decide)]
  exact Nat.mod_eq_of_lt hc

/-- A stopped segment goes to OFF. -/
def State.stoppedOff (s : State) (g sd k : Nat) : State := (s.setSeg g sd k stOff).put (GLB.tsAttempts g sd k) 0

theorem State.restart_of {g sd : Nat} (hscan : s.scanRunning = false) (hcfl : s.cfl g = true) :
    s.restart g sd = if s.segState g sd 0 = 8 then (s.stoppedOff g sd 0).segEval g sd 0 else s := by
  refine (if_neg (by simp [hscan])).trans ?_
  rw [State.portKeys, if_pos hcfl]
  rfl

theorem State.stoppedOff_spec (s : State) (g : Port) (sd : Nat) :
    (s.stoppedOff g sd 0).segState g sd 0 = 0 ∧ (s.stoppedOff g sd 0).get (GLB.tsAttempts g sd 0) = 0 ∧
    Framed id [GLB.trnStat g sd 0] s (s.stoppedOff g sd 0) := by
  refine ⟨?_, State.get_put_same _ (GLB.tsAttempts ..) _ (show 8 + 4 ≤ 32 by decide),
    .put (.put (.refl ..) _ (.inr (by simp [GLB.tsState]))) _ (.inr (by simp [GLB.tsAttempts]))⟩
  rw [State.segState, State.stoppedOff, State.setSeg, State.get_put_apart _ _ (show 0 + 4 ≤ 32 by decide) (.inr (.inl (show 0 + 4 ≤ 8 by decide))),
    State.get_put_same _ (GLB.tsState ..) _ (show 0 + 4 ≤ 32 by decide)]
  rfl

theorem execSegmentRestart_of {g : Port} (hw : s.writeTakes (GLB.trnCtrl g) = true) (a b : Bool) :
    exec (.segmentRestart g a b) s = .next ((s.when a fun u => u.restart g 0).when b fun u => u.restart g 1).goOn :=
  congrArg Host.Outcome.next (State.soft_on hw _)

/-- What LOST does to a segment in UP. -/
theorem State.lost_of (g : Port) (k : LaneN) (sd : Side) (h : s.segState g sd.idx k = 6) (hexec : t = (s.segLost g sd.idx k caLost).goOn) :
    ∃ u : State, (.next t : Host.Outcome State Fault Refusal) =
      .next ((((((u.segEnds g sd.idx).startAttempt g sd.idx k).lossOther g sd.idx k).segEval g sd.idx k)).goOn) ∧
      u.get (GLB.tsCause g sd.idx k) = 10 ∧ (u.reg GLB.event).getLsbD 8 = true ∧
      Framed id [GLB.trnStat g sd.idx k, GLB.event] s u := by
  refine ⟨_, ?_, s.lossNoted_spec g sd k (by decide)⟩
  rw [hexec, State.segLost_of h]
  rfl

/-- The estimate of a requester procedure with 2^16 UI in its histogram. -/
theorem execCoefStatus_of {sd : Side} {p : Pos} {bins : List Word} (hreq : s.requesting (laneIdx sd p) = true)
    (hlen : bins.length = 128) (htot : binTotal bins = 65536) (st : CoefStat) :
    exec (.coefStatus sd p st bins) s = .next (s.coefStatus (laneIdx sd p) st (s.snrMean bins)).useFree4 :=
  (if_pos (decide_eq_true hlen)).trans (congrArg Host.Outcome.next (State.when_true _ (by rw [hreq, htot]; rfl)))

theorem State.useFree4_rxe (s : State) (i : Nat) : s.useFree4.rxe i = s.rxe i := rfl

/-- What a status `updated` makes of an estimate in progress. -/
theorem State.coefStatus_updated {i : Nat} {q : Req} (hq : (s.rxe i).req = some q) (hstep : q.step ≠ 0) (hrev : q.rev = false)
    (snr : Nat) : s.coefStatus i .updated snr = if 10 * snr < 10 * q.best + 16 then
      (s.updRx i (fun r => { r with req := some { q with rev := true } })).emit
        (.coefRequest i ((tapOrder (s.addressesC2 i)).getD (q.step - 1) 0) (if q.inc then -1 else 1))
    else (s.updRx i (fun r => { r with req := some { q with best := snr } })).emit
        (.coefRequest i ((tapOrder (s.addressesC2 i)).getD (q.step - 1) 0) (if q.inc then 1 else -1)) := by
  simp only [State.coefStatus, hq, if_neg hstep, hrev]
  rfl

/-- Settles O19. -/
theorem segmentLossAndCoefficients : Obligations.SegmentLossAndCoefficients := by
  refine ⟨?_, ?_, ?_, ?_, ?_, ?_, ?_, ?_, ?_, ?_, ?_, ?_, ?_, ?_, ?_, ?_, ?_, ?_, ?_⟩
  · intro s g hw hscan hcfl hst
    refine ⟨s.stoppedOff g 0 0, (execSegmentRestart_of hw true false).trans ?_, s.stoppedOff_spec g 0⟩
    rw [State.when_true _ rfl, State.when_false _ rfl, State.restart_of hscan hcfl, if_pos hst]
  · intro s g hw hscan hcfl hst
    refine ⟨s.stoppedOff g 1 0, (execSegmentRestart_of hw false true).trans ?_, s.stoppedOff_spec g 1⟩
    rw [State.when_false _ rfl, State.when_true _ rfl, State.restart_of hscan hcfl, if_pos hst]
  · intro s g a b hw hscan hcfl h0 h1
    refine (execSegmentRestart_of hw a b).trans ?_
    have hr0 : (s.when a fun u => u.restart g 0) = s := by
      rw [State.when, State.restart_of hscan hcfl, if_neg h0, ite_self]
    rw [hr0, State.when, State.restart_of hscan hcfl, if_neg h1, ite_self]
  · intro s g hw hscan
    refine ⟨s.raise GLB.event 0, (execSegmentRestart_of hw true false).trans ?_, State.raise_bit _ _ (by decide) (by decide),
      .raise (.refl ..) _ (by simp)⟩
    rw [State.when_false _ rfl, State.when_true _ rfl, State.restart, if_pos hscan]
  · intro s g k sd hne hlos hlow hst
    refine State.lost_of g k sd hst (if_pos ?_)
    rw [List.all_eq_true.mpr hlos, hlow]
    cases hp : s.positions g sd.idx k with
    | nil => exact absurd hp hne
    | cons => rfl
  · intro s g k sd p hcfl hp hlos hst
    refine State.lost_of g k sd hst (if_pos ?_)
    rw [hcfl, List.any_eq_true.mpr ⟨p, hp, by rcases hlos with h | h <;> simp [h]⟩]
    rfl
  · intro s g k sd hpers hcw hever hlow hst
    refine State.lost_of g k sd hst (if_pos ?_)
    rw [if_neg hpers, hcw, hever, hlow]
    rfl
  · intro s g k sd hpers hlock hlow hst
    refine State.lost_of g k sd hst (if_pos ?_)
    rw [if_pos hpers, hlow, List.any_eq_false.mpr (fun p hp => by simp [hlock p hp])]
    rfl
  · intro s g k sd
    cases h : s.ethStream g (1 - sd.idx) k with
    | true =>
      refine ⟨_, congrArg Host.Outcome.next (if_pos h), fun _ => ?_, fun e => absurd e (by simp), rfl⟩
      rw [State.updSeg_seg_same]
    | false =>
      exact ⟨_, congrArg Host.Outcome.next (if_neg (by simp [h])), fun e => absurd e (by simp), fun _ => rfl, rfl⟩
  · rintro s sd p i rfl hopen
    exact ⟨_, congrArg Host.Outcome.next (State.when_true _ hopen), rfl⟩
  · rintro s sd p i g cond rfl hopen hcond rfl
    refine ⟨_, (if_pos (decide_eq_true hcond)).trans (congrArg Host.Outcome.next (State.when_true _ hopen)), ?_, ?_, rfl, rfl⟩
    · change ((State.updTx ..).emit _ |>.txe _).taps = _
      rw [State.emit_txe, State.updTx_txe_same]
    · change tapSum ((State.updTx ..).emit _ |>.txe _).taps ≤ 64
      rw [State.emit_txe, State.updTx_txe_same]
      exact tapSum_initTaps_le ..
  · rintro s sd p i k rfl hopen hk hlen hlo hhi hsum
    refine ⟨_, congrArg Host.Outcome.next ((State.when_true _ hopen).trans (State.moveTap_of ?_ ?_ ?_ hsum)), ?_, rfl, rfl⟩
    · exact hk
    · omega
    · omega
    · rw [State.emit_txe, State.updTx_txe_same]
      exact getD_setNth (by omega) _ _
  · rintro s sd p i k rfl hopen hk hlen hlo hhi hsum
    refine ⟨_, congrArg Host.Outcome.next ((State.when_true _ hopen).trans (State.moveTap_of ?_ ?_ ?_ hsum)), ?_, rfl, rfl⟩
    · exact hk
    · omega
    · omega
    · rw [State.emit_txe, State.updTx_txe_same]
      exact getD_setNth (by omega) _ _
  · rintro s sd p i k rfl hopen hk
    refine ⟨_, congrArg Host.Outcome.next ((State.when_true _ hopen).trans (State.moveTap_limit ?_)), rfl⟩
    rcases hk with h | h | h | h
    · exact .inl h
    · exact .inr (.inl h)
    · exact .inr (.inr (.inl (by omega)))
    · exact .inr (.inr (.inr (.inr h)))
  · rintro s sd p i k rfl hopen hk
    refine ⟨_, congrArg Host.Outcome.next ((State.when_true _ hopen).trans (State.moveTap_limit ?_)), rfl⟩
    rcases hk with h | h | h | h
    · exact .inl h
    · exact .inr (.inl h)
    · exact .inr (.inr (.inr (.inl (by omega))))
    · exact .inr (.inr (.inr (.inr h)))
  · intro s sd p r hok hopen
    exact (if_pos hok).trans (congrArg Host.Outcome.next (State.when_false _ hopen))
  · rintro s sd p i q bins rfl hreq hlen htot hq hstep hrev hbest
    refine ⟨_, (execCoefStatus_of hreq hlen htot _).trans (congrArg Host.Outcome.next (congrArg State.useFree4
      ((State.coefStatus_updated hq hstep hrev _).trans (if_neg (by omega))))), ?_, rfl, rfl⟩
    rw [State.useFree4_rxe, State.emit_rxe, State.updRx_rxe_same]
  · rintro s sd p i q bins rfl hreq hlen htot hq hstep hrev hbest
    refine ⟨_, (execCoefStatus_of hreq hlen htot _).trans (congrArg Host.Outcome.next (congrArg State.useFree4
      ((State.coefStatus_updated hq hstep hrev _).trans (if_pos hbest)))), ?_, rfl, rfl⟩
    rw [State.useFree4_rxe, State.emit_rxe, State.updRx_rxe_same]
  · intro s sd p st bins
    refine ⟨fun hlen htot => (if_pos (decide_eq_true hlen)).trans (congrArg Host.Outcome.next (State.when_false _ ?_)),
      fun hlen => if_neg (by simp [binsOk, hlen])⟩
    simp [htot]

end Sys2Proof.Machine
end

section
/-! PROOFS. Lane training and shadow copy (R111 to R114, R174). -/

namespace Sys2Proof.Machine

variable {s t u : State} {m : State → State} {l : List Nat}

theorem State.ltRunning_of {i : Nat} {x : LaneTrain} (h : s.lt i = some x) (hst : x.stage = .training) : s.ltRunning i = true := by
  simp only [State.ltRunning, h]
  exact decide_eq_true hst

/-- A frame of a lane training, upright and with a link word of one. -/
theorem State.ltFrame_of {i : Nat} {x : LaneTrain} {o : TrainObs} (h : s.lt i = some x)
    (hup : (o.inverted != decide ((s.rxe i).pol = 1)) = false) (hlink : linkLaneTrain o.link = true) :
    s.ltFrame i o = (s.updTx i (fun t => { t with precode := boolNat o.precode })).setLt i
      (some { x with far := linkRxReady o.link, link := some o.link }) := by
  refine (if_neg (by simp [State.markerInverted, hup])).trans ((if_pos hlink).trans ?_)
  rw [State.updLt, State.updTx_lt, h]
  rfl

theorem State.ltDone_of {i : Nat} {x : LaneTrain} (h : s.lt i = some x) : s.ltDone i =
    if x.stage = .training ∧ x.ready = true ∧ x.far = true ∧ s.ltLinkOk (i / 34) x = true then
      (s.trainedLane i).setLt i (some { x with stage := .trained }) else s := by
  simp only [State.ltDone, h]

theorem State.trainedLane_rxe (s : State) (i : Nat) : (s.trainedLane i).rxe i =
    { (s.applyTaps i (s.txe i).taps).rxe i with acquire := false, fifo := 128, req := none } := by
  rw [State.trainedLane, State.updTx_rxe, State.updRx_rxe_same]

theorem State.applyTaps_txe (s : State) (i : Nat) (taps : List Int) (j : Nat) : (s.applyTaps i taps).txe j = s.txe j := by
  rw [State.applyTaps, State.put_txe]
  exact State.apply_each (fun t => t.txe j) (fun _ _ _ => State.putInt_txe ..) s

theorem State.trainedLane_txe (s : State) (i : Nat) : (s.trainedLane i).txe i = { s.txe i with fifo := 128 } := by
  rw [State.trainedLane, State.updTx_txe_same, State.updRx_txe, State.applyTaps_txe]

theorem Framed.setLt (h : Framed m l s t) (i : Nat) (x : Option LaneTrain) (hm : ∀ y : State, m (y.setLt i x).base = m y.base) :
    Framed m l s (t.setLt i x) := h.step (hm t) rfl

theorem Framed.trainedLane (h : Framed m l s t) (i : Nat) (h1 : LTX.base i + 0x1C ∈ l) (h2 : LTX.base i + 0x24 ∈ l)
    (hr : ∀ (x : State) i f, m (x.updRx i f).base = m x.base) (ht : ∀ (x : State) i f, m (x.updTx i f).base = m x.base) :
    Framed m l s (t.trainedLane i) :=
  .updTx (.updRx (.applyTaps h _ _ h1 h2) _ _ fun _ => hr ..) _ _ fun _ => ht ..

/-- The position's training ends, and it is marked as failed. -/
def State.ltMarked (s : State) (g i : Nat) : State := ((s.endLt i).settleSpares).markFailed g (i / 34) (i % 34) true

theorem State.settleSpares_port (s : State) (g : Nat) : s.settleSpares.port g = s.port g := by
  rw [s.settleSpares_sameRegs]
  rfl

theorem State.settleSpares_lt (s : State) (i : Nat) : s.settleSpares.lt i = s.lt i := by
  rw [s.settleSpares_sameRegs]
  rfl

theorem State.endLt_lt (s : State) (i : Nat) : (s.endLt i).lt i = none := s.setLt_lt_same i none

theorem State.endLt_port (s : State) (i g : Nat) : (s.endLt i).port g = s.port g := rfl

theorem State.markFailed_channel (s : State) (g sd p : Nat) : s.markFailed g sd p true =
    (if p < 32 then s.put (GLB.failed g sd (p % 8)) 1 else s.put (GLB.spareStat sd (p - 32)) 6).updPort g
      (fun r => { r with channel := r.channel ||| 2 ^ chanBit sd p }) := rfl

theorem State.markFailed_lt (s : State) (g sd p i : Nat) : (s.markFailed g sd p true).lt i = s.lt i := by
  rw [State.markFailed_channel, State.updPort_lt]
  split <;> rw [State.put_lt]

theorem State.markFailed_posFailed (s : State) (g : Nat) {sd p : Nat} (hsd : sd < 2) (hp : p < 34) :
    (s.markFailed g sd p true).posFailed g sd p = true := by
  rw [State.markFailed_channel, State.posFailed]
  split
  · have hlt : p % 8 < 8 := Nat.mod_lt _ (by decide)
    rw [State.updPort_on, State.on, State.get_put_same _ _ _ (show 4 + 8 * sd + p % 8 + 1 ≤ 32 by omega)]
    rfl
  · rw [State.updPort_get, State.get_put_same _ _ _ (show 8 * sd + 4 * (p - 32) + 4 ≤ 32 by omega)]
    rfl

theorem State.ltFailed_of {i : Nat} {x : LaneTrain} (h : s.lt i = some x) (hst : x.stage = .training)
    (hjobs : ∀ j ∈ (s.port x.g).jobs, busyMaint j = false ∧ returning j = false) :
    s.ltFailed i = ((s.ltMarked x.g i).ltTaskFails x.g i).goOn := by
  unfold State.ltFailed
  simp only [h]
  rw [if_neg (by simp [hst])]
  split
  · rfl
  · next j hj =>
    have hmem := List.mem_of_find?_eq_some hj
    rw [State.settleSpares_port, State.endLt_port] at hmem
    obtain ⟨hbusy, hret⟩ := hjobs j hmem
    have hkeep := List.find?_some hj
    simp [hbusy, hret] at hkeep

theorem laneIdx_div (sd : Side) (p : Pos) : laneIdx sd p / 34 = sd.idx := by
  have hp := p.isLt
  unfold laneIdx
  omega

theorem laneIdx_mod (sd : Side) (p : Pos) : laneIdx sd p % 34 = p := by
  have hp := p.isLt
  unfold laneIdx
  omega

/-- Settles O20. -/
theorem laneTrainingAndShadowCopy : Obligations.LaneTrainingAndShadowCopy := by
  refine ⟨?_, ?_, ?_, ?_, ?_, ?_⟩
  · rintro s g k sd p o i x rfl hlt hst hact hcdr hfg hheld hup hlink
    refine ⟨(s.updTx (laneIdx sd p) (fun t => { t with precode := boolNat o.precode })).setLt (laneIdx sd p)
      (some { x with far := linkRxReady o.link, link := some o.link }), congrArg Host.Outcome.next ((if_neg ?_).trans
      ((if_pos (State.ltRunning_of hlt hst)).trans (State.ltFrame_of hlt hup hlink))), ?_, ?_, rfl⟩
    · change ¬(!(s.rxActive (laneIdx sd p) && s.on (LRX.cdrLock (laneIdx sd p))) || (s.rxe (laneIdx sd p)).fg ||
        s.bistHeld.testBit (laneIdx sd p)) = true
      rw [hact, hcdr, hfg, hheld]
      decide
    · rw [State.setLt_lt_same]
    · rw [State.setLt_txe, State.updTx_txe_same]
  · rintro s sd p i x w rfl hlt hst hready hfar hw hrate hslack hsegslack hlane
    have hok : s.ltLinkOk (laneIdx sd p / 34) x = true := by
      simp only [State.ltLinkOk, hw, laneIdx_div]
      exact decide_eq_true ⟨hrate, hslack, hsegslack, hlane⟩
    refine ⟨(s.trainedLane (laneIdx sd p)).setLt (laneIdx sd p) (some { x with stage := .trained }),
      congrArg Host.Outcome.next ((State.ltDone_of hlt).trans (if_pos ⟨hst, hready, hfar, hok⟩)), ?_, ?_, ?_, ?_, ?_, ?_, ?_, ?_⟩
    · rw [State.setLt_lt_same]
    · rw [State.setLt_rxe, State.trainedLane_rxe]
    · rw [State.setLt_rxe, State.trainedLane_rxe]
    · rw [State.setLt_rxe, State.trainedLane_rxe]
    · rw [State.setLt_txe, State.trainedLane_txe]
    · rw [State.setLt_txe, State.trainedLane_txe]
    · rw [State.setLt_get, State.trainedLane, State.updTx_get, State.updRx_get, State.applyTaps,
        State.get_put_same _ (LTX.liveMain _) _ (show 8 + 8 ≤ 32 by decide)]
      rfl
    · exact .setLt (.trainedLane (.refl ..) _ (by simp) (by simp) (fun _ _ _ => rfl) (fun _ _ _ => rfl)) _ _ fun _ => rfl
  · intro s sd p x hlt hno
    refine congrArg Host.Outcome.next ((State.ltDone_of hlt).trans (if_neg ?_))
    rintro ⟨-, hready, hfar, hok⟩
    rcases hno with h | h | h
    · rw [h] at hready
      cases hready
    · rw [h] at hfar
      cases hfar
    · simp [State.ltLinkOk, h] at hok
  · rintro s sd p i x rfl hlt hst
    refine ⟨(s.setLt (laneIdx sd p) (some { x with stage := .shadow })).updEng (outEngine sd.idx) x.g newPeriod, ?_, ?_, ?_, rfl⟩
    · refine congrArg Host.Outcome.next ?_
      unfold State.shadowStart
      simp only [hlt, laneIdx_div]
      exact if_pos hst
    · rw [State.updEng_lt, State.setLt_lt_same]
    · rw [State.updEng_eng_same]
      rfl
  · rintro s sd p i x rfl hlt hst hjobs
    refine ⟨s.ltMarked x.g (laneIdx sd p), congrArg Host.Outcome.next (State.ltFailed_of hlt hst hjobs), ?_, ?_⟩
    · rw [State.ltMarked, State.markFailed_lt, State.settleSpares_lt, State.endLt_lt]
    · rw [State.ltMarked, laneIdx_div, laneIdx_mod]
      exact State.markFailed_posFailed _ _ (Side.idx_lt sd) p.isLt
  · intro s sd p c hlt hc
    simp only [List.mem_cons, List.not_mem_nil, or_false] at hc
    rcases hc with rfl | rfl | rfl
    · refine congrArg Host.Outcome.next ?_
      simp only [State.ltDone, hlt]
    · refine congrArg Host.Outcome.next ?_
      simp only [State.shadowStart, hlt]
    · refine congrArg Host.Outcome.next ?_
      simp only [State.ltFailed, hlt]

end Sys2Proof.Machine
end

section
/-! PROOFS. What leaves the chip on its lines: no more than the transmitters' precoding, the engines' packing of flits and the
outputs change by it (05_fec_and_flits.md, R117; 03_lane_transmitter.md, R74). -/

namespace Sys2Proof.Machine

variable {s t u : State}

/-- The two states agree but for the transmitters, the engines and what has left. -/
def Sends (s t : State) : Prop := t = { s with tx := t.tx, engs := t.engs, out := t.out }

theorem Sends.refl (s : State) : Sends s s := rfl

theorem Sends.trans (h : Sends s t) (k : Sends t u) : Sends s u := by
  unfold Sends at *
  rw [k, h]

theorem Sends.emit (h : Sends s t) (o : Out) : Sends s (t.emit o) := h.trans rfl
theorem Sends.updTx (h : Sends s t) (i : Nat) (f : TxEnd → TxEnd) : Sends s (t.updTx i f) := h.trans rfl
theorem Sends.updEng (h : Sends s t) (e g : Nat) (f : EngPort → EngPort) : Sends s (t.updEng e g f) := h.trans rfl

theorem Sends.each {α : Type} {l : List α} {f : α → State → State} (h : Sends s t) (hf : ∀ x ∈ l, ∀ u, Sends u (f x u)) :
    Sends s (t.each l f) := by
  induction l generalizing t with
  | nil => exact h
  | cons x l ih => exact ih (h.trans (hf x List.mem_cons_self t)) fun y hy => hf y (List.mem_cons_of_mem _ hy)

/-- What does not look at the three parts is the same in both states. -/
theorem Sends.apply {α : Type} (h : Sends s t) (π : State → α)
    (hπ : ∀ (x : State) q e o, π { x with tx := q, engs := e, out := o } = π x) : π t = π s := by
  rw [h]
  exact hπ ..

theorem Sends.reg (h : Sends s t) (a : Nat) : t.reg a = s.reg a := h.apply (fun x => x.reg a) fun _ _ _ _ => rfl
theorem Sends.get (h : Sends s t) (f : Fld) : t.get f = s.get f := h.apply (fun x => x.get f) fun _ _ _ _ => rfl
theorem Sends.on (h : Sends s t) (f : Fld) : t.on f = s.on f := h.apply (fun x => x.on f) fun _ _ _ _ => rfl
theorem Sends.counter (h : Sends s t) (a : Nat) : t.counter a = s.counter a := h.apply (fun x => x.counter a) fun _ _ _ _ => rfl
theorem Sends.seg (h : Sends s t) (g sd k : Nat) : t.seg g sd k = s.seg g sd k := h.apply (fun x => x.seg g sd k) fun _ _ _ _ => rfl

theorem Sends.framed {m : State → State} {l : List Nat} (h : Sends s t)
    (hm : ∀ (x : State) q e, m { x.base with tx := q, engs := e } = m x.base) : Framed m l s t :=
  ⟨(congrArg (fun x : State => m x.base) h).trans (hm s t.tx t.engs), fun a _ _ => h.reg a⟩

theorem Sends.sendLine (h : Sends s t) (i : Nat) (levels : List Nat) : Sends s (t.sendLine i levels) := by
  refine h.trans ?_
  unfold State.sendLine
  split
  · exact .refl _
  split
  · exact .emit (.refl _) _
  · exact .emit (.updTx (.refl _) ..) _

theorem Sends.sendOver (h : Sends s t) (g sd k : Nat) (cw : List Nat) : Sends s (t.sendOver g sd k cw) := by
  refine h.each fun n _ u => ?_
  cases u.lanePos g sd (k + n) with
  | none => exact .refl u
  | some p => exact .sendLine (.refl u) ..

theorem Sends.sendMarkers (h : Sends s t) (e g : Nat) : Sends s (t.sendMarkers e g) :=
  h.each fun _ _ _ => .sendLine (.refl _) ..

theorem Sends.sendCodeword (h : Sends s t) (e g n msg : Nat) : Sends s (t.sendCodeword e g n msg) :=
  h.each fun _ _ _ => .sendLine (.refl _) ..

theorem Sends.sendPair (h : Sends s t) (e g : Nat) (l : List Flit) : Sends s (t.sendPair e g l) := by
  refine h.trans ?_
  unfold State.sendPair
  extract_lets x v m last
  have hv : Sends t v := by
    unfold v
    split
    · exact .sendMarkers (.refl _) ..
    · exact .refl _
  exact .updEng (.sendCodeword (.sendCodeword hv ..) ..) ..

theorem Sends.flitOut (h : Sends s t) (e g : Nat) (f : Flit) : Sends s (t.flitOut e g f) := by
  refine h.trans ?_
  unfold State.flitOut
  extract_lets v l
  have hv : Sends t v := .emit (.refl _) _
  split
  · exact hv.updEng ..
  · exact hv.sendPair ..

theorem Framed.sends {m : State → State} {l : List Nat} (h : Framed m l s t) (k : Sends t u)
    (hm : ∀ (x : State) q e, m { x.base with tx := q, engs := e } = m x.base) : Framed m l s u := h.trans (k.framed hm)

/-- A counter keeps its value where another one counts. -/
theorem State.counter_count_ne (s : State) {a b : Nat} (h : b ≠ a) (h4 : b ≠ a + 4) (h' : b + 4 ≠ a) :
    (s.count a).counter b = s.counter b := by
  unfold State.counter
  rw [State.reg_count_ne s a h h4, State.reg_count_ne s a h' (by omega)]

end Sys2Proof.Machine
end

section
/-! PROOFS. Markers, codeword lock and the counts of a codeword (05_fec_and_flits.md, R116 to R126). -/

namespace Sys2Proof.Machine

variable {m' : State → State} {l : List Nat} {s t : State}

/-- A receiver after its machine of R120 has taken the step of a marker position, before the port acts on it. -/
def State.markSeen (s : State) (i : Nat) (m : MarkerObs) : State :=
  let r := s.rxe i
  let nxt := markerNext r.mark r.good r.miss (goodMarker m) m.expected
  let taken := goodMarker m && (m.expected || decide (r.mark = .hunt))
  let gained := decide (nxt.1 = .lock ∧ r.mark ≠ .lock)
  (s.updRx i (fun r => { r with
    late := r.late && !m.expected,
    mark := nxt.1, good := nxt.2.1, miss := nxt.2.2,
    info := if taken then m.info else r.info,
    arriveNs := if taken then m.arriveNs else r.arriveNs,
    periods := if gained then 0 else r.periods,
    record := if gained then [] else r.record,
    passed := if gained then [] else r.passed })).put (LRX.markerLock i) (boolNat (decide (nxt.1 = .lock)))

theorem State.markSeen_framed (s : State) (i : Nat) (m : MarkerObs) :
    Framed (fun x => { x with rx := [] }) [LRX.status i] s (s.markSeen i m) :=
  .put (.updRx (.refl ..) _ _ fun _ => rfl) _ (.inr (by simp [LRX.markerLock, LRX.status]))

theorem State.markSeen_mark (s : State) (i : Nat) (m : MarkerObs) : ((s.markSeen i m).rxe i).mark =
    (markerNext (s.rxe i).mark (s.rxe i).good (s.rxe i).miss (goodMarker m) m.expected).1 := by
  rw [State.markSeen, State.put_rxe, State.updRx_rxe_same]

theorem State.markSeen_good (s : State) (i : Nat) (m : MarkerObs) : ((s.markSeen i m).rxe i).good =
    (markerNext (s.rxe i).mark (s.rxe i).good (s.rxe i).miss (goodMarker m) m.expected).2.1 := by
  rw [State.markSeen, State.put_rxe, State.updRx_rxe_same]

theorem State.markSeen_miss (s : State) (i : Nat) (m : MarkerObs) : ((s.markSeen i m).rxe i).miss =
    (markerNext (s.rxe i).mark (s.rxe i).good (s.rxe i).miss (goodMarker m) m.expected).2.2 := by
  rw [State.markSeen, State.put_rxe, State.updRx_rxe_same]

/-- A good marker that the machine looks at is taken: its info word and its arrival are those of the lane from then on. -/
theorem State.markSeen_info (s : State) {i : Nat} {m : MarkerObs} (hm : goodMarker m = true)
    (hx : m.expected = true ∨ (s.rxe i).mark = .hunt) :
    ((s.markSeen i m).rxe i).info = m.info ∧ ((s.markSeen i m).rxe i).arriveNs = m.arriveNs := by
  have hx' : (m.expected || decide ((s.rxe i).mark = .hunt)) = true := by simpa using hx
  rw [State.markSeen, State.put_rxe, State.updRx_rxe_same]
  exact ⟨if_pos (by simp [hm, hx']), if_pos (by simp [hm, hx'])⟩

theorem State.markSeen_lock (s : State) (i : Nat) (m : MarkerObs) : (s.markSeen i m).on (LRX.markerLock i) =
    decide ((markerNext (s.rxe i).mark (s.rxe i).good (s.rxe i).miss (goodMarker m) m.expected).1 = .lock) := by
  rw [State.markSeen, State.on, State.get_put_same _ _ _ (by simp [LRX.markerLock])]
  exact boolNat_ne_zero _

theorem State.markSeen_port (s : State) (i : Nat) (m : MarkerObs) (g : Nat) : (s.markSeen i m).port g = s.port g := by
  rw [State.markSeen, State.put_port, State.updRx_port]

theorem State.markSeen_mapAlike (s : State) {i : Nat} (hi : i < 68) (m : MarkerObs) : MapAlike s (s.markSeen i m) := by
  refine .of_ne (b := LRX.status i) (by simp only [LRX.status, LRX.base]; omega)
    (by simp only [LRX.status, LRX.base]; omega) (fun a ha => ?_)
    (by rw [State.markSeen, State.put_segs, State.updRx_segs])
  exact (State.reg_put_ne _ _ _ (by simpa [LRX.markerLock, LRX.status] using ha)).trans (State.updRx_reg ..)

/-- What a good marker in LOCK leads to for the ports that the receiver serves. -/
def State.markActed (s : State) (sd : Side) (p : Pos) (gained : Bool) : State :=
  match s.carried sd.idx p with
  | some (g, _) => s.markerPort g sd.idx (laneIdx sd p) gained
  | none => [0, 1, 2, 3].foldl (fun t g =>
      if laneIdx sd p ∈ t.rxEnds g sd.idx ∨ laneIdx sd p ∈ t.ltEnds g sd.idx ∨ (t.partOf g sd.idx).isSome then
        t.markerPort g sd.idx (laneIdx sd p) gained else t) s

/-- The machine that a marker position moves. -/
abbrev State.markNext (s : State) (i : Nat) (m : MarkerObs) : Mark × Nat × Nat :=
  markerNext (s.rxe i).mark (s.rxe i).good (s.rxe i).miss (goodMarker m) m.expected

theorem State.markerCheck_eq {sd : Side} {p : Pos} (m : MarkerObs) (ha : s.rxActive (laneIdx sd p) = true)
    (hc : s.on (LRX.cdrLock (laneIdx sd p)) = true) (hf : s.cflEnd (laneIdx sd p) = true) :
    s.markerCheck sd.idx p m =
      (if (s.markNext (laneIdx sd p) m).1 = .lock ∧
          (goodMarker m && (m.expected || decide ((s.rxe (laneIdx sd p)).mark = .hunt))) = true then
        (s.markSeen (laneIdx sd p) m).markActed sd p
          (decide ((s.markNext (laneIdx sd p) m).1 = .lock ∧ (s.rxe (laneIdx sd p)).mark ≠ .lock))
      else (s.markSeen (laneIdx sd p) m).cwDropAll sd.idx).goOn :=
  if_pos (show (s.rxActive (laneIdx sd p) && s.on (LRX.cdrLock (laneIdx sd p)) && s.cflEnd (laneIdx sd p)) = true by
    rw [ha, hc, hf]; rfl)

/-- Where the machine is not in LOCK afterwards, or took no good marker, the port only loses what it must. -/
theorem State.markerCheck_drop {sd : Side} {p : Pos} {m : MarkerObs} (ha : s.rxActive (laneIdx sd p) = true)
    (hc : s.on (LRX.cdrLock (laneIdx sd p)) = true) (hf : s.cflEnd (laneIdx sd p) = true)
    (h : (s.markNext (laneIdx sd p) m).1 ≠ .lock ∨ goodMarker m = false ∨
      (m.expected = false ∧ (s.rxe (laneIdx sd p)).mark ≠ .hunt)) :
    s.markerCheck sd.idx p m = ((s.markSeen (laneIdx sd p) m).cwDropAll sd.idx).goOn := by
  rw [State.markerCheck_eq m ha hc hf]
  refine congrArg State.goOn (if_neg ?_)
  rintro ⟨hn, ht⟩
  rcases h with h | h | ⟨h, h'⟩
  · exact h hn
  · simp [h] at ht
  · simp [h, h'] at ht

theorem markerNext_lock {mark : Mark} {good miss : Nat} (h : mark = .lock ∨ (mark = .confirm ∧ good = 2)) :
    markerNext mark good miss true true = (.lock, good, 0) := by
  rcases h with rfl | ⟨rfl, rfl⟩ <;> rfl

/-- A good marker in LOCK: the ports that the receiver serves act on it. -/
theorem State.markerCheck_lock {sd : Side} {p : Pos} {m : MarkerObs} (ha : s.rxActive (laneIdx sd p) = true)
    (hc : s.on (LRX.cdrLock (laneIdx sd p)) = true) (hf : s.cflEnd (laneIdx sd p) = true) (hm : goodMarker m = true)
    (hx : m.expected = true) (h : (s.rxe (laneIdx sd p)).mark = .lock ∨
      ((s.rxe (laneIdx sd p)).mark = .confirm ∧ (s.rxe (laneIdx sd p)).good = 2)) :
    s.markerCheck sd.idx p m =
      ((s.markSeen (laneIdx sd p) m).markActed sd p (decide ((s.rxe (laneIdx sd p)).mark ≠ .lock))).goOn := by
  have hn : (s.markNext (laneIdx sd p) m).1 = .lock := by rw [State.markNext, hm, hx, markerNext_lock h]
  rw [State.markerCheck_eq m ha hc hf, if_pos ⟨hn, by simp [hm, hx]⟩]
  simp only [hn, true_and]

theorem State.markSeen_carried (s : State) (sd : Side) (p : Pos) (m : MarkerObs) :
    (s.markSeen (laneIdx sd p) m).carried sd.idx p = s.carried sd.idx p :=
  (s.markSeen_mapAlike (laneIdx_lt sd p) m).carried (Side.idx_lt sd)

/-- A marker position in LOCK that brings no good marker keeps LOCK, unless it is the fourth bad one in a row. -/
theorem markerNext_stays {good miss : Nat} {ok x : Bool} (hm : ok = false ∨ x = false) (hx : x = true → miss ≠ 3) :
    markerNext .lock good miss ok x = (.lock, good, if x then miss + 1 else miss) := by
  cases x
  · simp [markerNext]
  · have hok : ok = false := by simpa using hm
    simp [markerNext, hok, hx rfl]

theorem codePos_lt {g c p : Nat} (hg : g < 4) (h : codePos g c = some p) : p < 34 := by
  unfold codePos at h
  split at h
  · cases h; omega
  split at h
  · cases h; omega
  split at h
  · cases h; omega
  · cases h

/-- The receivers of a port's lanes are lane-ends of the chip. -/
theorem State.rxEnds_lt {g sd i : Nat} (hg : g < 4) (hsd : sd < 2) (h : i ∈ s.rxEnds g sd) : i < 68 := by
  obtain ⟨p, hp, rfl⟩ := List.mem_map.1 h
  obtain ⟨n, -, hn⟩ := List.mem_filterMap.1 hp
  have := codePos_lt hg hn
  omega

theorem State.portEnds'_lt {g sd k i : Nat} (hg : g < 4) (hsd : sd < 2) (h : i ∈ s.portEnds' g sd k) : i < 68 := by
  unfold State.portEnds' at h
  split at h
  · exact State.rxEnds_lt hg hsd h
  · obtain ⟨p, hp, rfl⟩ := List.mem_map.1 h
    obtain ⟨n, -, hn⟩ := List.mem_filterMap.1 hp
    have := codePos_lt hg hn
    omega

/-- A register of a lane-end's block is none of the engines', of the global ones or of a segment's state. -/
theorem LRX.base_ne {i k a : Nat} (hi : i < 68) (hk : k < 0x1000) (ha : a < 0x100000 ∨ 0x1000000 ≤ a) :
    a ≠ LRX.base i + k := by
  simp only [LRX.base]
  omega

theorem State.reg_histCount_ne (s : State) {i k a : Nat} (h : a ≠ LRX.base i + 0xE00 + 4 * k) :
    (s.histCount i k).reg a = s.reg a := State.reg_setReg_ne _ _ h

/-- What a decoding counts at a lane-end stands in that lane-end's block. -/
theorem State.reg_countEnd (s : State) {i n a : Nat} (ok : Bool) (hi : i < 68) (ha : a < 0x100000 ∨ 0x1000000 ≤ a) :
    (s.countEnd i n ok).reg a = s.reg a := by
  have hb : ∀ k, k < 0x1000 → a ≠ LRX.base i + k := fun k hk => LRX.base_ne hi hk ha
  have hh : ∀ k, k ≤ 16 → a ≠ LRX.base i + 0xE00 + 4 * k := fun k hk => by rw [Nat.add_assoc]; exact hb _ (by omega)
  unfold State.countEnd
  cases ok
  · exact (State.reg_histCount_ne _ (hh 16 (by omega))).trans
      (State.reg_count_ne _ _ (hb 0x70 (by omega)) (hb 0x74 (by omega)))
  · refine (State.reg_histCount_ne _ (hh _ (by omega))).trans ?_
    split
    · rfl
    · exact (State.reg_count_ne _ _ (hb 0x68 (by omega)) (hb 0x6C (by omega))).trans
        ((State.reg_setReg_ne _ _ (hb 0x64 (by omega))).trans (State.reg_setReg_ne _ _ (hb 0x60 (by omega))))

theorem State.countEnd_same (s : State) (i n : Nat) (ok : Bool) : SameButRegs s (s.countEnd i n ok) := by
  unfold State.countEnd
  cases ok
  · exact .setReg (.setReg (.setReg (.refl _) ..) ..) ..
  · by_cases h : n = 0
    · simp only [if_true, h]
      exact .setReg (.refl _) ..
    · simp only [if_true, if_neg h]
      exact .setReg (.setReg (.setReg (.setReg (.setReg (.refl _) ..) ..) ..) ..) ..

/-- The lane-ends of a codeword after what its decoding counts at them. -/
def State.endsCounted (s : State) (ends : List Nat) (wrong : Nat → Nat) (ok : Bool) (f : Nat → RxEnd → RxEnd) : State :=
  s.each ends fun i t => (t.countEnd i (wrong i) ok).updRx i (f i)

/-- The counts of a port after the decoding of one of its codewords, before those of its lane-ends. -/
def State.portCounted (s : State) (e g : Nat) (errors : List Nat) (ok : Bool) : State :=
  let s := s.count (DIR.cwTotal e g)
  let s := if ok then (if errors = [] then s else s.count (DIR.cwCorr e g))
    else (s.count (DIR.cwUncorr e g)).raise (DIR.event e) 1
  if !ok && !s.cfl g then s.count (DIR.stomp e g) else s

/-- What an Ethernet codeword does on its way out. -/
def State.codewordOut (s : State) (e g : Nat) (k : LaneN) (msg : BitVec 5140) (ok : Bool) : State :=
  if s.cfl g then s else s.ethOut e g k msg ok

/-- The errors of a codeword that are no erasures. -/
def State.wrong (s : State) (ends : List Nat) (first : Nat) (errors marked : List Nat) : Nat :=
  (errors.filter (fun n => !s.erased ends first marked n)).length

theorem Eng.inSide_idx (e : Eng) : (if e.idx = 0 then 0 else 1) = e.idx := by cases e <;> rfl

theorem State.codeword_eq {e : Eng} {g : Nat} {k : LaneN} (hends : s.portEnds' g e.idx k ≠ []) {errors marked : List Nat}
    {ok : Bool} (hok : decide (2 * s.wrong (s.portEnds' g e.idx k) (544 * (s.eng e.idx g).cwIndex) errors marked +
      s.erasures (s.portEnds' g e.idx k) (544 * (s.eng e.idx g).cwIndex) marked ≤ 30) = ok) (msg : BitVec 5140) :
    ∃ f h, s.codeword e.idx g k errors marked msg = (((s.portCounted e.idx g errors ok).endsCounted
      (s.portEnds' g e.idx k) (fun i => (errors.filter (fun n => decide (symbolEnd (s.portEnds' g e.idx k)
        (544 * (s.eng e.idx g).cwIndex) n = i))).length) ok f).codewordOut e.idx g k msg ok).updEng e.idx g h := by
  subst hok
  unfold State.codeword
  rw [Eng.inSide_idx]
  exact ⟨_, _, if_neg hends⟩

theorem Sends.codewordOut (h : Sends s t) (e g : Nat) (k : LaneN) (msg : BitVec 5140) (ok : Bool) :
    Sends s (t.codewordOut e g k msg ok) := by
  refine h.trans ?_
  unfold State.codewordOut State.ethOut
  split
  · exact .refl _
  split
  · exact .emit (.sendOver (.refl _) ..) _
  · exact .refl _

theorem State.reg_endsCounted (s : State) {ends : List Nat} (hi : ∀ i ∈ ends, i < 68) {a : Nat}
    (ha : a < 0x100000 ∨ 0x1000000 ≤ a) (wrong : Nat → Nat) (ok : Bool) (f : Nat → RxEnd → RxEnd) :
    (s.endsCounted ends wrong ok f).reg a = s.reg a :=
  apply_each (fun x => x.reg a) (fun i h u => (State.updRx_reg ..).trans (u.reg_countEnd ok (hi i h) ha)) s

/-- The registers outside the lane-ends' blocks are those that the port's counts leave. -/
theorem State.reg_codeword {e : Eng} {g : Port} {k : LaneN} (hends : s.portEnds' g e.idx k ≠ []) {errors marked : List Nat}
    {ok : Bool} (hok : decide (2 * s.wrong (s.portEnds' g e.idx k) (544 * (s.eng e.idx g).cwIndex) errors marked +
      s.erasures (s.portEnds' g e.idx k) (544 * (s.eng e.idx g).cwIndex) marked ≤ 30) = ok) (msg : BitVec 5140) {a : Nat}
    (ha : a < 0x100000 ∨ 0x1000000 ≤ a) :
    (s.codeword e.idx g k errors marked msg).reg a = (s.portCounted e.idx g errors ok).reg a := by
  obtain ⟨f, h, hu⟩ := State.codeword_eq hends hok msg
  rw [hu]
  exact ((Sends.updEng (.codewordOut (.refl _) ..) ..).reg a).trans
    (State.reg_endsCounted _ (fun i => State.portEnds'_lt g.isLt (Eng.idx_lt e)) ha ..)

theorem State.counter_codeword {e : Eng} {g : Port} {k : LaneN} (hends : s.portEnds' g e.idx k ≠ [])
    {errors marked : List Nat} {ok : Bool} (hok : decide (2 * s.wrong (s.portEnds' g e.idx k)
      (544 * (s.eng e.idx g).cwIndex) errors marked + s.erasures (s.portEnds' g e.idx k) (544 * (s.eng e.idx g).cwIndex)
      marked ≤ 30) = ok) (msg : BitVec 5140) {a : Nat} (ha : a + 4 < 0x100000) :
    (s.codeword e.idx g k errors marked msg).counter a = (s.portCounted e.idx g errors ok).counter a := by
  unfold State.counter
  rw [State.reg_codeword hends hok msg (.inl (by omega)), State.reg_codeword hends hok msg (.inl ha)]

/-! The port's counts. -/

theorem State.portCounted_cases (s : State) (e g : Nat) (errors : List Nat) (ok : Bool) : s.portCounted e g errors ok =
    if ok then (if errors = [] then s.count (DIR.cwTotal e g) else (s.count (DIR.cwTotal e g)).count (DIR.cwCorr e g))
    else if (((s.count (DIR.cwTotal e g)).count (DIR.cwUncorr e g)).raise (DIR.event e) 1).cfl g then
      ((s.count (DIR.cwTotal e g)).count (DIR.cwUncorr e g)).raise (DIR.event e) 1
    else (((s.count (DIR.cwTotal e g)).count (DIR.cwUncorr e g)).raise (DIR.event e) 1).count (DIR.stomp e g) := by
  unfold State.portCounted
  cases ok
  · simp only [Bool.not_false, Bool.true_and, Bool.false_eq_true, if_false]
    split
    · rename_i h
      rw [if_neg (by simpa using h)]
    · rename_i h
      rw [if_pos (by simpa using h)]
  · simp

theorem State.portCounted_framed (s : State) (e g : Nat) (errors : List Nat) (ok : Bool) :
    Framed id [DIR.cwTotal e g, DIR.cwTotal e g + 4, DIR.cwCorr e g, DIR.cwCorr e g + 4, DIR.cwUncorr e g,
      DIR.cwUncorr e g + 4, DIR.stomp e g, DIR.stomp e g + 4, DIR.event e] s (s.portCounted e g errors ok) := by
  have htotal : Framed id [DIR.cwTotal e g, DIR.cwTotal e g + 4, DIR.cwCorr e g, DIR.cwCorr e g + 4, DIR.cwUncorr e g,
      DIR.cwUncorr e g + 4, DIR.stomp e g, DIR.stomp e g + 4, DIR.event e] s (s.count (DIR.cwTotal e g)) :=
    .count (.refl ..) (.inr (by simp)) (.inr (by simp))
  have hbad := (htotal.count (a := DIR.cwUncorr e g) (.inr (by simp)) (.inr (by simp))).raise 1 (a := DIR.event e) (by simp)
  rw [State.portCounted_cases]
  split
  · split
    · exact htotal
    · exact htotal.count (.inr (by simp)) (.inr (by simp))
  split
  · exact hbad
  · exact hbad.count (.inr (by simp)) (.inr (by simp))

theorem DIR.g_range (e : Eng) (g : Port) {k : Nat} (h : k < 0x100) :
    0x80000 ≤ DIR.g e.idx g + k ∧ DIR.g e.idx g + k < 0xA0000 :=
  ⟨by simp only [DIR.g, DIR.base]; omega, DIR.g_lt e g h⟩

theorem DIR.g_low (e : Eng) (g : Port) {k : Nat} (h : k + 4 < 0x100) : DIR.g e.idx g + k + 4 < 0x100000 := by
  have := (DIR.g_range e g h).2
  omega

theorem DIR.event_low (e : Eng) : DIR.event e.idx < 0x100000 ∨ 0x1000000 ≤ DIR.event e.idx := by
  have := Eng.idx_lt e
  simp only [DIR.event, DIR.base]
  omega

/-- What the port counts stands in the engine's block. -/
theorem State.reg_portCounted (s : State) (e : Eng) (g : Port) (errors : List Nat) (ok : Bool) {a : Nat}
    (h3 : a / 0x10000 ≠ 3) (ha : a < 0x80000 ∨ 0xA0000 ≤ a) : (s.portCounted e.idx g errors ok).reg a = s.reg a := by
  have hk : ∀ k, k < 0x100 → a ≠ DIR.g e.idx g + k := fun k hk => by have := DIR.g_range e g hk; omega
  have hev : a ≠ DIR.event e.idx := by have := Eng.idx_lt e; simp only [DIR.event, DIR.base]; omega
  refine (s.portCounted_framed e.idx g errors ok).2 a h3 ?_
  simp only [DIR.cwTotal, DIR.cwCorr, DIR.cwUncorr, DIR.stomp, Nat.add_assoc, List.mem_cons, List.not_mem_nil, or_false,
    not_or]
  exact ⟨hk _ (by omega), hk _ (by omega), hk _ (by omega), hk _ (by omega), hk _ (by omega), hk _ (by omega),
    hk _ (by omega), hk _ (by omega), hev⟩

theorem State.portCounted_total (s : State) (e g : Nat) (errors : List Nat) (ok : Bool) :
    (s.portCounted e g errors ok).counter (DIR.cwTotal e g) = (s.counter (DIR.cwTotal e g) + 1) % 2 ^ 48 := by
  have hne : ∀ {a : Nat}, a ∈ [DIR.cwCorr e g, DIR.cwUncorr e g, DIR.stomp e g] →
      ∀ u : State, (u.count a).counter (DIR.cwTotal e g) = u.counter (DIR.cwTotal e g) := fun ha u => by
    simp only [List.mem_cons, List.not_mem_nil, or_false, DIR.cwCorr, DIR.cwUncorr, DIR.stomp] at ha
    exact u.counter_count_ne (by simp only [DIR.cwTotal]; omega) (by simp only [DIR.cwTotal]; omega)
      (by simp only [DIR.cwTotal]; omega)
  have hraise : ∀ u : State, (u.raise (DIR.event e) 1).counter (DIR.cwTotal e g) = u.counter (DIR.cwTotal e g) := fun u =>
    State.counter_raise_dir u e e g 1 (by decide) (by decide)
  rw [State.portCounted_cases, ← State.counter_count]
  split
  · split
    · rfl
    · exact hne (by simp) _
  split
  · rw [hraise, hne (by simp)]
  · rw [hne (by simp), hraise, hne (by simp)]

theorem State.portCounted_corr (s : State) (e g : Nat) {errors : List Nat} (h : errors ≠ []) :
    (s.portCounted e g errors true).counter (DIR.cwCorr e g) = (s.counter (DIR.cwCorr e g) + 1) % 2 ^ 48 := by
  rw [State.portCounted_cases, if_pos rfl, if_neg h, State.counter_count, State.counter_count_ne] <;>
    simp only [DIR.cwTotal, DIR.cwCorr] <;> omega

/-- A port that counts an uncorrectable codeword, before an Ethernet one counts as stomped. -/
def State.uncorrCounted (s : State) (e g : Nat) : State :=
  ((s.count (DIR.cwTotal e g)).count (DIR.cwUncorr e g)).raise (DIR.event e) 1

theorem State.uncorrCounted_cfl (s : State) (e : Eng) (g : Port) : (s.uncorrCounted e.idx g).cfl g = s.cfl g := by
  have he := Eng.idx_lt e
  unfold State.cfl State.uncorrCounted
  rw [State.on_raise]
  · refine congrArg not (congrArg (fun n : Nat => decide (n ≠ 0)) ?_)
    have hk : ∀ k, k < 0x100 → (GLB.proto g).addr ≠ DIR.g e.idx g + k := fun k hk => by
      have := DIR.g_range e g hk
      simp only [GLB.proto, GLB.pgcfg]
      omega
    exact (State.get_count _ (hk 0x50 (by omega)) (hk 0x54 (by omega))).trans
      (State.get_count _ (hk 0x40 (by omega)) (hk 0x44 (by omega)))
  · simp only [GLB.proto, GLB.pgcfg]
    omega
  · simp only [GLB.proto, GLB.pgcfg, DIR.event, DIR.base]
    omega

theorem State.portCounted_uncorr (s : State) (e : Eng) (g : Port) (errors : List Nat) :
    s.portCounted e.idx g errors false =
      if s.cfl g then s.uncorrCounted e.idx g else (s.uncorrCounted e.idx g).count (DIR.stomp e.idx g) := by
  rw [← s.uncorrCounted_cfl e g, State.uncorrCounted]
  exact (s.portCounted_cases e.idx g errors false).trans (if_neg Bool.false_ne_true)

theorem State.uncorrCounted_counter (s : State) (e g : Nat) :
    (s.uncorrCounted e g).counter (DIR.cwUncorr e g) = (s.counter (DIR.cwUncorr e g) + 1) % 2 ^ 48 := by
  rw [State.uncorrCounted]
  refine (State.counter_raise_dir _ e e g 1 (by decide) (by decide)).trans ((State.counter_count _ _).trans ?_)
  rw [State.counter_count_ne] <;> simp only [DIR.cwTotal, DIR.cwUncorr] <;> omega

theorem State.uncorrCounted_stomp (s : State) (e g : Nat) :
    (s.uncorrCounted e g).counter (DIR.stomp e g) = s.counter (DIR.stomp e g) := by
  rw [State.uncorrCounted]
  refine (State.counter_raise_dir _ e e g 1 (by decide) (by decide)).trans ?_
  rw [State.counter_count_ne, State.counter_count_ne] <;> simp only [DIR.cwTotal, DIR.cwUncorr, DIR.stomp] <;> omega

theorem State.uncorrCounted_event (s : State) (e g : Nat) : BitSet (DIR.event e) 1 (s.uncorrCounted e g) :=
  State.raise_bit _ _ (DIR.event_block e) (by decide)

theorem State.portCounted_event (s : State) (e : Eng) (g : Port) (errors : List Nat) :
    BitSet (DIR.event e.idx) 1 (s.portCounted e.idx g errors false) := by
  rw [State.portCounted_uncorr]
  split
  · exact s.uncorrCounted_event e.idx g
  · exact (s.uncorrCounted_event e.idx g).count (Ne.symm (DIR.g_ne_event _ _ _ (by decide)))
      (Ne.symm (DIR.g_ne_event _ _ _ (k := 0x7C) (by decide)))

theorem State.portCounted_uncorr_counter (s : State) (e : Eng) (g : Port) (errors : List Nat) :
    (s.portCounted e.idx g errors false).counter (DIR.cwUncorr e.idx g) =
      (s.counter (DIR.cwUncorr e.idx g) + 1) % 2 ^ 48 := by
  rw [State.portCounted_uncorr, ← State.uncorrCounted_counter]
  split
  · rfl
  · rw [State.counter_count_ne] <;> simp only [DIR.cwUncorr, DIR.stomp] <;> omega

theorem State.portCounted_stomp (s : State) (e : Eng) {g : Port} (errors : List Nat) (h : s.cfl g = false) :
    (s.portCounted e.idx g errors false).counter (DIR.stomp e.idx g) = (s.counter (DIR.stomp e.idx g) + 1) % 2 ^ 48 := by
  rw [State.portCounted_uncorr, if_neg (by simp [h]), State.counter_count, State.uncorrCounted_stomp]

theorem State.portCounted_same (s : State) (e g : Nat) (errors : List Nat) (ok : Bool) :
    (s.portCounted e g errors ok).segs = s.segs := by
  have h : (s.portCounted e g errors ok).base = s.base := (s.portCounted_framed e g errors ok).1
  show (s.portCounted e g errors ok).base.segs = s.base.segs
  rw [h]

/-! The lane-ends' counts and what leaves. -/

theorem State.endsCounted_segs (s : State) (ends : List Nat) (wrong : Nat → Nat) (ok : Bool) (f : Nat → RxEnd → RxEnd) :
    (s.endsCounted ends wrong ok f).segs = s.segs :=
  apply_each (fun x : State => x.segs)
    (fun i _ u => by
      have h : (u.countEnd i (wrong i) ok).segs = u.segs := by rw [u.countEnd_same i (wrong i) ok]
      exact h) s

theorem engOf_idx (e : Eng) : engOf e.idx = e := by cases e <;> rfl

theorem portOf_val (g : Port) : portOf g.val = g := Fin.ext (Nat.mod_eq_of_lt g.isLt)

theorem State.reg_counted (s : State) (e : Eng) {g : Port} {ends : List Nat} (hi : ∀ i ∈ ends, i < 68) {errors : List Nat}
    {ok : Bool} {wrong : Nat → Nat} {f : Nat → RxEnd → RxEnd} {a : Nat} (h3 : a / 0x10000 ≠ 3)
    (ha : a < 0x80000 ∨ 0x1000000 ≤ a) :
    ((s.portCounted e.idx g errors ok).endsCounted ends wrong ok f).reg a = s.reg a :=
  (State.reg_endsCounted _ hi (by omega) ..).trans (s.reg_portCounted e g errors ok h3 (by omega))

theorem State.counted_cfl (s : State) (e : Eng) {g : Port} {ends : List Nat} (hi : ∀ i ∈ ends, i < 68) {errors : List Nat}
    {ok : Bool} {wrong : Nat → Nat} {f : Nat → RxEnd → RxEnd} :
    ((s.portCounted e.idx g errors ok).endsCounted ends wrong ok f).cfl g = s.cfl g := by
  have hlow : (GLB.proto g).addr < 0x80000 ∧ (GLB.proto g).addr / 0x10000 ≠ 3 := by
    simp only [GLB.proto, GLB.pgcfg]
    omega
  unfold State.cfl State.on State.get
  rw [s.reg_counted e hi hlow.2 (.inl hlow.1)]

/-- An Ethernet codeword leaves with fresh parity, or marked as errored, where the other segment sends the stream. -/
theorem State.codeword_out {e : Eng} {g : Port} {k : LaneN} (hends : s.portEnds' g e.idx k ≠ []) {errors marked : List Nat}
    {ok : Bool} (hok : decide (2 * s.wrong (s.portEnds' g e.idx k) (544 * (s.eng e.idx g).cwIndex) errors marked +
      s.erasures (s.portEnds' g e.idx k) (544 * (s.eng e.idx g).cwIndex) marked ≤ 30) = ok) (msg : BitVec 5140)
    (hcfl : s.cfl g = false) (hup : s.segState g (1 - e.idx) k = 6) (hfill : (s.seg g (1 - e.idx) k).fill = false) :
    (s.codeword e.idx g k errors marked msg).out.getLast? =
      some (.codeword e g k (rsCodeword (if ok then msg.toNat else markedMessage msg))) := by
  obtain ⟨f, h, hu⟩ := State.codeword_eq hends hok msg
  rw [hu]
  generalize hv : (s.portCounted e.idx g errors ok).endsCounted _ _ ok f = v
  have hreg : ∀ a, a / 0x10000 ≠ 3 → a < 0x80000 ∨ 0x1000000 ≤ a → v.reg a = s.reg a := fun a h3 ha => by
    rw [← hv, State.reg_counted _ _ (fun i => State.portEnds'_lt g.isLt (Eng.idx_lt e)) h3 ha]
  have hvc : v.cfl g = false := by
    rw [← hv, State.counted_cfl _ _ (fun i => State.portEnds'_lt g.isLt (Eng.idx_lt e)), hcfl]
  have he := Eng.idx_lt e
  have hvs : v.segState g (1 - e.idx) k = 6 := by
    rw [← hup]
    have h3 := (GLB.trnStat_block g (sd := 1 - e.idx) (by omega) k).1
    unfold State.segState State.get
    rw [hreg (GLB.tsState g (1 - e.idx) k).addr h3 ?_]
    simp only [GLB.tsState, GLB.trnStat, GLB.trnBase]
    split <;> omega
  have hvf : (v.seg g (1 - e.idx) k).fill = false := by
    rw [← hfill, ← hv]
    unfold State.seg
    rw [State.endsCounted_segs, State.portCounted_same]
  show (v.codewordOut e.idx g k msg ok).out.getLast? = _
  unfold State.codewordOut State.ethOut
  rw [if_neg (by simp [hvc]), if_pos ⟨hvs, hvf⟩, engOf_idx, portOf_val]
  exact List.getLast?_concat

theorem Framed.endsCounted_clean {ends : List Nat} {wrong : Nat → Nat} (h : Framed m' l s t)
    (hm : ∀ (x : State) i f, m' (x.updRx i f).base = m' x.base) (hl : ∀ i ∈ ends, wrong i = 0 ∧ LRX.base i + 0xE00 ∈ l)
    (f : Nat → RxEnd → RxEnd) : Framed m' l s (t.endsCounted ends wrong true f) := by
  refine h.each fun i hi u hu => .updRx ?_ _ _ fun x => hm x _ _
  obtain ⟨hw, ha⟩ := hl i hi
  rw [hw]
  exact hu.satCount (.inr ha)

theorem Framed.endsCounted_bad {ends : List Nat} {wrong : Nat → Nat} (h : Framed m' l s t)
    (hm : ∀ (x : State) i f, m' (x.updRx i f).base = m' x.base)
    (hl : ∀ i ∈ ends, LRX.cwUncorr i ∈ l ∧ LRX.cwUncorr i + 4 ∈ l ∧ LRX.base i + 0xE40 ∈ l)
    (f : Nat → RxEnd → RxEnd) : Framed m' l s (t.endsCounted ends wrong false f) := by
  refine h.each fun i hi u hu => .updRx ?_ _ _ fun x => hm x _ _
  obtain ⟨h1, h2, h3⟩ := hl i hi
  exact (hu.count (.inr h1) (.inr h2)).satCount (.inr h3)

/-- Of lanes whose symbols are all good, no symbol is an erasure. -/
theorem State.erasures_none {ends : List Nat} (hends : ends ≠ []) (h : ∀ i ∈ ends, s.invalid i = false) (first : Nat) :
    s.erasures ends first [] = 0 := by
  have hpos : 0 < ends.length := List.length_pos_iff.2 hends
  unfold State.erasures
  rw [List.length_eq_zero_iff, List.filter_eq_nil_iff]
  intro n _
  have hin : symbolEnd ends first n ∈ ends := by
    unfold symbolEnd
    rw [List.getD_eq_getElem _ _ (Nat.mod_lt _ hpos)]
    exact List.getElem_mem _
  simp [State.erased, h _ hin]

theorem execCodewordReceived_of {e : Eng} {g : Port} {k : LaneN} {errors marked : List Nat} (msg : BitVec 5140)
    (h1 : risingBelow 544 errors = true) (h2 : risingBelow 544 marked = true) (hp : s.pers g ≠ 0)
    (hk : k.val ∈ s.portKeys g) (hc : s.cwOf g e.inSide.idx k = true) :
    exec (.codewordReceived e g k errors marked msg) s = .next (s.codeword e.idx g k errors marked msg) :=
  (if_pos (show (risingBelow 544 errors && risingBelow 544 marked) = true by rw [h1, h2]; rfl)).trans
    (congrArg Host.Outcome.next (State.when_true _ (by simp [hp, hk, hc])))

theorem execCodewordReceived_idle {e : Eng} {g : Port} {k : LaneN} {errors marked : List Nat} (msg : BitVec 5140)
    (h1 : risingBelow 544 errors = true) (h2 : risingBelow 544 marked = true)
    (h : s.pers g = 0 ∨ s.cwOf g e.inSide.idx k = false) :
    exec (.codewordReceived e g k errors marked msg) s = .next s :=
  (if_pos (show (risingBelow 544 errors && risingBelow 544 marked) = true by rw [h1, h2]; rfl)).trans
    (congrArg Host.Outcome.next (State.when_false _ (by rcases h with h | h <;> simp [h])))

theorem execCodewordReceived_ill {e : Eng} {g : Port} {k : LaneN} {errors marked : List Nat} (msg : BitVec 5140)
    (h : risingBelow 544 errors = false ∨ risingBelow 544 marked = false) :
    exec (.codewordReceived e g k errors marked msg) s = .fault .illFormed :=
  if_neg (show ¬ (risingBelow 544 errors && risingBelow 544 marked) = true by rcases h with h | h <;> simp [h])

/-! Codeword lock of a waking port. -/

theorem State.get_fillPair (s : State) (e g : Nat) {f : Fld} (hf : f.addr ≠ DIR.slackIns e g)
    (hf' : f.addr ≠ DIR.slackIns e g + 4) : (s.fillPair e g).get f = s.get f :=
  apply_each (fun x : State => x.get f)
    (fun _ _ u => (State.get_count _ hf hf').trans ((Sends.flitOut (.refl u) ..).get f)) s

theorem Sends.streamAgain (h : Sends s t) (g sd : Nat) : Sends s (t.streamAgain g sd) := by
  refine h.each fun i _ u => ?_
  split
  · exact .updTx (.refl _) ..
  · exact .refl _

/-- The receivers of a port that gains codeword lock: those outside the set are erased with the SKEW cause. -/
def State.deskewed (s : State) (l set : List Nat) : State :=
  s.each l (fun i t =>
    if i ∈ set then t.updRx i (fun r => { r with sinceBad := false, misnamed := false, late := false })
    else (t.updRx i (fun r => { r with sinceBad := true })).leSet i 4)

theorem State.deskewed_get (s : State) {l : List Nat} (set : List Nat) {f : Fld}
    (hf : ∀ i ∈ l, f.addr ≠ FLT.lecause i) : (s.deskewed l set).get f = s.get f := by
  refine apply_each (fun x : State => x.get f) (fun i hi u => ?_) s
  show (if i ∈ set then _ else _ : State).get f = u.get f
  split
  · simp
  · rw [State.get_leSet]
    exact (State.get_put_ne _ _ _ _ (hf i hi)).trans (by simp)

/-- A port that gains codeword lock, before its transmitters send the stream again. -/
def State.lockGained (s : State) (g sd : Nat) : State :=
  let e := inEngine sd
  let l := s.rxEnds g sd
  let v := s.deskewed l (s.lockSet l)
  let v := ((v.put (DIR.cwLock e g) 1).put (DIR.skew e g) (min (v.skewNs (s.lockSet l)) 255)).updEng e g
    (fun x => { x with cwEver := true, cwIndex := 0, evenOk := none, flitOk := [] })
  v.when (decide (v.pers g = 1)) (fun t => t.fillPair e g)

theorem State.cwGain_of {g sd : Nat} (hc : s.cfl g = true) (hp : s.pers g ≠ 0) (hup : s.segState g sd 0 = 6)
    (hno : s.on (DIR.cwLock (inEngine sd) g) = false) (hall : (s.lockedEnds g sd).length = (s.rxEnds g sd).length)
    (hinfo : s.infosAgree g sd = true) : s.cwGain g sd = ((s.lockGained g sd).streamAgain g (1 - sd)).wakeDone g :=
  if_pos (show (s.cfl g && decide (s.pers g ≠ 0) && decide (s.segState g sd 0 = stUp) && !s.on (DIR.cwLock (inEngine sd) g)
      && decide ((s.lockedEnds g sd).length = (s.rxEnds g sd).length) && s.infosAgree g sd) = true by
    simp [hc, hp, hup, hno, hall, hinfo, stUp])

/-- A field that is of no register that codeword lock writes keeps its value. -/
theorem State.lockGained_get (s : State) {g : Port} {sd : Side} {f : Fld}
    (hf : ∀ k < 0x100, f.addr ≠ DIR.g (inEngine sd.idx) g + k) (hle : f.addr < 0x10400 ∨ 0x10510 ≤ f.addr) :
    (s.lockGained g sd.idx).get f = s.get f := by
  have hd : (s.deskewed (s.rxEnds g sd.idx) (s.lockSet (s.rxEnds g sd.idx))).get f = s.get f :=
    State.deskewed_get s _ fun i hi => by
      have := State.rxEnds_lt g.isLt (Side.idx_lt sd) hi
      simp only [FLT.lecause]
      omega
  have h4 : f.addr ≠ (DIR.cwLock (inEngine sd.idx) g).addr := hf 4 (by omega)
  have h4' : f.addr ≠ (DIR.skew (inEngine sd.idx) g).addr := hf 4 (by omega)
  have h8 : f.addr ≠ DIR.slackIns (inEngine sd.idx) g := hf 0xB8 (by omega)
  have h8' : f.addr ≠ DIR.slackIns (inEngine sd.idx) g + 4 := by
    rw [DIR.slackIns, Nat.add_assoc]
    exact hf _ (by omega)
  unfold State.lockGained
  extract_lets e l v w
  have hw : w.get f = s.get f := by
    rw [← hd]
    unfold w
    rw [State.updEng_get, State.get_put_ne _ _ _ _ h4', State.get_put_ne _ _ _ _ h4]
  unfold State.when
  split
  · exact (State.get_fillPair w e g h8 h8').trans hw
  · exact hw

theorem inEngine_lt (sd : Nat) : inEngine sd < 2 := by
  unfold inEngine
  split <;> omega

theorem inEngine_side (sd : Side) : inEngine sd.idx = sd.idx := by cases sd <;> rfl

theorem inEngine_other (sd : Side) : inEngine (1 - sd.idx) = 1 - sd.idx := by cases sd <;> rfl

theorem State.lockGained_cwLock (s : State) (g : Port) (sd : Side) :
    (s.lockGained g sd.idx).on (DIR.cwLock (inEngine sd.idx) g) = true := by
  unfold State.lockGained
  extract_lets e l v w
  have hw : w.get (DIR.cwLock e g) = 1 := by
    unfold w
    rw [State.updEng_get, State.get_put_apart _ _ (by simp [DIR.cwLock]) (.inr (.inl (by simp [DIR.cwLock, DIR.skew]))),
      State.get_put_same _ _ _ (by simp [DIR.cwLock])]
    rfl
  rw [State.on_iff]
  unfold State.when
  split
  · rw [State.get_fillPair w e g (by simp only [e, DIR.cwLock, DIR.slackIns]; omega)
      (by simp only [e, DIR.cwLock, DIR.slackIns]; omega), hw]
    decide
  · rw [hw]
    decide

theorem State.lockGained_other (s : State) (g : Port) (sd : Side) :
    (s.lockGained g sd.idx).on (DIR.cwLock (inEngine (1 - sd.idx)) g) = s.on (DIR.cwLock (inEngine (1 - sd.idx)) g) := by
  have hsd := Side.idx_lt sd
  have hg := g.isLt
  unfold State.on
  rw [State.lockGained_get]
  · intro k hk
    simp only [DIR.cwLock, DIR.g, DIR.base, inEngine_side, inEngine_other]
    omega
  · simp only [DIR.cwLock, DIR.g, DIR.base]
    omega

theorem State.lockGained_lpstat (s : State) (g : Port) (sd : Side) :
    (s.lockGained g sd.idx).get (PWR.lpstat g) = s.get (PWR.lpstat g) := by
  have hg := g.isLt
  refine State.lockGained_get s (fun k hk => ?_) (by simp only [PWR.lpstat]; omega)
  simp only [PWR.lpstat, DIR.g, DIR.base]
  omega

/-- A WAKING port with codeword lock on both incoming segments is ON again, with the event; with one alone it waits. -/
theorem State.wakeDone_of {g : Port} (hlp : s.get (PWR.lpstat g) = 3) :
    (s.on (DIR.cwLock 0 g) = true → s.on (DIR.cwLock 1 g) = true → (s.wakeDone g).get (PWR.lpstat g) = 0 ∧
      BitSet PWR.event 6 (s.wakeDone g)) ∧
    (s.on (DIR.cwLock 0 g) = false ∨ s.on (DIR.cwLock 1 g) = false → s.wakeDone g = s) := by
  constructor
  · intro h0 h1
    rw [State.wakeDone, if_pos ⟨hlp, h0, h1⟩]
    have hs := (Sends.streamAgain (.streamAgain (.refl (((s.put (PWR.lpstat g) 0).updPort g
      (fun r => { r with wake := 0 })).raise PWR.event 6)) g 0) g 1)
    refine ⟨?_, ?_⟩
    · rw [hs.get, State.get_raise _ _ _ (by simp only [PWR.lpstat]; omega) (by simp only [PWR.lpstat, PWR.event]; omega)]
      rw [State.updPort_get, State.get_put_same _ _ _ (by simp [PWR.lpstat]), Nat.zero_mod]
    · exact .of_reg (State.raise_bit _ _ (by decide) (by decide)) (hs.reg _)
  · intro h
    exact if_neg (by rcases h with h | h <;> simp [h])

theorem State.wakeDone_on (s : State) (g g' : Port) {e : Nat} (he : e < 2) :
    (s.wakeDone g).on (DIR.cwLock e g') = s.on (DIR.cwLock e g') := by
  have hne : (DIR.cwLock e g').addr ≠ (PWR.lpstat g).addr := by
    simp only [DIR.cwLock, DIR.g, DIR.base, PWR.lpstat]
    omega
  unfold State.wakeDone
  split
  · rw [(Sends.streamAgain (.streamAgain (.refl _) g 0) g 1).on, State.on_raise]
    · unfold State.on
      rw [State.updPort_get, State.get_put_ne _ _ _ _ hne]
    · simp only [DIR.cwLock, DIR.g, DIR.base]
      omega
    · simp only [DIR.cwLock, DIR.g, DIR.base, PWR.event]
      omega
  · rfl

/-- Codeword lock of a WAKING port's second incoming segment ends the waking. -/
theorem State.cwGain_waking {g : Port} {sd : Side} (hlp : s.get (PWR.lpstat g) = 3) (hc : s.cfl g = true)
    (hp : s.pers g ≠ 0) (hup : s.segState g sd.idx 0 = 6) (hno : s.on (DIR.cwLock (inEngine sd.idx) g) = false)
    (hall : (s.lockedEnds g sd.idx).length = (s.rxEnds g sd.idx).length) (hinfo : s.infosAgree g sd.idx = true) :
    (s.cwGain g sd.idx).on (DIR.cwLock (inEngine sd.idx) g) = true ∧
    (s.on (DIR.cwLock (inEngine (1 - sd.idx)) g) = true → (s.cwGain g sd.idx).get (PWR.lpstat g) = 0 ∧
      BitSet PWR.event 6 (s.cwGain g sd.idx)) ∧
    (s.on (DIR.cwLock (inEngine (1 - sd.idx)) g) = false → (s.cwGain g sd.idx).get (PWR.lpstat g) = 3) := by
  rw [State.cwGain_of hc hp hup hno hall hinfo]
  have hs : Sends (s.lockGained g sd.idx) ((s.lockGained g sd.idx).streamAgain g (1 - sd.idx)) := .streamAgain (.refl _) ..
  generalize (s.lockGained g sd.idx).streamAgain g (1 - sd.idx) = v at hs
  have hv : v.get (PWR.lpstat g) = 3 := by rw [hs.get, State.lockGained_lpstat, hlp]
  have hown : v.on (DIR.cwLock (inEngine sd.idx) g) = true := by rw [hs.on, State.lockGained_cwLock]
  have hother : v.on (DIR.cwLock (inEngine (1 - sd.idx)) g) = s.on (DIR.cwLock (inEngine (1 - sd.idx)) g) := by
    rw [hs.on, State.lockGained_other]
  obtain ⟨hboth, hone⟩ := State.wakeDone_of hv
  refine ⟨?_, fun h => ?_, fun h => ?_⟩
  · exact (State.wakeDone_on v g g (inEngine_lt _)).trans hown
  · rw [h] at hother
    cases sd
    · exact hboth hown hother
    · exact hboth hother hown
  · rw [h] at hother
    rw [hone (by cases sd; exacts [.inr hother, .inl hother]), hv]

/-! Marker lock of Ethernet lanes. -/

/-- The lane-end of an Ethernet lane whose marker lock is `locked` now, before its port's codeword lock follows. -/
def State.ethLaneLocked (s : State) (i : Nat) (locked : Bool) : State :=
  (s.put (LRX.markerLock i) (boolNat locked)).updRx i (fun r =>
    let gained := decide (locked = true ∧ r.mark ≠ .lock)
    { r with
      mark := if locked then .lock else .hunt,
      periods := if gained then 0 else r.periods, record := if gained then [] else r.record,
      passed := if gained then [] else r.passed })

theorem Framed.ethLaneLocked (h : Framed m' l s t) (i : Nat) (locked : Bool) (hl : LRX.status i ∈ l)
    (hm : ∀ (x : State) f, m' (x.updRx i f).base = m' x.base) : Framed m' l s (t.ethLaneLocked i locked) :=
  .updRx (h.put _ (.inr hl)) _ _ fun x => hm x _

theorem State.ethLaneLocked_on (s : State) (i : Nat) (locked : Bool) :
    (s.ethLaneLocked i locked).on (LRX.markerLock i) = locked := by
  rw [State.ethLaneLocked, State.updRx_on, State.on, State.get_put_same _ _ _ (by simp [LRX.markerLock])]
  exact boolNat_ne_zero _

theorem State.ethLaneLocked_mark (s : State) (i : Nat) (locked : Bool) :
    ((s.ethLaneLocked i locked).rxe i).mark = if locked then .lock else .hunt := by
  rw [State.ethLaneLocked, State.updRx_rxe_same]

theorem State.ethLaneLocked_seg (s : State) (i : Nat) (locked : Bool) (g sd k : Nat) :
    (s.ethLaneLocked i locked).seg g sd k = s.seg g sd k := by
  rw [State.ethLaneLocked, State.updRx_seg, State.put_seg]

/-- What a lane's marker lock leads to for its port's codeword lock. -/
def State.ethPort (s : State) (g : Port) (k : LaneN) (sd : Side) (was cw : Bool) (skew : Nat) : State :=
  if cw then
    ((s.updSeg g sd.idx k (fun x => { x with cw := true, cwEver := true })).noteEthLock g sd.idx).when (!was)
      (fun t => t.put (DIR.skew (inEngine sd.idx) g) skew)
  else if was then s.ethDrop g sd.idx k
  else s.noteEthLock g sd.idx

theorem execEthernetMarkerLock_of {g : Port} {k : LaneN} {sd : Side} {p : Pos} (locked codeword : Bool) (skew : Nat)
    (hc : s.cfl g = false) (hp : p.val ∈ s.positions g sd.idx k) (ha : s.rxActive (laneIdx sd p) = true)
    (hl : s.on (LRX.cdrLock (laneIdx sd p)) = true) :
    exec (.ethernetMarkerLock g k sd p locked codeword skew) s =
      .next ((((s.ethLaneLocked (laneIdx sd p) locked).ethPort g k sd (s.seg g sd.idx k).cw
        (codeword && decide (s.pers g ≠ 0) && decide (s.segState g sd.idx k = 6) && decide (skew ≤ 40)) skew).segEval
          g sd.idx k).goOn) :=
  congrArg Host.Outcome.next (if_pos (show (!s.cfl g && decide (p.val ∈ s.positions g sd.idx k) &&
      s.rxActive (laneIdx sd p) && s.on (LRX.cdrLock (laneIdx sd p))) = true by simp [hc, hp, ha, hl]))

theorem Framed.noteEthLock (h : Framed m' l s t) (g sd : Nat) (hl : (DIR.cwLock (inEngine sd) g).addr ∈ l) :
    Framed m' l s (t.noteEthLock g sd) := h.put _ (.inr hl)

theorem State.noteEthLock_seg (s : State) (g sd g' sd' k : Nat) : (s.noteEthLock g sd).seg g' sd' k = s.seg g' sd' k := by
  rw [State.noteEthLock, State.put_seg]

theorem State.noteEthLock_rxe (s : State) (g sd i : Nat) : (s.noteEthLock g sd).rxe i = s.rxe i := by
  rw [State.noteEthLock, State.put_rxe]

theorem State.ethPort_locked (s : State) (g : Port) (k : LaneN) (sd : Side) (skew : Nat) :
    s.ethPort g k sd false true skew = ((s.updSeg g sd.idx k (fun x => { x with cw := true, cwEver := true })).noteEthLock
      g sd.idx).put (DIR.skew (inEngine sd.idx) g) skew := rfl

theorem State.ethPort_unlocked (s : State) (g : Port) (k : LaneN) (sd : Side) (skew : Nat) :
    s.ethPort g k sd false false skew = s.noteEthLock g sd.idx := rfl

theorem State.ethPort_lost (s : State) (g : Port) (k : LaneN) (sd : Side) (skew : Nat) :
    s.ethPort g k sd true false skew = s.ethDrop g sd.idx k := (if_neg Bool.false_ne_true).trans (if_pos rfl)

theorem State.ethPort_seg {g : Port} {k : LaneN} {sd : Side} (cw : Bool) (skew : Nat)
    (h : (s.seg g sd.idx k).cw = false) : ((s.ethPort g k sd false cw skew).seg g sd.idx k).cw = cw := by
  cases cw
  · rw [State.ethPort_unlocked, State.noteEthLock_seg, h]
  · rw [State.ethPort_locked, State.put_seg, State.noteEthLock_seg, State.updSeg_seg_same]

/-- No receiver follows the port's codeword lock here. -/
theorem State.ethPort_rxe (s : State) (g : Port) (k : LaneN) (sd : Side) (cw : Bool) (skew i : Nat) :
    (s.ethPort g k sd false cw skew).rxe i = s.rxe i := by
  cases cw
  · rw [State.ethPort_unlocked, State.noteEthLock_rxe]
  · rw [State.ethPort_locked, State.put_rxe, State.noteEthLock_rxe, State.updSeg_rxe]

theorem Framed.ethPort (h : Framed m' l s t) (g : Port) (k : LaneN) (sd : Side) (cw : Bool) (skew : Nat)
    (hm : ∀ (x : State) f, m' (x.updSeg g sd.idx k f).base = m' x.base)
    (h1 : (DIR.cwLock (inEngine sd.idx) g).addr ∈ l) (h2 : (DIR.skew (inEngine sd.idx) g).addr ∈ l) :
    Framed m' l s (t.ethPort g k sd false cw skew) := by
  cases cw
  · rw [State.ethPort_unlocked]
    exact h.noteEthLock _ _ h1
  · rw [State.ethPort_locked]
    exact .put (.noteEthLock (h.updSeg _ _ _ _ fun x => hm x _) _ _ h1) _ (.inr h2)

theorem State.ethPort_get (s : State) (g : Port) (k : LaneN) (sd : Side) (cw : Bool) (skew : Nat) {f : Fld}
    (h : 0x100000 ≤ f.addr) : (s.ethPort g k sd false cw skew).get f = s.get f := by
  have hne : ∀ c, c < 0x100 → f.addr ≠ DIR.g (inEngine sd.idx) g + c := fun c hc => by
    have := inEngine_lt sd.idx
    simp only [DIR.g, DIR.base]
    omega
  have hfr : Framed (fun x => { x with segs := [] }) [(DIR.cwLock (inEngine sd.idx) g).addr,
      (DIR.skew (inEngine sd.idx) g).addr] s (s.ethPort g k sd false cw skew) :=
    .ethPort (.refl ..) g k sd cw skew (fun _ _ => rfl) (by simp) (by simp)
  exact hfr.get (by omega) (by simpa [DIR.cwLock, DIR.skew] using hne 4 (by omega))

theorem State.updSeg_seg_ne (s : State) {g sd k g' sd' k' : Nat} (f : Seg → Seg) (h : segKey g' sd' k' ≠ segKey g sd k) :
    (s.updSeg g sd k f).seg g' sd' k' = s.seg g' sd' k' := Sparse.get_set_ne _ _ _ _ h

/-- An Ethernet port that loses codeword lock, before the other segment's fill. -/
def State.ethLost (s : State) (g sd k : Nat) : State :=
  ((s.updSeg g sd k (fun x => { x with cw := false })).noteEthLock g sd).raise (DIR.event (inEngine sd)) 0

theorem State.ethLost_event (s : State) (g sd k : Nat) : BitSet (DIR.event (inEngine sd)) 0 (s.ethLost g sd k) :=
  State.raise_bit _ _ (DIR.event_block _) (by decide)

theorem State.ethLost_cw (s : State) (g sd k : Nat) : ((s.ethLost g sd k).seg g sd k).cw = false := by
  simp [State.ethLost, State.noteEthLock_seg]

theorem State.ethLost_get (s : State) (g : Port) (sd : Side) (k : Nat) {f : Fld} (h : 0x100000 ≤ f.addr) :
    (s.ethLost g sd.idx k).get f = s.get f := by
  have hg := g.isLt
  have he := inEngine_lt sd.idx
  rw [State.ethLost, State.get_raise _ _ _ (by omega) (by simp only [DIR.event, DIR.base]; omega), State.noteEthLock,
    State.get_put_ne _ _ _ _ (by simp only [DIR.cwLock, DIR.g, DIR.base]; omega), State.updSeg_get]

theorem State.ethDrop_eq (s : State) (g sd k : Nat) : s.ethDrop g sd k =
    if (s.ethLost g sd k).segState g (1 - sd) k = 6 then (s.ethLost g sd k).startFill g (1 - sd) k
    else s.ethLost g sd k := rfl

/-- The start of a fault fill: the segment is marked, and it leaves. -/
theorem State.startFill_cases (s : State) (g sd k : Nat) :
    s.startFill g sd k = s ∨ ∃ f, Sends (s.updSeg g sd k f) (s.startFill g sd k) := by
  unfold State.startFill
  split
  · exact .inl rfl
  · exact .inr ⟨_, .emit (.sendOver (.refl _) ..) _⟩

theorem segKey_sides (g k : Nat) (sd : Side) : segKey g sd.idx k ≠ segKey g (1 - sd.idx) k := by
  cases sd <;> simp only [segKey, Side.idx] <;> omega

theorem State.ethDrop_of (s : State) (g : Port) (sd : Side) (k : LaneN) :
    ((s.ethDrop g sd.idx k).seg g sd.idx k).cw = false ∧ BitSet (DIR.event (inEngine sd.idx)) 0 (s.ethDrop g sd.idx k) ∧
    ∀ f : Fld, 0x100000 ≤ f.addr → (s.ethDrop g sd.idx k).get f = s.get f := by
  have hlost : ∀ u, (u = s.ethLost g sd.idx k ∨ ∃ f, Sends ((s.ethLost g sd.idx k).updSeg g (1 - sd.idx) k f) u) →
      (u.seg g sd.idx k).cw = false ∧ BitSet (DIR.event (inEngine sd.idx)) 0 u ∧
      ∀ f : Fld, 0x100000 ≤ f.addr → u.get f = s.get f := by
    rintro u (hu | ⟨f, hu⟩)
    · rw [hu]
      exact ⟨s.ethLost_cw .., s.ethLost_event .., fun f hf => s.ethLost_get g sd k hf⟩
    · refine ⟨?_, .of_reg (s.ethLost_event ..) ((hu.reg _).trans (State.updSeg_reg ..)), fun f hf => ?_⟩
      · rw [hu.seg, State.updSeg_seg_ne _ _ (segKey_sides g k sd)]
        exact s.ethLost_cw ..
      · rw [hu.get, State.updSeg_get, s.ethLost_get g sd k hf]
  refine hlost _ ?_
  rw [State.ethDrop_eq]
  split
  · exact State.startFill_cases ..
  · exact .inl rfl

/-! The commands. -/

theorem execMarkerCheck_drop {sd : Side} {p : Pos} {m : MarkerObs} (ha : s.rxActive (laneIdx sd p) = true)
    (hc : s.on (LRX.cdrLock (laneIdx sd p)) = true) (hf : s.cflEnd (laneIdx sd p) = true)
    (h : (s.markNext (laneIdx sd p) m).1 ≠ .lock ∨ goodMarker m = false ∨
      (m.expected = false ∧ (s.rxe (laneIdx sd p)).mark ≠ .hunt)) :
    exec (.markerCheck sd p m) s = .next ((s.markSeen (laneIdx sd p) m).cwDropAll sd.idx).goOn :=
  congrArg Host.Outcome.next (State.markerCheck_drop ha hc hf h)

theorem execMarkerCheck_lock {sd : Side} {p : Pos} {m : MarkerObs} (ha : s.rxActive (laneIdx sd p) = true)
    (hc : s.on (LRX.cdrLock (laneIdx sd p)) = true) (hf : s.cflEnd (laneIdx sd p) = true) (hm : goodMarker m = true)
    (hx : m.expected = true) (h : (s.rxe (laneIdx sd p)).mark = .lock ∨
      ((s.rxe (laneIdx sd p)).mark = .confirm ∧ (s.rxe (laneIdx sd p)).good = 2)) :
    exec (.markerCheck sd p m) s =
      .next ((s.markSeen (laneIdx sd p) m).markActed sd p (decide ((s.rxe (laneIdx sd p)).mark ≠ .lock))).goOn :=
  congrArg Host.Outcome.next (State.markerCheck_lock ha hc hf hm hx h)

theorem execMarkerCheck_idle {sd : Side} {p : Pos} (m : MarkerObs) (h : s.rxActive (laneIdx sd p) = false ∨
    s.on (LRX.cdrLock (laneIdx sd p)) = false ∨ s.cflEnd (laneIdx sd p) = false) :
    exec (.markerCheck sd p m) s = .next s :=
  congrArg Host.Outcome.next (if_neg (show ¬ (s.rxActive (laneIdx sd p) && s.on (LRX.cdrLock (laneIdx sd p)) &&
    s.cflEnd (laneIdx sd p)) = true by rcases h with h | h | h <;> simp [h]))

/-- The lane of a good marker in LOCK. -/
theorem State.markSeen_locked {i : Nat} {m : MarkerObs} (hm : goodMarker m = true) (hx : m.expected = true)
    (h : (s.rxe i).mark = .lock ∨ ((s.rxe i).mark = .confirm ∧ (s.rxe i).good = 2)) :
    (s.markSeen i m).on (LRX.markerLock i) = true ∧ ((s.markSeen i m).rxe i).mark = .lock ∧
    ((s.markSeen i m).rxe i).miss = 0 := by
  have hn := markerNext_lock (miss := (s.rxe i).miss) h
  rw [State.markSeen_lock, State.markSeen_mark, State.markSeen_miss, hm, hx, hn]
  exact ⟨decide_eq_true rfl, rfl, rfl⟩

/-- A lane that keeps LOCK and whose port neither changes its map nor has codeword lock leads to no more than the check for
codeword lock. -/
theorem State.markerPort_locked {g : Port} {sd : Side} (i : Nat) (hp : s.pers g ≠ 0) (hch : (s.port g).change = none)
    (hag : (s.seg g sd.idx 0).agreed = []) (hno : s.on (DIR.cwLock (inEngine sd.idx) g) = false) :
    s.markerPort g sd.idx i false = (s.cwGain g sd.idx).cwDropAll sd.idx := by
  have hobs : s.rxObserve g sd.idx = s := by
    unfold State.rxObserve
    simp [hch, hag]
  have hname : s.nameCheck g sd.idx i = s := if_neg (by simp [hno])
  unfold State.markerPort
  simp only [Bool.false_eq_true, if_false, if_neg hp, hobs, hname]

/-- Settles O21: the machine's step is `markerNext`, put into the lane-end by `State.markSeen`; a codeword is counted by
`State.codeword_eq` in three steps. -/
theorem markersAndCodewords : Obligations.MarkersAndCodewords := by
  unfold Obligations.MarkersAndCodewords
  refine ⟨?_, ?_, ?_, ?_, ?_, ?_, ?_, ?_, ?_, ?_, ?_, ?_, ?_, ?_, ?_⟩
  · rintro s sd p i m rfl ha hc hf hn
    refine ⟨s.markSeen _ m, execMarkerCheck_drop ha hc hf (.inl hn), ?_, fun h hm => ?_, fun h hm => ?_, fun h hx hm => ?_,
      fun h hx hm => ?_, fun h => ?_, s.markSeen_framed _ m⟩
    · rw [State.markSeen_lock]
      exact decide_eq_false hn
    · rw [State.markSeen_mark, State.markSeen_good, h, hm]
      exact ⟨rfl, rfl, (s.markSeen_info hm (.inr h)).1⟩
    · rw [State.markSeen_mark, h, hm]
      rfl
    · rw [State.markSeen_mark, h, hm, hx]
      rfl
    · rw [h, hm, hx] at hn
      have hg : (s.rxe (laneIdx sd p)).good ≠ 2 := by
        intro hg
        exact hn (by rw [hg]; rfl)
      rw [State.markSeen_mark, State.markSeen_good, h, hm, hx]
      simp [markerNext, hg]
    · rw [h] at hn
      have hmiss : goodMarker m = false ∧ m.expected = true ∧ (s.rxe (laneIdx sd p)).miss = 3 := by
        by_contra hne
        refine hn ?_
        unfold markerNext
        cases hx : m.expected <;> cases hm : goodMarker m <;> simp_all
      obtain ⟨hm, hx, h3⟩ := hmiss
      rw [State.markSeen_mark, h, hm, hx, h3]
      exact ⟨rfl, rfl⟩
  · rintro s sd p i g n m rfl ha hc hf hm hx h hcar
    obtain ⟨hon, hmark, hmiss⟩ := State.markSeen_locked hm hx h
    obtain ⟨hinfo, harr⟩ := s.markSeen_info hm (.inl hx)
    refine ⟨s.markSeen _ m, ?_, hon, hmark, hmiss, hinfo, harr, s.markSeen_framed _ m⟩
    rw [execMarkerCheck_lock ha hc hf hm hx h, State.markActed, State.markSeen_carried, hcar]
  · rintro s sd p i n g m rfl ha hc hf hm hx h hcar hp hch hag hno
    have hmap := s.markSeen_mapAlike (laneIdx_lt sd p) m
    have hg := g.isLt
    refine ⟨s.markSeen _ m, ?_, s.markSeen_framed _ m⟩
    rw [execMarkerCheck_lock ha hc hf hm hx (.inl h), State.markActed, State.markSeen_carried, hcar]
    simp only [h, ne_eq, not_true_eq_false, decide_false]
    rw [State.markerPort_locked]
    · unfold State.pers at hp ⊢
      rwa [hmap.get (.inl (by simp only [GLB.pers, GLB.pgcfg]; omega)),
        hmap.on (.inl (by simp only [FLT.fallback]; omega))]
    · exact (s.markSeen_port ..).symm ▸ hch
    · rw [hmap.seg, hag]
    · rw [hmap.on (.inl (by have := inEngine_lt sd.idx; simp only [DIR.cwLock, DIR.g, DIR.base]; omega)), hno]
  · intro s g sd hlp hc hp hup hno hall hinfo
    exact State.cwGain_waking hlp hc hp hup hno hall hinfo
  · rintro s sd p i m rfl ha hc hf hm hx h hcar
    obtain ⟨hon, hmark, hmiss⟩ := State.markSeen_locked hm hx h
    refine ⟨s.markSeen _ m, ?_, hon, hmark, hmiss, (s.markSeen_info hm (.inl hx)).1, s.markSeen_framed _ m⟩
    rw [execMarkerCheck_lock ha hc hf hm hx h, State.markActed, State.markSeen_carried, hcar]
  · rintro s sd p i m rfl ha hc hf h hbad hx
    have hstay := markerNext_stays (good := (s.rxe (laneIdx sd p)).good) hbad hx
    refine ⟨s.markSeen _ m, execMarkerCheck_drop ha hc hf (.inr ?_), ?_, ?_, ?_, s.markSeen_framed _ m⟩
    · rcases hbad with h' | h'
      · exact .inl h'
      · exact .inr ⟨h', by rw [h]; decide⟩
    · rw [State.markSeen_lock, h, hstay]
      rfl
    · rw [State.markSeen_mark, h, hstay]
    · rw [State.markSeen_miss, h, hstay]
  · intro s sd p m h
    exact execMarkerCheck_idle m h
  · rintro s g k sd p locked codeword skew i rfl hc hp ha hl hcw
    have hbase : 0x100000 ≤ (LRX.markerLock (laneIdx sd p)).addr := by simp only [LRX.markerLock, LRX.base]; omega
    have hx := execEthernetMarkerLock_of locked codeword skew hc hp ha hl
    rw [hcw] at hx
    refine ⟨_, hx, ?_, ?_, ?_, ?_⟩
    · refine Eq.trans ?_ (s.ethLaneLocked_on (laneIdx sd p) locked)
      unfold State.on
      rw [State.ethPort_get _ _ _ _ _ _ hbase]
    · rw [State.ethPort_rxe, State.ethLaneLocked_mark]
    · exact State.ethPort_seg _ _ (by rw [State.ethLaneLocked_seg, hcw])
    · exact .ethPort (.ethLaneLocked (.refl ..) _ _ (by simp) fun _ _ => rfl) _ _ _ _ _ (fun _ _ => rfl) (by simp) (by simp)
  · rintro s g k sd p locked codeword skew i rfl hc hp ha hl hcw hlost
    have hbase : 0x100000 ≤ (LRX.markerLock (laneIdx sd p)).addr := by simp only [LRX.markerLock, LRX.base]; omega
    have hx := execEthernetMarkerLock_of locked codeword skew hc hp ha hl
    have hno : (codeword && decide (s.pers g ≠ 0) && decide (s.segState g sd.idx k = 6) && decide (skew ≤ 40)) = false := by
      rcases hlost with h | h
      · simp [h]
      · simp [Nat.not_le.2 h]
    rw [hcw, hno, State.ethPort_lost] at hx
    obtain ⟨h1, h2, h3⟩ := (s.ethLaneLocked (laneIdx sd p) locked).ethDrop_of g sd k
    refine ⟨(s.ethLaneLocked (laneIdx sd p) locked).ethDrop g sd.idx k, hx, h1, ?_, h2⟩
    refine Eq.trans ?_ (s.ethLaneLocked_on (laneIdx sd p) locked)
    unfold State.on
    rw [h3 _ hbase]
  · intro s e g k msg hp hk hcw hends hgood
    have hok : decide (2 * s.wrong (s.portEnds' g e.idx k) (544 * (s.eng e.idx g).cwIndex) [] [] +
        s.erasures (s.portEnds' g e.idx k) (544 * (s.eng e.idx g).cwIndex) [] ≤ 30) = true := by
      rw [State.erasures_none hends hgood]
      rfl
    refine ⟨_, execCodewordReceived_of msg rfl rfl hp hk hcw, ?_, ?_⟩
    · exact (State.counter_codeword (a := DIR.cwTotal e.idx g) hends hok msg (DIR.g_low e g (k := 0x40) (by decide))).trans
        (State.portCounted_total _ _ _ _ _)
    · obtain ⟨f, h, hu⟩ := State.codeword_eq hends hok msg
      rw [hu]
      refine .sends (.endsCounted_clean ?_ (fun _ _ _ => rfl) (fun i hi => ⟨rfl, ?_⟩) f)
        (.updEng (.codewordOut (.refl _) ..) ..) (fun _ _ _ => rfl)
      · exact .count (.refl ..) (.inr (by simp)) (.inr (by simp))
      · exact List.mem_append_right _ (List.mem_map_of_mem hi)
  · intro s e g k errors marked msg hp hk hcw hends herr h1 h2 hle
    have hok := decide_eq_true hle
    refine ⟨_, execCodewordReceived_of msg h1 h2 hp hk hcw, ?_, ?_, fun hc hup hfill => ?_⟩
    · exact (State.counter_codeword (a := DIR.cwTotal e.idx g) hends hok msg (DIR.g_low e g (k := 0x40) (by decide))).trans
        (State.portCounted_total _ _ _ _ _)
    · exact (State.counter_codeword (a := DIR.cwCorr e.idx g) hends hok msg (DIR.g_low e g (k := 0x48) (by decide))).trans
        (State.portCounted_corr _ _ _ herr)
    · exact State.codeword_out hends hok msg hc hup hfill
  · intro s e g k errors marked msg hp hk hcw hc hends h1 h2 hlt
    have hok := decide_eq_false (Nat.not_le.2 hlt)
    refine ⟨_, execCodewordReceived_of msg h1 h2 hp hk hcw, ?_, ?_, ?_, ?_⟩
    · exact (State.counter_codeword (a := DIR.cwTotal e.idx g) hends hok msg (DIR.g_low e g (k := 0x40) (by decide))).trans
        (State.portCounted_total _ _ _ _ _)
    · exact (State.counter_codeword (a := DIR.cwUncorr e.idx g) hends hok msg (DIR.g_low e g (k := 0x50) (by decide))).trans
        (State.portCounted_uncorr_counter _ _ _ _)
    · rw [State.reg_codeword hends hok msg (DIR.event_low e)]
      exact s.portCounted_event e g errors
    · obtain ⟨f, h, hu⟩ := State.codeword_eq hends hok msg
      rw [hu, State.codewordOut,
        if_pos ((s.counted_cfl e fun i => State.portEnds'_lt g.isLt (Eng.idx_lt e)).trans hc), State.portCounted_uncorr,
        if_pos hc]
      refine .updEng (.endsCounted_bad ?_ (fun _ _ _ => rfl) (fun i hi => ?_) f) _ _ _ fun _ => rfl
      · exact .raise (.count (.count (.refl ..) (.inr (by simp)) (.inr (by simp))) (.inr (by simp)) (.inr (by simp))) _
          (by simp)
      · refine ⟨?_, ?_, ?_⟩ <;> exact List.mem_append_right _ (List.mem_flatMap.2 ⟨i, hi, by simp⟩)
  · intro s e g k errors marked msg hp hk hcw hc hends h1 h2 hlt
    have hok := decide_eq_false (Nat.not_le.2 hlt)
    refine ⟨_, execCodewordReceived_of msg h1 h2 hp hk hcw, ?_, ?_, ?_, fun hup hfill => ?_⟩
    · exact (State.counter_codeword (a := DIR.cwUncorr e.idx g) hends hok msg (DIR.g_low e g (k := 0x50) (by decide))).trans
        (State.portCounted_uncorr_counter _ _ _ _)
    · exact (State.counter_codeword (a := DIR.stomp e.idx g) hends hok msg (DIR.g_low e g (k := 0x78) (by decide))).trans
        (State.portCounted_stomp _ _ _ hc)
    · rw [State.reg_codeword hends hok msg (DIR.event_low e)]
      exact s.portCounted_event e g errors
    · exact State.codeword_out hends hok msg hc hup hfill
  · intro s e g k errors marked msg h1 h2 h
    exact execCodewordReceived_idle msg h1 h2 h
  · intro s e g k errors marked msg h
    exact execCodewordReceived_ill msg h

end Sys2Proof.Machine
end

section
/-! PROOFS. The collector's records: the history, the first-fault record, and what an onset notes before it acts (15_fault_collection.md,
R355, R366). -/

namespace Sys2Proof.Machine

variable {m : State → State} {l : List Nat} {s t : State}

theorem FLT.hist_range {k i : Nat} (hk : k < 16) (hi : i < 4) : 0x10800 ≤ FLT.hist k i ∧ FLT.hist k i < 0x10900 := by
  unfold FLT.hist
  omega

theorem Framed.faultHist (h : Framed m l s t) (src kind info : Nat)
    (hl : ∀ i < 4, FLT.hist ((t.reg FLT.histSeq).toNat % 16) i ∈ l) (hs : FLT.histSeq ∈ l) :
    Framed m l s (t.faultHist src kind info) :=
  ((((h.setReg _ (.inr (hl 0 (by decide)))).setReg _ (.inr (hl 1 (by decide)))).setReg _
    (.inr (hl 2 (by decide)))).setReg _ (.inr (hl 3 (by decide)))).setReg _ (.inr hs)

/-- The history writes its own registers alone. -/
theorem State.reg_faultHist_ne (s : State) (src kind info : Nat) {a : Nat} (h : a < 0x10800 ∨ 0x10900 ≤ a)
    (hs : a ≠ FLT.histSeq) : (s.faultHist src kind info).reg a = s.reg a := by
  have hk : (s.reg FLT.histSeq).toNat % 16 < 16 := Nat.mod_lt _ (by decide)
  have hne : ∀ i < 4, a ≠ FLT.hist ((s.reg FLT.histSeq).toNat % 16) i := fun i hi => by
    have := FLT.hist_range hk hi
    omega
  unfold State.faultHist
  rw [State.reg_setReg_ne _ _ hs, State.reg_setReg_ne _ _ (hne 3 (by decide)), State.reg_setReg_ne _ _ (hne 2 (by decide)),
    State.reg_setReg_ne _ _ (hne 1 (by decide)), State.reg_setReg_ne _ _ (hne 0 (by decide))]

theorem State.get_faultHist (s : State) (src kind info : Nat) {f : Fld} (h : f.addr < 0x10800 ∨ 0x10900 ≤ f.addr)
    (hs : f.addr ≠ FLT.histSeq) : (s.faultHist src kind info).get f = s.get f := by
  unfold State.get
  rw [State.reg_faultHist_ne s src kind info h hs]

theorem State.faultHist_seq (s : State) (src kind info : Nat) :
    (s.faultHist src kind info).reg FLT.histSeq = s.reg FLT.histSeq + 1 := State.reg_setReg_same ..

theorem State.faultHist_entry (s : State) (src kind info : Nat) :
    (s.faultHist src kind info).reg (FLT.hist ((s.reg FLT.histSeq).toNat % 16) 0) =
      BitVec.ofNat 32 (src % 2 ^ 16 + 2 ^ 16 * kind + 2 ^ 24 * info) := by
  have hk : (s.reg FLT.histSeq).toNat % 16 < 16 := Nat.mod_lt _ (by decide)
  have h0 : FLT.hist ((s.reg FLT.histSeq).toNat % 16) 0 ≠ FLT.histSeq := by
    have := FLT.hist_range hk (i := 0) (by decide)
    have hseq : FLT.histSeq = 0x10030 := rfl
    omega
  unfold State.faultHist
  rw [State.reg_setReg_ne _ _ h0, State.reg_setReg_ne _ _ (by unfold FLT.hist; omega),
    State.reg_setReg_ne _ _ (by unfold FLT.hist; omega), State.reg_setReg_ne _ _ (by unfold FLT.hist; omega),
    State.reg_setReg_same]

/-- What each of the history's steps leaves of the rest of the state. -/
theorem State.faultHist_same (s : State) (src kind info : Nat) : SameButRegs s (s.faultHist src kind info) :=
  .setReg (.setReg (.setReg (.setReg (.setReg (.refl s) ..) ..) ..) ..) ..

theorem Framed.fillFirst (h : Framed m l s t) (n sev : Nat) (wire : Bool) (h1 : FLT.first ∈ l) (h2 : FLT.firstEpoch ∈ l)
    (h3 : FLT.firstTime ∈ l) (h4 : FLT.firstTime + 4 ∈ l) : Framed m l s (t.fillFirst n sev wire) :=
  (((h.setReg _ (.inr h1)).setReg _ (.inr h2)).setReg _ (.inr h3)).setReg _ (.inr h4)

theorem Framed.noteFirst (h : Framed m l s t) (n sev : Nat) (wire : Bool) (h1 : FLT.first ∈ l) (h2 : FLT.firstEpoch ∈ l)
    (h3 : FLT.firstTime ∈ l) (h4 : FLT.firstTime + 4 ∈ l) : Framed m l s (t.noteFirst n sev wire) := by
  unfold State.noteFirst
  split
  · exact h.put _ (.inr h1)
  · exact h.fillFirst n sev wire h1 h2 h3 h4

theorem State.faultInfo_global (s : State) {n : Nat} (h : 136 ≤ n) (sev : Nat) : s.faultInfo n sev = sev := by
  unfold State.faultInfo State.erasedOnly
  rw [decide_eq_false (by omega : ¬ n < 136)]
  rfl

/-- What an onset notes, before it acts: live, status, history and the first-fault record, with the event from severity 2. -/
def State.onsetNoted (s : State) (n sev : Nat) (wire : Bool) : State :=
  let s := s.put (FLT.live n) 1
  let s := ((s.put (FLT.status n) 1).faultHist n 1 (s.faultInfo n sev)).noteFirst n sev wire
  if 2 ≤ sev then s.raise FLT.event 0 else s

theorem State.onset_silent (s : State) (n : Nat) (wire : Bool) : s.onset n 0 wire = s.put (FLT.live n) 1 := by
  unfold State.onset
  exact if_pos rfl

theorem State.onset_of (s : State) {n sev : Nat} (wire : Bool) (h : sev ≠ 0) : s.onset n sev wire =
    if sev = 3 then { s.onsetNoted n sev wire with grace := (s.onsetNoted n sev wire).grace ||| 2 ^ n }
    else if 4 ≤ sev then (s.onsetNoted n sev wire).escalate n (decide (5 ≤ sev)) else s.onsetNoted n sev wire :=
  if_neg h

/-- The registers that an onset writes beside FLT_LIVE, `k` being the place in the history. -/
def onsetRegs (n k : Nat) : List Nat :=
  [(FLT.status n).addr, FLT.first, FLT.firstEpoch, FLT.firstTime, FLT.firstTime + 4, FLT.histSeq, FLT.event, FLT.hist k 0,
    FLT.hist k 1, FLT.hist k 2, FLT.hist k 3]

theorem hist_mem_onsetRegs (n k : Nat) : ∀ i < 4, FLT.hist k i ∈ onsetRegs n k := by
  intro i hi
  obtain rfl | rfl | rfl | rfl : i = 0 ∨ i = 1 ∨ i = 2 ∨ i = 3 := by omega
  all_goals simp [onsetRegs]

theorem State.histSeq_status (s : State) (n : Nat) :
    ((s.put (FLT.live n) 1).put (FLT.status n) 1).reg FLT.histSeq = s.reg FLT.histSeq := by
  rw [State.reg_put_ne _ _ _ (by simp only [FLT.status, FLT.histSeq]; omega),
    State.reg_put_ne _ _ _ (by simp only [FLT.live, FLT.histSeq]; omega)]

/-- After live and status are set, an onset writes its records alone. -/
theorem State.onsetNoted_framed (s : State) (n sev : Nat) (wire : Bool) :
    Framed id (onsetRegs n ((s.reg FLT.histSeq).toNat % 16)) (s.put (FLT.live n) 1) (s.onsetNoted n sev wire) := by
  have hrec : Framed id (onsetRegs n ((s.reg FLT.histSeq).toNat % 16)) (s.put (FLT.live n) 1)
      ((((s.put (FLT.live n) 1).put (FLT.status n) 1).faultHist n 1 ((s.put (FLT.live n) 1).faultInfo n sev)).noteFirst n sev
        wire) := by
    refine .noteFirst (.faultHist (.put (.refl ..) _ (.inr (by simp [onsetRegs]))) _ _ _ (fun i hi => ?_)
      (by simp [onsetRegs])) _ _ _ (by simp [onsetRegs]) (by simp [onsetRegs]) (by simp [onsetRegs]) (by simp [onsetRegs])
    rw [State.histSeq_status s n]
    exact hist_mem_onsetRegs n _ i hi
  unfold State.onsetNoted
  split
  · exact hrec.raise _ (by simp [onsetRegs])
  · exact hrec

theorem onsetRegs_ne {n k a : Nat} (hn : n < 184) (hk : k < 16) (h : 0x10060 ≤ a) (h' : a < 0x10800) : a ∉ onsetRegs n k := by
  simp only [onsetRegs, FLT.status, FLT.first, FLT.firstEpoch, FLT.firstTime, FLT.histSeq, FLT.event, FLT.hist,
    List.mem_cons, List.not_mem_nil, or_false]
  omega

theorem State.onsetNoted_get (s : State) {n : Nat} (hn : n < 184) (sev : Nat) (wire : Bool) {f : Fld} (h : 0x10060 ≤ f.addr)
    (h' : f.addr < 0x10800) : (s.onsetNoted n sev wire).get f = (s.put (FLT.live n) 1).get f :=
  (s.onsetNoted_framed n sev wire).get (by omega) (onsetRegs_ne hn (Nat.mod_lt _ (by decide)) h h')

theorem State.onsetNoted_live (s : State) {n : Nat} (hn : n < 184) (sev : Nat) (wire : Bool) :
    (s.onsetNoted n sev wire).on (FLT.live n) = true := by
  have h1 : (s.put (FLT.live n) 1).get (FLT.live n) = 1 :=
    (State.get_put_same _ _ _ (by simp only [FLT.live]; omega)).trans (by simp [FLT.live])
  unfold State.on
  rw [s.onsetNoted_get hn sev wire (by simp only [FLT.live]; omega) (by simp only [FLT.live]; omega), h1]
  rfl

/-- An onset's records, before its event. -/
def State.onsetRecorded (s : State) (n sev : Nat) (wire : Bool) : State :=
  (((s.put (FLT.live n) 1).put (FLT.status n) 1).faultHist n 1 ((s.put (FLT.live n) 1).faultInfo n sev)).noteFirst n sev wire

theorem State.onsetNoted_reg (s : State) (n sev : Nat) (wire : Bool) {a : Nat} (h3 : a / 0x10000 ≠ 3) (h : a ≠ FLT.event) :
    (s.onsetNoted n sev wire).reg a = (s.onsetRecorded n sev wire).reg a := by
  show (if 2 ≤ sev then (s.onsetRecorded n sev wire).raise FLT.event 0 else s.onsetRecorded n sev wire).reg a = _
  split
  · exact State.reg_raiseBits_ne _ _ _ h3 h
  · rfl

theorem State.onsetNoted_event (s : State) (n : Nat) {sev : Nat} (wire : Bool) (h : 2 ≤ sev) :
    BitSet FLT.event 0 (s.onsetNoted n sev wire) := by
  have he : s.onsetNoted n sev wire = (s.onsetRecorded n sev wire).raise FLT.event 0 := if_pos h
  rw [he]
  exact State.raise_bit _ _ (by decide) (by decide)

/-- The state that an onset's first-fault record is taken in. -/
def State.onsetHist (s : State) (n sev : Nat) : State :=
  ((s.put (FLT.live n) 1).put (FLT.status n) 1).faultHist n 1 ((s.put (FLT.live n) 1).faultInfo n sev)

theorem State.onsetHist_reg (s : State) {n : Nat} (hn : n < 184) (sev : Nat) {a : Nat} (h : a < 0x10040 ∨ 0x10900 ≤ a)
    (hs : a ≠ FLT.histSeq) : (s.onsetHist n sev).reg a = s.reg a := by
  rw [State.onsetHist, State.reg_faultHist_ne _ _ _ _ (by omega) hs,
    State.reg_put_ne _ _ _ (by simp only [FLT.status]; omega), State.reg_put_ne _ _ _ (by simp only [FLT.live]; omega)]

theorem State.onsetHist_get (s : State) {n : Nat} (hn : n < 184) (sev : Nat) {f : Fld} (h : f.addr < 0x10040 ∨ 0x10900 ≤ f.addr)
    (hs : f.addr ≠ FLT.histSeq) : (s.onsetHist n sev).get f = s.get f := by
  unfold State.get
  rw [State.onsetHist_reg s hn sev h hs]

/-- A full record only takes its overflow bit. -/
theorem State.onsetRecorded_full (s : State) {n : Nat} (hn : n < 184) (sev : Nat) (wire : Bool) (h : s.on FLT.fValid = true) :
    s.onsetRecorded n sev wire = (s.onsetHist n sev).put FLT.fOvf 1 :=
  if_pos (show (s.onsetHist n sev).on FLT.fValid = true by
    unfold State.on at h ⊢
    rwa [State.onsetHist_get s hn sev (by decide) (by decide)])

theorem State.onsetRecorded_free (s : State) {n : Nat} (hn : n < 184) (sev : Nat) (wire : Bool) (h : s.on FLT.fValid = false) :
    s.onsetRecorded n sev wire = (s.onsetHist n sev).fillFirst n sev wire :=
  if_neg (show ¬ (s.onsetHist n sev).on FLT.fValid = true by
    unfold State.on at h ⊢
    rw [State.onsetHist_get s hn sev (by decide) (by decide), h]
    decide)

theorem State.fillFirst_word (s : State) {n : Nat} (hn : 136 ≤ n) (sev : Nat) :
    (s.fillFirst n sev false).reg FLT.first = BitVec.ofNat 32 (n + 2 ^ 8 * sev + 2 ^ 31) := by
  unfold State.fillFirst
  rw [State.reg_setReg_ne _ _ (by decide), State.reg_setReg_ne _ _ (by decide), State.reg_setReg_ne _ _ (by decide),
    State.reg_setReg_same, if_neg (by omega)]
  rfl

theorem State.fillFirst_epoch (s : State) (n sev : Nat) (wire : Bool) :
    (s.fillFirst n sev wire).reg FLT.firstEpoch = s.reg ECL.epoch := by
  unfold State.fillFirst
  rw [State.reg_setReg_ne _ _ (by decide), State.reg_setReg_ne _ _ (by decide), State.reg_setReg_same]

theorem State.fillFirst_time (s : State) (n sev : Nat) (wire : Bool) :
    (s.fillFirst n sev wire).counter FLT.firstTime = s.counter ECL.time := by
  have hlo : (s.fillFirst n sev wire).reg FLT.firstTime = s.reg ECL.time := by
    unfold State.fillFirst
    rw [State.reg_setReg_ne _ _ (by decide), State.reg_setReg_same]
  have hhi : (s.fillFirst n sev wire).reg (FLT.firstTime + 4) = s.reg (ECL.time + 4) := by
    unfold State.fillFirst
    rw [State.reg_setReg_same]
  unfold State.counter
  rw [hlo, hhi]

theorem State.reg_fillFirst_ne (s : State) (n sev : Nat) (wire : Bool) {a : Nat} (h : a < 0x10020 ∨ 0x10030 ≤ a) :
    (s.fillFirst n sev wire).reg a = s.reg a := by
  have hne : ∀ b ∈ [FLT.first, FLT.firstEpoch, FLT.firstTime, FLT.firstTime + 4], a ≠ b := fun b hb => by
    simp only [FLT.first, FLT.firstEpoch, FLT.firstTime, List.mem_cons, List.not_mem_nil, or_false] at hb
    omega
  unfold State.fillFirst
  rw [State.reg_setReg_ne _ _ (hne _ (by simp)), State.reg_setReg_ne _ _ (hne _ (by simp)),
    State.reg_setReg_ne _ _ (hne _ (by simp)), State.reg_setReg_ne _ _ (hne _ (by simp))]

/-- What the record of a source of the upper classes reads back. -/
theorem first_fields {n sev : Nat} (hn : n < 184) (hsev : sev < 8) {w : Word} (hw : w = BitVec.ofNat 32 (n + 2 ^ 8 * sev + 2 ^ 31)) :
    bitsOf w.toNat 0 8 = n ∧ bitsOf w.toNat 8 3 = sev ∧ bitsOf w.toNat 31 1 = 1 := by
  have ht : w.toNat = n + 2 ^ 8 * sev + 2 ^ 31 := by
    rw [hw, BitVec.toNat_ofNat]
    exact Nat.mod_eq_of_lt (by omega)
  rw [ht]
  unfold bitsOf
  omega

end Sys2Proof.Machine
end

section
/-! PROOFS. Onsets of fault sources, their ends, wiring faults, grace timers and the source configuration (15_fault_collection.md,
R353 to R356, R366, R371). -/

namespace Sys2Proof.Machine

variable {s t : State}

/-! Where a condition occurs. -/

theorem State.faultAt_global (s : State) {n : Source} (hn : n.val < 136 ∨ 160 ≤ n.val) :
    s.faultAt n 0 = s := by
  have hno : ¬ (136 ≤ n.val ∧ n.val < 160) := by omega
  unfold State.faultAt
  simp only [hno, if_false]
  simp

theorem ownCause_le {n : Nat} (h : ownCause n = false) : 136 ≤ n := by
  by_contra hlt
  rw [ownCause, decide_eq_true (.inl (by omega))] at h
  cases h

theorem testBit_or_self (c n : Nat) : (c ||| 2 ^ n).testBit n = true := by
  rw [Nat.testBit_or, Nat.testBit_two_pow_self, Bool.or_true]

theorem testBit_mask (c : Nat) {n : Nat} (hn : n < 184) : (c &&& (2 ^ 184 - 1 - 2 ^ n)).testBit n = false := by
  have h : (2 ^ 184 - 1 - 2 ^ n : Nat).testBit n = false := by
    rw [Nat.sub_sub, Nat.add_comm 1, Nat.testBit_two_pow_sub_succ (Nat.pow_lt_pow_right (by decide) hn) n]
    simp
  rw [Nat.testBit_and, h, Bool.and_false]

theorem State.present_causeOn (s : State) (n : Nat) : (s.causeOn n).present n = true := by
  unfold State.present State.causeOn
  rw [testBit_or_self, Bool.true_or]

/-- A source of another kind that can occur: its cause is on, and its onset follows where it was not live. -/
theorem execFaultOnset_of {n : Source} {place : Nat} (ho : ownCause n = false) (hc : s.faultCan n place = true) :
    exec (.faultOnset n place) s = .next (((s.faultAt n place).causeOn n).onsetIfNew n false) := by
  refine congrArg Host.Outcome.next ((if_neg (show ¬ (!s.faultCan n place) = true by simp [hc])).trans (if_neg ?_))
  simp [ho]

theorem execFaultOnset_cannot {n : Source} {place : Nat} (hc : s.faultCan n place = false) :
    exec (.faultOnset n place) s = .next s :=
  congrArg Host.Outcome.next (if_pos (show (!s.faultCan n place) = true by simp [hc]))

theorem State.onsetIfNew_live {n : Nat} (h : s.on (FLT.live n) = true) (wire : Bool) : s.onsetIfNew n wire = s :=
  if_neg (by simp [h])

theorem State.onsetIfNew_new {n : Nat} (hp : s.present n = true) (h : s.on (FLT.live n) = false) (wire : Bool) :
    s.onsetIfNew n wire = s.onset n (s.get (FLT.sev n)) wire := if_pos (by simp [h, hp])

theorem execFaultOnset_new {n : Source} (ho : ownCause n = false) (hc : s.faultCan n 0 = true)
    (hn : n.val < 136 ∨ 160 ≤ n.val) (hl : s.on (FLT.live n) = false) :
    exec (.faultOnset n 0) s = .next ((s.causeOn n).onset n (s.get (FLT.sev n)) false) := by
  rw [execFaultOnset_of ho hc, State.faultAt_global s hn, State.onsetIfNew_new (s.present_causeOn n) hl,
    State.causeOn_get]

theorem execFaultOnset_again {n : Source} {place : Nat} (ho : ownCause n = false) (hc : s.faultCan n place = true)
    (hl : (s.faultAt n place).on (FLT.live n) = true) :
    exec (.faultOnset n place) s = .next ((s.faultAt n place).causeOn n) := by
  rw [execFaultOnset_of ho hc, State.onsetIfNew_live (s := (s.faultAt n place).causeOn n) hl]

theorem State.faultCan_of_fileUp {n : Source} (hn : 136 ≤ n.val) (h177 : n.val ≠ 177) (h : s.fileUp = true) (place : Nat) :
    s.faultCan n place = true := by
  unfold State.faultCan State.sourceUp
  rw [if_neg (by omega), if_neg (by omega), h]
  simp [h177]

/-- Of a noted onset of severity 1 to 3 no more follows than its grace timer. -/
theorem State.onset_deferred (s : State) {n sev : Nat} (wire : Bool) (h : 1 ≤ sev) (h3 : sev ≤ 3) :
    ∃ g, s.onset n sev wire = { s.onsetNoted n sev wire with grace := g } ∧
      g = if sev = 3 then (s.onsetNoted n sev wire).grace ||| 2 ^ n else (s.onsetNoted n sev wire).grace := by
  rw [State.onset_of s wire (by omega)]
  split
  · exact ⟨_, rfl, rfl⟩
  · rw [if_neg (by omega)]
    exact ⟨_, rfl, rfl⟩

theorem State.onset_escalates (s : State) {n sev : Nat} (wire : Bool) (h : 4 ≤ sev) :
    s.onset n sev wire = (s.onsetNoted n sev wire).escalate n (decide (5 ≤ sev)) := by
  rw [State.onset_of s wire (by omega), if_neg (by omega), if_pos h]

/-- FLT_STATUS of a noted onset. -/
theorem State.onsetNoted_status (s : State) {n : Nat} (hn : n < 184) (sev : Nat) (wire : Bool) :
    (s.onsetNoted n sev wire).on (FLT.status n) = true := by
  have hput : ∀ u : State, (u.put (FLT.status n) 1).get (FLT.status n) = 1 := fun u =>
    (State.get_put_same _ _ _ (by simp only [FLT.status]; omega)).trans (by simp [FLT.status])
  have hne : (FLT.status n).addr ≠ FLT.event ∧ (FLT.status n).addr / 0x10000 ≠ 3 ∧
      0x10040 ≤ (FLT.status n).addr ∧ (FLT.status n).addr < 0x10800 := by
    simp only [FLT.status, FLT.event]
    omega
  obtain ⟨he, h3, hlo, hhi⟩ := hne
  have hhist : (s.onsetHist n sev).get (FLT.status n) = 1 :=
    (State.get_faultHist _ _ _ _ (.inl hhi) (by rw [FLT.histSeq]; omega)).trans (hput _)
  have hrec : (s.onsetRecorded n sev wire).get (FLT.status n) = 1 := by
    cases hv : s.on FLT.fValid
    · rw [State.onsetRecorded_free s hn sev wire hv, State.get, State.reg_fillFirst_ne _ _ _ _ (by omega)]
      exact hhist
    · rw [State.onsetRecorded_full s hn sev wire hv, State.get_put_ne _ _ _ _ (by rw [FLT.fOvf]; show _ ≠ 0x10020; omega)]
      exact hhist
  unfold State.on State.get
  rw [s.onsetNoted_reg n sev wire h3 he]
  exact decide_eq_true (by rw [show bitsOf _ _ _ = 1 from hrec]; decide)


/-- What an onset of a source of the upper classes notes where the first-fault record is free. -/
theorem State.onsetNoted_first (s : State) {n sev : Nat} (hn : n < 184) (h136 : 136 ≤ n) (hsev : sev < 8)
    (hv : s.on FLT.fValid = false) : let t := s.onsetNoted n sev false
    t.get FLT.fSource = n ∧ t.get FLT.fSev = sev ∧ t.on FLT.fValid = true ∧ t.reg FLT.firstEpoch = s.reg ECL.epoch ∧
    t.counter FLT.firstTime = s.counter ECL.time := by
  have hreg : ∀ a, a / 0x10000 ≠ 3 → a ≠ FLT.event →
      (s.onsetNoted n sev false).reg a = ((s.onsetHist n sev).fillFirst n sev false).reg a := fun a h3 he =>
    (s.onsetNoted_reg n sev false h3 he).trans (by rw [State.onsetRecorded_free s hn sev false hv])
  obtain ⟨h1, h2, h3⟩ := first_fields hn hsev
    ((hreg FLT.first (by decide) (by decide)).trans (State.fillFirst_word (s.onsetHist n sev) h136 sev))
  refine ⟨h1, h2, (State.on_iff _ _).2 (by rw [show State.get _ FLT.fValid = 1 from h3]; decide), ?_, ?_⟩
  · rw [hreg _ (by decide) (by decide), State.fillFirst_epoch, State.onsetHist_reg s hn sev (by decide) (by decide)]
  · refine Eq.trans ?_ ((State.fillFirst_time (s.onsetHist n sev) n sev false).trans ?_)
    · unfold State.counter
      rw [hreg _ (by decide) (by decide), hreg _ (by decide) (by decide)]
    · unfold State.counter
      rw [State.onsetHist_reg s hn sev (by decide) (by decide), State.onsetHist_reg s hn sev (by decide) (by decide)]

/-- Of a full record an onset keeps source, epoch and time, and the overflow shows. -/
theorem State.onsetNoted_full (s : State) {n : Nat} (hn : n < 184) (sev : Nat) (hv : s.on FLT.fValid = true) :
    let t := s.onsetNoted n sev false
    t.on FLT.fOvf = true ∧ t.get FLT.fSource = s.get FLT.fSource ∧ t.reg FLT.firstEpoch = s.reg FLT.firstEpoch ∧
    t.counter FLT.firstTime = s.counter FLT.firstTime := by
  have hreg : ∀ a, a / 0x10000 ≠ 3 → a ≠ FLT.event →
      (s.onsetNoted n sev false).reg a = ((s.onsetHist n sev).put FLT.fOvf 1).reg a := fun a h3 he =>
    (s.onsetNoted_reg n sev false h3 he).trans (by rw [State.onsetRecorded_full s hn sev false hv])
  have hkeep : ∀ a, a / 0x10000 ≠ 3 → a < 0x10040 → a ≠ FLT.event → a ≠ FLT.histSeq → a ≠ FLT.first →
      (s.onsetNoted n sev false).reg a = s.reg a := fun a h3 hlt he hs hf =>
    (hreg a h3 he).trans ((State.reg_put_ne _ _ _ hf).trans (State.onsetHist_reg s hn sev (.inl hlt) hs))
  have hget : ∀ f : Fld, f.addr = FLT.first → (s.onsetNoted n sev false).get f = ((s.onsetHist n sev).put FLT.fOvf 1).get f :=
    fun f hf => by unfold State.get; rw [hf, hreg _ (by decide) (by decide)]
  refine ⟨?_, ?_, hkeep _ (by decide) (by decide) (by decide) (by decide) (by decide), ?_⟩
  · unfold State.on
    rw [hget _ rfl, State.get_put_same _ _ _ (by decide)]
    rfl
  · rw [hget _ rfl, State.get_put_apart _ _ (by decide) (.inr (.inl (by decide))),
      State.onsetHist_get s hn sev (by decide) (by decide)]
  · unfold State.counter
    rw [hkeep _ (by decide) (by decide) (by decide) (by decide) (by decide),
      hkeep _ (by decide) (by decide) (by decide) (by decide) (by decide)]

theorem State.onsetRecorded_hist (s : State) {n : Nat} (hn : n < 184) (sev : Nat) (wire : Bool) {a : Nat}
    (h : 0x10030 ≤ a) : (s.onsetRecorded n sev wire).reg a = (s.onsetHist n sev).reg a := by
  cases hv : s.on FLT.fValid
  · rw [State.onsetRecorded_free s hn sev wire hv, State.reg_fillFirst_ne _ _ _ _ (by omega)]
  · rw [State.onsetRecorded_full s hn sev wire hv, State.reg_put_ne _ _ _ (show a ≠ 0x10020 by omega)]

/-- The history's entry of an onset of a source of the upper classes. -/
theorem State.onsetNoted_history (s : State) {n sev : Nat} (hn : n < 184) (h136 : 136 ≤ n) (hsev : sev < 8) :
    (s.onsetNoted n sev false).reg FLT.histSeq = s.reg FLT.histSeq + 1 ∧
    ((s.onsetNoted n sev false).reg (FLT.hist ((s.reg FLT.histSeq).toNat % 16) 0)).toNat =
      n + 2 ^ 16 * 1 + 2 ^ 24 * sev := by
  have hk : (s.reg FLT.histSeq).toNat % 16 < 16 := Nat.mod_lt _ (by decide)
  have hr := FLT.hist_range hk (i := 0) (by decide)
  constructor
  · rw [s.onsetNoted_reg n sev false (by decide) (by decide), s.onsetRecorded_hist hn sev false (by decide), State.onsetHist,
      State.faultHist_seq, State.histSeq_status]
  · rw [s.onsetNoted_reg n sev false (by omega) (by rw [FLT.event]; omega), s.onsetRecorded_hist hn sev false (by omega),
      State.onsetHist]
    have he := State.faultHist_entry ((s.put (FLT.live n) 1).put (FLT.status n) 1) n 1
      ((s.put (FLT.live n) 1).faultInfo n sev)
    rw [State.histSeq_status] at he
    rw [he, State.faultInfo_global _ h136, BitVec.toNat_ofNat, Nat.mod_eq_of_lt (by omega), Nat.mod_eq_of_lt (by omega)]

/-! The ends of a cause, and a wiring fault. -/

theorem State.causeOff_causes (s : State) {n : Nat} (hn : n < 184) : (s.causeOff n).causes.testBit n = false := by
  unfold State.causeOff
  extract_lets t
  split
  · exact testBit_mask _ hn
  · exact testBit_mask _ hn

theorem State.causeOff_wired {n : Nat} (h : s.flt.wiring.testBit n = true) :
    s.causeOff n = { s with causes := s.causes &&& (2 ^ 184 - 1 - 2 ^ n) } := if_pos h

/-- The cause of a pair without a wiring fault is gone, before FLT_LIVE follows it. -/
def State.causeGone (s : State) (n : Nat) : State :=
  { s with
    causes := s.causes &&& (2 ^ 184 - 1 - 2 ^ n)
    grace := s.grace &&& (2 ^ 184 - 1 - 2 ^ n)
    flt := { s.flt with held := s.flt.held.filter (fun m => decide (m ≠ n)) } }

theorem State.causeOff_of {n : Nat} (h : s.flt.wiring.testBit n = false) :
    s.causeOff n = (s.causeGone n).put (FLT.live n) 0 := if_neg (by simp [h])

theorem Framed.causeGone {m : State → State} {l : List Nat} (h : Framed m l s t) (n : Nat)
    (hm : ∀ (x : State) c g f, m { x.base with causes := c, grace := g, flt := f } = m x.base) :
    Framed m l s (t.causeGone n) := h.trans ⟨hm t _ _ _, fun _ _ _ => rfl⟩

theorem State.causeOff_live {n : Nat} (h : s.flt.wiring.testBit n = false) : (s.causeOff n).on (FLT.live n) = false := by
  rw [State.causeOff_of h, State.on_eq_false_iff, State.get_put_same _ _ _ (by simp only [FLT.live]; omega), Nat.zero_mod]

theorem State.causeOff_grace {n : Nat} (hn : n < 184) (h : s.flt.wiring.testBit n = false) :
    (s.causeOff n).grace.testBit n = false := by
  rw [State.causeOff_of h, State.put_grace]
  exact testBit_mask _ hn

theorem State.reg_causeOff_ne (s : State) (n : Nat) {a : Nat} (h : a ≠ (FLT.live n).addr) : (s.causeOff n).reg a = s.reg a := by
  cases hw : s.flt.wiring.testBit n
  · rw [State.causeOff_of hw, State.reg_put_ne _ _ _ h]
    rfl
  · rw [State.causeOff_wired hw]
    rfl

theorem Framed.causeOff {m : State → State} {l : List Nat} (h : Framed m l s t) (n : Nat) (hl : (FLT.live n).addr ∈ l)
    (hm : ∀ (x : State) c g f, m { x.base with causes := c, grace := g, flt := f } = m x.base) : Framed m l s (t.causeOff n) := by
  cases hw : t.flt.wiring.testBit n
  · rw [State.causeOff_of hw]
    exact .put (h.causeGone n hm) _ (.inr hl)
  · rw [State.causeOff_wired hw]
    exact h.trans ⟨hm t (t.causes &&& (2 ^ 184 - 1 - 2 ^ n)) t.grace t.flt, fun _ _ _ => rfl⟩

/-! The places of conditions in an engine. -/

/-- The slots and the replay of an engine after an uncorrectable error at SEQ k of a replay bank. -/
def EngPort.slotLost (x : EngPort) (k : Nat) : EngPort :=
  { x with
    slots := x.slots.map (fun y => if y.seq = k then { y with valid := false } else y)
    replay := x.replay.filter (fun q => decide (q ≠ k)) }

theorem State.faultAt_slot (s : State) {e g k : Nat} (he : e < 2) (hg : g < 4) (hk : k < 4096) :
    s.faultAt (137 + 12 * e) (4096 * g + k) = ((s.updEng e g (·.slotLost k)).noteRetry e g).drainCheck e g := by
  have h1 : (137 + 12 * e - 136) / 12 = e := by omega
  have h2 : (137 + 12 * e - 136) % 12 = 1 := by omega
  have h3 : (4096 * g + k) / 4096 % 4 = g := by omega
  have h4 : (4096 * g + k) % 4096 = k := by omega
  have hr : 136 ≤ 137 + 12 * e ∧ 137 + 12 * e < 160 := by omega
  unfold State.faultAt
  simp only [h1, h2, h3, h4, hr, and_self, if_true]
  rfl

/-- The deferral buffer without the flit at place k, before its check for a drain. -/
def State.deferLost (s : State) (e g k : Nat) : State :=
  (s.updEng e g (fun x => { x with defer := x.defer.eraseIdx k })).noteRetry e g

theorem State.faultAt_defer (s : State) {e g k : Nat} (he : e < 2) (hg : g < 4) (hk : k < 4096) :
    s.faultAt (138 + 12 * e) (4096 * g + k) = if k < s.get (DIR.deferLeft e g) then
      ((s.deferLost e g k).put (DIR.deferLeft e g) (s.get (DIR.deferLeft e g) - 1)).drainCheck e g
    else s.deferLost e g k := by
  have h1 : (138 + 12 * e - 136) / 12 = e := by omega
  have h2 : (138 + 12 * e - 136) % 12 = 2 := by omega
  have h3 : (4096 * g + k) / 4096 % 4 = g := by omega
  have h4 : (4096 * g + k) % 4096 = k := by omega
  have hr : 136 ≤ 138 + 12 * e ∧ 138 + 12 * e < 160 := by omega
  unfold State.faultAt
  simp only [h1, h2, h3, h4, hr, and_self, if_true]
  rfl

theorem State.faultAt_key (s : State) {e sd slot g : Nat} (he : e < 2) (hsd : sd < 2) (hs : slot < 2) (hg : g < 4) :
    ∃ k : Key, s.faultAt (140 + 12 * e) (8 * sd + 4 * slot + g) = s.setKey sd slot g { k with valid := false } := by
  have h2 : (140 + 12 * e - 136) % 12 = 4 := by omega
  have h3 : (8 * sd + 4 * slot + g) % 16 / 8 = sd := by omega
  have h4 : (8 * sd + 4 * slot + g) % 16 / 4 % 2 = slot := by omega
  have h5 : (8 * sd + 4 * slot + g) % 4 = g := by omega
  have hr : 136 ≤ 140 + 12 * e ∧ 140 + 12 * e < 160 := by omega
  refine ⟨s.key ((8 * sd + 4 * slot + g) % 16), ?_⟩
  unfold State.faultAt
  simp only [h2, h3, h4, h5, hr, and_self, if_true]

theorem FLT.live_range {n : Nat} (hn : n < 184) : 0x10060 ≤ (FLT.live n).addr ∧ (FLT.live n).addr < 0x10078 := by
  simp only [FLT.live]
  omega

/-- What the retry's records and the check for a drain write stands in the engines' blocks and in the partition table's. -/
theorem State.noteRetry_framed (s : State) (e g : Nat) : Framed id [DIR.g e g + 0x18, DIR.g e g + 0x1C] s (s.noteRetry e g) :=
  .noteRetry (.refl ..) e g (by simp) (by simp)

theorem State.drainCheck_framed (s : State) (e g : Nat) :
    Framed id [DIR.g e g + 0x24, DIR.event e, 0xA800C, PRT.event] s (s.drainCheck e g) :=
  .drainCheck (.refl ..) e g (by simp) (by simp) (by simp) (by simp)

theorem State.noteRetry_base (s : State) (e g : Nat) : (s.noteRetry e g).base = s.base := (s.noteRetry_framed e g).1

theorem State.drainCheck_base (s : State) (e g : Nat) : (s.drainCheck e g).base = s.base := (s.drainCheck_framed e g).1

theorem State.noteRetry_live (s : State) (e g : Nat) {n : Nat} (hn : n < 184) :
    (s.noteRetry e g).on (FLT.live n) = s.on (FLT.live n) := by
  have hr := FLT.live_range hn
  unfold State.on
  rw [(s.noteRetry_framed e g).get (by omega) (by simp only [List.mem_cons, List.not_mem_nil, or_false, DIR.g, DIR.base]; omega)]

theorem State.drainCheck_live (s : State) (e g : Nat) {n : Nat} (hn : n < 184) :
    (s.drainCheck e g).on (FLT.live n) = s.on (FLT.live n) := by
  have hr := FLT.live_range hn
  unfold State.on
  rw [(s.drainCheck_framed e g).get (by omega) (by
    simp only [List.mem_cons, List.not_mem_nil, or_false, DIR.g, DIR.base, DIR.event, PRT.event]; omega)]

theorem State.setKey_same (s : State) (sd slot g : Nat) (k : Key) :
    SameButRegs { s with keys := Sparse.set ⟨0, 0, false⟩ s.keys (keyIdx sd slot g) k } (s.setKey sd slot g k) :=
  .each (.refl _) fun _ _ _ => .put (.put (.refl _) ..) ..

theorem State.setKey_live (s : State) (sd slot g : Nat) (k : Key) {n : Nat} (hn : n < 184) :
    (s.setKey sd slot g k).on (FLT.live n) = s.on (FLT.live n) := by
  have hr := FLT.live_range hn
  refine State.apply_each (fun x : State => x.on (FLT.live n)) (fun e _ u => ?_)
    { s with keys := Sparse.set ⟨0, 0, false⟩ s.keys (keyIdx sd slot g) k }
  unfold State.on
  rw [State.get_put_ne _ _ _ _ (by simp only [DIR.kcv, DIR.g, DIR.base]; omega),
    State.get_put_ne _ _ _ _ (by simp only [DIR.keyValid, DIR.g, DIR.base]; omega)]

/-! A PCIe error, ERASED of an isolated lane-end, and the readback's end. -/

theorem State.faultAt_pcie (s : State) {k : Nat} (h0 : 0 < k) (hk : k < 32) :
    s.faultAt 165 k = (s.noteError k 0).count RNG.pcieUncorr := by
  have hm : k % 32 = k := Nat.mod_eq_of_lt hk
  have hne : k ≠ 0 := by omega
  have hr : ¬ (136 ≤ 165 ∧ 165 < 160) := by omega
  unfold State.faultAt
  simp only [hm, hr, if_false]
  exact if_pos ⟨trivial, hne⟩

/-- The function's records of an error, without the message that may leave. -/
def State.errorNoted (s : State) (bit : Nat) (dev : BitVec 4) : State :=
  { s with
    pcie := { s.pcie with
      aerUncorr := s.pcie.aerUncorr ||| BitVec.ofNat 32 (2 ^ bit)
      devStatus := s.pcie.devStatus ||| dev ||| (if s.pcie.aerSev.getLsbD bit then 4 else 2) } }

theorem State.noteError_eq (s : State) (bit : Nat) (dev : BitVec 4) :
    ∃ c o, s.noteError bit dev = (s.errorNoted bit dev).when c (fun u => u.emit o) := ⟨_, _, rfl⟩

theorem State.noteError_of (s : State) (bit : Nat) (dev : BitVec 4) :
    s.noteError bit dev = s.errorNoted bit dev ∨ ∃ o, s.noteError bit dev = (s.errorNoted bit dev).emit o := by
  obtain ⟨c, o, h⟩ := s.noteError_eq bit dev
  cases c
  · exact .inl h
  · exact .inr ⟨o, h⟩

/-- ERASED of an isolated lane-end that is live already: its cause bit shows, and it acts by its severity. -/
theorem execFaultOnset_erased {n : Source} (hn : n.val < 68) (hc : s.faultCan n 0 = true) (he : s.erasedNow n = true)
    (hb : s.on (FLT.le n 3) = false) (hi : s.isIsolated n = true) (hl : s.on (FLT.live n) = true) :
    exec (.faultOnset n 0) s = .next ((s.leSet n 3).erasedAgain n) := by
  have ho : ownCause n = true := decide_eq_true (.inl (by omega))
  refine congrArg Host.Outcome.next ((if_neg (show ¬ (!s.faultCan n 0) = true by simp [hc])).trans ((if_pos ho).trans ?_))
  have ha : (decide (n.val < 68) && s.erasedNow n && !s.on (FLT.le n 3) && s.isIsolated n && s.on (FLT.live n)) = true := by
    simp [hn, he, hb, hi, hl]
  refine (if_pos ha).trans ?_
  rw [if_pos ⟨hn, he⟩]

/-- An own source whose cause is not present does not report. -/
theorem execFaultOnset_absent {n : Source} (k : Nat) (ho : ownCause n = true) (hp : s.present n = false)
    (h : 68 ≤ n.val ∨ s.erasedNow n = false) : exec (.faultOnset n k) s = .next s := by
  have hno : ¬ (n.val < 68 ∧ s.erasedNow n = true) := by
    rintro ⟨h1, h2⟩
    rcases h with h | h
    · omega
    · rw [h] at h2; cases h2
  have ha : (decide (n.val < 68) && s.erasedNow n && !s.on (FLT.le n 3) && s.isIsolated n && s.on (FLT.live n)) = false := by
    rcases h with h | h
    · rw [decide_eq_false (by omega)]; rfl
    · simp [h]
  refine congrArg Host.Outcome.next ?_
  unfold State.faultOnset
  rw [if_pos ho, ha, if_neg hno, if_neg Bool.false_ne_true, State.onsetIfNew, hp]
  simp

theorem State.put_causeOn_same (s : State) (f : Fld) (v n : Nat) : (s.put f v).causeOn n =
    { s with regs := ((s.put f v).causeOn n).regs, causes := ((s.put f v).causeOn n).causes } := rfl

theorem State.leSet_lane (s : State) (n : Nat) : s.leSet n 3 = (s.put (FLT.le n 3) 1).causeOn n :=
  State.when_true _ (by simp [leOwn])

theorem State.faultLow_causeOff (s : State) : (s.causeOff 183).faultLow = s.faultLow := by
  have hreg : ∀ f : Fld, f.addr ≠ (FLT.live 183).addr → (s.causeOff 183).on f = s.on f := fun f hf => by
    unfold State.on State.get
    rw [State.reg_causeOff_ne s 183 hf]
  unfold State.faultLow State.safe
  rw [hreg _ (by decide), hreg _ (by decide), hreg _ (by decide)]

/-- The pin's level as the unit drives it, with its output. -/
def State.pinDriven (s : State) (low : Bool) : State :=
  if low = s.flt.low then s else ({ s with flt := { s.flt with low := low } }).drive (.faultN low)

theorem State.pinDriven_low (s : State) (low : Bool) : (s.pinDriven low).flt.low = low := by
  unfold State.pinDriven
  split
  · rename_i h
    exact h.symm
  · unfold State.drive
    split <;> rfl

theorem State.pinDriven_causes (s : State) (low : Bool) : (s.pinDriven low).causes = s.causes := by
  unfold State.pinDriven State.drive
  split
  · rfl
  · split <;> rfl

theorem State.pinDriven_reg (s : State) (low : Bool) (a : Nat) : (s.pinDriven low).reg a = s.reg a := by
  unfold State.pinDriven State.drive
  split
  · rfl
  · split <;> rfl

theorem State.pinDriven_on (s : State) (low : Bool) (f : Fld) : (s.pinDriven low).on f = s.on f := by
  unfold State.on State.get
  rw [State.pinDriven_reg]

theorem Framed.pinDriven {m : State → State} {l : List Nat} (h : Framed m l s t) (low : Bool)
    (hm : ∀ (x : State) c g f, m { x.base with causes := c, grace := g, flt := f } = m x.base) :
    Framed m l s (t.pinDriven low) := by
  refine h.trans ⟨?_, fun a _ _ => t.pinDriven_reg low a⟩
  unfold State.pinDriven
  split
  · rfl
  · unfold State.drive
    split
    · exact hm t t.causes t.grace _
    · exact hm t t.causes t.grace _

/-- The pin as it is noted after a readback's end. -/
theorem State.notePin_eq (s : State) : s.notePin =
    ((if s.faultLow then s.pinDriven s.faultLow else (s.pinDriven s.faultLow).causeOff 183).put FLT.pinIn
      (boolNat (!s.faultLow || (if s.faultLow then s.pinDriven s.faultLow
        else (s.pinDriven s.faultLow).causeOff 183).causes.testBit 183))) := rfl

/-- The readback's cause is gone, before PIN_IN shows the level. -/
def State.readbackGone (s : State) : State :=
  if s.faultLow then (s.causeOff 183).pinDriven s.faultLow else ((s.causeOff 183).pinDriven s.faultLow).causeOff 183

theorem State.readbackGone_causes (s : State) : s.readbackGone.causes.testBit 183 = false := by
  unfold State.readbackGone
  split
  · rw [State.pinDriven_causes]
    exact s.causeOff_causes (by decide)
  · exact State.causeOff_causes _ (by decide)

theorem State.notePin_causeOff (s : State) :
    (s.causeOff 183).notePin = s.readbackGone.put FLT.pinIn (boolNat (!s.faultLow)) := by
  rw [State.notePin_eq, State.faultLow_causeOff]
  show s.readbackGone.put FLT.pinIn (boolNat (!s.faultLow || s.readbackGone.causes.testBit 183)) = _
  rw [State.readbackGone_causes, Bool.or_false]

theorem Framed.readbackGone {m : State → State} {l : List Nat} (hl : (FLT.live 183).addr ∈ l)
    (hm : ∀ (x : State) c g f, m { x.base with causes := c, grace := g, flt := f } = m x.base) (s : State) :
    Framed m l s s.readbackGone := by
  have h : Framed m l s ((s.causeOff 183).pinDriven s.faultLow) := .pinDriven (.causeOff (.refl ..) 183 hl hm) _ hm
  unfold State.readbackGone
  split
  · exact h
  · exact h.causeOff 183 hl hm

theorem State.causeOff_flt_low (s : State) (n : Nat) : (s.causeOff n).flt.low = s.flt.low := by
  unfold State.causeOff
  split <;> rfl

theorem State.causeOff_wiring (s : State) (n : Nat) : (s.causeOff n).flt.wiring = s.flt.wiring := by
  unfold State.causeOff
  split <;> rfl

theorem State.pinDriven_wiring (s : State) (low : Bool) : (s.pinDriven low).flt.wiring = s.flt.wiring := by
  unfold State.pinDriven State.drive
  split
  · rfl
  · split <;> rfl

theorem State.readbackGone_low (s : State) : s.readbackGone.flt.low = s.faultLow := by
  unfold State.readbackGone
  split
  · exact State.pinDriven_low ..
  · rw [State.causeOff_flt_low, State.pinDriven_low]

/-- FLT_LIVE of the readback's source follows its cause where its pair shows no wiring fault. -/
theorem State.readbackGone_live {s : State} (h : s.flt.wiring.testBit 183 = false) :
    s.readbackGone.on (FLT.live 183) = false := by
  have hp : ((s.causeOff 183).pinDriven s.faultLow).on (FLT.live 183) = false := by
    rw [State.pinDriven_on]
    exact State.causeOff_live h
  have hw : ((s.causeOff 183).pinDriven s.faultLow).flt.wiring.testBit 183 = false := by
    rw [State.pinDriven_wiring, State.causeOff_wiring, h]
  unfold State.readbackGone
  split
  · exact hp
  · exact State.causeOff_live hw

/-! Wiring faults, grace timers and the source configuration. -/

/-- A pair that is in a wiring fault from now on, before its onset. -/
def State.wired (s : State) (n : Nat) : State :=
  ((({ s with flt := { s.flt with wiring := s.flt.wiring ||| 2 ^ n } }).put (FLT.wire n) 1).raise FLT.event 4).faultHist n 5
    (({ s with flt := { s.flt with wiring := s.flt.wiring ||| 2 ^ n } }).faultInfo n (s.get (FLT.sev n)))

theorem State.wired_get (s : State) {n : Nat} (hn : n < 184) {f : Fld} (h : 0x10060 ≤ f.addr) (h' : f.addr < 0x10800)
    (hw : f.addr < 0x10080 ∨ 0x10098 ≤ f.addr) : (s.wired n).get f = s.get f := by
  rw [State.wired, State.get_faultHist _ _ _ _ (.inl h') (by simp only [FLT.histSeq]; omega),
    State.get_raise _ _ _ (by omega) (by simp only [FLT.event]; omega),
    State.get_put_ne _ _ _ _ (by simp only [FLT.wire]; omega)]
  rfl

theorem State.wired_wiring (s : State) (n : Nat) : (s.wired n).flt.wiring.testBit n = true := by
  have h : (s.wired n).flt = { s.flt with wiring := s.flt.wiring ||| 2 ^ n } := by
    rw [State.wired, State.faultHist_same]
    show State.flt (State.raise _ _ _) = _
    rw [State.raise_flt, State.put_flt]
  rw [h]
  exact testBit_or_self _ _

theorem execWiringFault_of {n : Source} (hw : s.flt.wiring.testBit n = false) (hu : s.sourceUp n = true) :
    exec (.wiringFault n) s = .next (if s.on (FLT.live n) then s.wired n
      else (s.wired n).onset n (s.get (FLT.sev n)) true) := by
  have hlive := FLT.live_range n.isLt
  have hl : (s.wired n).on (FLT.live n) = s.on (FLT.live n) := by
    unfold State.on
    rw [s.wired_get n.isLt (by omega) (by omega) (by omega)]
  have hs : (s.wired n).get (FLT.sev n) = s.get (FLT.sev n) := by
    have := n.isLt
    exact s.wired_get n.isLt (by simp only [FLT.sev, FLT.srccfg]; omega) (by simp only [FLT.sev, FLT.srccfg]; omega)
      (by simp only [FLT.sev, FLT.srccfg]; omega)
  have hp : (s.wired n).present n = true := by
    unfold State.present
    rw [State.wired_wiring, Bool.or_true]
  refine congrArg Host.Outcome.next ((if_neg (by simp [hw, hu])).trans ?_)
  show (s.wired n).onsetIfNew n true = _
  unfold State.onsetIfNew
  rw [hp, hl, hs, Bool.true_and]
  cases s.on (FLT.live n) <;> rfl

theorem execWiringRecovery_of {n : Source} (b : Bool) (hw : s.flt.wiring.testBit n = true) {u : State}
    (hu : u = { s with flt := { s.flt with wiring := s.flt.wiring &&& (2 ^ 184 - 1 - 2 ^ n.val) } }) :
    exec (.wiringRecovery n b) s = .next (if b then u.causeOn n else if u.causes.testBit n then u else u.causeOff n) := by
  rw [hu]
  exact congrArg Host.Outcome.next (if_pos hw)

theorem execSrccfgWrite_of {n : Source} (v : Word) (hw : s.writeTakes (FLT.srccfg n) = true)
    (hp : s.flt.parity.testBit n = false) :
    exec (.srccfgWrite n v) s = .next ((s.setReg (FLT.srccfg n) (v &&& 0xFFFFFF07#32)).sevChanged n) := by
  refine congrArg Host.Outcome.next ((State.soft_on hw _).trans ?_)
  have hpar : ((s.setReg (FLT.srccfg n) (v &&& 0xFFFFFF07#32)).sevChanged n).flt = s.flt := by
    unfold State.sevChanged
    split <;> rfl
  refine if_neg ?_
  rw [hp]
  exact Bool.false_ne_true

theorem srccfg_sev (s : State) (n : Nat) (v : Word) :
    (s.setReg (FLT.srccfg n) (v &&& 0xFFFFFF07#32)).get (FLT.sev n) = v.toNat % 8 := by
  unfold State.get
  rw [show (FLT.sev n).addr = FLT.srccfg n from rfl, State.reg_setReg_same]
  show ((v &&& 0xFFFFFF07#32).toNat >>> 0) % 2 ^ 3 = _
  rw [BitVec.toNat_and, Nat.shiftRight_zero, Nat.and_mod_two_pow]
  show (v.toNat % 2 ^ 3) &&& (2 ^ 3 - 1) = v.toNat % 2 ^ 3
  rw [Nat.and_two_pow_sub_one_eq_mod, Nat.mod_mod]

theorem State.sevChanged_low {n : Nat} (h : s.get (FLT.sev n) < 3) :
    s.sevChanged n = { s with grace := s.grace &&& (2 ^ 184 - 1 - 2 ^ n) } := if_pos h

theorem State.sevChanged_high {n : Nat} (h : 3 ≤ s.get (FLT.sev n)) : s.sevChanged n = s := if_neg (by omega)

theorem ownCause_engine (k : Nat) (hk : k = 137 ∨ k = 138 ∨ k = 140) (e : Fin 2) : ownCause (k + 12 * e.val) = false := by
  have h : ∀ e : Fin 2, ownCause (137 + 12 * e.val) = false ∧ ownCause (138 + 12 * e.val) = false ∧
      ownCause (140 + 12 * e.val) = false := by decide
  obtain ⟨h1, h2, h3⟩ := h e
  rcases hk with rfl | rfl | rfl
  · exact h1
  · exact h2
  · exact h3

theorem Framed.widen {m : State → State} {l l' : List Nat} (h : Framed id l s t) (hl : ∀ a ∈ l, a ∈ l') : Framed m l' s t :=
  ⟨congrArg m h.1, fun a h3 ha => h.2 a h3 fun h' => ha (hl a h')⟩

theorem State.onsetNoted_base (s : State) (n sev : Nat) (wire : Bool) : (s.onsetNoted n sev wire).base = s.base :=
  (s.onsetNoted_framed n sev wire).1

theorem State.onsetNoted_causes (s : State) (n sev : Nat) (wire : Bool) : (s.onsetNoted n sev wire).causes = s.causes := by
  show (s.onsetNoted n sev wire).base.causes = s.base.causes
  rw [State.onsetNoted_base]

theorem State.onsetNoted_grace (s : State) (n sev : Nat) (wire : Bool) : (s.onsetNoted n sev wire).grace = s.grace := by
  show (s.onsetNoted n sev wire).base.grace = s.base.grace
  rw [State.onsetNoted_base]

theorem Framed.withGrace {l : List Nat} (h : Framed (fun x => { x with causes := 0, grace := 0 }) l s t) (g : Nat) :
    Framed (fun x => { x with causes := 0, grace := 0 }) l s { t with grace := g } := h.trans ⟨rfl, fun _ _ _ => rfl⟩

theorem causes_of_base (h : t.base = s.base) : t.causes = s.causes := by
  show t.base.causes = s.base.causes
  rw [h]

theorem State.noteRetry_eng (s : State) (e g e' g' : Nat) : (s.noteRetry e g).eng e' g' = s.eng e' g' := by
  unfold State.noteRetry
  rw [State.put_eng, State.put_eng, State.put_eng]

theorem State.deferLost_causes (s : State) (e g k : Nat) : (s.deferLost e g k).causes = s.causes :=
  by
  rw [State.deferLost, causes_of_base (State.noteRetry_base ..), State.updEng_causes]

theorem State.deferLost_defer (s : State) (e g k : Nat) : ((s.deferLost e g k).eng e g).defer = (s.eng e g).defer.eraseIdx k := by
  rw [State.deferLost, State.noteRetry_eng, State.updEng_eng_same]

theorem State.deferLost_live (s : State) (e g k : Nat) {n : Nat} (hn : n < 184) :
    (s.deferLost e g k).on (FLT.live n) = s.on (FLT.live n) := by
  rw [State.deferLost, State.noteRetry_live _ _ _ hn, State.updEng_on]

theorem FLT.live_ne_defer {n : Nat} (hn : n < 184) (e g : Nat) : (FLT.live n).addr ≠ (DIR.deferLeft e g).addr := by
  simp only [FLT.live, DIR.deferLeft, DIR.g, DIR.base]
  omega

/-- The check for a drain leaves the number of flits still to leave alone. -/
theorem State.drainCheck_deferLeft (s : State) (e : Fin 2) (g : Fin 4) {v : Nat} (hv : v < 2 ^ 9) :
    ((s.put (DIR.deferLeft e g) v).drainCheck e g).get (DIR.deferLeft e g) = v := by
  have hput : (s.put (DIR.deferLeft e g) v).get (DIR.deferLeft e g) = v :=
    (State.get_put_same _ _ _ (by simp [DIR.deferLeft])).trans (Nat.mod_eq_of_lt hv)
  have haddr : 0x80000 ≤ (DIR.deferLeft e g).addr ∧ (DIR.deferLeft e g).addr < 0xA0000 := by
    simp only [DIR.deferLeft, DIR.g, DIR.base]
    omega
  have hev : (DIR.deferLeft e g).addr ≠ DIR.event e := DIR.g_ne_event e e g (k := 0x24) (by decide)
  generalize s.put (DIR.deferLeft e g) v = u at hput
  unfold State.drainCheck
  split
  · have hgen : Framed id [0xA800C, PRT.event] ((u.put (DIR.drained e g) 1).raise (DIR.event e) 11)
        ((u.put (DIR.drained e g) 1).raise (DIR.event e) 11).drainGen := .drainGen (.refl ..) (by simp) (by simp)
    rw [hgen.get (by omega) (by simp only [List.mem_cons, List.not_mem_nil, or_false, PRT.event]; omega),
      State.get_raise _ _ _ (by omega) hev,
      State.get_put_apart _ _ (by simp [DIR.deferLeft]) (.inr (.inl (by simp [DIR.deferLeft, DIR.drained]))), hput]
  · exact hput

theorem State.errorNoted_of (s : State) (bit : Nat) (dev : BitVec 4) : (s.noteError bit dev).regs = s.regs ∧
    (s.noteError bit dev).causes = s.causes ∧ (s.noteError bit dev).pcie = (s.errorNoted bit dev).pcie := by
  rcases s.noteError_of bit dev with h | ⟨o, h⟩
  · rw [h]
    exact ⟨rfl, rfl, rfl⟩
  · rw [h]
    exact ⟨rfl, rfl, rfl⟩

/-- A PCIe protocol error of a source that is live already is counted, and shows in the AER and device status. -/
theorem execFaultOnset_pcie {n : Source} (hn : n.val = 165) {k : Nat} (h0 : 0 < k) (hk : k < 32) (hf : s.fileUp = true)
    (hl : s.on (FLT.live n) = true) : ∃ t, exec (.faultOnset n k) s = .next t ∧
    t.counter RNG.pcieUncorr = (s.counter RNG.pcieUncorr + 1) % 2 ^ 48 ∧ t.pcie.aerUncorr.getLsbD k = true ∧
    t.causes = s.causes ||| 2 ^ 165 ∧ t.pcie.devStatus.getLsbD (if s.pcie.aerSev.getLsbD k then 2 else 1) = true := by
  obtain ⟨hregs, hcause, hpcie⟩ := s.errorNoted_of k 0
  have hreg : ∀ a, (s.noteError k 0).reg a = s.reg a := fun a => by
    unfold State.reg
    rw [hregs]
  have hfault : s.faultAt n k = (s.noteError k 0).count RNG.pcieUncorr := by rw [hn, s.faultAt_pcie h0 hk]
  have hr := FLT.live_range n.isLt
  have hlive : (s.faultAt n k).on (FLT.live n) = true := by
    rw [hfault, ← hl]
    unfold State.on State.get
    rw [State.reg_count_ne _ _ (by unfold RNG.pcieUncorr; omega) (by unfold RNG.pcieUncorr; omega), hreg]
  have ho : ownCause n = false := by rw [hn]; rfl
  refine ⟨_, execFaultOnset_again ho (State.faultCan_of_fileUp (by omega) (by omega) hf _) hlive, ?_, ?_, ?_, ?_⟩
  all_goals rw [hfault]
  · show ((s.noteError k 0).count RNG.pcieUncorr).counter RNG.pcieUncorr = _
    rw [State.counter_count, State.counter, State.counter, hreg, hreg]
  · show ((s.noteError k 0).count RNG.pcieUncorr).pcie.aerUncorr.getLsbD k = true
    rw [State.count_pcie, hpcie]
    show (s.pcie.aerUncorr ||| BitVec.ofNat 32 (2 ^ k)).getLsbD k = true
    rw [BitVec.getLsbD_or, BitVec.getLsbD_ofNat, Nat.testBit_two_pow_self, decide_eq_true hk]
    simp
  · show ((s.noteError k 0).count RNG.pcieUncorr).causes ||| 2 ^ n.val = _
    rw [State.count_causes, hcause, hn]
  · show ((s.noteError k 0).count RNG.pcieUncorr).pcie.devStatus.getLsbD _ = true
    rw [State.count_pcie, hpcie]
    show (s.pcie.devStatus ||| 0 ||| (if s.pcie.aerSev.getLsbD k then 4 else 2)).getLsbD _ = true
    rw [BitVec.getLsbD_or]
    cases s.pcie.aerSev.getLsbD k
    · simp
    · simp

theorem State.wired_wire (s : State) {n : Nat} (hn : n < 184) : (s.wired n).on (FLT.wire n) = true := by
  rw [State.wired, State.on_iff, State.get_faultHist _ _ _ _ (.inl (by simp only [FLT.wire]; omega))
      (by simp only [FLT.wire, FLT.histSeq]; omega),
    State.get_raise _ _ _ (by simp only [FLT.wire]; omega) (by simp only [FLT.wire, FLT.event]; omega),
    State.get_put_same _ _ _ (by simp only [FLT.wire]; omega)]
  exact Nat.one_ne_zero

theorem State.wired_event (s : State) (n : Nat) : BitSet FLT.event 4 (s.wired n) :=
  BitSet.of_reg (State.raise_bit _ _ (by decide) (by decide))
    (State.reg_faultHist_ne _ _ _ _ (by decide) (by decide))

theorem State.wired_seq (s : State) (n : Nat) : (s.wired n).reg FLT.histSeq = s.reg FLT.histSeq + 1 := by
  rw [State.wired, State.faultHist_seq, State.raise, State.reg_raiseBits_ne _ _ _ (by decide) (by decide),
    State.reg_put_ne _ _ _ (by simp only [FLT.wire, FLT.histSeq]; omega)]
  rfl

/-- A pair that reads valid again, before its cause follows. -/
def State.unwired (s : State) (n : Nat) : State :=
  { s with flt := { s.flt with wiring := s.flt.wiring &&& (2 ^ 184 - 1 - 2 ^ n) } }

theorem State.unwired_wiring (s : State) {n : Nat} (hn : n < 184) : (s.unwired n).flt.wiring.testBit n = false :=
  testBit_mask _ hn

theorem execWiringRecovery_spec {n : Source} (b : Bool) (hw : s.flt.wiring.testBit n = true) :
    ∃ t, exec (.wiringRecovery n b) s = .next t ∧ t.flt.wiring.testBit n = false ∧
      (b = true → t.causes.testBit n = true ∧ t.regs = s.regs) ∧
      (b = false → s.causes.testBit n = false → t.on (FLT.live n) = false ∧ t.grace.testBit n = false) ∧
      (b = false → s.causes.testBit n = true → t.regs = s.regs ∧ t.causes = s.causes) ∧
      (∀ a, a ≠ (FLT.live n).addr → t.reg a = s.reg a) ∧
      Framed (fun x => { x with causes := 0, grace := 0, flt := Flt.reset }) [(FLT.live n).addr] s t := by
  have hu := s.unwired_wiring n.isLt
  have hfr : Framed (fun x => { x with causes := 0, grace := 0, flt := Flt.reset }) [(FLT.live n).addr] s (s.unwired n) :=
    ⟨rfl, fun _ _ _ => rfl⟩
  have hx := execWiringRecovery_of (u := s.unwired n) b hw rfl
  cases b with
  | true =>
    exact ⟨(s.unwired n).causeOn n, hx, hu, fun _ => ⟨testBit_or_self _ _, rfl⟩, nofun, nofun, fun _ _ => rfl,
      hfr.trans ⟨rfl, fun _ _ _ => rfl⟩⟩
  | false =>
    cases hc : s.causes.testBit n with
    | true =>
      refine ⟨s.unwired n, hx.trans (congrArg Host.Outcome.next ((if_neg Bool.false_ne_true).trans (if_pos hc))), hu, nofun, nofun, fun _ _ => ⟨rfl, rfl⟩,
        fun _ _ => rfl, hfr⟩
    | false =>
      refine ⟨(s.unwired n).causeOff n, hx.trans (congrArg Host.Outcome.next
        ((if_neg Bool.false_ne_true).trans (if_neg (by rw [show (s.unwired n).causes = s.causes from rfl, hc]; exact Bool.false_ne_true)))), ?_, nofun,
        fun _ _ => ⟨State.causeOff_live hu, State.causeOff_grace n.isLt hu⟩, nofun,
        fun a ha => State.reg_causeOff_ne _ n ha, hfr.causeOff n (by simp) fun _ _ _ _ => rfl⟩
      rw [State.causeOff_wiring, hu]

/-- An uncorrectable error at a SEQ of a replay bank, of a source that is live already. -/
theorem execFaultOnset_slot {n : Source} {e g k : Nat} (he : e < 2) (hg : g < 4) (hk : k < 4096) (hn : n.val = 137 + 12 * e)
    (hf : s.fileUp = true) (hl : s.on (FLT.live n) = true) (ho : ownCause n = false) :
    ∃ t, exec (.faultOnset n (4096 * g + k)) s = .next t ∧ t.causes = s.causes ||| 2 ^ n.val ∧
      (t.eng e g).slots = ((s.eng e g).slotLost k).slots := by
  have hfault : s.faultAt n (4096 * g + k) = ((s.updEng e g (·.slotLost k)).noteRetry e g).drainCheck e g := by
    rw [hn, s.faultAt_slot he hg hk]
  have hcause : (((s.updEng e g (·.slotLost k)).noteRetry e g).drainCheck e g).causes = s.causes := by
    rw [causes_of_base (State.drainCheck_base ..), causes_of_base (State.noteRetry_base ..), State.updEng_causes]
  have heng : (((s.updEng e g (·.slotLost k)).noteRetry e g).drainCheck e g).eng e g = (s.eng e g).slotLost k := by
    rw [State.drainCheck_eng, State.noteRetry_eng, State.updEng_eng_same]
  have hlive : (((s.updEng e g (·.slotLost k)).noteRetry e g).drainCheck e g).on (FLT.live n) = true := by
    rw [State.drainCheck_live _ _ _ n.isLt, State.noteRetry_live _ _ _ n.isLt, State.updEng_on, hl]
  have hx := execFaultOnset_again ho (State.faultCan_of_fileUp (by omega) (by omega) hf _) (by rw [hfault, hlive])
  rw [hfault] at hx
  generalize ((s.updEng e g (·.slotLost k)).noteRetry e g).drainCheck e g = u at hx hcause heng
  refine ⟨u.causeOn n, hx, ?_, ?_⟩
  · exact congrArg (fun c => c ||| 2 ^ n.val) hcause
  · rw [State.causeOn_eng, heng]

/-- Settles O46: what an onset notes is `State.onsetNoted`; the ends of a cause are `State.causeOff_of` and
`State.causeOff_wired`. -/
theorem faultOnsetsAndGrace : Obligations.FaultOnsetsAndGrace := by
  unfold Obligations.FaultOnsetsAndGrace
  have hsev : ∀ (s : State) (n : Nat), s.get (FLT.sev n) < 8 := fun s n => Nat.mod_lt _ (show 0 < 2 ^ 3 by decide)
  refine ⟨?_, ?_, ?_, ?_, ?_, ?_, ?_, ?_, ?_, ?_, ?_, ?_, ?_, ?_, ?_, ?_, ?_, ?_, ?_, ?_, ?_, ?_, ?_, ?_⟩
  · intro s n ho hc hn hl h0
    have hlive := FLT.live_range n.isLt
    refine ⟨(s.causeOn n).put (FLT.live n) 1, ?_, ?_, ?_, rfl, fun a ha => State.reg_put_ne _ _ _ ha⟩
    · rw [execFaultOnset_new ho hc hn hl, h0, State.onset_silent]
    · rw [State.on_iff, State.get_put_same _ _ _ (by simp only [FLT.live]; omega)]
      simp [FLT.live]
    · rw [State.put_causes]
      exact testBit_or_self _ _
  · intro s n ho hc hn hl h1 h3 hv
    have h136 := ownCause_le ho
    obtain ⟨g, hg, hgrace⟩ := (s.causeOn n).onset_deferred (n := n) false h1 h3
    obtain ⟨hsrc, hsv, hval, hep, htime⟩ := (s.causeOn n).onsetNoted_first n.isLt h136 (hsev s n) hv
    obtain ⟨hseq, hent⟩ := (s.causeOn n).onsetNoted_history n.isLt h136 (hsev s n)
    refine ⟨{ (s.causeOn n).onsetNoted n (s.get (FLT.sev n)) false with grace := g }, ?_,
      (s.causeOn n).onsetNoted_live n.isLt _ _, (s.causeOn n).onsetNoted_status n.isLt _ _, ?_, hsrc, hsv, hval, hep, htime,
      hseq, hent, fun h2 => (s.causeOn n).onsetNoted_event n false h2, ?_, ?_⟩
    · rw [execFaultOnset_new ho hc hn hl, hg]
    · show ((s.causeOn n).onsetNoted n (s.get (FLT.sev n)) false).causes.testBit n = true
      rw [State.onsetNoted_causes]
      exact testBit_or_self _ _
    · show g = _
      rw [hgrace, State.onsetNoted_grace]
      rfl
    · refine .withGrace (.trans (t := (s.causeOn n).put (FLT.live n) 1) (.put ⟨rfl, fun _ _ _ => rfl⟩ _ (.inr (by simp)))
        (((s.causeOn n).onsetNoted_framed n _ false).widen fun a ha => List.mem_cons_of_mem _ ?_)) g
      exact ha
  · intro s n ho hc hn hl h1 h3 hv
    obtain ⟨g, hg, -⟩ := (s.causeOn n).onset_deferred (n := n) false h1 h3
    obtain ⟨hov, hsrc, hep, htime⟩ := (s.causeOn n).onsetNoted_full n.isLt (s.get (FLT.sev n)) hv
    refine ⟨{ (s.causeOn n).onsetNoted n (s.get (FLT.sev n)) false with grace := g }, ?_,
      (s.causeOn n).onsetNoted_live n.isLt _ _, (s.causeOn n).onsetNoted_status n.isLt _ _, hov, hsrc, hep, htime⟩
    rw [execFaultOnset_new ho hc hn hl, hg]
  · intro s n ho hc hn hl h4
    refine ⟨(s.causeOn n).onsetNoted n (s.get (FLT.sev n)) false, ?_, (s.causeOn n).onsetNoted_live n.isLt _ _,
      (s.causeOn n).onsetNoted_status n.isLt _ _, (s.causeOn n).onsetNoted_event n false (by omega)⟩
    rw [execFaultOnset_new ho hc hn hl, State.onset_escalates _ _ h4]
  · intro s n ho hc hn hl
    refine ⟨s.causeOn n, ?_, rfl⟩
    rw [execFaultOnset_again ho hc (by rw [State.faultAt_global s hn, hl]), State.faultAt_global s hn]
  · intro s n k hc
    exact ⟨s, execFaultOnset_cannot hc, rfl⟩
  · intro s e g k n hn hf hl
    obtain ⟨t, hx, hc, hslots⟩ := execFaultOnset_slot e.isLt g.isLt k.isLt hn hf hl
      (hn ▸ ownCause_engine 137 (by decide) e)
    exact ⟨t, hx, hc, hslots⟩
  · intro s e g k n hn hk hf hl
    have ho : ownCause n = false := hn ▸ ownCause_engine 138 (by decide) e
    have hld := s.deferLost_live e g k n.isLt
    have hne := FLT.live_ne_defer n.isLt e.val g.val
    have hlive : (s.faultAt n (4096 * g.val + k)).on (FLT.live n) = true := by
      rw [hn, State.faultAt_defer s e.isLt g.isLt hk, ← hn]
      split
      · rw [State.drainCheck_live _ _ _ n.isLt, State.on, State.get_put_ne _ _ _ _ hne]
        exact hld.trans hl
      · rw [hld, hl]
    refine ⟨_, execFaultOnset_again ho (State.faultCan_of_fileUp (by omega) (by omega) hf _) hlive, ?_, ?_, fun hlt => ?_⟩
    · refine congrArg (· ||| 2 ^ n.val) ?_
      rw [hn, State.faultAt_defer s e.isLt g.isLt hk]
      split
      · rw [causes_of_base (State.drainCheck_base ..), State.put_causes, State.deferLost_causes]
      · rw [State.deferLost_causes]
    · rw [hn, State.faultAt_defer s e.isLt g.isLt hk]
      rw [State.causeOn_eng]
      split
      · rw [State.drainCheck_eng, State.put_eng, State.deferLost_defer]
      · rw [State.deferLost_defer]
    · rw [hn, State.faultAt_defer s e.isLt g.isLt hk, if_pos hlt, State.causeOn_get]
      exact State.drainCheck_deferLeft _ e g (by
        have hw : s.get (DIR.deferLeft e g) < 2 ^ 9 := s.get_lt _
        omega)
  · intro s e sd slot g n hn hf hl
    have ho : ownCause n = false := hn ▸ ownCause_engine 140 (by decide) e
    obtain ⟨key, hkey⟩ := s.faultAt_key e.isLt sd.isLt slot.isLt g.isLt
    rw [← hn] at hkey
    have hlive : (s.faultAt n (8 * sd.val + 4 * slot.val + g.val)).on (FLT.live n) = true := by
      rw [hkey, State.setKey_live _ _ _ _ _ n.isLt, hl]
    refine ⟨_, execFaultOnset_again ho (State.faultCan_of_fileUp (by omega) (by omega) hf _) hlive, ?_, ?_⟩
    · rw [hkey, State.setKey_same]
      rfl
    · rw [hkey, State.setKey_same]
      exact congrArg Key.valid (Sparse.get_set_same ..)
  · intro s k h0 hk hf hl
    exact execFaultOnset_pcie (n := 165) rfl h0 hk hf hl
  · intro s n k ho hp h
    exact ⟨s, execFaultOnset_absent k ho hp h, rfl⟩
  · intro s n hn hc he hb hi hl h4
    have hlt : (FLT.sev n).addr ≠ (FLT.le n 3).addr := by
      simp only [FLT.sev, FLT.srccfg, FLT.le, FLT.lecause]
      omega
    have hs : (s.leSet n 3).get (FLT.sev n) = s.get (FLT.sev n) := by
      rw [State.get_leSet, State.get_put_ne _ _ _ _ hlt]
    refine ⟨s.leSet n 3, ?_, s.on_leSet n (by decide), ?_, ?_, fun a ha => ?_⟩
    · rw [execFaultOnset_erased hn hc he hb hi hl, State.erasedAgain, hs, if_neg (by omega), if_pos h4]
    all_goals rw [State.leSet_lane]
    · exact congrArg (· ||| 2 ^ n.val) (State.put_causes ..)
    · exact State.put_causeOn_same s (FLT.le n 3) 1 n
    · rw [State.causeOn_reg]
      exact State.reg_put_ne s (FLT.le n 3) 1 ha
  · intro s n ho hne
    exact ⟨s, congrArg Host.Outcome.next ((if_neg hne).trans (if_pos ho)), rfl⟩
  · intro s
    refine ⟨s.readbackGone.put FLT.pinIn (boolNat (!s.faultLow)), ?_, ?_, fun hw => ?_, ?_, ?_, ?_⟩
    · exact congrArg Host.Outcome.next ((if_pos rfl).trans s.notePin_causeOff)
    · rw [State.put_causes]
      exact s.readbackGone_causes
    · rw [State.on, State.get_put_ne _ _ _ _ (by decide)]
      exact State.readbackGone_live hw
    · rw [State.on, State.get_put_same _ _ _ (by decide)]
      exact boolNat_ne_zero _
    · rw [State.put_flt]
      exact s.readbackGone_low
    · exact .put (.readbackGone (by simp) (fun _ _ _ _ => rfl) s) _ (.inr (by simp [FLT.pinIn]))
  · intro s n ho hw
    have hne : n.val ≠ 183 := by
      intro h
      rw [h] at ho
      cases ho
    refine ⟨s.causeOff n, ?_, s.causeOff_causes n.isLt, State.causeOff_grace n.isLt hw, State.causeOff_live hw, ?_, ?_,
      fun a ha => s.reg_causeOff_ne n ha⟩
    · exact congrArg Host.Outcome.next ((if_neg hne).trans (if_neg (by simp [ho])))
    · rw [State.causeOff_of hw]
      rfl
    · rw [State.causeOff_of hw]
      rfl
  · intro s n ho hw
    have hne : n.val ≠ 183 := by
      intro h
      rw [h] at ho
      cases ho
    refine ⟨s.causeOff n, ?_, s.causeOff_causes n.isLt, ?_, ?_⟩
    · exact congrArg Host.Outcome.next ((if_neg hne).trans (if_neg (by simp [ho])))
    · rw [State.causeOff_wired hw]
      rfl
    · rw [State.causeOff_wired hw]
  · intro s n h
    exact ⟨s, congrArg Host.Outcome.next (if_pos (by rcases h with h | h <;> simp [h])), rfl⟩
  · intro s n hw hu
    exact ⟨s.wired n, execWiringFault_of hw hu, s.wired_wire n.isLt, s.wired_event n, s.wired_wiring n, s.wired_seq n⟩
  · intro s n b h
    exact ⟨s, congrArg Host.Outcome.next (if_neg (by simp [h])), rfl⟩
  · intro s n b hw
    exact execWiringRecovery_spec b hw
  · intro s n h
    exact ⟨s, congrArg Host.Outcome.next (if_neg (by rcases h with h | h <;> simp [h])), rfl⟩
  · intro s n hg hf
    exact ⟨_, congrArg Host.Outcome.next (if_pos (by simp [hg, hf])), rfl⟩
  · intro s n v hw hp
    have hs := srccfg_sev s n v
    refine ⟨_, execSrccfgWrite_of v hw hp, ?_⟩
    by_cases hlow : v.toNat % 8 < 3
    · rw [State.sevChanged_low (by rw [hs]; exact hlow)]
      exact ⟨State.reg_setReg_same .., hs, fun _ => testBit_mask _ n.isLt, fun h => absurd hlow (by omega), rfl,
        fun a ha => State.reg_setReg_ne _ _ ha⟩
    · rw [State.sevChanged_high (by rw [hs]; omega)]
      exact ⟨State.reg_setReg_same .., hs, fun h => absurd h hlow, fun _ => rfl, rfl, fun a ha => State.reg_setReg_ne _ _ ha⟩
  · intro s n v hw
    exact ⟨s, congrArg Host.Outcome.next (State.soft_off hw _), rfl⟩

end Sys2Proof.Machine
end

section
/-! PROOFS. FAULT_N, its readback, and the self-faults of the collector (15_fault_collection.md, R367, R368). -/

namespace Sys2Proof.Machine

variable {m : State → State} {l : List Nat} {s t : State}

/-! The pin. -/

theorem State.pinDriven_same {low : Bool} (h : low = s.flt.low) : s.pinDriven low = s := if_pos h

/-- With the pin low already, only PIN_IN is noted. -/
theorem State.notePin_low (h : s.faultLow = true) (hl : s.flt.low = true) :
    s.notePin = s.put FLT.pinIn (boolNat (s.causes.testBit 183)) := by
  rw [State.notePin_eq, h, State.pinDriven_same hl.symm, if_pos rfl, Bool.not_true, Bool.false_or]

theorem State.faultLow_pulse (s : State) : (s.put FLT.pulseBusy 0).faultLow = (s.on FLT.hold || s.safe) := by
  have hb : (s.put FLT.pulseBusy 0).on FLT.pulseBusy = false := by
    rw [State.on_eq_false_iff, State.get_put_same _ _ _ (by decide)]
    rfl
  have hh : (s.put FLT.pulseBusy 0).on FLT.hold = s.on FLT.hold := by
    unfold State.on
    rw [State.get_put_apart _ _ (by decide) (.inr (.inl (by decide)))]
  have hs : (s.put FLT.pulseBusy 0).safe = s.safe := by
    unfold State.safe State.on
    rw [State.get_put_ne _ _ _ _ (by decide)]
  unfold State.faultLow
  rw [hb, hh, hs, Bool.false_or]

theorem State.pinDriven_out (s : State) :
    (s.pinDriven false).out = s.out ++ (if s.flt.low && !s.jtagPins then [.faultN false] else []) := by
  unfold State.pinDriven
  cases hl : s.flt.low
  · rw [if_pos rfl]
    simp
  · rw [if_neg (by decide), State.drive]
    show (if s.jtagPins then { s with flt := { s.flt with low := false } }
      else ({ s with flt := { s.flt with low := false } }).emit (.faultN false)).out = _
    cases s.jtagPins
    · rfl
    · simp

theorem State.causeOff_out (s : State) (n : Nat) : (s.causeOff n).out = s.out := by
  unfold State.causeOff
  split <;> rfl

/-- The pin goes high, with its output where it was low. -/
theorem State.notePin_high (h : s.faultLow = false) : ∃ u : State, s.notePin = u.put FLT.pinIn 1 ∧ u.flt.low = false ∧
    u.causes.testBit 183 = false ∧ u.out = s.out ++ (if s.flt.low && !s.jtagPins then [.faultN false] else []) ∧
    (∀ a, a ≠ (FLT.live 183).addr → u.reg a = s.reg a) := by
  refine ⟨(s.pinDriven false).causeOff 183, ?_, ?_, State.causeOff_causes _ (by decide), ?_, fun a ha => ?_⟩
  · have hb : boolNat true = 1 := rfl
    rw [State.notePin_eq, h, if_neg Bool.false_ne_true, Bool.not_false, Bool.true_or, hb]
  · rw [State.causeOff_flt_low, State.pinDriven_low]
  · rw [State.causeOff_out, State.pinDriven_out]
  · rw [State.reg_causeOff_ne _ _ ha, State.pinDriven_reg]

theorem State.put_put_same (s : State) (f g : Fld) (v w : Nat) :
    (s.put f v).put g w = { s with regs := ((s.put f v).put g w).regs } := rfl

/-! A word of the collector with bad parity. -/

theorem State.parityGood_cases (s : State) (n : Nat) : s.parityGood n =
    if s.flt.parity &&& (2 ^ 184 - 1 - 2 ^ n) = 0 then
      ({ s with flt := { s.flt with parity := s.flt.parity &&& (2 ^ 184 - 1 - 2 ^ n) } }).causeOff 160
    else { s with flt := { s.flt with parity := s.flt.parity &&& (2 ^ 184 - 1 - 2 ^ n) } } := rfl

theorem State.causeOff_parity (s : State) (n : Nat) : (s.causeOff n).flt.parity = s.flt.parity := by
  unfold State.causeOff
  split <;> rfl

theorem State.parityGood_parity (s : State) (n : Nat) :
    (s.parityGood n).flt.parity = s.flt.parity &&& (2 ^ 184 - 1 - 2 ^ n) := by
  rw [State.parityGood_cases]
  split
  · rw [State.causeOff_parity]
  · rfl

theorem State.parityGood_causes (s : State) (n : Nat) (h : (s.parityGood n).flt.parity = 0) :
    (s.parityGood n).causes.testBit 160 = false := by
  rw [State.parityGood_parity] at h
  rw [State.parityGood_cases, if_pos h]
  exact State.causeOff_causes _ (by decide)

theorem State.reg_parityGood_ne (s : State) (n : Nat) {a : Nat} (h : a ≠ (FLT.live 160).addr) :
    (s.parityGood n).reg a = s.reg a := by
  rw [State.parityGood_cases]
  split
  · rw [State.reg_causeOff_ne _ _ h]
    rfl
  · rfl

theorem Framed.parityGood (h : Framed m l s t) (n : Nat) (hl : (FLT.live 160).addr ∈ l)
    (hm : ∀ (x : State) c g f, m { x.base with causes := c, grace := g, flt := f } = m x.base) :
    Framed m l s (t.parityGood n) := by
  have hp : Framed m l s { t with flt := { t.flt with parity := t.flt.parity &&& (2 ^ 184 - 1 - 2 ^ n) } } :=
    h.trans ⟨hm t t.causes t.grace _, fun _ _ _ => rfl⟩
  rw [State.parityGood_cases]
  split
  · exact hp.causeOff 160 hl hm
  · exact hp

theorem Framed.sevChanged (h : Framed m l s t) (n : Nat)
    (hm : ∀ (x : State) c g f, m { x.base with causes := c, grace := g, flt := f } = m x.base) :
    Framed m l s (t.sevChanged n) := by
  unfold State.sevChanged
  split
  · exact h.trans ⟨hm t t.causes _ t.flt, fun _ _ _ => rfl⟩
  · exact h

theorem State.sevChanged_reg (s : State) (n a : Nat) : (s.sevChanged n).reg a = s.reg a := by
  unfold State.sevChanged
  split <;> rfl

theorem State.sevChanged_flt (s : State) (n : Nat) : (s.sevChanged n).flt = s.flt := by
  unfold State.sevChanged
  split <;> rfl

theorem State.sevChanged_causes (s : State) (n : Nat) : (s.sevChanged n).causes = s.causes := by
  unfold State.sevChanged
  split <;> rfl

/-- A source word with bad parity in native mode: reloaded, before the records. -/
def State.wordReloaded (s : State) (n : Nat) : State :=
  ((s.resetReg (FLT.srccfg n)).sevChanged n).parityGood n

/-- The collector's own records of a self-fault in native mode. -/
def State.selfNoted (s : State) : State :=
  let s := (s.faultHist 160 7 (s.get (FLT.sev 160) + 16)).put (FLT.status 160) 1
  let s := if s.on FLT.fValid then s.put FLT.fColl 1 else s.fillFirst 160 (s.get (FLT.sev 160)) false
  s.raise FLT.event 5

theorem State.selfFaultNative_word (s : State) (n : Nat) : s.selfFaultNative (some n) = (s.wordReloaded n).selfNoted := rfl

theorem State.selfFaultNative_cfg (s : State) : s.selfFaultNative none = s.reloadCfg.selfNoted := rfl

/-- The history's entry and the status of a self-fault in native mode, before the first-fault record. -/
def State.selfHist (s : State) : State := (s.faultHist 160 7 (s.get (FLT.sev 160) + 16)).put (FLT.status 160) 1

theorem State.selfHist_reg (s : State) {a : Nat} (h : a < 0x10800 ∨ 0x10900 ≤ a) (hs : a ≠ FLT.histSeq)
    (ht : a ≠ (FLT.status 160).addr) : s.selfHist.reg a = s.reg a :=
  (State.reg_put_ne _ _ _ ht).trans (State.reg_faultHist_ne _ _ _ _ h hs)

theorem State.selfHist_valid (s : State) : s.selfHist.on FLT.fValid = s.on FLT.fValid := by
  unfold State.on State.get
  rw [State.selfHist_reg s (by decide) (by decide) (by decide)]

theorem State.selfHist_status (s : State) : s.selfHist.get (FLT.status 160) = 1 :=
  State.get_put_same (s.faultHist 160 7 (s.get (FLT.sev 160) + 16)) (FLT.status 160) 1 (by decide)

theorem State.selfHist_seq (s : State) : s.selfHist.reg FLT.histSeq = s.reg FLT.histSeq + 1 :=
  (State.reg_put_ne _ (FLT.status 160) 1 (by decide)).trans (State.faultHist_seq ..)

theorem State.selfNoted_full (h : s.on FLT.fValid = true) : s.selfNoted = (s.selfHist.put FLT.fColl 1).raise FLT.event 5 := by
  show (if s.selfHist.on FLT.fValid then s.selfHist.put FLT.fColl 1
    else s.selfHist.fillFirst 160 (s.selfHist.get (FLT.sev 160)) false).raise FLT.event 5 = _
  rw [State.selfHist_valid, if_pos h]

theorem State.selfNoted_free (h : s.on FLT.fValid = false) : ∃ sev < 8,
    s.selfNoted = (s.selfHist.fillFirst 160 sev false).raise FLT.event 5 := by
  refine ⟨s.selfHist.get (FLT.sev 160), s.selfHist.get_lt _, ?_⟩
  show (if s.selfHist.on FLT.fValid then s.selfHist.put FLT.fColl 1
    else s.selfHist.fillFirst 160 (s.selfHist.get (FLT.sev 160)) false).raise FLT.event 5 = _
  rw [State.selfHist_valid, if_neg (by simp [h])]

theorem Framed.selfHist (h : Framed m l s t) (hl : ∀ i < 4, FLT.hist ((t.reg FLT.histSeq).toNat % 16) i ∈ l)
    (hs : FLT.histSeq ∈ l) (ht : (FLT.status 160).addr ∈ l) : Framed m l s t.selfHist :=
  (h.faultHist _ _ _ hl hs).put _ (.inr ht)

theorem State.selfNoted_event (s : State) : BitSet FLT.event 5 s.selfNoted :=
  State.raise_bit _ _ (by decide) (by decide)

theorem FLT.srccfg_range (n : Source) : 0x10100 ≤ FLT.srccfg n ∧ FLT.srccfg n < 0x103E0 := by
  have := n.isLt
  unfold FLT.srccfg
  omega

theorem State.wordReloaded_reg (s : State) (n : Nat) {a : Nat} (h : a ≠ FLT.srccfg n) (h' : a ≠ (FLT.live 160).addr) :
    (s.wordReloaded n).reg a = s.reg a := by
  rw [State.wordReloaded, State.reg_parityGood_ne _ _ h', State.sevChanged_reg]
  exact State.reg_setReg_ne _ _ h

theorem State.wordReloaded_word (s : State) (n : Source) : (s.wordReloaded n).reg (FLT.srccfg n) = regReset (FLT.srccfg n) := by
  have := FLT.srccfg_range n
  rw [State.wordReloaded, State.reg_parityGood_ne _ _ (by show _ ≠ 0x10074; omega), State.sevChanged_reg]
  exact State.reg_setReg_same ..

theorem State.wordReloaded_parity (s : State) {n : Nat} (hn : n < 184) : (s.wordReloaded n).flt.parity.testBit n = false := by
  rw [State.wordReloaded, State.parityGood_parity]
  exact testBit_mask _ hn

theorem Framed.wordReloaded (h : Framed m l s t) (n : Nat) (h1 : FLT.srccfg n ∈ l) (h2 : (FLT.live 160).addr ∈ l)
    (hm : ∀ (x : State) c g f, m { x.base with causes := c, grace := g, flt := f } = m x.base) :
    Framed m l s (t.wordReloaded n) := ((h.setReg _ (.inr h1)).sevChanged n hm).parityGood n h2 hm

theorem State.selfHist_flt (s : State) : s.selfHist.flt = s.flt := by
  rw [State.selfHist, State.put_flt, State.faultHist_same]

theorem State.selfHist_causes (s : State) : s.selfHist.causes = s.causes := by
  rw [State.selfHist, State.put_causes, State.faultHist_same]

theorem State.reloadCfg_reg (s : State) {a : Nat} (h : a ≠ FLT.cfg) : s.reloadCfg.reg a = s.reg a :=
  (State.reg_put_ne _ FLT.safeTx _ h).trans (State.reg_put_ne _ FLT.compat _ h)

theorem State.reloadCfg_compat (s : State) : s.reloadCfg.on FLT.compat = false := by
  rw [State.reloadCfg, State.on_eq_false_iff, State.get_put_apart _ _ (by decide) (.inr (.inl (by decide))),
    State.get_put_same _ _ _ (by decide)]
  rfl

theorem State.reloadCfg_safeTx (s : State) : s.reloadCfg.get FLT.safeTx = s.get GLB.strapSafeTx := by
  have h : s.get GLB.strapSafeTx < 2 ^ 1 := s.get_lt _
  rw [State.reloadCfg, State.get_put_same _ _ _ (by decide)]
  exact Nat.mod_eq_of_lt h

theorem Framed.reloadCfg (h : Framed m l s t) (hl : FLT.cfg ∈ l) : Framed m l s t.reloadCfg :=
  (h.put (f := FLT.compat) _ (.inr hl)).put (f := FLT.safeTx) _ (.inr hl)

/-! Compatibility mode. -/

/-- The parity of a source word shows, and the collector's cause is present. -/
def State.parityLost (s : State) (n : Nat) : State :=
  ({ s with flt := { s.flt with parity := s.flt.parity ||| 2 ^ n } }).causeOn 160

theorem State.parityLost_reg (s : State) (n a : Nat) : (s.parityLost n).reg a = s.reg a := rfl

theorem State.parityLost_free (s : State) (n : Nat) : (s.parityLost n).free = s.free := rfl

theorem Framed.parityLost (h : Framed (fun x => { x with causes := 0, grace := 0, freeCtr := 0, flt := Flt.reset }) l s t) (n : Nat) :
    Framed (fun x => { x with causes := 0, grace := 0, freeCtr := 0, flt := Flt.reset }) l s (t.parityLost n) :=
  h.trans ⟨rfl, fun _ _ _ => rfl⟩

/-- A self-fault in compatibility mode that a source word's parity shows, before the word takes its failing value. -/
def State.wordBad (s : State) (n : Nat) : State := (s.faultHist 160 7 (s.get (FLT.sev 160))).parityLost n

/-- A source word that fails in compatibility mode, before the onset: it keeps its failing value. -/
def State.wordFailed (s : State) (n : Nat) : State :=
  (((s.wordBad n).setReg (FLT.srccfg n) ((s.wordBad n).free &&& 0xFFFFFF07#32)).useFree).sevChanged n

theorem State.wordBad_reg (s : State) (n a : Nat) : (s.wordBad n).reg a = (s.faultHist 160 7 (s.get (FLT.sev 160))).reg a := by
  rw [State.wordBad, State.parityLost_reg]

theorem State.wordBad_free (s : State) (n : Nat) : (s.wordBad n).free = s.free := by
  rw [State.wordBad, State.parityLost_free, State.faultHist_same]
  rfl

theorem State.wordFailed_reg (s : State) (n : Nat) {a : Nat} (h : a ≠ FLT.srccfg n) :
    (s.wordFailed n).reg a = (s.faultHist 160 7 (s.get (FLT.sev 160))).reg a := by
  rw [State.wordFailed, State.sevChanged_reg, ← s.wordBad_reg n]
  exact State.reg_setReg_ne _ _ h

theorem State.wordFailed_word (s : State) (n : Nat) : (s.wordFailed n).reg (FLT.srccfg n) = (s.free &&& 0xFFFFFF07#32) := by
  rw [State.wordFailed, State.sevChanged_reg, State.wordBad_free]
  exact State.reg_setReg_same ..

theorem State.wordFailed_parity (s : State) (n : Nat) : (s.wordFailed n).flt.parity.testBit n = true := by
  rw [State.wordFailed, State.sevChanged_flt]
  exact testBit_or_self _ _

theorem State.wordFailed_cause (s : State) (n : Nat) : (s.wordFailed n).causes.testBit 160 = true := by
  rw [State.wordFailed, State.sevChanged_causes]
  exact testBit_or_self _ _

theorem State.wordFailed_seq (s : State) (n : Source) : (s.wordFailed n).reg FLT.histSeq = s.reg FLT.histSeq + 1 := by
  have := FLT.srccfg_range n
  rw [s.wordFailed_reg n (by unfold FLT.histSeq; omega), State.faultHist_seq]

theorem Framed.useFree (h : Framed (fun x => { x with causes := 0, grace := 0, freeCtr := 0, flt := Flt.reset }) l s t) :
    Framed (fun x => { x with causes := 0, grace := 0, freeCtr := 0, flt := Flt.reset }) l s t.useFree :=
  h.trans ⟨rfl, fun _ _ _ => rfl⟩

theorem Framed.wordBad (n : Nat) (h2 : FLT.histSeq ∈ l) (hl : ∀ i < 4, FLT.hist ((s.reg FLT.histSeq).toNat % 16) i ∈ l) :
    Framed (fun x => { x with causes := 0, grace := 0, freeCtr := 0, flt := Flt.reset }) l s (s.wordBad n) :=
  .parityLost (.faultHist (.refl ..) 160 7 (s.get (FLT.sev 160)) hl h2) n

theorem Framed.wordFailed {n : Nat} (h1 : FLT.srccfg n ∈ l) (h2 : FLT.histSeq ∈ l)
    (hl : ∀ i < 4, FLT.hist ((s.reg FLT.histSeq).toNat % 16) i ∈ l) :
    Framed (fun x => { x with causes := 0, grace := 0, freeCtr := 0, flt := Flt.reset }) l s (s.wordFailed n) :=
  .sevChanged (.useFree ((Framed.wordBad n h2 hl).setReg _ (.inr h1))) n fun _ _ _ _ => rfl

theorem State.wordFailed_live (s : State) (n : Source) : (s.wordFailed n).on (FLT.live 160) = s.on (FLT.live 160) := by
  have := FLT.srccfg_range n
  unfold State.on State.get
  rw [s.wordFailed_reg n (by show 0x10074 ≠ _; omega), State.reg_faultHist_ne _ _ _ _ (by decide) (by decide)]

/-- FLT_CFG reloaded in compatibility mode, before the onset. -/
def State.cfgFailed (s : State) : State := (s.faultHist 160 7 (s.get (FLT.sev 160))).reloadCfg

theorem State.cfgFailed_live (s : State) : s.cfgFailed.on (FLT.live 160) = s.on (FLT.live 160) := by
  unfold State.on State.get
  rw [State.cfgFailed, State.reloadCfg_reg _ (by decide), State.reg_faultHist_ne _ _ _ _ (by decide) (by decide)]

theorem execCollSelfFault_cfg (h : s.on FLT.compat = true) : exec (.collSelfFault none) s =
    .next (if s.on (FLT.live 160) then s.cfgFailed else (s.cfgFailed.onset 160 5 false).put (FLT.live 160) 0) := by
  rw [← s.cfgFailed_live]
  exact congrArg Host.Outcome.next (if_pos h)

theorem execCollSelfFault_word {n : Source} (h : s.on FLT.compat = true) : exec (.collSelfFault (some n)) s =
    .next (if s.on (FLT.live 160) then s.wordFailed n else (s.wordFailed n).onset 160 5 false) := by
  rw [← s.wordFailed_live n]
  exact congrArg Host.Outcome.next (if_pos h)

/-- Settles O47: the pin by `State.notePin_low` and `State.notePin_high`, a self-fault by its records `State.selfNoted`. -/
theorem collectorPinAndSelfFaults : Obligations.CollectorPinAndSelfFaults := by
  unfold Obligations.CollectorPinAndSelfFaults
  refine ⟨?_, ?_, ?_, ?_, ?_, ?_, ?_, ?_, ?_⟩
  · intro s hh hs
    have hlow : (s.put FLT.pulseBusy 0).faultLow = false := by rw [State.faultLow_pulse, hh, hs]; rfl
    obtain ⟨u, hu, hl, hc, hout, hreg⟩ := State.notePin_high hlow
    refine ⟨u.put FLT.pinIn 1, congrArg Host.Outcome.next hu, ?_, ?_, ?_, ?_⟩
    · have hb : u.get FLT.pulseBusy = 0 := by
        unfold State.get
        rw [hreg _ (by decide)]
        exact State.get_put_same s _ _ (by decide)
      rw [State.on_eq_false_iff, State.get_put_apart _ _ (by decide) (.inr (.inl (by decide))), hb]
    · rw [State.put_flt, hl]
    · rw [State.put_causes, hc]
    · rw [State.put_out, hout, State.put_out, State.put_flt]
      rfl
  · intro s hh hl
    have hlow : (s.put FLT.pulseBusy 0).faultLow = true := by rw [State.faultLow_pulse, hh]
    refine ⟨_, congrArg Host.Outcome.next (State.notePin_low hlow (by rw [State.put_flt, hl])), ?_, ?_, fun a ha => ?_⟩
    · rw [State.on_eq_false_iff, State.get_put_apart _ _ (by decide) (.inr (.inl (by decide))),
        State.get_put_same _ _ _ (by decide)]
      rfl
    · exact State.put_put_same ..
    · rw [State.reg_put_ne _ FLT.pinIn _ ha, State.reg_put_ne _ FLT.pulseBusy _ ha]
  · intro s h
    exact ⟨s, congrArg Host.Outcome.next (State.when_false _ h), rfl⟩
  · intro s h hl
    have hn : (s.causeOn 183).notePin = (s.causeOn 183).put FLT.pinIn 1 := by
      rw [State.notePin_low (s := s.causeOn 183) h hl]
      exact congrArg (fun b => (s.causeOn 183).put FLT.pinIn (boolNat b)) (testBit_or_self _ _)
    refine ⟨(s.causeOn 183).put FLT.pinIn 1, ?_, ?_, ?_, fun a ha => ?_⟩
    · exact congrArg Host.Outcome.next ((State.when_true _ h).trans (congrArg (·.onsetIfNew 183 false) hn))
    · rw [State.put_causes]
      exact testBit_or_self _ _
    · rw [State.on_iff, State.get_put_same _ _ _ (by decide)]
      decide
    · rw [State.reg_put_ne _ FLT.pinIn _ ha, State.causeOn_reg]
  · intro s n hcompat hv hne
    have hsrc := FLT.srccfg_range n
    have hv' : (s.wordReloaded n).on FLT.fValid = true := by
      rw [← hv]
      unfold State.on State.get
      rw [s.wordReloaded_reg n (by show 0x10020 ≠ _; omega) (by decide)]
    have hseq : (s.wordReloaded n).reg FLT.histSeq = s.reg FLT.histSeq :=
      s.wordReloaded_reg n (by unfold FLT.histSeq; omega) (by decide)
    refine ⟨((s.wordReloaded n).selfHist.put FLT.fColl 1).raise FLT.event 5, ?_, ?_, ?_, ?_, ?_, ?_, ?_, ?_, ?_⟩
    · exact congrArg Host.Outcome.next ((if_neg (by simp [hcompat])).trans (State.selfNoted_full hv'))
    · rw [State.raise, State.reg_raiseBits_ne _ _ _ (by omega) (by unfold FLT.event; omega),
        State.reg_put_ne _ _ _ (by show _ ≠ 0x10020; omega), State.selfHist_reg _ (by omega) (by unfold FLT.histSeq; omega)
          (by show _ ≠ 0x10054; omega), State.wordReloaded_word]
    · rw [State.on_raise _ _ _ (by decide) (by decide), State.on, State.get_put_ne _ _ _ _ (by decide), State.selfHist_status]
      rfl
    · rw [State.on_raise _ _ _ (by decide) (by decide), State.on, State.get_put_same _ _ _ (by decide)]
      rfl
    · exact State.raise_bit _ _ (by decide) (by decide)
    · rw [State.raise, State.reg_raiseBits_ne _ _ _ (by decide) (by decide), State.reg_put_ne _ FLT.fColl _ (by decide),
        State.selfHist_seq, hseq]
    · rw [State.raise_flt, State.put_flt, State.selfHist_flt]
      exact s.wordReloaded_parity n.isLt
    · rw [State.raise_flt, State.put_flt, State.selfHist_flt, State.raise_causes, State.put_causes, State.selfHist_causes]
      exact fun h => State.parityGood_causes _ _ h
    · refine .raise (.put (.selfHist (.wordReloaded (.refl ..) n (by simp) (by simp) fun _ _ _ _ => rfl) (fun i hi => ?_)
        (by simp) (by simp)) _ (.inr (by simp [FLT.fColl, FLT.first]))) _ (by simp)
      rw [hseq]
      obtain rfl | rfl | rfl | rfl : i = 0 ∨ i = 1 ∨ i = 2 ∨ i = 3 := by omega
      all_goals simp
  · intro s hcompat hv
    have hv' : s.reloadCfg.on FLT.fValid = false := by
      rw [← hv]
      unfold State.on State.get
      rw [s.reloadCfg_reg (by decide)]
    obtain ⟨sev, hsev, hn⟩ := State.selfNoted_free hv'
    have hword := State.fillFirst_word s.reloadCfg.selfHist (n := 160) (by decide) sev
    obtain ⟨h1, -, h3⟩ := first_fields (by decide) hsev hword
    refine ⟨(s.reloadCfg.selfHist.fillFirst 160 sev false).raise FLT.event 5, ?_, ?_, ?_, ?_, ?_, ?_, ?_, ?_⟩
    · exact congrArg Host.Outcome.next ((if_neg (by simp [hcompat])).trans hn)
    · rw [State.on_raise _ _ _ (by decide) (by decide), State.on, State.get, State.reg_fillFirst_ne _ _ _ _ (by decide),
        State.selfHist_reg _ (by decide) (by decide) (by decide)]
      exact s.reloadCfg_compat
    · rw [State.get_raise _ _ _ (by decide) (by decide), State.get, State.reg_fillFirst_ne _ _ _ _ (by decide),
        State.selfHist_reg _ (by decide) (by decide) (by decide)]
      exact s.reloadCfg_safeTx
    · rw [State.on_raise _ _ _ (by decide) (by decide), State.on, State.get, State.reg_fillFirst_ne _ _ _ _ (by decide)]
      exact decide_eq_true (by rw [show bitsOf _ _ _ = 1 from s.reloadCfg.selfHist_status]; decide)
    · rw [State.get_raise _ _ _ (by decide) (by decide)]
      exact h1
    · rw [State.on_raise _ _ _ (by decide) (by decide), State.on_iff, show State.get _ FLT.fValid = 1 from h3]
      decide
    · exact State.raise_bit _ _ (by decide) (by decide)
    · refine .raise (.fillFirst (.selfHist (.reloadCfg (.refl ..) (by simp)) (fun i hi => ?_) (by simp) (by simp)) _ _ _
        (by simp) (by simp) (by simp) (by simp)) _ (by simp)
      rw [s.reloadCfg_reg (by decide)]
      obtain rfl | rfl | rfl | rfl : i = 0 ∨ i = 1 ∨ i = 2 ∨ i = 3 := by omega
      all_goals simp
  · intro s n hcompat hl
    refine ⟨s.wordFailed n, ?_, s.wordFailed_word n, s.wordFailed_parity n, s.wordFailed_cause n, s.wordFailed_seq n, ?_⟩
    · rw [execCollSelfFault_word hcompat, if_pos hl]
    · refine .wordFailed (by simp) (by simp) fun i hi => ?_
      obtain rfl | rfl | rfl | rfl : i = 0 ∨ i = 1 ∨ i = 2 ∨ i = 3 := by omega
      all_goals simp
  · intro s n hcompat hl
    refine ⟨s.wordFailed n, ?_, s.wordFailed_word n, s.wordFailed_cause n, s.wordFailed_parity n⟩
    rw [execCollSelfFault_word hcompat, if_neg (by simp [hl])]
  · intro s hcompat
    refine ⟨s.cfgFailed, execCollSelfFault_cfg hcompat, State.reloadCfg_compat _, ?_, ?_, ?_⟩
    · rw [State.cfgFailed, State.reloadCfg_safeTx, State.get_faultHist _ _ _ _ (by decide) (by decide)]
    · rw [State.cfgFailed, State.reloadCfg_reg _ (by decide), State.faultHist_seq]
    · refine .reloadCfg (.faultHist (.refl ..) _ _ _ (fun i hi => ?_) (by simp)) (by simp)
      obtain rfl | rfl | rfl | rfl : i = 0 ∨ i = 1 ∨ i = 2 ∨ i = 3 := by omega
      all_goals simp

end Sys2Proof.Machine
end

section
/-! PROOFS. The refutation of O44: a capture that clears the histograms, in a state whose store lists a register twice. -/

namespace Sys2Proof.Machine
open Tests

/-- A capture is due at a unit in RUN that clears its histograms with it. -/
def clearingShot : State := { up.put ECL.hclr 1 with shot := some ⟨1, false, 0, .U, 0⟩ }

/-- The same, with register 0x1FFFFFC listed twice: first at the value that an unlisted register reads as, which is the one read,
and behind it at 1. -/
def shadowedShot : State :=
  { clearingShot with regs := (0x1FFFFFC, regReset 0x1FFFFFC) :: (0x1FFFFFC, 1) :: clearingShot.regs }

theorem shadowedShot_up : shadowedShot.fileUp = true ∧ shadowedShot.chooseBank = some 0 ∧ shadowedShot.on ECL.hclr = true := by
  decide +kernel

theorem shadowedShot_reg : shadowedShot.reg 0x1FFFFFC = 0 := by decide +kernel

/-- Clearing the histograms drops the first listing, and what stood behind it is read. -/
theorem shadowedShot_capture : shadowedShot.capture.reg 0x1FFFFFC = 1 := by decide +kernel

/-- Refutes O44: the statement asks of every state that a capture with HCLR leaves each register outside the histograms alone.
The clear drops every listing of the register store that holds a reset value, so that in a state that is not canonical, whose
store lists a register once more behind such a listing, that register changes. -/
theorem not_capturesAndTelemetry : ¬ Obligations.CapturesAndTelemetry := by
  intro h
  obtain ⟨-, -, -, -, -, -, hclear, -⟩ := h
  obtain ⟨hup, hbank, hhclr⟩ := shadowedShot_up
  obtain ⟨t, hx, -, -, -, -, hreg⟩ := hclear shadowedShot ⟨1, false, 0, .U, 0⟩ 0 0 0 rfl hup hbank hhclr
  have ht : shadowedShot.capture = t := Host.Outcome.next.inj hx
  have hsame := hreg 0x1FFFFFC (by decide +kernel) (by decide +kernel)
  rw [← ht, shadowedShot_capture, shadowedShot_reg] at hsame
  cases hsame

end Sys2Proof.Machine
end

section
/-! PROOFS. A move of a side beyond the two: the task that the refutations of O3, O9, O10, O11, O12 and O16 rest on.

A task's side is a number that the model does not bound. The lane map of side `sd` of group 0 is the register at
`0x180 + 4 * sd`, so that a waiting move of such a side rewrites four bits of a register that is no lane map. -/

namespace Sys2Proof.Machine
open Tests

/-- The side whose lane map, for group 0, is the register at `a`. -/
def sideAt (a : Nat) : Nat := (a - 0x180) / 4

/-- Port group 0 is an Ethernet group in which lane `n` of the side of register `a` is to move. -/
def State.strayMove (s : State) (a n : Nat) : State :=
  ((s.put (GLB.proto 0) 1).put (GLB.tsState 0 (sideAt a) 0) stUp).updPort 0 (fun p => { p with
    jobs := [{ Job.blank .move (sideAt a) n with soft := true }] })

/-! ### A stage that waits too long (O3) -/

/-- A power-up of a unit in DEEP in its memory stage, with XING_TIMEOUT of the safe-state severity, and the move that takes the bits
of its LIVE. -/
def lateStage : State :=
  ({ up.put (FLT.sev 182) 5 with pwr := { up.pwr with phase := .stage 3, origin := 2 } }).strayMove
    (FLT.live 182).addr 5

theorem lateStage_phase : lateStage.pwr.phase = .stage 3 := rfl

/-- The halt of the core lets the move take place, and the source reads as not live. -/
theorem lateStage_live :
    (lateStage.when (decide (lateStage.pwr.phase = .stage 3 ∨ lateStage.pwr.phase = .stage 4))
      (fun t => t.report 182)).on (FLT.live 182) = false := by decide +kernel

/-- Refutes O3: a stage that waits too long at the safe-state severity halts the core, the halt lets the waiting tasks go on, and a
move of a side that does not exist then rewrites the bits of LIVE that hold the source. -/
theorem not_powerUpFailuresRetryAndGiveUp : ¬ Obligations.PowerUpFailuresRetryAndGiveUp := by
  intro h
  obtain ⟨-, -, -, -, -, hlate⟩ := h
  obtain ⟨t, hx, -, hlive⟩ := hlate lateStage (.inl lateStage_phase)
  have ht := Host.Outcome.next.inj hx
  rw [← ht, lateStage_live] at hlive
  cases hlive

/-! ### A voltage that does not come (O9) -/

/-- A unit whose VID is being raised at point 1, with VID_TIMEOUT of the safe-state severity, and the move that takes the bits of the
point in use. -/
def lateVoltage : State := (((inDvfs .raising).put PWR.curPt 1).put (FLT.sev 178) 5).strayMove PWR.curPt.addr 0

theorem lateVoltage_raising : lateVoltage.pwr.dvfs = .raising ∧ lateVoltage.pwr.next = false := ⟨rfl, rfl⟩

theorem lateVoltage_point : lateVoltage.get PWR.curPt = 1 ∧
    (lateVoltage.when (decide (lateVoltage.pwr.dvfs = .raising)) (fun t => (t.report 178).dvfsEnd)).get PWR.curPt = 0 := by
  decide +kernel

/-- Refutes O9: VID_TIMEOUT at the safe-state severity halts the core, the halt lets the waiting tasks go on, and a move of a side
that does not exist then rewrites the point in use. -/
theorem not_voltageAndFrequencyChanges : ¬ Obligations.VoltageAndFrequencyChanges := by
  intro h
  obtain ⟨-, -, -, -, -, -, -, -, hlate⟩ := h
  obtain ⟨hraise, hnext⟩ := lateVoltage_raising
  obtain ⟨hbefore, hafter⟩ := lateVoltage_point
  obtain ⟨t, hx, -, -, -, hpoint⟩ := hlate lateVoltage hraise hnext
  have ht := Host.Outcome.next.inj hx
  rw [← ht, hbefore, hafter] at hpoint
  cases hpoint

/-! ### A configuration record whose entry resets the core (O10) -/

/-- A unit whose record is due, with a held escalation whose cause is still there, tasks that end at once, and behind them the move
that takes the bits of CFGREC. -/
def recordMoves : State :=
  ({ ready.strayMove 0x20C 1 with
    core := { ready.core with cold := true }, causes := 2 ^ 182, flt := { up.flt with held := [182] } }).updPort 0
      (fun p => { p with jobs := List.replicate 24 { Job.blank .move 0 0 with step := 1 } ++ p.jobs })

/-- A record of one entry, which writes ENG_AB and MRESET of GLB_RSTCTRL. -/
def resetRecord : CfgRecord := oneEntry 0x500000204#64

theorem resetRecord_good : recordGood resetRecord = true ∧ recordFits resetRecord = true := by decide +kernel

theorem recordMoves_due : recordMoves.coreReady = true ∧ recordMoves.core.cold = true ∧ recordMoves.core.record = [] ∧
    recordMoves.on GLB.strapCfgSkip = false ∧ recordMoves.writeTakes GLB.rstctrl = true := by decide +kernel

/-- The reset of the engine lets as many tasks go on as it may and takes the held escalation, which halts the core with CFGREC 3; the
management reset then lets the move go on. -/
theorem recordMoves_apply : (recordMoves.recordApply resetRecord).get GLB.cfgrec = 0 := by decide +kernel

/-- Refutes O10: where an entry resets an engine and the management core at once, a held escalation halts the core between the two,
and a move of a side that does not exist then rewrites CFGREC. -/
theorem not_firmwareStartsAndLoads : ¬ Obligations.FirmwareStartsAndLoads := by
  intro h
  obtain ⟨-, -, -, -, -, -, -, -, hreset, -⟩ := h
  obtain ⟨hready, hcold, hrecord, hskip, htakes⟩ := recordMoves_due
  obtain ⟨hgood, hfits⟩ := resetRecord_good
  obtain ⟨t, hx, hcfg, -⟩ := hreset recordMoves resetRecord 0x500000204#64 hready hcold hrecord hskip hgood rfl
    (by decide) (by decide) (by decide) htakes
  have hrun : execCfgRecordApply resetRecord recordMoves = .next (recordMoves.recordApply resetRecord) := if_pos hfits
  have ht := Host.Outcome.next.inj (hrun.symm.trans hx)
  rw [← ht, recordMoves_apply] at hcfg
  cases hcfg

/-! ### A management reset (O11) -/

/-- The manager, with configuration retries over, and the move that takes the strap of its role. -/
def roleMoves : State := ({ mgr with pcie := { mgr.pcie with crs := false } }).strayMove GLB.strap 0

theorem roleMoves_manager : roleMoves.supplied = true ∧ roleMoves.manager = true := by decide +kernel

/-- The move comes before the function is reset, which a worker has not. -/
theorem roleMoves_crs : ((roleMoves.cutFrame false).mgmtReset 1).pcie.crs = false := by decide +kernel

/-- Refutes O11: the halt of the core lets the waiting tasks go on, and a move of a side that does not exist rewrites the strap of
the role, so that the reset that goes on is that of a worker and the function keeps answering. -/
theorem not_managementResetsKeepTheDataPath : ¬ Obligations.ManagementResetsKeepTheDataPath := by
  intro h
  obtain ⟨hreset, -⟩ := h
  obtain ⟨hsup, hman⟩ := roleMoves_manager
  obtain ⟨t, hx, -, -, -, -, -, -, hcrs⟩ := hreset roleMoves false hsup
  have ht := Host.Outcome.next.inj hx
  have hretry := (hcrs hman).1
  rw [← ht, roleMoves_crs] at hretry
  cases hretry

/-! ### The release of the engines (O12) -/

/-- The move that takes the busy bits of the engines, with the first position of its side held. -/
def busyMoves : State := { up.strayMove 0x208 0 with bistHeld := 2 ^ (34 * sideAt 0x208) }

theorem busyMoves_release : busyMoves.engRelease.on (GLB.engBusy 0) = true := by decide +kernel

/-- Refutes O12: the release of the engines lets the waiting tasks go on, and a move of a side that does not exist sets a busy
bit again. -/
theorem not_engineAndLaneEndResets : ¬ Obligations.EngineAndLaneEndResets := by
  intro h
  obtain ⟨-, hrelease, -⟩ := h
  obtain ⟨_, t, -, -, -, hx, hbusy, -⟩ := hrelease busyMoves
  have ht := Host.Outcome.next.inj hx
  rw [← ht, busyMoves_release] at hbusy
  cases hbusy

/-! ### Loss of REFCLK (O16) -/

/-- REFCLK is present while a LOOPBACK slice waits for its lane to move, and the move that takes the bits of CAL_STAT. -/
def refMoves : State :=
  { (up.put GLB.refclkOk 1).strayMove CAL.refclkLost.addr 0 with
    bist := [⟨.nobody, true, [⟨1, 0, 0⟩], 0, 0, 0, 0, .moving, 0, 0, 0, 0, 0, 0⟩] }

theorem refMoves_ok : refMoves.on GLB.refclkOk = true := by decide +kernel

theorem refMoves_loss : refMoves.refclkLoss.bistRef.on CAL.refclkLost = false := by decide +kernel

/-- Refutes O16: the loss of REFCLK ends the slice, what waits goes on, and a move of a side that does not exist clears
REFCLK_LOST. -/
theorem not_transmitClockSources : ¬ Obligations.TransmitClockSources := by
  intro h
  obtain ⟨-, -, -, -, -, -, -, -, -, -, -, hloss, -⟩ := h
  obtain ⟨t, hx, -, -, -, -, hlost⟩ := hloss refMoves refMoves_ok
  have ht := Host.Outcome.next.inj hx
  rw [← ht, refMoves_loss] at hlost
  cases hlost

end Sys2Proof.Machine
end

section
/-! PROOFS. What the sequencer of the chain may change (13_orbit_chain.md), and what the requests and the passes of the
calibration may (09_crescent_calibration.md). -/

namespace Sys2Proof.Machine

variable {s t u : State}

theorem State.on_put_apart (s : State) {f g : Fld} (v : Nat) (hg : g.lo + g.len ≤ 32)
    (h : g.addr ≠ f.addr ∨ g.lo + g.len ≤ f.lo ∨ f.lo + f.len ≤ g.lo) : (s.put f v).on g = s.on g :=
  congrArg (fun n => decide (n ≠ 0)) (s.get_put_apart v hg h)

/-- A bit that takes the value of another bit. -/
theorem State.on_put_get (s t : State) {f g : Fld} (hf : f.lo + f.len ≤ 32) (hl : f.len = 1) (hg : g.len = 1) :
    (t.put f (s.get g)).on f = s.on g := by
  have hlt : s.get g < 2 ^ f.len := by rw [hl, ← hg]; exact s.get_lt g
  unfold State.on
  rw [State.get_put_same _ f _ hf, Nat.mod_eq_of_lt hlt]


/-- The two states agree but for the registers, what has left and the record of the chain. -/
def SameButChain (s t : State) : Prop := t = { s with regs := t.regs, out := t.out, orbit := t.orbit }

theorem SameButChain.refl (s : State) : SameButChain s s := rfl

theorem SameButChain.trans (h : SameButChain s t) (k : SameButChain t u) : SameButChain s u := by
  unfold SameButChain at *
  rw [k, h]

theorem SameButChain.put (h : SameButChain s t) (f : Fld) (v : Nat) : SameButChain s (t.put f v) := h.trans rfl
theorem SameButChain.setReg (h : SameButChain s t) (a : Nat) (w : Word) : SameButChain s (t.setReg a w) := h.trans rfl
theorem SameButChain.emit (h : SameButChain s t) (o : Out) : SameButChain s (t.emit o) := h.trans rfl
theorem SameButChain.updOrb (h : SameButChain s t) (f : Orbit → Orbit) : SameButChain s (t.updOrb f) := h.trans rfl

theorem SameButChain.when {f : State → State} (h : SameButChain s t) (c : Bool) (hf : ∀ u, SameButChain u (f u)) :
    SameButChain s (t.when c f) := by
  unfold State.when
  split
  · exact h.trans (hf t)
  · exact h

theorem SameButChain.each {α : Type} {f : α → State → State} (h : SameButChain s t) (l : List α)
    (hf : ∀ x u, SameButChain u (f x u)) : SameButChain s (t.each l f) := by
  induction l generalizing t with
  | nil => exact h
  | cons x l ih => exact ih (h.trans (hf x t))

theorem SameButChain.leaveEmpty (h : SameButChain s t) (p : OrbPort) : SameButChain s (t.leaveEmpty p) :=
  h.trans (.when (.updOrb (.refl t) _) _ fun u => .emit (.refl u) _)

theorem SameButChain.mgrFrame (h : SameButChain s t) (p : OrbPort) (dest ftype tag : Nat) (payload : List Byte) :
    SameButChain s (t.mgrFrame p dest ftype tag payload) := by
  unfold State.mgrFrame
  split
  · exact h
  · exact (h.leaveEmpty p).emit _

theorem SameButChain.setSeq (h : SameButChain s t) (q : SeqSt) : SameButChain s (t.setSeq q) := (h.updOrb _).put ..

theorem SameButChain.sendEnum (h : SameButChain s t) (p : OrbPort) (r : Bool) : SameButChain s (t.sendEnum p r) := h.mgrFrame ..

theorem SameButChain.probe (h : SameButChain s t) (a : Nat) (r : Bool) : SameButChain s (t.probe a r) :=
  (h.mgrFrame ..).when _ fun u => .emit (.refl u) _

theorem SameButChain.forgetAsked (h : SameButChain s t) : SameButChain s t.forgetAsked := h.updOrb _

theorem SameButChain.sendDelays (h : SameButChain s t) : SameButChain s t.sendDelays :=
  (h.each _ fun _ u => .mgrFrame (.refl u) ..).put ..

theorem SameButChain.seqNext (h : SameButChain s t) : SameButChain s t.seqNext := by
  refine h.trans ?_
  unfold State.seqNext
  split
  · exact .setSeq (.refl t) _
  split
  · extract_lets v
    split
    · exact .setSeq (.put (.sendDelays (.updOrb (.refl t) _)) ..) _
    · exact .probe (.setSeq (.updOrb (.refl t) _) _) ..
  split
  · exact .setSeq (.updOrb (.refl t) _) _
  split
  · exact .sendEnum (.setSeq (.forgetAsked (.updOrb (.refl t) _)) _) ..
  · exact .setSeq (.refl t) _

theorem SameButChain.seqGo (h : SameButChain s t) : SameButChain s t.seqGo := by
  unfold State.seqGo
  split
  · exact h.seqNext
  · exact h

theorem SameButChain.pwr (h : SameButChain s t) : t.pwr = s.pwr := by
  rw [h]

/-! ### Answers -/

/-- The two states agree but for the answers of descriptors and operations and the requests of the calibration. -/
def SameButAnswers (s t : State) : Prop := t = { s with rings := t.rings, waitq := t.waitq, calReqs := t.calReqs }

theorem SameButAnswers.trans (h : SameButAnswers s t) (k : SameButAnswers t u) : SameButAnswers s u := by
  unfold SameButAnswers at *
  rw [k, h]

theorem SameButAnswers.requests (h : SameButAnswers s t) (l : List CalReq) : SameButAnswers s { t with calReqs := l } := h.trans rfl

theorem SameButAnswers.each {α : Type} {f : α → State → State} (h : SameButAnswers s t) (l : List α)
    (hf : ∀ x u, SameButAnswers u (f x u)) : SameButAnswers s (t.each l f) := by
  induction l generalizing t with
  | nil => exact h
  | cons x l ih => exact ih (h.trans (hf x t))

theorem State.opDone_answers (s : State) (o : Owner) (status result : Nat) : SameButAnswers s (s.opDone o status result) := by
  cases o <;> exact rfl

theorem State.calTimedOut_answers (s : State) (tx : Bool) (i : Nat) : SameButAnswers s (s.calTimedOut tx i) :=
  (SameButAnswers.requests (t := s) rfl _).each _ fun _ u => u.opDone_answers ..

theorem State.calStrike_answers (s : State) (tx : Bool) (i : Nat) (waiting : Bool) : SameButAnswers s (s.calStrike tx i waiting) :=
  (SameButAnswers.requests (t := s) rfl _).each _ fun _ u => u.opDone_answers ..

/-- What does not look at them is the same in both states. -/
theorem SameButAnswers.apply {α : Type} (h : SameButAnswers s t) (π : State → α)
    (hπ : ∀ (x : State) r w c, π { x with rings := r, waitq := w, calReqs := c } = π x) : π t = π s := by
  rw [h]
  exact hπ ..

/-! ### The requests and the passes of the calibration -/

/-- The two states agree but for what a calibration request and a pass change: the answers of descriptors and operations, the
requests, the lane-ends, and registers from the sweep bits on. -/
def CalSide (s t : State) : Prop := (∀ a, a < 0x60080 → t.reg a = s.reg a) ∧
  t = { s with regs := t.regs, rings := t.rings, waitq := t.waitq, calReqs := t.calReqs, calSeq := t.calSeq, rx := t.rx, tx := t.tx }

theorem CalSide.refl (s : State) : CalSide s s := ⟨fun _ _ => rfl, rfl⟩

theorem CalSide.trans (h : CalSide s t) (k : CalSide t u) : CalSide s u := by
  obtain ⟨hr, hs⟩ := h
  obtain ⟨kr, ks⟩ := k
  exact ⟨fun a ha => (kr a ha).trans (hr a ha), by rw [ks, hs]⟩

theorem CalSide.updRx (h : CalSide s t) (i : Nat) (f : RxEnd → RxEnd) : CalSide s (t.updRx i f) := h.trans ⟨fun _ _ => rfl, rfl⟩
theorem CalSide.updTx (h : CalSide s t) (i : Nat) (f : TxEnd → TxEnd) : CalSide s (t.updTx i f) := h.trans ⟨fun _ _ => rfl, rfl⟩

theorem CalSide.requests (h : CalSide s t) (l : List CalReq) : CalSide s { t with calReqs := l } := h.trans ⟨fun _ _ => rfl, rfl⟩

theorem CalSide.counted (h : CalSide s t) (n : Nat) : CalSide s { t with calSeq := n } := h.trans ⟨fun _ _ => rfl, rfl⟩

theorem CalSide.setReg (h : CalSide s t) {a : Nat} (w : Word) (ha : 0x60080 ≤ a) : CalSide s (t.setReg a w) :=
  h.trans ⟨fun b hb => State.reg_setReg_ne t w (by omega), rfl⟩

theorem CalSide.put (h : CalSide s t) {f : Fld} (v : Nat) (ha : 0x60080 ≤ f.addr) : CalSide s (t.put f v) := h.setReg _ ha

theorem CalSide.each {α : Type} {f : α → State → State} (h : CalSide s t) (l : List α) (hf : ∀ x u, CalSide u (f x u)) :
    CalSide s (t.each l f) := by
  induction l generalizing t with
  | nil => exact h
  | cons x l ih => exact ih (h.trans (hf x t))

theorem CalSide.when {f : State → State} (h : CalSide s t) (c : Bool) (hf : ∀ u, CalSide u (f u)) : CalSide s (t.when c f) := by
  unfold State.when
  split
  · exact h.trans (hf t)
  · exact h

theorem CalSide.answers (h : CalSide s t) (k : SameButAnswers t u) : CalSide s u :=
  h.trans ⟨fun a _ => k.apply (fun x => x.reg a) fun _ _ _ _ => rfl, by rw [k]⟩

theorem CalSide.opDone (h : CalSide s t) (o : Owner) (status result : Nat) : CalSide s (t.opDone o status result) :=
  h.answers (t.opDone_answers ..)

theorem CalSide.calTimedOut (h : CalSide s t) (tx : Bool) (i : Nat) : CalSide s (t.calTimedOut tx i) :=
  h.answers (t.calTimedOut_answers ..)

theorem CalSide.calStrike (h : CalSide s t) (tx : Bool) (i : Nat) (waiting : Bool) : CalSide s (t.calStrike tx i waiting) :=
  h.answers (t.calStrike_answers ..)

theorem CalSide.calLog (h : CalSide s t) (kind lane cell bytes sensor : Nat) : CalSide s (t.calLog kind lane cell bytes sensor) := by
  refine h.trans ?_
  unfold State.calLog
  extract_lets n a v
  have ha : 0x60080 ≤ a := by unfold a CAL.log; omega
  have hv : CalSide t v := .setReg (.setReg (.setReg (.setReg (.refl t) _ ha) _ (by omega)) _ (by omega)) _ (by omega)
  exact hv.counted _

theorem CalSide.rxLog (h : CalSide s t) (i kind slice slot flags bytes : Nat) :
    CalSide s (t.rxLog i kind slice slot flags bytes) := by
  refine h.trans ?_
  have ha : 0x60080 ≤ LRX.base i + 0xE80 + 16 * ((t.rxe i).logSeq % 24) := by unfold LRX.base; omega
  exact .updRx (.setReg (.setReg (.setReg (.setReg (.refl t) _ ha) _ (by omega)) _ (by omega)) _ (by omega)) ..

theorem CAL.sweepTx_range (i : Nat) : 0x60080 ≤ (CAL.sweepTx i).addr := by show 0x60080 ≤ 0x60090 + 4 * (i / 32); omega

/-- The two states agree but for what a pass of a transmitter changes: its sweep bit, the transmitters, and the answers. -/
def PassSide (i : Nat) (s t : State) : Prop := (∀ a, a ≠ (CAL.sweepTx i).addr → t.reg a = s.reg a) ∧
  t = { s with regs := t.regs, rings := t.rings, waitq := t.waitq, calReqs := t.calReqs, tx := t.tx }

variable {i : Nat}

theorem PassSide.refl (i : Nat) (s : State) : PassSide i s s := ⟨fun _ _ => rfl, rfl⟩

theorem PassSide.trans (h : PassSide i s t) (k : PassSide i t u) : PassSide i s u := by
  obtain ⟨hr, hs⟩ := h
  obtain ⟨kr, ks⟩ := k
  exact ⟨fun a ha => (kr a ha).trans (hr a ha), by rw [ks, hs]⟩

theorem PassSide.updTx (h : PassSide i s t) (j : Nat) (f : TxEnd → TxEnd) : PassSide i s (t.updTx j f) :=
  h.trans ⟨fun _ _ => rfl, rfl⟩

theorem PassSide.put (h : PassSide i s t) (v : Nat) : PassSide i s (t.put (CAL.sweepTx i) v) :=
  h.trans ⟨fun _ ha => State.reg_put_ne t (CAL.sweepTx i) v ha, rfl⟩

theorem PassSide.answers (h : PassSide i s t) (k : SameButAnswers t u) : PassSide i s u :=
  h.trans ⟨fun a _ => k.apply (fun x => x.reg a) fun _ _ _ _ => rfl, by rw [k]⟩

theorem PassSide.passSkip (h : PassSide i s t) (j : Nat) : PassSide i s (t.passSkip j) := by
  refine h.trans ?_
  unfold State.passSkip
  extract_lets v
  have hv : PassSide i t v := by
    unfold v
    split
    · exact .updTx (.refl i t) ..
    · exact .refl i t
  split
  · exact hv.updTx ..
  · exact hv

theorem PassSide.passBegin (h : PassSide i s t) : PassSide i s (t.passBegin i) := (h.updTx ..).passSkip i

theorem PassSide.passEnd (h : PassSide i s t) : PassSide i s (t.passEnd i) :=
  ((h.updTx ..).put _).answers (State.calStrike_answers ..)

theorem PassSide.passSettle (h : PassSide i s t) : PassSide i s (t.passSettle i) := by
  refine h.trans ?_
  unfold State.passSettle
  extract_lets v w
  have hv : PassSide i t v := .passSkip (.refl i t) i
  split
  · split
    · have hw : PassSide i t w := by
        refine .passBegin ?_
        split
        · exact hv
        · exact hv.put _
      split
      · exact hw.passEnd
      · exact hw
    · exact hv.passEnd
  · exact hv

theorem PassSide.passStart (h : PassSide i s t) : PassSide i s (t.passStart i) := by
  unfold State.passStart
  split
  · exact h.passBegin.passSettle
  · exact h

theorem PassSide.passAsked (h : PassSide i s t) : PassSide i s (t.passAsked i) := by
  unfold State.passAsked
  split
  · split
    · exact h.updTx ..
    · exact h.passStart
  · exact h

theorem PassSide.sweepTxStart (h : PassSide i s t) : PassSide i s (t.sweepTxStart i) := by
  refine h.trans ?_
  unfold State.sweepTxStart
  split
  · extract_lets v
    have hv : PassSide i t v := .put (.refl i t) _
    split
    · exact hv.updTx ..
    · exact hv.passStart
  · exact .refl i t

theorem PassSide.rx (h : PassSide i s t) : t.rx = s.rx := by rw [h.2]

theorem CalSide.pass (h : CalSide s t) (k : PassSide i t u) : CalSide s u := by
  have hrange := CAL.sweepTx_range i
  exact h.trans ⟨fun a ha => k.1 a (by omega), by rw [k.2]⟩

theorem CalSide.sweepRxStart (h : CalSide s t) (i : Nat) : CalSide s (t.sweepRxStart i) := by
  unfold State.sweepRxStart
  split
  · exact ((h.updRx ..).put _ (show 0x60080 ≤ 0x60080 + 4 * (i / 32) by omega)).rxLog ..
  · exact h

theorem CalSide.calBegin (h : CalSide s t) (c : CalReq) : CalSide s (t.calBegin c) := by
  refine h.trans ?_
  unfold State.calBegin
  extract_lets v w x
  have hx : CalSide t x := by
    refine .each (.each (.requests (.refl t) _) _ fun i u => ?_) _ fun i u => .when (.refl u) _ fun v => .calTimedOut (.refl v) ..
    split
    · exact .pass (.refl u) (.passAsked (.refl i u))
    · exact .sweepRxStart (.refl u) i
  split
  · exact (hx.requests _).opDone ..
  · exact hx

theorem CalSide.suspendEnd (h : CalSide s t) (was : Bool) : CalSide s (t.suspendEnd was) := by
  unfold State.suspendEnd
  extract_lets waiting
  split
  · exact ((h.requests _).calLog ..).each _ fun c u => .calBegin (.refl u) c
  · exact h

theorem CalSide.reg (h : CalSide s t) {a : Nat} (ha : a < 0x60080) : t.reg a = s.reg a := h.1 a ha
theorem CalSide.pwr (h : CalSide s t) : t.pwr = s.pwr := by rw [h.2]
theorem CalSide.causes (h : CalSide s t) : t.causes = s.causes := by rw [h.2]

theorem CalSide.on (h : CalSide s t) {f : Fld} (hf : f.addr < 0x60080) : t.on f = s.on f := by
  unfold State.on State.get
  rw [h.reg hf]

end Sys2Proof.Machine
end

section
/-! PROOFS. The stages of a power-up (O2). -/

namespace Sys2Proof.Machine

variable {s t : State}

theorem State.setPhase_phase (s : State) (p : Phase) : (s.setPhase p).pwr.phase = p := rfl

theorem State.setPhase_rails (s : State) (p : Phase) : (s.setPhase p).pwr.rails = s.pwr.rails := rfl

theorem State.setPhase_stage (s : State) (p : Phase) : (s.setPhase p).get PWR.stage = stageCode p % 8 :=
  State.get_put_same _ PWR.stage (stageCode p) (by decide)

theorem State.setPhase_on (s : State) (p : Phase) {f : Fld} (h : f.addr ≠ PWR.stat) : (s.setPhase p).on f = s.on f :=
  congrArg (fun n => decide (n ≠ 0)) (State.get_put_ne (s.updPwr _) PWR.stage f _ h)

theorem State.setRails_pwr (s : State) (n : Nat) : (s.setRails n).pwr = { s.pwr with rails := 2 ^ n - 1 } := by
  rw [State.setRails_same]
  rfl

theorem State.setRails_reg (s : State) (n a : Nat) : (s.setRails n).reg a = s.reg a := by
  rw [State.setRails_same]
  rfl

/-! ### The straps -/

/-- What the strap register holds of the levels that were latched. -/
def strapWord (v : BitVec 4) : Word := BitVec.ofNat 32 (v.toNat % 8 + 8 * boolNat (!bitOf v.toNat 3))

theorem strapWord_bits (v : BitVec 4) :
    decide (bitsOf (strapWord v).toNat 0 1 ≠ 0) = v.getLsbD 0 ∧ decide (bitsOf (strapWord v).toNat 1 1 ≠ 0) = v.getLsbD 1 ∧
    decide (bitsOf (strapWord v).toNat 2 1 ≠ 0) = v.getLsbD 2 ∧ decide (bitsOf (strapWord v).toNat 3 1 ≠ 0) = !v.getLsbD 3 := by
  revert v
  decide

/-- The latched straps, and the setup that follows two of them. -/
theorem State.latchStraps_spec (s : State) (v : BitVec 4) :
    (s.latchStraps v.toNat).reg GLB.strap = strapWord v ∧
    (s.latchStraps v.toNat).on FLT.safeTx = v.getLsbD 1 ∧ (s.latchStraps v.toNat).on ORB.role = v.getLsbD 0 := by
  obtain ⟨hbit0, hbit1, -, -⟩ := strapWord_bits v
  unfold State.latchStraps
  extract_lets u w
  have hstrap : u.reg GLB.strap = strapWord v := State.reg_setReg_same ..
  have hrole : w.on ORB.role = v.getLsbD 0 := by
    rw [← hbit0, ← hstrap]
    exact State.on_put_get u (u.put FLT.safeTx (u.get GLB.strapSafeTx)) (by decide) rfl rfl
  have htx : w.on FLT.safeTx = v.getLsbD 1 := by
    rw [← hbit1, ← hstrap]
    exact (congrArg (fun n => decide (n ≠ 0)) (State.get_put_ne _ ORB.role FLT.safeTx _ (by decide))).trans
      (State.on_put_get u u (f := FLT.safeTx) (g := GLB.strapSafeTx) (by decide) rfl rfl)
  have hword : w.reg GLB.strap = strapWord v := by
    rw [← hstrap]
    exact (State.reg_put_ne _ ORB.role _ (by decide)).trans (State.reg_put_ne _ FLT.safeTx _ (by decide))
  split
  · refine ⟨?_, ?_, ?_⟩
    · exact (State.reg_put_ne _ ORB.addrValid _ (by decide)).trans ((State.reg_put_ne _ ORB.addr _ (by decide)).trans hword)
    · exact (State.on_put_apart _ 1 (by decide) (by decide)).trans ((State.on_put_apart _ 0 (by decide) (by decide)).trans htx)
    · exact (State.on_put_apart _ 1 (by decide) (by decide)).trans ((State.on_put_apart _ 0 (by decide) (by decide)).trans hrole)
  · exact ⟨hword, htx, hrole⟩

theorem State.latchStraps_pwr (s : State) (v : Nat) : (s.latchStraps v).pwr = s.pwr := by
  unfold State.latchStraps
  extract_lets u w
  have hw : w.pwr = s.pwr := (State.put_pwr ..).trans (State.put_pwr ..)
  split
  · exact (State.put_pwr ..).trans ((State.put_pwr ..).trans hw)
  · exact hw

/-! ### The oscillators -/

theorem State.drive_reg (s : State) (o : Out) (a : Nat) : (s.drive o).reg a = s.reg a := by
  unfold State.drive
  split
  · rfl
  · rfl

theorem State.drive_pwr (s : State) (o : Out) : (s.drive o).pwr = s.pwr := by rw [State.drive_same]

theorem State.setVid_reg (s : State) (v : Nat) {a : Nat} (h : a ≠ PWR.dvfs) : (s.setVid v).reg a = s.reg a := by
  unfold State.setVid
  rw [State.updPwr_reg]
  split
  · rfl
  · exact (State.drive_reg ..).trans (State.reg_put_ne s PWR.vid v h)

theorem State.dvfsGo_reg (s : State) {a : Nat} (h : a ≠ PWR.dvfs) : s.dvfsGo.reg a = s.reg a := by
  have hbusy (u : State) : (u.put PWR.dvfsBusy 1).reg a = u.reg a := State.reg_put_ne u PWR.dvfsBusy 1 h
  unfold State.dvfsGo
  extract_lets point v
  split
  · exact State.updPwr_reg ..
  split
  · exact (State.updPwr_reg ..).trans ((hbusy _).trans (s.setVid_reg v h))
  split
  · rfl
  · exact (State.updPwr_reg ..).trans (hbusy s)

theorem State.setVid_phase (s : State) (v : Nat) :
    (s.setVid v).pwr.phase = s.pwr.phase ∧ (s.setVid v).pwr.held = s.pwr.held := by
  have hdrive : (if s.get PWR.vid = v then s else (s.put PWR.vid v).drive (.vid v) : State).pwr = s.pwr := by
    split
    · rfl
    · exact (State.drive_pwr ..).trans (State.put_pwr ..)
  exact ⟨(congrArg Pwr.phase hdrive :), (congrArg Pwr.held hdrive :)⟩

theorem State.dvfsGo_phase (s : State) : s.dvfsGo.pwr.phase = s.pwr.phase ∧ s.dvfsGo.pwr.held = s.pwr.held := by
  unfold State.dvfsGo
  extract_lets point v
  split
  · rw [State.updPwr_pwr]
    exact ⟨rfl, rfl⟩
  split
  · rw [State.updPwr_pwr, State.put_pwr]
    exact s.setVid_phase v
  split
  · exact ⟨rfl, rfl⟩
  · rw [State.updPwr_pwr, State.put_pwr]
    exact ⟨rfl, rfl⟩

/-- In a power-up from the oscillator stage on REFCLK is looked for, and its return shows. -/
theorem State.refclkReturn_ok (s : State) (h : s.pwr.phase = .stage 2) : s.refclkReturn.on GLB.refclkOk = true := by
  unfold State.refclkReturn
  split
  case isTrue hno =>
    have hsought : s.refclkSought = true := by
      unfold State.refclkSought
      rw [h]
      rfl
    simpa [hsought] using hno
  case isFalse =>
    extract_lets was v
    refine (CalSide.on (.suspendEnd (.refl _) was) (by decide)).trans ?_
    refine (State.on_put_apart _ _ (by decide) (by decide)).trans ?_
    refine (State.on_put_apart _ _ (by decide) (by decide)).trans ?_
    unfold State.on State.get
    rw [State.reg_causeOff_ne _ _ (by decide)]
    refine (State.on_put_apart _ (f := ⟨GLB.event, 3, 1⟩) (g := GLB.refclkOk) 0 (by decide) (by decide)).trans ?_
    exact State.on_put_one _ GLB.refclkOk (by decide) (by decide)

/-- A Tx PLL locks at the end of the oscillator stage. -/
def State.pllUp (s : State) (e : Nat) : State :=
  ((s.put (GLB.hold e) 0).put (GLB.pllLock e) 1).updPll e (fun _ => { freq := 0, warned := false })

theorem State.pllUp_pwr (s : State) (e : Nat) : (s.pllUp e).pwr = s.pwr := rfl

theorem State.pllUp_lock (s : State) {e : Nat} (he : e < 2) : (s.pllUp e).on (GLB.pllLock e) = true :=
  State.on_put_one (s.put (GLB.hold e) 0) (GLB.pllLock e) (by show 8 * e + 4 + 1 ≤ 32; omega) Nat.one_pos

theorem State.pllUp_apart (s : State) (e : Nat) {f : Fld} (hf : f.lo + f.len ≤ 32)
    (h : f.addr ≠ 0x54 ∨ f.lo + f.len ≤ 8 * e + 3 ∨ 8 * e + 5 ≤ f.lo) : (s.pllUp e).on f = s.on f := by
  show ((s.put (GLB.hold e) 0).put (GLB.pllLock e) 1).on f = s.on f
  rw [State.on_put_apart _ _ hf, State.on_put_apart _ _ hf]
  · show f.addr ≠ 0x54 ∨ f.lo + f.len ≤ 8 * e + 3 ∨ 8 * e + 3 + 1 ≤ f.lo
    omega
  · show f.addr ≠ 0x54 ∨ f.lo + f.len ≤ 8 * e + 4 ∨ 8 * e + 4 + 1 ≤ f.lo
    omega

/-- The end of the oscillator stage shows in the oscillator's trim and in both locks. -/
theorem State.pllsUp_on (s : State) (h : s.on GLB.refclkOk = true) :
    (((s.put ORB.trimmed 1).pllUp 0).pllUp 1).on ORB.trimmed = true ∧
    (((s.put ORB.trimmed 1).pllUp 0).pllUp 1).on (GLB.pllLock 0) = true ∧
    (((s.put ORB.trimmed 1).pllUp 0).pllUp 1).on (GLB.pllLock 1) = true ∧
    (((s.put ORB.trimmed 1).pllUp 0).pllUp 1).on GLB.refclkOk = true := by
  refine ⟨?_, ?_, State.pllUp_lock _ (by decide), ?_⟩
  · rw [State.pllUp_apart _ 1 (by decide) (by decide), State.pllUp_apart _ 0 (by decide) (by decide)]
    exact State.on_put_one s ORB.trimmed (by decide) (by decide)
  · rw [State.pllUp_apart _ 1 (by decide) (by decide)]
    exact State.pllUp_lock _ (by decide)
  · rw [State.pllUp_apart _ 1 (by decide) (by decide), State.pllUp_apart _ 0 (by decide) (by decide),
      State.on_put_apart _ _ (by decide) (by decide)]
    exact h

theorem State.causeOff_pwr (s : State) (n : Nat) : (s.causeOff n).pwr = s.pwr := by
  unfold State.causeOff
  extract_lets t
  split
  · rfl
  · exact State.put_pwr ..

theorem State.refclkReturn_pwr (s : State) : s.refclkReturn.pwr = s.pwr := by
  unfold State.refclkReturn
  split
  · rfl
  · extract_lets was u
    rw [CalSide.pwr (.suspendEnd (.refl _) was), State.put_pwr, State.put_pwr, State.causeOff_pwr, State.put_pwr, State.put_pwr]
    exact State.setCounter_pwr ..

theorem State.timeOn_on (s : State) (n : Nat) : (s.timeOn n).on GLB.refclkOk = s.on GLB.refclkOk := by
  unfold State.timeOn State.on State.get
  rw [State.reg_setCounter_ne _ _ _ (by decide) (by decide)]

/-- What the oscillator stage does, with REFCLK present after it. -/
theorem State.oscReady_of (s : State) (h : s.pwr.phase = .stage 2) : ∃ u : State, u.on GLB.refclkOk = true ∧
    s.oscReady = ((((u.put ORB.trimmed 1).pllUp 0).pllUp 1).dvfsGo).setPhase (.stage (if s.pwr.origin = 2 then 4 else 3)) := by
  unfold State.oscReady
  rw [if_pos h]
  extract_lets u v
  have hu : u.on GLB.refclkOk = true ∧ u.pwr = s.pwr := by
    unfold u
    split
    case isTrue hok => exact ⟨hok, rfl⟩
    case isFalse =>
      refine ⟨((s.refclkReturn).timeOn_on _).trans (s.refclkReturn_ok h), ?_⟩
      exact (State.useFree_pwr _).trans ((State.setCounter_pwr ..).trans s.refclkReturn_pwr)
  have hv : v = ((u.put ORB.trimmed 1).pllUp 0).pllUp 1 := rfl
  refine ⟨u, hu.1, ?_⟩
  rw [hv, State.pllUp_pwr, State.pllUp_pwr, State.put_pwr, hu.2]

/-- The phase and what is held for it stay in what the lane side may change. -/
theorem Keeps.phase (h : Keeps true s t) : t.pwr.phase = s.pwr.phase ∧ t.pwr.held = s.pwr.held := by
  have hpwr : t.kept.pwr = s.kept.pwr := congrArg State.pwr (h.side rfl)
  exact ⟨(congrArg Pwr.phase hpwr :), (congrArg Pwr.held hpwr :)⟩

theorem State.noteFlash_pwr (s : State) : s.noteFlash.pwr = s.pwr := rfl
theorem State.bootSlot_pwr (s : State) (slot : Nat) (trial : Bool) : (s.bootSlot slot trial).pwr = s.pwr := rfl
theorem State.fallBackSlot_pwr (s : State) (b : Bool) : (s.fallBackSlot b).pwr = s.pwr := State.raise_pwr ..

theorem State.boot_pwr (s : State) : s.boot.pwr = s.pwr := by
  have hhalt (f : Core → Core) : ((s.updCore f).put GLB.fwReady 0).pwr = s.pwr := State.put_pwr ..
  unfold State.boot
  split
  · exact hhalt _
  split
  · rw [State.noteFlash_pwr, State.bootSlot_pwr]
  split
  · rw [State.noteFlash_pwr, State.bootSlot_pwr, State.fallBackSlot_pwr]
  · exact (State.noteFlash_pwr _).trans (hhalt fun c => { c with st := .stopped })

theorem State.vidCut_phase (s : State) (v : Nat) :
    (s.vidCut v).pwr.phase = s.pwr.phase ∧ (s.vidCut v).pwr.held = s.pwr.held := by
  unfold State.vidCut
  split
  · exact ⟨rfl, rfl⟩
  · extract_lets u
    have hu : u.pwr = s.pwr := (State.put_pwr ..).trans (State.put_pwr ..)
    clear_value u
    obtain ⟨hphase, hheld⟩ := State.setVid_phase (u.updPwr fun w => { w with dvfs := .idle, next := false }) v
    rw [State.raise_pwr, hphase, hheld, State.updPwr_pwr, hu]
    exact ⟨rfl, rfl⟩

theorem State.vidGated_phase (s : State) (v : Nat) :
    (s.vidGated v).pwr.phase = s.pwr.phase ∧ (s.vidGated v).pwr.held = s.pwr.held := by
  unfold State.vidGated
  split
  · exact ⟨rfl, rfl⟩
  · exact s.vidCut_phase v

theorem State.dvfsStart_phase (s : State) :
    s.dvfsStart.pwr.phase = s.pwr.phase ∧ s.dvfsStart.pwr.held = s.pwr.held := by
  unfold State.dvfsStart
  split
  · exact s.dvfsGo_phase
  · exact s.vidGated_phase _
  · exact s.vidGated_phase _

/-- The last stage ends in RUN where no entry is held. -/
theorem State.logicDone_phase (s : State) (h : s.pwr.phase = .stage 4) (hheld : s.pwr.held = false) :
    s.logicDone.pwr.phase = .run := by
  unfold State.logicDone
  rw [if_pos h]
  extract_lets cold u v w x y
  have hu : u.pwr.phase = .run ∧ u.pwr.held = false := ⟨rfl, hheld⟩
  have hv : v.pwr = u.pwr := by
    unfold v
    split
    · exact State.boot_pwr _
    · rfl
  have hw : w.pwr.phase = v.pwr.phase ∧ w.pwr.held = v.pwr.held :=
    (((Keeps.refl true v).onsetIfNew.when Keeps.sourcesBack).takeDue).phase
  have hx : x.pwr = w.pwr := by
    unfold x
    split
    · exact SameButChain.pwr (.seqGo (.updOrb (.refl w) _))
    · rfl
  have hg : x.goOn.pwr.phase = .run ∧ x.goOn.pwr.held = false := by
    obtain ⟨hp, hh⟩ := (Keeps.refl true x).goOn.phase
    rw [hp, hh, hx, hw.1, hw.2, hv]
    exact hu
  have hy : y.pwr.phase = .run ∧ y.pwr.held = false := by
    unfold y State.when
    split
    · rw [(State.dvfsStart_phase _).1, (State.dvfsStart_phase _).2]
      exact hg
    · exact hg
  rw [if_neg (by rw [hy.2]; decide)]
  exact hy.1

theorem State.railsUp_rails (s : State) (n : Nat) : (s.railsUp n).pwr.rails = 2 ^ n - 1 := by
  show (s.setRails n).pwr.rails = _
  rw [State.setRails_pwr]

/-- Once a rail is asserted, the first is. -/
theorem testBit_rails {n : Nat} (h : 0 < n) : (2 ^ n - 1).testBit 0 = true := by
  simp [h]

/-- Settles O2. -/
theorem powerUpStagesPass : Obligations.PowerUpStagesPass := by
  refine ⟨fun s pgs hheld => ⟨_, rfl, ?_⟩, fun s straps hstage => ⟨_, rfl, ?_⟩, fun s hstage => ⟨_, rfl, ?_⟩,
    fun s rows hstage => ⟨_, rfl, ?_⟩, fun s hstage hheld => ⟨s.logicDone, rfl, s.logicDone_phase hstage hheld⟩⟩
  · rw [show s.coldStart pgs.toNat = s.railsUp _ from if_pos hheld]
    refine ⟨rfl, State.setPhase_stage .., ?_⟩
    rw [State.railsUp_rails]
    exact testBit_rails (by omega)
  · obtain ⟨hword, htx, hrole⟩ := (s.setRails 5).latchStraps_spec straps
    obtain ⟨hbit0, hbit1, hbit2, hbit3⟩ := strapWord_bits straps
    have hready : s.regulatorReady straps.toNat =
        (if (s.setRails 5).pwr.origin = 0 then (s.setRails 5).latchStraps straps.toNat else s.setRails 5).setPhase
          (.stage 2) := if_pos hstage
    refine ⟨by rw [hready]; rfl, by rw [hready]; exact State.setPhase_stage .., ?_, fun hcold => ?_⟩
    · rw [hready, State.setPhase_rails]
      split
      · rw [State.latchStraps_pwr, State.setRails_pwr]; rfl
      · rw [State.setRails_pwr]; rfl
    · have horigin : (s.setRails 5).pwr.origin = 0 := by rw [State.setRails_pwr]; exact hcold
      rw [if_pos horigin] at hready
      have hon {f : Fld} (h : f.addr ≠ PWR.stat) :
          (s.regulatorReady straps.toNat).on f = ((s.setRails 5).latchStraps straps.toNat).on f := by
        rw [hready]
        exact State.setPhase_on _ _ h
      have hstrap {f : Fld} (h : f.addr = GLB.strap) :
          (s.regulatorReady straps.toNat).on f = decide (bitsOf (strapWord straps).toNat f.lo f.len ≠ 0) := by
        rw [hon (by rw [h]; decide)]
        unfold State.on State.get
        rw [h, hword]
      exact ⟨(hstrap rfl).trans hbit0, (hstrap rfl).trans hbit1, (hstrap rfl).trans hbit2, (hstrap rfl).trans hbit3,
        (hon (by decide)).trans htx, (hon (by decide)).trans hrole⟩
  · obtain ⟨u, hok, hosc⟩ := s.oscReady_of hstage
    obtain ⟨htrim, hlock0, hlock1, href⟩ := u.pllsUp_on hok
    have hon {f : Fld} (hstat : f.addr ≠ PWR.stat) (hdvfs : f.addr ≠ PWR.dvfs) :
        s.oscReady.on f = (((u.put ORB.trimmed 1).pllUp 0).pllUp 1).on f := by
      rw [hosc, State.setPhase_on _ _ hstat]
      unfold State.on State.get
      rw [State.dvfsGo_reg _ hdvfs]
    refine ⟨?_, ?_, ?_, ?_, ?_⟩
    · rw [hosc, State.setPhase_phase]
      split <;> rfl
    · exact (hon (by decide) (by decide)).trans htrim
    · exact (hon (by decide) (by decide)).trans hlock0
    · exact (hon (by decide) (by decide)).trans hlock1
    · exact (hon (by decide) (by decide)).trans href
  · rw [show s.memoryDone rows = _ from if_pos hstage]
    exact ⟨rfl, State.setPhase_stage ..⟩

end Sys2Proof.Machine
end

section
/-! PROOFS. The guard, the reference voltage, the hold limit and the temperature sensors (O30). -/

namespace Sys2Proof.Machine

variable {s t u : State}

/-- A mask of all bits of `N` but one clears that bit. -/
theorem testBit_clear (c : Nat) {N n k : Nat} (hn : n < N) (hk : k < N) :
    (c &&& (2 ^ N - 1 - 2 ^ n)).testBit k = (c.testBit k && decide (k ≠ n)) := by
  rw [Nat.testBit_and, Nat.sub_sub, Nat.add_comm 1, Nat.testBit_two_pow_sub_succ (Nat.pow_lt_pow_right (by decide) hn) k,
    Nat.testBit_two_pow]
  simp [hk, eq_comm]

/-! ### The guard and the reference voltage -/

theorem State.guardClear_of (h : s.on CAL.guard = true) (hr : s.on CAL.refvBad = false) :
    s.guardClear = ((s.put CAL.guard 0).causeOff 169).suspendEnd s.calSuspended := if_pos (by rw [h, hr]; rfl)

theorem State.guardClear_idle (h : s.on CAL.guard = false ∨ s.on CAL.refvBad = true) : s.guardClear = s :=
  if_neg (by rcases h with h | h <;> simp [h])

theorem State.refvResume_of (h : s.on CAL.refvBad = true) :
    s.refvResume = ((s.put CAL.refvBad 0).causeOff 170).suspendEnd s.calSuspended := if_pos h

theorem State.refvResume_idle (h : s.on CAL.refvBad = false) : s.refvResume = s := if_neg (by rw [h]; decide)

theorem State.refvCheck_idle {w : Bool} (h : w = true ∨ s.on CAL.refvBad = true) : s.refvCheck w = s :=
  if_pos (by rcases h with h | h <;> simp [h])

theorem State.refvCheck_of (h : s.on CAL.refvBad = false) :
    s.refvCheck false = (((s.put CAL.refvBad 1).raise CAL.event 3).causeOn 170).suspendBegin s.calSuspended :=
  if_neg (by rw [h]; decide)

theorem State.bistRef_good (hv : s.on CAL.refvBad = false) (hc : s.on CAL.refclkLost = false) : s.bistRef = s :=
  if_neg (by rw [hv, hc]; decide)

theorem State.bistRef_idle (ht : s.sliceAt 1 .testing = none) (hm : s.sliceAt 1 .moving = none)
    (hr : s.sliceAt 1 .returning = none) : s.bistRef = s := by
  unfold State.bistRef
  rw [ht, hm, hr]
  exact ite_self s

theorem State.on_causeOff (s : State) (n : Nat) {f : Fld} (h : f.addr ≠ (FLT.live n).addr) : (s.causeOff n).on f = s.on f := by
  unfold State.on State.get
  rw [State.reg_causeOff_ne s n h]

/-! ### The hold limit -/

/-- What the first hold of a lane-end notes, before its requests time out. -/
def State.holdNoted (s : State) (i : Nat) : State :=
  (((s.updRx i (fun r => { r with holdDone := true })).rxLog i 6 ((s.crescent i).getD 0) (s.swapSlot i) 0
    (trimBytes (s.trimsOf i ((s.crescent i).getD 0)) (s.get (CAL.rej i ((s.crescent i).getD 0))))).raise CAL.event 2).causeOn 168

theorem State.holdLimit_off (h : s.on CAL.holdLimit = false) (i : Nat) : s.holdLimit i = s := if_neg (by rw [h]; decide)

theorem State.holdSwap_of {i : Nat} (ha : (s.rxe i).accepted = true) (hd : (s.rxe i).holdDone = false) :
    s.holdSwap i = (s.holdNoted i).calTimedOut false i := by
  unfold State.holdSwap
  extract_lets r n
  rw [if_pos ha, if_neg (by rw [hd]; decide)]
  rfl

theorem State.holdLimit_of {i : Nat} (hl : s.on CAL.holdLimit = true) (ha : (s.rxe i).accepted = true)
    (hd : (s.rxe i).holdDone = false) : SameButAnswers (s.holdNoted i) (s.holdLimit i) := by
  unfold State.holdLimit
  rw [if_pos hl]
  extract_lets v w
  have hv : SameButAnswers (s.holdNoted i) v := by
    unfold v
    rw [State.holdSwap_of ha hd]
    exact State.calTimedOut_answers ..
  have hw : SameButAnswers (s.holdNoted i) w := by
    unfold w
    split
    · exact hv.trans (State.calTimedOut_answers ..)
    · exact hv
  split
  · exact hw.trans (State.calTimedOut_answers ..)
  · exact hw

theorem State.rxLog_holdDone (s : State) (i kind slice slot flags bytes : Nat) :
    ((s.rxLog i kind slice slot flags bytes).rxe i).holdDone = (s.rxe i).holdDone := by
  unfold State.rxLog
  extract_lets n a f
  rw [State.updRx_rxe_same]
  show (State.rxe _ i).holdDone = _
  rw [State.setReg_rxe, State.setReg_rxe, State.setReg_rxe, State.setReg_rxe]

theorem State.holdNoted_done (s : State) (i : Nat) : ((s.holdNoted i).rxe i).holdDone = true := by
  unfold State.holdNoted
  rw [State.causeOn_rxe, State.raise_rxe, State.rxLog_holdDone, State.updRx_rxe_same]

theorem State.holdNoted_event (s : State) (i : Nat) : ((s.holdNoted i).reg CAL.event).getLsbD 2 = true := by
  unfold State.holdNoted
  rw [State.causeOn_reg]
  exact State.raise_bit _ _ (by decide) (by decide)

theorem State.holdNoted_cause (s : State) (i : Nat) : (s.holdNoted i).causes.testBit 168 = true := by
  unfold State.holdNoted
  rw [State.causeOn_causes]
  exact testBit_or_self ..

/-! ### The temperature -/

/-- A cause that is present or not. -/
def State.causeSet (s : State) (b : Bool) (n : Nat) : State := if b then s.causeOn n else s.causeOff n

theorem State.causeSet_framed (s : State) (b : Bool) (n : Nat) :
    Framed (fun x => { x with causes := 0, grace := 0, flt := Flt.reset }) [(FLT.live n).addr] s (s.causeSet b n) := by
  cases b with
  | true => exact ⟨rfl, fun _ _ _ => rfl⟩
  | false => exact .causeOff (.refl ..) n List.mem_cons_self fun _ _ _ _ => rfl

theorem State.causeSet_causes (s : State) (b : Bool) {n k : Nat} (hn : n < 184) (hk : k < 184) :
    (s.causeSet b n).causes.testBit k = if k = n then b else s.causes.testBit k := by
  cases b with
  | true =>
    show (s.causes ||| 2 ^ n).testBit k = _
    rw [Nat.testBit_or, Nat.testBit_two_pow]
    by_cases h : k = n
    · rw [if_pos h, h, decide_eq_true rfl, Bool.or_true]
    · rw [if_neg h, decide_eq_false (Ne.symm h), Bool.or_false]
  | false =>
    show (s.causeOff n).causes.testBit k = _
    have hoff : (s.causeOff n).causes = s.causes &&& (2 ^ 184 - 1 - 2 ^ n) := by
      unfold State.causeOff
      split <;> rfl
    rw [hoff, testBit_clear _ hn hk]
    by_cases h : k = n <;> simp [h]

theorem State.causeSet_reg (s : State) (b : Bool) (n : Nat) {a : Nat} (h : a ≠ (FLT.live n).addr) :
    (s.causeSet b n).reg a = s.reg a := by
  cases b with
  | true => rfl
  | false => exact s.reg_causeOff_ne n h

/-- What a reading does to the two causes, before the dwell of its sensor follows. -/
def State.tempRead (s : State) (n : Nat) (v : BitVec 16) : State :=
  let u := (s.put (CAL.temp n) v.toNat).causeSet ((s.put (CAL.temp n) v.toNat).anyAt 800) 175
  u.causeSet (u.anyAt 920) 176

theorem State.causeSet_dwell (s : State) (b : Bool) (n : Nat) : (s.causeSet b n).dwell = s.dwell := by
  cases b with
  | true => rfl
  | false =>
    show (s.causeOff n).dwell = s.dwell
    unfold State.causeOff
    split <;> rfl

/-- The dwell timers that run, changed. -/
def State.withDwell (s : State) (d : Nat) : State := { s with dwell := d }

theorem State.withDwell_get (s : State) (d : Nat) (f : Fld) : (s.withDwell d).get f = s.get f := rfl
theorem State.withDwell_causes (s : State) (d : Nat) : (s.withDwell d).causes = s.causes := rfl
theorem State.withDwell_dwell (s : State) (d : Nat) : (s.withDwell d).dwell = d := rfl

theorem State.tempReading_of (s : State) (n : Nat) (v : BitVec 16) :
    ∃ d : Nat, s.tempReading n v = (s.tempRead n v).withDwell d ∧ (n = 8 → d = s.dwell) := by
  have hdwell : (s.tempRead n v).dwell = s.dwell := by
    unfold State.tempRead
    rw [State.causeSet_dwell, State.causeSet_dwell]
    rfl
  unfold State.tempReading
  extract_lets u x w th
  have hw : w = s.tempRead n v := by
    unfold State.tempRead State.causeSet
    with_reducible rfl
  rw [← hw] at hdwell ⊢
  clear_value w
  split
  case isFalse hn => exact ⟨w.dwell, rfl, fun _ => hdwell⟩
  case isTrue hn =>
    split
    · split
      · exact ⟨_, rfl, fun h => absurd h (by omega)⟩
      · exact ⟨w.dwell, rfl, fun _ => hdwell⟩
    split
    · exact ⟨_, rfl, fun h => absurd h (by omega)⟩
    · exact ⟨w.dwell, rfl, fun _ => hdwell⟩

theorem State.anyAt_of_reg (h : ∀ k, k < 9 → t.reg (CAL.temp k).addr = s.reg (CAL.temp k).addr) (x : Int) :
    t.anyAt x = s.anyAt x := by
  have hint (k : Nat) (hk : k < 9) : t.getInt (CAL.temp k) = s.getInt (CAL.temp k) := by
    unfold State.getInt State.get
    rw [h k hk]
  unfold State.anyAt
  refine Bool.eq_iff_iff.mpr ?_
  simp only [List.any_eq_true, List.mem_range]
  exact exists_congr fun k => and_congr_right fun hk => by rw [hint k hk]

theorem signedOf_toNat (v : BitVec 16) : signedOf 16 v.toNat = v.toInt := by
  have hv := v.isLt
  unfold signedOf
  rw [BitVec.toInt_eq_toNat_cond]
  split <;> split <;> omega

theorem State.temp_stored (s : State) (n : Nat) (v : BitVec 16) : (s.put (CAL.temp n) v.toNat).get (CAL.temp n) = v.toNat := by
  rw [State.get_put_same _ (CAL.temp n) _ (show 0 + 16 ≤ 32 by decide)]
  exact Nat.mod_eq_of_lt v.isLt

theorem State.anyAt_temp (s : State) {n : Nat} (hn : n < 9) (v : BitVec 16) {x : Int} (h : x ≤ v.toInt) :
    (s.put (CAL.temp n) v.toNat).anyAt x = true := by
  have hint : (s.put (CAL.temp n) v.toNat).getInt (CAL.temp n) = v.toInt := by
    unfold State.getInt
    rw [State.temp_stored]
    exact signedOf_toNat v
  unfold State.anyAt
  rw [List.any_eq_true]
  exact ⟨n, List.mem_range.mpr hn, by rw [hint]; exact decide_eq_true h⟩

theorem State.tempRead_high (s : State) {n : Nat} (hn : n < 9) (v : BitVec 16) :
    (800 ≤ v.toInt → (s.tempRead n v).causes.testBit 175 = true) ∧ (920 ≤ v.toInt → (s.tempRead n v).causes.testBit 176 = true) := by
  unfold State.tempRead
  extract_lets u
  have hany : u.anyAt 920 = (s.put (CAL.temp n) v.toNat).anyAt 920 := State.anyAt_of_reg (fun k hk =>
    State.causeSet_reg _ _ _ (by show 0x60040 + 4 * k ≠ 0x10060 + 4 * 5; omega)) 920
  refine ⟨fun h => ?_, fun h => ?_⟩
  · rw [State.causeSet_causes _ _ (by decide) (by decide), if_neg (by decide)]
    unfold u
    rw [State.causeSet_causes _ _ (by decide) (by decide), if_pos rfl]
    exact s.anyAt_temp hn v h
  · rw [State.causeSet_causes _ _ (by decide) (by decide), if_pos rfl, hany]
    exact s.anyAt_temp hn v h

theorem State.tempRead_framed (s : State) (n : Nat) (v : BitVec 16) :
    Framed (fun x => { x with causes := 0, grace := 0, flt := Flt.reset, dwell := 0 })
      [(CAL.temp n).addr, (FLT.live 175).addr, (FLT.live 176).addr] s (s.tempRead n v) := by
  unfold State.tempRead
  extract_lets u
  have hset (b : Bool) {m : Nat} {x y : State} (k : Framed (fun x => { x with causes := 0, grace := 0, flt := Flt.reset, dwell := 0 })
      [(CAL.temp n).addr, (FLT.live 175).addr, (FLT.live 176).addr] x y)
      (hm : (FLT.live m).addr ∈ [(CAL.temp n).addr, (FLT.live 175).addr, (FLT.live 176).addr]) :
      Framed (fun x => { x with causes := 0, grace := 0, flt := Flt.reset, dwell := 0 })
        [(CAL.temp n).addr, (FLT.live 175).addr, (FLT.live 176).addr] x (y.causeSet b m) := by
    cases b with
    | true => exact k.trans ⟨rfl, fun _ _ _ => rfl⟩
    | false => exact k.causeOff m hm fun _ _ _ _ => rfl
  exact hset _ (hset _ (.put (.refl ..) _ (.inr List.mem_cons_self)) (by simp)) (by simp)

theorem State.tempRead_get (s : State) {n : Nat} (hn : n < 9) (v : BitVec 16) : (s.tempRead n v).get (CAL.temp n) = v.toNat := by
  unfold State.tempRead
  extract_lets u
  have hne {m : Nat} (hm : m = 175 ∨ m = 176) : (CAL.temp n).addr ≠ (FLT.live m).addr := by
    rcases hm with rfl | rfl <;> (show 0x60040 + 4 * n ≠ 0x10060 + 4 * 5; omega)
  have hget : (u.causeSet (u.anyAt 920) 176).get (CAL.temp n) = (s.put (CAL.temp n) v.toNat).get (CAL.temp n) := by
    unfold State.get
    rw [State.causeSet_reg _ _ _ (hne (.inr rfl))]
    unfold u
    rw [State.causeSet_reg _ _ _ (hne (.inl rfl))]
  rw [hget, State.temp_stored]

/-! ### The dwell of a sensor -/

/-- The sensor's lane-ends sweep, one after the other. -/
def State.sweepBoth (s : State) (i : Nat) : State := (s.sweepRxStart i).sweepTxStart i

theorem CalSide.sweepBoth (h : CalSide s t) (i : Nat) : CalSide s (t.sweepBoth i) := (h.sweepRxStart i).pass (.sweepTxStart (.refl i _))

theorem State.rxLog_reg (s : State) (i j kind slice slot flags bytes : Nat) :
    (s.rxLog i kind slice slot flags bytes).reg (LRX.pwr j).addr = s.reg (LRX.pwr j).addr := by
  have ha (k : Nat) (hk : k ≤ 12) : (LRX.pwr j).addr ≠ LRX.base i + 0xE80 + 16 * ((s.rxe i).logSeq % 24) + k := by
    show LRX.base j + 4 ≠ _
    unfold LRX.base
    omega
  unfold State.rxLog
  extract_lets n a f
  rw [State.updRx_reg, State.reg_setReg_ne _ _ (ha 12 (by decide)), State.reg_setReg_ne _ _ (ha 8 (by decide)),
    State.reg_setReg_ne _ _ (ha 4 (by decide)), State.reg_setReg_ne _ _ (show (LRX.pwr j).addr ≠ a from ha 0 (by decide))]

theorem State.sweepBoth_active (s : State) {i : Nat} (hi : i < 68) (j : Nat) : (s.sweepBoth i).rxActive j = s.rxActive j := by
  have hbase : 0x100000 ≤ LRX.base j := by unfold LRX.base; omega
  have hrx : (s.sweepRxStart i).reg (LRX.pwr j).addr = s.reg (LRX.pwr j).addr := by
    unfold State.sweepRxStart
    split
    · rw [State.rxLog_reg, State.reg_put_ne _ _ _ (show LRX.base j + 4 ≠ 0x60080 + 4 * (i / 32) by omega), State.updRx_reg]
    · rfl
  have htx : (s.sweepBoth i).reg (LRX.pwr j).addr = (s.sweepRxStart i).reg (LRX.pwr j).addr :=
    (PassSide.sweepTxStart (.refl i _)).1 _ (show LRX.base j + 4 ≠ 0x60090 + 4 * (i / 32) by omega)
  unfold State.rxActive State.get
  rw [htx, hrx]

theorem State.sweepBoth_rxe (s : State) (i j : Nat) : (s.sweepBoth i).rxe j = (s.sweepRxStart i).rxe j := by
  unfold State.rxe State.sweepBoth
  rw [(PassSide.sweepTxStart (.refl i (s.sweepRxStart i))).rx]

theorem State.rxLog_sweep (s : State) (i kind slice slot flags bytes : Nat) :
    ((s.rxLog i kind slice slot flags bytes).rxe i).sweep = (s.rxe i).sweep := by
  unfold State.rxLog
  extract_lets n a f
  rw [State.updRx_rxe_same]
  show (State.rxe _ i).sweep = _
  rw [State.setReg_rxe, State.setReg_rxe, State.setReg_rxe, State.setReg_rxe]

theorem State.sweepBoth_sweep (s : State) {i : Nat} (h : s.rxActive i = true) : ((s.sweepBoth i).rxe i).sweep = 64 := by
  rw [State.sweepBoth_rxe]
  unfold State.sweepRxStart
  rw [if_pos h]
  extract_lets n
  rw [State.rxLog_sweep, State.put_rxe, State.updRx_rxe_same]

theorem State.rxLog_rxe_ne (s : State) {i j : Nat} (h : j ≠ i) (kind slice slot flags bytes : Nat) :
    (s.rxLog i kind slice slot flags bytes).rxe j = s.rxe j := by
  unfold State.rxLog
  extract_lets n a f
  rw [State.updRx_rxe_ne _ _ h, State.setReg_rxe, State.setReg_rxe, State.setReg_rxe, State.setReg_rxe]

theorem State.sweepBoth_other (s : State) {i j : Nat} (h : j ≠ i) : (s.sweepBoth i).rxe j = s.rxe j := by
  rw [State.sweepBoth_rxe]
  unfold State.sweepRxStart
  split
  · extract_lets n
    rw [State.rxLog_rxe_ne _ h, State.put_rxe, State.updRx_rxe_ne _ _ h]
  · rfl

theorem State.sweepAll_sweep (s : State) (l : List Nat) (hl : ∀ i ∈ l, i < 68) {i : Nat} (ha : s.rxActive i = true)
    (h : i ∈ l ∨ i < 68 ∧ (s.rxe i).sweep = 64) : ((s.each l (fun i u => u.sweepBoth i)).rxe i).sweep = 64 := by
  induction l generalizing s with
  | nil => exact (h.resolve_left List.not_mem_nil).2
  | cons j l ih =>
    have hi : i < 68 := h.elim (hl i) (·.1)
    have hj : j < 68 := hl j List.mem_cons_self
    refine ih (s.sweepBoth j) (fun k hk => hl k (List.mem_cons_of_mem _ hk)) ((s.sweepBoth_active hj i).trans ha) ?_
    by_cases hij : i = j
    · subst hij
      exact .inr ⟨hi, s.sweepBoth_sweep ha⟩
    · exact (h.imp_left fun hm => (List.mem_cons.mp hm).resolve_left hij).imp_right
        fun hs => ⟨hi, by rw [s.sweepBoth_other hij]; exact hs.2⟩

/-- What the end of a dwell takes, before the lane-ends of its sensor sweep. -/
def State.dwellOver (s : State) (n : Nat) : State :=
  (s.withDwell (s.dwell &&& (2 ^ 8 - 1 - 2 ^ n))).put (CAL.tref n) (s.get (CAL.temp n))

theorem State.tempTrigger_of {n : Nat} (h : s.dwell.testBit n = true) :
    s.tempTrigger n = (((s.dwellOver n).each (sensorLanes n) (fun i u => u.sweepBoth i)).calLog 14 0 0xFFFF 0 n).raise CAL.event 0 := by
  unfold State.tempTrigger State.dwellOver State.withDwell State.sweepBoth
  exact if_pos h

theorem State.calLog_rxe (s : State) (kind lane cell bytes sensor i : Nat) :
    (s.calLog kind lane cell bytes sensor).rxe i = s.rxe i := rfl

theorem mem_sensorLanes {n i : Nat} (h : i ∈ sensorLanes n) : i < 68 := List.mem_range.mp (List.mem_of_mem_filter h)

theorem State.tempTrigger_tref {n : Nat} (hn : n < 8) (h : s.dwell.testBit n = true) :
    (s.tempTrigger n).get (CAL.tref n) = s.get (CAL.temp n) := by
  have hall : CalSide (s.dwellOver n) (((s.dwellOver n).each (sensorLanes n) (fun i u => u.sweepBoth i)).calLog 14 0 0xFFFF 0 n) :=
    (CalSide.each (.refl _) _ fun i u => .sweepBoth (.refl u) i).calLog ..
  have hlt : s.get (CAL.temp n) < 2 ^ (CAL.tref n).len := s.get_lt (CAL.temp n)
  have haddr : (CAL.tref n).addr < 0x60080 := by show 0x60040 + 4 * n < 0x60080; omega
  have hreg : (s.tempTrigger n).reg (CAL.tref n).addr = (s.dwellOver n).reg (CAL.tref n).addr := by
    rw [State.tempTrigger_of h, State.reg_raise_ne _ CAL.event 0 (c := (CAL.tref n).addr) (show (0x60040 + 4 * n) / 0x10000 ≠ 3 by omega) (show 0x60040 + 4 * n ≠ 0x60014 by omega)]
    exact hall.reg haddr
  have hget : (s.tempTrigger n).get (CAL.tref n) = (s.dwellOver n).get (CAL.tref n) := by
    unfold State.get
    rw [hreg]
  rw [hget]
  unfold State.dwellOver
  rw [State.get_put_same _ (CAL.tref n) _ (show 16 + 16 ≤ 32 by decide), Nat.mod_eq_of_lt hlt]

theorem State.raise_dwell (s : State) (a b : Nat) : (s.raise a b).dwell = s.dwell := by
  rw [s.raise_same a b]

theorem CalSide.dwell (h : CalSide s t) : t.dwell = s.dwell := by
  rw [h.2]

theorem State.tempTrigger_dwell {n : Nat} (hn : n < 8) (h : s.dwell.testBit n = true) :
    (s.tempTrigger n).dwell.testBit n = false := by
  have hall : CalSide (s.dwellOver n) (((s.dwellOver n).each (sensorLanes n) (fun i u => u.sweepBoth i)).calLog 14 0 0xFFFF 0 n) :=
    (CalSide.each (.refl _) _ fun i u => .sweepBoth (.refl u) i).calLog ..
  have hd : (s.tempTrigger n).dwell = (s.dwellOver n).dwell := by
    rw [State.tempTrigger_of h, State.raise_dwell]
    exact hall.dwell
  rw [hd]
  show (s.dwell &&& (2 ^ 8 - 1 - 2 ^ n)).testBit n = false
  rw [testBit_clear _ hn hn]
  simp

theorem State.tempTrigger_sweep {n i : Nat} (hn : n < 8) (h : s.dwell.testBit n = true) (hi : i ∈ sensorLanes n) (ha : s.rxActive i = true) :
    ((s.tempTrigger n).rxe i).sweep = 64 := by
  rw [State.tempTrigger_of h, State.raise_rxe, State.calLog_rxe]
  refine State.sweepAll_sweep _ _ (fun _ => mem_sensorLanes) ?_ (.inl hi)
  have hpwr : (s.dwellOver n).reg (LRX.pwr i).addr = s.reg (LRX.pwr i).addr := by
    have hb : 0x100000 ≤ LRX.base i := by unfold LRX.base; omega
    exact State.reg_put_ne _ _ _ (show LRX.base i + 4 ≠ 0x60040 + 4 * n by omega)
  unfold State.rxActive State.get at *
  rw [hpwr]
  exact ha

theorem Framed.withDwell {l : List Nat} (h : Framed (fun x => { x with causes := 0, grace := 0, flt := Flt.reset, dwell := 0 }) l s t)
    (d : Nat) : Framed (fun x => { x with causes := 0, grace := 0, flt := Flt.reset, dwell := 0 }) l s (t.withDwell d) :=
  h.trans ⟨rfl, fun _ _ _ => rfl⟩

theorem State.tempReading_framed (s : State) (n d : Nat) (v : BitVec 16) :
    Framed (fun x => { x with causes := 0, grace := 0, flt := Flt.reset, dwell := 0 })
      [(CAL.temp n).addr, (FLT.live 175).addr, (FLT.live 176).addr] s ((s.tempRead n v).withDwell d) :=
  (s.tempRead_framed n v).withDwell d

theorem State.cleared_on (s : State) {f : Fld} (hl : f.lo + f.len ≤ 32) {n : Nat} (h : f.addr ≠ (FLT.live n).addr) :
    ((s.put f 0).causeOff n).on f = false := by
  rw [State.on_causeOff _ _ h]
  exact State.on_put_zero _ _ hl

/-- What a guard or a reference that is good again clears. -/
theorem Framed.cleared (s : State) {f : Fld} (hf : f.addr = 0x60010) (n : Nat) :
    Framed (fun x => { x with causes := 0, grace := 0, flt := Flt.reset }) [0x60010, (FLT.live n).addr] s ((s.put f 0).causeOff n) :=
  have hput : Framed (fun x => { x with causes := 0, grace := 0, flt := Flt.reset }) [0x60010, (FLT.live n).addr] s (s.put f 0) :=
    .put (.refl ..) _ (.inr (by rw [hf]; exact List.mem_cons_self))
  hput.causeOff n (List.mem_cons_of_mem _ List.mem_cons_self) fun _ _ _ _ => rfl

theorem State.refvBad_raised (s : State) : ((s.put CAL.refvBad 1).raise CAL.event 3).on CAL.refvBad = true := by
  unfold State.on
  rw [State.get_raise _ _ _ (by decide) (by decide)]
  exact State.on_put_one _ _ (by decide) (by decide)

theorem Framed.refvBad (s : State) :
    Framed (fun x => { x with causes := 0 }) [0x60010, CAL.event] s (((s.put CAL.refvBad 1).raise CAL.event 3).causeOn 170) :=
  have hput : Framed (fun x => { x with causes := 0 }) [0x60010, CAL.event] s (s.put CAL.refvBad 1) :=
    .put (.refl ..) _ (.inr List.mem_cons_self)
  (hput.raise 3 (List.mem_cons_of_mem _ List.mem_cons_self)).trans ⟨rfl, fun _ _ _ => rfl⟩

/-- Settles O30: the guard and REFV end a suspension before what follows, HOLD_LIMIT notes its episode before the requests time
out, and of a sweep each lane-end starts its own. -/
theorem calibrationSuspensionAndTemperature : Obligations.CalibrationSuspensionAndTemperature := by
  refine ⟨fun s hw hg hr => ⟨(s.put CAL.guard 0).causeOff 169, congrArg Host.Outcome.next ((State.soft_on hw _).trans
      (congrArg State.goOn (State.guardClear_of hg hr))), ?_, ?_, ?_, ?_⟩,
    fun s hw h => congrArg Host.Outcome.next ((State.soft_on hw _).trans (congrArg State.goOn (State.guardClear_idle h))),
    fun s hw => congrArg Host.Outcome.next (State.soft_off hw _),
    fun s h => congrArg (fun t : State => Host.Outcome.next t.bistRef) (State.refvCheck_idle (.inr h)),
    fun s h => congrArg (fun t : State => Host.Outcome.next t.goOn) (State.refvResume_idle h),
    fun s h => ⟨((s.put CAL.refvBad 1).raise CAL.event 3).causeOn 170,
      congrArg (fun t : State => Host.Outcome.next t.bistRef) (State.refvCheck_of h), ?_, ?_, ?_, ?_⟩,
    fun s => congrArg (fun t : State => Host.Outcome.next t.bistRef) (State.refvCheck_idle (.inl rfl)),
    fun s => State.bistRef_idle, fun s => State.bistRef_good,
    fun s h => ⟨(s.put CAL.refvBad 0).causeOff 170, congrArg (fun t : State => Host.Outcome.next t.goOn) (State.refvResume_of h), ?_, ?_, ?_⟩,
    fun s sd p i hi hl ha hd => ⟨_, rfl, ?_⟩,
    fun s sd p h => congrArg Host.Outcome.next (State.holdLimit_off h _),
    fun s n v => ?_,
    fun s n h => ⟨_, rfl, State.tempTrigger_tref n.isLt h, State.tempTrigger_dwell n.isLt h, ?_, fun i hi ha => State.tempTrigger_sweep n.isLt h hi ha⟩,
    fun s n h => congrArg Host.Outcome.next (if_neg (by rw [h]; decide))⟩
  · exact s.cleared_on (f := CAL.guard) (by decide) (by decide)
  · intro hf
    exact State.causeOff_live hf
  · exact State.causeOff_causes _ (by decide)
  · exact Framed.cleared s (f := CAL.guard) rfl 169
  · rw [State.causeOn_on]
    exact s.refvBad_raised
  · exact State.raise_bit (s.put CAL.refvBad 1) CAL.event (by decide) (by decide)
  · exact testBit_or_self ..
  · exact Framed.refvBad s
  · exact s.cleared_on (f := CAL.refvBad) (by decide) (by decide)
  · exact State.causeOff_causes _ (by decide)
  · exact Framed.cleared s (f := CAL.refvBad) rfl 170
  · subst hi
    have hans := State.holdLimit_of hl ha hd
    refine ⟨?_, ?_, ?_⟩
    · rw [hans.apply (fun x => (x.rxe (laneIdx sd p)).holdDone) fun _ _ _ _ => rfl]
      exact State.holdNoted_done ..
    · rw [hans.apply (fun x => (x.reg CAL.event).getLsbD 2) fun _ _ _ _ => rfl]
      exact State.holdNoted_event ..
    · rw [hans.apply (fun x => x.causes.testBit 168) fun _ _ _ _ => rfl]
      exact State.holdNoted_cause ..
  · obtain ⟨d, hd, h8⟩ := s.tempReading_of n v
    obtain ⟨hhigh, hcrit⟩ := s.tempRead_high n.isLt v
    rw [← State.withDwell_causes (s.tempRead n v) d] at hhigh hcrit
    refine ⟨_, congrArg Host.Outcome.next hd, (State.withDwell_get ..).trans (s.tempRead_get n.isLt v), hhigh, hcrit,
      fun h => (State.withDwell_dwell ..).trans (h8 h), s.tempReading_framed n d v⟩
  · rw [State.tempTrigger_of h]
    exact State.raise_bit _ _ (by decide) (by decide)

end Sys2Proof.Machine
end

section
/-! PROOFS. Ring pairs, event groups and messages (O31; 10_host_interface.md, 11_descriptor_rings.md). -/

namespace Sys2Proof.Machine

variable {s t u : State}

/-! ### The shadow write -/

theorem State.writeShadow_reg (s : State) (q a : Nat) : (s.writeShadow q).reg a = s.reg a := by
  unfold State.writeShadow
  split
  · rfl
  split <;> rfl

theorem State.writeShadow_get (s : State) (q : Nat) (f : Fld) : (s.writeShadow q).get f = s.get f := by
  unfold State.get
  rw [State.writeShadow_reg]

theorem State.writeShadow_on (s : State) (q : Nat) (f : Fld) : (s.writeShadow q).on f = s.on f := by
  unfold State.on
  rw [State.writeShadow_get]

theorem State.writeShadow_flights (s : State) (q : Nat) : ((s.writeShadow q).ring q).flights = (s.ring q).flights := by
  unfold State.writeShadow
  split
  · rfl
  split
  · rfl
  · rw [State.updRing_ring_same]

/-- The two states agree but for the registers, the rings and what has left. -/
def SameButRings (s t : State) : Prop := t = { s with regs := t.regs, rings := t.rings, out := t.out }

theorem SameButRings.refl (s : State) : SameButRings s s := rfl

theorem SameButRings.trans (h : SameButRings s t) (k : SameButRings t u) : SameButRings s u := by
  unfold SameButRings at *
  rw [k, h]

theorem SameButRings.put (h : SameButRings s t) (f : Fld) (v : Nat) : SameButRings s (t.put f v) := h.trans rfl
theorem SameButRings.setReg (h : SameButRings s t) (a : Nat) (w : Word) : SameButRings s (t.setReg a w) := h.trans rfl
theorem SameButRings.emit (h : SameButRings s t) (o : Out) : SameButRings s (t.emit o) := h.trans rfl
theorem SameButRings.updRing (h : SameButRings s t) (q : Nat) (f : Ring → Ring) : SameButRings s (t.updRing q f) := h.trans rfl

theorem SameButRings.writeShadow (h : SameButRings s t) (q : Nat) : SameButRings s (t.writeShadow q) := by
  unfold State.writeShadow
  split
  · exact h.emit _
  split
  · exact h
  · exact h.updRing ..

/-! ### A pair that is enabled -/

/-- The registers of a pair that is enabled. -/
def State.ringBegun (s : State) (q : Nat) : State :=
  let t := ((((s.put (RNG.en q) 1).put (RNG.state q) 1).put (RNG.cfgErr q) 0).put (RNG.haltCause q) 0).put
    (RNG.cons q) (s.get (RNG.sqStart q))
  (((t.put (RNG.cqTail q) (t.get (RNG.cqStart q))).put (RNG.cdone q) (t.get (RNG.sqStart q))).setReg
    (RNG.donemap q) 0).setReg (RNG.cqdrop q) 0

theorem State.ringBegun_reg (s : State) (q : Nat) {a : Nat}
    (h : a ∉ [RNG.q q + 0x14, RNG.q q + 0x1C, RNG.q q + 0x20, RNG.q q + 0x24, RNG.q q + 0x28]) : (s.ringBegun q).reg a = s.reg a := by
  simp only [List.mem_cons, List.not_mem_nil, or_false, not_or] at h
  obtain ⟨hctrl, hstat, hcq, hmap, hdrop⟩ := h
  unfold State.ringBegun
  extract_lets t
  rw [State.reg_setReg_ne _ _ (a := RNG.cqdrop q) hdrop, State.reg_setReg_ne _ _ (a := RNG.donemap q) hmap, State.reg_put_ne _ _ _ hcq, State.reg_put_ne _ _ _ hcq,
    State.reg_put_ne _ _ _ hstat, State.reg_put_ne _ _ _ hstat, State.reg_put_ne _ _ _ hstat, State.reg_put_ne _ _ _ hstat,
    State.reg_put_ne _ _ _ hctrl]

/-- The fields of a pair that has begun. -/
theorem State.ringBegun_fields (s : State) (q : Nat) : (s.ringBegun q).get (RNG.state q) = 1 ∧ (s.ringBegun q).get (RNG.en q) = 1 ∧
    (s.ringBegun q).get (RNG.cfgErr q) = 0 ∧ (s.ringBegun q).get (RNG.cons q) = s.get (RNG.sqStart q) ∧
    (s.ringBegun q).get (RNG.cdone q) = s.get (RNG.sqStart q) ∧ (s.ringBegun q).get (RNG.cqTail q) = s.get (RNG.cqStart q) := by
  have hsq : s.get (RNG.sqStart q) < 2 ^ 16 := s.get_lt (RNG.sqStart q)
  have hcq : s.get (RNG.cqStart q) < 2 ^ 16 := s.get_lt (RNG.cqStart q)
  unfold State.ringBegun
  extract_lets t
  refine ⟨?_, ?_, ?_, ?_, ?_, ?_⟩ <;> unfold t <;>
    simp -implicitDefEqProofs (disch := (simp only [RNG.state, RNG.en, RNG.cfgErr, RNG.sqStart, RNG.cqStart, RNG.cons, RNG.cdone, RNG.cqTail, RNG.haltCause,
      RNG.donemap, RNG.cqdrop] <;> omega)) only [State.get_setReg_ne, State.get_put_same, State.get_put_apart, Nat.zero_mod]
  · exact Nat.mod_eq_of_lt (show 1 < 2 ^ 3 by decide)
  · exact Nat.mod_eq_of_lt (show 1 < 2 ^ 1 by decide)
  · exact Nat.mod_eq_of_lt hsq
  · exact Nat.mod_eq_of_lt hsq
  · exact Nat.mod_eq_of_lt hcq

/-- The record of a pair that has begun. -/
def State.ringBegin (s : State) (q : Nat) : State :=
  (s.ringBegun q).updRing q (fun r =>
    { Ring.idle with
      cqHead := (s.ringBegun q).get (RNG.cqStart q)
      ovf := r.ovf
      msgRecent := r.msgRecent
      msgPend := r.msgPend })

theorem State.ringEnable_of {q : Nat} (h0 : s.get (RNG.state q) = 0) (hok : s.enableRingOk q = true) :
    s.ringEnable q = (s.ringBegin q).writeShadow q := by
  unfold State.ringEnable
  rw [if_neg (by rw [h0]; decide), if_pos hok]
  unfold State.ringBegin State.ringBegun
  rfl

theorem State.ringEnable_refused {q : Nat} (h0 : s.get (RNG.state q) = 0) (hok : s.enableRingOk q = false) :
    s.ringEnable q = (s.put (RNG.en q) 0).put (RNG.cfgErr q) 1 := by
  unfold State.ringEnable
  rw [if_neg (by rw [h0]; decide), if_neg (by rw [hok]; decide)]

theorem State.ringEnable_busy {q : Nat} (h0 : s.get (RNG.state q) ≠ 0) : s.ringEnable q = s.put (RNG.en q) 1 := if_pos h0

theorem SameButRings.ringBegun (s : State) (q : Nat) : SameButRings s (s.ringBegun q) := by
  unfold State.ringBegun
  extract_lets t
  have ht : SameButRings s t := .put (.put (.put (.put (.put (.refl s) ..) ..) ..) ..) ..
  exact (((ht.put ..).put ..).setReg ..).setReg ..

theorem SameButRings.ringEnable {q : Nat} (h0 : s.get (RNG.state q) = 0) (hok : s.enableRingOk q = true) :
    SameButRings s (s.ringEnable q) := by
  rw [State.ringEnable_of h0 hok]
  exact ((SameButRings.ringBegun s q).updRing ..).writeShadow q

/-! ### A pair that is disabled -/

theorem State.ringDisable_running {q : Nat} (h : s.get (RNG.state q) = 1) :
    s.ringDisable q = ((s.put (RNG.en q) 0).put (RNG.state q) 2).ringSettle q := by
  have hput : (s.put (RNG.en q) 0).get (RNG.state q) = 1 :=
    (s.get_put_apart _ (show 0 + 3 ≤ 32 by decide) (.inl (show RNG.q q + 0x1C ≠ RNG.q q + 0x14 by omega))).trans h
  unfold State.ringDisable
  extract_lets t
  split
  · exact if_pos hput
  · exact absurd h (by omega)
  · exact absurd h ‹_›

theorem State.ringDisable_halted {q : Nat} (h : s.get (RNG.state q) = 4) :
    s.ringDisable q = (s.put (RNG.en q) 0).put (RNG.state q) 0 := by
  unfold State.ringDisable
  extract_lets t
  split
  · exact absurd h (by omega)
  · rfl
  · exact absurd h ‹_›

theorem State.ringDisable_other {q : Nat} (h1 : s.get (RNG.state q) ≠ 1) (h4 : s.get (RNG.state q) ≠ 4) :
    s.ringDisable q = s.put (RNG.en q) 0 := by
  unfold State.ringDisable
  extract_lets t
  split
  · exact absurd ‹_› h1
  · exact absurd ‹_› h4
  · rfl

theorem State.ringSettle_draining {q : Nat} (h : s.get (RNG.state q) = 2) (hf : (s.ring q).flights = []) (hu : s.hostUp = true) :
    s.ringSettle q = ((s.put (RNG.state q) 0).put (RNG.en q) 0).writeShadow q := by
  unfold State.ringSettle
  rw [if_pos (by rw [hf, hu]; rfl), if_neg (by rw [h]; decide), if_pos h]

theorem State.ringSettle_waits {q : Nat} (h : ¬((s.ring q).flights = [] ∧ s.hostUp = true)) : s.ringSettle q = s := by
  refine if_neg fun hc => h ?_
  rwa [Bool.and_eq_true, List.isEmpty_iff] at hc

/-- A pair that drains, before it settles. -/
def State.ringDrains (s : State) (q : Nat) : State := (s.put (RNG.en q) 0).put (RNG.state q) 2

theorem State.ringDrains_state (s : State) (q : Nat) : (s.ringDrains q).get (RNG.state q) = 2 := by
  unfold State.ringDrains
  rw [State.get_put_same _ (RNG.state q) _ (show 0 + 3 ≤ 32 by decide)]
  rfl

theorem State.en_put_state (s : State) (q v : Nat) : (s.put (RNG.state q) v).on (RNG.en q) = s.on (RNG.en q) :=
  s.on_put_apart v (show 0 + 1 ≤ 32 by decide) (.inl (show RNG.q q + 0x14 ≠ RNG.q q + 0x1C by omega))

theorem State.state_put_en (s : State) (q v : Nat) : (s.put (RNG.en q) v).get (RNG.state q) = s.get (RNG.state q) :=
  s.get_put_apart v (show 0 + 3 ≤ 32 by decide) (.inl (show RNG.q q + 0x1C ≠ RNG.q q + 0x14 by omega))

theorem State.put_hostUp (s : State) (f : Fld) (v : Nat) (h : f.addr ≠ RNG.dlUp.addr ∧ f.addr ≠ RNG.d3hot.addr) :
    (s.put f v).hostUp = s.hostUp := by
  unfold State.hostUp State.on State.get
  rw [State.reg_put_ne _ _ _ h.1.symm, State.reg_put_ne _ _ _ h.2.symm]
  rfl

theorem State.ringDrains_hostUp (s : State) (q : Nat) : (s.ringDrains q).hostUp = s.hostUp := by
  unfold State.ringDrains
  rw [State.put_hostUp _ (RNG.state q) _ ⟨show RNG.q q + 0x1C ≠ 0x30844 by unfold RNG.q; omega,
      show RNG.q q + 0x1C ≠ 0x30844 by unfold RNG.q; omega⟩,
    State.put_hostUp _ (RNG.en q) _ ⟨show RNG.q q + 0x14 ≠ 0x30844 by unfold RNG.q; omega,
      show RNG.q q + 0x14 ≠ 0x30844 by unfold RNG.q; omega⟩]

theorem State.reg_put_pair (s : State) (q v w : Nat) {a : Nat} (h : a ∉ [RNG.q q + 0x14, RNG.q q + 0x1C]) :
    ((s.put (RNG.en q) v).put (RNG.state q) w).reg a = s.reg a := by
  simp only [List.mem_cons, List.not_mem_nil, or_false, not_or] at h
  rw [State.reg_put_ne _ (RNG.state q) _ h.2, State.reg_put_ne _ (RNG.en q) _ h.1]

/-- A pair that is off. -/
def State.pairOff (s : State) (q : Nat) : State := (s.put (RNG.state q) 0).put (RNG.en q) 0

theorem State.pairOff_off (s : State) (q : Nat) : (s.pairOff q).get (RNG.state q) = 0 ∧ (s.pairOff q).on (RNG.en q) = false := by
  unfold State.pairOff
  refine ⟨?_, State.on_put_zero _ _ (show 0 + 1 ≤ 32 by decide)⟩
  rw [State.state_put_en, State.get_put_same _ (RNG.state q) _ (show 0 + 3 ≤ 32 by decide), Nat.zero_mod]

theorem State.pairOff_reg (s : State) (q : Nat) {a : Nat} (h : a ∉ [RNG.q q + 0x14, RNG.q q + 0x1C]) :
    (s.pairOff q).reg a = s.reg a := by
  simp only [List.mem_cons, List.not_mem_nil, or_false, not_or] at h
  obtain ⟨hctrl, hstat⟩ := h
  unfold State.pairOff
  rw [State.reg_put_ne _ (RNG.en q) _ hctrl, State.reg_put_ne _ (RNG.state q) _ hstat]

/-- What a message, an event summary or the shadow write of a link that is up leaves as it is. -/
def SameButMessages (s t : State) : Prop := t = { s with regs := t.regs, out := t.out }

theorem SameButMessages.refl (s : State) : SameButMessages s s := rfl

theorem SameButMessages.trans (h : SameButMessages s t) (k : SameButMessages t u) : SameButMessages s u := by
  unfold SameButMessages at *
  rw [k, h]

theorem SameButMessages.put (h : SameButMessages s t) (f : Fld) (v : Nat) : SameButMessages s (t.put f v) := h.trans rfl

theorem SameButMessages.writeShadow (h : SameButMessages s t) (hu : t.hostUp = true) (q : Nat) : SameButMessages s (t.writeShadow q) := by
  refine h.trans ?_
  unfold State.writeShadow
  rw [if_pos hu]
  exact rfl

theorem State.pairOff_hostUp (s : State) (q : Nat) : (s.pairOff q).hostUp = s.hostUp := by
  unfold State.pairOff
  rw [State.put_hostUp _ (RNG.en q) _ ⟨show RNG.q q + 0x14 ≠ 0x30844 by unfold RNG.q; omega,
      show RNG.q q + 0x14 ≠ 0x30844 by unfold RNG.q; omega⟩,
    State.put_hostUp _ (RNG.state q) _ ⟨show RNG.q q + 0x1C ≠ 0x30844 by unfold RNG.q; omega,
      show RNG.q q + 0x1C ≠ 0x30844 by unfold RNG.q; omega⟩]

/-- What a pair that drains becomes: it is DISABLED at once with nothing in flight and a link that can carry its shadow. -/
theorem State.ringDrains_settle (s : State) (q : Nat) :
    ((s.ringDrains q).ringSettle q).on (RNG.en q) = false ∧
    ((s.ringDrains q).ringSettle q).get (RNG.state q) = (if (s.ring q).flights = [] ∧ s.hostUp = true then 0 else 2) ∧
    SameButMessages s ((s.ringDrains q).ringSettle q) ∧
    ∀ a, a ∉ [RNG.q q + 0x14, RNG.q q + 0x1C] → ((s.ringDrains q).ringSettle q).reg a = s.reg a := by
  by_cases h : (s.ring q).flights = [] ∧ s.hostUp = true
  · have hup : (s.ringDrains q).hostUp = true := (s.ringDrains_hostUp q).trans h.2
    have hset : (s.ringDrains q).ringSettle q = ((s.ringDrains q).pairOff q).writeShadow q :=
      State.ringSettle_draining (s.ringDrains_state q) h.1 hup
    obtain ⟨hstate, hen⟩ := (s.ringDrains q).pairOff_off q
    rw [hset, if_pos h]
    refine ⟨?_, ?_, ?_, fun a ha => ?_⟩
    · rw [State.writeShadow_on]
      exact hen
    · rw [State.writeShadow_get]
      exact hstate
    · refine .writeShadow (.put (.put (.put (.put (.refl s) ..) ..) ..) ..) ?_ q
      exact (State.pairOff_hostUp ..).trans hup
    · rw [State.writeShadow_reg, State.pairOff_reg _ _ ha]
      exact s.reg_put_pair q _ _ ha
  · rw [State.ringSettle_waits (s := s.ringDrains q) (by rw [s.ringDrains_hostUp]; exact h), if_neg h]
    refine ⟨?_, s.ringDrains_state q, .put (.put (.refl s) ..) .., fun a ha => s.reg_put_pair q _ _ ha⟩
    unfold State.ringDrains
    rw [State.en_put_state]
    exact State.on_put_zero _ _ (show 0 + 1 ≤ 32 by decide)

/-! ### The end of a reset of the ring engine -/

theorem each_nil_of_idle (s : State) (l : List (Nat × Ring)) (h : ∀ r ∈ l, r.2.flights = []) (f : Nat → Flight → State → State) :
    s.each l (fun r t => t.each r.2.flights (f r.1)) = s := by
  induction l with
  | nil => rfl
  | cons r l ih =>
    show State.each (State.each s r.2.flights (f r.1)) l _ = s
    rw [h r List.mem_cons_self]
    exact ih fun x hx => h x (List.mem_cons_of_mem _ hx)

theorem State.resetTimeout_of (hr : s.ringReset = true) (h : ∀ r ∈ s.rings, r.2.flights = []) :
    s.resetTimeout = ((s.jobsRun).settlePower).resetSettle := by
  unfold State.resetTimeout
  rw [if_pos hr]
  extract_lets t u
  have ht : t = s := each_nil_of_idle s s.rings h fun q f u => u.resetFlight q f
  have hu : u = s := by
    unfold u
    rw [ht]
    exact each_nil_of_idle s s.rings h fun q f u => if f.stage = Stage.answered then u.finishFlight q f else u
  rw [hu]

/-- A pair whose two fields say that it is off. -/
def State.isOff (s : State) (q : Nat) : Prop := s.get (RNG.state q) = 0 ∧ s.on (RNG.en q) = false

theorem State.isOff_of_reg {q : Nat} (h : s.isOff q) (hc : t.reg (RNG.q q + 0x14) = s.reg (RNG.q q + 0x14))
    (hs : t.reg (RNG.q q + 0x1C) = s.reg (RNG.q q + 0x1C)) : t.isOff q := by
  obtain ⟨hstate, hen⟩ := h
  refine ⟨(congrArg (fun w : Word => bitsOf w.toNat 0 3) hs).trans hstate, ?_⟩
  exact (congrArg (fun w : Word => decide (bitsOf w.toNat 0 1 ≠ 0)) hc).trans hen

theorem State.isOff_pairOff (s : State) {p q : Nat} (h : p = q ∨ s.isOff q) : (s.pairOff p).isOff q := by
  by_cases hpq : p = q
  · subst hpq
    exact s.pairOff_off p
  · refine State.isOff_of_reg (h.resolve_left hpq) (s.pairOff_reg p ?_) (s.pairOff_reg p ?_) <;>
      (simp only [RNG.q, List.mem_cons, List.not_mem_nil, or_false]; omega)

theorem State.pairsOff_off (s : State) (l : List Nat) {q : Nat} (h : q ∈ l ∨ s.isOff q) :
    (s.each l (fun p t => t.pairOff p)).isOff q := by
  induction l generalizing s with
  | nil => exact h.resolve_left List.not_mem_nil
  | cons p l ih =>
    refine ih (s.pairOff p) ?_
    rcases h with h | h
    · exact (List.mem_cons.mp h).symm.imp_right fun hp => s.isOff_pairOff (.inl hp.symm)
    · exact .inr (s.isOff_pairOff (.inr h))

/-- The summary of an event group touches no ring pair. -/
theorem State.msix_reg (s : State) (v : Nat) {a : Nat} (h : a < 0x38000) : (s.msix v).reg a = s.reg a := by
  unfold State.msix
  split
  · split
    · exact State.reg_put_ne _ _ _ (show a ≠ 0x39000 + 4 * (v / 32) by omega)
    · rfl
  · rfl

theorem State.evSummary_reg (s : State) (n : Nat) {a : Nat} (h : a < 0x38000) (hne : a ≠ 0x30840) :
    (s.evSummary n).reg a = s.reg a := by
  unfold State.evSummary
  split
  · rfl
  · rw [← State.reg_put_ne s (RNG.sum n) 1 (show a ≠ 0x30840 from hne)]
    unfold State.when
    split
    · exact State.msix_reg _ _ h
    · rfl

theorem State.msix_same (s : State) (v : Nat) : SameButMessages s (s.msix v) := by
  unfold State.msix
  split
  · split
    · exact rfl
    · exact rfl
  · exact rfl

theorem State.evSummary_same (s : State) (n : Nat) : SameButMessages s (s.evSummary n) := by
  unfold State.evSummary
  split
  · exact .refl s
  · refine SameButMessages.trans (t := s.put (RNG.sum n) 1) rfl ?_
    unfold State.when
    split
    · exact State.msix_same ..
    · exact .refl _

theorem State.pendingSummaries_each (P : State → Prop) (hP : ∀ u n, P u → P (u.evSummary n)) (s : State) (h : P s) :
    P s.pendingSummaries := by
  unfold State.pendingSummaries
  have hall (l : List Nat) (u : State) (hu : P u) : P (u.each l (fun a t =>
      match evGroup a with
      | some n => if (t.reg a) &&& (t.reg (a + 4)) = 0 then t else t.evSummary n
      | none => t)) := by
    induction l generalizing u with
    | nil => exact hu
    | cons a l ih =>
      refine ih _ ?_
      show P (match evGroup a with
        | some n => if (u.reg a) &&& (u.reg (a + 4)) = 0 then u else u.evSummary n
        | none => u)
      split
      · split
        · exact hu
        · exact hP u _ hu
      · exact hu
  exact hall eventRegs s h

/-- The end of a reset: it is over, and no page is set. -/
def State.resetOver (s : State) : State := { s with ringReset := false, pages := 0 }

theorem State.resetOver_ringReset (s : State) : s.resetOver.ringReset = false := rfl
theorem State.resetOver_pages (s : State) : s.resetOver.pages = 0 := rfl
theorem State.resetOver_reg (s : State) (a : Nat) : s.resetOver.reg a = s.reg a := rfl

theorem SameButMessages.ringReset (h : SameButMessages s t) : t.ringReset = s.ringReset := by
  rw [h]

theorem SameButMessages.pages (h : SameButMessages s t) : t.pages = s.pages := by
  rw [h]

/-- The pages of the ring engine, at their reset values. -/
def State.pagesOff (s : State) : State :=
  s.each [RNG.idxPage 0, RNG.idxPage 1, RNG.shdPage 0, RNG.shdPage 1] (fun a t => t.setReg a 0)

theorem State.pagesOff_reg (s : State) {a : Nat} (h : 0x31000 ≤ a) : s.pagesOff.reg a = s.reg a := by
  show ((((s.setReg 0x30000 0).setReg 0x30004 0).setReg 0x30008 0).setReg 0x3000C 0).reg a = _
  rw [State.reg_setReg_ne _ _ (by omega), State.reg_setReg_ne _ _ (by omega), State.reg_setReg_ne _ _ (by omega),
    State.reg_setReg_ne _ _ (by omega)]

theorem State.resetSettle_of (hr : s.ringReset = true) (h : ∀ r ∈ s.rings, r.2.flights = []) :
    s.resetSettle = (((s.each (List.range 64) (fun q t => t.pairOff q)).pagesOff).resetOver).pendingSummaries := by
  have hall : s.rings.all (fun r => r.2.flights.isEmpty) = true :=
    List.all_eq_true.mpr fun r hm => List.isEmpty_iff.mpr (h r hm)
  unfold State.resetSettle
  rw [if_pos (by rw [hr, hall]; rfl)]
  unfold State.pagesOff State.resetOver State.pairOff
  with_reducible rfl

theorem State.resetSettle_off (hr : s.ringReset = true) (h : ∀ r ∈ s.rings, r.2.flights = []) :
    s.resetSettle.ringReset = false ∧ s.resetSettle.pages = 0 ∧ ∀ q, q < 64 → s.resetSettle.isOff q := by
  rw [State.resetSettle_of hr h]
  refine ⟨?_, ?_, fun q hq => ?_⟩
  · exact State.pendingSummaries_each (fun u => u.ringReset = false) (fun u n hu => (u.evSummary_same n).ringReset.trans hu) _
      (State.resetOver_ringReset _)
  · exact State.pendingSummaries_each (fun u => u.pages = 0) (fun u n hu => (u.evSummary_same n).pages.trans hu) _
      (State.resetOver_pages _)
  · refine State.pendingSummaries_each (fun u => u.isOff q) (fun u n hu => ?_) _ ?_
    · exact State.isOff_of_reg hu (u.evSummary_reg n (by unfold RNG.q; omega) (by unfold RNG.q; omega))
        (u.evSummary_reg n (by unfold RNG.q; omega) (by unfold RNG.q; omega))
    · have hoff := s.pairsOff_off (List.range 64) (.inl (List.mem_range.mpr hq))
      generalize s.each (List.range 64) (fun q t => t.pairOff q) = u at hoff
      refine State.isOff_of_reg hoff ?_ ?_
      · rw [State.resetOver_reg]
        exact u.pagesOff_reg (by unfold RNG.q; omega)
      · rw [State.resetOver_reg]
        exact u.pagesOff_reg (by unfold RNG.q; omega)

/-! ### Event groups and messages -/

theorem Framed.msix {m : State → State} {l : List Nat} (h : Framed m l s t) {v : Nat} (hv : v < 64) : Framed m l s (t.msix v) := by
  unfold State.msix
  split
  · split
    · exact h.put _ (.inl (show (0x39000 + 4 * (v / 32)) / 0x10000 = 3 by omega))
    · exact h.emit _
  · exact h

/-- The control of an event group, written as EVGRP_ENABLE does. -/
def grpWord (v : BitVec 6) : Word := BitVec.ofNat 32 (v.toNat + 256) &&& 0x13F#32

theorem grpWord_toNat (v : BitVec 6) : (grpWord v).toNat = v.toNat + 256 := by
  revert v
  decide

theorem State.evgrpWrite_of (s : State) (n : Nat) (v : BitVec 6) :
    s.evgrpWrite n (BitVec.ofNat 32 (v.toNat + 256)) = (s.setReg (RNG.evgrp n) (grpWord v)).when
      (!s.on (RNG.grpEn n) && (s.setReg (RNG.evgrp n) (grpWord v)).on (RNG.grpEn n) && (s.setReg (RNG.evgrp n) (grpWord v)).on (RNG.sum n))
      (fun t => t.msix (t.get (RNG.grpVector n))) := rfl

theorem State.grpSet_get (s : State) (n : Nat) (v : BitVec 6) :
    (s.setReg (RNG.evgrp n) (grpWord v)).get (RNG.grpVector n) = v.toNat ∧ (s.setReg (RNG.evgrp n) (grpWord v)).on (RNG.grpEn n) = true := by
  have hv := v.isLt
  have hvec : (s.setReg (RNG.evgrp n) (grpWord v)).get (RNG.grpVector n) = bitsOf (grpWord v).toNat 0 6 :=
    s.get_setReg_same (RNG.grpVector n) _
  have hen : (s.setReg (RNG.evgrp n) (grpWord v)).get (RNG.grpEn n) = bitsOf (grpWord v).toNat 8 1 :=
    s.get_setReg_same (RNG.grpEn n) _
  refine ⟨?_, ?_⟩
  · rw [hvec, grpWord_toNat]
    unfold bitsOf
    omega
  · unfold State.on
    rw [hen, grpWord_toNat]
    unfold bitsOf
    exact decide_eq_true (by omega)

theorem State.evgrpWrite_fields (s : State) {n : Nat} (hn : n < 13) (v : BitVec 6) :
    (s.evgrpWrite n (BitVec.ofNat 32 (v.toNat + 256))).get (RNG.grpVector n) = v.toNat ∧
    (s.evgrpWrite n (BitVec.ofNat 32 (v.toNat + 256))).on (RNG.grpEn n) = true := by
  rw [State.evgrpWrite_of]
  unfold State.when
  split
  · have hreg (x : State) (w : Nat) : (x.msix w).reg (RNG.evgrp n) = x.reg (RNG.evgrp n) :=
      x.msix_reg w (show 0x30800 + 4 * n < 0x38000 by omega)
    obtain ⟨hvec, hen⟩ := s.grpSet_get n v
    generalize s.setReg (RNG.evgrp n) (grpWord v) = x at hvec hen
    exact ⟨(congrArg (fun w : Word => bitsOf w.toNat 0 6) (hreg ..)).trans hvec,
      (congrArg (fun w : Word => decide (bitsOf w.toNat 8 1 ≠ 0)) (hreg ..)).trans hen⟩
  · exact s.grpSet_get n v

theorem State.evgrpWrite_quiet (s : State) {n : Nat} (hn : n < 13) (v : BitVec 6) (h : s.on (RNG.sum n) = false) :
    s.evgrpWrite n (BitVec.ofNat 32 (v.toNat + 256)) = s.setReg (RNG.evgrp n) (grpWord v) := by
  have hsum : (s.setReg (RNG.evgrp n) (grpWord v)).on (RNG.sum n) = false := by
    unfold State.on
    rw [State.get_setReg_ne (a := RNG.evgrp n) s (RNG.sum n) _ (show 0x30840 ≠ 0x30800 + 4 * n by omega)]
    exact h
  rw [State.evgrpWrite_of, hsum, Bool.and_false]
  rfl

theorem Framed.evgrpWrite (s : State) {n : Nat} (hn : n < 13) (v : BitVec 6) :
    Framed id [] s (s.evgrpWrite n (BitVec.ofNat 32 (v.toNat + 256))) := by
  rw [State.evgrpWrite_of]
  have hset : Framed id [] s (s.setReg (RNG.evgrp n) (grpWord v)) :=
    .setReg (.refl ..) _ (.inl (show (0x30800 + 4 * n) / 0x10000 = 3 by omega))
  unfold State.when
  split
  · exact hset.msix (State.get_lt _ (RNG.grpVector n))
  · exact hset

theorem State.ringEnable_get {q : Nat} (h0 : s.get (RNG.state q) = 0) (hok : s.enableRingOk q = true) (f : Fld) :
    (s.ringEnable q).get f = (s.ringBegun q).get f := by
  rw [State.ringEnable_of h0 hok, State.writeShadow_get]
  unfold State.ringBegin
  rw [State.updRing_get]

theorem State.ringEnable_flights {q : Nat} (h0 : s.get (RNG.state q) = 0) (hok : s.enableRingOk q = true) :
    ((s.ringEnable q).ring q).flights = [] := by
  rw [State.ringEnable_of h0 hok, State.writeShadow_flights]
  unfold State.ringBegin
  rw [State.updRing_ring_same]
  rfl

theorem State.ringEnable_reg {q a : Nat} (h0 : s.get (RNG.state q) = 0) (hok : s.enableRingOk q = true)
    (ha : a ∉ [RNG.q q + 0x14, RNG.q q + 0x1C, RNG.q q + 0x20, RNG.q q + 0x24, RNG.q q + 0x28]) :
    (s.ringEnable q).reg a = s.reg a := by
  rw [State.ringEnable_of h0 hok, State.writeShadow_reg]
  unfold State.ringBegin
  rw [State.updRing_reg]
  exact s.ringBegun_reg q ha

/-- A pair whose setup is refused. -/
def State.ringRefused (s : State) (q : Nat) : State := (s.put (RNG.en q) 0).put (RNG.cfgErr q) 1

theorem State.ringRefused_fields (s : State) (q : Nat) : (s.ringRefused q).get (RNG.state q) = s.get (RNG.state q) ∧
    (s.ringRefused q).on (RNG.en q) = false ∧ (s.ringRefused q).on (RNG.cfgErr q) = true := by
  unfold State.ringRefused
  refine ⟨?_, ?_, State.on_put_one _ _ (show 3 + 1 ≤ 32 by decide) (show 0 < 1 by decide)⟩
  · rw [State.get_put_apart (f := RNG.cfgErr q) _ _ (show 0 + 3 ≤ 32 by decide) (.inr (.inl (show 0 + 3 ≤ 3 by decide))),
      State.state_put_en]
  · rw [State.on_put_apart (f := RNG.cfgErr q) _ _ (show 0 + 1 ≤ 32 by decide) (.inl (show RNG.q q + 0x14 ≠ RNG.q q + 0x1C by omega))]
    exact State.on_put_zero _ _ (show 0 + 1 ≤ 32 by decide)

theorem State.ringRefused_reg (s : State) (q : Nat) {a : Nat} (h : a ∉ [RNG.q q + 0x14, RNG.q q + 0x1C]) :
    (s.ringRefused q).reg a = s.reg a := by
  simp only [List.mem_cons, List.not_mem_nil, or_false, not_or] at h
  obtain ⟨hctrl, hstat⟩ := h
  unfold State.ringRefused
  rw [State.reg_put_ne _ (RNG.cfgErr q) _ hstat, State.reg_put_ne _ (RNG.en q) _ hctrl]

theorem evRegOf_block (r : EvReg) : evRegOf r / 0x10000 ≠ 3 := by
  cases r with
  | lrx sd p => exact LRX.base_block _ 8
  | ltx sd p => exact LTX.base_block _ 8
  | dir e => exact DIR.event_block _
  | _ => decide

/-- Settles O31: the shadow write touches no register, and a message or a summary no ring pair. -/
theorem ringsEventsAndMessages : Obligations.RingsEventsAndMessages := by
  refine ⟨fun s q hw h0 hok => ?_, fun s q hw h0 hok => ?_, fun s q hw h1 => ?_, fun s q hw h4 => ?_,
    fun s hr h => congrArg Host.Outcome.next (State.resetTimeout_of hr h), fun s => State.resetSettle_off,
    fun s n v hw => ?_, fun s q => ?_, fun s r b hb => ?_, fun s r b hb => ?_,
    fun s q hw h0 => congrArg Host.Outcome.next ((State.soft_on hw _).trans (State.ringEnable_busy h0)),
    fun s q hw h1 h4 => congrArg Host.Outcome.next ((State.soft_on hw _).trans (State.ringDisable_other h1 h4)),
    fun s q n v hw hg => ⟨congrArg Host.Outcome.next (State.soft_off hw _), congrArg Host.Outcome.next (State.soft_off hw _),
      congrArg Host.Outcome.next (State.soft_off hg _)⟩,
    fun s h => congrArg Host.Outcome.next (if_neg (by rw [h]; decide))⟩
  · obtain ⟨hstate, hen, herr, hcons, hcdone, htail⟩ := s.ringBegun_fields q
    have hget (f : Fld) : (s.ringEnable q).get f = (s.ringBegun q).get f := State.ringEnable_get h0 hok f
    have hon (f : Fld) : (s.ringEnable q).on f = (s.ringBegun q).on f := congrArg (fun n : Nat => decide (n ≠ 0)) (hget f)
    refine ⟨_, congrArg Host.Outcome.next (State.soft_on hw _), (hget _).trans hstate, ?_, ?_, (hget _).trans hcons,
      (hget _).trans hcdone, (hget _).trans htail, State.ringEnable_flights h0 hok, SameButRings.ringEnable h0 hok, fun a ha => State.ringEnable_reg h0 hok ha⟩
    · rw [hon, State.on, hen]
      rfl
    · rw [hon, State.on, herr]
      rfl
  · obtain ⟨hstate, hen, herr⟩ := s.ringRefused_fields q
    exact ⟨s.ringRefused q, congrArg Host.Outcome.next ((State.soft_on hw _).trans (State.ringEnable_refused h0 hok)), hstate.trans h0,
      hen, herr, rfl, fun a => s.ringRefused_reg q⟩
  · obtain ⟨hen, hstate, hsame, hreg⟩ := s.ringDrains_settle q
    exact ⟨_, congrArg Host.Outcome.next ((State.soft_on hw _).trans (State.ringDisable_running h1)), hen, hstate, hsame, hreg⟩
  · refine ⟨_, congrArg Host.Outcome.next ((State.soft_on hw _).trans (State.ringDisable_halted h4)), ?_, ?_, rfl⟩
    · rw [State.en_put_state]
      exact State.on_put_zero _ _ (show 0 + 1 ≤ 32 by decide)
    · rw [State.get_put_same _ (RNG.state q) _ (show 0 + 3 ≤ 32 by decide), Nat.zero_mod]
  · obtain ⟨hvec, hen⟩ := s.evgrpWrite_fields n.isLt v
    refine ⟨_, congrArg Host.Outcome.next (State.soft_on hw _), hvec, hen, fun hs a ha => ?_, fun hs => ?_, .evgrpWrite s n.isLt v⟩
    · rw [s.evgrpWrite_quiet n.isLt v hs]
      exact State.reg_setReg_ne _ _ ha
    · rw [s.evgrpWrite_quiet n.isLt v hs]
      rfl
  · refine ⟨_, rfl, ?_⟩
    unfold State.coalesceEnd
    cases hp : (s.ring q).msgPend with
    | true =>
      rw [if_pos rfl]
      refine ⟨fun _ => ?_, fun h => absurd h (by decide), fun h => absurd h (by decide),
        ((Framed.refl id [] s).msix (s.get_lt (RNG.vector q))).updRing ..⟩
      rw [State.updRing_ring_same]
    | false =>
      rw [if_neg (by decide)]
      refine ⟨fun h => absurd h (by decide), fun _ => ?_, fun _ => rfl, (Framed.refl id [] s).updRing ..⟩
      rw [State.updRing_ring_same]
  · refine ⟨_, congrArg Host.Outcome.next (State.when_true _ (decide_eq_true hb)), ?_, (Framed.refl id _ s).raise b List.mem_cons_self⟩
    exact State.raise_bit _ _ (evRegOf_block r) (by omega)
  · exact congrArg Host.Outcome.next (State.when_false _ (decide_eq_false (by omega)))

end Sys2Proof.Machine
end
